-- ==== Sys2Proof/Word.lean ====
section
/-! DEFINITION. The word types of the device: registers and scalar values are 32 bits wide (R5), memory is addressed in bytes, device addresses are 48 bits wide. -/

namespace Sys2Proof

/-- A register or scalar value (R5). -/
abbrev Word := BitVec 32

/-- One byte of a memory. -/
abbrev Byte := BitVec 8

/-- A 64-bit quantity, such as a register pair (R6). -/
abbrev DWord := BitVec 64

end Sys2Proof
end

