-- ==== Sys2Proof/Syntax.lean ====
section
/-! DEFINITION. The commands the device takes from outside: one constructor per row of the opcode table, with the row's operands. A slot of a bundle is one command on its core; `more` says that a later slot of the same bundle follows. -/

namespace Sys2Proof

/-- Who makes a register access: a function of the endpoint (R440), a core through a core window (R202), the Hinge (R484), the debug port (R524),
or the host in the configuration space of a function, where the offset names the field (R438, R443, R461; log entry 61). -/
inductive Who where
  | pf0
  | client (c : Fin 32)
  | core (k : Fin 512)
  | hinge
  | debug
  | config (f : Fin 33)
  deriving DecidableEq, Repr

/-- The bundle a slot command belongs to: its logical core, and whether a later slot of the same bundle follows (R37). -/
structure Bun where
  core : Fin 512
  more : Bool
  deriving DecidableEq, Repr

/-- The second source of the vector operations with a scalar form: a vector, or one s register for every lane (R115). -/
inductive VSrc where
  | vec (r : Fin 32)
  | scal (r : Fin 32)
  deriving DecidableEq, Repr

/-- The governing fields M and Z of a V-slot operation (R50). -/
structure VM where
  m : Fin 8
  z : Bool
  deriving DecidableEq, Repr

/-- The VIMM fields of REQ (R134). -/
structure ReqF where
  shift : Fin 32
  src : Fin 4
  out : Fin 4
  stat : Bool
  deriving DecidableEq, Repr

/-- What a plan leaves for one row of a completed batch: its result bytes, and the token it generated (R286, R458). -/
structure ResRow where
  payload : List Byte
  token : Option Word
  deriving DecidableEq, Repr

/-- A read of host memory that is outstanding (R444): a unit of a transfer, or the copy of a stream ring. -/
inductive HostRd where
  | unit (k : Fin 512) (x i : Nat)
  | ring (c : Fin 32) (r : Fin 64)
  deriving DecidableEq, Repr

/-- A picture whose last byte is in its camera's bitstream ring (R363, R365): the camera, its bytes, whether it is an IDR or IRAP picture, and
what its parameter sets say: whether they lie in R362's table, the codec, the size, the depth, the frame slots its picture buffer needs; `order` is how
many pictures that the decoder has still to recognise come before it in output order (R367). -/
structure Pic where
  cam : Fin 64
  len : Nat
  rap : Bool
  listed : Bool
  codec : Fin 2
  width : Nat
  height : Nat
  ten : Bool
  dpb : Nat
  order : Fin 20
  deriving DecidableEq, Repr

/-- How a picture's decoding ended (R366, R367): its bytes for a frame slot, with the slots that it takes out of the references and whether it is a
reference itself; a bitstream error; or an uncorrectable error. -/
inductive Decoded where
  | frame (slot : Fin 20) (drops : List (Fin 20)) (ref : Bool) (bytes : List Byte)
  | error
  | ecc
  deriving DecidableEq, Repr

/-- The sequence, acknowledgement and credit fields of a received Maelqua frame (R383), and the symbols that the FEC corrected since the frame before
it (R377). -/
structure Hdr where
  ackV : Bool
  nak : Bool
  credV : Bool
  seq : BitVec 16
  ack : BitVec 16
  cred : BitVec 16
  corr : Nat
  deriving DecidableEq, Repr

/-- A copied PAIR word of a MIRROR frame (R414). -/
structure PairItem where
  cl : Fin 32
  word : Fin 4096
  val : Word
  deriving DecidableEq, Repr

/-- A MIRROR frame, of a listed KIND or of none of them (R414). -/
inductive MirFrame where
  | heartbeat (role : Fin 4) (alive : Bool) (count : Word)
  | ctxData (restore : Bool) (i : Fin 1024) (step : Word) (off : Nat) (bytes : List Byte)
  | ctxEnd (i : Fin 1024) (step : Word) (total : Nat)
  | ack (items : List (Fin 1024 × Word))
  | pairWord (items : List PairItem)
  | restoreReq (i : Fin 1024)
  | relinquish (ids : List (Fin 1024))
  | adoptedList (ids : List (Fin 1024))
  | unlisted
  deriving DecidableEq, Repr

/-- What a start finds (R470, R474, R478, R533): bit n of `ok` is whether the work of BSn succeeds where the flash does not decide it, bit 15 whether BS04
reads the other slot within its 40 ms; `torn` and `idOk`
tell of the step log and the identity region; the side bits tell of PLL lock, training from saved values, fresh training and the mesh test; `mv0` and
`mv1` are the VDD_CORE voltages measured at BS07, in mV; `speed`, `lanes` (log2) and `flit` what the link trained to; `upTo` is the step left
running, 15 for none, with `done` the sides of a per-side one that have ended and `blown` the fuse bits that BS14 has blown; `ticks` is the time at which
BS14 ends. -/
structure BootFacts where
  ok : BitVec 16
  torn : Bool
  idOk : Bool
  pll : BitVec 2
  saved : BitVec 2
  fresh : BitVec 2
  mesh : BitVec 2
  mv0 : Nat
  mv1 : Nat
  speed : Fin 7
  lanes : Fin 4
  flit : Bool
  upTo : Fin 16
  done : BitVec 2
  blown : Nat
  ticks : Nat
  deriving DecidableEq, Repr

/-- An entry of a price block (R429): item code, unit price, mode, and the preset tare in grams. -/
structure PriceRow where
  item : Word
  price : Word
  per100 : Bool
  preset : Option Nat
  deriving DecidableEq, Repr

/-- The keys of KEY_SET (R435). -/
inductive BoltKey where
  | indicator
  | price
  | link
  deriving DecidableEq, Repr

/-- One side-clock cycle of a matrix unit: the weight tiles its feeders read in it where nothing denies them, whether the panel reader reads a line ahead, and
whether the cycle is that of the core's latest bundle (R98, R101, R102, R179). -/
structure MuCyc where
  fetch : Fin 5
  panel : Bool
  meet : Bool
  deriving DecidableEq, Repr

/-- The instructions of the debug port (R524). -/
inductive Tap where
  | bypass
  | idcode
  | sample
  | extest
  | debugRead (off : Nat)
  | debugWrite (off : Nat) (val : Word)
  deriving DecidableEq, Repr

/-- The commands. -/
inductive Instr where
  /-- REGISTER_WRITE: A write to a register that has no row of its own takes effect per field access codes, lock and power state (R9). -/
  | registerWrite (who : Who) (off : Nat) (val : Word) (w : Fin 3)
  /-- SHADOW_LOW_READ: A read of the low half of a 64-bit pair copies the high half into the reading function's shadow (R6). -/
  | shadowLowRead (who : Who) (off : Nat) (w : Fin 3)
  /-- RC_FIELD_READ: A read of a register with an RC field returns the value and clears the field (R11). -/
  | rcFieldRead (who : Who) (off : Nat) (w : Fin 3)
  /-- ENABLE_TAKES_EFFECT: An enable or operation written to an always-on block takes effect once the Sill has opened its domain (R35). -/
  | enableTakesEffect (off : Nat)
  /-- SIDE_RESET: On host command the Hinge resets a contained side, zeroing its stack and lifting containment (R21). -/
  | sideReset (side : Fin 2)
  /-- SNOP: Scalar no-operation (R43). -/
  | snop (b : Bun)
  /-- ADD: RD gets RA plus RB, wrapping (R43). -/
  | add (b : Bun) (rd : Fin 32) (ra : Fin 32) (rb : Fin 32)
  /-- SUB: RD gets RA minus RB, wrapping (R43). -/
  | sub (b : Bun) (rd : Fin 32) (ra : Fin 32) (rb : Fin 32)
  /-- AND: RD gets RA and RB (R43). -/
  | and (b : Bun) (rd : Fin 32) (ra : Fin 32) (rb : Fin 32)
  /-- OR: RD gets RA or RB (R43). -/
  | or (b : Bun) (rd : Fin 32) (ra : Fin 32) (rb : Fin 32)
  /-- XOR: RD gets RA xor RB (R43). -/
  | xor (b : Bun) (rd : Fin 32) (ra : Fin 32) (rb : Fin 32)
  /-- SLL: RD gets RA shifted left by RB[4:0] (R44). -/
  | sll (b : Bun) (rd : Fin 32) (ra : Fin 32) (rb : Fin 32)
  /-- SRL: RD gets RA shifted right logically by RB[4:0] (R44). -/
  | srl (b : Bun) (rd : Fin 32) (ra : Fin 32) (rb : Fin 32)
  /-- SRA: RD gets RA shifted right arithmetically, rounding toward minus infinity (R143). -/
  | sra (b : Bun) (rd : Fin 32) (ra : Fin 32) (rb : Fin 32)
  /-- SLT: RD gets 1 when RA is less than RB signed (R43). -/
  | slt (b : Bun) (rd : Fin 32) (ra : Fin 32) (rb : Fin 32)
  /-- SLTU: RD gets 1 when RA is less than RB unsigned (R43). -/
  | sltu (b : Bun) (rd : Fin 32) (ra : Fin 32) (rb : Fin 32)
  /-- MIN: RD gets the signed minimum of RA and RB (R43). -/
  | min (b : Bun) (rd : Fin 32) (ra : Fin 32) (rb : Fin 32)
  /-- MAX: RD gets the signed maximum of RA and RB (R43). -/
  | max (b : Bun) (rd : Fin 32) (ra : Fin 32) (rb : Fin 32)
  /-- MUL: RD gets the low word of RA times RB (R43). -/
  | mul (b : Bun) (rd : Fin 32) (ra : Fin 32) (rb : Fin 32)
  /-- MULH: RD gets the signed high word of RA times RB (R43). -/
  | mulh (b : Bun) (rd : Fin 32) (ra : Fin 32) (rb : Fin 32)
  /-- ADDI: RD gets RA plus sign-extended IMM16 (R44). -/
  | addi (b : Bun) (rd : Fin 32) (ra : Fin 32) (imm : BitVec 16)
  /-- ANDI: RD gets RA and zero-extended IMM16 (R44). -/
  | andi (b : Bun) (rd : Fin 32) (ra : Fin 32) (imm : BitVec 16)
  /-- ORI: RD gets RA or zero-extended IMM16 (R44). -/
  | ori (b : Bun) (rd : Fin 32) (ra : Fin 32) (imm : BitVec 16)
  /-- XORI: RD gets RA xor zero-extended IMM16 (R44). -/
  | xori (b : Bun) (rd : Fin 32) (ra : Fin 32) (imm : BitVec 16)
  /-- SLLI: RD gets RA shifted left by IMM16[4:0] (R44). -/
  | slli (b : Bun) (rd : Fin 32) (ra : Fin 32) (imm : BitVec 16)
  /-- SRLI: RD gets RA shifted right logically by IMM16[4:0] (R44). -/
  | srli (b : Bun) (rd : Fin 32) (ra : Fin 32) (imm : BitVec 16)
  /-- SRAI: RD gets RA shifted right arithmetically by IMM16[4:0] (R143). -/
  | srai (b : Bun) (rd : Fin 32) (ra : Fin 32) (imm : BitVec 16)
  /-- SLTI: RD gets 1 when RA is less than sign-extended IMM16 (R44). -/
  | slti (b : Bun) (rd : Fin 32) (ra : Fin 32) (imm : BitVec 16)
  /-- LUI: RD gets IMM21 shifted left by 11 (R43). -/
  | lui (b : Bun) (rd : Fin 32) (imm : BitVec 21)
  /-- LDW: RD gets 4 B from a local address, seeing gather-buffer data (R45). -/
  | ldw (b : Bun) (rd : Fin 32) (ra : Fin 32) (imm : BitVec 16)
  /-- STW: 4 B of RD are stored through the gather buffer at a local address (R45). -/
  | stw (b : Bun) (rd : Fin 32) (ra : Fin 32) (imm : BitVec 16)
  /-- RDCR: RD gets a basic register of the core's own block (R46). -/
  | rdcr (b : Bun) (rd : Fin 32) (imm : BitVec 16)
  /-- RDCYC: RD gets CYCLE_LO and CYCLE_HI is copied into the cycle shadow (R43). -/
  | rdcyc (b : Bun) (rd : Fin 32)
  /-- RDCYCH: RD gets the cycle shadow (R43). -/
  | rdcych (b : Bun) (rd : Fin 32)
  /-- BEQ: Branch when RA equals RB (R47). -/
  | beq (b : Bun) (ra : Fin 32) (rb : Fin 32) (off : BitVec 16)
  /-- BNE: Branch when RA differs from RB (R47). -/
  | bne (b : Bun) (ra : Fin 32) (rb : Fin 32) (off : BitVec 16)
  /-- BLT: Branch when RA is less than RB signed (R47). -/
  | blt (b : Bun) (ra : Fin 32) (rb : Fin 32) (off : BitVec 16)
  /-- BGE: Branch when RA is at least RB signed (R47). -/
  | bge (b : Bun) (ra : Fin 32) (rb : Fin 32) (off : BitVec 16)
  /-- BLTU: Branch when RA is less than RB unsigned (R47). -/
  | bltu (b : Bun) (ra : Fin 32) (rb : Fin 32) (off : BitVec 16)
  /-- BGEU: Branch when RA is at least RB unsigned (R47). -/
  | bgeu (b : Bun) (ra : Fin 32) (rb : Fin 32) (off : BitVec 16)
  /-- JMP: Branch always (R47). -/
  | jmp (b : Bun) (off : BitVec 16)
  /-- RECV: Takes the oldest mailbox message into AM and its source word into RD, or reports empty with NW (R64). -/
  | recv (b : Bun) (rd : Fin 32) (nw : Bool)
  /-- RACQ: Acquires a produce or consume slot of a ring, or reports status with NW (R215). -/
  | racq (b : Bun) (rd : Fin 32) (ring : Fin 16) (dir : Bool) (nw : Bool)
  /-- RREL: Releases the oldest held slot of a ring, returning credits when bound (R215). -/
  | rrel (b : Bun) (ring : Fin 16) (dir : Bool)
  /-- QWAIT: Waits until the named queues are empty and complete, fencing the gather buffer (R60). -/
  | qwait (b : Bun) (mask : BitVec 4)
  /-- PPT: Preemption point: checks holds and is taken when a preemption request is pending (R68). -/
  | ppt (b : Bun) (entry : Fin 1024)
  /-- TRAP: Stops the core with cause TRAP and a code (R73). -/
  | trap (b : Bun) (code : BitVec 16)
  /-- END: Finishes the batch: waits as QWAIT 0b1111, then parks the core (R71). -/
  | endBatch (b : Bun)
  /-- VNOP: Vector no-operation (R50). -/
  | vnop (b : Bun)
  /-- VADD: Lane-wise wrapping add (R115). -/
  | vadd (b : Bun) (g : VM) (vd : Fin 32) (va : Fin 32) (vb : VSrc)
  /-- VSUB: Lane-wise wrapping subtract (R115). -/
  | vsub (b : Bun) (g : VM) (vd : Fin 32) (va : Fin 32) (vb : VSrc)
  /-- VADDS: Lane-wise saturating add (R116). -/
  | vadds (b : Bun) (g : VM) (vd : Fin 32) (va : Fin 32) (vb : VSrc)
  /-- VSUBS: Lane-wise saturating subtract (R116). -/
  | vsubs (b : Bun) (g : VM) (vd : Fin 32) (va : Fin 32) (vb : VSrc)
  /-- VMUL: Lane-wise low 32 bits of a product (R115). -/
  | vmul (b : Bun) (g : VM) (vd : Fin 32) (va : Fin 32) (vb : VSrc)
  /-- VMULH: Lane-wise high 32 bits of the signed product (R115). -/
  | vmulh (b : Bun) (g : VM) (vd : Fin 32) (va : Fin 32) (vb : VSrc)
  /-- VMAC: Lane-wise wrapping multiply-accumulate (R115). -/
  | vmac (b : Bun) (g : VM) (vd : Fin 32) (va : Fin 32) (vb : VSrc) (vc : Fin 32)
  /-- VMACS: Lane-wise saturating multiply-accumulate with exact product (R116). -/
  | vmacs (b : Bun) (g : VM) (vd : Fin 32) (va : Fin 32) (vb : VSrc) (vc : Fin 32)
  /-- VMIN: Lane-wise signed minimum (R115). -/
  | vmin (b : Bun) (g : VM) (vd : Fin 32) (va : Fin 32) (vb : VSrc)
  /-- VMAX: Lane-wise signed maximum (R115). -/
  | vmax (b : Bun) (g : VM) (vd : Fin 32) (va : Fin 32) (vb : VSrc)
  /-- VAND: Lane-wise bitwise and (R115). -/
  | vand (b : Bun) (g : VM) (vd : Fin 32) (va : Fin 32) (vb : VSrc)
  /-- VOR: Lane-wise bitwise or (R115). -/
  | vor (b : Bun) (g : VM) (vd : Fin 32) (va : Fin 32) (vb : VSrc)
  /-- VXOR: Lane-wise bitwise xor (R115). -/
  | vxor (b : Bun) (g : VM) (vd : Fin 32) (va : Fin 32) (vb : VSrc)
  /-- VSLL: Lane-wise left shift by b[4:0] (R117). -/
  | vsll (b : Bun) (g : VM) (vd : Fin 32) (va : Fin 32) (vb : VSrc)
  /-- VSRL: Lane-wise logical right shift by b[4:0] (R117). -/
  | vsrl (b : Bun) (g : VM) (vd : Fin 32) (va : Fin 32) (vb : VSrc)
  /-- VSRA: Lane-wise arithmetic right shift by b[4:0] (R117). -/
  | vsra (b : Bun) (g : VM) (vd : Fin 32) (va : Fin 32) (vb : VSrc)
  /-- VSRAR: Lane-wise division by a power of two rounded half to even (R117). -/
  | vsrar (b : Bun) (g : VM) (vd : Fin 32) (va : Fin 32) (vb : VSrc)
  /-- VCMPEQ: Mask of lanes where a equals b (R115). -/
  | vcmpeq (b : Bun) (g : VM) (md : Fin 8) (va : Fin 32) (vb : VSrc)
  /-- VCMPNE: Mask of lanes where a differs from b (R115). -/
  | vcmpne (b : Bun) (g : VM) (md : Fin 8) (va : Fin 32) (vb : VSrc)
  /-- VCMPLT: Mask of lanes where a is less than b (R115). -/
  | vcmplt (b : Bun) (g : VM) (md : Fin 8) (va : Fin 32) (vb : VSrc)
  /-- VCMPLE: Mask of lanes where a is at most b (R115). -/
  | vcmple (b : Bun) (g : VM) (md : Fin 8) (va : Fin 32) (vb : VSrc)
  /-- VCMPGT: Mask of lanes where a exceeds b (R115). -/
  | vcmpgt (b : Bun) (g : VM) (md : Fin 8) (va : Fin 32) (vb : VSrc)
  /-- VCMPGE: Mask of lanes where a is at least b (R115). -/
  | vcmpge (b : Bun) (g : VM) (md : Fin 8) (va : Fin 32) (vb : VSrc)
  /-- VCLAMP: Lane-wise clamp, max then min (R118). -/
  | vclamp (b : Bun) (g : VM) (vd : Fin 32) (va : Fin 32) (vb : VSrc) (vc : Fin 32)
  /-- VSEL: Lane-wise select by a mask (R118). -/
  | vsel (b : Bun) (g : VM) (vd : Fin 32) (va : Fin 32) (vb : VSrc) (mc : Fin 8)
  /-- VMOV: Vector copy (R115). -/
  | vmov (b : Bun) (g : VM) (vd : Fin 32) (va : Fin 32)
  /-- VNEG: Lane-wise saturating negate (R116). -/
  | vneg (b : Bun) (g : VM) (vd : Fin 32) (va : Fin 32)
  /-- VABS: Lane-wise saturating absolute value (R116). -/
  | vabs (b : Bun) (g : VM) (vd : Fin 32) (va : Fin 32)
  /-- VNOT: Lane-wise bitwise complement (R115). -/
  | vnot (b : Bun) (g : VM) (vd : Fin 32) (va : Fin 32)
  /-- VSLLI: Lane-wise left shift by an immediate (R117). -/
  | vslli (b : Bun) (g : VM) (vd : Fin 32) (va : Fin 32) (n : Fin 32)
  /-- VSRLI: Lane-wise logical right shift by an immediate (R117). -/
  | vsrli (b : Bun) (g : VM) (vd : Fin 32) (va : Fin 32) (n : Fin 32)
  /-- VSRAI: Lane-wise arithmetic right shift by an immediate (R117). -/
  | vsrai (b : Bun) (g : VM) (vd : Fin 32) (va : Fin 32) (n : Fin 32)
  /-- VSRARI: Lane-wise rounding right shift by an immediate (R117). -/
  | vsrari (b : Bun) (g : VM) (vd : Fin 32) (va : Fin 32) (n : Fin 32)
  /-- VADDI: Lane-wise wrapping add of a sign-extended immediate (R115). -/
  | vaddi (b : Bun) (g : VM) (vd : Fin 32) (va : Fin 32) (imm : BitVec 11)
  /-- VPERM: Permutes lanes by index, each source lane delivered at most once (R119). -/
  | vperm (b : Bun) (g : VM) (vd : Fin 32) (va : Fin 32) (vb : Fin 32)
  /-- VPERMI: Permutes lanes by a fixed pattern (R119). -/
  | vpermi (b : Bun) (g : VM) (vd : Fin 32) (va : Fin 32) (pat : Fin 8) (n : Fin 16)
  /-- VIOTA: Each lane gets its lane number (R115). -/
  | viota (b : Bun) (g : VM) (vd : Fin 32)
  /-- VMTOV: Each lane gets 1 when its mask bit is set (R115). -/
  | vmtov (b : Bun) (g : VM) (vd : Fin 32) (ma : Fin 8)
  /-- MAND: Mask and (R115). -/
  | mand (b : Bun) (g : VM) (md : Fin 8) (ma : Fin 8) (mb : Fin 8)
  /-- MOR: Mask or (R115). -/
  | mor (b : Bun) (g : VM) (md : Fin 8) (ma : Fin 8) (mb : Fin 8)
  /-- MXOR: Mask xor (R115). -/
  | mxor (b : Bun) (g : VM) (md : Fin 8) (ma : Fin 8) (mb : Fin 8)
  /-- MANDN: Mask and-not (R115). -/
  | mandn (b : Bun) (g : VM) (md : Fin 8) (ma : Fin 8) (mb : Fin 8)
  /-- MNOT: Mask complement (R115). -/
  | mnot (b : Bun) (g : VM) (md : Fin 8) (ma : Fin 8)
  /-- MSET: Mask from the bits of an s register (R115). -/
  | mset (b : Bun) (g : VM) (md : Fin 8) (ss : Fin 32)
  /-- MLOW: Mask of lanes below an immediate count (R115). -/
  | mlow (b : Bun) (g : VM) (md : Fin 8) (n : Fin 32)
  /-- VRROW: Row reduction into lane 4r (R120). -/
  | vrrow (b : Bun) (m : Fin 8) (vd : Fin 32) (va : Fin 32) (fn : Fin 4)
  /-- VRCOL: Column reduction into lane c (R120). -/
  | vrcol (b : Bun) (m : Fin 8) (vd : Fin 32) (va : Fin 32) (fn : Fin 4)
  /-- VRALL: Full reduction into lane 0 (R120). -/
  | vrall (b : Bun) (m : Fin 8) (vd : Fin 32) (va : Fin 32) (fn : Fin 4)
  /-- VLUT: Table lookup with interpolation (R132). -/
  | vlut (b : Bun) (g : VM) (vd : Fin 32) (va : Fin 32) (t : Fin 4) (h : Fin 32)
  /-- VLUTST: Writes 16 entries of a lookup table (R133). -/
  | vlutst (b : Bun) (m : Fin 8) (va : Fin 32) (t : Fin 4) (j : Fin 16)
  /-- REQ: Requantises lanes by a rounding shift and clamp, updating statistics (R135). -/
  | req (b : Bun) (g : VM) (vd : Fin 32) (va : Fin 32) (vb : Fin 32) (vc : Fin 32) (ss : Fin 32) (f : ReqF)
  /-- VLD: Strided vector load (R121). -/
  | vld (b : Bun) (g : VM) (vd : Fin 32) (ss : Fin 32) (vb : Fin 32) (vc : Fin 32) (w : Fin 4) (zx : Bool)
  /-- VST: Strided vector store (R121). -/
  | vst (b : Bun) (m : Fin 8) (va : Fin 32) (ss : Fin 32) (vb : Fin 32) (vc : Fin 32) (w : Fin 4)
  /-- VLDX: Gather load by index (R124). -/
  | vldx (b : Bun) (g : VM) (vd : Fin 32) (ss : Fin 32) (vb : Fin 32) (w : Fin 4) (zx : Bool)
  /-- VSTX: Scatter store by index (R124). -/
  | vstx (b : Bun) (m : Fin 8) (va : Fin 32) (ss : Fin 32) (vb : Fin 32) (w : Fin 4)
  /-- ACC_LD: Loads one accumulator tile from PM (R128). -/
  | accLd (b : Bun) (g : VM) (vd : Fin 32) (ss : Fin 32) (imm : Fin 1024)
  /-- VSUM_ANY: s register gets 1 if any enabled mask lane is set (R49). -/
  | vsumAny (b : Bun) (m : Fin 8) (rd : Fin 32) (ma : Fin 8)
  /-- VSUM_ALL: s register gets 1 if every enabled mask lane is set (R49). -/
  | vsumAll (b : Bun) (m : Fin 8) (rd : Fin 32) (ma : Fin 8)
  /-- VSUM_COUNT: s register gets the count of enabled set lanes (R49). -/
  | vsumCount (b : Bun) (m : Fin 8) (rd : Fin 32) (ma : Fin 8)
  /-- VSUM_FIRST: s register gets the lowest enabled set lane (R49). -/
  | vsumFirst (b : Bun) (m : Fin 8) (rd : Fin 32) (ma : Fin 8)
  /-- VSUM_MAX: s register gets the largest enabled lane (R49). -/
  | vsumMax (b : Bun) (m : Fin 8) (rd : Fin 32) (va : Fin 32)
  /-- VSUM_MIN: s register gets the smallest enabled lane (R49). -/
  | vsumMin (b : Bun) (m : Fin 8) (rd : Fin 32) (va : Fin 32)
  /-- VSUM_LANE0: s register gets lane 0 (R49). -/
  | vsumLane0 (b : Bun) (m : Fin 8) (rd : Fin 32) (va : Fin 32)
  /-- XNOP: No command to any queue (R57). -/
  | xnop (b : Bun)
  /-- MM: Queues a matrix product accumulating into PM (R83). -/
  | mm (b : Bun) (sa : Fin 32) (sb : Fin 32) (sc : Fin 32) (fmt : Fin 8) (m1 : Fin 16) (n41 : Fin 1024) (k41 : Fin 1024)
  /-- MMZ: Queues a matrix product with accumulators zeroed first (R91). -/
  | mmz (b : Bun) (sa : Fin 32) (sb : Fin 32) (sc : Fin 32) (fmt : Fin 8) (m1 : Fin 16) (n41 : Fin 1024) (k41 : Fin 1024)
  /-- MMEW: Queues an element-wise product accumulation (R93). -/
  | mmew (b : Bun) (sa : Fin 32) (sb : Fin 32) (sc : Fin 32) (fmt : Fin 8) (m1 : Fin 16) (n41 : Fin 1024) (k41 : Fin 1024)
  /-- DMA: Copies a 64 B descriptor into the DMA queue (R58). -/
  | dma (b : Bun) (sa : Fin 32)
  /-- OVL: Queues an overlay load into instruction-memory segments (R51). -/
  | ovl (b : Bun) (sa : Fin 32) (sb : Fin 32) (seg : Fin 16) (cnt1 : Fin 16)
  /-- LADD: Queues a Latch add (R251). -/
  | ladd (b : Bun) (sa : Fin 32) (sb : Fin 32) (sc : Fin 32) (ximm : BitVec 27)
  /-- LSUB: Queues a Latch subtract, optionally a HOLD acquire (R251). -/
  | lsub (b : Bun) (sa : Fin 32) (sb : Fin 32) (sc : Fin 32) (ximm : BitVec 27)
  /-- LSET: Queues a Latch set with KIND and OWN (R251). -/
  | lset (b : Bun) (sa : Fin 32) (sb : Fin 32) (sc : Fin 32) (ximm : BitVec 27)
  /-- LCAS: Queues a Latch compare-and-swap (R251). -/
  | lcas (b : Bun) (sa : Fin 32) (sb : Fin 32) (sc : Fin 32) (ximm : BitVec 27)
  /-- LSEQADV: Queues a Latch serial advance (R251). -/
  | lseqadv (b : Bun) (sa : Fin 32) (sb : Fin 32) (sc : Fin 32) (ximm : BitVec 27)
  /-- LREAD: Queues a Latch read (R251). -/
  | lread (b : Bun) (sa : Fin 32) (sb : Fin 32) (sc : Fin 32) (ximm : BitVec 27)
  /-- LWATCH: Queues the registration of a Latch watch (R259). -/
  | lwatch (b : Bun) (sa : Fin 32) (sb : Fin 32) (sc : Fin 32) (ximm : BitVec 27)
  /-- SEND: Queues a 16 B message to a core of the job (R62). -/
  | send (b : Bun) (sa : Fin 32) (sb : Fin 32)
  /-- STALL_TIMEOUT: A bounded wait exceeds STALL_LIMIT ticks and stops the core (R70). -/
  | stallTimeout (k : Fin 512)
  /-- PARITY_REFETCH: A bundle with a parity error is reread from its overlay source and retried (R52). -/
  | parityRefetch (k : Fin 512) (retryBad : Bool) (host : List Byte)
  /-- OVERLAY_SEGMENT_LANDED: The last bundle of an overlay segment lands and its valid bit sets (R51). -/
  | overlaySegmentLanded (k : Fin 512) (host : List Byte)
  /-- MESSAGE_DELIVER: A queued message is accepted by its target mailbox (R63). -/
  | messageDeliver (k : Fin 512)
  /-- LATCH_REPLY: A Latch reply arrives and is written to SC (R258). -/
  | latchReply (k : Fin 512)
  /-- CORE_PARK: END's drain completes and the core parks (R71). -/
  | corePark (k : Fin 512)
  /-- CORE_START: CORE_CTRL.START starts a PARKED or single-stepped core at START_PC (R76). -/
  | coreStart (k : Fin 512)
  /-- CORE_HALT_REQ: CORE_CTRL.HALT_REQ stops a RUNNING core (R76). -/
  | coreHaltReq (k : Fin 512)
  /-- CORE_RESET: CORE_CTRL.RESET resets the core in any state (R76). -/
  | coreReset (k : Fin 512)
  /-- CORE_RESET_DONE: Reset completes after 1.8 µs and the core enters IDLE (R71). -/
  | coreResetDone (k : Fin 512)
  /-- MBX_IN3_WRITE: A write to MBX_IN3 commits a host-injected message (R66). -/
  | mbxIn3Write (k : Fin 512) (val : Word)
  /-- CS_CNT_CLR: Zeroes the cluster sequencer counters (R78). -/
  | csCntClr (cl : Fin 32)
  /-- MATRIX_COMMAND_ACCEPT: The matrix unit accepts the next queued command once the current one's last tile is fetched (R96). -/
  | matrixCommandAccept (k : Fin 512)
  /-- MATRIX_COMMAND_DONE: A command's last result becomes readable and MU_DONE increments (R97). -/
  | matrixCommandDone (k : Fin 512) (denied : Nat)
  /-- RAMP_STEP_END: An 8-cycle ramp step ends and the activity level moves (R106). -/
  | rampStepEnd (k : Fin 512) (cycs : List MuCyc)
  /-- MU_CNT_CLR: Zeroes the matrix unit counters (R109). -/
  | muCntClr (k : Fin 512)
  /-- VE_CNT_CLR: Zeroes the vector engine counters (R137). -/
  | veCntClr (k : Fin 512)
  /-- STAT_CLR: Zeroes the named statistics slots (R163). -/
  | statClr (k : Fin 512) (slots : BitVec 8)
  /-- SRAM_CE_WRITEBACK: A corrected granule is written back at the next free write-port cycle (R172). -/
  | sramCeWriteback (k : Fin 512) (gran : Nat)
  /-- GATHER_LINE_AGE_FLUSH: A gather buffer line reaches its age limit and is written (R175). -/
  | gatherLineAgeFlush (k : Fin 512)
  /-- SP_CNT_CLR: Zeroes the scratchpad counters (R188). -/
  | spCntClr (k : Fin 512)
  /-- CW_RETURN_WRITE: Returns credits to a credit window, refused when above SIZE (R185). -/
  | cwReturnWrite (who : Who) (k : Fin 512) (w : Fin 8) (n : BitVec 11)
  /-- CREDIT_GRANT: The head credit request of a window is granted in full (R183). -/
  | creditGrant (k : Fin 512) (w : Fin 8)
  /-- CREDIT_TIMEOUT: A credit request exceeds STALL_LIMIT, leaves the queue and fails the job (R186). -/
  | creditTimeout (k : Fin 512) (w : Fin 8) (i : Nat)
  /-- DMA_TRANSFER_START: The DMA engine starts a descriptor and checks its fields (R203). -/
  | dmaTransferStart (k : Fin 512)
  /-- DMA_UNIT_ISSUE: A unit obtains a tag and issues its read or write (R208). -/
  | dmaUnitIssue (k : Fin 512) (x : Nat)
  /-- DMA_UNIT_COMPLETE: A unit's data returns or its write is acknowledged and its tag frees (R191). -/
  | dmaUnitComplete (k : Fin 512) (x : Nat) (i : Nat) (meet : Nat)
  /-- CHAIN_UNIT_FORWARD: A chain unit is forwarded to the next core once credits are granted (R212). -/
  | chainUnitForward (k : Fin 512) (x : Nat) (hop : Nat) (lands : Bool) (meet : Nat)
  /-- DMA_TRANSFER_COMPLETE: A transfer completes: lines flushed, ring operation and SIGNAL applied, DMA_DONE incremented (R194). -/
  | dmaTransferComplete (k : Fin 512) (x : Nat)
  /-- DMA_CNT_CLR: Zeroes the DMA counters (R222). -/
  | dmaCntClr (k : Fin 512)
  /-- HBM_CE_WRITEBACK: A corrected HBM granule is written back when its pseudo-channel is idle (R234). -/
  | hbmCeWriteback (a : Nat)
  /-- PATROL_SCRUB_UNIT: Patrol scrub reads the next 256 B unit (R238). -/
  | patrolScrubUnit (side : Fin 2)
  /-- REFRESH: Per-bank refresh is issued at its interval (R232). -/
  | refresh (side : Fin 2) (temp : BitVec 8) (od : Fin 256) (ue : Bool)
  /-- RFM: A refresh management command is issued at the activation threshold (R232). -/
  | rfm (side : Fin 2)
  /-- CA_PARITY_ALARM: A command parity alarm reissues the command, and a second contains the side (R232). -/
  | caParityAlarm (side : Fin 2) (again : Bool)
  /-- HBM_CNT_CLR: Zeroes the HBM counters and clears PEAK and VALID (R243). -/
  | hbmCntClr (side : Fin 2)
  /-- MESH_FLIT_ERROR: A mesh flit check error is corrected or contains the side (R231). -/
  | meshFlitError (side : Fin 2) (router : Fin 16) (port : Fin 6) (ue : Bool)
  /-- BRIDGE_FLIT_ERROR: A bridge flit fails its check and is resent once, or the side is contained (R231). -/
  | bridgeFlitError (side : Fin 2) (router : Fin 16) (again : Bool)
  /-- MESH_LINK_SEL_WRITE: Selects the counted port and zeroes MESH_LINK_FLITS (R245). -/
  | meshLinkSelWrite (side : Fin 2) (val : Word)
  /-- MESH_CNT_CLR: Zeroes the mesh counters (R245). -/
  | meshCntClr (side : Fin 2)
  /-- LATCH_OP_APPLY: A Latch unit applies one operation after its checks and evaluates watches and forwards (R253). -/
  | latchOpApply (cl : Fin 32) (k : Option (Fin 512))
  /-- WATCH_TIMEOUT: A watch expires and completes with TIMEOUT (R261). -/
  | watchTimeout (cl : Fin 32) (i : Nat)
  /-- NOTIFICATION_DELIVER: A completed watch's notification reaches its mailbox once room exists (R263). -/
  | notificationDeliver (cl : Fin 32) (i : Nat)
  /-- LH_ADD: Host Latch add (R276). -/
  | lhAdd (cl : Fin 32)
  /-- LH_SUB: Host Latch subtract (R276). -/
  | lhSub (cl : Fin 32)
  /-- LH_SET: Host Latch set with KIND (R276). -/
  | lhSet (cl : Fin 32) (kind : Fin 4)
  /-- LH_CAS: Host Latch compare-and-swap (R276). -/
  | lhCas (cl : Fin 32)
  /-- LH_SEQ_ADV: Host Latch serial advance (R276). -/
  | lhSeqAdv (cl : Fin 32)
  /-- LH_READ: Host read of the whole 64-bit word (R276). -/
  | lhRead (cl : Fin 32)
  /-- LH_OWNER: Host sets or clears a word's owner (R276). -/
  | lhOwner (cl : Fin 32) (owned : Bool) (job : Fin 256)
  /-- LU_CNT_CLR: Zeroes the Latch unit counters (R276). -/
  | luCntClr (cl : Fin 32)
  /-- ADMIT: Admits a stream from FREE after the checks of R294 (R282). -/
  | stAdmit (i : Fin 1024) (zero : Bool)
  /-- MODIFY: Changes CLASS, CHUNK, BOUND and result routing of an IDLE stream (R282). -/
  | modify (i : Fin 1024)
  /-- RELEASE: Frees a stream, at batch completion if RUNNING (R282). -/
  | release (i : Fin 1024)
  /-- ST_READ: Copies a stream entry into the staging registers (R282). -/
  | stRead (i : Fin 1024)
  /-- INPUT_WRITE_ACK: A source write to a stream input ring is acknowledged and IN_WR advances (R283). -/
  | inputWriteAck (i : Fin 1024) (n : Nat)
  /-- SIDE_CONTROLLER_TICK: The side controller handles completions, commands, readiness and dispatch decisions in order (R291). -/
  | sideControllerTick (side : Fin 2) (res : List (Nat × List ResRow)) (ue : Bool) (bad : Option (Fin 1024))
  /-- DISPATCH_MESSAGE: A dispatch message reaches a core, which enters RUNNING at START_PC (R292). -/
  | dispatchMessage (k : Fin 512)
  /-- BATCH_COMPLETE: The batch watch ends: steps advance, results and snapshots follow, or streams become SUSPECT (R293). -/
  | batchComplete (b : Fin 32) (res : List ResRow)
  /-- SC_CNT_CLR: Zeroes the side controller counters (R301). -/
  | scCntClr (side : Fin 2)
  /-- JOB_CREATE: Creates a job after its checks (R303). -/
  | jobCreate (j : Fin 256)
  /-- JOB_START: Starts a LOADED job named by no batcher (R327). -/
  | jobStart (j : Fin 256)
  /-- JOB_RESET: Resets a job, discarding save images, leaving it LOADED (R305). -/
  | jobReset (j : Fin 256)
  /-- JOB_DESTROY: Resets and frees a job (R327). -/
  | jobDestroy (j : Fin 256)
  /-- JOB_READ: Reads a job into the staging registers (R327). -/
  | jobRead (j : Fin 256)
  /-- JOB_PLACEMENT: The sequencer places a job on a core: zeroing, header loads and overlays (R307). -/
  | jobPlacement (k : Fin 512) (j : Fin 256)
  /-- PREEMPT_REQUEST: A sequencer receives a preemption request and sets PREEMPT_PEND (R313). -/
  | preemptRequest (cl : Fin 32) (j : Fin 256)
  /-- FORCED_PREEMPT: FORCE_LIMIT expires and a RUNNING core is stopped and wholly saved (R314). -/
  | forcedPreempt (k : Fin 512)
  /-- SAVE_COMPLETE: The last save of a job completes and it becomes SUSPENDED (R313). -/
  | saveComplete (j : Fin 256) (bad : Option (Fin 512))
  /-- RESTORE_START: A SUSPENDED job's restore begins (R315). -/
  | restoreStart (j : Fin 256)
  /-- RESTORE_COMPLETE: Every core is restored, SUSP clears and cores resume (R315). -/
  | restoreComplete (j : Fin 256) (bad : Option (Fin 512 × Fin 4))
  /-- BE_SLICE_EXPIRY: A BE holder has been resident BE_SLICE ticks and is preempted for a waiting BE job (R312). -/
  | beSliceExpiry (h : Fin 256)
  /-- ACC_CLR: Zeroes a client's accounting (R327). -/
  | accClr (mask : Word)
  /-- EPOCH_STAGE_CLOCK: Stages a side clock change as a new epoch (R321). -/
  | epochStageClock (side : Fin 2)
  /-- EPOCH_STAGE_PIN_RATE: Stages an HBM pin rate change as a new epoch (R321). -/
  | epochStagePinRate (side : Fin 2)
  /-- EPOCH_STAGE_WEIGHT_COPY: Stages a switch of a plan's active weight copy (R321). -/
  | epochStageWeightCopy
  /-- UNIT_BOUNDARY_SWITCH: A named unit switches settings at its boundary and acknowledges (R321). -/
  | unitBoundarySwitch (u : Fin 6)
  /-- EPOCH_ACK: The Hinge receives a unit's acknowledgement (R321). -/
  | epochAck (u : Fin 6)
  /-- EPOCH_TIMEOUT: A unit does not acknowledge within 1 ms and the change rolls back (R323). -/
  | epochTimeout (u : Fin 6)
  /-- EPOCH_STUCK: A rollback is not acknowledged within 1 ms and the side is contained (R324). -/
  | epochStuck (u : Fin 6)
  /-- AP_START: Starts a copper port in no group (R337). -/
  | apStart (u : Fin 8)
  /-- AP_STOP: Stops a copper port in no group at frame end (R338). -/
  | apStop (u : Fin 8)
  /-- VP_START: Starts a virtual port in no group (R337). -/
  | vpStart (u : Fin 8)
  /-- VP_STOP: Stops a virtual port in no group at frame end (R338). -/
  | vpStop (u : Fin 8)
  /-- APG_START: Starts the named alignment groups on one PLL edge (R337). -/
  | apgStart (groups : Fin 16)
  /-- APG_STOP: Stops the named groups at frame end (R338). -/
  | apgStop (groups : Fin 16)
  /-- AP_FMT_WRITE: A valid format write recomputes the divider and loop gains (R334). -/
  | apFmtWrite (u : Fin 8) (val : Word)
  /-- PORT_FRAME: At each frame start, slips, fetches, writes, IEC detection and gains are applied to each slot (R352). -/
  | portFrame (u : Fin 16) (sdi : List Bool)
  /-- NONPCM_END: 8,192 frames pass without preambles and the mute ends with a ramp (R353). -/
  | nonpcmEnd (u : Fin 16) (sl : Fin 64) (dir : Fin 2)
  /-- FADE_COMPLETE: A 64-sample fade completes and the slot becomes SILENT (R349). -/
  | fadeComplete (u : Fin 16) (sl : Fin 64) (dir : Fin 2)
  /-- RAMP_COMPLETE: A 256-sample ramp completes and the slot plays (R349). -/
  | rampComplete (u : Fin 16) (sl : Fin 64) (dir : Fin 2)
  /-- LOOP_LOCKED: The pacing slot has played 1 s between the marks and the unit enters LOOP (R344). -/
  | loopLocked (p : Fin 20)
  /-- LOOP_UPDATE: Every 25,000 ticks the pacing unit updates its history and trim (R345). -/
  | loopUpdate (p : Fin 20)
  /-- AWCLK_GLITCH: An AWCLK edge outside ±2 % is ignored and counted (R354). -/
  | awclkGlitch
  /-- AWCLK_STOP: No valid AWCLK edge for 4 periods: the PLL holds over (R354). -/
  | awclkStop
  /-- AWCLK_RESTORED: AWCLK edges resume near the held rate and the PLL relocks (R354). -/
  | awclkRestored
  /-- AWCLK_RATE: The AWCLK rate changes and pacing units enter SLIP (R354). -/
  | awclkRate
  /-- AWCLK_STABLE: AWCLK stable for 2 s returns pacing units to LOOP (R354). -/
  | awclkStable
  /-- APLL_UNLOCK: The audio PLL loses lock and every unit stops (R354). -/
  | apllUnlock
  /-- AP_CNT_CLR: Zeroes a port's event counters (R358). -/
  | apCntClr (u : Fin 16)
  /-- APG_CNT_CLR: Zeroes AW_GLITCHES and AW_STOPS (R360). -/
  | apgCntClr
  /-- CAMERA_REGISTER: A camera enable runs its registration checks once the engine's domain is ON (R365). -/
  | cameraRegister (c : Fin 64)
  /-- PICTURE_DECODE_START: An engine begins a camera's picture in its round-robin turn (R363). -/
  | pictureDecodeStart (e : Fin 4) (pics : List Pic)
  /-- PICTURE_DECODE_DONE: A picture finishes decoding and is delivered or dropped (R367). -/
  | pictureDecodeDone (e : Fin 4) (r : Decoded)
  /-- SCALER_OUTPUT_DONE: The scaler produces one output tensor and writes or publishes it (R371). -/
  | scalerOutputDone
  /-- SCALER_SLOT_DRAINED: A waiting output finds a drained ring slot and writes its tensor (R370). -/
  | scalerSlotDrained (n : Fin 512)
  /-- OUT_WAIT_EXPIRY: An output's ring wait expires and the tensor is dropped (R370). -/
  | outWaitExpiry (n : Fin 512)
  /-- FIN_CNT_CLR: Zeroes CAM_DROPS and OUT_DROPS (R375). -/
  | finCntClr
  /-- LIGHT_ARRIVE: Light arrives on fibre 9 and the Casement tunes its rings (R380). -/
  | lightArrive (k : Fin 2)
  /-- CASEMENT_LIT: Tuning completes and the Casement is LIT (R380). -/
  | casementLit (k : Fin 2) (margin : BitVec 8)
  /-- PANE_RX_LOCK: A Pane's receiver locks with a low error ratio and enters LOCK (R380). -/
  | paneRxLock (p : Fin 8)
  /-- RECEIVER_LOCK_LOSS: A Pane's receiver loses lock and returns to LIT (R381). -/
  | receiverLockLoss (p : Fin 8)
  /-- LASER_LOSS: Light is lost on fibre 9 and all four Panes go DARK (R381). -/
  | laserLoss (k : Fin 2)
  /-- HELLO_SEND: In ALIGN a Pane sends HELLO every 100 µs (R380). -/
  | helloSend (p : Fin 8)
  /-- HELLO_TIMEOUT: No valid HELLO within 10 ms in ALIGN: the Pane drops to LOCK (R381). -/
  | helloTimeout (p : Fin 8)
  /-- RING_TUNE_STEP: Each millisecond a ring heater moves by one step (R382). -/
  | ringTuneStep (k : Fin 2) (i : Fin 4) (margin : BitVec 8) (least : BitVec 8)
  /-- FRAME_SEND: A Pane sends the next frame by class priority (R386). -/
  | frameSend (p : Fin 8)
  /-- FRAME_CRC_FAIL: A received frame fails CRC and is discarded (R384). -/
  | frameCrcFail (p : Fin 8) (uncor : Nat) (corr : Nat)
  /-- AUDIO_FRAME_RX: An AUDIO frame's samples are written to their port frames (R387). -/
  | audioFrameRx (p : Fin 8) (ch : Fin 4096) (h : Hdr) (count : BitVec 48) (f : Fin 64) (xs : List (BitVec 24))
  /-- VIDEO_FRAME_RX: A VIDEO frame's bytes enter the camera's bitstream ring (R388). -/
  | videoFrameRx (p : Fin 8) (ch : Fin 4096) (h : Hdr) (bytes : List Byte)
  /-- WEIGH_FRAME_RX: An accepted WEIGH frame is placed in the Bolt's queue (R389). -/
  | weighFrameRx (p : Fin 8) (ch : Fin 4096) (h : Hdr) (bytes : List Byte)
  /-- IDLE_FRAME_RX: An IDLE frame delivers acknowledgement, NAK and credit fields (R383). -/
  | idleFrameRx (p : Fin 8) (ty : Fin 8) (ch : Fin 4096) (h : Hdr)
  /-- NAK_REPEAT: 20 µs without the expected SEQ allows another NAK (R389). -/
  | nakRepeat (p : Fin 8) (ty : Fin 8) (ch : Fin 4096)
  /-- REPLAY_TIMEOUT: An unacknowledged reliable frame is resent after 50 µs (R389). -/
  | replayTimeout (p : Fin 8) (ty : Fin 8) (ch : Fin 4096)
  /-- CREDIT_REFRESH: A receiver sends CRED at least every 100 µs (R390). -/
  | creditRefresh (p : Fin 8) (ty : Fin 8) (ch : Fin 4096)
  /-- LINK_CREDIT_TIMEOUT: A channel waits for credit for OPT_CREDIT_LIMIT ticks (R390). -/
  | linkCreditTimeout (p : Fin 8) (ty : Fin 8) (ch : Fin 4096)
  /-- HELLO: A received HELLO records the peer and may bring the Pane UP (R391). -/
  | hello (p : Fin 8) (corr : Nat) (id : BitVec 64) (role : Fin 4) (dual : Bool) (ain : Byte) (aout : Byte)
  /-- HELLO_ACK: The peer acknowledges this side's HELLO (R391). -/
  | helloAck (p : Fin 8) (corr : Nat) (id : BitVec 64)
  /-- PANE_QUERY: PANE_CTRL.QUERY sends a PEER_QUERY with a fresh nonce (R392). -/
  | paneQuery (p : Fin 8)
  /-- PEER_STATUS: A matching reply sets QUERY_VALID and PEER_HEARD (R392). -/
  | peerStatus (p : Fin 8) (h : Hdr) (nonce : BitVec 16) (own : Bool) (seen : Bool)
  /-- PEER_QUERY_TIMEOUT: No reply within 2 ms: PEER_HEARD reads 1 (R392). -/
  | peerQueryTimeout (p : Fin 8)
  /-- PANE_CNT_CLR: Zeroes a Pane's counters (R396). -/
  | paneCntClr (p : Fin 8)
  /-- SNAPSHOT_COMPLETE: A batch's snapshots are staged and SNAP_PEND clears (R402). -/
  | snapshotComplete
  /-- CTX_DATA: A received snapshot piece is written into the image (R404). -/
  | ctxData (p : Fin 8) (h : Hdr) (restore : Bool) (i : Fin 1024) (step : Word) (off : Nat) (bytes : List Byte)
  /-- CTX_END: A complete snapshot is applied, STEP set and ACK sent, or rejected (R404). -/
  | ctxEnd (p : Fin 8) (h : Hdr) (i : Fin 1024) (step : Word) (total : Nat)
  /-- ACK: A received ACK advances ACK_STEP (R405). -/
  | ack (p : Fin 8) (h : Hdr) (items : List (Fin 1024 × Word))
  /-- PAIR_WORD: A copied PAIR value is applied to the IMAGE word if not behind (R271). -/
  | pairWord (p : Fin 8) (h : Hdr) (items : List PairItem)
  /-- HEARTBEAT_SEND: The device sends a HEARTBEAT every 25,000 ticks (R406). -/
  | heartbeatSend
  /-- HEARTBEAT: A received HEARTBEAT keeps the partner ALIVE (R406). -/
  | heartbeat (p : Fin 8) (h : Hdr) (role : Fin 4) (alive : Bool) (count : Word)
  /-- PARTNER_LOST: 201,000 ticks without a heartbeat: streams become UNMIRRORED (R406). -/
  | partnerLost
  /-- RESTORE_REQ: The partner returns the image of a suspect stream (R413). -/
  | restoreReq (p : Fin 8) (h : Hdr) (i : Fin 1024)
  /-- RESTORE_TIMEOUT: No restore within 100 ms: the stream stays SUSPECT (R413). -/
  | restoreTimeout (i : Fin 1024)
  /-- RELINQUISH: The partner marks named images relinquished (R412). -/
  | relinquish (p : Fin 8) (h : Hdr) (ids : List (Fin 1024))
  /-- ADOPTED_LIST: A device releases named streams it still homes (R411). -/
  | adoptedList (p : Fin 8) (h : Hdr) (ids : List (Fin 1024))
  /-- ADOPT: Adopts one image as a home stream (R409). -/
  | adopt (i : Fin 1024)
  /-- ADOPT_ALL: Adopts every IMAGE entry while the partner is LOST (R409). -/
  | adoptAll
  /-- MIRROR_ON: An OFF home stream becomes UNMIRRORED with a whole next snapshot (R416). -/
  | mirrorOn (i : Fin 1024)
  /-- AUTO_ADOPT_DECISION: After the queries the engine adopts or withholds (R410). -/
  | autoAdoptDecision
  /-- AUTO_ADOPT_RETRY: Queries repeat every 1 s while the partner is LOST (R410). -/
  | autoAdoptRetry
  /-- MIR_CNT_CLR: Zeroes the mirror counters (R416). -/
  | mirCntClr
  /-- MB_DOORBELL: A doorbell starts a Bolt request or is lost (R433). -/
  | mbDoorbell (c : Fin 2) (tag : Word)
  /-- BOLT_REQUEST_TAKE: The Bolt copies a request into its SRAM and becomes BUSY (R433). -/
  | boltRequestTake (c : Fin 2)
  /-- IDENTIFY: Returns the software identifier and checksum (R432). -/
  | identify
  /-- STATUS: Returns seal, counter, records and scale states (R435). -/
  | status
  /-- SCALE_CFG: Sets Max, e, filters and sample rate with the seal open (R435). -/
  | scaleCfg (maxMg : Nat) (e : Nat) (filt : Nat) (stabMs : Nat) (rate : Nat)
  /-- CALIBRATE: Calibrates zero or span with the seal open (R435). -/
  | calibrate (load : Option Nat)
  /-- KEY_SET: Sets a key with the seal open (R435). -/
  | keySet (key : BoltKey) (bytes : List Byte)
  /-- CHANNEL_BIND: Binds a floor scale to a WEIGH channel and link key (R425). -/
  | channelBind (pane : Fin 8) (chan : Fin 4096) (key : List Byte)
  /-- BOLT_FW_LOAD: Loads a piece of a signed Bolt image with the seal open (R419). -/
  | boltFwLoad (piece : List Byte) (last : Bool)
  /-- ZERO: Sets the zero point when stable and in range (R427). -/
  | zero
  /-- TARE: Takes a weighed or preset tare (R427). -/
  | tare (preset : Option Nat)
  /-- CLEAR_TARE: Clears the tare (R427). -/
  | clearTare
  /-- WEIGH: Computes net and price, commits, sends to the MSP and returns the record (R428). -/
  | weigh (item : Word) (ref : DWord) (clear : Bool)
  /-- READ_WEIGHT: Returns the current figure and stability (R435). -/
  | readWeight
  /-- PRICE_LOAD: Replaces price entries under an authenticated block (R429). -/
  | priceLoad (ver : Word) (rows : List PriceRow) (tag : List Byte)
  /-- PRICE_READ: Returns one price entry (R435). -/
  | priceRead (item : Word)
  /-- RECORD_READ: Returns one record by number (R430). -/
  | recordRead (num : Word)
  /-- CHECKPOINT_READ: Returns a piece of a signed checkpoint (R431). -/
  | checkpointRead (num : Nat) (piece : Nat)
  /-- AUDIT_READ: Returns one audit entry by counter value (R423). -/
  | auditRead (value : Word)
  /-- SEAL_CHANGE: SEAL_OPEN_N holds a new level for 10 ms and is taken as changed (R420). -/
  | sealChange (isOpen : Bool)
  /-- ADC_SAMPLE: A local weighing port signals data-ready and a sample is clocked in (R424). -/
  | adcSample (port : Fin 4) (value : BitVec 24)
  /-- BOLT_WEIGH_FRAME: The Bolt takes a weighing frame from its queue and checks its tag and counter (R425). -/
  | boltWeighFrame
  /-- SCALE_OFFLINE: No data for 10 sample periods or 500 ms makes the scale OFFLINE (R424). -/
  | scaleOffline (scale : Fin 48)
  /-- CHECKPOINT_TIMER: 60 Bolt seconds after a checkpoint, with records written, another is taken (R431). -/
  | checkpointTimer
  /-- CHECKPOINT_SIGNED: Background signing of a checkpoint completes (R431). -/
  | checkpointSigned
  /-- MSP_IDENTIFY_LINE: A received I line is answered with identifier and checksum (R432). -/
  | mspIdentifyLine
  /-- MB_EVENT_READ: Reading MB_EVENT takes the oldest Bolt event (R437). -/
  | mbEventRead (who : Who)
  /-- WATCHDOG_RESET: The Bolt's 2 s watchdog resets it (R418). -/
  | watchdogReset
  /-- BOLT_POWER_ON: VDD_BOLT rises and the Bolt starts (R29). -/
  | boltPowerOn (isOpen : Bool)
  /-- BOLT_POWER_DOWN: VDD_BOLT leaves range and the Bolt alone powers down (R535). -/
  | boltPowerDown
  /-- SQ_DOORBELL: A host position write to a submission ring is checked and taken (R445). -/
  | sqDoorbell (f : Fin 33) (pos : Word)
  /-- COMMAND_TAKE: The Hinge takes the next submission entry in round-robin order (R450). -/
  | commandTake (f : Fin 33) (e : List Byte) (good : Bool)
  /-- NOP: Ends with FINAL OK (R454). -/
  | nop (f : Fin 33) (fence : Bool) (cid : Word)
  /-- STREAM_ADMIT: Host command that runs ADMIT (R454). -/
  | streamAdmit (f : Fin 33) (fence : Bool) (cid : Word) (i : Fin 1024) (entry : List Byte) (zeroCtx : Bool)
  /-- STREAM_MODIFY: Host command that runs MODIFY (R454). -/
  | streamModify (f : Fin 33) (fence : Bool) (cid : Word) (i : Fin 1024) (entry : List Byte)
  /-- STREAM_RELEASE: Host command that runs RELEASE (R454). -/
  | streamRelease (f : Fin 33) (fence : Bool) (cid : Word) (i : Fin 1024)
  /-- STREAM_READ: Writes a stream entry to host memory (R454). -/
  | streamRead (f : Fin 33) (fence : Bool) (cid : Word) (i : Fin 1024) (a : BitVec 64)
  /-- PLAN_LOAD: Long command that checks a plan header and copies the image in steps (R310). -/
  | planLoad (f : Fin 33) (fence : Bool) (cid : Word) (plan : BitVec 16) (a : BitVec 64) (len : Word) (dest : BitVec 64)
  /-- PLAN_UNLOAD: Unregisters a plan not named by a job (R454). -/
  | planUnload (f : Fin 33) (fence : Bool) (cid : Word) (plan : BitVec 16)
  /-- ADAPT_ROUND: Long command that runs an adaptation round (R164). -/
  | adaptRound (f : Fin 33) (fence : Bool) (cid : Word) (plan : BitVec 16) (j : Fin 256) (a : BitVec 64) (len : Word)
  /-- ABORT: Stops a long command of the same function (R453). -/
  | abort (f : Fin 33) (fence : Bool) (cid : Word) (token : Word)
  /-- FW_UPDATE: Writes and verifies an image in the other slot (R479). -/
  | fwUpdate (f : Fin 33) (fence : Bool) (cid : Word) (a : BitVec 64) (len : Word)
  /-- SCRUB_SWEEP: Runs one patrol sweep of a side (R454). -/
  | scrubSweep (f : Fin 33) (fence : Bool) (cid : Word) (side : Fin 2)
  /-- LONG_COMMAND_STEP: A long command runs its next step of at most 250 µs (R452). -/
  | longCommandStep (i : Fin 16) (data : List Byte) (good : Bool) (n : Nat)
  /-- CQ_ENTRY_WRITE: A waiting completion is written once the CQ has room (R451). -/
  | cqEntryWrite (f : Fin 33)
  /-- SR_DOORBELL: A stream ring doorbell offers bytes, accepted or refused by room (R457). -/
  | srDoorbell (c : Fin 32) (r : Fin 64) (pos : Word)
  /-- HOST_READ_COMPLETE: A completion for a device read of host memory arrives (R444). -/
  | hostReadComplete (r : HostRd) (data : List Byte) (good : Bool)
  /-- HOST_COMPLETION_TIMEOUT: A host read's completion timeout expires and the read fails (R444). -/
  | hostCompletionTimeout (r : HostRd)
  /-- BAR2_READ: A host read through BAR2 reaches the allotment (R441). -/
  | bar2Read (c : Fin 32) (o : Nat) (n : Nat)
  /-- BAR2_WRITE: A host write through BAR2 reaches HBM in arrival order (R442). -/
  | bar2Write (c : Fin 32) (o : Nat) (bytes : List Byte)
  /-- MSIX_UNMASK: An unmasked vector sends its pending message (R461). -/
  | msixUnmask (f : Fin 33) (v : Fin 64)
  /-- FUNCTION_LEVEL_RESET: Resets a client's jobs, long commands, rings and windows (R462). -/
  | functionLevelReset (f : Fin 33)
  /-- IDENTITY: SMBus block read of identity (R464). -/
  | identity
  /-- DEVICE_STATE: SMBus read of the device state (R464). -/
  | deviceState
  /-- TEMP_MAX: SMBus read of the hottest sensor (R464). -/
  | tempMax
  /-- POWER_IN: SMBus read of board input power (R464). -/
  | powerIn
  /-- POWER_LIMIT: SMBus read or write of the governor envelope (R464). -/
  | powerLimit (w : Option (BitVec 16)) (pec : Bool)
  /-- ALERT_STATUS: SMBus read or clear of alert causes (R464). -/
  | alertStatus (w : Option Byte) (pec : Bool)
  /-- ALERT_RESPONSE: The device answers the Alert Response Address (R463). -/
  | alertResponse
  /-- BOOT_START: Release of PERST_N or power-on starts the boot steps (R470). -/
  | bootStart (cold : Bool) (f : BootFacts)
  /-- BOOT_STEP_TIMEOUT: A boot step reaches its bound and fails (R470). -/
  | bootStepTimeout (f : BootFacts)
  /-- RRS_LIMIT: After 1 s the endpoint answers configuration requests normally (R471). -/
  | rrsLimit
  /-- PERST_ASSERT: PERST_N low for 1 µs resets the device, ending the running step as interrupted (R475). -/
  | perstAssert
  /-- DEV_RESTART: DEV_RESET.RESTART restarts at BS01 as PERST_N does (R488). -/
  | devRestart
  /-- BOOT_RETRY: BOOT_CTRL.RETRY clears every boot mark (R489). -/
  | bootRetry
  /-- CAL_READ: Copies a calibration entry into CAL_BUF (R485). -/
  | calRead (f : Fin 7) (ok : Bool)
  /-- CAL_WRITE: Checks and commits CAL_BUF as a calibration entry (R485). -/
  | calWrite (f : Fin 7) (ok : Bool)
  /-- ATTEST: SEC_CTRL.OP 1 starts an attestation report over the nonce (R481). -/
  | attest
  /-- CERTS: SEC_CTRL.OP 2 places the certificate chain in SEC_REPORT (R481). -/
  | certs
  /-- ATTEST_DONE: The report is placed in SEC_REPORT (R481). -/
  | attestDone
  /-- SHUTTER_SWITCH_START: The Sill begins the next queued switch STAGGER µs after the previous one (R494). -/
  | shutterSwitchStart
  /-- SHUTTER_REACH_ON: A domain reaches its new state and its units become ready (R495). -/
  | shutterReachOn (n : Fin 50)
  /-- SHUTTER_FAULT: A domain fails to reach ON in time and is marked DOWN (R496). -/
  | shutterFault (n : Fin 50)
  /-- SHUTTER_IDLE_CLOSE: An AUTO domain idle for 2,500 ticks is queued for closing (R493). -/
  | shutterIdleClose (n : Fin 50)
  /-- DOZE_ENTRY: The doze conditions hold for DOZE_IDLE ticks and the device dozes (R498). -/
  | dozeEntry
  /-- D3HOT_ENTRY: PF0 enters D3hot and the device follows when the D3 conditions hold (R498). -/
  | d3hotEntry
  /-- D3HOT_EXIT: PF0 returns to D0 and the device wakes (R498). -/
  | d3hotExit
  /-- VIN_SAMPLE: Board input power is sampled every 25 ticks (R499). -/
  | vinSample (v : BitVec 16)
  /-- GOV_WINDOW: At each 1 ms window the governor steps a side down or up (R499). -/
  | govWindow (rails : List (BitVec 16))
  /-- PLL_UNLOCK: A side PLL loses lock and the side is contained (R492). -/
  | pllUnlock (side : Fin 2)
  /-- RAIL_FAULT: VDD_CORE s below 0.50 V for 1 µs contains the side (R504). -/
  | railFault (side : Fin 2)
  /-- HBM_RAIL_FAULT: An HBM rail below range for 1 µs contains its side (R535). -/
  | hbmRailFault (side : Fin 2)
  /-- OPT_RAIL_FAULT: VDD_OPT below range for 1 µs darkens both Casements (R535). -/
  | optRailFault
  /-- SOC_RAIL_FAULT: VDD_AO, VDD_SOC or VDD_IO18 below range holds the device in reset, then restarts (R535). -/
  | socRailFault
  /-- RAIL_MONITOR_SAMPLE: Rail monitors are sampled every 100 µs (R520). -/
  | railMonitorSample (side : Fin 2) (mv : BitVec 16)
  /-- SENSOR_SAMPLE: Junction sensors are sampled every 1 ms (R521). -/
  | sensorSample (n : Fin 24) (temp : BitVec 16)
  /-- APLL_BIAS_TRIM: The audio PLL bias is trimmed every 10 s (R520). -/
  | apllBiasTrim
  /-- PWR_CNT_CLR: Zeroes PWR_STEPS and PEAK (R507). -/
  | pwrCntClr
  /-- RECORD_ARRIVE: The telemetry block logs a record and delivers it to event rings (R512). -/
  | recordArrive (src : BitVec 16)
  /-- LOG_SLOT_READ: A read of word 0 of a log slot copies the slot into the function's shadow (R513). -/
  | logSlotRead (who : Who) (i : Fin 8192) (bad : Bool)
  /-- REPAIR_LIST_ADD: A failing HBM row is added to the repair list, at most one per side per ms (R515). -/
  | repairListAdd (side : Fin 2)
  /-- HINGE_UE: An uncorrectable Hinge or Sill memory error restarts the device (R514). -/
  | hingeUe
  /-- TEL_SUSPECT_RESET: TEL_SUSPECT_CMD resets a SUSPECT stream (R517). -/
  | telSuspectReset (i : Fin 1024)
  /-- STREAM_RESET_DONE: A stream's context is zeroed and it becomes IDLE (R517). -/
  | streamResetDone (i : Fin 1024)
  /-- TEL_CNT_CLR: Zeroes TEL_LOG_LOST and TEL_SRC_DROPS (R525). -/
  | telCntClr
  /-- TAP_INSTRUCTION: A TAP instruction is applied, limited by reset state and DBG_EN (R524). -/
  | tapInstruction (t : Tap)
  /-- FRAME_DISCARDED: A received frame with a good CRC but VER not 1, TYPE 5 or 6, LEN above 240, or an unbound channel is discarded and counted in DROPS (R384). -/
  | frameDiscarded (p : Fin 8) (corr : Nat) (op : Option (Bool × Hdr))
  /-- UNSTABLE: A WEIGH whose scale figure has not become stable within 3 s is refused with UNSTABLE (R428). -/
  | unstable
  deriving DecidableEq, Repr

end Sys2Proof
end

