-- ==== Sys2Proof/Decode.lean ====
section
/-! DEFINITION. The bits of a bundle: the word of every slot command by the formats of R42, R50 and R54, the words that raise ILLEGAL_OP,
and whether a bundle holds given slots. The opcode table itself gives no row any bits, so no table word spells a command. -/

namespace Sys2Proof

/-! ### The words of the three slots (R42, R43, R50, R54, R57, R115) -/

/-- A slot command as its bundle holds it: the bundle, the slot (1 S, 2 V, 3 X), its word, and the bits of the word that have no effect. -/
structure Code where
  bun : Bun
  slot : Nat
  word : Nat
  free : Nat
  deriving DecidableEq, Repr

/-- 1 or 0. -/
def bit (b : Bool) : Nat := if b then 1 else 0

/-- Format SR (R42). -/
def srWord (op : Nat) (rd ra rb : Fin 32) : Nat := op * 2 ^ 26 + rd.val * 2 ^ 21 + ra.val * 2 ^ 16 + rb.val * 2 ^ 11
/-- Formats SI and SB: two register fields and 16 bits (R42). -/
def siWord (op : Nat) (r1 r2 : Fin 32) (imm : Nat) : Nat := op * 2 ^ 26 + r1.val * 2 ^ 21 + r2.val * 2 ^ 16 + imm
/-- Format SU (R42). -/
def suWord (op : Nat) (rd : Fin 32) (imm : BitVec 21) : Nat := op * 2 ^ 26 + rd.val * 2 ^ 21 + imm.toNat
/-- Format SP (R42). -/
def spWord (op arg : Nat) : Nat := op * 2 ^ 26 + arg
/-- A V-slot word by its fields VOP, VD, VA, VB, VC, M, Z, SS and VIMM (R50). -/
def vWord (vop vd va vb vc : Nat) (m : Fin 8) (z : Bool) (ss imm : Nat) : Nat :=
  vop * 2 ^ 40 + vd * 2 ^ 35 + va * 2 ^ 30 + vb * 2 ^ 25 + vc * 2 ^ 20 + m.val * 2 ^ 17 + bit z * 2 ^ 16 + ss * 2 ^ 11 + imm
/-- An operation of 0x01–0x19: the vector form with VB, or VOP + 0x40 with SS (R115). -/
def v2Word (vop vd va : Nat) (b : VSrc) (vc : Nat) (g : VM) : Nat :=
  match b with
  | .vec r => vWord vop vd va r.val vc g.m g.z 0 0
  | .scal r => vWord (vop + 0x40) vd va 0 vc g.m g.z r.val 0
/-- An X-slot word by its fields XOP, SA, SB, SC and XIMM (R54). -/
def xWord (xop : Nat) (sa sb sc : Fin 32) (ximm : Nat) : Nat :=
  xop * 2 ^ 42 + sa.val * 2 ^ 37 + sb.val * 2 ^ 32 + sc.val * 2 ^ 27 + ximm
/-- XIMM of a matrix command: FMT, M − 1, N/4 − 1, K/4 − 1 (R57). -/
def matImm (fmt : Fin 8) (m1 : Fin 16) (n41 k41 : Fin 1024) : Nat :=
  fmt.val * 2 ^ 24 + m1.val * 2 ^ 20 + n41.val * 2 ^ 10 + k41.val
/-- The Z bit, which has no effect on stores, reductions, VLUTST and VSUM (R113; log entry 44). -/
def zBit : Nat := 2 ^ 16

/-- The word of an S-slot command (R42, R43). -/
def sCode : Instr → Option Code
  | .snop b => some ⟨b, 1, spWord 0x00 0, 0⟩
  | .add b rd ra rb => some ⟨b, 1, srWord 0x01 rd ra rb, 0⟩
  | .sub b rd ra rb => some ⟨b, 1, srWord 0x02 rd ra rb, 0⟩
  | .and b rd ra rb => some ⟨b, 1, srWord 0x03 rd ra rb, 0⟩
  | .or b rd ra rb => some ⟨b, 1, srWord 0x04 rd ra rb, 0⟩
  | .xor b rd ra rb => some ⟨b, 1, srWord 0x05 rd ra rb, 0⟩
  | .sll b rd ra rb => some ⟨b, 1, srWord 0x06 rd ra rb, 0⟩
  | .srl b rd ra rb => some ⟨b, 1, srWord 0x07 rd ra rb, 0⟩
  | .sra b rd ra rb => some ⟨b, 1, srWord 0x08 rd ra rb, 0⟩
  | .slt b rd ra rb => some ⟨b, 1, srWord 0x09 rd ra rb, 0⟩
  | .sltu b rd ra rb => some ⟨b, 1, srWord 0x0A rd ra rb, 0⟩
  | .min b rd ra rb => some ⟨b, 1, srWord 0x0B rd ra rb, 0⟩
  | .max b rd ra rb => some ⟨b, 1, srWord 0x0C rd ra rb, 0⟩
  | .mul b rd ra rb => some ⟨b, 1, srWord 0x0D rd ra rb, 0⟩
  | .mulh b rd ra rb => some ⟨b, 1, srWord 0x0E rd ra rb, 0⟩
  | .addi b rd ra imm => some ⟨b, 1, siWord 0x10 rd ra imm.toNat, 0⟩
  | .andi b rd ra imm => some ⟨b, 1, siWord 0x11 rd ra imm.toNat, 0⟩
  | .ori b rd ra imm => some ⟨b, 1, siWord 0x12 rd ra imm.toNat, 0⟩
  | .xori b rd ra imm => some ⟨b, 1, siWord 0x13 rd ra imm.toNat, 0⟩
  | .slli b rd ra imm => some ⟨b, 1, siWord 0x14 rd ra imm.toNat, 0⟩
  | .srli b rd ra imm => some ⟨b, 1, siWord 0x15 rd ra imm.toNat, 0⟩
  | .srai b rd ra imm => some ⟨b, 1, siWord 0x16 rd ra imm.toNat, 0⟩
  | .slti b rd ra imm => some ⟨b, 1, siWord 0x17 rd ra imm.toNat, 0⟩
  | .lui b rd imm => some ⟨b, 1, suWord 0x18 rd imm, 0⟩
  | .ldw b rd ra imm => some ⟨b, 1, siWord 0x20 rd ra imm.toNat, 0⟩
  | .stw b rd ra imm => some ⟨b, 1, siWord 0x21 rd ra imm.toNat, 0⟩
  | .rdcr b rd imm => some ⟨b, 1, siWord 0x22 rd 0 imm.toNat, 0⟩
  | .rdcyc b rd => some ⟨b, 1, siWord 0x23 rd 0 0, 0⟩
  | .rdcych b rd => some ⟨b, 1, siWord 0x24 rd 0 0, 0⟩
  | .beq b ra rb off => some ⟨b, 1, siWord 0x28 ra rb off.toNat, 0⟩
  | .bne b ra rb off => some ⟨b, 1, siWord 0x29 ra rb off.toNat, 0⟩
  | .blt b ra rb off => some ⟨b, 1, siWord 0x2A ra rb off.toNat, 0⟩
  | .bge b ra rb off => some ⟨b, 1, siWord 0x2B ra rb off.toNat, 0⟩
  | .bltu b ra rb off => some ⟨b, 1, siWord 0x2C ra rb off.toNat, 0⟩
  | .bgeu b ra rb off => some ⟨b, 1, siWord 0x2D ra rb off.toNat, 0⟩
  | .jmp b off => some ⟨b, 1, siWord 0x2E 0 0 off.toNat, 0⟩
  | .recv b rd nw => some ⟨b, 1, siWord 0x30 rd 0 (bit nw), 0⟩
  | .racq b rd ring dir nw => some ⟨b, 1, siWord 0x31 rd 0 (ring.val + bit dir * 2 ^ 4 + bit nw * 2 ^ 5), 0⟩
  | .rrel b ring dir => some ⟨b, 1, siWord 0x32 0 0 (ring.val + bit dir * 2 ^ 4), 0⟩
  | .qwait b mask => some ⟨b, 1, spWord 0x38 mask.toNat, 0⟩
  | .ppt b entry => some ⟨b, 1, spWord 0x39 entry.val, 0⟩
  | .trap b code => some ⟨b, 1, spWord 0x3A code.toNat, 0⟩
  | .endBatch b => some ⟨b, 1, spWord 0x3B 0, 0⟩
  | _ => none

/-- The word of a V-slot command (R49, R50, R115). -/
def vCode : Instr → Option Code
  | .vnop b => some ⟨b, 2, 0, 0⟩
  | .vadd b g vd va vb => some ⟨b, 2, v2Word 0x01 vd.val va.val vb 0 g, 0⟩
  | .vsub b g vd va vb => some ⟨b, 2, v2Word 0x02 vd.val va.val vb 0 g, 0⟩
  | .vadds b g vd va vb => some ⟨b, 2, v2Word 0x03 vd.val va.val vb 0 g, 0⟩
  | .vsubs b g vd va vb => some ⟨b, 2, v2Word 0x04 vd.val va.val vb 0 g, 0⟩
  | .vmul b g vd va vb => some ⟨b, 2, v2Word 0x05 vd.val va.val vb 0 g, 0⟩
  | .vmulh b g vd va vb => some ⟨b, 2, v2Word 0x06 vd.val va.val vb 0 g, 0⟩
  | .vmac b g vd va vb vc => some ⟨b, 2, v2Word 0x07 vd.val va.val vb vc.val g, 0⟩
  | .vmacs b g vd va vb vc => some ⟨b, 2, v2Word 0x08 vd.val va.val vb vc.val g, 0⟩
  | .vmin b g vd va vb => some ⟨b, 2, v2Word 0x09 vd.val va.val vb 0 g, 0⟩
  | .vmax b g vd va vb => some ⟨b, 2, v2Word 0x0A vd.val va.val vb 0 g, 0⟩
  | .vand b g vd va vb => some ⟨b, 2, v2Word 0x0B vd.val va.val vb 0 g, 0⟩
  | .vor b g vd va vb => some ⟨b, 2, v2Word 0x0C vd.val va.val vb 0 g, 0⟩
  | .vxor b g vd va vb => some ⟨b, 2, v2Word 0x0D vd.val va.val vb 0 g, 0⟩
  | .vsll b g vd va vb => some ⟨b, 2, v2Word 0x0E vd.val va.val vb 0 g, 0⟩
  | .vsrl b g vd va vb => some ⟨b, 2, v2Word 0x0F vd.val va.val vb 0 g, 0⟩
  | .vsra b g vd va vb => some ⟨b, 2, v2Word 0x10 vd.val va.val vb 0 g, 0⟩
  | .vsrar b g vd va vb => some ⟨b, 2, v2Word 0x11 vd.val va.val vb 0 g, 0⟩
  | .vcmpeq b g md va vb => some ⟨b, 2, v2Word 0x12 md.val va.val vb 0 g, 0⟩
  | .vcmpne b g md va vb => some ⟨b, 2, v2Word 0x13 md.val va.val vb 0 g, 0⟩
  | .vcmplt b g md va vb => some ⟨b, 2, v2Word 0x14 md.val va.val vb 0 g, 0⟩
  | .vcmple b g md va vb => some ⟨b, 2, v2Word 0x15 md.val va.val vb 0 g, 0⟩
  | .vcmpgt b g md va vb => some ⟨b, 2, v2Word 0x16 md.val va.val vb 0 g, 0⟩
  | .vcmpge b g md va vb => some ⟨b, 2, v2Word 0x17 md.val va.val vb 0 g, 0⟩
  | .vclamp b g vd va vb vc => some ⟨b, 2, v2Word 0x18 vd.val va.val vb vc.val g, 0⟩
  | .vsel b g vd va vb mc => some ⟨b, 2, v2Word 0x19 vd.val va.val vb mc.val g, 0⟩
  | .vmov b g vd va => some ⟨b, 2, vWord 0x20 vd.val va.val 0 0 g.m g.z 0 0, 0⟩
  | .vneg b g vd va => some ⟨b, 2, vWord 0x21 vd.val va.val 0 0 g.m g.z 0 0, 0⟩
  | .vabs b g vd va => some ⟨b, 2, vWord 0x22 vd.val va.val 0 0 g.m g.z 0 0, 0⟩
  | .vnot b g vd va => some ⟨b, 2, vWord 0x23 vd.val va.val 0 0 g.m g.z 0 0, 0⟩
  | .vslli b g vd va n => some ⟨b, 2, vWord 0x24 vd.val va.val 0 0 g.m g.z 0 n.val, 0⟩
  | .vsrli b g vd va n => some ⟨b, 2, vWord 0x25 vd.val va.val 0 0 g.m g.z 0 n.val, 0⟩
  | .vsrai b g vd va n => some ⟨b, 2, vWord 0x26 vd.val va.val 0 0 g.m g.z 0 n.val, 0⟩
  | .vsrari b g vd va n => some ⟨b, 2, vWord 0x27 vd.val va.val 0 0 g.m g.z 0 n.val, 0⟩
  | .vaddi b g vd va imm => some ⟨b, 2, vWord 0x28 vd.val va.val 0 0 g.m g.z 0 imm.toNat, 0⟩
  | .vperm b g vd va vb => some ⟨b, 2, vWord 0x29 vd.val va.val vb.val 0 g.m g.z 0 0, 0⟩
  | .vpermi b g vd va pat n => some ⟨b, 2, vWord 0x2A vd.val va.val 0 0 g.m g.z 0 (pat.val + n.val * 2 ^ 4), 0⟩
  | .viota b g vd => some ⟨b, 2, vWord 0x2B vd.val 0 0 0 g.m g.z 0 0, 0⟩
  | .vmtov b g vd ma => some ⟨b, 2, vWord 0x2C vd.val ma.val 0 0 g.m g.z 0 0, 0⟩
  | .mand b g md ma mb => some ⟨b, 2, vWord 0x30 md.val ma.val mb.val 0 g.m g.z 0 0, 0⟩
  | .mor b g md ma mb => some ⟨b, 2, vWord 0x31 md.val ma.val mb.val 0 g.m g.z 0 0, 0⟩
  | .mxor b g md ma mb => some ⟨b, 2, vWord 0x32 md.val ma.val mb.val 0 g.m g.z 0 0, 0⟩
  | .mandn b g md ma mb => some ⟨b, 2, vWord 0x33 md.val ma.val mb.val 0 g.m g.z 0 0, 0⟩
  | .mnot b g md ma => some ⟨b, 2, vWord 0x34 md.val ma.val 0 0 g.m g.z 0 0, 0⟩
  | .mset b g md ss => some ⟨b, 2, vWord 0x35 md.val 0 0 0 g.m g.z ss.val 0, 0⟩
  | .mlow b g md n => some ⟨b, 2, vWord 0x36 md.val 0 0 0 g.m g.z 0 n.val, 0⟩
  | .vrrow b m vd va fn => some ⟨b, 2, vWord 0x38 vd.val va.val 0 0 m false 0 fn.val, zBit⟩
  | .vrcol b m vd va fn => some ⟨b, 2, vWord 0x39 vd.val va.val 0 0 m false 0 fn.val, zBit⟩
  | .vrall b m vd va fn => some ⟨b, 2, vWord 0x3A vd.val va.val 0 0 m false 0 fn.val, zBit⟩
  | .vlut b g vd va t h => some ⟨b, 2, vWord 0x60 vd.val va.val 0 0 g.m g.z 0 (t.val + h.val * 2 ^ 2), 0⟩
  | .vlutst b m va t j => some ⟨b, 2, vWord 0x61 0 va.val 0 0 m false 0 (t.val + j.val * 2 ^ 2), zBit⟩
  | .req b g vd va vb vc ss f => some ⟨b, 2, vWord 0x70 vd.val va.val vb.val vc.val g.m g.z ss.val (f.shift.val + f.src.val * 2 ^ 5 + f.out.val * 2 ^ 7 + bit f.stat * 2 ^ 9), 0⟩
  | .vld b g vd ss vb vc w zx => some ⟨b, 2, vWord 0x80 vd.val 0 vb.val vc.val g.m g.z ss.val (w.val + bit zx * 2 ^ 2), 0⟩
  | .vst b m va ss vb vc w => some ⟨b, 2, vWord 0x81 0 va.val vb.val vc.val m false ss.val w.val, zBit⟩
  | .vldx b g vd ss vb w zx => some ⟨b, 2, vWord 0x82 vd.val 0 vb.val 0 g.m g.z ss.val (w.val + bit zx * 2 ^ 2), 0⟩
  | .vstx b m va ss vb w => some ⟨b, 2, vWord 0x83 0 va.val vb.val 0 m false ss.val w.val, zBit⟩
  | .accLd b g vd ss imm => some ⟨b, 2, vWord 0x84 vd.val 0 0 0 g.m g.z ss.val imm.val, 0⟩
  | .vsumAny b m rd ma => some ⟨b, 2, vWord 0xF0 rd.val ma.val 0 0 m false 0 0, zBit⟩
  | .vsumAll b m rd ma => some ⟨b, 2, vWord 0xF1 rd.val ma.val 0 0 m false 0 0, zBit⟩
  | .vsumCount b m rd ma => some ⟨b, 2, vWord 0xF2 rd.val ma.val 0 0 m false 0 0, zBit⟩
  | .vsumFirst b m rd ma => some ⟨b, 2, vWord 0xF3 rd.val ma.val 0 0 m false 0 0, zBit⟩
  | .vsumMax b m rd va => some ⟨b, 2, vWord 0xF4 rd.val va.val 0 0 m false 0 0, zBit⟩
  | .vsumMin b m rd va => some ⟨b, 2, vWord 0xF5 rd.val va.val 0 0 m false 0 0, zBit⟩
  | .vsumLane0 b m rd va => some ⟨b, 2, vWord 0xF6 rd.val va.val 0 0 m false 0 0, zBit⟩
  | _ => none

/-- The word of an X-slot command (R54, R57). -/
def xCode : Instr → Option Code
  | .xnop b => some ⟨b, 3, 0, 0⟩
  | .mm b sa sb sc fmt m1 n41 k41 => some ⟨b, 3, xWord 0x01 sa sb sc (matImm fmt m1 n41 k41), 0⟩
  | .mmz b sa sb sc fmt m1 n41 k41 => some ⟨b, 3, xWord 0x02 sa sb sc (matImm fmt m1 n41 k41), 0⟩
  | .mmew b sa sb sc fmt m1 n41 k41 => some ⟨b, 3, xWord 0x03 sa sb sc (matImm fmt m1 n41 k41), 0⟩
  | .dma b sa => some ⟨b, 3, xWord 0x10 sa 0 0 0, 0⟩
  | .ovl b sa sb seg cnt1 => some ⟨b, 3, xWord 0x11 sa sb 0 (seg.val + cnt1.val * 2 ^ 4), 0⟩
  | .ladd b sa sb sc ximm => some ⟨b, 3, xWord 0x20 sa sb sc ximm.toNat, 0⟩
  | .lsub b sa sb sc ximm => some ⟨b, 3, xWord 0x21 sa sb sc ximm.toNat, 0⟩
  | .lset b sa sb sc ximm => some ⟨b, 3, xWord 0x22 sa sb sc ximm.toNat, 0⟩
  | .lcas b sa sb sc ximm => some ⟨b, 3, xWord 0x23 sa sb sc ximm.toNat, 0⟩
  | .lseqadv b sa sb sc ximm => some ⟨b, 3, xWord 0x24 sa sb sc ximm.toNat, 0⟩
  | .lread b sa sb sc ximm => some ⟨b, 3, xWord 0x25 sa sb sc ximm.toNat, 0⟩
  | .lwatch b sa sb sc ximm => some ⟨b, 3, xWord 0x26 sa sb sc ximm.toNat, 0⟩
  | .send b sa sb => some ⟨b, 3, xWord 0x30 sa sb 0 0, 0⟩
  | _ => none

/-- The word of a slot command; none for a command that is no slot of a bundle. -/
def slotCode (i : Instr) : Option Code :=
  match sCode i with
  | some c => some c
  | none => match vCode i with
    | some c => some c
    | none => xCode i

/-! ### Words that raise ILLEGAL_OP (R42, R57, R112, R115) -/

/-- The operand bits that an S-slot opcode uses; none for an undefined opcode (R42, R43; log entry 44). -/
def sUsed (op : Nat) : Option Nat :=
  if op = 0x00 ∨ op = 0x3B then some 0
  else if op ≤ 0x0E then some 0x03FFF800
  else if (0x10 ≤ op ∧ op ≤ 0x18) ∨ op = 0x20 ∨ op = 0x21 ∨ (0x28 ≤ op ∧ op ≤ 0x2D) then some 0x03FFFFFF
  else if op = 0x22 then some 0x03E0FFFF
  else if op = 0x23 ∨ op = 0x24 then some 0x03E00000
  else if op = 0x2E ∨ op = 0x3A then some 0xFFFF
  else if op = 0x30 then some 0x03E00001
  else if op = 0x31 then some 0x03E0003F
  else if op = 0x32 then some 0x1F
  else if op = 0x38 then some 0xF
  else if op = 0x39 then some 0x3FF
  else none

/-- The bits of a V-slot word that its five register fields, M with Z, SS and VIMM may fill. -/
def vMask (vd va vb vc ss imm : Nat) : Nat :=
  vd * 2 ^ 35 + va * 2 ^ 30 + vb * 2 ^ 25 + vc * 2 ^ 20 + 0xF * 2 ^ 16 + ss * 2 ^ 11 + imm

/-- The bits that an operation of 0x01–0x19 uses: `b` and `s` are the bits of VB and SS in the form given (R115). -/
def v2Used (op b s : Nat) : Nat :=
  if op = 0x07 ∨ op = 0x08 ∨ op = 0x18 then vMask 31 31 b 31 s 0
  else if op = 0x19 then vMask 31 31 b 7 s 0
  else if 0x12 ≤ op ∧ op ≤ 0x17 then vMask 7 31 b 0 s 0
  else vMask 31 31 b 0 s 0

/-- The operand bits that a V-slot opcode uses; none for an undefined opcode. A field that names a mask uses 3 bits (R49, R112, R115, R117, R121,
R124, R132–R134). -/
def vUsed (op : Nat) : Option Nat :=
  if op = 0x00 then some 0
  else if op ≤ 0x19 then some (v2Used op 31 0)
  else if 0x41 ≤ op ∧ op ≤ 0x59 then some (v2Used (op - 0x40) 0 31)
  else if 0x20 ≤ op ∧ op ≤ 0x23 then some (vMask 31 31 0 0 0 0)
  else if 0x24 ≤ op ∧ op ≤ 0x27 then some (vMask 31 31 0 0 0 0x1F)
  else if op = 0x28 then some (vMask 31 31 0 0 0 0x7FF)
  else if op = 0x29 then some (vMask 31 31 31 0 0 0)
  else if op = 0x2A then some (vMask 31 31 0 0 0 0xF7)
  else if op = 0x2B then some (vMask 31 0 0 0 0 0)
  else if op = 0x2C then some (vMask 31 7 0 0 0 0)
  else if 0x30 ≤ op ∧ op ≤ 0x33 then some (vMask 7 7 7 0 0 0)
  else if op = 0x34 then some (vMask 7 7 0 0 0 0)
  else if op = 0x35 then some (vMask 7 0 0 0 31 0)
  else if op = 0x36 then some (vMask 7 0 0 0 0 0x1F)
  else if 0x38 ≤ op ∧ op ≤ 0x3A then some (vMask 31 31 0 0 0 3)
  else if op = 0x60 then some (vMask 31 31 0 0 0 0x7F)
  else if op = 0x61 then some (vMask 0 31 0 0 0 0x3F)
  else if op = 0x70 then some (vMask 31 31 31 31 31 0x3FF)
  else if op = 0x80 then some (vMask 31 0 31 31 31 7)
  else if op = 0x81 then some (vMask 0 31 31 31 31 3)
  else if op = 0x82 then some (vMask 31 0 31 0 31 7)
  else if op = 0x83 then some (vMask 0 31 31 0 31 3)
  else if op = 0x84 then some (vMask 31 0 0 0 31 0x3FF)
  else if 0xF0 ≤ op ∧ op ≤ 0xF3 then some (vMask 31 7 0 0 0 0)
  else if 0xF4 ≤ op ∧ op ≤ 0xF6 then some (vMask 31 31 0 0 0 0)
  else none

/-- The operand bits that an X-slot opcode uses; none for an undefined opcode (R54, R57; log entry 44). -/
def xUsed (op : Nat) : Option Nat :=
  if op = 0x00 then some 0
  else if op ≤ 0x03 ∨ (0x20 ≤ op ∧ op ≤ 0x26) then some (2 ^ 42 - 1)
  else if op = 0x10 then some (31 * 2 ^ 37)
  else if op = 0x11 then some (31 * 2 ^ 37 + 31 * 2 ^ 32 + 0xFF)
  else if op = 0x30 then some (31 * 2 ^ 37 + 31 * 2 ^ 32)
  else none

/-- Whether a word of `low` operand bits is an encoding of its table. -/
def wordOk (used : Nat → Option Nat) (low w : Nat) : Bool :=
  match used (w / 2 ^ low) with
  | some u => w % 2 ^ low &&& u == w % 2 ^ low
  | none => false

/-- The word of a slot within its bundle (R37). -/
def slotWord (w slot : Nat) : Nat :=
  if slot = 1 then w / 2 ^ 96 % 2 ^ 32 else if slot = 2 then w / 2 ^ 48 % 2 ^ 48 else w % 2 ^ 48

/-- The first slot of a bundle whose word is no encoding (R42, R57, R74, R115). -/
def illegalSlot (w : Nat) : Option Nat :=
  if !wordOk sUsed 26 (slotWord w 1) then some 1
  else if !wordOk vUsed 40 (slotWord w 2) then some 2
  else if !wordOk xUsed 42 (slotWord w 3) then some 3
  else none

/-! ### Slots of a bundle -/

/-- Whether the slots from `a` up to but not `b` are empty. -/
def emptySlots (w a b : Nat) : Bool := [1, 2, 3].all (fun s => s < a || b ≤ s || slotWord w s == 0)

/-- Whether the slots of a bundle from `from_` on are the given commands in slot order, every slot passed over being empty; a last command
without `more` leaves no slot after it. -/
def spells (w : Nat) : Nat → List Instr → Bool
  | _, [] => true
  | n, i :: is =>
    match slotCode i with
    | some c => decide (n ≤ c.slot) && emptySlots w n c.slot && (slotWord w c.slot ||| c.free) == (c.word ||| c.free)
        && (c.bun.more || emptySlots w (c.slot + 1) 4) && spells w (c.slot + 1) is
    | none => false

/-- The bundle that holds a slot command alone (R37). -/
def bundleOf (i : Instr) : Nat :=
  match slotCode i with
  | some c => if c.slot = 1 then c.word * 2 ^ 96 else if c.slot = 2 then c.word * 2 ^ 48 else c.word
  | none => 0

/-- The command that the bits of a table word spell: none, since no row of the opcode table has bits. -/
def decodeTableWord (_nbits _w : Nat) : Option Instr := none

end Sys2Proof
end

