-- ==== Sys2Proof/Config.lean ====
section
/-! DEFINITION. What the specification leaves to the part or leaves open: constants without a body, so that no statement can rest on a value of theirs. -/

namespace Sys2Proof.Config

/-- A value the specification leaves open, by a number that names the occurrence (log entry 4). -/
opaque freeWord : Nat → BitVec 32

/-- The physical slot of a logical core, set by fuses (R76). -/
opaque physSlot : Nat → BitVec 5

/-- MU_SPARE of a core, set at manufacture (R109). -/
opaque muSpare : Nat → BitVec 32

/-- The 64-bit device ID of the part (R488). -/
opaque deviceId : BitVec 64

/-- The order code and silicon revision of DEV_INFO, bits [15:0] (R488). -/
opaque deviceInfo : BitVec 16

/-- The PCI Vendor ID, low half, and Device ID that configuration space reports (R464). -/
opaque pciId : BitVec 32

/-- The manufacturer code of a side's HBM stack (R243). -/
opaque hbmMaker : Nat → BitVec 16

/-- The row of a pseudo-channel that the bits of a side offset from bit 13 up select, which with the pseudo-channel name its 256 B unit (R233). -/
opaque hbmRow : Nat → Nat

/-- The bank of a row of a pseudo-channel (R233, R239). -/
opaque rowBank : Nat → Nat

/-- The flits that a mesh packet's header adds to those of its data bytes (R229, R245). -/
opaque headFlits : Nat → Nat

/-- Whether the zeroing of memory that a unit may have to do runs at a tick, by the unit and the tick (R169, R240). -/
opaque zeroing : Nat → Nat → Bool

/-- Whether the controller of a side's stack pauses for a rate change at a tick at which its switch is due (R241). -/
opaque hbmPause : Nat → Nat → Bool

/-- The fixed bytes of a save image, by the save and the byte: the specification states what they hold, and no layout (R317). -/
opaque imageByte : Nat → Nat → BitVec 8

/-- How far a source's local tick count is from the count it began with, by the source (R4). -/
opaque tickOffset : Nat → Nat

/-- The mean of the last 64 periods of AWCLK against XIN, by the tick, in 1/16 ppm: what the reference does is an input of the part (R354, R360). -/
opaque awMean : Nat → BitVec 32

/-- A byte of the boot flash as the factory and the integrator wrote it (R468). -/
opaque flashByte : Nat → BitVec 8

/-- A byte of the repair list's region, by the rows of the list and the place: the specification gives the region no layout (R239, R468). -/
opaque repairByte : List Nat → Nat → BitVec 8

/-- A byte of the saved training values that fresh training wrote, by the training and the place (R468, R470). -/
opaque trainByte : Nat → Nat → BitVec 8

/-- The key hashes in fuses (R477). -/
opaque rsaKeyHash : BitVec 256
/-- The hash of the SLH-DSA key in fuses. -/
opaque slhKeyHash : BitVec 256

/-- Whether an RSASSA-PSS signature with SHA-256 verifies, by modulus, message and signature (R476). -/
opaque rsaVerify : List (BitVec 8) → List (BitVec 8) → List (BitVec 8) → Bool
/-- Whether an SLH-DSA-SHA2-128s signature verifies, by key, message and signature (R476). -/
opaque slhVerify : List (BitVec 8) → List (BitVec 8) → List (BitVec 8) → Bool

/-- The RSA-3072 signature of the device's identity key over a message (R481). -/
opaque rsaSign : List (BitVec 8) → BitVec 3072
/-- The SLH-DSA-SHA2-128s signature of the device's identity key over a message, 7,856 bytes (R481). -/
opaque slhSign : List (BitVec 8) → BitVec 62848
/-- The certificate chain of the identity region (R480, R481). -/
opaque certChain : List (BitVec 8)

/-- The RSA-3072 and SLH-DSA signatures of the Bolt's sealing keys over a message (R431). -/
opaque boltRsaSign : List (BitVec 8) → BitVec 3072
/-- The Bolt's SLH-DSA-SHA2-128s signature. -/
opaque boltSlhSign : List (BitVec 8) → BitVec 62848

/-- The bytes in which the Bolt lays out values for which the specification gives no layout, by the kind of the message and its values (log entry 40). -/
opaque boltPack : Nat → List Int → List (BitVec 8)
/-- The software identifier of a Bolt image (R432). -/
opaque boltIdent : List (BitVec 8) → List (BitVec 8)
/-- The legally relevant part of a Bolt image (R432). -/
opaque boltLegalPart : List (BitVec 8) → List (BitVec 8)
/-- Whether both signatures of a Bolt image verify under the Bolt key chain (R419). -/
opaque boltImageOk : List (BitVec 8) → Bool
/-- The version of a Bolt image (R419). -/
opaque boltVersion : List (BitVec 8) → Nat
/-- The number of a metrological parameter in an audit entry, by the opcode that changes it (R423). -/
opaque boltParam : Nat → Nat
/-- Response byte 8 under status 6, by whether the side is OVERLOAD (R434). -/
opaque rangeSide : Bool → BitVec 8

end Sys2Proof.Config
end

