-- ==== Sys2Proof/Machine/Tab.lean ====
section
/-! DEFINITION. Sparse tables: plain data for everything the specification numbers (memory bytes, registers, cores, streams). A table lists its entries by strictly rising key and lists no entry that equals the default, so equal tables are equal data. -/

namespace Sys2Proof.Machine

/-- A table from numbers to values, in canonical form. -/
abbrev Tab (α : Type) := List (Nat × α)

/-- A byte memory: the host's cells by rising address; an unlisted byte reads 0. -/
abbrev Mem := List Host.Cell

namespace Tab

/-- The value at key `k`; an unlisted key reads as `d`. -/
def get {α : Type} (d : α) : Tab α → Nat → α
  | [], _ => d
  | (j, v) :: t, k => if j = k then v else get d t k

/-- Put `v` at key `k`, keeping the rising order; used only with values that differ from the default. -/
def put {α : Type} : Tab α → Nat → α → Tab α
  | [], k, v => [(k, v)]
  | (j, w) :: t, k, v =>
    if k < j then (k, v) :: (j, w) :: t
    else if j = k then (k, v) :: t
    else (j, w) :: put t k v

/-- Remove key `k`. -/
def del {α : Type} : Tab α → Nat → Tab α
  | [], _ => []
  | (j, w) :: t, k => if j = k then del t k else (j, w) :: del t k

/-- Write `v` at key `k`; writing the default removes the entry. -/
def set {α : Type} [DecidableEq α] (d : α) (t : Tab α) (k : Nat) (v : α) : Tab α :=
  if v = d then del t k else put t k v

/-- Every listed key is at least `n`, keys rise strictly, and no listed value is the default `d`. -/
def wfFrom {α : Type} [DecidableEq α] (d : α) : Nat → Tab α → Bool
  | _, [] => true
  | n, (j, v) :: t => decide (n ≤ j) && decide (v ≠ d) && wfFrom d (j + 1) t

/-- The canonical form of a table whose default is `d`. -/
def wf {α : Type} [DecidableEq α] (d : α) (t : Tab α) : Bool := wfFrom d 0 t

end Tab

/-- The canonical form of a byte memory. -/
def Mem.wf (m : Mem) : Bool := Tab.wf (α := Byte) 0 m

/-- One byte of a memory. -/
def Mem.byte (m : Mem) (a : Nat) : Byte := Tab.get (α := Byte) 0 m a

/-- Store one byte. -/
def Mem.setByte (m : Mem) (a : Nat) (b : Byte) : Mem := Tab.set (α := Byte) 0 m a b

/-- Read `n` bytes from address `a` on. -/
def Mem.read (m : Mem) (a : Nat) : Nat → List Byte
  | 0 => []
  | n + 1 => Mem.byte m a :: Mem.read m (a + 1) n

/-- Store the bytes `bs` from address `a` on. -/
def Mem.write (m : Mem) (a : Nat) : List Byte → Mem
  | [] => m
  | b :: bs => Mem.write (Mem.setByte m a b) (a + 1) bs

end Sys2Proof.Machine
end

