-- ==== Sys2Proof/Machine/Bits.lean ====
section
/-! DEFINITION. Bit fields of register words, little-endian bytes, signed readings and the exact roundings of the specification (R8, R9, R142). -/

namespace Sys2Proof.Machine

/-- The place of a field in a 32-bit word: its lowest bit and its width. -/
structure Fld where
  lo : Nat
  len : Nat
  deriving DecidableEq, Repr

/-- The value of a field. -/
def Fld.get (f : Fld) (w : Word) : Nat := w.toNat / 2 ^ f.lo % 2 ^ f.len

/-- The word with field `f` set to `v` modulo the field's width. -/
def Fld.put (f : Fld) (w : Word) (v : Nat) : Word :=
  BitVec.ofNat 32 (w.toNat % 2 ^ f.lo + (v % 2 ^ f.len) * 2 ^ f.lo
    + w.toNat / 2 ^ (f.lo + f.len) * 2 ^ (f.lo + f.len))

/-- Whether a field is nonzero: the reading of a one-bit flag. -/
def Fld.on (f : Fld) (w : Word) : Bool := f.get w != 0

/-- What a field table allows a field to take (R12). -/
inductive Legal where
  | any
  | range (a b : Nat)
  | aligned (k : Nat)
  | evenIn (a b : Nat)
  deriving DecidableEq, Repr

/-- Whether a value is inside the encodings the field table defines (R12). -/
def Legal.ok : Legal → Nat → Bool
  | .any, _ => true
  | .range a b, v => decide (a ≤ v) && decide (v ≤ b)
  | .aligned k, v => v % k == 0
  | .evenIn a b, v => v % 2 == 0 && decide (a ≤ v) && decide (v ≤ b)

/-- The access codes of R9. -/
inductive Access where
  | rw | ro | wo | w1c | w1s | rc | rwe
  deriving DecidableEq, Repr

/-- One field of a register. -/
structure FieldSpec where
  fld : Fld
  acc : Access
  legal : Legal
  deriving DecidableEq, Repr

/-- One register, or an array of registers: offset, count, stride, words per element, reset value, fields. -/
structure RegSpec where
  off : Nat
  count : Nat
  stride : Nat
  inner : Nat
  reset : Word
  fields : List FieldSpec
  deriving DecidableEq, Repr

/-- Whether the register (array) occupies the word at offset `o`. -/
def RegSpec.hits (r : RegSpec) (o : Nat) : Bool :=
  decide (r.off ≤ o) && decide ((o - r.off) / r.stride < r.count)
    && (o - r.off) % r.stride % 4 == 0 && decide ((o - r.off) % r.stride / 4 < r.inner)

/-- The register at an offset of a block, if any occupies it (R7). -/
def findReg (l : List RegSpec) (o : Nat) : Option RegSpec := l.find? (fun r => r.hits o)

/-- The effect of a write on one field by its access code (R9, R12): `en` is EXPERT_EN of the block.
A WO field reads 0 and keeps nothing; its action is the caller's. -/
def FieldSpec.write (en : Bool) (f : FieldSpec) (new : Word) (old : Word) : Word :=
  let v := f.fld.get new
  match f.acc with
  | .rw => if f.legal.ok v then f.fld.put old v else old
  | .rwe => if en && f.legal.ok v then f.fld.put old v else old
  | .w1c => f.fld.put old (f.fld.get (old &&& ~~~ new))
  | .w1s => f.fld.put old (f.fld.get (old ||| new))
  | .ro | .wo | .rc => old

/-- A whole register write by the field tables: fields in order, reserved bits untouched (R8, R9). -/
def RegSpec.write (en : Bool) (r : RegSpec) (new old : Word) : Word :=
  r.fields.foldl (fun w f => f.write en new w) old

/-- Whether a register has an expert field (R14). -/
def RegSpec.expert (r : RegSpec) : Bool := r.fields.any (fun f => f.acc == .rwe)

/-! ### Words and bytes -/

/-- The natural number of little-endian bytes. -/
def leNat : List Byte → Nat
  | [] => 0
  | b :: bs => b.toNat + 256 * leNat bs

/-- The `n` little-endian bytes of a number. -/
def natLE : Nat → Nat → List Byte
  | 0, _ => []
  | n + 1, v => BitVec.ofNat 8 v :: natLE n (v / 256)

/-- The little-endian bytes of a number that take `n` bytes, read from a byte list at `o`. -/
def leAt (bs : List Byte) (o n : Nat) : Nat := leNat ((bs.drop o).take n)

/-- A 32-bit word of a number, modulo 2^32. -/
def wd (n : Nat) : Word := BitVec.ofNat 32 n

/-- The signed 32-bit wrap of an integer. -/
def wi (n : Int) : Word := BitVec.ofInt 32 n

/-- A Bool as a number. -/
def b2n (b : Bool) : Nat := if b then 1 else 0

/-- The two's complement reading of the low `w` bits of a number. -/
def sgn (w v : Nat) : Int :=
  let u := v % 2 ^ w
  if u < 2 ^ (w - 1) then (u : Int) else (u : Int) - (2 ^ w : Nat)

/-- An integer clamped to `[lo, hi]`. -/
def clampI (lo hi x : Int) : Int := if x < lo then lo else if hi < x then hi else x

/-- The smallest and the largest signed value of `w` bits. -/
def sMin (w : Nat) : Int := - ((2 ^ (w - 1) : Nat) : Int)
/-- The largest signed value of `w` bits. -/
def sMax (w : Nat) : Int := ((2 ^ (w - 1) : Nat) : Int) - 1

/-- The quotient rounded to the nearest integer, halves to even, by a positive divisor (R142). -/
def rneDiv (x : Int) (d : Nat) : Int :=
  let q := x / (d : Int)
  let r := x % (d : Int)
  if 2 * r < d then q else if 2 * r > d then q + 1 else if q % 2 = 0 then q else q + 1

/-- A right shift rounded half to even: `rne(x / 2^n)` (R142). -/
def rneShift (x : Int) (n : Nat) : Int := rneDiv x (2 ^ n)

/-- A 64-bit number's low word. -/
def lo32 (n : Nat) : Word := wd (n % 2 ^ 32)
/-- A 64-bit number's high word. -/
def hi32 (n : Nat) : Word := wd (n / 2 ^ 32)

end Sys2Proof.Machine
end

