-- ==== Sys2Proof/Machine/RegMap.lean ====
section
/-! DEFINITION. The register maps of the specification: the offset of every register within its block, the place of every field, and each field's access code and legal values. One list per block, in the order of the map of that block's rule. -/

namespace Sys2Proof.Machine

/-! ### Offsets within a block -/

namespace Off

/-! Block `core`. -/
def CORE_ID : Nat := 0x0
def CORE_CTRL : Nat := 0x4
def CORE_STATUS : Nat := 0x8
def CORE_JOB : Nat := 0xC
def CORE_PC : Nat := 0x10
def CORE_CAUSE : Nat := 0x14
def FAULT_ADDR_LO : Nat := 0x18
def FAULT_ADDR_HI : Nat := 0x1C
def CYCLE_LO : Nat := 0x20
def CYCLE_HI : Nat := 0x24
def QUEUE_STATUS : Nat := 0x28
def MBX_STATUS : Nat := 0x2C
def STALL_LIMIT : Nat := 0x30
def HOLD_STATUS : Nat := 0x34
def IMEM_VALID : Nat := 0x38
def PARITY_REFETCH : Nat := 0x3C
def STALL_DEP : Nat := 0x40
def STALL_QFULL : Nat := 0x44
def STALL_WAIT : Nat := 0x48
def STALL_FETCH : Nat := 0x4C
def MBX_IN (n : Nat) : Nat := 0x50 + 0x4 * n
def OVL_SRC_LO (n : Nat) : Nat := 0x100 + 0x8 * n
def OVL_SRC_HI (n : Nat) : Nat := 0x104 + 0x8 * n
def EXPERT_EN : Nat := 0x8000
def DBG_CTRL : Nat := 0x8004
def MU_STATUS : Nat := 0x1000
def MU_SPARE : Nat := 0x1004
def MU_DONE : Nat := 0x1008
def MU_ARRAY_CYC : Nat := 0x100C
def MU_STALL_FEED : Nat := 0x1010
def MU_RAMP_LOST : Nat := 0x1014
def MU_SAT : Nat := 0x1018
def MU_CTRL : Nat := 0x101C
def MU_EXP : Nat := 0x9000
def VE_SAT : Nat := 0x1100
def VE_LUT_CLAMP : Nat := 0x1104
def VE_BANK_EXTRA : Nat := 0x1108
def VE_ACC_LD : Nat := 0x110C
def VE_CTRL : Nat := 0x1110
def STAT_CFG (n : Nat) : Nat := 0x1200 + 0x20 * n
def STAT_DRIFT (n : Nat) : Nat := 0x1204 + 0x20 * n
def STAT_MAXABS (n : Nat) : Nat := 0x1208 + 0x20 * n
def STAT_SQERR_LO (n : Nat) : Nat := 0x120C + 0x20 * n
def STAT_SQERR_HI (n : Nat) : Nat := 0x1210 + 0x20 * n
def STAT_SATS (n : Nat) : Nat := 0x1214 + 0x20 * n
def STAT_ELEMS (n : Nat) : Nat := 0x1218 + 0x20 * n
def STAT_WIN (n : Nat) : Nat := 0x121C + 0x20 * n
def STAT_CTRL : Nat := 0x1300
def SP_GATE : Nat := 0x1400
def SP_STATUS : Nat := 0x1404
def SP_PD_READS : Nat := 0x1408
def SP_CONFLICTS : Nat := 0x140C
def SP_ECC_CE : Nat := 0x1410
def SP_GB_FLUSH : Nat := 0x1414
def SP_DMA_WAIT : Nat := 0x1418
def SP_CTRL : Nat := 0x141C
def CW_CFG (n : Nat) : Nat := 0x1440 + 0x10 * n
def CW_BASE (n : Nat) : Nat := 0x1444 + 0x10 * n
def CW_AVAIL (n : Nat) : Nat := 0x1448 + 0x10 * n
def CW_RETURN (n : Nat) : Nat := 0x144C + 0x10 * n
def SP_EXP : Nat := 0x9400
def DMA_STATUS : Nat := 0x1500
def DMA_DONE : Nat := 0x1504
def DMA_UNITS : Nat := 0x1508
def DMA_TAG_WAIT : Nat := 0x150C
def DMA_CREDIT_WAIT : Nat := 0x1510
def DMA_FWD_UNITS : Nat := 0x1514
def DMA_CTRL : Nat := 0x1518
def RING_CFG (n : Nat) : Nat := 0x1600 + 0x20 * n
def RING_BASE_LO (n : Nat) : Nat := 0x1604 + 0x20 * n
def RING_BASE_HI (n : Nat) : Nat := 0x1608 + 0x20 * n
def RING_PTR (n : Nat) : Nat := 0x160C + 0x20 * n
def RING_HELD (n : Nat) : Nat := 0x1610 + 0x20 * n
def RING_STATUS (n : Nat) : Nat := 0x1614 + 0x20 * n
def DMA_EXP : Nat := 0x9500
/-! Block `seq`. -/
def CS_STATUS : Nat := 0x0
def CS_CORE_STATE (n : Nat) : Nat := 0x4 + 0x4 * n
def CS_QJOB (n : Nat) : Nat := 0x10 + 0x4 * n
def CS_PREEMPT : Nat := 0x20
def CS_TICK_LO : Nat := 0x24
def CS_TICK_HI : Nat := 0x28
def CS_REC_QUEUE : Nat := 0x2C
def CS_RECORDS : Nat := 0x30
def CS_OVL_LOADS : Nat := 0x34
def CS_PLACEMENTS : Nat := 0x38
def CS_CTRL : Nat := 0x3C
/-! Block `hbm`. -/
def HBM_ID : Nat := 0x0
def HBM_STATUS : Nat := 0x4
def HBM_TEMP : Nat := 0x8
def HBM_CE : Nat := 0xC
def HBM_UE : Nat := 0x10
def HBM_ODECC : Nat := 0x14
def HBM_RMW : Nat := 0x18
def HBM_RFM : Nat := 0x1C
def HBM_LAST_UE_LO : Nat := 0x20
def HBM_LAST_UE_HI : Nat := 0x24
def HBM_SCRUB_CFG : Nat := 0x28
def HBM_SCRUB_POS : Nat := 0x2C
def HBM_SCRUB_SWEEPS : Nat := 0x30
def HBM_REPAIR : Nat := 0x34
def HBM_CTRL : Nat := 0x38
def HBM_EXP : Nat := 0x8004
/-! Block `mesh`. -/
def MESH_STATUS : Nat := 0x0
def MESH_CE : Nat := 0x4
def MESH_BR_OUT : Nat := 0x8
def MESH_BR_IN : Nat := 0xC
def MESH_BR_REPLAY : Nat := 0x10
def MESH_LINK_SEL : Nat := 0x14
def MESH_LINK_FLITS : Nat := 0x18
def MESH_CTRL : Nat := 0x1C
def MESH_EXP : Nat := 0x8004
/-! Block `latch`. -/
def LU_STATUS : Nat := 0x0
def LU_OPS : Nat := 0x4
def LU_REFUSED : Nat := 0x8
def LU_TIMEOUTS : Nat := 0xC
def LU_NOTIFY_WAIT : Nat := 0x10
def LU_CTRL : Nat := 0x14
def LU_PAIR : Nat := 0x18
def LH_WORD : Nat := 0x20
def LH_OPND : Nat := 0x24
def LH_OPND2 : Nat := 0x28
def LH_CMD : Nat := 0x2C
def LH_RESULT_LO : Nat := 0x30
def LH_RESULT_HI : Nat := 0x34
def FWD_CFG (n : Nat) : Nat := 0x1000 + 0x10 * n
def FWD_TARGET (n : Nat) : Nat := 0x1004 + 0x10 * n
def FWD_DEST (n : Nat) : Nat := 0x1008 + 0x10 * n
def FWD_MASK (n : Nat) : Nat := 0x100C + 0x10 * n
def LU_EXP : Nat := 0x8004
/-! Block `sch`. -/
def ST_BASE_LO (n : Nat) : Nat := 0x0 + 0x8 * n
def ST_BASE_HI (n : Nat) : Nat := 0x4 + 0x8 * n
def ST_STATUS : Nat := 0x10
def ST_CMD : Nat := 0x14
def ST_RESULT : Nat := 0x18
def ADMIT_CLK : Nat := 0x1C
def ST_STAGE (n : Nat) : Nat := 0x40 + 0x4 * n
def BAT_CFG (n : Nat) : Nat := 0x1000 + 0x20 * n
def BAT_SIZE (n : Nat) : Nat := 0x1004 + 0x20 * n
def BAT_AREA_LO (n : Nat) : Nat := 0x1008 + 0x20 * n
def BAT_AREA_HI (n : Nat) : Nat := 0x100C + 0x20 * n
def BAT_BE_WAIT (n : Nat) : Nat := 0x1010 + 0x20 * n
def BAT_STATUS (n : Nat) : Nat := 0x1014 + 0x20 * n
def BAT_PASSES (n : Nat) : Nat := 0x1018 + 0x20 * n
def BAT_MISSES (n : Nat) : Nat := 0x101C + 0x20 * n
def JOB_CMD : Nat := 0x1400
def JOB_RESULT : Nat := 0x1404
def BE_SLICE : Nat := 0x1408
def JOB_STAGE (n : Nat) : Nat := 0x1410 + 0x4 * n
def ACC_WAITS (n : Nat) : Nat := 0x2000 + 0x40 * n
def ACC_WAIT_SUM_LO (n : Nat) : Nat := 0x2004 + 0x40 * n
def ACC_WAIT_SUM_HI (n : Nat) : Nat := 0x2008 + 0x40 * n
def ACC_WAIT_MAX (n : Nat) : Nat := 0x200C + 0x40 * n
def ACC_PREEMPTS (n : Nat) : Nat := 0x2010 + 0x40 * n
def ACC_PREEMPT_TIME_LO (n : Nat) : Nat := 0x2014 + 0x40 * n
def ACC_PREEMPT_TIME_HI (n : Nat) : Nat := 0x2018 + 0x40 * n
def ACC_HIST (n i : Nat) : Nat := 0x2020 + 0x40 * n + 4 * i
def ACC_CTRL : Nat := 0x2800
def JOB_STATE (n : Nat) : Nat := 0x3000 + 0x4 * n
def SCH_EXP : Nat := 0x8004
def SCH_EXP2 : Nat := 0x8008
/-! Block `sc`. -/
def SC_STATUS : Nat := 0x0
def SC_TICK_LO : Nat := 0x4
def SC_TICK_HI : Nat := 0x8
def SC_STREAMS : Nat := 0xC
def SC_SUSPECT : Nat := 0x10
def SC_INFLIGHT : Nat := 0x14
def SC_DISPATCHES : Nat := 0x18
def SC_COMPLETIONS : Nat := 0x1C
def SC_FAILED : Nat := 0x20
def SC_CTRL : Nat := 0x24
/-! Block `gctl`. -/
def DEV_ID_LO : Nat := 0x0
def DEV_ID_HI : Nat := 0x4
def DEV_INFO : Nat := 0x8
def DEV_RESET : Nat := 0xC
def EP_CTRL : Nat := 0x100
def EP_ARG : Nat := 0x104
def EP_STATUS : Nat := 0x108
def EP_UNIT (n : Nat) : Nat := 0x110 + 0x4 * n
/-! Block `apt`. -/
def AP_CTRL : Nat := 0x0
def AP_FMT : Nat := 0x4
def AP_STATUS : Nat := 0x8
def AP_FRAME_LO : Nat := 0xC
def AP_FRAME_HI : Nat := 0x10
def AP_PACE : Nat := 0x14
def AP_TRIM : Nat := 0x18
def AP_SLIP_DROP : Nat := 0x1C
def AP_SLIP_REP : Nat := 0x20
def AP_MIX_SLIPS : Nat := 0x24
def AP_UNDERRUNS : Nat := 0x28
def AP_OVERRUNS : Nat := 0x2C
def AP_CNT_CTRL : Nat := 0x30
def SLOT_CAP (n : Nat) : Nat := 0x400 + 0x40 * n
def SLOT_PB (n : Nat) : Nat := 0x404 + 0x40 * n
def SLOT_PB_SRC (n : Nat) : Nat := 0x408 + 0x40 * n
def PB_BASE_LO (n : Nat) : Nat := 0x40C + 0x40 * n
def PB_BASE_HI (n : Nat) : Nat := 0x410 + 0x40 * n
def PB_SIZE (n : Nat) : Nat := 0x414 + 0x40 * n
def PB_WR (n : Nat) : Nat := 0x418 + 0x40 * n
def PB_RD (n : Nat) : Nat := 0x41C + 0x40 * n
def SLOT_STATE (n : Nat) : Nat := 0x420 + 0x40 * n
def AP_DIV_INT : Nat := 0x8004
def AP_DIV_FRAC : Nat := 0x8008
def AP_KP : Nat := 0x800C
def AP_KI : Nat := 0x8010
def AP_MARKS : Nat := 0x8014
/-! Block `vpt`. -/
def VP_CTRL : Nat := 0x0
def VP_CFG : Nat := 0x4
def VP_LATE : Nat := 0x34
def VP_DIV_INT : Nat := 0x8004
def VP_DIV_FRAC : Nat := 0x8008
/-! Block `apg`. -/
def APG_CTRL : Nat := 0x0
def APG_MEMBERS (n : Nat) : Nat := 0x10 + 0x4 * n
def APG_STATUS (n : Nat) : Nat := 0x20 + 0x4 * n
def APLL_CTRL : Nat := 0x30
def APLL_STATUS : Nat := 0x34
def AW_GLITCHES : Nat := 0x38
def AW_STOPS : Nat := 0x3C
def AW_OFFSET : Nat := 0x40
def APG_CNT_CTRL : Nat := 0x44
def APG_DIV_INT (n : Nat) : Nat := 0x8010 + 0x8 * n
def APG_DIV_FRAC (n : Nat) : Nat := 0x8014 + 0x8 * n
/-! Block `fin`. -/
def FIN_STATUS : Nat := 0x0
def FIN_LOAD (n : Nat) : Nat := 0x10 + 0x4 * n
def OUT_WAIT : Nat := 0x20
def FIN_CTRL : Nat := 0x24
def CAM_CFG (n : Nat) : Nat := 0x1000 + 0x40 * n
def CAM_SRC (n : Nat) : Nat := 0x1004 + 0x40 * n
def BS_BASE_LO (n : Nat) : Nat := 0x1008 + 0x40 * n
def BS_BASE_HI (n : Nat) : Nat := 0x100C + 0x40 * n
def BS_SIZE (n : Nat) : Nat := 0x1010 + 0x40 * n
def FB_BASE_LO (n : Nat) : Nat := 0x1014 + 0x40 * n
def FB_BASE_HI (n : Nat) : Nat := 0x1018 + 0x40 * n
def FB_CFG (n : Nat) : Nat := 0x101C + 0x40 * n
def CAM_GEOM (n : Nat) : Nat := 0x1020 + 0x40 * n
def CAM_STATUS (n : Nat) : Nat := 0x1024 + 0x40 * n
def CAM_FRAME (n : Nat) : Nat := 0x1028 + 0x40 * n
def CAM_DROPS (n : Nat) : Nat := 0x102C + 0x40 * n
def OUT_CFG (n : Nat) : Nat := 0x4000 + 0x20 * n
def OUT_CROP (n : Nat) : Nat := 0x4004 + 0x20 * n
def OUT_CROP_SIZE (n : Nat) : Nat := 0x4008 + 0x20 * n
def OUT_SIZE (n : Nat) : Nat := 0x400C + 0x20 * n
def OUT_DEST (n : Nat) : Nat := 0x4010 + 0x20 * n
def OUT_BIND (n : Nat) : Nat := 0x4014 + 0x20 * n
def OUT_LAST (n : Nat) : Nat := 0x4018 + 0x20 * n
def OUT_DROPS (n : Nat) : Nat := 0x401C + 0x20 * n
def FIN_EXP : Nat := 0x8004
/-! Block `opt`. -/
def OPT_BOND : Nat := 0x0
def OPT_CREDIT_LIMIT : Nat := 0x4
def CASE_STATUS (n : Nat) : Nat := 0x10 + 0x10 * n
def PANE_CTRL (n : Nat) : Nat := 0x100 + 0x80 * n
def PANE_STATUS (n : Nat) : Nat := 0x104 + 0x80 * n
def PANE_PEER_LO (n : Nat) : Nat := 0x108 + 0x80 * n
def PANE_PEER_HI (n : Nat) : Nat := 0x10C + 0x80 * n
def PANE_PEER_INFO (n : Nat) : Nat := 0x110 + 0x80 * n
def FRAMES_TX (n : Nat) : Nat := 0x120 + 0x80 * n
def FRAMES_RX (n : Nat) : Nat := 0x124 + 0x80 * n
def CRC_ERR (n : Nat) : Nat := 0x128 + 0x80 * n
def FEC_CORR (n : Nat) : Nat := 0x12C + 0x80 * n
def FEC_UNCORR (n : Nat) : Nat := 0x130 + 0x80 * n
def SEQ_GAP (n : Nat) : Nat := 0x134 + 0x80 * n
def REPLAYS (n : Nat) : Nat := 0x138 + 0x80 * n
def DROPS (n : Nat) : Nat := 0x13C + 0x80 * n
def CREDIT_STALL (n : Nat) : Nat := 0x140 + 0x80 * n
def DOWNS (n : Nat) : Nat := 0x144 + 0x80 * n
def PANE_CNT_CTRL (n : Nat) : Nat := 0x148 + 0x80 * n
def OPT_EXP : Nat := 0x8004
/-! Block `mir`. -/
def MIR_CFG : Nat := 0x0
def MIR_STATUS : Nat := 0x4
def MIR_CMD : Nat := 0x8
def MIR_RESULT : Nat := 0xC
def MIR_STAGE_LO (n : Nat) : Nat := 0x10 + 0xC * n
def MIR_STAGE_HI (n : Nat) : Nat := 0x14 + 0xC * n
def MIR_STAGE_SIZE (n : Nat) : Nat := 0x18 + 0xC * n
def MIR_UNMIRRORED : Nat := 0x30
def MIR_SNAPS : Nat := 0x34
def MIR_SKIPS : Nat := 0x38
def MIR_REJECTS : Nat := 0x3C
def MIR_HB_MISSED : Nat := 0x40
def MIR_CNT_CTRL : Nat := 0x44
def MIR_EXP : Nat := 0x8004
/-! Block `boltMb`. -/
def MB_DOORBELL (n : Nat) : Nat := 0x0 + 0x800 * n
def MB_STATUS (n : Nat) : Nat := 0x4 + 0x800 * n
def MB_EVENT : Nat := 0x808
def MB_REQ (n i : Nat) : Nat := 0x40 + 0x800 * n + 4 * i
def MB_RSP (n i : Nat) : Nat := 0x400 + 0x800 * n + 4 * i
/-! Block `hif`. -/
def HIF_STATUS : Nat := 0x0
def HIF_STEPPED : Nat := 0x4
def HIF_HOST_ERR : Nat := 0x8
def SMB_CFG : Nat := 0xC
def ALLOT (n : Nat) : Nat := 0x100 + 0x4 * n
def ALLOT_STATUS : Nat := 0x180
def HIF_EXP : Nat := 0x8004
/-! Block `ring`. -/
def WB_LO : Nat := 0x60
def WB_HI : Nat := 0x64
def TW_DEV_LO (n : Nat) : Nat := 0x100 + 0x20 * n
def TW_DEV_HI (n : Nat) : Nat := 0x104 + 0x20 * n
def TW_HOST_LO (n : Nat) : Nat := 0x108 + 0x20 * n
def TW_HOST_HI (n : Nat) : Nat := 0x10C + 0x20 * n
def TW_CFG (n : Nat) : Nat := 0x110 + 0x20 * n
def MSIX_ADDR_LO (n : Nat) : Nat := 0x3000 + 0x10 * n
def MSIX_ADDR_HI (n : Nat) : Nat := 0x3004 + 0x10 * n
def MSIX_DATA (n : Nat) : Nat := 0x3008 + 0x10 * n
def MSIX_CTRL (n : Nat) : Nat := 0x300C + 0x10 * n
def MSIX_PBA (n : Nat) : Nat := 0x3800 + 0x4 * n
/-! Block `rset`. -/
def X_BASE_LO : Nat := 0x0
def X_BASE_HI : Nat := 0x4
def X_CFG : Nat := 0x8
def X_HPOS : Nat := 0xC
def X_DPOS : Nat := 0x10
def X_STATUS : Nat := 0x14
def X_COUNT : Nat := 0x18
/-! Block `boot`. -/
def BOOT_STATUS : Nat := 0x0
def BOOT_COUNT : Nat := 0x4
def BOOT_OUTCOME : Nat := 0x8
def BOOT_MARKS : Nat := 0xC
def BOOT_CTRL : Nat := 0x10
def BOOT_TIME : Nat := 0x14
def CFG_APPLIED : Nat := 0x18
def CAL_CMD : Nat := 0x20
def CAL_STATUS : Nat := 0x24
def CAL_BUF (n : Nat) : Nat := 0x1000 + 0x4 * n
def BOOT_EXP : Nat := 0x8004
/-! Block `sec`. -/
def SEC_STATUS : Nat := 0x0
def SEC_LOCK0 : Nat := 0x4
def SEC_LOCK1 : Nat := 0x8
def SEC_CTRL : Nat := 0x10
def SEC_NONCE (n : Nat) : Nat := 0x20 + 0x4 * n
def SEC_REPORT_LEN : Nat := 0x40
def SEC_REPORT (n : Nat) : Nat := 0x10000 + 0x4 * n
/-! Block `pwr`. -/
def PWR_DEVSTATE : Nat := 0x0
def PWR_DOZE : Nat := 0x4
def PWR_DOZE_IDLE : Nat := 0x8
def PWR_GOV_CFG : Nat := 0xC
def PWR_GOV_STATUS : Nat := 0x10
def PWR_CEIL : Nat := 0x14
def PWR_VIN : Nat := 0x18
def PWR_STEPS : Nat := 0x1C
def PWR_CNT_CTRL : Nat := 0x20
def PWR_DOM (n : Nat) : Nat := 0x100 + 0x4 * n
def PWR_EXP : Nat := 0x8004
/-! Block `tel`. -/
def TEL_STATUS : Nat := 0x0
def TEL_LOG_HEAD : Nat := 0x4
def TEL_LOG_TAIL : Nat := 0x8
def TEL_LOG_LOST : Nat := 0xC
def TEL_SRC_DROPS : Nat := 0x10
def TEL_SUSPECT_CTRL : Nat := 0x14
def TEL_SUSPECT_CMD : Nat := 0x18
def TEL_CNT_CTRL : Nat := 0x1C
def TEL_TEMP_MAX : Nat := 0x20
def TEL_TEMP (n : Nat) : Nat := 0x100 + 0x4 * n
def TEL_RAIL (n : Nat) : Nat := 0x180 + 0x4 * n
def TEL_LOG (n : Nat) : Nat := 0x10000 + 0x4 * n
def TEL_EXP : Nat := 0x8004

end Off

/-! ### Fields -/

namespace Fl

def CORE_ID_LCORE : Fld := ⟨0, 9⟩
def CORE_ID_CLUSTER : Fld := ⟨16, 5⟩
def CORE_ID_PHYS : Fld := ⟨24, 5⟩
def CORE_ID_SIDE : Fld := ⟨31, 1⟩
def CORE_CTRL_START : Fld := ⟨0, 1⟩
def CORE_CTRL_HALT_REQ : Fld := ⟨1, 1⟩
def CORE_CTRL_RESET : Fld := ⟨2, 1⟩
def CORE_CTRL_START_PC : Fld := ⟨16, 12⟩
def CORE_STATUS_STATE : Fld := ⟨0, 3⟩
def CORE_STATUS_WAIT : Fld := ⟨4, 3⟩
def CORE_STATUS_PREEMPT_PEND : Fld := ⟨8, 1⟩
def CORE_STATUS_FORCED : Fld := ⟨9, 1⟩
def CORE_JOB_JOB : Fld := ⟨0, 8⟩
def CORE_JOB_JOB_VALID : Fld := ⟨8, 1⟩
def CORE_JOB_PLAN : Fld := ⟨16, 16⟩
def CORE_PC_PC : Fld := ⟨0, 12⟩
def CORE_CAUSE_CAUSE : Fld := ⟨0, 8⟩
def CORE_CAUSE_SLOT : Fld := ⟨8, 2⟩
def FAULT_ADDR_LO_VALUE : Fld := ⟨0, 32⟩
def FAULT_ADDR_HI_VALUE : Fld := ⟨0, 16⟩
def CYCLE_LO_VALUE : Fld := ⟨0, 32⟩
def CYCLE_HI_VALUE : Fld := ⟨0, 32⟩
def QUEUE_STATUS_MQ : Fld := ⟨0, 4⟩
def QUEUE_STATUS_DQ : Fld := ⟨4, 5⟩
def QUEUE_STATUS_LQ : Fld := ⟨9, 4⟩
def QUEUE_STATUS_SQ : Fld := ⟨13, 3⟩
def MBX_STATUS_TOTAL : Fld := ⟨0, 5⟩
def MBX_STATUS_RESV : Fld := ⟨5, 3⟩
def MBX_STATUS_INJ_DROP : Fld := ⟨16, 1⟩
def STALL_LIMIT_TICKS : Fld := ⟨0, 24⟩
def HOLD_STATUS_SEM_HOLD : Fld := ⟨0, 8⟩
def HOLD_STATUS_CREDIT_GRANTS : Fld := ⟨8, 8⟩
def IMEM_VALID_SEG_VALID : Fld := ⟨0, 16⟩
def PARITY_REFETCH_COUNT : Fld := ⟨0, 32⟩
def STALL_DEP_COUNT : Fld := ⟨0, 32⟩
def STALL_QFULL_COUNT : Fld := ⟨0, 32⟩
def STALL_WAIT_COUNT : Fld := ⟨0, 32⟩
def STALL_FETCH_COUNT : Fld := ⟨0, 32⟩
def MBX_IN_DATA : Fld := ⟨0, 32⟩
def OVL_SRC_LO_VALUE : Fld := ⟨0, 32⟩
def OVL_SRC_HI_VALUE : Fld := ⟨0, 16⟩
def EXPERT_EN : Fld := ⟨0, 1⟩
def DBG_CTRL_SSTEP : Fld := ⟨0, 1⟩
def DBG_CTRL_PAR_INJECT : Fld := ⟨8, 1⟩
def MU_STATUS_BUSY : Fld := ⟨0, 1⟩
def MU_STATUS_LEVEL : Fld := ⟨1, 3⟩
def MU_STATUS_FILLER : Fld := ⟨4, 1⟩
def MU_STATUS_PEND : Fld := ⟨5, 1⟩
def MU_STATUS_ROWS : Fld := ⟨8, 4⟩
def MU_STATUS_P : Fld := ⟨12, 2⟩
def MU_SPARE_USED : Fld := ⟨0, 4⟩
def MU_SPARE_COL : Fld := ⟨8, 8⟩
def MU_DONE_COUNT : Fld := ⟨0, 32⟩
def MU_ARRAY_CYC_COUNT : Fld := ⟨0, 32⟩
def MU_STALL_FEED_COUNT : Fld := ⟨0, 32⟩
def MU_RAMP_LOST_COUNT : Fld := ⟨0, 32⟩
def MU_SAT_COUNT : Fld := ⟨0, 32⟩
def MU_CTRL_CNT_CLR : Fld := ⟨0, 1⟩
def MU_EXP_RAMP_DIS : Fld := ⟨0, 1⟩
def VE_SAT_COUNT : Fld := ⟨0, 32⟩
def VE_LUT_CLAMP_COUNT : Fld := ⟨0, 32⟩
def VE_BANK_EXTRA_COUNT : Fld := ⟨0, 32⟩
def VE_ACC_LD_COUNT : Fld := ⟨0, 32⟩
def VE_CTRL_CNT_CLR : Fld := ⟨0, 1⟩
def STAT_CFG_EN : Fld := ⟨0, 1⟩
def STAT_CFG_DRIFT_EN : Fld := ⟨1, 1⟩
def STAT_CFG_SQERR_SAT : Fld := ⟨4, 1⟩
def STAT_CFG_WIN_LOG2 : Fld := ⟨8, 5⟩
def STAT_CFG_TENSOR : Fld := ⟨16, 16⟩
def STAT_DRIFT_FRAC : Fld := ⟨0, 16⟩
def STAT_MAXABS_VALUE : Fld := ⟨0, 32⟩
def STAT_SQERR_LO_VALUE : Fld := ⟨0, 32⟩
def STAT_SQERR_HI_VALUE : Fld := ⟨0, 32⟩
def STAT_SATS_COUNT : Fld := ⟨0, 32⟩
def STAT_ELEMS_COUNT : Fld := ⟨0, 32⟩
def STAT_WIN_ELEMS : Fld := ⟨0, 32⟩
def STAT_CTRL_CLR : Fld := ⟨0, 8⟩
def SP_GATE_WM_ON : Fld := ⟨0, 4⟩
def SP_GATE_AM_ON : Fld := ⟨4, 2⟩
def SP_GATE_ZEROING : Fld := ⟨8, 1⟩
def SP_STATUS_PD_READ : Fld := ⟨0, 1⟩
def SP_STATUS_PD_WRITE : Fld := ⟨1, 1⟩
def SP_STATUS_CONFLICT : Fld := ⟨2, 1⟩
def SP_STATUS_CW_OVER : Fld := ⟨3, 1⟩
def SP_STATUS_CW_BAD : Fld := ⟨4, 1⟩
def SP_STATUS_GB_LINES : Fld := ⟨8, 4⟩
def SP_PD_READS_COUNT : Fld := ⟨0, 32⟩
def SP_CONFLICTS_COUNT : Fld := ⟨0, 32⟩
def SP_ECC_CE_COUNT : Fld := ⟨0, 32⟩
def SP_GB_FLUSH_COUNT : Fld := ⟨0, 32⟩
def SP_DMA_WAIT_COUNT : Fld := ⟨0, 32⟩
def SP_CTRL_CNT_CLR : Fld := ⟨0, 1⟩
def CW_CFG_EN : Fld := ⟨0, 1⟩
def CW_CFG_RING_BIND : Fld := ⟨1, 1⟩
def CW_CFG_RING : Fld := ⟨2, 4⟩
def CW_CFG_SIZE : Fld := ⟨16, 11⟩
def CW_BASE_BASE : Fld := ⟨0, 24⟩
def CW_AVAIL_AVAIL : Fld := ⟨0, 11⟩
def CW_AVAIL_WAITING : Fld := ⟨12, 10⟩
def CW_AVAIL_HEAD : Fld := ⟨22, 9⟩
def CW_AVAIL_HEAD_VALID : Fld := ⟨31, 1⟩
def CW_RETURN_COUNT : Fld := ⟨0, 11⟩
def SP_EXP_GB_AGE : Fld := ⟨0, 8⟩
def SP_EXP_ECC_INJ : Fld := ⟨8, 2⟩
def DMA_STATUS_ACTIVE : Fld := ⟨0, 3⟩
def DMA_STATUS_TAGS : Fld := ⟨8, 7⟩
def DMA_STATUS_GRANTS : Fld := ⟨16, 4⟩
def DMA_STATUS_FWD : Fld := ⟨20, 4⟩
def DMA_DONE_COUNT : Fld := ⟨0, 32⟩
def DMA_UNITS_COUNT : Fld := ⟨0, 32⟩
def DMA_TAG_WAIT_COUNT : Fld := ⟨0, 32⟩
def DMA_CREDIT_WAIT_COUNT : Fld := ⟨0, 32⟩
def DMA_FWD_UNITS_COUNT : Fld := ⟨0, 32⟩
def DMA_CTRL_CNT_CLR : Fld := ⟨0, 1⟩
def RING_CFG_EN : Fld := ⟨0, 1⟩
def RING_CFG_MODE : Fld := ⟨1, 2⟩
def RING_CFG_SLOTS : Fld := ⟨16, 7⟩
def RING_BASE_LO_BASE : Fld := ⟨0, 32⟩
def RING_BASE_HI_BASE : Fld := ⟨0, 16⟩
def RING_PTR_HEAD : Fld := ⟨0, 6⟩
def RING_PTR_TAIL : Fld := ⟨8, 6⟩
def RING_PTR_FILLED : Fld := ⟨16, 7⟩
def RING_HELD_PHELD : Fld := ⟨0, 7⟩
def RING_HELD_CHELD : Fld := ⟨8, 7⟩
def RING_HELD_SLOT_SIZE : Fld := ⟨16, 12⟩
def RING_STATUS_OVER : Fld := ⟨0, 1⟩
def RING_STATUS_UNDER : Fld := ⟨1, 1⟩
def RING_STATUS_BAD : Fld := ⟨2, 1⟩
def DMA_EXP_TAG_LIMIT : Fld := ⟨0, 7⟩
def CS_STATUS_READY : Fld := ⟨0, 1⟩
def CS_STATUS_ZEROING : Fld := ⟨1, 1⟩
def CS_STATUS_SWITCHING : Fld := ⟨2, 1⟩
def CS_STATUS_STOPPING : Fld := ⟨3, 1⟩
def CS_CORE_STATE_STATES : Fld := ⟨0, 24⟩
def CS_QJOB_JOB : Fld := ⟨0, 8⟩
def CS_QJOB_VALID : Fld := ⟨8, 1⟩
def CS_QJOB_PLAN : Fld := ⟨16, 16⟩
def CS_PREEMPT_PEND : Fld := ⟨0, 16⟩
def CS_PREEMPT_FORCED : Fld := ⟨16, 16⟩
def CS_TICK_LO_COUNT : Fld := ⟨0, 32⟩
def CS_TICK_HI_COUNT : Fld := ⟨0, 32⟩
def CS_REC_QUEUE_WAITING : Fld := ⟨0, 4⟩
def CS_RECORDS_COUNT : Fld := ⟨0, 32⟩
def CS_OVL_LOADS_COUNT : Fld := ⟨0, 32⟩
def CS_PLACEMENTS_COUNT : Fld := ⟨0, 32⟩
def CS_CTRL_CNT_CLR : Fld := ⟨0, 1⟩
def HBM_ID_GIB : Fld := ⟨0, 8⟩
def HBM_ID_PCS : Fld := ⟨8, 8⟩
def HBM_ID_MAKER : Fld := ⟨16, 16⟩
def HBM_STATUS_READY : Fld := ⟨0, 1⟩
def HBM_STATUS_QUIET : Fld := ⟨1, 1⟩
def HBM_STATUS_SELF_REFRESH : Fld := ⟨2, 1⟩
def HBM_STATUS_TCR_ACTIVE : Fld := ⟨3, 1⟩
def HBM_STATUS_ZEROING : Fld := ⟨4, 1⟩
def HBM_STATUS_PAUSE : Fld := ⟨5, 1⟩
def HBM_STATUS_CONTAINED : Fld := ⟨6, 1⟩
def HBM_TEMP_NOW : Fld := ⟨0, 8⟩
def HBM_TEMP_PEAK : Fld := ⟨8, 8⟩
def HBM_CE_COUNT : Fld := ⟨0, 32⟩
def HBM_UE_COUNT : Fld := ⟨0, 32⟩
def HBM_ODECC_COUNT : Fld := ⟨0, 32⟩
def HBM_RMW_COUNT : Fld := ⟨0, 32⟩
def HBM_RFM_COUNT : Fld := ⟨0, 32⟩
def HBM_LAST_UE_LO_OFFSET : Fld := ⟨0, 32⟩
def HBM_LAST_UE_HI_OFFSET : Fld := ⟨0, 2⟩
def HBM_LAST_UE_HI_VALID : Fld := ⟨31, 1⟩
def HBM_SCRUB_CFG_EN : Fld := ⟨0, 1⟩
def HBM_SCRUB_CFG_PERIOD : Fld := ⟨4, 17⟩
def HBM_SCRUB_POS_UNIT : Fld := ⟨0, 26⟩
def HBM_SCRUB_SWEEPS_COUNT : Fld := ⟨0, 32⟩
def HBM_REPAIR_APPLIED : Fld := ⟨0, 12⟩
def HBM_REPAIR_REFUSED : Fld := ⟨16, 8⟩
def HBM_CTRL_CNT_CLR : Fld := ⟨0, 1⟩
def HBM_EXP_TCR_DIS : Fld := ⟨0, 1⟩
def HBM_EXP_ECC_INJ : Fld := ⟨1, 2⟩
def MESH_STATUS_CONTAINED : Fld := ⟨0, 1⟩
def MESH_STATUS_CAUSE : Fld := ⟨8, 4⟩
def MESH_CE_COUNT : Fld := ⟨0, 32⟩
def MESH_BR_OUT_COUNT : Fld := ⟨0, 32⟩
def MESH_BR_IN_COUNT : Fld := ⟨0, 32⟩
def MESH_BR_REPLAY_COUNT : Fld := ⟨0, 32⟩
def MESH_LINK_SEL_ROUTER : Fld := ⟨0, 4⟩
def MESH_LINK_SEL_PORT : Fld := ⟨4, 3⟩
def MESH_LINK_FLITS_COUNT : Fld := ⟨0, 32⟩
def MESH_CTRL_CNT_CLR : Fld := ⟨0, 1⟩
def MESH_EXP_ECC_INJ : Fld := ⟨0, 2⟩
def LU_STATUS_WATCHES : Fld := ⟨0, 9⟩
def LU_STATUS_FWD_BAD : Fld := ⟨16, 1⟩
def LU_STATUS_HOST_BUSY : Fld := ⟨17, 1⟩
def LU_OPS_COUNT : Fld := ⟨0, 32⟩
def LU_REFUSED_COUNT : Fld := ⟨0, 32⟩
def LU_TIMEOUTS_COUNT : Fld := ⟨0, 32⟩
def LU_NOTIFY_WAIT_WAITING : Fld := ⟨0, 9⟩
def LU_CTRL_CNT_CLR : Fld := ⟨0, 1⟩
def LU_PAIR_BASE : Fld := ⟨0, 12⟩
def LU_PAIR_COUNT : Fld := ⟨16, 7⟩
def LH_WORD_VALUE : Fld := ⟨0, 12⟩
def LH_OPND_VALUE : Fld := ⟨0, 32⟩
def LH_OPND2_VALUE : Fld := ⟨0, 32⟩
def LH_CMD_OP : Fld := ⟨0, 3⟩
def LH_CMD_KIND : Fld := ⟨3, 2⟩
def LH_CMD_OWNED : Fld := ⟨8, 1⟩
def LH_CMD_JOB : Fld := ⟨16, 8⟩
def LH_RESULT_LO_VALUE : Fld := ⟨0, 32⟩
def LH_RESULT_HI_VALUE : Fld := ⟨0, 32⟩
def FWD_CFG_WORD : Fld := ⟨0, 12⟩
def FWD_CFG_EN : Fld := ⟨12, 1⟩
def FWD_CFG_FANOUT : Fld := ⟨13, 1⟩
def FWD_CFG_DOP : Fld := ⟨14, 2⟩
def FWD_CFG_DCLUSTER : Fld := ⟨16, 5⟩
def FWD_TARGET_TARGET : Fld := ⟨0, 32⟩
def FWD_DEST_DWORD : Fld := ⟨0, 12⟩
def FWD_DEST_DOPND : Fld := ⟨16, 16⟩
def FWD_MASK_CLUSTERS : Fld := ⟨0, 32⟩
def LU_EXP_FWD_DELAY : Fld := ⟨0, 4⟩
def ST_BASE_LO_BASE : Fld := ⟨0, 32⟩
def ST_BASE_HI_BASE : Fld := ⟨0, 16⟩
def ST_STATUS_ADMITTED : Fld := ⟨0, 11⟩
def ST_STATUS_LC : Fld := ⟨16, 11⟩
def ST_CMD_STREAM : Fld := ⟨0, 10⟩
def ST_CMD_OP : Fld := ⟨16, 3⟩
def ST_CMD_ZERO_CTX : Fld := ⟨20, 1⟩
def ST_RESULT_STATUS : Fld := ⟨0, 8⟩
def ST_RESULT_BUSY : Fld := ⟨8, 1⟩
def ADMIT_CLK_CLK : Fld := ⟨0, 5⟩
def ST_STAGE_DATA : Fld := ⟨0, 32⟩
def BAT_CFG_EN : Fld := ⟨0, 1⟩
def BAT_CFG_JOB : Fld := ⟨8, 8⟩
def BAT_CFG_PLAN : Fld := ⟨16, 16⟩
def BAT_SIZE_TARGET : Fld := ⟨0, 11⟩
def BAT_SIZE_CATCHUP : Fld := ⟨16, 11⟩
def BAT_AREA_LO_BASE : Fld := ⟨0, 32⟩
def BAT_AREA_HI_BASE : Fld := ⟨0, 16⟩
def BAT_BE_WAIT_TICKS : Fld := ⟨0, 24⟩
def BAT_STATUS_READY : Fld := ⟨0, 11⟩
def BAT_STATUS_INFLIGHT : Fld := ⟨11, 1⟩
def BAT_STATUS_BAD : Fld := ⟨12, 1⟩
def BAT_STATUS_BATCH : Fld := ⟨16, 16⟩
def BAT_PASSES_COUNT : Fld := ⟨0, 32⟩
def BAT_MISSES_COUNT : Fld := ⟨0, 32⟩
def JOB_CMD_JOB : Fld := ⟨0, 8⟩
def JOB_CMD_OP : Fld := ⟨16, 3⟩
def JOB_RESULT_STATUS : Fld := ⟨0, 8⟩
def JOB_RESULT_BUSY : Fld := ⟨8, 1⟩
def BE_SLICE_TICKS : Fld := ⟨0, 24⟩
def JOB_STAGE_DATA : Fld := ⟨0, 32⟩
def JOB_STAGE_PLAN : Fld := ⟨0, 16⟩
def JOB_STAGE_CLIENT : Fld := ⟨16, 5⟩
def JOB_STAGE_CLASS : Fld := ⟨24, 1⟩
def JOB_STAGE_SAVE_HI : Fld := ⟨0, 16⟩
def JOB_STAGE_STRIDE : Fld := ⟨0, 11⟩
def ACC_WAITS_COUNT : Fld := ⟨0, 32⟩
def ACC_WAIT_SUM_LO_VALUE : Fld := ⟨0, 32⟩
def ACC_WAIT_SUM_HI_VALUE : Fld := ⟨0, 32⟩
def ACC_WAIT_MAX_COUNT : Fld := ⟨0, 32⟩
def ACC_PREEMPTS_COUNT : Fld := ⟨0, 32⟩
def ACC_PREEMPT_TIME_LO_VALUE : Fld := ⟨0, 32⟩
def ACC_PREEMPT_TIME_HI_VALUE : Fld := ⟨0, 32⟩
def ACC_HIST_COUNT : Fld := ⟨0, 32⟩
def ACC_CTRL_CLR : Fld := ⟨0, 32⟩
def JOB_STATE_STATE : Fld := ⟨0, 3⟩
def JOB_STATE_COMPETES : Fld := ⟨3, 1⟩
def JOB_STATE_FORCED : Fld := ⟨4, 1⟩
def JOB_STATE_CLIENT : Fld := ⟨8, 5⟩
def JOB_STATE_PLAN : Fld := ⟨16, 16⟩
def SCH_EXP_ADMIT_FORCE : Fld := ⟨0, 1⟩
def SCH_EXP2_FORCE_LIMIT : Fld := ⟨0, 24⟩
def SC_STATUS_RUNNING : Fld := ⟨0, 1⟩
def SC_STATUS_CLK : Fld := ⟨1, 5⟩
def SC_STATUS_QUIET : Fld := ⟨6, 1⟩
def SC_TICK_LO_COUNT : Fld := ⟨0, 32⟩
def SC_TICK_HI_COUNT : Fld := ⟨0, 32⟩
def SC_STREAMS_READY : Fld := ⟨0, 11⟩
def SC_STREAMS_RUNNING : Fld := ⟨16, 11⟩
def SC_SUSPECT_COUNT : Fld := ⟨0, 11⟩
def SC_INFLIGHT_BATCHES : Fld := ⟨0, 5⟩
def SC_DISPATCHES_COUNT : Fld := ⟨0, 32⟩
def SC_COMPLETIONS_COUNT : Fld := ⟨0, 32⟩
def SC_FAILED_COUNT : Fld := ⟨0, 32⟩
def SC_CTRL_CNT_CLR : Fld := ⟨0, 1⟩
def DEV_ID_LO_ID : Fld := ⟨0, 32⟩
def DEV_ID_HI_ID : Fld := ⟨0, 32⟩
def DEV_INFO_ORDER : Fld := ⟨0, 1⟩
def DEV_INFO_REV : Fld := ⟨8, 8⟩
def DEV_INFO_ROLE : Fld := ⟨16, 2⟩
def DEV_RESET_RESTART : Fld := ⟨0, 1⟩
def EP_CTRL_KIND : Fld := ⟨0, 2⟩
def EP_CTRL_SIDE : Fld := ⟨4, 1⟩
def EP_ARG_CLK : Fld := ⟨0, 5⟩
def EP_ARG_QUIET : Fld := ⟨5, 1⟩
def EP_ARG_PLAN : Fld := ⟨16, 16⟩
def EP_STATUS_EPOCH : Fld := ⟨0, 16⟩
def EP_STATUS_STATE : Fld := ⟨16, 3⟩
def EP_STATUS_ACKED : Fld := ⟨19, 6⟩
def EP_STATUS_LATE : Fld := ⟨25, 4⟩
def EP_STATUS_REFUSED : Fld := ⟨31, 1⟩
def EP_UNIT_EPOCH : Fld := ⟨0, 16⟩
def EP_UNIT_PENDING : Fld := ⟨16, 1⟩
def AP_CTRL_EN : Fld := ⟨0, 1⟩
def AP_CTRL_START : Fld := ⟨1, 1⟩
def AP_CTRL_STOP : Fld := ⟨2, 1⟩
def AP_CTRL_MCLK_EN : Fld := ⟨3, 1⟩
def AP_CTRL_MCLK_RATIO : Fld := ⟨4, 1⟩
def AP_FMT_FORMAT : Fld := ⟨0, 2⟩
def AP_FMT_TDM_DELAY : Fld := ⟨2, 1⟩
def AP_FMT_SLOTS_M1 : Fld := ⟨4, 5⟩
def AP_FMT_SLOT_W : Fld := ⟨10, 2⟩
def AP_FMT_WORD_W : Fld := ⟨12, 2⟩
def AP_FMT_RATE : Fld := ⟨16, 4⟩
def AP_FMT_LOOP_BW : Fld := ⟨20, 2⟩
def AP_FMT_LOOP_MODE : Fld := ⟨22, 1⟩
def AP_STATUS_RUNNING : Fld := ⟨0, 1⟩
def AP_STATUS_MODE : Fld := ⟨1, 2⟩
def AP_STATUS_IN_GROUP : Fld := ⟨4, 1⟩
def AP_STATUS_GROUP : Fld := ⟨5, 2⟩
def AP_STATUS_MCLK_RUN : Fld := ⟨7, 1⟩
def AP_FRAME_LO_FRAMES : Fld := ⟨0, 32⟩
def AP_FRAME_HI_FRAMES : Fld := ⟨0, 16⟩
def AP_PACE_SLOT : Fld := ⟨0, 5⟩
def AP_PACE_PACE_EN : Fld := ⟨8, 1⟩
def AP_PACE_TARGET : Fld := ⟨16, 8⟩
def AP_PACE_AVG : Fld := ⟨24, 8⟩
def AP_TRIM_TRIM : Fld := ⟨0, 32⟩
def AP_SLIP_DROP_COUNT : Fld := ⟨0, 32⟩
def AP_SLIP_REP_COUNT : Fld := ⟨0, 32⟩
def AP_MIX_SLIPS_COUNT : Fld := ⟨0, 32⟩
def AP_UNDERRUNS_COUNT : Fld := ⟨0, 32⟩
def AP_OVERRUNS_COUNT : Fld := ⟨0, 32⟩
def AP_CNT_CTRL_CNT_CLR : Fld := ⟨0, 1⟩
def SLOT_CAP_CAP_EN : Fld := ⟨0, 1⟩
def SLOT_CAP_MEM_W : Fld := ⟨1, 1⟩
def SLOT_CAP_IEC_DET : Fld := ⟨2, 1⟩
def SLOT_CAP_BOUND : Fld := ⟨8, 1⟩
def SLOT_CAP_STREAM : Fld := ⟨16, 10⟩
def SLOT_PB_PB_EN : Fld := ⟨0, 1⟩
def SLOT_PB_MEM_W : Fld := ⟨1, 1⟩
def SLOT_PB_IEC_DET : Fld := ⟨2, 1⟩
def SLOT_PB_SRC : Fld := ⟨4, 2⟩
def SLOT_PB_DOMAIN : Fld := ⟨8, 4⟩
def SLOT_PB_SRC_ID : Fld := ⟨0, 16⟩
def PB_BASE_LO_BASE : Fld := ⟨0, 32⟩
def PB_BASE_HI_BASE : Fld := ⟨0, 16⟩
def PB_SIZE_UNITS : Fld := ⟨0, 13⟩
def PB_WR_POS : Fld := ⟨0, 21⟩
def PB_RD_POS : Fld := ⟨0, 21⟩
def SLOT_STATE_CAP : Fld := ⟨0, 3⟩
def SLOT_STATE_PB : Fld := ⟨4, 3⟩
def SLOT_STATE_CAP_NONPCM : Fld := ⟨8, 1⟩
def SLOT_STATE_PB_NONPCM : Fld := ⟨9, 1⟩
def SLOT_STATE_MIXED : Fld := ⟨10, 1⟩
def SLOT_STATE_GAIN : Fld := ⟨16, 16⟩
def AP_DIV_INT_INT : Fld := ⟨0, 13⟩
def AP_DIV_FRAC_FRAC : Fld := ⟨0, 24⟩
def AP_KP_KP : Fld := ⟨0, 24⟩
def AP_KI_KI : Fld := ⟨0, 24⟩
def AP_MARKS_LO : Fld := ⟨0, 8⟩
def AP_MARKS_HI : Fld := ⟨8, 8⟩
def VP_CTRL_EN : Fld := ⟨0, 1⟩
def VP_CTRL_START : Fld := ⟨1, 1⟩
def VP_CTRL_STOP : Fld := ⟨2, 1⟩
def VP_CFG_RATE : Fld := ⟨0, 4⟩
def VP_CFG_LOOP_BW : Fld := ⟨4, 2⟩
def VP_CFG_LOOP_MODE : Fld := ⟨6, 1⟩
def VP_CFG_JITTER : Fld := ⟨8, 6⟩
def VP_LATE_COUNT : Fld := ⟨0, 32⟩
def VP_DIV_INT_INT : Fld := ⟨0, 13⟩
def VP_DIV_FRAC_FRAC : Fld := ⟨0, 24⟩
def APG_CTRL_START : Fld := ⟨0, 4⟩
def APG_CTRL_STOP : Fld := ⟨4, 4⟩
def APG_MEMBERS_COPPER : Fld := ⟨0, 8⟩
def APG_MEMBERS_VIRTUAL : Fld := ⟨8, 8⟩
def APG_MEMBERS_PACE_UNIT : Fld := ⟨16, 4⟩
def APG_MEMBERS_PACE_EN : Fld := ⟨20, 1⟩
def APG_STATUS_RUNNING : Fld := ⟨0, 1⟩
def APG_STATUS_MODE : Fld := ⟨1, 2⟩
def APG_STATUS_REASON : Fld := ⟨8, 4⟩
def APLL_CTRL_REF : Fld := ⟨0, 1⟩
def APLL_CTRL_AW_RATE : Fld := ⟨4, 4⟩
def APLL_STATUS_LOCK : Fld := ⟨0, 1⟩
def APLL_STATUS_HOLDOVER : Fld := ⟨1, 1⟩
def APLL_STATUS_RATE_WAIT : Fld := ⟨2, 1⟩
def AW_GLITCHES_COUNT : Fld := ⟨0, 32⟩
def AW_STOPS_COUNT : Fld := ⟨0, 32⟩
def AW_OFFSET_PPM16 : Fld := ⟨0, 32⟩
def APG_CNT_CTRL_CNT_CLR : Fld := ⟨0, 1⟩
def APG_DIV_INT_DIV : Fld := ⟨0, 13⟩
def APG_DIV_FRAC_DIV : Fld := ⟨0, 24⟩
def FIN_STATUS_ENG_ON : Fld := ⟨0, 4⟩
def FIN_STATUS_SCALER_ON : Fld := ⟨4, 1⟩
def FIN_STATUS_CAMS : Fld := ⟨8, 7⟩
def FIN_LOAD_VALUE : Fld := ⟨0, 32⟩
def OUT_WAIT_TICKS : Fld := ⟨0, 24⟩
def FIN_CTRL_CNT_CLR : Fld := ⟨0, 1⟩
def CAM_CFG_EN : Fld := ⟨0, 1⟩
def CAM_CFG_ENGINE : Fld := ⟨1, 2⟩
def CAM_CFG_CODEC : Fld := ⟨3, 1⟩
def CAM_CFG_MAX_FPS : Fld := ⟨8, 6⟩
def CAM_SRC_ID : Fld := ⟨0, 16⟩
def CAM_SRC_KIND : Fld := ⟨16, 1⟩
def BS_BASE_LO_BASE : Fld := ⟨0, 32⟩
def BS_BASE_HI_BASE : Fld := ⟨0, 16⟩
def BS_SIZE_UNITS : Fld := ⟨0, 16⟩
def FB_BASE_LO_BASE : Fld := ⟨0, 32⟩
def FB_BASE_HI_BASE : Fld := ⟨0, 16⟩
def FB_CFG_COUNT : Fld := ⟨0, 5⟩
def FB_CFG_TEN : Fld := ⟨5, 1⟩
def CAM_GEOM_MAX_W : Fld := ⟨0, 13⟩
def CAM_GEOM_MAX_H : Fld := ⟨16, 13⟩
def CAM_STATUS_STATE : Fld := ⟨0, 2⟩
def CAM_STATUS_TEN_IN_USE : Fld := ⟨2, 1⟩
def CAM_FRAME_VALUE : Fld := ⟨0, 32⟩
def CAM_DROPS_COUNT : Fld := ⟨0, 32⟩
def OUT_CFG_EN : Fld := ⟨0, 1⟩
def OUT_CFG_DEST : Fld := ⟨1, 1⟩
def OUT_CFG_COLOUR : Fld := ⟨2, 2⟩
def OUT_CFG_FRAME_TAG : Fld := ⟨4, 1⟩
def OUT_CFG_SHIFT : Fld := ⟨8, 3⟩
def OUT_CFG_OFFSET : Fld := ⟨16, 10⟩
def OUT_CROP_X : Fld := ⟨0, 13⟩
def OUT_CROP_Y : Fld := ⟨16, 13⟩
def OUT_CROP_SIZE_W : Fld := ⟨0, 13⟩
def OUT_CROP_SIZE_H : Fld := ⟨16, 13⟩
def OUT_SIZE_OW : Fld := ⟨0, 13⟩
def OUT_SIZE_OH : Fld := ⟨16, 13⟩
def OUT_DEST_CORE : Fld := ⟨0, 9⟩
def OUT_DEST_RING : Fld := ⟨16, 4⟩
def OUT_BIND_STREAM : Fld := ⟨0, 10⟩
def OUT_BIND_BOUND : Fld := ⟨16, 1⟩
def OUT_LAST_VALUE : Fld := ⟨0, 32⟩
def OUT_DROPS_COUNT : Fld := ⟨0, 32⟩
def FIN_EXP_LOAD_OVR : Fld := ⟨0, 1⟩
def OPT_BOND_BOND_EN : Fld := ⟨0, 1⟩
def OPT_BOND_DEGRADED : Fld := ⟨1, 1⟩
def OPT_CREDIT_LIMIT_TICKS : Fld := ⟨0, 24⟩
def CASE_STATUS_STATE : Fld := ⟨0, 2⟩
def CASE_STATUS_LIGHT : Fld := ⟨2, 1⟩
def CASE_STATUS_MARGIN : Fld := ⟨8, 8⟩
def PANE_CTRL_EN : Fld := ⟨0, 1⟩
def PANE_CTRL_QUERY : Fld := ⟨1, 1⟩
def PANE_STATUS_STATE : Fld := ⟨0, 3⟩
def PANE_STATUS_LAST_REASON : Fld := ⟨4, 4⟩
def PANE_STATUS_DUAL : Fld := ⟨8, 1⟩
def PANE_STATUS_QUERY_VALID : Fld := ⟨9, 1⟩
def PANE_STATUS_PEER_HEARD : Fld := ⟨10, 1⟩
def PANE_PEER_LO_ID : Fld := ⟨0, 32⟩
def PANE_PEER_HI_ID : Fld := ⟨0, 32⟩
def PANE_PEER_INFO_ROLE : Fld := ⟨0, 2⟩
def PANE_PEER_INFO_AIN : Fld := ⟨8, 8⟩
def PANE_PEER_INFO_AOUT : Fld := ⟨16, 8⟩
def FRAMES_TX_COUNT : Fld := ⟨0, 32⟩
def FRAMES_RX_COUNT : Fld := ⟨0, 32⟩
def CRC_ERR_COUNT : Fld := ⟨0, 32⟩
def FEC_CORR_COUNT : Fld := ⟨0, 32⟩
def FEC_UNCORR_COUNT : Fld := ⟨0, 32⟩
def SEQ_GAP_COUNT : Fld := ⟨0, 32⟩
def REPLAYS_COUNT : Fld := ⟨0, 32⟩
def DROPS_COUNT : Fld := ⟨0, 32⟩
def CREDIT_STALL_COUNT : Fld := ⟨0, 32⟩
def DOWNS_COUNT : Fld := ⟨0, 32⟩
def PANE_CNT_CTRL_CNT_CLR : Fld := ⟨0, 1⟩
def OPT_EXP_TUNE_HOLD : Fld := ⟨0, 2⟩
def OPT_EXP_PRBS : Fld := ⟨8, 8⟩
def MIR_CFG_EN : Fld := ⟨0, 1⟩
def MIR_CFG_AUTO_RESTORE : Fld := ⟨1, 1⟩
def MIR_STATUS_ROLE : Fld := ⟨0, 2⟩
def MIR_STATUS_PARTNER_STATE : Fld := ⟨2, 2⟩
def MIR_STATUS_CONFLICT : Fld := ⟨4, 1⟩
def MIR_STATUS_ADOPTING : Fld := ⟨5, 1⟩
def MIR_CMD_STREAM : Fld := ⟨0, 10⟩
def MIR_CMD_OP : Fld := ⟨16, 3⟩
def MIR_RESULT_STATUS : Fld := ⟨0, 8⟩
def MIR_RESULT_BUSY : Fld := ⟨8, 1⟩
def MIR_STAGE_LO_BASE : Fld := ⟨0, 32⟩
def MIR_STAGE_HI_BASE : Fld := ⟨0, 16⟩
def MIR_STAGE_SIZE_UNITS : Fld := ⟨0, 16⟩
def MIR_UNMIRRORED_COUNT : Fld := ⟨0, 11⟩
def MIR_SNAPS_COUNT : Fld := ⟨0, 32⟩
def MIR_SKIPS_COUNT : Fld := ⟨0, 32⟩
def MIR_REJECTS_COUNT : Fld := ⟨0, 32⟩
def MIR_HB_MISSED_COUNT : Fld := ⟨0, 32⟩
def MIR_CNT_CTRL_CNT_CLR : Fld := ⟨0, 1⟩
def MIR_EXP_AUTO_ADOPT : Fld := ⟨0, 1⟩
def MB_DOORBELL_TAG : Fld := ⟨0, 32⟩
def MB_STATUS_STATE : Fld := ⟨0, 2⟩
def MB_STATUS_RING_LOST : Fld := ⟨2, 1⟩
def MB_STATUS_SEAL : Fld := ⟨3, 1⟩
def MB_EVENT_CODE : Fld := ⟨0, 8⟩
def MB_EVENT_SCALE : Fld := ⟨8, 8⟩
def MB_REQ_DATA : Fld := ⟨0, 32⟩
def MB_RSP_DATA : Fld := ⟨0, 32⟩
def HIF_STATUS_SPEED : Fld := ⟨0, 3⟩
def HIF_STATUS_WIDTH : Fld := ⟨4, 4⟩
def HIF_STATUS_FLIT : Fld := ⟨8, 1⟩
def HIF_STATUS_PM : Fld := ⟨9, 2⟩
def HIF_STATUS_READY : Fld := ⟨11, 1⟩
def HIF_STEPPED_COUNT : Fld := ⟨0, 32⟩
def HIF_HOST_ERR_COUNT : Fld := ⟨0, 32⟩
def SMB_CFG_ADDR : Fld := ⟨0, 7⟩
def SMB_CFG_PEC_REQ : Fld := ⟨8, 1⟩
def ALLOT_BASE0 : Fld := ⟨0, 6⟩
def ALLOT_SIZE0 : Fld := ⟨8, 7⟩
def ALLOT_BASE1 : Fld := ⟨16, 6⟩
def ALLOT_SIZE1 : Fld := ⟨24, 7⟩
def ALLOT_STATUS_BAD : Fld := ⟨0, 1⟩
def HIF_EXP_STEP_US : Fld := ⟨0, 11⟩
def WB_LO_ADDR : Fld := ⟨0, 32⟩
def WB_HI_ADDR : Fld := ⟨0, 32⟩
def TW_DEV_LO_DEV : Fld := ⟨0, 32⟩
def TW_DEV_HI_DEV : Fld := ⟨0, 16⟩
def TW_HOST_LO_ADDR : Fld := ⟨0, 32⟩
def TW_HOST_HI_ADDR : Fld := ⟨0, 32⟩
def TW_CFG_EN : Fld := ⟨0, 1⟩
def TW_CFG_RD : Fld := ⟨1, 1⟩
def TW_CFG_WR : Fld := ⟨2, 1⟩
def TW_CFG_SIZE : Fld := ⟨12, 20⟩
def MSIX_ADDR_LO_DATA : Fld := ⟨0, 32⟩
def MSIX_ADDR_HI_DATA : Fld := ⟨0, 32⟩
def MSIX_DATA_DATA : Fld := ⟨0, 32⟩
def MSIX_CTRL_MASK : Fld := ⟨0, 1⟩
def MSIX_PBA_PEND : Fld := ⟨0, 32⟩
def X_BASE_LO_ADDR : Fld := ⟨0, 32⟩
def X_BASE_HI_ADDR : Fld := ⟨0, 32⟩
def X_CFG_EN : Fld := ⟨0, 1⟩
def X_CFG_VECTOR : Fld := ⟨2, 6⟩
def X_CFG_IRQ_EN : Fld := ⟨8, 1⟩
def X_CFG_ESZ : Fld := ⟨9, 3⟩
def X_CFG_SIZE : Fld := ⟨16, 16⟩
def X_HPOS_POS : Fld := ⟨0, 26⟩
def X_DPOS_POS : Fld := ⟨0, 26⟩
def X_STATUS_BAD : Fld := ⟨0, 1⟩
def X_STATUS_BAD_DB : Fld := ⟨1, 1⟩
def X_STATUS_REFUSED : Fld := ⟨2, 1⟩
def X_STATUS_DROPPED : Fld := ⟨3, 1⟩
def X_STATUS_FETCH_ERR : Fld := ⟨4, 1⟩
def X_STATUS_BOUND : Fld := ⟨8, 1⟩
def X_COUNT_COUNT : Fld := ⟨0, 32⟩
def BOOT_STATUS_STATE : Fld := ⟨0, 2⟩
def BOOT_STATUS_STEP : Fld := ⟨4, 4⟩
def BOOT_STATUS_FAILED_STEP : Fld := ⟨8, 4⟩
def BOOT_STATUS_SLOT : Fld := ⟨12, 1⟩
def BOOT_STATUS_HDR_COPY : Fld := ⟨13, 1⟩
def BOOT_COUNT_COUNT : Fld := ⟨0, 32⟩
def BOOT_OUTCOME_STEPS : Fld := ⟨1, 14⟩
def BOOT_OUTCOME_SIDES : Fld := ⟨16, 6⟩
def BOOT_MARKS_STEPS : Fld := ⟨1, 14⟩
def BOOT_MARKS_SIDES : Fld := ⟨16, 6⟩
def BOOT_CTRL_RETRY : Fld := ⟨0, 1⟩
def BOOT_TIME_TICKS : Fld := ⟨0, 32⟩
def CFG_APPLIED_COUNT : Fld := ⟨0, 20⟩
def CAL_CMD_FUNC : Fld := ⟨0, 3⟩
def CAL_CMD_OP : Fld := ⟨8, 2⟩
def CAL_STATUS_BUSY : Fld := ⟨0, 1⟩
def CAL_STATUS_RESULT : Fld := ⟨1, 3⟩
def CAL_BUF_DATA : Fld := ⟨0, 32⟩
def BOOT_EXP_TRAIN_FRESH : Fld := ⟨0, 1⟩
def SEC_STATUS_FUSES : Fld := ⟨0, 7⟩
def SEC_STATUS_SVN : Fld := ⟨8, 7⟩
def SEC_STATUS_BUSY : Fld := ⟨16, 1⟩
def SEC_STATUS_ID_DOWN : Fld := ⟨17, 1⟩
def SEC_LOCK0_BLOCKS : Fld := ⟨0, 10⟩
def SEC_LOCK1_CLUSTERS : Fld := ⟨0, 32⟩
def SEC_CTRL_OP : Fld := ⟨0, 2⟩
def SEC_NONCE_DATA : Fld := ⟨0, 32⟩
def SEC_REPORT_LEN_BYTES : Fld := ⟨0, 14⟩
def SEC_REPORT_DATA : Fld := ⟨0, 32⟩
def PWR_DEVSTATE_DSTATE : Fld := ⟨0, 2⟩
def PWR_DEVSTATE_D3_WAIT : Fld := ⟨2, 1⟩
def PWR_DOZE_DOZE_EN : Fld := ⟨0, 1⟩
def PWR_DOZE_D3_DARK : Fld := ⟨1, 1⟩
def PWR_DOZE_IDLE_TICKS : Fld := ⟨0, 24⟩
def PWR_GOV_CFG_LIMIT : Fld := ⟨0, 10⟩
def PWR_GOV_CFG_HYST : Fld := ⟨16, 8⟩
def PWR_GOV_CFG_UP_WINDOWS : Fld := ⟨24, 8⟩
def PWR_GOV_STATUS_CLK0 : Fld := ⟨0, 5⟩
def PWR_GOV_STATUS_CLK1 : Fld := ⟨8, 5⟩
def PWR_GOV_STATUS_FLOOR : Fld := ⟨16, 1⟩
def PWR_GOV_STATUS_CAL_HOLD : Fld := ⟨17, 1⟩
def PWR_CEIL_CEIL0 : Fld := ⟨0, 5⟩
def PWR_CEIL_CEIL1 : Fld := ⟨8, 5⟩
def PWR_VIN_AVG : Fld := ⟨0, 16⟩
def PWR_VIN_PEAK : Fld := ⟨16, 16⟩
def PWR_STEPS_COUNT : Fld := ⟨0, 32⟩
def PWR_CNT_CTRL_CNT_CLR : Fld := ⟨0, 1⟩
def PWR_DOM_STATE : Fld := ⟨0, 2⟩
def PWR_DOM_POLICY : Fld := ⟨2, 2⟩
def PWR_DOM_DOWN : Fld := ⟨4, 1⟩
def PWR_EXP_GOV_DIS : Fld := ⟨0, 1⟩
def PWR_EXP_STAGGER : Fld := ⟨8, 4⟩
def TEL_STATUS_COUNT : Fld := ⟨0, 11⟩
def TEL_STATUS_LOST : Fld := ⟨16, 1⟩
def TEL_STATUS_CMD_BAD : Fld := ⟨17, 1⟩
def TEL_LOG_HEAD_POS : Fld := ⟨0, 11⟩
def TEL_LOG_TAIL_POS : Fld := ⟨0, 11⟩
def TEL_LOG_LOST_COUNT : Fld := ⟨0, 32⟩
def TEL_SRC_DROPS_COUNT : Fld := ⟨0, 32⟩
def TEL_SUSPECT_CTRL_AUTO_RESET : Fld := ⟨0, 1⟩
def TEL_SUSPECT_CMD_STREAM : Fld := ⟨0, 10⟩
def TEL_SUSPECT_CMD_RESET : Fld := ⟨16, 1⟩
def TEL_CNT_CTRL_CNT_CLR : Fld := ⟨0, 1⟩
def TEL_TEMP_MAX_TEMP : Fld := ⟨0, 16⟩
def TEL_TEMP_MAX_SENSOR : Fld := ⟨16, 5⟩
def TEL_TEMP_TEMP : Fld := ⟨0, 16⟩
def TEL_TEMP_VALID : Fld := ⟨16, 1⟩
def TEL_RAIL_POWER : Fld := ⟨0, 16⟩
def TEL_LOG_DATA : Fld := ⟨0, 32⟩
def TEL_EXP_DBG_EN : Fld := ⟨0, 1⟩

end Fl

/-! ### The map of each block -/

def Map.core0 : List RegSpec := [
  ⟨0x0, 1, 0x4, 1, 0x0, [⟨Fl.CORE_ID_LCORE, .ro, .any⟩, ⟨Fl.CORE_ID_CLUSTER, .ro, .any⟩, ⟨Fl.CORE_ID_PHYS, .ro, .any⟩, ⟨Fl.CORE_ID_SIDE, .ro, .any⟩]⟩,
  ⟨0x4, 1, 0x4, 1, 0x0, [⟨Fl.CORE_CTRL_START, .wo, .any⟩, ⟨Fl.CORE_CTRL_HALT_REQ, .wo, .any⟩, ⟨Fl.CORE_CTRL_RESET, .wo, .any⟩, ⟨Fl.CORE_CTRL_START_PC, .rw, .any⟩]⟩,
  ⟨0x8, 1, 0x4, 1, 0x1, [⟨Fl.CORE_STATUS_STATE, .ro, .any⟩, ⟨Fl.CORE_STATUS_WAIT, .ro, .any⟩, ⟨Fl.CORE_STATUS_PREEMPT_PEND, .ro, .any⟩, ⟨Fl.CORE_STATUS_FORCED, .ro, .any⟩]⟩,
  ⟨0xC, 1, 0x4, 1, 0x0, [⟨Fl.CORE_JOB_JOB, .ro, .any⟩, ⟨Fl.CORE_JOB_JOB_VALID, .ro, .any⟩, ⟨Fl.CORE_JOB_PLAN, .ro, .any⟩]⟩,
  ⟨0x10, 1, 0x4, 1, 0x0, [⟨Fl.CORE_PC_PC, .ro, .any⟩]⟩,
  ⟨0x14, 1, 0x4, 1, 0x0, [⟨Fl.CORE_CAUSE_CAUSE, .ro, .any⟩, ⟨Fl.CORE_CAUSE_SLOT, .ro, .any⟩]⟩,
  ⟨0x18, 1, 0x4, 1, 0x0, [⟨Fl.FAULT_ADDR_LO_VALUE, .ro, .any⟩]⟩,
  ⟨0x1C, 1, 0x4, 1, 0x0, [⟨Fl.FAULT_ADDR_HI_VALUE, .ro, .any⟩]⟩,
  ⟨0x20, 1, 0x4, 1, 0x0, [⟨Fl.CYCLE_LO_VALUE, .ro, .any⟩]⟩,
  ⟨0x24, 1, 0x4, 1, 0x0, [⟨Fl.CYCLE_HI_VALUE, .ro, .any⟩]⟩,
  ⟨0x28, 1, 0x4, 1, 0x0, [⟨Fl.QUEUE_STATUS_MQ, .ro, .any⟩, ⟨Fl.QUEUE_STATUS_DQ, .ro, .any⟩, ⟨Fl.QUEUE_STATUS_LQ, .ro, .any⟩, ⟨Fl.QUEUE_STATUS_SQ, .ro, .any⟩]⟩,
  ⟨0x2C, 1, 0x4, 1, 0x0, [⟨Fl.MBX_STATUS_TOTAL, .ro, .any⟩, ⟨Fl.MBX_STATUS_RESV, .ro, .any⟩, ⟨Fl.MBX_STATUS_INJ_DROP, .w1c, .any⟩]⟩]
def Map.core1 : List RegSpec := [
  ⟨0x30, 1, 0x4, 1, 0x61A8, [⟨Fl.STALL_LIMIT_TICKS, .rw, (.range 1 16777215)⟩]⟩,
  ⟨0x34, 1, 0x4, 1, 0x0, [⟨Fl.HOLD_STATUS_SEM_HOLD, .ro, .any⟩, ⟨Fl.HOLD_STATUS_CREDIT_GRANTS, .ro, .any⟩]⟩,
  ⟨0x38, 1, 0x4, 1, 0x0, [⟨Fl.IMEM_VALID_SEG_VALID, .ro, .any⟩]⟩,
  ⟨0x3C, 1, 0x4, 1, 0x0, [⟨Fl.PARITY_REFETCH_COUNT, .ro, .any⟩]⟩,
  ⟨0x40, 1, 0x4, 1, 0x0, [⟨Fl.STALL_DEP_COUNT, .ro, .any⟩]⟩,
  ⟨0x44, 1, 0x4, 1, 0x0, [⟨Fl.STALL_QFULL_COUNT, .ro, .any⟩]⟩,
  ⟨0x48, 1, 0x4, 1, 0x0, [⟨Fl.STALL_WAIT_COUNT, .ro, .any⟩]⟩,
  ⟨0x4C, 1, 0x4, 1, 0x0, [⟨Fl.STALL_FETCH_COUNT, .ro, .any⟩]⟩,
  ⟨0x50, 4, 0x4, 1, 0x0, [⟨Fl.MBX_IN_DATA, .wo, .any⟩]⟩,
  ⟨0x100, 16, 0x8, 1, 0x0, [⟨Fl.OVL_SRC_LO_VALUE, .ro, .any⟩]⟩,
  ⟨0x104, 16, 0x8, 1, 0x0, [⟨Fl.OVL_SRC_HI_VALUE, .ro, .any⟩]⟩,
  ⟨0x8000, 1, 0x4, 1, 0x0, [⟨Fl.EXPERT_EN, .rw, .any⟩]⟩]
def Map.core2 : List RegSpec := [
  ⟨0x8004, 1, 0x4, 1, 0x0, [⟨Fl.DBG_CTRL_SSTEP, .rwe, .any⟩, ⟨Fl.DBG_CTRL_PAR_INJECT, .rwe, .any⟩]⟩,
  ⟨0x1000, 1, 0x4, 1, 0x0, [⟨Fl.MU_STATUS_BUSY, .ro, .any⟩, ⟨Fl.MU_STATUS_LEVEL, .ro, .any⟩, ⟨Fl.MU_STATUS_FILLER, .ro, .any⟩, ⟨Fl.MU_STATUS_PEND, .ro, .any⟩, ⟨Fl.MU_STATUS_ROWS, .ro, .any⟩, ⟨Fl.MU_STATUS_P, .ro, .any⟩]⟩,
  ⟨0x1004, 1, 0x4, 1, 0x0, [⟨Fl.MU_SPARE_USED, .ro, .any⟩, ⟨Fl.MU_SPARE_COL, .ro, .any⟩]⟩,
  ⟨0x1008, 1, 0x4, 1, 0x0, [⟨Fl.MU_DONE_COUNT, .ro, .any⟩]⟩,
  ⟨0x100C, 1, 0x4, 1, 0x0, [⟨Fl.MU_ARRAY_CYC_COUNT, .ro, .any⟩]⟩,
  ⟨0x1010, 1, 0x4, 1, 0x0, [⟨Fl.MU_STALL_FEED_COUNT, .ro, .any⟩]⟩,
  ⟨0x1014, 1, 0x4, 1, 0x0, [⟨Fl.MU_RAMP_LOST_COUNT, .ro, .any⟩]⟩,
  ⟨0x1018, 1, 0x4, 1, 0x0, [⟨Fl.MU_SAT_COUNT, .ro, .any⟩]⟩,
  ⟨0x101C, 1, 0x4, 1, 0x0, [⟨Fl.MU_CTRL_CNT_CLR, .wo, .any⟩]⟩,
  ⟨0x9000, 1, 0x4, 1, 0x0, [⟨Fl.MU_EXP_RAMP_DIS, .rwe, .any⟩]⟩,
  ⟨0x1100, 1, 0x4, 1, 0x0, [⟨Fl.VE_SAT_COUNT, .ro, .any⟩]⟩,
  ⟨0x1104, 1, 0x4, 1, 0x0, [⟨Fl.VE_LUT_CLAMP_COUNT, .ro, .any⟩]⟩]
def Map.core3 : List RegSpec := [
  ⟨0x1108, 1, 0x4, 1, 0x0, [⟨Fl.VE_BANK_EXTRA_COUNT, .ro, .any⟩]⟩,
  ⟨0x110C, 1, 0x4, 1, 0x0, [⟨Fl.VE_ACC_LD_COUNT, .ro, .any⟩]⟩,
  ⟨0x1110, 1, 0x4, 1, 0x0, [⟨Fl.VE_CTRL_CNT_CLR, .wo, .any⟩]⟩,
  ⟨0x1200, 8, 0x20, 1, 0x1000, [⟨Fl.STAT_CFG_EN, .rw, .any⟩, ⟨Fl.STAT_CFG_DRIFT_EN, .rw, .any⟩, ⟨Fl.STAT_CFG_SQERR_SAT, .w1c, .any⟩, ⟨Fl.STAT_CFG_WIN_LOG2, .rw, (.range 8 31)⟩, ⟨Fl.STAT_CFG_TENSOR, .rw, .any⟩]⟩,
  ⟨0x1204, 8, 0x20, 1, 0x100, [⟨Fl.STAT_DRIFT_FRAC, .rw, .any⟩]⟩,
  ⟨0x1208, 8, 0x20, 1, 0x0, [⟨Fl.STAT_MAXABS_VALUE, .ro, .any⟩]⟩,
  ⟨0x120C, 8, 0x20, 1, 0x0, [⟨Fl.STAT_SQERR_LO_VALUE, .ro, .any⟩]⟩,
  ⟨0x1210, 8, 0x20, 1, 0x0, [⟨Fl.STAT_SQERR_HI_VALUE, .ro, .any⟩]⟩,
  ⟨0x1214, 8, 0x20, 1, 0x0, [⟨Fl.STAT_SATS_COUNT, .ro, .any⟩]⟩,
  ⟨0x1218, 8, 0x20, 1, 0x0, [⟨Fl.STAT_ELEMS_COUNT, .ro, .any⟩]⟩,
  ⟨0x121C, 8, 0x20, 1, 0x0, [⟨Fl.STAT_WIN_ELEMS, .ro, .any⟩]⟩,
  ⟨0x1300, 1, 0x4, 1, 0x0, [⟨Fl.STAT_CTRL_CLR, .wo, .any⟩]⟩]
def Map.core4 : List RegSpec := [
  ⟨0x1400, 1, 0x4, 1, 0x3F, [⟨Fl.SP_GATE_WM_ON, .ro, .any⟩, ⟨Fl.SP_GATE_AM_ON, .ro, .any⟩, ⟨Fl.SP_GATE_ZEROING, .ro, .any⟩]⟩,
  ⟨0x1404, 1, 0x4, 1, 0x0, [⟨Fl.SP_STATUS_PD_READ, .w1c, .any⟩, ⟨Fl.SP_STATUS_PD_WRITE, .w1c, .any⟩, ⟨Fl.SP_STATUS_CONFLICT, .w1c, .any⟩, ⟨Fl.SP_STATUS_CW_OVER, .w1c, .any⟩, ⟨Fl.SP_STATUS_CW_BAD, .w1c, .any⟩, ⟨Fl.SP_STATUS_GB_LINES, .ro, .any⟩]⟩,
  ⟨0x1408, 1, 0x4, 1, 0x0, [⟨Fl.SP_PD_READS_COUNT, .ro, .any⟩]⟩,
  ⟨0x140C, 1, 0x4, 1, 0x0, [⟨Fl.SP_CONFLICTS_COUNT, .ro, .any⟩]⟩,
  ⟨0x1410, 1, 0x4, 1, 0x0, [⟨Fl.SP_ECC_CE_COUNT, .ro, .any⟩]⟩,
  ⟨0x1414, 1, 0x4, 1, 0x0, [⟨Fl.SP_GB_FLUSH_COUNT, .ro, .any⟩]⟩,
  ⟨0x1418, 1, 0x4, 1, 0x0, [⟨Fl.SP_DMA_WAIT_COUNT, .ro, .any⟩]⟩,
  ⟨0x141C, 1, 0x4, 1, 0x0, [⟨Fl.SP_CTRL_CNT_CLR, .wo, .any⟩]⟩,
  ⟨0x1440, 8, 0x10, 1, 0x0, [⟨Fl.CW_CFG_EN, .rw, .any⟩, ⟨Fl.CW_CFG_RING_BIND, .rw, .any⟩, ⟨Fl.CW_CFG_RING, .rw, .any⟩, ⟨Fl.CW_CFG_SIZE, .rw, (.range 1 1024)⟩]⟩,
  ⟨0x1444, 8, 0x10, 1, 0x0, [⟨Fl.CW_BASE_BASE, .rw, (.aligned 256)⟩]⟩,
  ⟨0x1448, 8, 0x10, 1, 0x0, [⟨Fl.CW_AVAIL_AVAIL, .ro, .any⟩, ⟨Fl.CW_AVAIL_WAITING, .ro, .any⟩, ⟨Fl.CW_AVAIL_HEAD, .ro, .any⟩, ⟨Fl.CW_AVAIL_HEAD_VALID, .ro, .any⟩]⟩,
  ⟨0x144C, 8, 0x10, 1, 0x0, [⟨Fl.CW_RETURN_COUNT, .wo, .any⟩]⟩]
def Map.core5 : List RegSpec := [
  ⟨0x9400, 1, 0x4, 1, 0x40, [⟨Fl.SP_EXP_GB_AGE, .rwe, (.range 8 255)⟩, ⟨Fl.SP_EXP_ECC_INJ, .rwe, (.range 0 2)⟩]⟩,
  ⟨0x1500, 1, 0x4, 1, 0x0, [⟨Fl.DMA_STATUS_ACTIVE, .ro, .any⟩, ⟨Fl.DMA_STATUS_TAGS, .ro, .any⟩, ⟨Fl.DMA_STATUS_GRANTS, .ro, .any⟩, ⟨Fl.DMA_STATUS_FWD, .ro, .any⟩]⟩,
  ⟨0x1504, 1, 0x4, 1, 0x0, [⟨Fl.DMA_DONE_COUNT, .ro, .any⟩]⟩,
  ⟨0x1508, 1, 0x4, 1, 0x0, [⟨Fl.DMA_UNITS_COUNT, .ro, .any⟩]⟩,
  ⟨0x150C, 1, 0x4, 1, 0x0, [⟨Fl.DMA_TAG_WAIT_COUNT, .ro, .any⟩]⟩,
  ⟨0x1510, 1, 0x4, 1, 0x0, [⟨Fl.DMA_CREDIT_WAIT_COUNT, .ro, .any⟩]⟩,
  ⟨0x1514, 1, 0x4, 1, 0x0, [⟨Fl.DMA_FWD_UNITS_COUNT, .ro, .any⟩]⟩,
  ⟨0x1518, 1, 0x4, 1, 0x0, [⟨Fl.DMA_CTRL_CNT_CLR, .wo, .any⟩]⟩,
  ⟨0x1600, 16, 0x20, 1, 0x30000, [⟨Fl.RING_CFG_EN, .rw, .any⟩, ⟨Fl.RING_CFG_MODE, .rw, (.range 0 2)⟩, ⟨Fl.RING_CFG_SLOTS, .rw, (.range 3 64)⟩]⟩,
  ⟨0x1604, 16, 0x20, 1, 0x0, [⟨Fl.RING_BASE_LO_BASE, .rw, (.aligned 256)⟩]⟩,
  ⟨0x1608, 16, 0x20, 1, 0x0, [⟨Fl.RING_BASE_HI_BASE, .rw, .any⟩]⟩,
  ⟨0x160C, 16, 0x20, 1, 0x0, [⟨Fl.RING_PTR_HEAD, .ro, .any⟩, ⟨Fl.RING_PTR_TAIL, .ro, .any⟩, ⟨Fl.RING_PTR_FILLED, .ro, .any⟩]⟩]
def Map.core6 : List RegSpec := [
  ⟨0x1610, 16, 0x20, 1, 0x10000, [⟨Fl.RING_HELD_PHELD, .ro, .any⟩, ⟨Fl.RING_HELD_CHELD, .ro, .any⟩, ⟨Fl.RING_HELD_SLOT_SIZE, .rw, (.range 1 4095)⟩]⟩,
  ⟨0x1614, 16, 0x20, 1, 0x0, [⟨Fl.RING_STATUS_OVER, .w1c, .any⟩, ⟨Fl.RING_STATUS_UNDER, .w1c, .any⟩, ⟨Fl.RING_STATUS_BAD, .w1c, .any⟩]⟩,
  ⟨0x9500, 1, 0x4, 1, 0x40, [⟨Fl.DMA_EXP_TAG_LIMIT, .rwe, (.range 1 64)⟩]⟩]
/-- The registers of the block (R76, R109, R137, R163, R188, R222). -/
def Map.core : List RegSpec := Map.core0 ++ Map.core1 ++ Map.core2 ++ Map.core3 ++ Map.core4 ++ Map.core5 ++ Map.core6

def Map.seq0 : List RegSpec := [
  ⟨0x0, 1, 0x4, 1, 0x0, [⟨Fl.CS_STATUS_READY, .ro, .any⟩, ⟨Fl.CS_STATUS_ZEROING, .ro, .any⟩, ⟨Fl.CS_STATUS_SWITCHING, .ro, .any⟩, ⟨Fl.CS_STATUS_STOPPING, .ro, .any⟩]⟩,
  ⟨0x4, 2, 0x4, 1, 0x249249, [⟨Fl.CS_CORE_STATE_STATES, .ro, .any⟩]⟩,
  ⟨0x10, 4, 0x4, 1, 0x0, [⟨Fl.CS_QJOB_JOB, .ro, .any⟩, ⟨Fl.CS_QJOB_VALID, .ro, .any⟩, ⟨Fl.CS_QJOB_PLAN, .ro, .any⟩]⟩,
  ⟨0x20, 1, 0x4, 1, 0x0, [⟨Fl.CS_PREEMPT_PEND, .ro, .any⟩, ⟨Fl.CS_PREEMPT_FORCED, .ro, .any⟩]⟩,
  ⟨0x24, 1, 0x4, 1, 0x0, [⟨Fl.CS_TICK_LO_COUNT, .ro, .any⟩]⟩,
  ⟨0x28, 1, 0x4, 1, 0x0, [⟨Fl.CS_TICK_HI_COUNT, .ro, .any⟩]⟩,
  ⟨0x2C, 1, 0x4, 1, 0x0, [⟨Fl.CS_REC_QUEUE_WAITING, .ro, .any⟩]⟩,
  ⟨0x30, 1, 0x4, 1, 0x0, [⟨Fl.CS_RECORDS_COUNT, .ro, .any⟩]⟩,
  ⟨0x34, 1, 0x4, 1, 0x0, [⟨Fl.CS_OVL_LOADS_COUNT, .ro, .any⟩]⟩,
  ⟨0x38, 1, 0x4, 1, 0x0, [⟨Fl.CS_PLACEMENTS_COUNT, .ro, .any⟩]⟩,
  ⟨0x3C, 1, 0x4, 1, 0x0, [⟨Fl.CS_CTRL_CNT_CLR, .wo, .any⟩]⟩]
/-- The registers of the block (R78). -/
def Map.seq : List RegSpec := Map.seq0

def Map.hbm0 : List RegSpec := [
  ⟨0x0, 1, 0x4, 1, 0x2010, [⟨Fl.HBM_ID_GIB, .ro, .any⟩, ⟨Fl.HBM_ID_PCS, .ro, .any⟩, ⟨Fl.HBM_ID_MAKER, .ro, .any⟩]⟩,
  ⟨0x4, 1, 0x4, 1, 0x0, [⟨Fl.HBM_STATUS_READY, .ro, .any⟩, ⟨Fl.HBM_STATUS_QUIET, .ro, .any⟩, ⟨Fl.HBM_STATUS_SELF_REFRESH, .ro, .any⟩, ⟨Fl.HBM_STATUS_TCR_ACTIVE, .ro, .any⟩, ⟨Fl.HBM_STATUS_ZEROING, .ro, .any⟩, ⟨Fl.HBM_STATUS_PAUSE, .ro, .any⟩, ⟨Fl.HBM_STATUS_CONTAINED, .ro, .any⟩]⟩,
  ⟨0x8, 1, 0x4, 1, 0x0, [⟨Fl.HBM_TEMP_NOW, .ro, .any⟩, ⟨Fl.HBM_TEMP_PEAK, .ro, .any⟩]⟩,
  ⟨0xC, 1, 0x4, 1, 0x0, [⟨Fl.HBM_CE_COUNT, .ro, .any⟩]⟩,
  ⟨0x10, 1, 0x4, 1, 0x0, [⟨Fl.HBM_UE_COUNT, .ro, .any⟩]⟩,
  ⟨0x14, 1, 0x4, 1, 0x0, [⟨Fl.HBM_ODECC_COUNT, .ro, .any⟩]⟩,
  ⟨0x18, 1, 0x4, 1, 0x0, [⟨Fl.HBM_RMW_COUNT, .ro, .any⟩]⟩,
  ⟨0x1C, 1, 0x4, 1, 0x0, [⟨Fl.HBM_RFM_COUNT, .ro, .any⟩]⟩,
  ⟨0x20, 1, 0x4, 1, 0x0, [⟨Fl.HBM_LAST_UE_LO_OFFSET, .ro, .any⟩]⟩,
  ⟨0x24, 1, 0x4, 1, 0x0, [⟨Fl.HBM_LAST_UE_HI_OFFSET, .ro, .any⟩, ⟨Fl.HBM_LAST_UE_HI_VALID, .ro, .any⟩]⟩,
  ⟨0x28, 1, 0x4, 1, 0xE101, [⟨Fl.HBM_SCRUB_CFG_EN, .rw, .any⟩, ⟨Fl.HBM_SCRUB_CFG_PERIOD, .rw, (.range 3 86400)⟩]⟩,
  ⟨0x2C, 1, 0x4, 1, 0x0, [⟨Fl.HBM_SCRUB_POS_UNIT, .ro, .any⟩]⟩]
def Map.hbm1 : List RegSpec := [
  ⟨0x30, 1, 0x4, 1, 0x0, [⟨Fl.HBM_SCRUB_SWEEPS_COUNT, .ro, .any⟩]⟩,
  ⟨0x34, 1, 0x4, 1, 0x0, [⟨Fl.HBM_REPAIR_APPLIED, .ro, .any⟩, ⟨Fl.HBM_REPAIR_REFUSED, .ro, .any⟩]⟩,
  ⟨0x38, 1, 0x4, 1, 0x0, [⟨Fl.HBM_CTRL_CNT_CLR, .wo, .any⟩]⟩,
  ⟨0x8000, 1, 0x4, 1, 0x0, [⟨Fl.EXPERT_EN, .rw, .any⟩]⟩,
  ⟨0x8004, 1, 0x4, 1, 0x0, [⟨Fl.HBM_EXP_TCR_DIS, .rwe, .any⟩, ⟨Fl.HBM_EXP_ECC_INJ, .rwe, (.range 0 2)⟩]⟩]
/-- The registers of the block (R243). -/
def Map.hbm : List RegSpec := Map.hbm0 ++ Map.hbm1

def Map.mesh0 : List RegSpec := [
  ⟨0x0, 1, 0x4, 1, 0x0, [⟨Fl.MESH_STATUS_CONTAINED, .ro, .any⟩, ⟨Fl.MESH_STATUS_CAUSE, .ro, .any⟩]⟩,
  ⟨0x4, 1, 0x4, 1, 0x0, [⟨Fl.MESH_CE_COUNT, .ro, .any⟩]⟩,
  ⟨0x8, 1, 0x4, 1, 0x0, [⟨Fl.MESH_BR_OUT_COUNT, .ro, .any⟩]⟩,
  ⟨0xC, 1, 0x4, 1, 0x0, [⟨Fl.MESH_BR_IN_COUNT, .ro, .any⟩]⟩,
  ⟨0x10, 1, 0x4, 1, 0x0, [⟨Fl.MESH_BR_REPLAY_COUNT, .ro, .any⟩]⟩,
  ⟨0x14, 1, 0x4, 1, 0x0, [⟨Fl.MESH_LINK_SEL_ROUTER, .rw, .any⟩, ⟨Fl.MESH_LINK_SEL_PORT, .rw, (.range 0 5)⟩]⟩,
  ⟨0x18, 1, 0x4, 1, 0x0, [⟨Fl.MESH_LINK_FLITS_COUNT, .ro, .any⟩]⟩,
  ⟨0x1C, 1, 0x4, 1, 0x0, [⟨Fl.MESH_CTRL_CNT_CLR, .wo, .any⟩]⟩,
  ⟨0x8000, 1, 0x4, 1, 0x0, [⟨Fl.EXPERT_EN, .rw, .any⟩]⟩,
  ⟨0x8004, 1, 0x4, 1, 0x0, [⟨Fl.MESH_EXP_ECC_INJ, .rwe, (.range 0 2)⟩]⟩]
/-- The registers of the block (R245). -/
def Map.mesh : List RegSpec := Map.mesh0

def Map.latch0 : List RegSpec := [
  ⟨0x0, 1, 0x4, 1, 0x0, [⟨Fl.LU_STATUS_WATCHES, .ro, .any⟩, ⟨Fl.LU_STATUS_FWD_BAD, .w1c, .any⟩, ⟨Fl.LU_STATUS_HOST_BUSY, .ro, .any⟩]⟩,
  ⟨0x4, 1, 0x4, 1, 0x0, [⟨Fl.LU_OPS_COUNT, .ro, .any⟩]⟩,
  ⟨0x8, 1, 0x4, 1, 0x0, [⟨Fl.LU_REFUSED_COUNT, .ro, .any⟩]⟩,
  ⟨0xC, 1, 0x4, 1, 0x0, [⟨Fl.LU_TIMEOUTS_COUNT, .ro, .any⟩]⟩,
  ⟨0x10, 1, 0x4, 1, 0x0, [⟨Fl.LU_NOTIFY_WAIT_WAITING, .ro, .any⟩]⟩,
  ⟨0x14, 1, 0x4, 1, 0x0, [⟨Fl.LU_CTRL_CNT_CLR, .wo, .any⟩]⟩,
  ⟨0x18, 1, 0x4, 1, 0x0, [⟨Fl.LU_PAIR_BASE, .rw, .any⟩, ⟨Fl.LU_PAIR_COUNT, .rw, .any⟩]⟩,
  ⟨0x20, 1, 0x4, 1, 0x0, [⟨Fl.LH_WORD_VALUE, .rw, .any⟩]⟩,
  ⟨0x24, 1, 0x4, 1, 0x0, [⟨Fl.LH_OPND_VALUE, .rw, .any⟩]⟩,
  ⟨0x28, 1, 0x4, 1, 0x0, [⟨Fl.LH_OPND2_VALUE, .rw, .any⟩]⟩,
  ⟨0x2C, 1, 0x4, 1, 0x0, [⟨Fl.LH_CMD_OP, .wo, .any⟩, ⟨Fl.LH_CMD_KIND, .wo, .any⟩, ⟨Fl.LH_CMD_OWNED, .wo, .any⟩, ⟨Fl.LH_CMD_JOB, .wo, .any⟩]⟩,
  ⟨0x30, 1, 0x4, 1, 0x0, [⟨Fl.LH_RESULT_LO_VALUE, .ro, .any⟩]⟩]
def Map.latch1 : List RegSpec := [
  ⟨0x34, 1, 0x4, 1, 0x0, [⟨Fl.LH_RESULT_HI_VALUE, .ro, .any⟩]⟩,
  ⟨0x1000, 64, 0x10, 1, 0x0, [⟨Fl.FWD_CFG_WORD, .rw, .any⟩, ⟨Fl.FWD_CFG_EN, .rw, .any⟩, ⟨Fl.FWD_CFG_FANOUT, .rw, .any⟩, ⟨Fl.FWD_CFG_DOP, .rw, (.range 0 2)⟩, ⟨Fl.FWD_CFG_DCLUSTER, .rw, .any⟩]⟩,
  ⟨0x1004, 64, 0x10, 1, 0x0, [⟨Fl.FWD_TARGET_TARGET, .rw, (.range 1 4294967295)⟩]⟩,
  ⟨0x1008, 64, 0x10, 1, 0x0, [⟨Fl.FWD_DEST_DWORD, .rw, .any⟩, ⟨Fl.FWD_DEST_DOPND, .rw, (.range 1 65535)⟩]⟩,
  ⟨0x100C, 64, 0x10, 1, 0x0, [⟨Fl.FWD_MASK_CLUSTERS, .rw, .any⟩]⟩,
  ⟨0x8000, 1, 0x4, 1, 0x0, [⟨Fl.EXPERT_EN, .rw, .any⟩]⟩,
  ⟨0x8004, 1, 0x4, 1, 0x0, [⟨Fl.LU_EXP_FWD_DELAY, .rwe, .any⟩]⟩]
/-- The registers of the block (R276). -/
def Map.latch : List RegSpec := Map.latch0 ++ Map.latch1

def Map.sch0 : List RegSpec := [
  ⟨0x0, 2, 0x8, 1, 0x0, [⟨Fl.ST_BASE_LO_BASE, .ro, .any⟩]⟩,
  ⟨0x4, 2, 0x8, 1, 0x0, [⟨Fl.ST_BASE_HI_BASE, .ro, .any⟩]⟩,
  ⟨0x10, 1, 0x4, 1, 0x0, [⟨Fl.ST_STATUS_ADMITTED, .ro, .any⟩, ⟨Fl.ST_STATUS_LC, .ro, .any⟩]⟩,
  ⟨0x14, 1, 0x4, 1, 0x0, [⟨Fl.ST_CMD_STREAM, .wo, .any⟩, ⟨Fl.ST_CMD_OP, .wo, .any⟩, ⟨Fl.ST_CMD_ZERO_CTX, .wo, .any⟩]⟩,
  ⟨0x18, 1, 0x4, 1, 0x0, [⟨Fl.ST_RESULT_STATUS, .ro, .any⟩, ⟨Fl.ST_RESULT_BUSY, .ro, .any⟩]⟩,
  ⟨0x1C, 1, 0x4, 1, 0x11, [⟨Fl.ADMIT_CLK_CLK, .rw, (.range 16 17)⟩]⟩,
  ⟨0x40, 16, 0x4, 1, 0x0, [⟨Fl.ST_STAGE_DATA, .rw, .any⟩]⟩,
  ⟨0x1000, 32, 0x20, 1, 0x0, [⟨Fl.BAT_CFG_EN, .rw, .any⟩, ⟨Fl.BAT_CFG_JOB, .rw, .any⟩, ⟨Fl.BAT_CFG_PLAN, .rw, .any⟩]⟩,
  ⟨0x1004, 32, 0x20, 1, 0x10, [⟨Fl.BAT_SIZE_TARGET, .rw, .any⟩, ⟨Fl.BAT_SIZE_CATCHUP, .rw, .any⟩]⟩,
  ⟨0x1008, 32, 0x20, 1, 0x0, [⟨Fl.BAT_AREA_LO_BASE, .rw, .any⟩]⟩,
  ⟨0x100C, 32, 0x20, 1, 0x0, [⟨Fl.BAT_AREA_HI_BASE, .rw, .any⟩]⟩,
  ⟨0x1010, 32, 0x20, 1, 0x61A8, [⟨Fl.BAT_BE_WAIT_TICKS, .rw, (.range 1 16777215)⟩]⟩]
def Map.sch1 : List RegSpec := [
  ⟨0x1014, 32, 0x20, 1, 0x0, [⟨Fl.BAT_STATUS_READY, .ro, .any⟩, ⟨Fl.BAT_STATUS_INFLIGHT, .ro, .any⟩, ⟨Fl.BAT_STATUS_BAD, .w1c, .any⟩, ⟨Fl.BAT_STATUS_BATCH, .ro, .any⟩]⟩,
  ⟨0x1018, 32, 0x20, 1, 0x0, [⟨Fl.BAT_PASSES_COUNT, .ro, .any⟩]⟩,
  ⟨0x101C, 32, 0x20, 1, 0x0, [⟨Fl.BAT_MISSES_COUNT, .ro, .any⟩]⟩,
  ⟨0x1400, 1, 0x4, 1, 0x0, [⟨Fl.JOB_CMD_JOB, .wo, .any⟩, ⟨Fl.JOB_CMD_OP, .wo, .any⟩]⟩,
  ⟨0x1404, 1, 0x4, 1, 0x0, [⟨Fl.JOB_RESULT_STATUS, .ro, .any⟩, ⟨Fl.JOB_RESULT_BUSY, .ro, .any⟩]⟩,
  ⟨0x1408, 1, 0x4, 1, 0x3D090, [⟨Fl.BE_SLICE_TICKS, .rw, (.range 250 16777215)⟩]⟩,
  ⟨0x1410, 1, 0x4, 1, 0x0, [⟨Fl.JOB_STAGE_PLAN, .rw, .any⟩, ⟨Fl.JOB_STAGE_CLIENT, .rw, .any⟩, ⟨Fl.JOB_STAGE_CLASS, .rw, .any⟩]⟩,
  ⟨0x1414, 5, 0x4, 1, 0x0, [⟨Fl.JOB_STAGE_DATA, .rw, .any⟩]⟩,
  ⟨0x1428, 1, 0x4, 1, 0x0, [⟨Fl.JOB_STAGE_SAVE_HI, .rw, .any⟩]⟩,
  ⟨0x142C, 1, 0x4, 1, 0x0, [⟨Fl.JOB_STAGE_DATA, .rw, .any⟩]⟩,
  ⟨0x1430, 1, 0x4, 1, 0x0, [⟨Fl.JOB_STAGE_SAVE_HI, .rw, .any⟩]⟩,
  ⟨0x1434, 1, 0x4, 1, 0x0, [⟨Fl.JOB_STAGE_STRIDE, .rw, .any⟩]⟩,
  ⟨0x2000, 32, 0x40, 1, 0x0, [⟨Fl.ACC_WAITS_COUNT, .ro, .any⟩]⟩,
  ⟨0x2004, 32, 0x40, 1, 0x0, [⟨Fl.ACC_WAIT_SUM_LO_VALUE, .ro, .any⟩]⟩,
  ⟨0x2008, 32, 0x40, 1, 0x0, [⟨Fl.ACC_WAIT_SUM_HI_VALUE, .ro, .any⟩]⟩,
  ⟨0x200C, 32, 0x40, 1, 0x0, [⟨Fl.ACC_WAIT_MAX_COUNT, .ro, .any⟩]⟩,
  ⟨0x2010, 32, 0x40, 1, 0x0, [⟨Fl.ACC_PREEMPTS_COUNT, .ro, .any⟩]⟩]
def Map.sch2 : List RegSpec := [
  ⟨0x2014, 32, 0x40, 1, 0x0, [⟨Fl.ACC_PREEMPT_TIME_LO_VALUE, .ro, .any⟩]⟩,
  ⟨0x2018, 32, 0x40, 1, 0x0, [⟨Fl.ACC_PREEMPT_TIME_HI_VALUE, .ro, .any⟩]⟩,
  ⟨0x2020, 32, 0x40, 8, 0x0, [⟨Fl.ACC_HIST_COUNT, .ro, .any⟩]⟩,
  ⟨0x2800, 1, 0x4, 1, 0x0, [⟨Fl.ACC_CTRL_CLR, .wo, .any⟩]⟩,
  ⟨0x3000, 256, 0x4, 1, 0x0, [⟨Fl.JOB_STATE_STATE, .ro, .any⟩, ⟨Fl.JOB_STATE_COMPETES, .ro, .any⟩, ⟨Fl.JOB_STATE_FORCED, .ro, .any⟩, ⟨Fl.JOB_STATE_CLIENT, .ro, .any⟩, ⟨Fl.JOB_STATE_PLAN, .ro, .any⟩]⟩,
  ⟨0x8000, 1, 0x4, 1, 0x0, [⟨Fl.EXPERT_EN, .rw, .any⟩]⟩,
  ⟨0x8004, 1, 0x4, 1, 0x0, [⟨Fl.SCH_EXP_ADMIT_FORCE, .rwe, .any⟩]⟩,
  ⟨0x8008, 1, 0x4, 1, 0x1388, [⟨Fl.SCH_EXP2_FORCE_LIMIT, .rwe, (.range 1250 16777215)⟩]⟩]
/-- The registers of the block (R297, R327). -/
def Map.sch : List RegSpec := Map.sch0 ++ Map.sch1 ++ Map.sch2

def Map.sc0 : List RegSpec := [
  ⟨0x0, 1, 0x4, 1, 0x0, [⟨Fl.SC_STATUS_RUNNING, .ro, .any⟩, ⟨Fl.SC_STATUS_CLK, .ro, .any⟩, ⟨Fl.SC_STATUS_QUIET, .ro, .any⟩]⟩,
  ⟨0x4, 1, 0x4, 1, 0x0, [⟨Fl.SC_TICK_LO_COUNT, .ro, .any⟩]⟩,
  ⟨0x8, 1, 0x4, 1, 0x0, [⟨Fl.SC_TICK_HI_COUNT, .ro, .any⟩]⟩,
  ⟨0xC, 1, 0x4, 1, 0x0, [⟨Fl.SC_STREAMS_READY, .ro, .any⟩, ⟨Fl.SC_STREAMS_RUNNING, .ro, .any⟩]⟩,
  ⟨0x10, 1, 0x4, 1, 0x0, [⟨Fl.SC_SUSPECT_COUNT, .ro, .any⟩]⟩,
  ⟨0x14, 1, 0x4, 1, 0x0, [⟨Fl.SC_INFLIGHT_BATCHES, .ro, .any⟩]⟩,
  ⟨0x18, 1, 0x4, 1, 0x0, [⟨Fl.SC_DISPATCHES_COUNT, .ro, .any⟩]⟩,
  ⟨0x1C, 1, 0x4, 1, 0x0, [⟨Fl.SC_COMPLETIONS_COUNT, .ro, .any⟩]⟩,
  ⟨0x20, 1, 0x4, 1, 0x0, [⟨Fl.SC_FAILED_COUNT, .ro, .any⟩]⟩,
  ⟨0x24, 1, 0x4, 1, 0x0, [⟨Fl.SC_CTRL_CNT_CLR, .wo, .any⟩]⟩]
/-- The registers of the block (R301). -/
def Map.sc : List RegSpec := Map.sc0

def Map.gctl0 : List RegSpec := [
  ⟨0x0, 1, 0x4, 1, 0x0, [⟨Fl.DEV_ID_LO_ID, .ro, .any⟩]⟩,
  ⟨0x4, 1, 0x4, 1, 0x0, [⟨Fl.DEV_ID_HI_ID, .ro, .any⟩]⟩,
  ⟨0x8, 1, 0x4, 1, 0x0, [⟨Fl.DEV_INFO_ORDER, .ro, .any⟩, ⟨Fl.DEV_INFO_REV, .ro, .any⟩, ⟨Fl.DEV_INFO_ROLE, .ro, .any⟩]⟩,
  ⟨0xC, 1, 0x4, 1, 0x0, [⟨Fl.DEV_RESET_RESTART, .wo, .any⟩]⟩,
  ⟨0x100, 1, 0x4, 1, 0x0, [⟨Fl.EP_CTRL_KIND, .wo, .any⟩, ⟨Fl.EP_CTRL_SIDE, .wo, .any⟩]⟩,
  ⟨0x104, 1, 0x4, 1, 0x0, [⟨Fl.EP_ARG_CLK, .rw, .any⟩, ⟨Fl.EP_ARG_QUIET, .rw, .any⟩, ⟨Fl.EP_ARG_PLAN, .rw, .any⟩]⟩,
  ⟨0x108, 1, 0x4, 1, 0x0, [⟨Fl.EP_STATUS_EPOCH, .ro, .any⟩, ⟨Fl.EP_STATUS_STATE, .ro, .any⟩, ⟨Fl.EP_STATUS_ACKED, .ro, .any⟩, ⟨Fl.EP_STATUS_LATE, .ro, .any⟩, ⟨Fl.EP_STATUS_REFUSED, .w1c, .any⟩]⟩,
  ⟨0x110, 6, 0x4, 1, 0x0, [⟨Fl.EP_UNIT_EPOCH, .ro, .any⟩, ⟨Fl.EP_UNIT_PENDING, .ro, .any⟩]⟩]
/-- The registers of the block (R488, R326). -/
def Map.gctl : List RegSpec := Map.gctl0

def Map.apt0 : List RegSpec := [
  ⟨0x0, 1, 0x4, 1, 0x0, [⟨Fl.AP_CTRL_EN, .rw, .any⟩, ⟨Fl.AP_CTRL_START, .wo, .any⟩, ⟨Fl.AP_CTRL_STOP, .wo, .any⟩, ⟨Fl.AP_CTRL_MCLK_EN, .rw, .any⟩, ⟨Fl.AP_CTRL_MCLK_RATIO, .rw, .any⟩]⟩,
  ⟨0x4, 1, 0x4, 1, 0x182814, [⟨Fl.AP_FMT_FORMAT, .rw, (.range 0 2)⟩, ⟨Fl.AP_FMT_TDM_DELAY, .rw, .any⟩, ⟨Fl.AP_FMT_SLOTS_M1, .rw, .any⟩, ⟨Fl.AP_FMT_SLOT_W, .rw, (.range 0 2)⟩, ⟨Fl.AP_FMT_WORD_W, .rw, .any⟩, ⟨Fl.AP_FMT_RATE, .rw, (.range 0 11)⟩, ⟨Fl.AP_FMT_LOOP_BW, .rw, (.range 0 2)⟩, ⟨Fl.AP_FMT_LOOP_MODE, .rw, .any⟩]⟩,
  ⟨0x8, 1, 0x4, 1, 0x0, [⟨Fl.AP_STATUS_RUNNING, .ro, .any⟩, ⟨Fl.AP_STATUS_MODE, .ro, .any⟩, ⟨Fl.AP_STATUS_IN_GROUP, .ro, .any⟩, ⟨Fl.AP_STATUS_GROUP, .ro, .any⟩, ⟨Fl.AP_STATUS_MCLK_RUN, .ro, .any⟩]⟩,
  ⟨0xC, 1, 0x4, 1, 0x0, [⟨Fl.AP_FRAME_LO_FRAMES, .ro, .any⟩]⟩,
  ⟨0x10, 1, 0x4, 1, 0x0, [⟨Fl.AP_FRAME_HI_FRAMES, .ro, .any⟩]⟩,
  ⟨0x14, 1, 0x4, 1, 0x14800000, [⟨Fl.AP_PACE_SLOT, .rw, .any⟩, ⟨Fl.AP_PACE_PACE_EN, .rw, .any⟩, ⟨Fl.AP_PACE_TARGET, .rw, (.range 1 255)⟩, ⟨Fl.AP_PACE_AVG, .rw, (.range 1 255)⟩]⟩,
  ⟨0x18, 1, 0x4, 1, 0x0, [⟨Fl.AP_TRIM_TRIM, .ro, .any⟩]⟩,
  ⟨0x1C, 1, 0x4, 1, 0x0, [⟨Fl.AP_SLIP_DROP_COUNT, .ro, .any⟩]⟩,
  ⟨0x20, 1, 0x4, 1, 0x0, [⟨Fl.AP_SLIP_REP_COUNT, .ro, .any⟩]⟩,
  ⟨0x24, 1, 0x4, 1, 0x0, [⟨Fl.AP_MIX_SLIPS_COUNT, .ro, .any⟩]⟩,
  ⟨0x28, 1, 0x4, 1, 0x0, [⟨Fl.AP_UNDERRUNS_COUNT, .ro, .any⟩]⟩,
  ⟨0x2C, 1, 0x4, 1, 0x0, [⟨Fl.AP_OVERRUNS_COUNT, .ro, .any⟩]⟩]
def Map.apt1 : List RegSpec := [
  ⟨0x30, 1, 0x4, 1, 0x0, [⟨Fl.AP_CNT_CTRL_CNT_CLR, .wo, .any⟩]⟩,
  ⟨0x400, 32, 0x40, 1, 0x4, [⟨Fl.SLOT_CAP_CAP_EN, .rw, .any⟩, ⟨Fl.SLOT_CAP_MEM_W, .rw, .any⟩, ⟨Fl.SLOT_CAP_IEC_DET, .rw, .any⟩, ⟨Fl.SLOT_CAP_BOUND, .ro, .any⟩, ⟨Fl.SLOT_CAP_STREAM, .ro, .any⟩]⟩,
  ⟨0x404, 32, 0x40, 1, 0x4, [⟨Fl.SLOT_PB_PB_EN, .rw, .any⟩, ⟨Fl.SLOT_PB_MEM_W, .rw, .any⟩, ⟨Fl.SLOT_PB_IEC_DET, .rw, .any⟩, ⟨Fl.SLOT_PB_SRC, .rw, .any⟩, ⟨Fl.SLOT_PB_DOMAIN, .rw, .any⟩]⟩,
  ⟨0x408, 32, 0x40, 1, 0x0, [⟨Fl.SLOT_PB_SRC_ID, .rw, .any⟩]⟩,
  ⟨0x40C, 32, 0x40, 1, 0x0, [⟨Fl.PB_BASE_LO_BASE, .rw, (.aligned 256)⟩]⟩,
  ⟨0x410, 32, 0x40, 1, 0x0, [⟨Fl.PB_BASE_HI_BASE, .rw, .any⟩]⟩,
  ⟨0x414, 32, 0x40, 1, 0x4, [⟨Fl.PB_SIZE_UNITS, .rw, (.range 4 4096)⟩]⟩,
  ⟨0x418, 32, 0x40, 1, 0x0, [⟨Fl.PB_WR_POS, .ro, .any⟩]⟩,
  ⟨0x41C, 32, 0x40, 1, 0x0, [⟨Fl.PB_RD_POS, .ro, .any⟩]⟩,
  ⟨0x420, 32, 0x40, 1, 0x0, [⟨Fl.SLOT_STATE_CAP, .ro, .any⟩, ⟨Fl.SLOT_STATE_PB, .ro, .any⟩, ⟨Fl.SLOT_STATE_CAP_NONPCM, .ro, .any⟩, ⟨Fl.SLOT_STATE_PB_NONPCM, .ro, .any⟩, ⟨Fl.SLOT_STATE_MIXED, .ro, .any⟩, ⟨Fl.SLOT_STATE_GAIN, .ro, .any⟩]⟩,
  ⟨0x8000, 1, 0x4, 1, 0x0, [⟨Fl.EXPERT_EN, .rw, .any⟩]⟩,
  ⟨0x8004, 1, 0x4, 1, 0x104, [⟨Fl.AP_DIV_INT_INT, .rwe, (.range 16 8191)⟩]⟩]
def Map.apt2 : List RegSpec := [
  ⟨0x8008, 1, 0x4, 1, 0x6AAAAB, [⟨Fl.AP_DIV_FRAC_FRAC, .rwe, .any⟩]⟩,
  ⟨0x800C, 1, 0x4, 1, 0x44A11, [⟨Fl.AP_KP_KP, .rwe, .any⟩]⟩,
  ⟨0x8010, 1, 0x4, 1, 0xDD, [⟨Fl.AP_KI_KI, .rwe, .any⟩]⟩,
  ⟨0x8014, 1, 0x4, 1, 0xC040, [⟨Fl.AP_MARKS_LO, .rwe, .any⟩, ⟨Fl.AP_MARKS_HI, .rwe, .any⟩]⟩]
/-- The registers of the block (R358). -/
def Map.apt : List RegSpec := Map.apt0 ++ Map.apt1 ++ Map.apt2

def Map.vpt0 : List RegSpec := [
  ⟨0x0, 1, 0x4, 1, 0x0, [⟨Fl.VP_CTRL_EN, .rw, .any⟩, ⟨Fl.VP_CTRL_START, .wo, .any⟩, ⟨Fl.VP_CTRL_STOP, .wo, .any⟩]⟩,
  ⟨0x4, 1, 0x4, 1, 0x818, [⟨Fl.VP_CFG_RATE, .rw, (.range 0 11)⟩, ⟨Fl.VP_CFG_LOOP_BW, .rw, (.range 0 2)⟩, ⟨Fl.VP_CFG_LOOP_MODE, .rw, .any⟩, ⟨Fl.VP_CFG_JITTER, .rw, (.range 1 63)⟩]⟩,
  ⟨0x8, 1, 0x4, 1, 0x0, [⟨Fl.AP_STATUS_RUNNING, .ro, .any⟩, ⟨Fl.AP_STATUS_MODE, .ro, .any⟩, ⟨Fl.AP_STATUS_IN_GROUP, .ro, .any⟩, ⟨Fl.AP_STATUS_GROUP, .ro, .any⟩, ⟨Fl.AP_STATUS_MCLK_RUN, .ro, .any⟩]⟩,
  ⟨0xC, 1, 0x4, 1, 0x0, [⟨Fl.AP_FRAME_LO_FRAMES, .ro, .any⟩]⟩,
  ⟨0x10, 1, 0x4, 1, 0x0, [⟨Fl.AP_FRAME_HI_FRAMES, .ro, .any⟩]⟩,
  ⟨0x14, 1, 0x4, 1, 0x14800000, [⟨Fl.AP_PACE_SLOT, .rw, .any⟩, ⟨Fl.AP_PACE_PACE_EN, .rw, .any⟩, ⟨Fl.AP_PACE_TARGET, .rw, (.range 1 255)⟩, ⟨Fl.AP_PACE_AVG, .rw, (.range 1 255)⟩]⟩,
  ⟨0x18, 1, 0x4, 1, 0x0, [⟨Fl.AP_TRIM_TRIM, .ro, .any⟩]⟩,
  ⟨0x1C, 1, 0x4, 1, 0x0, [⟨Fl.AP_SLIP_DROP_COUNT, .ro, .any⟩]⟩,
  ⟨0x20, 1, 0x4, 1, 0x0, [⟨Fl.AP_SLIP_REP_COUNT, .ro, .any⟩]⟩,
  ⟨0x24, 1, 0x4, 1, 0x0, [⟨Fl.AP_MIX_SLIPS_COUNT, .ro, .any⟩]⟩,
  ⟨0x28, 1, 0x4, 1, 0x0, [⟨Fl.AP_UNDERRUNS_COUNT, .ro, .any⟩]⟩,
  ⟨0x2C, 1, 0x4, 1, 0x0, [⟨Fl.AP_OVERRUNS_COUNT, .ro, .any⟩]⟩]
def Map.vpt1 : List RegSpec := [
  ⟨0x30, 1, 0x4, 1, 0x0, [⟨Fl.AP_CNT_CTRL_CNT_CLR, .wo, .any⟩]⟩,
  ⟨0x34, 1, 0x4, 1, 0x0, [⟨Fl.VP_LATE_COUNT, .ro, .any⟩]⟩,
  ⟨0x400, 64, 0x40, 1, 0x4, [⟨Fl.SLOT_CAP_CAP_EN, .rw, .any⟩, ⟨Fl.SLOT_CAP_MEM_W, .rw, .any⟩, ⟨Fl.SLOT_CAP_IEC_DET, .rw, .any⟩, ⟨Fl.SLOT_CAP_BOUND, .ro, .any⟩, ⟨Fl.SLOT_CAP_STREAM, .ro, .any⟩]⟩,
  ⟨0x404, 64, 0x40, 1, 0x4, [⟨Fl.SLOT_PB_PB_EN, .rw, .any⟩, ⟨Fl.SLOT_PB_MEM_W, .rw, .any⟩, ⟨Fl.SLOT_PB_IEC_DET, .rw, .any⟩, ⟨Fl.SLOT_PB_SRC, .rw, .any⟩, ⟨Fl.SLOT_PB_DOMAIN, .rw, .any⟩]⟩,
  ⟨0x408, 64, 0x40, 1, 0x0, [⟨Fl.SLOT_PB_SRC_ID, .rw, .any⟩]⟩,
  ⟨0x40C, 64, 0x40, 1, 0x0, [⟨Fl.PB_BASE_LO_BASE, .rw, (.aligned 256)⟩]⟩,
  ⟨0x410, 64, 0x40, 1, 0x0, [⟨Fl.PB_BASE_HI_BASE, .rw, .any⟩]⟩,
  ⟨0x414, 64, 0x40, 1, 0x4, [⟨Fl.PB_SIZE_UNITS, .rw, (.range 4 4096)⟩]⟩,
  ⟨0x418, 64, 0x40, 1, 0x0, [⟨Fl.PB_WR_POS, .ro, .any⟩]⟩,
  ⟨0x41C, 64, 0x40, 1, 0x0, [⟨Fl.PB_RD_POS, .ro, .any⟩]⟩,
  ⟨0x420, 64, 0x40, 1, 0x0, [⟨Fl.SLOT_STATE_CAP, .ro, .any⟩, ⟨Fl.SLOT_STATE_PB, .ro, .any⟩, ⟨Fl.SLOT_STATE_CAP_NONPCM, .ro, .any⟩, ⟨Fl.SLOT_STATE_PB_NONPCM, .ro, .any⟩, ⟨Fl.SLOT_STATE_MIXED, .ro, .any⟩, ⟨Fl.SLOT_STATE_GAIN, .ro, .any⟩]⟩,
  ⟨0x8000, 1, 0x4, 1, 0x0, [⟨Fl.EXPERT_EN, .rw, .any⟩]⟩]
def Map.vpt2 : List RegSpec := [
  ⟨0x8004, 1, 0x4, 1, 0x41, [⟨Fl.VP_DIV_INT_INT, .rwe, (.range 16 8191)⟩]⟩,
  ⟨0x8008, 1, 0x4, 1, 0x1AAAAB, [⟨Fl.VP_DIV_FRAC_FRAC, .rwe, .any⟩]⟩,
  ⟨0x800C, 1, 0x4, 1, 0x44A11, [⟨Fl.AP_KP_KP, .rwe, .any⟩]⟩,
  ⟨0x8010, 1, 0x4, 1, 0xDD, [⟨Fl.AP_KI_KI, .rwe, .any⟩]⟩,
  ⟨0x8014, 1, 0x4, 1, 0xC040, [⟨Fl.AP_MARKS_LO, .rwe, .any⟩, ⟨Fl.AP_MARKS_HI, .rwe, .any⟩]⟩]
/-- The registers of the block (R359). -/
def Map.vpt : List RegSpec := Map.vpt0 ++ Map.vpt1 ++ Map.vpt2

def Map.apg0 : List RegSpec := [
  ⟨0x0, 1, 0x4, 1, 0x0, [⟨Fl.APG_CTRL_START, .wo, .any⟩, ⟨Fl.APG_CTRL_STOP, .wo, .any⟩]⟩,
  ⟨0x10, 4, 0x4, 1, 0x0, [⟨Fl.APG_MEMBERS_COPPER, .rw, .any⟩, ⟨Fl.APG_MEMBERS_VIRTUAL, .rw, .any⟩, ⟨Fl.APG_MEMBERS_PACE_UNIT, .rw, .any⟩, ⟨Fl.APG_MEMBERS_PACE_EN, .rw, .any⟩]⟩,
  ⟨0x20, 4, 0x4, 1, 0x0, [⟨Fl.APG_STATUS_RUNNING, .ro, .any⟩, ⟨Fl.APG_STATUS_MODE, .ro, .any⟩, ⟨Fl.APG_STATUS_REASON, .ro, .any⟩]⟩,
  ⟨0x30, 1, 0x4, 1, 0x80, [⟨Fl.APLL_CTRL_REF, .rw, .any⟩, ⟨Fl.APLL_CTRL_AW_RATE, .rw, (.range 0 11)⟩]⟩,
  ⟨0x34, 1, 0x4, 1, 0x0, [⟨Fl.APLL_STATUS_LOCK, .ro, .any⟩, ⟨Fl.APLL_STATUS_HOLDOVER, .ro, .any⟩, ⟨Fl.APLL_STATUS_RATE_WAIT, .ro, .any⟩]⟩,
  ⟨0x38, 1, 0x4, 1, 0x0, [⟨Fl.AW_GLITCHES_COUNT, .ro, .any⟩]⟩,
  ⟨0x3C, 1, 0x4, 1, 0x0, [⟨Fl.AW_STOPS_COUNT, .ro, .any⟩]⟩,
  ⟨0x40, 1, 0x4, 1, 0x0, [⟨Fl.AW_OFFSET_PPM16, .ro, .any⟩]⟩,
  ⟨0x44, 1, 0x4, 1, 0x0, [⟨Fl.APG_CNT_CTRL_CNT_CLR, .wo, .any⟩]⟩,
  ⟨0x8000, 1, 0x4, 1, 0x0, [⟨Fl.EXPERT_EN, .rw, .any⟩]⟩,
  ⟨0x8010, 4, 0x8, 1, 0x0, [⟨Fl.APG_DIV_INT_DIV, .rwe, (.range 16 8191)⟩]⟩,
  ⟨0x8014, 4, 0x8, 1, 0x0, [⟨Fl.APG_DIV_FRAC_DIV, .rwe, .any⟩]⟩]
/-- The registers of the block (R360). -/
def Map.apg : List RegSpec := Map.apg0

def Map.fin0 : List RegSpec := [
  ⟨0x0, 1, 0x4, 1, 0x0, [⟨Fl.FIN_STATUS_ENG_ON, .ro, .any⟩, ⟨Fl.FIN_STATUS_SCALER_ON, .ro, .any⟩, ⟨Fl.FIN_STATUS_CAMS, .ro, .any⟩]⟩,
  ⟨0x10, 4, 0x4, 1, 0x0, [⟨Fl.FIN_LOAD_VALUE, .ro, .any⟩]⟩,
  ⟨0x20, 1, 0x4, 1, 0x61A8, [⟨Fl.OUT_WAIT_TICKS, .rw, (.range 1 250000)⟩]⟩,
  ⟨0x24, 1, 0x4, 1, 0x0, [⟨Fl.FIN_CTRL_CNT_CLR, .wo, .any⟩]⟩,
  ⟨0x1000, 64, 0x40, 1, 0x1E00, [⟨Fl.CAM_CFG_EN, .rw, .any⟩, ⟨Fl.CAM_CFG_ENGINE, .rw, .any⟩, ⟨Fl.CAM_CFG_CODEC, .rw, .any⟩, ⟨Fl.CAM_CFG_MAX_FPS, .rw, (.range 1 60)⟩]⟩,
  ⟨0x1004, 64, 0x40, 1, 0x0, [⟨Fl.CAM_SRC_ID, .rw, .any⟩, ⟨Fl.CAM_SRC_KIND, .rw, .any⟩]⟩,
  ⟨0x1008, 64, 0x40, 1, 0x0, [⟨Fl.BS_BASE_LO_BASE, .rw, (.aligned 4096)⟩]⟩,
  ⟨0x100C, 64, 0x40, 1, 0x0, [⟨Fl.BS_BASE_HI_BASE, .rw, .any⟩]⟩,
  ⟨0x1010, 64, 0x40, 1, 0x100, [⟨Fl.BS_SIZE_UNITS, .rw, (.range 16 16384)⟩]⟩,
  ⟨0x1014, 64, 0x40, 1, 0x0, [⟨Fl.FB_BASE_LO_BASE, .rw, (.aligned 4096)⟩]⟩,
  ⟨0x1018, 64, 0x40, 1, 0x0, [⟨Fl.FB_BASE_HI_BASE, .rw, .any⟩]⟩,
  ⟨0x101C, 64, 0x40, 1, 0x6, [⟨Fl.FB_CFG_COUNT, .rw, (.range 3 20)⟩, ⟨Fl.FB_CFG_TEN, .rw, .any⟩]⟩]
def Map.fin1 : List RegSpec := [
  ⟨0x1020, 64, 0x40, 1, 0x4380780, [⟨Fl.CAM_GEOM_MAX_W, .rw, .any⟩, ⟨Fl.CAM_GEOM_MAX_H, .rw, .any⟩]⟩,
  ⟨0x1024, 64, 0x40, 1, 0x0, [⟨Fl.CAM_STATUS_STATE, .ro, .any⟩, ⟨Fl.CAM_STATUS_TEN_IN_USE, .ro, .any⟩]⟩,
  ⟨0x1028, 64, 0x40, 1, 0x0, [⟨Fl.CAM_FRAME_VALUE, .ro, .any⟩]⟩,
  ⟨0x102C, 64, 0x40, 1, 0x0, [⟨Fl.CAM_DROPS_COUNT, .ro, .any⟩]⟩,
  ⟨0x4000, 512, 0x20, 1, 0x2000208, [⟨Fl.OUT_CFG_EN, .rw, .any⟩, ⟨Fl.OUT_CFG_DEST, .rw, .any⟩, ⟨Fl.OUT_CFG_COLOUR, .rw, (.range 0 2)⟩, ⟨Fl.OUT_CFG_FRAME_TAG, .rw, .any⟩, ⟨Fl.OUT_CFG_SHIFT, .rw, .any⟩, ⟨Fl.OUT_CFG_OFFSET, .rw, .any⟩]⟩,
  ⟨0x4004, 512, 0x20, 1, 0x0, [⟨Fl.OUT_CROP_X, .rw, (.evenIn 0 8190)⟩, ⟨Fl.OUT_CROP_Y, .rw, (.evenIn 0 8190)⟩]⟩,
  ⟨0x4008, 512, 0x20, 1, 0x1C001C0, [⟨Fl.OUT_CROP_SIZE_W, .rw, (.evenIn 8 8190)⟩, ⟨Fl.OUT_CROP_SIZE_H, .rw, (.evenIn 8 8190)⟩]⟩,
  ⟨0x400C, 512, 0x20, 1, 0xE000E0, [⟨Fl.OUT_SIZE_OW, .rw, (.evenIn 8 1024)⟩, ⟨Fl.OUT_SIZE_OH, .rw, (.evenIn 8 1024)⟩]⟩,
  ⟨0x4010, 512, 0x20, 1, 0x0, [⟨Fl.OUT_DEST_CORE, .rw, .any⟩, ⟨Fl.OUT_DEST_RING, .rw, .any⟩]⟩,
  ⟨0x4014, 512, 0x20, 1, 0x0, [⟨Fl.OUT_BIND_STREAM, .ro, .any⟩, ⟨Fl.OUT_BIND_BOUND, .ro, .any⟩]⟩,
  ⟨0x4018, 512, 0x20, 1, 0x0, [⟨Fl.OUT_LAST_VALUE, .ro, .any⟩]⟩,
  ⟨0x401C, 512, 0x20, 1, 0x0, [⟨Fl.OUT_DROPS_COUNT, .ro, .any⟩]⟩]
def Map.fin2 : List RegSpec := [
  ⟨0x8000, 1, 0x4, 1, 0x0, [⟨Fl.EXPERT_EN, .rw, .any⟩]⟩,
  ⟨0x8004, 1, 0x4, 1, 0x0, [⟨Fl.FIN_EXP_LOAD_OVR, .rwe, .any⟩]⟩]
/-- The registers of the block (R375). -/
def Map.fin : List RegSpec := Map.fin0 ++ Map.fin1 ++ Map.fin2

def Map.opt0 : List RegSpec := [
  ⟨0x0, 1, 0x4, 1, 0x1, [⟨Fl.OPT_BOND_BOND_EN, .rw, .any⟩, ⟨Fl.OPT_BOND_DEGRADED, .ro, .any⟩]⟩,
  ⟨0x4, 1, 0x4, 1, 0x61A8, [⟨Fl.OPT_CREDIT_LIMIT_TICKS, .rw, (.range 1 16777215)⟩]⟩,
  ⟨0x10, 2, 0x10, 1, 0x0, [⟨Fl.CASE_STATUS_STATE, .ro, .any⟩, ⟨Fl.CASE_STATUS_LIGHT, .ro, .any⟩, ⟨Fl.CASE_STATUS_MARGIN, .ro, .any⟩]⟩,
  ⟨0x100, 8, 0x80, 1, 0x1, [⟨Fl.PANE_CTRL_EN, .rw, .any⟩, ⟨Fl.PANE_CTRL_QUERY, .wo, .any⟩]⟩,
  ⟨0x104, 8, 0x80, 1, 0x0, [⟨Fl.PANE_STATUS_STATE, .ro, .any⟩, ⟨Fl.PANE_STATUS_LAST_REASON, .ro, .any⟩, ⟨Fl.PANE_STATUS_DUAL, .ro, .any⟩, ⟨Fl.PANE_STATUS_QUERY_VALID, .rc, .any⟩, ⟨Fl.PANE_STATUS_PEER_HEARD, .ro, .any⟩]⟩,
  ⟨0x108, 8, 0x80, 1, 0x0, [⟨Fl.PANE_PEER_LO_ID, .ro, .any⟩]⟩,
  ⟨0x10C, 8, 0x80, 1, 0x0, [⟨Fl.PANE_PEER_HI_ID, .ro, .any⟩]⟩,
  ⟨0x110, 8, 0x80, 1, 0x0, [⟨Fl.PANE_PEER_INFO_ROLE, .ro, .any⟩, ⟨Fl.PANE_PEER_INFO_AIN, .ro, .any⟩, ⟨Fl.PANE_PEER_INFO_AOUT, .ro, .any⟩]⟩,
  ⟨0x120, 8, 0x80, 1, 0x0, [⟨Fl.FRAMES_TX_COUNT, .ro, .any⟩]⟩,
  ⟨0x124, 8, 0x80, 1, 0x0, [⟨Fl.FRAMES_RX_COUNT, .ro, .any⟩]⟩,
  ⟨0x128, 8, 0x80, 1, 0x0, [⟨Fl.CRC_ERR_COUNT, .ro, .any⟩]⟩,
  ⟨0x12C, 8, 0x80, 1, 0x0, [⟨Fl.FEC_CORR_COUNT, .ro, .any⟩]⟩]
def Map.opt1 : List RegSpec := [
  ⟨0x130, 8, 0x80, 1, 0x0, [⟨Fl.FEC_UNCORR_COUNT, .ro, .any⟩]⟩,
  ⟨0x134, 8, 0x80, 1, 0x0, [⟨Fl.SEQ_GAP_COUNT, .ro, .any⟩]⟩,
  ⟨0x138, 8, 0x80, 1, 0x0, [⟨Fl.REPLAYS_COUNT, .ro, .any⟩]⟩,
  ⟨0x13C, 8, 0x80, 1, 0x0, [⟨Fl.DROPS_COUNT, .ro, .any⟩]⟩,
  ⟨0x140, 8, 0x80, 1, 0x0, [⟨Fl.CREDIT_STALL_COUNT, .ro, .any⟩]⟩,
  ⟨0x144, 8, 0x80, 1, 0x0, [⟨Fl.DOWNS_COUNT, .ro, .any⟩]⟩,
  ⟨0x148, 8, 0x80, 1, 0x0, [⟨Fl.PANE_CNT_CTRL_CNT_CLR, .wo, .any⟩]⟩,
  ⟨0x8000, 1, 0x4, 1, 0x0, [⟨Fl.EXPERT_EN, .rw, .any⟩]⟩,
  ⟨0x8004, 1, 0x4, 1, 0x0, [⟨Fl.OPT_EXP_TUNE_HOLD, .rwe, .any⟩, ⟨Fl.OPT_EXP_PRBS, .rwe, .any⟩]⟩]
/-- The registers of the block (R396). -/
def Map.opt : List RegSpec := Map.opt0 ++ Map.opt1

def Map.mir0 : List RegSpec := [
  ⟨0x0, 1, 0x4, 1, 0x2, [⟨Fl.MIR_CFG_EN, .rw, .any⟩, ⟨Fl.MIR_CFG_AUTO_RESTORE, .rw, .any⟩]⟩,
  ⟨0x4, 1, 0x4, 1, 0x0, [⟨Fl.MIR_STATUS_ROLE, .ro, .any⟩, ⟨Fl.MIR_STATUS_PARTNER_STATE, .ro, .any⟩, ⟨Fl.MIR_STATUS_CONFLICT, .w1c, .any⟩, ⟨Fl.MIR_STATUS_ADOPTING, .ro, .any⟩]⟩,
  ⟨0x8, 1, 0x4, 1, 0x0, [⟨Fl.MIR_CMD_STREAM, .wo, .any⟩, ⟨Fl.MIR_CMD_OP, .wo, .any⟩]⟩,
  ⟨0xC, 1, 0x4, 1, 0x0, [⟨Fl.MIR_RESULT_STATUS, .ro, .any⟩, ⟨Fl.MIR_RESULT_BUSY, .ro, .any⟩]⟩,
  ⟨0x10, 2, 0xC, 1, 0x0, [⟨Fl.MIR_STAGE_LO_BASE, .rw, (.aligned 4096)⟩]⟩,
  ⟨0x14, 2, 0xC, 1, 0x0, [⟨Fl.MIR_STAGE_HI_BASE, .rw, .any⟩]⟩,
  ⟨0x18, 2, 0xC, 1, 0x400, [⟨Fl.MIR_STAGE_SIZE_UNITS, .rw, (.range 64 65535)⟩]⟩,
  ⟨0x30, 1, 0x4, 1, 0x0, [⟨Fl.MIR_UNMIRRORED_COUNT, .ro, .any⟩]⟩,
  ⟨0x34, 1, 0x4, 1, 0x0, [⟨Fl.MIR_SNAPS_COUNT, .ro, .any⟩]⟩,
  ⟨0x38, 1, 0x4, 1, 0x0, [⟨Fl.MIR_SKIPS_COUNT, .ro, .any⟩]⟩,
  ⟨0x3C, 1, 0x4, 1, 0x0, [⟨Fl.MIR_REJECTS_COUNT, .ro, .any⟩]⟩,
  ⟨0x40, 1, 0x4, 1, 0x0, [⟨Fl.MIR_HB_MISSED_COUNT, .ro, .any⟩]⟩]
def Map.mir1 : List RegSpec := [
  ⟨0x44, 1, 0x4, 1, 0x0, [⟨Fl.MIR_CNT_CTRL_CNT_CLR, .wo, .any⟩]⟩,
  ⟨0x8000, 1, 0x4, 1, 0x0, [⟨Fl.EXPERT_EN, .rw, .any⟩]⟩,
  ⟨0x8004, 1, 0x4, 1, 0x0, [⟨Fl.MIR_EXP_AUTO_ADOPT, .rwe, .any⟩]⟩]
/-- The registers of the block (R416). -/
def Map.mir : List RegSpec := Map.mir0 ++ Map.mir1

def Map.boltMb0 : List RegSpec := [
  ⟨0x0, 2, 0x800, 1, 0x0, [⟨Fl.MB_DOORBELL_TAG, .wo, .any⟩]⟩,
  ⟨0x4, 2, 0x800, 1, 0x0, [⟨Fl.MB_STATUS_STATE, .ro, .any⟩, ⟨Fl.MB_STATUS_RING_LOST, .w1c, .any⟩, ⟨Fl.MB_STATUS_SEAL, .ro, .any⟩]⟩,
  ⟨0x808, 1, 0x4, 1, 0xFF00, [⟨Fl.MB_EVENT_CODE, .ro, .any⟩, ⟨Fl.MB_EVENT_SCALE, .ro, .any⟩]⟩,
  ⟨0x40, 2, 0x800, 240, 0x0, [⟨Fl.MB_REQ_DATA, .rw, .any⟩]⟩,
  ⟨0x400, 2, 0x800, 256, 0x0, [⟨Fl.MB_RSP_DATA, .ro, .any⟩]⟩]
/-- The registers of the block (R437). -/
def Map.boltMb : List RegSpec := Map.boltMb0

def Map.hif0 : List RegSpec := [
  ⟨0x0, 1, 0x4, 1, 0x0, [⟨Fl.HIF_STATUS_SPEED, .ro, .any⟩, ⟨Fl.HIF_STATUS_WIDTH, .ro, .any⟩, ⟨Fl.HIF_STATUS_FLIT, .ro, .any⟩, ⟨Fl.HIF_STATUS_PM, .ro, .any⟩, ⟨Fl.HIF_STATUS_READY, .ro, .any⟩]⟩,
  ⟨0x4, 1, 0x4, 1, 0x0, [⟨Fl.HIF_STEPPED_COUNT, .ro, .any⟩]⟩,
  ⟨0x8, 1, 0x4, 1, 0x0, [⟨Fl.HIF_HOST_ERR_COUNT, .ro, .any⟩]⟩,
  ⟨0xC, 1, 0x4, 1, 0x15A, [⟨Fl.SMB_CFG_ADDR, .rw, (.range 8 119)⟩, ⟨Fl.SMB_CFG_PEC_REQ, .rw, .any⟩]⟩,
  ⟨0x100, 32, 0x4, 1, 0x0, [⟨Fl.ALLOT_BASE0, .rw, .any⟩, ⟨Fl.ALLOT_SIZE0, .rw, .any⟩, ⟨Fl.ALLOT_BASE1, .rw, .any⟩, ⟨Fl.ALLOT_SIZE1, .rw, .any⟩]⟩,
  ⟨0x180, 1, 0x4, 1, 0x0, [⟨Fl.ALLOT_STATUS_BAD, .w1c, .any⟩]⟩,
  ⟨0x8000, 1, 0x4, 1, 0x0, [⟨Fl.EXPERT_EN, .rw, .any⟩]⟩,
  ⟨0x8004, 1, 0x4, 1, 0xFA, [⟨Fl.HIF_EXP_STEP_US, .rwe, (.range 50 2000)⟩]⟩]
/-- The registers of the block (R466). -/
def Map.hif : List RegSpec := Map.hif0

def Map.ring0 : List RegSpec := [
  ⟨0x60, 1, 0x4, 1, 0x0, [⟨Fl.WB_LO_ADDR, .rw, (.aligned 4096)⟩]⟩,
  ⟨0x64, 1, 0x4, 1, 0x0, [⟨Fl.WB_HI_ADDR, .rw, .any⟩]⟩,
  ⟨0x100, 16, 0x20, 1, 0x0, [⟨Fl.TW_DEV_LO_DEV, .rw, (.aligned 4096)⟩]⟩,
  ⟨0x104, 16, 0x20, 1, 0x0, [⟨Fl.TW_DEV_HI_DEV, .rw, .any⟩]⟩,
  ⟨0x108, 16, 0x20, 1, 0x0, [⟨Fl.TW_HOST_LO_ADDR, .rw, (.aligned 4096)⟩]⟩,
  ⟨0x10C, 16, 0x20, 1, 0x0, [⟨Fl.TW_HOST_HI_ADDR, .rw, .any⟩]⟩,
  ⟨0x110, 16, 0x20, 1, 0x0, [⟨Fl.TW_CFG_EN, .rw, .any⟩, ⟨Fl.TW_CFG_RD, .rw, .any⟩, ⟨Fl.TW_CFG_WR, .rw, .any⟩, ⟨Fl.TW_CFG_SIZE, .rw, (.range 1 1048575)⟩]⟩,
  ⟨0x3000, 64, 0x10, 1, 0x0, [⟨Fl.MSIX_ADDR_LO_DATA, .rw, .any⟩]⟩,
  ⟨0x3004, 64, 0x10, 1, 0x0, [⟨Fl.MSIX_ADDR_HI_DATA, .rw, .any⟩]⟩,
  ⟨0x3008, 64, 0x10, 1, 0x0, [⟨Fl.MSIX_DATA_DATA, .rw, .any⟩]⟩,
  ⟨0x300C, 64, 0x10, 1, 0x1, [⟨Fl.MSIX_CTRL_MASK, .rw, .any⟩]⟩,
  ⟨0x3800, 2, 0x4, 1, 0x0, [⟨Fl.MSIX_PBA_PEND, .ro, .any⟩]⟩]
/-- The registers of the block (R465). -/
def Map.ring : List RegSpec := Map.ring0

def Map.rset0 : List RegSpec := [
  ⟨0x0, 1, 0x4, 1, 0x0, [⟨Fl.X_BASE_LO_ADDR, .rw, (.aligned 4096)⟩]⟩,
  ⟨0x4, 1, 0x4, 1, 0x0, [⟨Fl.X_BASE_HI_ADDR, .rw, .any⟩]⟩,
  ⟨0x8, 1, 0x4, 1, 0x0, [⟨Fl.X_CFG_EN, .rw, .any⟩, ⟨Fl.X_CFG_VECTOR, .rw, .any⟩, ⟨Fl.X_CFG_IRQ_EN, .rw, .any⟩, ⟨Fl.X_CFG_ESZ, .rw, (.range 0 6)⟩, ⟨Fl.X_CFG_SIZE, .rw, .any⟩]⟩,
  ⟨0xC, 1, 0x4, 1, 0x0, [⟨Fl.X_HPOS_POS, .rw, .any⟩]⟩,
  ⟨0x10, 1, 0x4, 1, 0x0, [⟨Fl.X_DPOS_POS, .ro, .any⟩]⟩,
  ⟨0x14, 1, 0x4, 1, 0x0, [⟨Fl.X_STATUS_BAD, .w1c, .any⟩, ⟨Fl.X_STATUS_BAD_DB, .w1c, .any⟩, ⟨Fl.X_STATUS_REFUSED, .w1c, .any⟩, ⟨Fl.X_STATUS_DROPPED, .w1c, .any⟩, ⟨Fl.X_STATUS_FETCH_ERR, .w1c, .any⟩, ⟨Fl.X_STATUS_BOUND, .ro, .any⟩]⟩,
  ⟨0x18, 1, 0x4, 1, 0x0, [⟨Fl.X_COUNT_COUNT, .ro, .any⟩]⟩]
/-- The registers of the block (R465). -/
def Map.rset : List RegSpec := Map.rset0

def Map.boot0 : List RegSpec := [
  ⟨0x0, 1, 0x4, 1, 0x0, [⟨Fl.BOOT_STATUS_STATE, .ro, .any⟩, ⟨Fl.BOOT_STATUS_STEP, .ro, .any⟩, ⟨Fl.BOOT_STATUS_FAILED_STEP, .ro, .any⟩, ⟨Fl.BOOT_STATUS_SLOT, .ro, .any⟩, ⟨Fl.BOOT_STATUS_HDR_COPY, .ro, .any⟩]⟩,
  ⟨0x4, 1, 0x4, 1, 0x0, [⟨Fl.BOOT_COUNT_COUNT, .ro, .any⟩]⟩,
  ⟨0x8, 1, 0x4, 1, 0x0, [⟨Fl.BOOT_OUTCOME_STEPS, .ro, .any⟩, ⟨Fl.BOOT_OUTCOME_SIDES, .ro, .any⟩]⟩,
  ⟨0xC, 1, 0x4, 1, 0x0, [⟨Fl.BOOT_MARKS_STEPS, .ro, .any⟩, ⟨Fl.BOOT_MARKS_SIDES, .ro, .any⟩]⟩,
  ⟨0x10, 1, 0x4, 1, 0x0, [⟨Fl.BOOT_CTRL_RETRY, .wo, .any⟩]⟩,
  ⟨0x14, 1, 0x4, 1, 0x0, [⟨Fl.BOOT_TIME_TICKS, .ro, .any⟩]⟩,
  ⟨0x18, 1, 0x4, 1, 0x0, [⟨Fl.CFG_APPLIED_COUNT, .ro, .any⟩]⟩,
  ⟨0x20, 1, 0x4, 1, 0x0, [⟨Fl.CAL_CMD_FUNC, .wo, .any⟩, ⟨Fl.CAL_CMD_OP, .wo, .any⟩]⟩,
  ⟨0x24, 1, 0x4, 1, 0x0, [⟨Fl.CAL_STATUS_BUSY, .ro, .any⟩, ⟨Fl.CAL_STATUS_RESULT, .ro, .any⟩]⟩,
  ⟨0x1000, 1024, 0x4, 1, 0x0, [⟨Fl.CAL_BUF_DATA, .rw, .any⟩]⟩,
  ⟨0x8000, 1, 0x4, 1, 0x0, [⟨Fl.EXPERT_EN, .rw, .any⟩]⟩,
  ⟨0x8004, 1, 0x4, 1, 0x0, [⟨Fl.BOOT_EXP_TRAIN_FRESH, .rwe, .any⟩]⟩]
/-- The registers of the block (R489). -/
def Map.boot : List RegSpec := Map.boot0

def Map.sec0 : List RegSpec := [
  ⟨0x0, 1, 0x4, 1, 0x0, [⟨Fl.SEC_STATUS_FUSES, .ro, .any⟩, ⟨Fl.SEC_STATUS_SVN, .ro, .any⟩, ⟨Fl.SEC_STATUS_BUSY, .ro, .any⟩, ⟨Fl.SEC_STATUS_ID_DOWN, .ro, .any⟩]⟩,
  ⟨0x4, 1, 0x4, 1, 0x0, [⟨Fl.SEC_LOCK0_BLOCKS, .w1s, .any⟩]⟩,
  ⟨0x8, 1, 0x4, 1, 0x0, [⟨Fl.SEC_LOCK1_CLUSTERS, .w1s, .any⟩]⟩,
  ⟨0x10, 1, 0x4, 1, 0x0, [⟨Fl.SEC_CTRL_OP, .wo, .any⟩]⟩,
  ⟨0x20, 8, 0x4, 1, 0x0, [⟨Fl.SEC_NONCE_DATA, .rw, .any⟩]⟩,
  ⟨0x40, 1, 0x4, 1, 0x0, [⟨Fl.SEC_REPORT_LEN_BYTES, .ro, .any⟩]⟩,
  ⟨0x10000, 4096, 0x4, 1, 0x0, [⟨Fl.SEC_REPORT_DATA, .ro, .any⟩]⟩]
/-- The registers of the block (R490). -/
def Map.sec : List RegSpec := Map.sec0

def Map.pwr0 : List RegSpec := [
  ⟨0x0, 1, 0x4, 1, 0x0, [⟨Fl.PWR_DEVSTATE_DSTATE, .ro, .any⟩, ⟨Fl.PWR_DEVSTATE_D3_WAIT, .ro, .any⟩]⟩,
  ⟨0x4, 1, 0x4, 1, 0x3, [⟨Fl.PWR_DOZE_DOZE_EN, .rw, .any⟩, ⟨Fl.PWR_DOZE_D3_DARK, .rw, .any⟩]⟩,
  ⟨0x8, 1, 0x4, 1, 0x3D090, [⟨Fl.PWR_DOZE_IDLE_TICKS, .rw, (.range 2500 16777215)⟩]⟩,
  ⟨0xC, 1, 0x4, 1, 0xA1E02EE, [⟨Fl.PWR_GOV_CFG_LIMIT, .rw, (.range 150 750)⟩, ⟨Fl.PWR_GOV_CFG_HYST, .rw, (.range 5 100)⟩, ⟨Fl.PWR_GOV_CFG_UP_WINDOWS, .rw, (.range 1 255)⟩]⟩,
  ⟨0x10, 1, 0x4, 1, 0x1111, [⟨Fl.PWR_GOV_STATUS_CLK0, .ro, .any⟩, ⟨Fl.PWR_GOV_STATUS_CLK1, .ro, .any⟩, ⟨Fl.PWR_GOV_STATUS_FLOOR, .ro, .any⟩, ⟨Fl.PWR_GOV_STATUS_CAL_HOLD, .ro, .any⟩]⟩,
  ⟨0x14, 1, 0x4, 1, 0x1111, [⟨Fl.PWR_CEIL_CEIL0, .rw, (.range 4 17)⟩, ⟨Fl.PWR_CEIL_CEIL1, .rw, (.range 4 17)⟩]⟩,
  ⟨0x18, 1, 0x4, 1, 0x0, [⟨Fl.PWR_VIN_AVG, .ro, .any⟩, ⟨Fl.PWR_VIN_PEAK, .ro, .any⟩]⟩,
  ⟨0x1C, 1, 0x4, 1, 0x0, [⟨Fl.PWR_STEPS_COUNT, .ro, .any⟩]⟩,
  ⟨0x20, 1, 0x4, 1, 0x0, [⟨Fl.PWR_CNT_CTRL_CNT_CLR, .wo, .any⟩]⟩,
  ⟨0x100, 50, 0x4, 1, 0x0, [⟨Fl.PWR_DOM_STATE, .ro, .any⟩, ⟨Fl.PWR_DOM_POLICY, .rw, .any⟩, ⟨Fl.PWR_DOM_DOWN, .ro, .any⟩]⟩,
  ⟨0x8000, 1, 0x4, 1, 0x0, [⟨Fl.EXPERT_EN, .rw, .any⟩]⟩,
  ⟨0x8004, 1, 0x4, 1, 0x100, [⟨Fl.PWR_EXP_GOV_DIS, .rwe, .any⟩, ⟨Fl.PWR_EXP_STAGGER, .rwe, (.range 1 8)⟩]⟩]
/-- The registers of the block (R507). -/
def Map.pwr : List RegSpec := Map.pwr0

def Map.tel0 : List RegSpec := [
  ⟨0x0, 1, 0x4, 1, 0x0, [⟨Fl.TEL_STATUS_COUNT, .ro, .any⟩, ⟨Fl.TEL_STATUS_LOST, .w1c, .any⟩, ⟨Fl.TEL_STATUS_CMD_BAD, .w1c, .any⟩]⟩,
  ⟨0x4, 1, 0x4, 1, 0x0, [⟨Fl.TEL_LOG_HEAD_POS, .rw, .any⟩]⟩,
  ⟨0x8, 1, 0x4, 1, 0x0, [⟨Fl.TEL_LOG_TAIL_POS, .ro, .any⟩]⟩,
  ⟨0xC, 1, 0x4, 1, 0x0, [⟨Fl.TEL_LOG_LOST_COUNT, .ro, .any⟩]⟩,
  ⟨0x10, 1, 0x4, 1, 0x0, [⟨Fl.TEL_SRC_DROPS_COUNT, .ro, .any⟩]⟩,
  ⟨0x14, 1, 0x4, 1, 0x1, [⟨Fl.TEL_SUSPECT_CTRL_AUTO_RESET, .rw, .any⟩]⟩,
  ⟨0x18, 1, 0x4, 1, 0x0, [⟨Fl.TEL_SUSPECT_CMD_STREAM, .wo, .any⟩, ⟨Fl.TEL_SUSPECT_CMD_RESET, .wo, .any⟩]⟩,
  ⟨0x1C, 1, 0x4, 1, 0x0, [⟨Fl.TEL_CNT_CTRL_CNT_CLR, .wo, .any⟩]⟩,
  ⟨0x20, 1, 0x4, 1, 0x0, [⟨Fl.TEL_TEMP_MAX_TEMP, .ro, .any⟩, ⟨Fl.TEL_TEMP_MAX_SENSOR, .ro, .any⟩]⟩,
  ⟨0x100, 24, 0x4, 1, 0x0, [⟨Fl.TEL_TEMP_TEMP, .ro, .any⟩, ⟨Fl.TEL_TEMP_VALID, .ro, .any⟩]⟩,
  ⟨0x180, 8, 0x4, 1, 0x0, [⟨Fl.TEL_RAIL_POWER, .ro, .any⟩]⟩,
  ⟨0x10000, 8192, 0x4, 1, 0x0, [⟨Fl.TEL_LOG_DATA, .ro, .any⟩]⟩]
def Map.tel1 : List RegSpec := [
  ⟨0x8000, 1, 0x4, 1, 0x0, [⟨Fl.EXPERT_EN, .rw, .any⟩]⟩,
  ⟨0x8004, 1, 0x4, 1, 0x0, [⟨Fl.TEL_EXP_DBG_EN, .rwe, .any⟩]⟩]
/-- The registers of the block (R525). -/
def Map.tel : List RegSpec := Map.tel0 ++ Map.tel1

end Sys2Proof.Machine
end

