-- ==== Sys2Proof/Machine/CoreState.lean ====
section
/-! DEFINITION. The state of one core: control unit, queues, mailbox, matrix unit, vector engine, scratchpads and DMA engine. -/

namespace Sys2Proof.Machine

/-- The states of a core (R71). -/
inductive CState where
  | reset | idle | parked | running | suspended | stopped
  deriving DecidableEq, Repr, Inhabited

/-- The code of a state in CORE_STATUS.STATE (R71). -/
def CState.code : CState → Nat
  | .reset => 1 | .idle => 2 | .parked => 3 | .running => 4 | .suspended => 5 | .stopped => 6

/-- A message held in a mailbox or a send queue (R61, R64): KIND, SOURCE, target core and payload bytes. -/
structure Msg where
  kind : Nat
  source : Nat
  target : Nat
  payload : List Byte
  deriving DecidableEq, Repr

/-- The matrix commands (R57). -/
inductive MOp where
  | mm | mmz | mmew
  deriving DecidableEq, Repr

/-- A matrix command in the queue or in the unit: `rows` is M, `nb` is N/4, `kb` is K/4 (R57). -/
structure MCmd where
  op : MOp
  fmt : Nat
  rows : Nat
  nb : Nat
  kb : Nat
  sa : Nat
  sb : Nat
  sc : Nat
  deriving DecidableEq, Repr

/-- The X-slot Latch operations (R251). -/
inductive LOp where
  | add | sub | set | cas | seqAdv | read | watch
  deriving DecidableEq, Repr

/-- A Latch operation as issued: the operand values read at issue and the reply register (R251, R252, R259). -/
structure LReq where
  op : LOp
  sa : Word
  sb : Word
  scv : Word
  dest : Nat
  ximm : BitVec 27
  deriving DecidableEq, Repr

/-- A Latch reply under way to its core; `hold` is +1 for a granted acquire, −1 for a release (R59). -/
structure LReply where
  dest : Nat
  val : Word
  hold : Int
  deriving DecidableEq, Repr

/-- Bytes that the matrix unit has read: a weight tile in the feeder queues or an activation panel line, with the granule of an
uncorrectable error among them, if any (R98, R101, R103). -/
structure MuRead where
  bytes : List Byte
  bad : Option Nat
  deriving DecidableEq, Repr

/-- A DMA descriptor's fields (R195), with the device address it was copied from. -/
structure Desc where
  ty : Nat
  sb : Bool
  grantOnly : Bool
  useGrant : Bool
  cw : Nat
  ringEn : Bool
  ring : Nat
  ringOp : Nat
  sigOp : Nat
  sigPerHop : Bool
  elem : Nat
  tiled : Bool
  len : Nat
  src : Nat
  dst : Nat
  arg0 : Nat
  arg1 : Nat
  sigAddr : Nat
  sigVal : Nat
  limit : Nat
  tag : Nat
  ringCore : Nat
  deriving DecidableEq, Repr

/-- An entry of the DMA queue: a 64 B descriptor with its device address, or an overlay load (R57, R58). -/
inductive DCmd where
  | desc (bytes : List Byte) (addr : Nat)
  | ovl (src seg count : Nat)
  deriving DecidableEq, Repr

/-- One unit in flight (R191): the block or row it belongs to, with `sub` its number among the block's units, its destination and length, the bytes its
read returned, the host addresses and lengths it reads from with the device address of the first and the tick of its issue, `host`: 0 when no host read is
owed, 1 while one is, 2 when it failed (R438, R444), and `aux`: the scale byte of a shift block (R151). `list` marks a unit of an index list or a scale
stream, `sent` tells that its write has gone out and `seq` in which order the core's writes did (R230), and `hostDst` is the host address that its
translation window gave a host destination as it issued (R465). -/
structure Flight where
  piece : Nat
  sub : Nat
  dst : Nat
  len : Nat
  data : List Byte
  hostSrc : List (Nat × Nat)
  hostDev : Nat
  hostAt : Nat
  host : Nat
  aux : Nat
  list : Bool
  seq : Nat
  sent : Bool
  hostDst : Option Nat
  deriving DecidableEq, Repr

/-- The state of a transfer's credit request (R183, R204). -/
inductive Credit where
  | none | waiting | granted
  deriving DecidableEq, Repr

/-- One hop of a CHAIN: units that have landed there, those on their way with the order in which their writes went out, its credit request, and whether its
SIGNAL was applied (R208, R211–R213). -/
structure Hop where
  core : Nat
  forwarded : Nat
  flying : List Nat
  credit : Credit
  signalled : Bool
  deriving DecidableEq, Repr

/-- A running transfer (R190–R194). `ovl` is set for an overlay load, with `piece` its next segment and `off` 1 once the segment's first packet has
landed; of a transfer in blocks `off` counts the units of the block that have issued. `list` holds the indices or scale bytes that have come and are still needed, the first of them at position `listAt`, with none for one whose
read failed as `listBad` tells; `listOff` bytes of the list have been asked for. `recv` is the core whose window the transfer writes through, `held`
the credits of the grant attached to it, `waits` the bytes of a packing's scale stream or of a transposed block that wait for their word to fill, and `half`
the plain bytes of a block that is still to be packed (R150, R192, R199, R151, R201, R205). -/
structure Xfer where
  id : Nat
  at_ : Nat
  raw : List Byte
  desc : Desc
  ovl : Option (Nat × Nat × Nat)
  piece : Nat
  off : Nat
  flights : List Flight
  credit : Credit
  bufCores : List Nat
  landed : List (Nat × List Byte)
  hops : List Hop
  sbdesc : List Byte
  clamped : Nat
  limited : Nat
  failed : Bool
  list : List (Option Nat)
  listAt : Nat
  listOff : Nat
  listBad : Nat × Nat
  recv : Option Nat
  held : Nat
  waits : List (Nat × Byte)
  half : List Byte
  deriving DecidableEq, Repr

/-- A credit request waiting at a window (R183, R186): sending core, its transfer (0 for a grant
requested again after a restore, R315), credits, hop, and the tick and side-clock cycle of the request. -/
structure CwReq where
  sender : Nat
  xfer : Nat
  credits : Nat
  hop : Nat
  since : Nat
  cyc : Nat
  deriving DecidableEq, Repr

/-- A grant obtained ahead of its transfer (R184, R205). -/
structure Grant where
  core : Nat
  win : Nat
  credits : Nat
  deriving DecidableEq, Repr

/-- A line of the gather buffer: its 64 B-aligned base, its valid bytes, its last writer (0 the core itself,
`n + 1` the DMA engine of core `n`), and the core's cycle in which it was taken (R174, R175). -/
structure GbLine where
  base : Nat
  bytes : Tab (Option Byte)
  writer : Nat
  taken : Nat
  deriving DecidableEq, Repr

/-- What a core operation leaves for its cluster sequencer to record: a wrapped counter (R73), a failed
read-modify-write with its writer (R173), a drift event (R160), an ignored or refused ring operation (R217). -/
inductive CoreEv where
  | wrap
  | ringUnder (ring : Nat)
  | rmwUe (granule writer : Nat)
  | drift (slot tensor sats elems : Nat)
  deriving DecidableEq, Repr

/-- One core. Registers not listed here stand in `regs`, by offset in the core's block. `ready` gives the cycle in which a register whose
result is under way becomes available (R40), keyed as `rS`, `rV` and `rM` number the registers; `waitParty` the other party of the wait in
progress (R75); `resume` the next bundle after an SSTEP stop; `wrote` the bank bytes that the core's latest writes reached, with what they
held before, `ueWas` and `ceWas` the granules in error before those writes, `arrWrote` the bytes that the array cycle in the same cycle reached, and `met` whether that cycle has counted in SP_CONFLICTS (R179); `muTile` and `muSub` the next tile of the
matrix command in progress and its array cycles so far, `muFed` and `muLines` the tiles and panel lines read ahead, `muFill` that no tile of a
command accepted by an idle unit has come yet, `muAge` the cycles since the last panel line was read, `muFin` the commands past their last array cycle,
`muStep` the cycle of the ramp's step,
`muIdle` the idle cycles so far, up to 64, and `muLevel` the activity level (R97–R106); `turn` the transfer whose unit issued last, `sentN` the units
issued so far, `tagSince` the cycle from which a unit's wait for a tag is still to be counted, `fwdTags` the tags of the units it forwards, and `fwdQ` the chains that the
core forwards or will, in the order in which they arrived: the chain's first core, its transfer and the hop (R190, R208, R212). -/
structure Core where
  state : CState
  pc : Nat
  cyc : Nat
  cycMark : Nat
  cycShadow : Word
  ready : Tab Nat
  waitSince : Option Nat
  waitParty : Nat
  pptEntry : Option Nat
  ending : Bool
  stepStop : Bool
  resume : Nat
  sregs : Tab Word
  vregs : Tab Word
  mregs : Tab (BitVec 16)
  luts : Tab (BitVec 16)
  regs : Tab Word
  imem : Mem
  imemBad : List Nat
  mem : Mem
  ue : List Nat
  ce : List Nat
  gb : List GbLine
  wrote : List (Nat × Byte)
  ueWas : List Nat
  ceWas : List Nat
  arrWrote : List Nat
  met : Bool
  mq : List MCmd
  dq : List DCmd
  lq : List LReq
  sq : List Msg
  mu : List MCmd
  muFin : List MCmd
  muTile : Nat
  muSub : Nat
  muFed : List MuRead
  muLines : List MuRead
  muFill : Bool
  muAge : Nat
  muStep : Nat
  muIdle : Nat
  muLevel : Nat
  replies : List LReply
  mbx : List Msg
  xfers : List Xfer
  nextXfer : Nat
  turn : Nat
  sentN : Nat
  tagSince : Option Nat
  fwdTags : Nat
  fwdQ : List (Nat × Nat × Nat)
  grants : List Grant
  cwAvail : Tab Nat
  cwq : Tab (List CwReq)
  winSats : Tab Nat
  out : List CoreEv
  deriving DecidableEq, Repr, Inhabited

/-- A core as core reset leaves it (R71, R76): every register at its reset value, memories zero. -/
def Core.atReset : Core where
  state := .reset
  pc := 0
  cyc := 0
  cycMark := 0
  cycShadow := 0
  ready := []
  waitSince := none
  waitParty := 0
  pptEntry := none
  ending := false
  stepStop := false
  resume := 0
  sregs := []
  vregs := []
  mregs := []
  luts := []
  regs := []
  imem := []
  imemBad := []
  mem := []
  ue := []
  ce := []
  gb := []
  wrote := []
  ueWas := []
  ceWas := []
  arrWrote := []
  met := false
  mq := []
  dq := []
  lq := []
  sq := []
  mu := []
  muFin := []
  muTile := 0
  muSub := 0
  muFed := []
  muLines := []
  muFill := false
  muAge := 0
  muStep := 0
  muIdle := 64
  muLevel := 0
  replies := []
  mbx := []
  xfers := []
  nextXfer := 0
  turn := 0
  sentN := 0
  tagSince := none
  fwdTags := 0
  fwdQ := []
  grants := []
  cwAvail := []
  cwq := []
  winSats := []
  out := []

/-! ### Register words and counters of a core -/

/-- The reset word of a core register (R76). -/
def coreRegReset (o : Nat) : Word :=
  match findReg Map.core o with
  | some r => r.reset
  | none => 0

/-- The stored word of a core register. -/
def Core.reg (c : Core) (o : Nat) : Word := Tab.get (coreRegReset o) c.regs o

/-- Store a core register's word. -/
def Core.setReg (c : Core) (o : Nat) (w : Word) : Core :=
  { c with regs := Tab.set (coreRegReset o) c.regs o w }

/-- Read a field of a stored register. -/
def Core.fld (c : Core) (o : Nat) (f : Fld) : Nat := f.get (c.reg o)

/-- Write a field of a stored register. -/
def Core.setFld (c : Core) (o : Nat) (f : Fld) (v : Nat) : Core := c.setReg o (f.put (c.reg o) v)

/-- Add to a 32-bit counter; a wrap to 0 leaves a COUNTER_WRAP for the sequencer (R73, R76). -/
def Core.bump (c : Core) (o n : Nat) : Core :=
  let v := (c.reg o).toNat + n
  let c := c.setReg o (wd v)
  if v < 2 ^ 32 then c else { c with out := c.out ++ [.wrap] }

/-- Zero a list of registers (the CNT_CLR fields of the core's blocks). -/
def Core.clearRegs (c : Core) (os : List Nat) : Core := os.foldl (fun c o => c.setReg o 0) c

/-- A scalar register; s0 reads 0 (R39). -/
def Core.s (c : Core) (r : Nat) : Word := if r = 0 then 0 else Tab.get 0 c.sregs r

/-- Write a scalar register; a write to s0 is discarded (R39). -/
def Core.setS (c : Core) (r : Nat) (v : Word) : Core :=
  if r = 0 then c else { c with sregs := Tab.set 0 c.sregs r v }

/-- Lane `l` of a vector register (R111). -/
def Core.v (c : Core) (r l : Nat) : Word := Tab.get 0 c.vregs (16 * r + l)

/-- Write one lane of a vector register. -/
def Core.setV (c : Core) (r l : Nat) (x : Word) : Core :=
  { c with vregs := Tab.set 0 c.vregs (16 * r + l) x }

/-- A mask register; m0 reads 0xFFFF (R112). -/
def Core.m (c : Core) (r : Nat) : BitVec 16 := if r = 0 then 0xFFFF else Tab.get 0 c.mregs r

/-- Write a mask register; a write to m0 is discarded (R112). -/
def Core.setM (c : Core) (r : Nat) (x : BitVec 16) : Core :=
  if r = 0 then c else { c with mregs := Tab.set 0 c.mregs r x }

/-- Entry `i` of lookup table `t`, a signed 16-bit value (R132). -/
def Core.lut (c : Core) (t i : Nat) : BitVec 16 := Tab.get 0 c.luts (256 * t + i)

/-- Write one table entry. -/
def Core.setLut (c : Core) (t i : Nat) (x : BitVec 16) : Core :=
  { c with luts := Tab.set 0 c.luts (256 * t + i) x }

end Sys2Proof.Machine

namespace Sys2Proof.Config

/-- The core that altered fixed bytes of a save image spell: the specification states what those bytes hold, and no layout (R304, R317; log entry 59). -/
opaque imageCore : List (BitVec 8) → Machine.Core

end Sys2Proof.Config
end

