-- ==== Sys2Proof/Machine/Scratch.lean ====
section
/-! DEFINITION. The scratchpads of a core: address ranges, power groups, ECC granules, bank writes and the gather buffer (R166–R180). -/

namespace Sys2Proof.Machine

/-! ### Addresses (R166) -/

/-- The memory a local address lies in: 1 WM, 2 AM, 3 PM, 0 none (R166). -/
def memOf (a : Nat) : Nat :=
  if a < 0x40000 then 1
  else if 0x400000 ≤ a ∧ a < 0x420000 then 2
  else if 0x800000 ≤ a ∧ a < 0x810000 then 3
  else 0

/-- Whether `n` bytes from `a` lie wholly within one memory. -/
def inMem (a n : Nat) : Bool := memOf a != 0 && memOf (a + n - 1) == memOf a

/-- The bytes of a bank row: 16 in WM, 64 in AM and PM (R166). -/
def rowBytes (a : Nat) : Nat := if memOf a = 1 then 16 else 64

/-- The bit of SP_GATE that powers the group of an address; PM is not gated (R166, R168). -/
def gateBit (a : Nat) : Option Nat :=
  if memOf a = 1 then some (a / 0x10000)
  else if memOf a = 2 then some (4 + (a - 0x400000) / 0x10000)
  else none

/-- Whether the group of an address is ON (R168). -/
def Core.isOn (c : Core) (a : Nat) : Bool :=
  match gateBit a with
  | some i => (c.reg Off.SP_GATE).getLsbD i
  | none => true

/-! ### Reads (R170–R173, R176) -/

/-- A bank's byte: zero in an OFF group (R170). -/
def Core.bank (c : Core) (a : Nat) : Byte := if c.isOn a then c.mem.byte a else 0

/-- The byte a gather buffer line holds for an address, if valid there (R174). -/
def gbByte (gb : List GbLine) (a : Nat) : Option Byte :=
  match gb.find? (fun l => l.base == a / 64 * 64) with
  | some l => Tab.get none l.bytes a
  | none => none

/-- The byte a slot, ACC.LD or an issue copy sees: the line's byte, also in an OFF group, else the bank's (R125, R127, R170, R176; DESIGN CHOICE, log entry
61). -/
def Core.see (c : Core) (a : Nat) : Byte := (gbByte c.gb a).getD (c.bank a)

/-- Bytes seen by a slot from `a` on. -/
def Core.seeN (c : Core) (a : Nat) : Nat → List Byte
  | 0 => []
  | n + 1 => c.see a :: c.seeN (a + 1) n

/-- Bytes of the banks from `a` on: what feeders, the panel reader and DMA reads see (R176). -/
def Core.bankN (c : Core) (a : Nat) : Nat → List Byte
  | 0 => []
  | n + 1 => c.bank a :: c.bankN (a + 1) n

/-- The first keys of the `w`-byte blocks that `n` bytes from `a` touch. -/
def blocks (w a : Nat) : Nat → List Nat
  | 0 => []
  | n => (List.range ((a + n - 1) / w - a / w + 1)).map (fun i => (a / w + i) * w)

/-- The first granule with an uncorrectable error among those a read touches in ON groups (R171, R173). -/
def Core.ueIn (c : Core) (a n : Nat) : Option Nat :=
  (blocks 16 a n).find? (fun g => c.isOn g && c.ue.contains (g / 16))

/-- A number added to a list without repeats. -/
def addNum (l : List Nat) (n : Nat) : List Nat := if l.contains n then l else n :: l

/-- A list without repeats, first occurrences kept. -/
def distinct (l : List Nat) : List Nat := (l.foldl addNum []).reverse

/-- The counters and flags of one access that reads the pieces `ps`: PD_READ, and SP_PD_READS once per distinct bank
row in OFF groups (R170); SP_ECC_CE per corrected granule (R172). -/
def Core.noteReads (c : Core) (ps : List (Nat × Nat)) : Core :=
  let rows := distinct (ps.flatMap (fun p => blocks (rowBytes p.1) p.1 p.2))
  let off := (rows.filter (fun r => !c.isOn r)).length
  let grans := distinct (ps.flatMap (fun p => blocks 16 p.1 p.2))
  let cor := (grans.filter (fun g => c.isOn g && c.ce.contains (g / 16) && !c.ue.contains (g / 16))).length
  let c := if off = 0 then c
    else (c.setFld Off.SP_STATUS Fl.SP_STATUS_PD_READ 1).bump Off.SP_PD_READS off
  if cor = 0 then c else c.bump Off.SP_ECC_CE cor

/-- `noteReads` of one piece. -/
def Core.noteRead (c : Core) (a n : Nat) : Core := c.noteReads [(a, n)]

/-! ### Bank writes (R170, R171) -/

/-- Cut `bs`, which starts at `a`, into pieces that do not cross a multiple of `w`; `fuel` bounds the pieces. -/
def cut (w : Nat) : Nat → Nat → List Byte → List (Nat × List Byte)
  | 0, _, _ => []
  | _, _, [] => []
  | fuel + 1, a, bs =>
    let k := w - a % w
    (a, bs.take k) :: cut w fuel (a + k) (bs.drop k)

/-- Write the bytes of one granule (R170, R171): dropped in an OFF group; a partial write of a failing granule is
dropped and leaves an event; a landed write clears a corrected error, and a whole one clears any. The bytes join those the latest writes
reached (R179). -/
def Core.granWrite (writer : Nat) (c : Core) (p : List (Nat × Byte)) : Core :=
  match p with
  | [] => c
  | (a, _) :: _ =>
    let g := a / 16
    let whole := p.length == 16
    if !c.isOn a then c.setFld Off.SP_STATUS Fl.SP_STATUS_PD_WRITE 1
    else if c.ue.contains g && !whole then { c with out := c.out ++ [.rmwUe (g * 16) writer] }
    else
      let c := if c.ce.contains g && !whole then c.bump Off.SP_ECC_CE 1 else c
      let c := { c with
        mem := p.foldl (fun (m : Mem) (x : Nat × Byte) => m.setByte x.1 x.2) c.mem
        ue := c.ue.filter (· != g)
        ce := c.ce.filter (· != g)
        wrote := p.map (fun (x : Nat × Byte) => (x.1, c.mem.byte x.1)) ++ c.wrote }
      match c.fld Off.SP_EXP Fl.SP_EXP_ECC_INJ with
      | 1 => { c.setFld Off.SP_EXP Fl.SP_EXP_ECC_INJ 0 with ce := addNum c.ce g }
      | 2 => { c.setFld Off.SP_EXP Fl.SP_EXP_ECC_INJ 0 with ue := addNum c.ue g }
      | _ => c

/-- Pair bytes with their addresses. -/
def withAddr (a : Nat) : List Byte → List (Nat × Byte)
  | [] => []
  | b :: bs => (a, b) :: withAddr (a + 1) bs

/-- Write bytes to the banks, granule by granule in rising order (R171). -/
def Core.bankWrite (c : Core) (writer a : Nat) (bs : List Byte) : Core :=
  (cut 16 bs.length a bs).foldl (fun c p => c.granWrite writer (withAddr p.1 p.2)) c

/-! ### The gather buffer (R174–R177) -/

/-- Write one line's valid bytes to its banks; SP_GB_FLUSH increments (R175). -/
def Core.lineWrite (c : Core) (l : GbLine) : Core :=
  let valid (g : Nat) : List (Nat × Byte) :=
    (List.range 16).filterMap (fun i => (Tab.get none l.bytes (g + i)).map (fun b => (g + i, b)))
  ([0, 16, 32, 48].foldl (fun c o => c.granWrite l.writer (valid (l.base + o))) c).bump Off.SP_GB_FLUSH 1

/-- A new cycle begins: no byte has been written in it, and the granules in error are those of now (R178, R179). -/
def Core.newCycle (c : Core) : Core := { c with wrote := [], ueWas := c.ue, ceWas := c.ce, arrWrote := [], met := false }

/-- A cycle in which writes from more than one source reached the same bytes: CONFLICT, and SP_CONFLICTS once (R179). -/
def Core.conflict (c : Core) : Core :=
  if c.met then c else { (c.setFld Off.SP_STATUS Fl.SP_STATUS_CONFLICT 1).bump Off.SP_CONFLICTS 1 with met := true }

/-- The banks as they stood before the latest core writes (R178). -/
def Core.memBefore (c : Core) : Mem := c.wrote.foldl (fun m x => m.setByte x.1 x.2) c.mem

/-- The core with its banks and their errors as they stood before the latest core writes: what the reads of that cycle find (R178). -/
def Core.before (c : Core) : Core := if c.wrote.isEmpty then c else { c with mem := c.memBefore, ue := c.ueWas, ce := c.ceWas }

/-- The counts and flags of a read that finds the banks as they stood before the latest core writes (R170, R172, R178). -/
def Core.noteBefore (c : Core) (ps : List (Nat × Nat)) : Core :=
  { c.before.noteReads ps with mem := c.mem, ue := c.ue, ce := c.ce }

/-- Whether a byte is among those the latest core writes reached. -/
def Core.wroteAt (c : Core) (a : Nat) : Bool := c.wrote.any (fun x => x.1 == a)

/-- Write and free the oldest line (R175). -/
def Core.flushOldest (c : Core) : Core :=
  match c.gb with
  | [] => c
  | l :: ls => ({ c with gb := ls }).lineWrite l

/-- A fence: every line is written, oldest first (R175). -/
def Core.fence (c : Core) : Core := c.gb.foldl Core.lineWrite { c with gb := [] }

/-- Put bytes of one 64 B line into the gather buffer: join the line that covers the region, else take a new one,
writing the oldest first when all eight are in use; a full line is written at once; `now` is the core's cycle (R174, R175). -/
def Core.gather (c : Core) (writer now a : Nat) (bs : List Byte) : Core :=
  let base := a / 64 * 64
  let put (l : GbLine) : GbLine :=
    { l with bytes := (withAddr a bs).foldl (fun t x => Tab.set none t x.1 (some x.2)) l.bytes, writer := writer }
  let have_ := c.gb.any (fun l => l.base == base)
  let c := if !have_ && c.gb.length ≥ 8 then c.flushOldest else c
  let gb := if have_ then c.gb.map (fun l => if l.base == base then put l else l)
    else c.gb ++ [put ⟨base, [], writer, now⟩]
  match gb.find? (fun l => l.base == base && l.bytes.length == 64) with
  | some l => ({ c with gb := gb.filter (fun x => x.base != base) }).lineWrite l
  | none => { c with gb := gb }

/-- The invalidation by a direct write (R177): covered bytes become invalid, an emptied line is freed unwritten. -/
def Core.gbInvalidate (c : Core) (a n : Nat) : Core :=
  let keep (l : GbLine) : GbLine :=
    { l with bytes := l.bytes.filter (fun x => !(decide (a ≤ x.1) && decide (x.1 < a + n))) }
  { c with gb := (c.gb.map keep).filter (fun l => l.bytes.length != 0) }

/-- A V-slot store or a whole-line DMA write: to the banks, past the gather buffer (R174, R177). -/
def Core.direct (c : Core) (writer a : Nat) (bs : List Byte) : Core :=
  (c.gbInvalidate a bs.length).bankWrite writer a bs

/-- The bank of an address and its row in that bank (R166). -/
def bankRow (a : Nat) : (Nat × Nat) × Nat :=
  match memOf a with
  | 1 => ((1, a / 16 % 16), a / 256)
  | 2 => ((2, a / 64 % 8), a / 512)
  | m => ((m, a / 0x4000), a / 64)

/-- A whole-line DMA write to the banks. Where it comes in the cycle of the core's latest writes (`meet` is not 0), bytes that another source reached too are
a conflict; for a bank that the core writes in another row it waits, for `meet` cycles, each of them counted. It is no write of the core (R179, R180). -/
def Core.dmaMeet (c : Core) (writer meet a : Nat) (bs : List Byte) : Core :=
  let c' := ({ c with wrote := [] }).direct writer a bs
  let mine := c'.wrote.map (fun (x : Nat × Byte) => x.1)
  let c' := { c' with wrote := c.wrote }
  if meet = 0 then c'
  else
    let waits := mine.any (fun a => c.wrote.any (fun x => (bankRow x.1).1 == (bankRow a).1 && (bankRow x.1).2 != (bankRow a).2))
    let c' := if waits then c'.bump Off.SP_DMA_WAIT meet else c'
    if mine.any (fun a => c.wroteAt a || c.arrWrote.contains a) then c'.conflict else c'

/-- A DMA write to the core's memories: whole 64 B lines go to the banks, parts of lines into the buffer (R174). A line that the buffer writes is a core
write, of the cycle of the latest ones where the DMA write meets them (R175, R179). `writer` is the issuing DMA engine's core plus 1. -/
def Core.dmaWrite (c : Core) (writer now meet a : Nat) (bs : List Byte) : Core :=
  (cut 64 bs.length a bs).foldl (fun c p =>
    if p.2.length == 64 then c.dmaMeet writer meet p.1 p.2
    else if meet = 0 then { ({ c with wrote := [] }).gather writer now p.1 p.2 with wrote := c.wrote } else c.gather writer now p.1 p.2) c

/-- Group cells of rising address by granule. -/
def byGranule : List (Nat × Byte) → List (List (Nat × Byte))
  | [] => []
  | x :: xs =>
    match byGranule xs with
    | (y :: ys) :: gs => if x.1 / 16 = y.1 / 16 then (x :: y :: ys) :: gs else [x] :: (y :: ys) :: gs
    | gs => [x] :: gs

/-- A V-slot store of scattered bytes, one write of the banks: later cells of one address persist (R123, R124, R177). -/
def Core.directCells (c : Core) (writer : Nat) (cells : List (Nat × Byte)) : Core :=
  let t : Tab (Option Byte) := cells.foldl (fun t x => Tab.set none t x.1 (some x.2)) []
  let keep (l : GbLine) : GbLine := { l with bytes := l.bytes.filter (fun x => (Tab.get none t x.1).isNone) }
  let c := { c with gb := (c.gb.map keep).filter (fun l => l.bytes.length != 0) }
  (byGranule (t.map (fun x => (x.1, x.2.getD 0)))).foldl (Core.granWrite writer) c

/-- Whether a DMA write of `n` bytes at `a` puts a piece into the buffer (R174). -/
def partLines (a n : Nat) : Bool := a % 64 != 0 || n % 64 != 0

/-- Lines in use (SP_STATUS.GB_LINES). -/
def Core.gbLines (c : Core) : Nat := c.gb.length

/-! ### The accumulators in PM (R86, R89, R179) -/

/-- Four bytes of the banks as a word. -/
def Core.bankWord (c : Core) (a : Nat) : Word := wd (leNat (c.bankN a 4))

/-- Four bytes seen by a slot as a word. -/
def Core.seeWord (c : Core) (a : Nat) : Word := wd (leNat (c.seeN a 4))

end Sys2Proof.Machine
end

