-- ==== Sys2Proof/Machine/Operands.lean ====
section
/-! DEFINITION. What one slot of a bundle computes from its core: operand forms, scalar and vector operations, loads and stores, each as a function from the core before the bundle to the slot's outcome (R37–R50, R111–R136). -/

namespace Sys2Proof.Machine

/-- The outcome of one slot: an unmet issue condition by its CORE_STATUS.WAIT code with the other party of the wait (R38, R75), a fault by its class CORE code with
the fault address (R73), or the slot's effect on the core, with the target of a taken branch (R47). -/
inductive SlotRes where
  | wait (kind party : Nat)
  | fault (code addr : Nat)
  | ok (upd : Core → Core) (npc : Option Nat)

/-- Class CORE codes (R73). -/
def cILLEGAL : Nat := 0x01
/-- IMEM_PARITY. -/
def cPARITY : Nat := 0x02
/-- PC_RANGE. -/
def cPCRANGE : Nat := 0x03
/-- ADDR_RANGE. -/
def cADDR : Nat := 0x04
/-- MISALIGNED. -/
def cMISAL : Nat := 0x05
/-- PPT_HOLD. -/
def cPPTHOLD : Nat := 0x06
/-- HOLD_COUNT. -/
def cHOLDCNT : Nat := 0x07
/-- SEND_TARGET. -/
def cSENDTGT : Nat := 0x08
/-- STALL_TIMEOUT. -/
def cSTALL : Nat := 0x09
/-- TRAP. -/
def cTRAP : Nat := 0x0A
/-- JOB_FAILED. -/
def cJOBFAILED : Nat := 0x0B
/-- HALTED. -/
def cHALTED : Nat := 0x0C
/-- ECC_STOP. -/
def cECC : Nat := 0x0D
/-- SSTEP. -/
def cSSTEP : Nat := 0x0E

/-! ### Scalar slot (R43–R48) -/

/-- A register-register operation (format SR). -/
def sRR (f : Word → Word → Word) (rd ra rb : Nat) (c : Core) : SlotRes :=
  .ok (fun cur => cur.setS rd (f (c.s ra) (c.s rb))) none

/-- A register-immediate operation (format SI) with the immediate already extended (R44). -/
def sRI (f : Word → Word → Word) (rd ra : Nat) (imm : Word) (c : Core) : SlotRes :=
  .ok (fun cur => cur.setS rd (f (c.s ra) imm)) none

/-- IMM16 sign-extended (R44). -/
def sx16 (i : BitVec 16) : Word := i.signExtend 32
/-- IMM16 zero-extended (R44). -/
def zx16 (i : BitVec 16) : Word := i.zeroExtend 32

/-- Signed minimum. -/
def sMinW (x y : Word) : Word := if x.toInt ≤ y.toInt then x else y
/-- Signed maximum. -/
def sMaxW (x y : Word) : Word := if x.toInt ≤ y.toInt then y else x
/-- The signed high word of a product. -/
def mulHigh (x y : Word) : Word := wi (x.toInt * y.toInt / 2 ^ 32)
/-- 1 or 0. -/
def boolW (b : Bool) : Word := if b then 1 else 0
/-- The shift amount, bits [4:0]. -/
def sh5 (x : Word) : Nat := x.toNat % 32

/-- The check of a scalar access: ADDR_RANGE, then MISALIGNED (R45), then ECC_STOP for a load (R173). -/
def wordFault (c : Core) (a : Nat) (load : Bool) : Option (Nat × Nat) :=
  if memOf a = 0 then some (cADDR, a)
  else if a % 4 ≠ 0 then some (cMISAL, a)
  else if load then (c.ueIn a 4).map (fun g => (cECC, g))
  else none

/-- LDW: 4 bytes at RA + IMM16, gather buffer data seen (R45, R176). -/
def sLdw (rd ra : Nat) (imm : BitVec 16) (c : Core) : SlotRes :=
  let a := (c.s ra + sx16 imm).toNat
  match wordFault c a true with
  | some (f, x) => .fault f x
  | none => .ok (fun cur => (cur.noteRead a 4).setS rd (c.seeWord a)) none

/-- STW: 4 bytes of RD into the gather buffer at RA + IMM16 (R45, R174). -/
def sStw (now rd ra : Nat) (imm : BitVec 16) (c : Core) : SlotRes :=
  let a := (c.s ra + sx16 imm).toNat
  match wordFault c a false with
  | some (f, x) => .fault f x
  | none => .ok (fun cur => cur.gather 0 now a (natLE 4 (c.s rd).toNat)) none

/-- A branch: the offset counts bundles from this bundle; a target outside 0–4095 is PC_RANGE (R47, R48). -/
def sBranch (taken : Word → Word → Bool) (ra rb : Nat) (off : BitVec 16) (c : Core) : SlotRes :=
  if taken (c.s ra) (c.s rb) then
    let t : Int := (c.pc : Int) + off.toInt
    if 0 ≤ t ∧ t < 4096 then .ok id (some t.toNat) else .fault cPCRANGE 0
  else .ok id none

/-! ### Vector slot: lanes and masks (R111–R114) -/

/-- Lane `l` of a second source. -/
def srcLane (c : Core) : VSrc → Nat → Word
  | .vec r, l => c.v r.val l
  | .scal r, _ => c.s r.val

/-- The lanes. -/
def lanes : List Nat := List.range 16

/-- The enabled lanes of a mask register (R113). -/
def Core.enabled (c : Core) (m : Nat) : List Nat := lanes.filter (fun l => (c.m m).getLsbD l)

/-- Write a vector destination under M and Z: enabled lanes take `g`, masked lanes keep or become 0 (R113). -/
def putVec (c : Core) (m : Nat) (z : Bool) (vd : Nat) (g : Nat → Word) (cur : Core) : Core :=
  lanes.foldl (fun cur l =>
    if (c.m m).getLsbD l then cur.setV vd l (g l) else if z then cur.setV vd l 0 else cur) cur

/-- A 16-lane mask from a lane predicate. -/
def maskOf (p : Nat → Bool) : BitVec 16 :=
  BitVec.ofNat 16 (lanes.foldl (fun n l => if p l then n + 2 ^ l else n) 0)

/-- Write a mask destination under M and Z (R113). -/
def putMask (c : Core) (m : Nat) (z : Bool) (md : Nat) (p : Nat → Bool) (cur : Core) : Core :=
  cur.setM md (maskOf (fun l => if (c.m m).getLsbD l then p l else if z then false else (cur.m md).getLsbD l))

/-- A lane-wise vector operation. -/
def vMap (g : VM) (vd : Nat) (f : Core → Nat → Word) (c : Core) : SlotRes :=
  .ok (putVec c g.m.val g.z vd (f c)) none

/-- Add to a counter, leaving it alone for 0. -/
def Core.bumpIf (c : Core) (o n : Nat) : Core := if n = 0 then c else c.bump o n

/-- A lane-wise saturating operation on exact integers; clamped enabled lanes count in VE_SAT (R116). -/
def vSat (g : VM) (vd : Nat) (f : Core → Nat → Int) (c : Core) : SlotRes :=
  let lo : Int := -(2 ^ 31 - 1)
  let hi : Int := 2 ^ 31 - 1
  let n := ((c.enabled g.m.val).filter (fun l => decide (f c l < lo) || decide (hi < f c l))).length
  .ok (fun cur => (putVec c g.m.val g.z vd (fun l => wi (clampI lo hi (f c l))) cur).bumpIf Off.VE_SAT n) none

/-- A lane-wise compare into a mask. -/
def vCmp (g : VM) (md : Nat) (f : Core → Nat → Bool) (c : Core) : SlotRes :=
  .ok (putMask c g.m.val g.z md (f c)) none

/-- The rounding right shift of VSRAR and VSRARI (R117, R142). -/
def rnShift (a : Word) (n : Nat) : Word := wi (rneShift a.toInt n)

/-- |SS| with |−2^31| taken as 2^31 − 1 (R118). -/
def absBound (x : Word) : Int := let a := x.toInt.natAbs; if a = 2 ^ 31 then 2 ^ 31 - 1 else a

/-- VCLAMP: max, then min; the scalar form takes the bounds −|SS| and |SS| (R118). -/
def clampLane (c : Core) (va : Nat) (b : VSrc) (vc : Nat) (l : Nat) : Word :=
  match b with
  | .vec r => sMinW (sMaxW (c.v va l) (c.v r.val l)) (c.v vc l)
  | .scal r =>
    let k := absBound (c.s r.val)
    sMinW (sMaxW (c.v va l) (wi (-k))) (wi k)

/-- The source lane VPERM delivers to `l`, if it is delivered: no lower enabled lane names the same one (R119). -/
def permLane (c : Core) (m va vb l : Nat) : Word :=
  let src (j : Nat) : Nat := (c.v vb j).toNat % 16
  if (c.enabled m).any (fun j => j < l && src j == src l) then 0 else c.v va (src l)

/-- The fixed patterns of VPERMI (R119); patterns 5–7 are none. -/
def permI (pat n l : Nat) : Option Nat :=
  match pat with
  | 0 => some (4 * (l % 4) + l / 4)
  | 1 => some ((l + n) % 16)
  | 2 => some (15 - l)
  | 3 => some (4 * (l / 4) + (l % 4 + n) % 4)
  | 4 => some (if l % 2 = 0 then l + 1 else l - 1)
  | _ => none

/-- VCLAMP. Its scalar form does not use VC, which must then be 0 (R115). -/
def vClamp (g : VM) (vd va : Nat) (b : VSrc) (vc : Nat) (c : Core) : SlotRes :=
  match b with
  | .scal _ =>
    if vc ≠ 0 then .fault cILLEGAL 0
    else vMap g vd (fun c l => clampLane c va b vc l) c
  | .vec _ => vMap g vd (fun c l => clampLane c va b vc l) c

/-- VPERMI. The patterns 0, 2 and 4 do not use n, which must then be 0 (R115). -/
def vPermI (g : VM) (vd va : Nat) (pat n : Nat) (c : Core) : SlotRes :=
  if pat ≥ 5 ∨ (n ≠ 0 ∧ pat ≠ 1 ∧ pat ≠ 3) then .fault cILLEGAL 0
  else vMap g vd (fun c l => c.v va ((permI pat n l).getD l)) c

/-! ### Reductions (R120) and summaries (R49) -/

/-- Reduce values: 0 sum, clamped once, 1 max, 2 min, with the value of an empty group; and whether it was clamped. -/
def reduceVals (fn : Nat) (xs : List Int) : Word × Bool :=
  match fn with
  | 0 =>
    let s := xs.foldl (· + ·) 0
    let k := clampI (-(2 ^ 31 - 1)) (2 ^ 31 - 1) s
    (wi k, s != k)
  | 1 => (wi (xs.foldl max (-(2 ^ 31))), false)
  | _ => (wi (xs.foldl min (2 ^ 31 - 1)), false)

/-- A reduction: `grp d` gives the source lanes reduced into destination lane `d`, if any. VE_SAT counts clamped sums, one for
each group whose sum is clamped, whatever the mask is in its destination lane (DESIGN CHOICE, log entry 61); the enabled lanes alone are read and every
other destination lane becomes 0. -/
def vReduce (m : Nat) (vd va fn : Nat) (grp : Nat → Option (List Nat)) (c : Core) : SlotRes :=
  if fn ≥ 3 then .fault cILLEGAL 0
  else
    let en := c.enabled m
    let val (d : Nat) : Word × Bool :=
      match grp d with
      | some ls => reduceVals fn ((ls.filter (fun l => en.contains l)).map (fun l => (c.v va l).toInt))
      | none => (0, false)
    let n := (lanes.filter (fun d => (val d).2)).length
    .ok (fun cur => (lanes.foldl (fun cur d => cur.setV vd d (val d).1) cur).bumpIf Off.VE_SAT n) none

/-- Row groups: lane 4r takes the lanes of row r. -/
def rowGrp (d : Nat) : Option (List Nat) := if d % 4 = 0 then some [d, d + 1, d + 2, d + 3] else none
/-- Column groups: lane c takes the lanes of column c. -/
def colGrp (d : Nat) : Option (List Nat) := if d < 4 then some [d, d + 4, d + 8, d + 12] else none
/-- All lanes into lane 0. -/
def allGrp (d : Nat) : Option (List Nat) := if d = 0 then some lanes else none

/-- VSUM of a mask: a function of the enabled lanes and the set ones among them (R49). -/
def vSumMask (f : List Nat → List Nat → Nat) (m rd ma : Nat) (c : Core) : SlotRes :=
  let en := c.enabled m
  .ok (fun cur => cur.setS rd (wd (f en (en.filter (fun l => (c.m ma).getLsbD l))))) none

/-- VSUM of a vector: a function of the enabled lanes' signed values (R49). -/
def vSumVec (f : List Int → Int) (m rd va : Nat) (c : Core) : SlotRes :=
  .ok (fun cur => cur.setS rd (wi (f ((c.enabled m).map (fun l => (c.v va l).toInt))))) none

/-! ### Lookup tables (R132, R133) -/

/-- One lookup: the result and whether the input was clamped (R132). -/
def lutLane (c : Core) (t h : Nat) (x : Word) : Word × Bool :=
  let y := x.toInt / (2 ^ h : Nat)
  let k := clampI (-32768) 32767 y
  let u := (k + 32768).toNat
  let i := u / 256
  let f : Int := (u % 256 : Nat)
  let e (i : Nat) : Int := (c.lut t i).toInt
  let d := e (min (i + 1) 255) - e i
  (wi (e i + rneDiv (d * f) 256), k != y)

/-- VLUT; clamped inputs count in VE_LUT_CLAMP. -/
def vLut (g : VM) (vd va t h : Nat) (c : Core) : SlotRes :=
  let n := ((c.enabled g.m.val).filter (fun l => (lutLane c t h (c.v va l)).2)).length
  .ok (fun cur => (putVec c g.m.val g.z vd (fun l => (lutLane c t h (c.v va l)).1) cur).bumpIf Off.VE_LUT_CLAMP n) none

/-- VLUTST: entries 16j + l from the enabled lanes (R133). -/
def vLutSt (m va t j : Nat) (c : Core) : SlotRes :=
  .ok (fun cur => (c.enabled m).foldl (fun cur l => cur.setLut t (16 * j + l) ((c.v va l).truncate 16)) cur) none

/-! ### Requantisation (R134–R136, R159–R161) -/

/-- The least and the greatest value of REQ's output format: 0 INT8, 1 INT4, 2 INT16 (R135). -/
def reqLo (out : Nat) : Int := if out = 0 then -128 else if out = 1 then -8 else -32768
/-- The greatest value. -/
def reqHi (out : Nat) : Int := if out = 0 then 127 else if out = 1 then 7 else 32767

/-- One lane of REQ: the clamped result and whether it was clamped. -/
def reqLane (out n : Nat) (x : Word) : Int × Bool :=
  let q := rneShift x.toInt n
  let k := clampI (reqLo out) (reqHi out) q
  (k, k != q)

/-- The update of one statistics slot by one REQ over the samples `xs` (value, result, shift, clamped) and the evaluation
of its window (R136, R160, R161). -/
def statUpdate (slot : Nat) (xs : List (Int × Int × Nat × Bool)) (c : Core) : Core :=
  if c.fld (Off.STAT_CFG slot) Fl.STAT_CFG_EN = 0 then c
  else
    let mx := xs.foldl (fun (a : Nat) (x : Int × Int × Nat × Bool) => max a x.1.natAbs) (c.reg (Off.STAT_MAXABS slot)).toNat
    let c := c.setReg (Off.STAT_MAXABS slot) (wd mx)
    let sq := (c.reg (Off.STAT_SQERR_LO slot)).toNat + 2 ^ 32 * (c.reg (Off.STAT_SQERR_HI slot)).toNat
    let add : Nat := xs.foldl (fun (a : Nat) (x : Int × Int × Nat × Bool) => a + ((x.1 - x.2.1 * (2 ^ x.2.2.1 : Nat)) ^ 2).natAbs) 0
    let stuck := decide (sq + add ≥ 2 ^ 64)
    let sq' := if stuck then 2 ^ 64 - 1 else sq + add
    let c := (c.setReg (Off.STAT_SQERR_LO slot) (lo32 sq')).setReg (Off.STAT_SQERR_HI slot) (hi32 sq')
    let c := if stuck then c.setFld (Off.STAT_CFG slot) Fl.STAT_CFG_SQERR_SAT 1 else c
    let sats := (xs.filter (fun x => x.2.2.2)).length
    let c := (c.bumpIf (Off.STAT_SATS slot) sats).bumpIf (Off.STAT_ELEMS slot) xs.length
    let we := (c.reg (Off.STAT_WIN slot)).toNat + xs.length
    let ws := Tab.get 0 c.winSats slot + sats
    if we < 2 ^ c.fld (Off.STAT_CFG slot) Fl.STAT_CFG_WIN_LOG2 then
      { c.setReg (Off.STAT_WIN slot) (wd we) with winSats := Tab.set 0 c.winSats slot ws }
    else
      let drift := c.fld (Off.STAT_CFG slot) Fl.STAT_CFG_DRIFT_EN = 1
        ∧ ws * 65536 > c.fld (Off.STAT_DRIFT slot) Fl.STAT_DRIFT_FRAC * we
      let ten := c.fld (Off.STAT_CFG slot) Fl.STAT_CFG_TENSOR
      { c.setReg (Off.STAT_WIN slot) 0 with
        winSats := Tab.set 0 c.winSats slot 0
        out := if drift then c.out ++ [.drift slot ten ws we] else c.out }

/-- REQ. `vb` is the per-lane shift vector of SRC 2, `ss` the scalar of SRC 1, `vc` the statistics slot. Of SHIFT, SS
and VB only the one that SRC names is used; the others must be 0 (R115). -/
def vReq (g : VM) (vd va vb vc ss : Nat) (f : ReqF) (c : Core) : SlotRes :=
  if f.src.val = 3 ∨ f.out.val = 3 ∨ (f.stat ∧ vc ≥ 8) ∨ (¬ f.stat ∧ vc ≠ 0) then .fault cILLEGAL 0
  else if (f.src.val ≠ 0 ∧ f.shift.val ≠ 0) ∨ (f.src.val ≠ 1 ∧ ss ≠ 0) ∨ (f.src.val ≠ 2 ∧ vb ≠ 0) then .fault cILLEGAL 0
  else
    let n (l : Nat) : Nat :=
      if f.src.val = 0 then f.shift.val else if f.src.val = 1 then sh5 (c.s ss) else sh5 (c.v vb l)
    let r (l : Nat) : Int × Bool := reqLane f.out.val (n l) (c.v va l)
    let en := c.enabled g.m.val
    let xs := en.map (fun l => ((c.v va l).toInt, (r l).1, n l, (r l).2))
    .ok (fun cur =>
      let cur := (putVec c g.m.val g.z vd (fun l => wi (r l).1) cur).bumpIf Off.VE_SAT (en.filter (fun l => (r l).2)).length
      if f.stat then statUpdate vc xs cur else cur) none

/-! ### Vector loads and stores (R121–R128) -/

/-- The element width in bytes of the width code W: 1, 2 or 4; 4-bit elements take one byte's place. -/
def elemBytes (w : Nat) : Nat := if w = 1 then 2 else if w = 2 then 4 else 1

/-- The check of one lane's element (R125): ADDR_RANGE before MISALIGNED, with the lane's address modulo 2^48. -/
def laneFault (w : Nat) (a : Int) : Option (Nat × Nat) :=
  let n := elemBytes w
  if a < 0 then some (cADDR, (a % (2 ^ 48 : Nat)).toNat)
  else if ¬ inMem a.toNat n then some (cADDR, a.toNat)
  else if a.toNat % n ≠ 0 then some (cMISAL, a.toNat)
  else none

/-- The first failing enabled lane. -/
def firstFault (w : Nat) (en : List Nat) (addr : Nat → Int) : Option (Nat × Nat) :=
  en.findSome? (fun l => laneFault w (addr l))

/-- A loaded element extended to 32 bits (R121, R123). -/
def extend (w : Nat) (zero : Bool) (v : Nat) : Word :=
  let k := if w = 0 then 8 else if w = 1 then 16 else if w = 2 then 32 else 4
  if zero then wd (v % 2 ^ k) else wi (sgn k v)

/-- The bank of an address, numbered with its memory (R166). -/
def bankOf (a : Nat) : Nat :=
  match memOf a with
  | 1 => a / 16 % 16
  | 2 => 100 + a / 64 % 8
  | _ => 200 + a / 0x4000 % 4

/-- B − 1 of R126: the largest number of distinct rows of one bank, less one. -/
def bankExtra (ps : List (Nat × Nat)) : Nat :=
  let rows := distinct (ps.flatMap (fun p => blocks (rowBytes p.1) p.1 p.2))
  (rows.map (fun r => (rows.filter (fun q => bankOf q == bankOf r)).length)).foldl max 1 - 1

/-- A load of the elements at `addr l`; `nib` selects the nibble of a 4-bit element. -/
def vLoad (g : VM) (vd w : Nat) (zero : Bool) (addr : Nat → Int) (extra : Bool) (c : Core) : SlotRes :=
  let en := c.enabled g.m.val
  match firstFault w en addr with
  | some (f, x) => .fault f x
  | none =>
    let ps := en.map (fun l => ((addr l).toNat, elemBytes w))
    match ps.findSome? (fun p => c.ueIn p.1 p.2) with
    | some u => .fault cECC u
    | none =>
      let val (l : Nat) : Word :=
        let a := (addr l).toNat
        if w = 3 then extend 3 zero ((c.see a).toNat / 2 ^ (4 * (l % 2)))
        else extend w zero (leNat (c.seeN a (elemBytes w)))
      .ok (fun cur => (putVec c g.m.val g.z vd val (cur.noteReads ps)).bumpIf Off.VE_BANK_EXTRA
        (if extra then bankExtra ps else 0)) none

/-- A store of the low bits of VA's enabled lanes at `addr l`; the highest lane persists (R123, R124). The other nibble of a byte that a W = 3
store writes in part is the byte as the S slot of the same bundle leaves it (DESIGN CHOICE, log entry 55; R127). -/
def vStore (m va w : Nat) (addr : Nat → Int) (c : Core) : SlotRes :=
  let en := c.enabled m
  match firstFault w en addr with
  | some (f, x) => .fault f x
  | none =>
    let old (cur : Core) (cs : List (Nat × Byte)) (a : Nat) : Byte :=
      match cs.reverse.find? (fun x => x.1 == a) with
      | some x => x.2
      | none => cur.see a
    let cells (cur : Core) := en.foldl (fun cs l =>
      let a := (addr l).toNat
      let x := (c.v va l).toNat
      if w = 3 then
        let b := (old cur cs a).toNat
        let b := if l % 2 = 0 then b / 16 * 16 + x % 16 else b % 16 + 16 * (x % 16)
        cs ++ [(a, BitVec.ofNat 8 b)]
      else cs ++ withAddr a (natLE (elemBytes w) x)) []
    .ok (fun cur => cur.directCells 0 (cells cur)) none

/-- The strided address of lane l = 4r + c, formed exactly (R121); packed nibbles for W = 3 (R123). -/
def strided (c : Core) (ss vb vc w l : Nat) : Int :=
  if w = 3 then ((c.s ss).toNat : Int) + (l / 2 : Nat)
  else ((c.s ss).toNat : Int) + (l / 4 : Nat) * (c.s vb).toInt + (l % 4 : Nat) * (c.s vc).toInt

/-- The indexed address of a lane (R124). -/
def indexed (c : Core) (ss vb w l : Nat) : Int :=
  ((c.s ss).toNat : Int) + ((c.v vb l).toNat * elemBytes w : Nat)

/-- VLD: W = 3 needs both strides in s0 (R123). -/
def vLd (g : VM) (vd ss vb vc w : Nat) (zero : Bool) (c : Core) : SlotRes :=
  if w = 3 ∧ (vb ≠ 0 ∨ vc ≠ 0) then .fault cILLEGAL 0
  else vLoad g vd w zero (strided c ss vb vc w) true c

/-- VST. -/
def vSt (m va ss vb vc w : Nat) (c : Core) : SlotRes :=
  if w = 3 ∧ (vb ≠ 0 ∨ vc ≠ 0) then .fault cILLEGAL 0
  else vStore m va w (strided c ss vb vc w) c

/-- VLDX: W = 3 is ILLEGAL_OP (R124). -/
def vLdx (g : VM) (vd ss vb w : Nat) (zero : Bool) (c : Core) : SlotRes :=
  if w = 3 then .fault cILLEGAL 0 else vLoad g vd w zero (indexed c ss vb w) true c

/-- VSTX. -/
def vStx (m va ss vb w : Nat) (c : Core) : SlotRes :=
  if w = 3 then .fault cILLEGAL 0 else vStore m va w (indexed c ss vb w) c

/-- ACC.LD: the accumulator tile at SS + 64 × VIMM, which must lie in PM and be a multiple of 64 (R128). -/
def vAccLd (g : VM) (vd ss imm : Nat) (c : Core) : SlotRes :=
  let base := (c.s ss).toNat + 64 * imm
  let addr (l : Nat) : Nat := base + 16 * (l / 4) + 4 * (l % 4)
  let en := c.enabled g.m.val
  match en.findSome? (fun l =>
    if memOf (addr l) ≠ 3 ∨ memOf (addr l + 3) ≠ 3 then some (cADDR, addr l)
    else if base % 64 ≠ 0 then some (cMISAL, addr l) else none) with
  | some (f, x) => .fault f x
  | none =>
    let ps := en.map (fun l => (addr l, 4))
    match ps.findSome? (fun p => c.ueIn p.1 p.2) with
    | some u => .fault cECC u
    | none => .ok (fun cur =>
        (putVec c g.m.val g.z vd (fun l => c.seeWord (addr l)) (cur.noteReads ps)).bump Off.VE_ACC_LD 1) none

end Sys2Proof.Machine
end

