-- ==== Sys2Proof/Machine/Blocks.lean ====
section
/-! DEFINITION. The register space: which block an offset of PF0 BAR0 or of a client's BAR0 lies in, and which register occupies it (R7, R13, R31, R32, R36, R440). -/

namespace Sys2Proof.Machine

/-- The register blocks (R31, R32). `ring c` is client c's ring block, in that client's own BAR0 (R36). -/
inductive Block where
  | gctl | pwr | boot | sec | hif | pf0ring | apg | fin | opt | mir | sch | tel | bolt
  | apt (n : Nat) | vpt (n : Nat) | hbm (s : Nat) | mesh (s : Nat) | sc (s : Nat)
  | core (k : Nat) | latch (c : Nat) | seq (c : Nat) | ring (c : Nat)
  deriving DecidableEq, Repr

/-- The offset of a block in PF0 BAR0; client ring blocks, which lie in other BARs, are numbered above it. -/
def Block.base : Block → Nat
  | .gctl => 0
  | .pwr => 0x100000
  | .boot => 0x200000
  | .sec => 0x300000
  | .hif => 0x400000
  | .pf0ring => 0x410000
  | .apg => 0x8F0000
  | .fin => 0x900000
  | .opt => 0xA00000
  | .mir => 0xB00000
  | .sch => 0xC00000
  | .tel => 0xD00000
  | .bolt => 0xE00000
  | .apt n => 0x800000 + n * 0x10000
  | .vpt n => 0x802000 + n * 0x10000
  | .hbm s => 0x1000000 + s * 0x800000
  | .mesh s => 0x1200000 + s * 0x800000
  | .sc s => 0x1400000 + s * 0x800000
  | .core k => 0x2000000 + k / 16 * 0x200000 + k % 16 * 0x10000
  | .latch c => 0x2100000 + c * 0x200000
  | .seq c => 0x2180000 + c * 0x200000
  | .ring c => 0x10000000 + c * 0x4000

/-- The block an offset lies in, with the offset within it (R31, R32). -/
def locate (o : Nat) : Option (Block × Nat) :=
  if o < 0x100000 then some (.gctl, o)
  else if o < 0x200000 then some (.pwr, o - 0x100000)
  else if o < 0x300000 then some (.boot, o - 0x200000)
  else if o < 0x400000 then some (.sec, o - 0x300000)
  else if o < 0x800000 then
    if 0x410000 ≤ o ∧ o < 0x414000 then some (.pf0ring, o - 0x410000) else some (.hif, o - 0x400000)
  else if o < 0x900000 then
    let l := o - 0x800000
    if 0xF0000 ≤ l then some (.apg, l - 0xF0000)
    else if 0x80000 ≤ l then none
    else
      let p := l % 0x10000
      if (0x2000 ≤ p ∧ p < 0x8000) ∨ 0xA000 ≤ p then some (.vpt (l / 0x10000), p - 0x2000)
      else some (.apt (l / 0x10000), p)
  else if o < 0xA00000 then some (.fin, o - 0x900000)
  else if o < 0xB00000 then some (.opt, o - 0xA00000)
  else if o < 0xC00000 then some (.mir, o - 0xB00000)
  else if o < 0xD00000 then some (.sch, o - 0xC00000)
  else if o < 0xE00000 then some (.tel, o - 0xD00000)
  else if o < 0xE01000 then some (.bolt, o - 0xE00000)
  else if o < 0x1000000 then none
  else if o < 0x2000000 then
    let s := (o - 0x1000000) / 0x800000
    let l := (o - 0x1000000) % 0x800000
    if l < 0x200000 then some (.hbm s, l) else if l < 0x400000 then some (.mesh s, l - 0x200000)
    else some (.sc s, l - 0x400000)
  else if o < 0x6000000 then
    let c := (o - 0x2000000) / 0x200000
    let l := (o - 0x2000000) % 0x200000
    if l < 0x100000 then some (.core (c * 16 + l / 0x10000), l % 0x10000)
    else if l < 0x180000 then some (.latch c, l - 0x100000) else some (.seq c, l - 0x180000)
  else if 0x10000000 ≤ o ∧ o < 0x10080000 then some (.ring ((o - 0x10000000) / 0x4000), (o - 0x10000000) % 0x4000)
  else none

/-- The register of a client ring block at an offset; ring sets repeat every 0x20 bytes (R465). -/
def ringReg (l : Nat) : Option RegSpec :=
  if l < 0x60 ∨ (0x1000 ≤ l ∧ l < 0x1A00) then findReg Map.rset (l % 0x20) else findReg Map.ring l

/-- The register at an offset of a block (R7). -/
def regOf : Block → Nat → Option RegSpec
  | .gctl, l => findReg Map.gctl l
  | .pwr, l => findReg Map.pwr l
  | .boot, l => findReg Map.boot l
  | .sec, l => findReg Map.sec l
  | .hif, l => findReg Map.hif l
  | .pf0ring, l => if l < 0x70 ∨ 0x3000 ≤ l then ringReg l else none
  | .apg, l => findReg Map.apg l
  | .fin, l => findReg Map.fin l
  | .opt, l => findReg Map.opt l
  | .mir, l => findReg Map.mir l
  | .sch, l => findReg Map.sch l
  | .tel, l => findReg Map.tel l
  | .bolt, l => findReg Map.boltMb l
  | .apt _, l => findReg Map.apt l
  | .vpt _, l => findReg Map.vpt l
  | .hbm _, l => findReg Map.hbm l
  | .mesh _, l => findReg Map.mesh l
  | .sc _, l => findReg Map.sc l
  | .core _, l => findReg Map.core l
  | .latch _, l => findReg Map.latch l
  | .seq _, l => findReg Map.seq l
  | .ring _, l => ringReg l

/-- The reset word of the register at an absolute offset; 0 where no register lies. -/
def regReset (o : Nat) : Word :=
  match locate o with
  | some (b, l) => match regOf b l with
    | some r => r.reset
    | none => 0
  | none => 0

end Sys2Proof.Machine
end

