-- ==== Sys2Proof/Machine/State.lean ====
section
/-! DEFINITION. The state of the device: plain data holding every register, memory, queue, table, mode and counter the specification gives it, the queue of waiting commands, and the state at reset. -/

namespace Sys2Proof.Machine

/-! ### Records (R509–R513) -/

/-- A 32 B error or event record (R509). -/
structure Record where
  cls : Byte
  code : Byte
  source : BitVec 16
  object : DWord
  issuer : BitVec 16
  stream : BitVec 16
  stamp : DWord
  detail : DWord
  deriving DecidableEq, Repr

/-- The all-zero record: what an unwritten log slot reads as. -/
def Record.zero : Record := ⟨0, 0, 0, 0, 0, 0, 0, 0⟩

/-- The telemetry block beside its registers: the log of 1,024 slots, the records waiting at each source, and each reader's
log shadow with the slot it was taken from, and the class of the record written last, which a job that fails with it keeps (R449, R512–R514). -/
structure Tel where
  log : Tab Record
  waiting : Tab (List Record)
  shadow : Tab (Option (Nat × Record))
  last : Nat
  deriving DecidableEq, Repr

/-- The telemetry block at power-on. -/
def Tel.fresh : Tel := ⟨[], [], [], 0⟩

/-! ### Latch units (R247, R259–R263, R269) -/

/-- A Latch word (R247). KIND: 0 COUNT, 1 SEQ, 2 PAIR, 3 IMAGE. -/
structure LWord where
  value : Word
  owner : Nat
  owned : Bool
  kind : Nat
  susp : Bool
  hjob : Nat
  hcnt : Nat
  deriving DecidableEq, Repr

/-- A Latch word as a cluster's Shutter opens: 0 in every field (R248). -/
def LWord.zero : LWord := ⟨0, 0, false, 0, false, 0, 0⟩

/-- A registered watch (R259). `core` is the core it notifies, or 0x200 for the client's event ring; `batch` is set for the
batch watch of a batcher (R293); `expires` is the unit tick of its expiry (R261). -/
structure Watch where
  word : Nat
  cond : Nat
  target : Word
  core : Nat
  cookie : Nat
  job : Nat
  issuer : Nat
  expires : Nat
  batch : Option Nat
  deriving DecidableEq, Repr

/-- A completed watch's notification that waits in the unit for its mailbox (R263); `slot` while it keeps a watch slot. -/
structure Notif where
  core : Nat
  job : Nat
  payload : List Byte
  slot : Bool
  deriving DecidableEq, Repr

/-- An operation that reached a Latch unit other than from a core's Latch queue: a SIGNAL, a forward, a mirror copy
(R256, R270, R271). `op` as in R275; `source`: 1 SIGNAL, 2 forward, 4 mirror engine. -/
structure LMsg where
  op : Nat
  source : Nat
  issuer : Nat
  job : Nat
  word : Nat
  operand : Word
  fromCluster : Nat
  fromWord : Nat
  deriving DecidableEq, Repr

/-- One Latch unit beside its registers. -/
structure Latch where
  words : Tab LWord
  ue : List Nat
  watches : List Watch
  waiting : List Notif
  inbox : List LMsg
  deriving DecidableEq, Repr

/-- A Latch unit as its cluster's Shutter opens (R248). -/
def Latch.fresh : Latch := ⟨[], [], [], [], []⟩

/-! ### Streams and batchers (R280, R288–R293) -/

/-- A stream table entry (R280). STATE: 0 FREE, 1 IDLE, 2 READY, 3 RUNNING, 4 SUSPECT. `side` is the half that holds the
entry, `unacked` the bytes its source has written and HBM has not acknowledged (R283); `release` is set by a RELEASE of a RUNNING
stream, `overrun` while a run of refused writes lasts (R285); `snapPend`, `whole` and `relinquished` belong to the mirror engine
(R402, R403, R412), `restoring` holds the tick of a restore request and `resetting` the cause of a reset in progress (R413, R517, R519). -/
structure Stream where
  state : Nat
  be : Bool
  chunk : Nat
  home : Nat
  backlog : Bool
  srcKind : Nat
  mirror : Nat
  srcId : Nat
  plan : Nat
  bound : Nat
  ctxPtr : Nat
  client : Nat
  resultRing : Nat
  ctxSize : Nat
  inChunks : Nat
  inBase : Nat
  chunkBytes : Nat
  inWr : Nat
  inRd : Nat
  step : Nat
  ackStep : Nat
  readyTick : Nat
  deadline : Nat
  side : Nat
  unacked : Nat
  release : Bool
  overrun : Bool
  snapPend : Bool
  whole : Bool
  relinquished : Bool
  restoring : Option Nat
  resetting : Option Nat
  deriving DecidableEq, Repr

/-- A FREE entry. -/
def Stream.free : Stream :=
  ⟨0, false, 0, 0, false, 0, 0, 0, 0, 0, 0, 0, 0, 0, 0, 0, 0, 0, 0, 0, 0, 0, 0, 0, 0, false, false, false, false, false,
    none, none⟩

/-- A batch (R290, R292): its rows in index-list order with their catch-up marks, the active cores, and the ticks and epoch
of its dispatch. `placed` is set once the job holds its cores and the lists are written, at tick `begun`; `sent` holds the cores that have their message. -/
structure Batch where
  rows : List (Nat × Bool)
  cores : List Nat
  cls : Nat
  seq : Nat
  half : Nat
  decided : Nat
  timeout : Nat
  limit : Nat
  epoch : Nat
  copy : Nat
  placed : Bool
  begun : Nat
  sent : List Nat
  deriving DecidableEq, Repr

/-- A batcher beside its registers: the batch in flight, the next sequence number, the half of its area to use next. -/
structure Batcher where
  inflight : Option Batch
  seq : Nat
  half : Nat
  deriving DecidableEq, Repr

/-- A batcher at reset. -/
def Batcher.fresh : Batcher := ⟨none, 0, 0⟩

/-! ### Jobs and plans (R303–R310) -/

/-- The states of a job (R305). -/
inductive JState where
  | free | loaded | resident | saving | suspended | restoring | failed
  deriving DecidableEq, Repr

/-- A job. `mask` is the patch mask of quarter-clusters, `runs` the class in which a resident job competes (R311): 0 LC,
1 BE, 2 nothing; `savedCores` are the cores saved so far by the switch in progress, `parkedOut` marks a switch-out from PARKED, `wants` the tick at which a wait began (R320),
`failCls` the class of the record with which the job failed (R449). -/
structure Job where
  state : JState
  plan : Nat
  client : Nat
  cls : Nat
  mask : Nat
  saveBase0 : Nat
  saveBase1 : Nat
  stride : Nat
  runs : Nat
  forced : Bool
  started : Bool
  residentAt : Nat
  wants : Option Nat
  request : Option Nat
  preemptAt : Option Nat
  forcedNoted : Bool
  savedCores : List Nat
  parkedOut : Bool
  failCls : Nat
  deriving DecidableEq, Repr

/-- A FREE job. -/
def Job.free : Job :=
  ⟨.free, 0, 0, 0, 0, 0, 0, 0, 2, false, false, 0, none, none, none, false, [], false, 0⟩

/-- A registered plan: its header copy, its live-range table and adaptation section as PLAN_LOAD copied them, its device
destination, its client and the weight copy in force on each side (R307–R310, R321). -/
structure Plan where
  header : List Byte
  live : List Byte
  adapt : List Byte
  dest : Nat
  client : Nat
  copy0 : Nat
  copy1 : Nat
  deriving DecidableEq, Repr

/-- A core's save image (R304, R317): the core's fixed state, the job it belongs to, the grants to request again (R315), the fixed bytes as they were
written to the slot, and the local address and length of each range of scratchpad bytes that follows them there. -/
structure Image where
  core : Core
  job : Nat
  grants : List Grant
  whole : Bool
  parked : Bool
  tables : Bool
  fixed : List Byte
  parts : List (Nat × Nat)
  deriving DecidableEq, Repr

/-! ### Mode epochs (R321–R324) -/

/-- A mode change in progress: kind, side, old and new value on each side, its units with a pending switch, its tick, and the units that
must return to the old settings in a rollback. -/
structure Epoch where
  kind : Nat
  side : Nat
  old : Nat × Nat
  new : Nat × Nat
  plan : Nat
  pending : List Nat
  acked : List Nat
  arrived : List Nat
  since : Nat
  byGovernor : Bool
  deriving DecidableEq, Repr

/-! ### The host interface (R448–R453) -/

/-- A long command in progress (R452): the function whose ring it came from (0 PF0, `c + 1` client c), its token, opcode, argument, CID and
submission entry, the work done so far of its total, the highest multiple of 10 % reported, the CIDs of the ABORTs that wait for it (R453), and `owed`: the
functions whose submission rings have a turn before its next step (R452). -/
structure Long where
  fn : Nat
  token : Nat
  op : Nat
  arg : Nat
  cid : Nat
  entry : List Byte
  done : Nat
  total : Nat
  pct : Nat
  begun : Bool
  broken : Bool
  aborts : List Nat
  owed : List Nat
  deriving DecidableEq, Repr

/-! ### Audio (R337–R355) -/

/-- One slot of a port or channel of a virtual port, beside its registers: the capture and playback states of SLOT_STATE, gains with the
gain at the start of a change and the samples since, the frames since the last preamble pair of a muted pair, the delay line, the last fetched and
the last output word, capture bytes not yet written, samples that arrived for a virtual port by frame, the next frame to capture, and the run of refused writes (R343, R349–R355). -/
structure ASlot where
  cap : Nat
  capG : Nat
  capG0 : Nat
  capK : Nat
  capMute : Option Nat
  pb : Nat
  pbG : Nat
  pbG0 : Nat
  pbK : Nat
  pbMute : Option Nat
  delay : List Word
  last : Word
  out : Word
  buf : List Byte
  arrived : Tab (Option Word)
  nextCap : Nat
  refusing : Bool
  deriving DecidableEq, Repr

/-- A slot that is OFF. -/
def ASlot.off : ASlot := ⟨0, 0, 0, 0, none, 0, 0, 0, 0, none, [], 0, 0, [], [], 0, false⟩

/-- A copper port's frame on its pins (R330, R331, R334): the phase accumulator of BCLK at the frame's start and the divider word, both in units of
2^-24 PLL cycle, the bits that SDO sends from slot 0 on, and the bit of the frame before it that may fall in its cycle 0. -/
structure Wave where
  phase : Nat
  div : Nat
  bits : List Bool
  carry : Bool
  deriving DecidableEq, Repr

/-- A port without a frame. -/
def Wave.none : Wave := ⟨0, 0, [], false⟩

/-- A pacing unit: ports 0–7, virtual ports 8–15, groups 16–19 (R336, R344–R346). `first` until frame 0 has begun; `inBand` counts the frames
the pacing slot has played between the marks; `slip` is the slip decided for frame `slipFrame - 1`: 1 drop, 2 repeat; `wave` is the frame on a copper
port's pins. -/
structure AUnit where
  running : Bool
  first : Bool
  mode : Nat
  acc : Int
  trim : Int
  divEff : Nat
  hist : List Int
  inBand : Nat
  updated : Nat
  slipFrame : Nat
  slip : Nat
  wave : Wave
  deriving DecidableEq, Repr

/-- A unit that is not running. -/
def AUnit.off : AUnit := ⟨false, false, 0, 0, 0, 0, [], 0, 0, 0, 0, Wave.none⟩

/-! ### Frame intake (R363–R372) -/

/-- A camera beside its registers: the positions of its bitstream ring modulo twice its size, the run of refused writes, the sequence's size and
depth, whether an enable waits for its engine's domain, the frame slots that are references, and how far past CAM_FRAME the pictures lie that were
decoded ahead of ones that come before them in output order (R366, R367). -/
structure Cam where
  bsWr : Nat
  bsRd : Nat
  refusing : Bool
  width : Nat
  height : Nat
  ten : Bool
  pendingEn : Bool
  refs : List Nat
  ahead : List Nat
  deriving DecidableEq, Repr

/-- A camera at reset. -/
def Cam.fresh : Cam := ⟨0, 0, false, 0, 0, false, false, [], []⟩

/-- A picture in an engine (R363, R366, R367): its camera, the reason for which it is not delivered, 0 for none, its size and place in output order, and
the pool it goes to: base, bytes of a slot, slots, and whether it is P010. -/
structure Dec where
  cam : Nat
  drop : Nat
  width : Nat
  height : Nat
  order : Nat
  pool : Nat
  slotB : Nat
  slots : Nat
  ten : Bool
  deriving DecidableEq, Repr

/-- A decoded frame the scaler holds: camera, frame number, slot address, size, whether it lies as P010, and the outputs not yet produced (R366, R371). -/
structure Frame where
  cam : Nat
  num : Nat
  addr : Nat
  width : Nat
  height : Nat
  ten : Bool
  outs : List Nat
  deriving DecidableEq, Repr

/-- A tensor that waits for a drained slot: frame number, the frame's slot address, bytes, and the tick at which the wait began (R370). -/
structure Tensor where
  num : Nat
  addr : Nat
  bytes : List Byte
  since : Nat
  deriving DecidableEq, Repr

/-! ### The mirror engine (R398–R414) -/

/-- A snapshot in the staging ring of its side (R402, R404): the ring position of its next piece, and the pieces not yet sent, each with its offset in the
context and its bytes. -/
structure Staged where
  stream : Nat
  step : Nat
  side : Nat
  total : Nat
  pos : Nat
  parts : List (Nat × Nat)
  deriving DecidableEq, Repr

/-- An image returned on a RESTORE_REQ (R413): its bytes, and the pieces not yet sent, offset first. -/
structure Snap where
  stream : Nat
  step : Nat
  side : Nat
  restore : Bool
  total : Nat
  parts : List (Nat × List Byte)
  deriving DecidableEq, Repr

/-- A MIRROR message that waits to be sent (R414). -/
inductive MirMsg where
  | heartbeat (count : Nat)
  | snap (s : Snap)
  | ack (stream step : Nat)
  | pairWord (cl w : Nat) (v : Word)
  | restoreReq (stream : Nat)
  | relinquish (streams : List Nat)
  | adoptedList (streams : List Nat)
  deriving DecidableEq, Repr

/-- The pieces of a snapshot received so far. -/
structure Rx where
  step : Nat
  restore : Bool
  parts : List (Nat × List Byte)
  deriving DecidableEq, Repr

/-- The mirror engine beside its registers: snapshots pending by stream and step, staged snapshots and the position in each side's staging ring at which
the next begins, messages to send, snapshots being received,
the heartbeat count and the ticks of the last one sent and received, the streams adopted while the partner was lost, and the peer queries of an
autonomous adoption in progress (R410) with their answers, and the tick at which the last round ended without an adoption. -/
structure Mir where
  formed : Bool
  snapQ : List (Nat × Nat)
  staged : List Staged
  out : List MirMsg
  rx : Tab (Option Rx)
  hbCount : Nat
  hbSent : Nat
  hbSeen : Nat
  hbMissed : Nat
  adopted : List Nat
  queries : List Nat
  asking : Bool
  answers : List Bool
  withheld : Option Nat
  stageAt : Tab Nat
  deriving DecidableEq, Repr

/-- The mirror engine at reset. -/
def Mir.fresh : Mir := ⟨false, [], [], [], [], 0, 0, 0, 0, [], [], false, [], none, []⟩

/-! ### The Sill (R493–R496) -/

/-- The Sill: requests in order of arrival, each a Shutter and the state asked for (0 OFF, 1 RET, 2 ON); the domains being switched, with the
target and the tick at which their switch began; the tick from which the next switch may begin; for each domain the tick, plus 1, since which its
closing condition has held. -/
structure Sill where
  queue : List (Nat × Nat)
  busy : Tab (Option (Nat × Nat))
  next : Nat
  idle : Tab Nat
  deriving DecidableEq, Repr

/-- The Sill at reset. -/
def Sill.fresh : Sill := ⟨[], [], 0, []⟩

/-- The governor and the sleep states (R498–R500): the samples of the window, its heat, the windows under the limit, whether GOV_FLOOR was recorded
for this run, the tick since which the doze conditions hold, whether PF0 is in D3hot, and whether a host command that needs a side has come in this tick. -/
structure Gov where
  sum : Nat
  n : Nat
  hot : Bool
  warm : Bool
  calm : Nat
  floorNoted : Bool
  dozeSince : Option Nat
  d3hot : Bool
  called : Bool
  deriving DecidableEq, Repr

/-- The governor at reset. -/
def Gov.fresh : Gov := ⟨0, 0, false, false, 0, false, none, false, false⟩

/-! ### Panes (R380–R392) -/

/-- A frame kept until it is acknowledged (R389): SEQ, payload, resendings, and the tick at which it was last sent. -/
structure Kept where
  seq : Nat
  payload : List Byte
  again : Nat
  sent : Nat
  deriving DecidableEq, Repr

/-- A channel of a Pane (R388–R390): the next SEQ to send, frames kept and frames to resend, the last CRED received; the expected SEQ, the NAK of
an open gap, what is owed to the peer, the tick of the last CRED sent and the frames accepted since; the tick since which frames wait for credit and
whether the run was recorded; the frames of the bond's window that came ahead of order (R393). -/
structure Chan where
  next : Nat
  kept : List Kept
  resend : List Nat
  credIn : Option Nat
  expect : Nat
  nakAt : Option Nat
  ackOwed : Bool
  nakOwed : Bool
  credOwed : Bool
  credAt : Nat
  credN : Nat
  starved : Option Nat
  noted : Bool
  window : List (Nat × MirFrame)
  deriving DecidableEq, Repr

/-- A channel as a Pane comes UP. -/
def Chan.fresh : Chan := ⟨0, [], [], none, 0, none, false, false, false, 0, 0, none, false, []⟩

/-- A Pane beside its registers: good and failing frames in a row, the ticks of the uncorrectable codewords of the last millisecond, the tick of its state and of its
last HELLO, what the HELLO exchange has reached, control payloads to send, the nonce of the last query with the tick of a query in progress and
whether the mirror engine asked, whether an audio frame is due, whose turn it is in a class, the last frame sent, the tick and the REASON with which the
Pane last left a state and whether that was UP (R381), and whether the ring's heater is within 2 % of an end of its range (R382). -/
structure PaneSt where
  good : Nat
  bad : Nat
  uncors : List Nat
  since : Nat
  helloAt : Option Nat
  gotHello : Bool
  acked : Bool
  conflict : Bool
  ctl : List (List Byte)
  nonce : Nat
  query : Option Nat
  byMirror : Bool
  audioAt : Option Nat
  turn : Nat
  tx : List Byte
  left : Option (Nat × Nat × Bool)
  near : Bool
  deriving DecidableEq, Repr

/-- A DARK Pane. -/
def PaneSt.dark : PaneSt := ⟨0, 0, [], 0, none, false, false, false, [], 0, none, false, none, 0, [], none, false⟩

/-- A weighing frame in the Bolt's queue: Pane, channel, payload (R387). -/
structure WFrame where
  pane : Nat
  chan : Nat
  bytes : List Byte
  deriving DecidableEq, Repr

/-! ### Start-up (R470–R486) -/

/-- A record of the step log (R473). -/
structure StepRec where
  seq : Nat
  count : Nat
  step : Nat
  kind : Nat
  sides : Nat
  reason : Nat
  deriving DecidableEq, Repr

/-- The start in progress: whether it waits for BOOT_START, the step begun and not ended, whether RRS_LIMIT was recorded, the calibration functions marked
down with 12 for an unused mailbox channel 1, the highest clock points that R533 allows, the millivolts measured at BS07, the step log, newest record first,
the sides of a per-side step that have not ended, the marks cleared since this start (R474, R479), the flash as the start found it (R483), and for each side
which fresh training wrote its saved values, plus 1 (R468). -/
structure Boot where
  waiting : Bool
  begun : Option Nat
  rrs : Bool
  down : List Nat
  cap0 : Nat
  cap1 : Nat
  mv0 : Nat
  mv1 : Nat
  log : List StepRec
  left : List Nat
  cleared : Word
  flash0 : Tab (Option Byte)
  trained : Tab Nat
  deriving DecidableEq, Repr

/-- Before the first start. -/
def Boot.fresh : Boot := ⟨true, none, false, [], 17, 17, 0, 0, [], [], 0, [], []⟩

/-! ### The Bolt (R418–R437) -/

/-- A scale (R424–R427): Max and e in mg, FILT, STAB_MS, sample rate; zero points and span in ADC counts; samples with their Bolt time, newest first;
the tare in force in mg and its kind (1 preset, 2 weighed); whether it is online, and since when no data has come; a floor scale's binding, link key,
last counter and link-reject count. -/
structure Scale where
  maxMg : Nat
  e : Nat
  filt : Nat
  stabMs : Nat
  rate : Nat
  zero : Int
  calZero : Int
  spanNum : Int
  spanDen : Nat
  samples : List (Nat × Int)
  tare : Nat
  tareKind : Nat
  online : Bool
  seen : Nat
  bind : Option (Nat × Nat)
  key : List Byte
  counter : Option Nat
  rejects : Nat
  deriving DecidableEq, Repr

/-- A scale that nothing has configured. -/
def Scale.fresh : Scale := ⟨0, 0, 0, 0, 0, 0, 0, 0, 1, [], 0, 0, false, 0, none, [], none, 0⟩

/-- A price entry (R429). -/
structure Price where
  price : Nat
  per100 : Bool
  preset : Option Nat
  deriving DecidableEq, Repr

/-- An audit entry (R423). -/
structure Audit where
  value : Nat
  param : Nat
  scale : Nat
  old : List Byte
  new : List Byte
  boots : Nat
  secs : Nat
  deriving DecidableEq, Repr

/-- A checkpoint (R431). -/
structure Check where
  num : Nat
  first : Nat
  last : Nat
  hash : BitVec 256
  legal : Nat
  signed : Bool
  deriving DecidableEq, Repr

/-- A request the Bolt has taken: its channel, header, words, the Bolt time at which it was taken, and the seal at its beginning (R420, R433, R434). -/
structure BReq where
  chan : Nat
  op : Nat
  scale : Nat
  tag : Nat
  words : List Word
  took : Nat
  sealOpen : Bool
  deriving DecidableEq, Repr

/-- The sealed weighing island. `time` counts 40 ns steps of Bolt time since its boot; `msp` holds the lines sent on the serial port. -/
structure Bolt where
  power : Bool
  time : Nat
  boots : Nat
  sealOpen : Bool
  legal : Nat
  audit : List Audit
  scales : Tab Scale
  keyInd : List Byte
  keyPrice : List Byte
  image : List Byte
  loading : List Byte
  anti : Nat
  prices : Tab (Option Price)
  priceVer : Nat
  nextRec : Nat
  recs : List (List Byte)
  checks : List Check
  sinceCheck : Nat
  checkAt : Nat
  req : Option BReq
  served : Nat
  events : List (Nat × Nat)
  lost : Bool
  msp : List (List Byte)
  deriving DecidableEq, Repr

/-- The Bolt before VDD_BOLT rises for the first time. -/
def Bolt.atReset : Bolt where
  power := false
  time := 0
  boots := 0
  sealOpen := false
  legal := 0
  audit := []
  scales := []
  keyInd := []
  keyPrice := []
  image := []
  loading := []
  anti := 0
  prices := []
  priceVer := 0
  nextRec := 0
  recs := []
  checks := []
  sinceCheck := 0
  checkAt := 0
  req := none
  served := 1
  events := []
  lost := false
  msp := []

/-! ### The device -/

/-- Everything outside the Bolt. Registers not held elsewhere stand in `regs`, by their offset (R31); the registers of cores
stand in the cores. `bmeOff` and `msixOff` are the functions whose Bus Master Enable and MSI-X Enable are 0, `pci` the further fields of configuration space
by function (R438, R443, R461), `zeroTo` the tick at which the zeroing of a side's stack after a reset of the side ends, 0 for none (R240); `fenced` the functions whose submission ring is known to hold a FENCE at its head (R450). -/
structure Dev where
  tick : Nat
  tickBase : Tab Nat
  sideCyc : Tab Nat
  regs : Tab Word
  cores : Tab Core
  stages : Tab (List Instr)
  lus : Tab Latch
  hbm : Mem
  zeroTo : Tab Nat
  hbmUe : List Nat
  hbmCe : List Nat
  repairPend : List Nat
  repair : List Nat
  repairAt : Tab Nat
  host : Mem
  bmeOff : List Nat
  msixOff : List Nat
  pci : Tab Nat
  fenced : List Nat
  cqWait : Tab (List (List Byte))
  rrLost : Tab Nat
  longs : List Long
  tokens : Nat
  turn : Nat
  aslots : Tab ASlot
  aunits : Tab AUnit
  cams : Tab Cam
  engines : Tab (Option Dec)
  served : Tab Nat
  frames : List Frame
  tensors : Tab (Option Tensor)
  mir : Mir
  sill : Sill
  gov : Gov
  hot : Tab Nat
  warned : List Nat
  railLow : List Nat
  chans : Tab Chan
  panes : Tab PaneSt
  weighQ : List WFrame
  weighBind : List (Nat × Nat)
  boot : Boot
  flash : Tab (Option Byte)
  secOp : Nat
  alerts : Nat
  aer : List Nat
  lit : List Nat
  held : List (Nat × Word × List Nat)
  tel : Tel
  streams : Tab Stream
  batchers : Tab Batcher
  pairOut : List (Nat × Nat × Word)
  scDone : List (Nat × Nat)
  jobs : Tab Job
  plans : Tab (Option Plan)
  images : Tab (Option Image)
  epoch : Option Epoch
  belowAdmit : List Nat
  poolTurn : Tab Nat
  shadows : Tab (Option Word)
  answer : List Word
  fresh : Nat
  deriving DecidableEq, Repr

/-- The device as power-on leaves it: every register at its reset value, every table empty. -/
def Dev.atReset : Dev where
  tick := 0
  tickBase := []
  sideCyc := []
  regs := []
  cores := []
  stages := []
  lus := []
  hbm := []
  zeroTo := []
  hbmUe := []
  hbmCe := []
  repairPend := []
  repair := []
  repairAt := []
  host := []
  bmeOff := []
  msixOff := []
  pci := []
  fenced := []
  cqWait := []
  rrLost := []
  longs := []
  tokens := 0
  turn := 0
  aslots := []
  aunits := []
  cams := []
  engines := []
  served := []
  frames := []
  tensors := []
  mir := Mir.fresh
  sill := Sill.fresh
  gov := Gov.fresh
  hot := []
  warned := []
  railLow := []
  chans := []
  panes := []
  weighQ := []
  weighBind := []
  boot := Boot.fresh
  flash := []
  secOp := 0
  alerts := 0
  aer := []
  lit := []
  held := []
  tel := Tel.fresh
  streams := []
  batchers := []
  pairOut := []
  scDone := []
  jobs := []
  plans := []
  images := []
  epoch := none
  belowAdmit := []
  poolTurn := []
  shadows := []
  answer := []
  fresh := 0

/-- The state of the block: the commands that wait, first in first out, the device, and the sealed Bolt, which no device
command reaches (R28). -/
structure State where
  pending : List Instr
  dev : Dev
  bolt : Bolt
  deriving DecidableEq, Repr

/-- The reasons a command may stop the block. No meaning of this model raises one: every command the specification gives
an effect has it, and a command whose condition does not hold changes nothing. -/
inductive Fault where
  /-- Raised by no meaning; it stands for an access the specification says does not exist. Safe: the model stops. -/
  | noSuchAddress
  deriving DecidableEq, Repr

/-- The reasons a command has no meaning here. -/
inductive Refusal where
  /-- Answered by the dispatcher alone, for a command without a meaning; safe, since the model stops. -/
  | notModelled (mnemonic : String)
  deriving DecidableEq, Repr

/-- What a command answers. -/
abbrev Out := Host.Outcome State Fault Refusal

/-- The block right after power-on: no command waits, the device and the Bolt are as their resets leave them. -/
def State.reset : State := ⟨[], Dev.atReset, Bolt.atReset⟩

end Sys2Proof.Machine
end

