-- ==== Sys2Proof/Machine/Ops.lean ====
section
/-! DEFINITION. The named operations over the device: reading and writing registers, cores and tables, counters, records, completing watches, stopping a core and failing a job (R72, R75, R266, R275, R509–R513). -/

namespace Sys2Proof.Machine

/-! ### Accessors -/

/-- The stored word of a register outside the cores, by absolute offset. -/
def Dev.reg (d : Dev) (o : Nat) : Word := Tab.get (regReset o) d.regs o
/-- Store a register's word. -/
def Dev.setReg (d : Dev) (o : Nat) (w : Word) : Dev := { d with regs := Tab.set (regReset o) d.regs o w }
/-- A field of a stored register. -/
def Dev.fld (d : Dev) (o : Nat) (f : Fld) : Nat := f.get (d.reg o)
/-- Write a field of a stored register. -/
def Dev.setFld (d : Dev) (o : Nat) (f : Fld) (v : Nat) : Dev := d.setReg o (f.put (d.reg o) v)
/-- A core. -/
def Dev.core (d : Dev) (k : Nat) : Core := Tab.get Core.atReset d.cores k
/-- Replace a core. -/
def Dev.setCore (d : Dev) (k : Nat) (c : Core) : Dev := { d with cores := Tab.set Core.atReset d.cores k c }
/-- A Latch unit. -/
def Dev.lu (d : Dev) (c : Nat) : Latch := Tab.get Latch.fresh d.lus c
/-- Replace a Latch unit. -/
def Dev.setLu (d : Dev) (c : Nat) (l : Latch) : Dev := { d with lus := Tab.set Latch.fresh d.lus c l }
/-- A stream table entry. -/
def Dev.stream (d : Dev) (i : Nat) : Stream := Tab.get Stream.free d.streams i
/-- Replace a stream table entry. -/
def Dev.setStream (d : Dev) (i : Nat) (x : Stream) : Dev := { d with streams := Tab.set Stream.free d.streams i x }
/-- A job. -/
def Dev.job (d : Dev) (j : Nat) : Job := Tab.get Job.free d.jobs j
/-- Replace a job. -/
def Dev.setJob (d : Dev) (j : Nat) (x : Job) : Dev := { d with jobs := Tab.set Job.free d.jobs j x }
/-- A registered plan. -/
def Dev.plan (d : Dev) (p : Nat) : Option Plan := Tab.get none d.plans p
/-- A batcher. -/
def Dev.bat (d : Dev) (b : Nat) : Batcher := Tab.get Batcher.fresh d.batchers b
/-- Replace a batcher. -/
def Dev.setBat (d : Dev) (b : Nat) (x : Batcher) : Dev := { d with batchers := Tab.set Batcher.fresh d.batchers b x }

/-- Run a list of updates. -/
def Dev.each {α : Type} (d : Dev) (l : List α) (f : Dev → α → Dev) : Dev := l.foldl f d

/-- A value the specification leaves open: the next free value (log entry 4). -/
def Dev.free (d : Dev) : Word × Dev := (Config.freeWord d.fresh, { d with fresh := d.fresh + 1 })

/-- The cluster of a core. -/
def clusterOf (k : Nat) : Nat := k / 16
/-- The side of a core (R17). -/
def sideOf (k : Nat) : Nat := k / 256

/-! ### Source numbers (R510) -/

/-- Cluster sequencer c. -/
def srcSeq (c : Nat) : Nat := 0x20 + c
/-- Latch unit of cluster c. -/
def srcLatch (c : Nat) : Nat := 0x40 + c
/-- DMA engine of core n. -/
def srcDma (n : Nat) : Nat := 0x200 + n
/-- Side controller s. -/
def srcSc (s : Nat) : Nat := 2 + s
/-- HBM controller s. -/
def srcHbm (s : Nat) : Nat := 4 + s
/-- Mesh of side s. -/
def srcMesh (s : Nat) : Nat := 6 + s

/-- Whether a source shows its tick count in registers, which read 0 as its unit powers on: the side controllers and the cluster sequencers (R78, R301). -/
def showsTick (src : Nat) : Bool := decide (2 ≤ src ∧ src < 4) || decide (0x20 ≤ src ∧ src < 0x40)

/-- A source's local tick count: the ticks since its own unit's power-on. What the count of a source begins with that shows it in no register is a free
value, so no two counts compare (R4, R491, R509; log entry 57). -/
def Dev.tickOf (d : Dev) (src : Nat) : Nat := d.tick - Tab.get 0 d.tickBase src + (if showsTick src then 0 else Config.tickOffset src)

/-! ### Records (R509, R512) -/

/-- Class numbers (R511). -/
def kLATCH : Nat := 1
/-- DMA. -/
def kDMA : Nat := 2
/-- CORE. -/
def kCORE : Nat := 3
/-- ECC. -/
def kECC : Nat := 4
/-- FORMAT. -/
def kFORMAT : Nat := 5
/-- SCHED. -/
def kSCHED : Nat := 6
/-- AUDIO. -/
def kAUDIO : Nat := 7
/-- VIDEO. -/
def kVIDEO : Nat := 8
/-- LINK. -/
def kLINK : Nat := 9
/-- MIRROR. -/
def kMIRROR : Nat := 10
/-- POWER. -/
def kPOWER : Nat := 11
/-- BOOT. -/
def kBOOT : Nat := 12
/-- SEC. -/
def kSEC : Nat := 13
/-- BOLT. -/
def kBOLT : Nat := 14
/-- CALIB. -/
def kCALIB : Nat := 15

/-- What a unit puts into a record; the stamp is the source's tick. -/
structure Ev where
  cls : Nat
  code : Nat
  src : Nat
  obj : Nat := 0
  issuer : Nat := 0xFFFF
  stream : Nat := 0xFFFF
  detail : Nat := 0

/-- The record of an event at a source. -/
def Dev.record (d : Dev) (e : Ev) : Record :=
  ⟨BitVec.ofNat 8 e.cls, BitVec.ofNat 8 e.code, BitVec.ofNat 16 e.src, BitVec.ofNat 64 e.obj, BitVec.ofNat 16 e.issuer,
    BitVec.ofNat 16 e.stream, BitVec.ofNat 64 (d.tickOf e.src), BitVec.ofNat 64 e.detail⟩

/-- The records waiting at a source. -/
def Dev.waiting (d : Dev) (src : Nat) : List Record := Tab.get [] d.tel.waiting src

/-- Replace the records waiting at a source. -/
def Dev.setWaiting (d : Dev) (src : Nat) (q : List Record) : Dev :=
  { d with tel := { d.tel with waiting := Tab.set [] d.tel.waiting src q } }

/-- Write a record at its source: it joins at most seven others waiting to be sent, else it is discarded and
TEL_SRC_DROPS increments, with a record of its wrap that is discarded and counted in the same way (R512). -/
def Dev.emit (d : Dev) (e : Ev) : Dev :=
  let q := d.waiting e.src
  let d : Dev := { d with tel := { d.tel with last := e.cls } }
  if q.length < 8 then d.setWaiting e.src (q ++ [d.record e])
  else
    let o := Block.tel.base + Off.TEL_SRC_DROPS
    let v := (d.reg o).toNat + 1
    let d := d.setReg o (wd v)
    let w := d.waiting 0x0C
    if v ≠ 2 ^ 32 then d
    else if w.length < 8 then d.setWaiting 0x0C (w ++ [d.record { cls := kECC, code := 0x0D, src := 0x0C }])
    else d.setReg o 1

/-- Add to a 32-bit counter of a block; a wrap to 0 writes the block's COUNTER_WRAP event `e`. -/
def Dev.bump (d : Dev) (o n : Nat) (e : Ev) : Dev :=
  let v := (d.reg o).toNat + n
  let d := d.setReg o (wd v)
  if v < 2 ^ 32 then d else d.emit e

/-- Zero registers. -/
def Dev.zero (d : Dev) (os : List Nat) : Dev := d.each os (fun d o => d.setReg o 0)

/-! ### Jobs of cores -/

/-- The job of a core, when one is assigned (CORE_JOB). -/
def Core.jobOf (c : Core) : Option Nat :=
  if c.fld Off.CORE_JOB Fl.CORE_JOB_JOB_VALID = 1 then some (c.fld Off.CORE_JOB Fl.CORE_JOB_JOB) else none

/-- The cores of a patch mask, in ascending logical order (R302). -/
def coresOf (mask : Nat) : List Nat :=
  ((List.range 128).filter (fun q => mask.testBit q)).flatMap (fun q => [4 * q, 4 * q + 1, 4 * q + 2, 4 * q + 3])

/-- Whether a core belongs to a job's patch. -/
def inPatch (mask k : Nat) : Bool := mask.testBit (k / 4)

/-- Whether core `k` is held by job `j`. -/
def Dev.holds (d : Dev) (j k : Nat) : Bool := (d.core k).jobOf == some j

/-! ### Core addresses -/

/-- Whether a number is a core of the job resident on core `k` (R62). -/
def Dev.sameJob (d : Dev) (k t : Nat) : Bool :=
  match (d.core k).jobOf with
  | some j => decide (t < 512) && inPatch (d.job j).mask t
  | none => false

/-- The device address of a local address in a core's window. -/
def coreAddr (k a : Nat) : Nat := 0x400000000000 + k * 0x1000000 + a

/-- The device address of a Latch word (R275). -/
def latchAddr (c w : Nat) : Nat := 0x500000000000 + c * 0x10000 + 8 * w

/-! ### Class CORE records (R75) -/

/-- A class CORE event of core `k`: detail holds the PC, the slot, the job, the plan, the wait kind and the live-range entry. -/
def Dev.coreRecord (d : Dev) (k code obj slot wait lr : Nat) : Dev :=
  let c := d.core k
  d.emit { cls := kCORE, code := code, src := srcSeq (clusterOf k), obj := obj, issuer := k,
           detail := c.pc % 4096 + slot * 2 ^ 12 + (c.fld Off.CORE_JOB Fl.CORE_JOB_JOB) * 2 ^ 16
             + (c.fld Off.CORE_JOB Fl.CORE_JOB_PLAN) * 2 ^ 24 + wait * 2 ^ 40 + lr * 2 ^ 48 }

/-- The class CORE event of a wrapped counter (R73). -/
def Dev.coreWrap (d : Dev) (k : Nat) : Dev := d.coreRecord k 0x11 0 0 0 0

/-! ### Completing watches (R263, R266) -/

/-- The VALUE of a Latch word. -/
def Latch.val (l : Latch) (w : Nat) : Word := (Tab.get LWord.zero l.words w).value

/-- A Latch word. -/
def Latch.word (l : Latch) (w : Nat) : LWord := Tab.get LWord.zero l.words w

/-- Replace a Latch word. -/
def Latch.setWord (l : Latch) (w : Nat) (x : LWord) : Latch := { l with words := Tab.set LWord.zero l.words w x }

/-- The notification of a completed watch (R263). -/
def notifBytes (cl : Nat) (l : Latch) (w : Watch) (status : Nat) : List Byte :=
  natLE 2 status ++ natLE 2 (w.cookie % 256) ++ natLE 4 (l.val w.word).toNat ++ natLE 4 (cl * 4096 + w.word)
    ++ natLE 4 (if w.cond = 4 then (l.val (w.word + 1)).toNat else 0)

/-- Complete a watch that holds no slot any more: a core's notification joins those waiting in the unit, a host's is a
WATCH_NOTIFY record, a batch watch's goes to the side controller (R263, R293). `slot` tells whether it held a slot. -/
def Dev.completeWatch (d : Dev) (cl : Nat) (w : Watch) (status : Nat) (slot : Bool) : Dev :=
  let l := d.lu cl
  match w.batch with
  | some b => { d with scDone := d.scDone ++ [(b, status)] }
  | none =>
    if w.core = 0x200 then
      d.emit { cls := kLATCH, code := 0x0D, src := srcLatch cl, obj := latchAddr cl w.word, issuer := 0x200,
               detail := 7 + w.job * 2 ^ 8 + (w.cookie % 256) * 2 ^ 16 + status * 2 ^ 32
                 + (l.val w.word).toNat % 2 ^ 16 * 2 ^ 48 }
    else d.setLu cl { l with waiting := l.waiting ++ [⟨w.core, w.job, notifBytes cl l w status, slot⟩] }

/-- Complete every registered watch of a unit that satisfies `p`, in the order of registration. -/
def Dev.completeWhere (d : Dev) (cl : Nat) (p : Watch → Bool) (status : Nat) : Dev :=
  let l := d.lu cl
  let d := d.setLu cl { l with watches := l.watches.filter (fun w => !p w) }
  d.each (l.watches.filter p) (fun d w => d.completeWatch cl w status true)

/-- The clusters whose Latch unit is not as its Shutter left it. -/
def Dev.latchClusters (d : Dev) : List Nat := d.lus.map (·.1)

/-- What every Latch unit does when a job ends, fails or is reset (R266): `status` is JOB_FAULT or OWNER_RESET for the
watches on its words, or none when the job ended normally. -/
def Dev.latchRelease (d : Dev) (j : Nat) (status : Option Nat) : Dev :=
  d.each d.latchClusters (fun d cl =>
    let l := d.lu cl
    let d := d.setLu cl { l with
      watches := l.watches.filter (fun w => !(w.job == j && w.batch.isNone))
      waiting := l.waiting.filter (fun n => n.job != j) }
    let d := match status with
      | some st => d.completeWhere cl (fun w => (l.word w.word).owned && (l.word w.word).owner == j) st
      | none => d
    let l := d.lu cl
    let fix (x : LWord) : LWord :=
      let x := if x.hcnt != 0 && x.hjob == j then { x with hcnt := 0, susp := false } else x
      if x.owned && x.owner == j then { x with owned := false } else x
    d.setLu cl { l with words := l.words.foldl (fun t e => Tab.set LWord.zero t e.1 (fix e.2)) [] })

/-! ### Stopping cores and failing jobs (R72) -/

/-- The slots of a core's next bundle that have been given so far (R38). -/
def Dev.stage (d : Dev) (k : Nat) : List Instr := Tab.get [] d.stages k

/-- Replace the slots given so far. -/
def Dev.setStage (d : Dev) (k : Nat) (is : List Instr) : Dev := { d with stages := Tab.set [] d.stages k is }

/-- Give up the bundle in progress of a core: its slots have done nothing (R38, R72 step 1). -/
def Dev.abortStage (d : Dev) (k : Nat) : Dev := d.setStage k []

/-- Stop a core: state STOPPED, cause, slot and fault address; a pending preemption request is discarded (R72, R74). -/
def Core.stopped (c : Core) (code slot addr : Nat) : Core :=
  let c := { c with state := .stopped, waitSince := none, pptEntry := none, ending := false, stepStop := false }
  let c := c.setReg Off.CORE_CAUSE (Fl.CORE_CAUSE_SLOT.put (wd code) slot)
  let c := (c.setReg Off.FAULT_ADDR_LO (lo32 addr)).setReg Off.FAULT_ADDR_HI (hi32 addr)
  (c.setFld Off.CORE_STATUS Fl.CORE_STATUS_WAIT 0).setFld Off.CORE_STATUS Fl.CORE_STATUS_PREEMPT_PEND 0

/-- The stop of one core of a failing job with cause JOB_FAILED (R72). -/
def Dev.stopWithJob (d : Dev) (k : Nat) : Dev :=
  let d := d.abortStage k
  let d := d.setCore k ((d.core k).stopped cJOBFAILED 0 0)
  d.coreRecord k cJOBFAILED 0 0 0 0

/-- Add ticks to a client's preempted time, held at its maximum (R320). -/
def Dev.addTime64 (d : Dev) (lo hi n : Nat) : Dev :=
  let v := (d.reg lo).toNat + 2 ^ 32 * (d.reg hi).toNat + n
  let v := if v < 2 ^ 64 then v else 2 ^ 64 - 1
  (d.setReg lo (lo32 v)).setReg hi (hi32 v)

/-- End a job's preempted time at this tick (R320). -/
def Dev.endPreempted (d : Dev) (j : Nat) : Dev :=
  let x := d.job j
  match x.preemptAt with
  | none => d
  | some t =>
    let b := Block.sch.base
    (d.addTime64 (b + Off.ACC_PREEMPT_TIME_LO x.client) (b + Off.ACC_PREEMPT_TIME_HI x.client) (d.tick - t)).setJob j
      { x with preemptAt := none }

/-- The job fails with the record just written (R72 steps 4 and 5): every other core of the job, one held by SSTEP too, stops with JOB_FAILED, and the Latch units release it.
A job that has failed already stays as it is. -/
def Dev.failJob (d : Dev) (j : Nat) : Dev :=
  let x := d.job j
  if x.state = .free ∨ x.state = .failed then d
  else
    let d := d.endPreempted j
    let d := d.setJob j { d.job j with state := .failed, runs := 2, started := false, wants := none, request := none, failCls := d.tel.last }
    let live (k : Nat) : Bool := d.holds j k &&
      ((d.core k).state == .running || (d.core k).state == .parked || (d.core k).state == .suspended || (d.core k).stepStop)
    let d := d.each ((coresOf x.mask).filter live) Dev.stopWithJob
    d.latchRelease j (some 3)

/-- The job of core `k` fails. -/
def Dev.failCoreJob (d : Dev) (k : Nat) : Dev :=
  match (d.core k).jobOf with
  | some j => d.failJob j
  | none => d

/-- A counter of the SCH or a side controller block; its wrap writes COUNTER_WRAP (R297). -/
def Dev.schCount (d : Dev) (side o n : Nat) : Dev := d.bump o n { cls := kSCHED, code := 0x08, src := srcSc side, obj := side * 2 ^ 5 }

/-- A counter that a batch of batcher `b` advances; the record of its wrap names the batcher, its side, the batch and the job (R297, R298). -/
def Dev.batCount (d : Dev) (b seq job o n : Nat) : Dev :=
  d.bump o n { cls := kSCHED, code := 0x08, src := srcSc (b / 16), obj := b + b / 16 * 32 + seq * 2 ^ 32, issuer := job }

/-- The side whose controller acts for a job: the side of its first core. -/
def Dev.jobSide (d : Dev) (j : Nat) : Nat := ((coresOf (d.job j).mask).map sideOf).headD 0

/-- A core's save begins: a RESIDENT job with a preemption request becomes SAVING, and its client has suffered a preemption, timed from the
request (R305, R313, R320). -/
def Dev.beginSave (d : Dev) (j : Nat) (forced : Bool) : Dev :=
  let x := d.job j
  if x.state ≠ .resident then (if forced then d.setJob j { x with forced := true } else d)
  else
    let d := d.schCount (d.jobSide j) (Block.sch.base + Off.ACC_PREEMPTS x.client) 1
    d.setJob j { x with state := .saving, forced := forced, parkedOut := false, preemptAt := some (x.request.getD d.tick) }

/-- The job number a record names for a core. -/
def Dev.jobNum (d : Dev) (k : Nat) : Nat := (d.core k).fld Off.CORE_JOB Fl.CORE_JOB_JOB

/-- The ECC record of a scratchpad code (R519); the syndrome is a free value. -/
def Dev.sramRecord (d : Dev) (code src issuer holder gran : Nat) : Dev :=
  let (x, d) := d.free
  d.emit { cls := kECC, code := code, src := src, obj := coreAddr holder gran, issuer := issuer,
           detail := memOf gran + d.jobNum issuer * 2 ^ 8 + x.toNat * 2 ^ 32 }

/-- An exception stops a core (R72): the record, the cause, and the failure of its job; ECC_STOP also writes SRAM_UE. -/
def Dev.coreStop (d : Dev) (k code slot addr wait lr : Nat) : Dev :=
  let d := d.abortStage k
  let d := d.setCore k ((d.core k).stopped code slot addr)
  let d := d.coreRecord k code addr slot wait lr
  let d := if code = cECC then d.sramRecord 0x01 (srcSeq (clusterOf k)) k k addr else d
  d.failCoreJob k

/-! ### What a core left for its sequencer -/

/-- One event of a core (R73, R160, R162, R173, R217). -/
def Dev.coreEv (d : Dev) (k : Nat) : CoreEv → Dev
  | .wrap => d.coreWrap k
  | .ringUnder r => d.emit { cls := kDMA, code := 0x0B, src := srcDma k, obj := k + r * 2 ^ 16, issuer := k }
  | .rmwUe g 0 => (d.sramRecord 0x03 (srcSeq (clusterOf k)) k k g).failCoreJob k
  | .rmwUe g (n + 1) => (d.sramRecord 0x03 (srcDma n) n k g).failCoreJob n
  | .drift slot ten sats elems =>
    d.emit { cls := kCALIB, code := 0x01, src := srcSeq (clusterOf k), issuer := k,
             obj := ten + (d.core k).fld Off.CORE_JOB Fl.CORE_JOB_PLAN * 2 ^ 16 + slot * 2 ^ 32,
             detail := sats + elems * 2 ^ 32 }

/-- Replace a core and carry out the events it left. -/
def Dev.putCore (d : Dev) (k : Nat) (c : Core) : Dev :=
  (d.setCore k { c with out := [] }).each c.out (fun d e => d.coreEv k e)

/-- Update a core. -/
def Dev.onCore (d : Dev) (k : Nat) (f : Core → Core) : Dev := d.putCore k (f (d.core k))

/-! ### Time on a core (R69) -/

/-- Whether the cluster's Shutter is ON, so that the core's cycle count runs (R69). -/
def Dev.clusterOn (d : Dev) (cl : Nat) : Bool := d.fld (Block.pwr.base + Off.PWR_DOM cl) Fl.PWR_DOM_STATE == 2

/-- CYCLE of a core: its own issue cycles and the side-clock cycles of its side since the mark (R69; log entry 6). -/
def Dev.cycles (d : Dev) (k : Nat) : Nat :=
  let c := d.core k
  if d.clusterOn (clusterOf k) then c.cyc + (Tab.get 0 d.sideCyc (sideOf k) - c.cycMark) else c.cyc

/-! ### The wrapper of device commands -/

/-- A command that acts on the device alone: it always answers a next state, with the Bolt and the queue as they were. -/
def onDev (f : Dev → Dev) (s : State) : Out := .next { s with dev := f s.dev }

end Sys2Proof.Machine
end

