-- ==== Sys2Proof/Machine/Shutters.lean ====
section
/-! DEFINITION. The Shutters as the other units see them: the state of a domain, and the requests that the Sill queues (R493, R494, R496, R507). -/

namespace Sys2Proof.Machine

/-- The Shutter of the side fabric of side `s`. -/
def shFabric (s : Nat) : Nat := 32 + s
/-- The Shutter of the HBM controller of side `s`. -/
def shHbm (s : Nat) : Nat := 34 + s
/-- The Shutter of decode engine `e`. -/
def shEngine (e : Nat) : Nat := 36 + e
/-- The scaler's Shutter. -/
def shScaler : Nat := 40
/-- The Shutter of an audio unit. -/
def shAudio (u : Nat) : Nat := 41 + u % 8 / 4
/-- The Shutter of a Casement. -/
def shCase (k : Nat) : Nat := 43 + k
/-- The PCIe Shutter. -/
def shPcie : Nat := 45
/-- The crypto Shutter. -/
def shCrypto : Nat := 46
/-- The Bolt's Shutter. -/
def shBolt : Nat := 47
/-- The debug Shutter. -/
def shDebug : Nat := 48
/-- The mirror engine's Shutter. -/
def shMirror : Nat := 49

/-- PWR_DOM of a Shutter. -/
def domOff (n : Nat) : Nat := Block.pwr.base + Off.PWR_DOM n
/-- The state of a domain: 0 OFF, 1 RET, 2 ON, 3 switching. -/
def Dev.dom (d : Dev) (n : Nat) : Nat := d.fld (domOff n) Fl.PWR_DOM_STATE
/-- Whether a domain is ON. -/
def Dev.domOn (d : Dev) (n : Nat) : Bool := d.dom n == 2
/-- The policy of a domain: 0 AUTO to OFF, 1 AUTO to RET, 2 KEEP_ON, 3 KEEP_OFF. -/
def Dev.domPolicy (d : Dev) (n : Nat) : Nat := d.fld (domOff n) Fl.PWR_DOM_POLICY
/-- DOWN of a domain (R496). -/
def Dev.domDown (d : Dev) (n : Nat) : Bool := d.fld (domOff n) Fl.PWR_DOM_DOWN == 1
/-- Set the state of a domain. -/
def Dev.setDom (d : Dev) (n st : Nat) : Dev := d.setFld (domOff n) Fl.PWR_DOM_STATE st
/-- Whether a domain is refused to a unit's enable: KEEP_OFF, or DOWN (R496, R507). -/
def Dev.domBarred (d : Dev) (n : Nat) : Bool := d.domPolicy n == 3 || d.domDown n

/-- Put a request into the Sill's queue; a second request for a domain still queued replaces the first (R494). -/
def Dev.shutRequest (d : Dev) (n target : Nat) : Dev :=
  let q := if d.sill.queue.any (fun e => e.1 == n) then d.sill.queue.map (fun e => if e.1 = n then (n, target) else e)
    else d.sill.queue ++ [(n, target)]
  { d with sill := { d.sill with queue := q } }

/-- The target of a domain that is being switched. -/
def Dev.switching (d : Dev) (n : Nat) : Option (Nat × Nat) := Tab.get none d.sill.busy n

/-- A host command that needs a side has come, which wakes the device from D0-doze (R498; log entry 62). -/
def Dev.callSide (d : Dev) : Dev := { d with gov := { d.gov with called := true } }

/-- A user asks for a domain: it is queued for opening where it is not ON, not on its way there, and not barred (R493). -/
def Dev.askOpen (d : Dev) (n : Nat) : Dev :=
  let coming := match d.switching n with
    | some (t, _) => t == 2
    | none => d.domOn n
  if n = shBolt ∨ d.domBarred n = true ∨ (coming = true ∧ d.sill.queue.all (fun e => e.1 != n) = true) then d else d.shutRequest n 2

/-- A use of a domain: it is asked for, and the time for which its closing condition has held begins again (R493, R497). -/
def Dev.useDomain (d : Dev) (n : Nat) : Dev :=
  let d := d.askOpen n
  { d with sill := { d.sill with idle := Tab.set 0 d.sill.idle n 0 } }

end Sys2Proof.Machine
end

