-- ==== Sys2Proof/Machine/Slot.lean ====
section
/-! DEFINITION. How a bundle issues: it is fetched, its registers must not be pending, its slots read the core before the bundle, it issues as a whole
or not at all, and its first fault by the order of R74 stops the core (R37–R42, R47, R48, R51, R52, R57, R70, R72, R74–R77). -/

namespace Sys2Proof.Machine

/-- The entry that marks a core stopped by force: the whole of its state is saved (R314). -/
def forcedEntry : Nat := 1024

/-- Whether what a core's queues hold stays in them: the core is SUSPENDED, or stopped by force (R314). -/
def Core.queuesHeld (c : Core) : Bool := c.state == .suspended || c.pptEntry == some forcedEntry

/-! ### What a slot is to its bundle -/

/-- The number of an s register among the registers that the interlock watches (R40). -/
def rS (r : Nat) : Nat := r
/-- The number of a v register. -/
def rV (r : Nat) : Nat := 32 + r
/-- The number of an m register. -/
def rM (r : Nat) : Nat := 64 + r

/-- One slot of a bundle: the registers it reads and the one it writes, the latency of its result, and what it computes from the core before the
bundle (R38–R41). -/
structure SlotOp where
  reads : List Nat := []
  dest : Option Nat := none
  lat : Core → Nat := fun _ => 1
  run : Dev → Core → SlotRes

/-- The s registers with a pending write: those a Latch reply will write (R40, R41). -/
def Core.pendingRegs (c : Core) : List Nat :=
  ((c.lq.filter (fun r => r.op != .watch)).map (·.dest) ++ c.replies.map (·.dest)).filter (· != 0)

/-- Whether register `r` still has a pending write in cycle `now`; s0 and m0 never have one (R39, R40, R112). -/
def Core.pendingAt (c : Core) (now r : Nat) : Bool :=
  r != rS 0 && r != rM 0 && (c.pendingRegs.contains r || decide (now < Tab.get 0 c.ready r))

/-- Note that a result of latency `l` comes to register `r`, for a bundle that issues in cycle `now`; cycles already past are forgotten (R40). -/
def readyAfter (now : Nat) (t : Tab Nat) (r l : Nat) : Tab Nat :=
  Tab.set 0 t r (if l ≤ 1 ∨ r = rS 0 ∨ r = rM 0 then 0 else now + l)

/-- The pending results after a bundle has issued in cycle `now`. -/
def Core.noteReady (c : Core) (now : Nat) (ops : List SlotOp) : Tab Nat :=
  ops.foldl (fun t o => match o.dest with
    | some r => readyAfter now t r (o.lat c)
    | none => t) (c.ready.filter (fun e => decide (now < e.2)))

/-! ### Fetch (R48, R51, R52) -/

/-- What the fetch at the PC finds: a bundle, a PC past bundle 4095, a segment that is not valid, a parity error, or a slot whose word is no
encoding. -/
inductive Fetch where
  | bundle (w : Nat)
  | range
  | invalid
  | parity
  | illegal (slot : Nat)
  deriving DecidableEq, Repr

/-- The bundle at bundle number `n`: bytes 16n to 16n + 15, little-endian (R37). -/
def Core.bundleAt (c : Core) (n : Nat) : Nat := leNat (c.imem.read (16 * n) 16)

/-- The fetch at the PC. -/
def Core.fetch (c : Core) : Fetch :=
  if c.pc ≥ 4096 then .range
  else if !(c.reg Off.IMEM_VALID).getLsbD (c.pc / 256) then .invalid
  else if c.imemBad.contains c.pc then .parity
  else match illegalSlot (c.bundleAt c.pc) with
    | some s => .illegal s
    | none => .bundle (c.bundleAt c.pc)

/-- PAR_INJECT: the next fetch sees a parity error, and the bit clears itself; a PC past the memory or in an invalid segment fetches nothing (R52, R76,
DBG_CTRL). -/
def Core.takeParityInject (c : Core) : Core :=
  if c.fld Off.DBG_CTRL Fl.DBG_CTRL_PAR_INJECT = 1 ∧ c.pc < 4096 ∧ (c.reg Off.IMEM_VALID).getLsbD (c.pc / 256) = true then
    { c.setFld Off.DBG_CTRL Fl.DBG_CTRL_PAR_INJECT 0 with imemBad := addNum c.imemBad c.pc }
  else c

/-! ### Waiting and issuing -/

/-- The stall counter of a wait kind (R76). -/
def stallCounter (w : Nat) : Nat :=
  if w = 1 then Off.STALL_DEP else if w = 2 then Off.STALL_QFULL else if w = 6 then Off.STALL_FETCH else Off.STALL_WAIT

/-- A bundle that does not issue in this side-clock cycle: WAIT records the condition, the stall counter advances, and a bounded wait (`timed`) is
timed from its first tick, with its other party (R38, R70, R75). -/
def Core.waited (c : Core) (tick w party : Nat) (timed : Bool) : Core :=
  let c := (c.newCycle.setFld Off.CORE_STATUS Fl.CORE_STATUS_WAIT w).bump (stallCounter w) 1
  { c with
    cyc := c.cyc + 1
    waitSince := if timed then c.waitSince.or (some tick) else none
    waitParty := if timed then party else 0 }

/-- A bundle that issues: the PC moves to the next bundle or to the branch target, whose two idle cycles pass (R47). -/
def Core.issued (c : Core) (pc : Nat) (npc : Option Nat) : Core :=
  { c.setFld Off.CORE_STATUS Fl.CORE_STATUS_WAIT 0 with
    waitSince := none
    waitParty := 0
    pc := npc.getD (pc + 1)
    cyc := c.cyc + (if npc.isSome then 3 else 1) }

/-- SSTEP: after each bundle the core stops with SSTEP, an event that does not fail the job; CORE_PC holds the bundle that stopped it. A batch that
this bundle ended stays ended, and a preemption request that it took is given up (R73, R74, R76; DESIGN CHOICE, log entry 56). -/
def Dev.singleStep (d : Dev) (k pc : Nat) : Dev :=
  let c := d.core k
  if c.fld Off.DBG_CTRL Fl.DBG_CTRL_SSTEP = 1 ∧ c.state = .running then
    (d.setCore k { c.stopped cSSTEP 0 0 with stepStop := true, resume := c.pc, pc := pc, ending := c.ending }).coreRecord k cSSTEP 0 0 0 0
  else d

/-! ### A bundle -/

/-- A slot with its outcome. -/
abbrev Part := Nat × SlotOp × SlotRes

/-- The first unmet condition of the slots: the queue of the X slot, then the S slot's own (R38). -/
def firstWait (ps : List Part) : Option (Nat × Nat) :=
  let ws := ps.filterMap (fun p => match p.2.2 with | .wait w a => some (w, a) | _ => none)
  (ws.find? (fun w => w.1 == 2)).or ws.head?

/-- Whether an earlier slot of the bundle writes the same s register as `p` (R39). -/
def writesTwice (before : List Part) (p : Part) : Bool :=
  match p.2.1.dest with
  | some r => r != rS 0 && before.any (fun q => q.2.1.dest == some r)
  | none => false

/-- The ILLEGAL_OP of two slots that write one s register; its record names the later slot (R39, R73; DESIGN CHOICE, log entry 61). -/
def twiceFault : List Part → List Part → Option (Nat × Nat × Nat)
  | _, [] => none
  | before, p :: ps => if writesTwice before p then some (cILLEGAL, p.1, 0) else twiceFault (before ++ [p]) ps

/-- The fault that stops the core: an ILLEGAL_OP in any slot, then the first fault by slot (R74); its code, slot and address. -/
def bundleFault (ps : List Part) : Option (Nat × Nat × Nat) :=
  let fs := ps.filterMap (fun p => match p.2.2 with | .fault f a => some (f, p.1, a) | _ => none)
  ((fs.find? (fun f => f.1 == cILLEGAL)).or (twiceFault [] ps)).or fs.head?

/-- The core after every slot of an issuing bundle, in slot order, and the branch target. -/
def applyParts (ps : List Part) (c : Core) : Core × Option Nat :=
  ps.foldl (fun (a : Core × Option Nat) p => match p.2.2 with
    | .ok upd npc => (upd a.1, npc.or a.2)
    | _ => a) (c, none)

/-- A stop by the fault of a slot. -/
def Dev.slotStop (d : Dev) (k : Nat) (f : Nat × Nat × Nat) : Dev :=
  if f.1 = cPPTHOLD then d.coreStop k f.1 f.2.1 0 0 f.2.2 else d.coreStop k f.1 f.2.1 f.2.2 0 0

/-- A whole bundle of core `k`, by its slots in order: it waits, stops the core, or issues (R38–R41, R47, R72, R74, R77). -/
def Dev.runBundle (d : Dev) (k : Nat) (ops : List (Nat × SlotOp)) : Dev :=
  let c := d.core k
  let now := d.cycles k
  let ps : List Part := ops.map (fun p => (p.1, p.2, p.2.run d c))
  if ops.any (fun p => (p.2.reads ++ p.2.dest.toList).any (c.pendingAt now)) then d.putCore k (c.waited d.tick 1 0 false)
  else match firstWait ps with
    | some (w, party) => d.putCore k (c.waited d.tick w party true)
    | none => match bundleFault ps with
      | some f => d.slotStop k f
      | none =>
        let r := applyParts ps c.newCycle
        let d := (d.putCore k ({ r.1 with ready := c.noteReady now (ops.map (fun (p : Nat × SlotOp) => p.2)) }.issued c.pc r.2)).singleStep k c.pc
        match (d.core k).pptEntry, (d.core k).jobOf with
        | some _, some j => d.beginSave j false
        | _, _ => d

/-- A core whose fetch finds no bundle to issue: it waits, or stops (R42, R48, R51, R52, R57, R70). -/
def Dev.fetchTrouble (d : Dev) (k : Nat) : Fetch → Dev
  | .range => d.coreStop k cPCRANGE 0 0 0 0
  | .illegal s => d.coreStop k cILLEGAL s 0 0 0
  | .invalid => d.putCore k ((d.core k).waited d.tick 6 ((d.core k).pc / 256) true)
  | .parity => d.putCore k ((d.core k).waited d.tick 6 0 false)
  | .bundle _ => d

/-- Whether core `k` issues bundles (R68, R71). -/
def Core.issues (c : Core) : Bool := c.state == .running && c.pptEntry == none && !c.ending

end Sys2Proof.Machine
end

