-- ==== Sys2Proof/Machine/Scalar.lean ====
section
/-! DEFINITION. The S-slot operations (R42–R48, R59, R60, R64, R67, R68, R71, R73, R215–R217), but for the DMA rings' device side. -/

namespace Sys2Proof.Machine

/-- A register-register S slot whose result has latency `l`. -/
def slotRR (l : Nat) (f : Word → Word → Word) (rd ra rb : Fin 32) : SlotOp where
  reads := [rS ra.val, rS rb.val]
  dest := some (rS rd.val)
  lat := fun _ => l
  run := fun _ => sRR f rd.val ra.val rb.val

/-- A register-immediate S slot. -/
def slotRI (f : Word → Word → Word) (rd ra : Fin 32) (imm : Word) : SlotOp where
  reads := [rS ra.val]
  dest := some (rS rd.val)
  run := fun _ => sRI f rd.val ra.val imm

/-- A branch S slot. -/
def slotBr (t : Word → Word → Bool) (ra rb : Fin 32) (off : BitVec 16) : SlotOp where
  reads := [rS ra.val, rS rb.val]
  run := fun _ => sBranch t ra.val rb.val off

/-- SNOP (R43). -/
def opSnop : SlotOp := { run := fun _ _ => .ok id none }
/-- ADD (R43, R44). -/
def opAdd (rd ra rb : Fin 32) : SlotOp := slotRR 1 (fun x y => x + y) rd ra rb
/-- SUB. -/
def opSub (rd ra rb : Fin 32) : SlotOp := slotRR 1 (fun x y => x - y) rd ra rb
/-- AND. -/
def opAnd (rd ra rb : Fin 32) : SlotOp := slotRR 1 (fun x y => x &&& y) rd ra rb
/-- OR. -/
def opOr (rd ra rb : Fin 32) : SlotOp := slotRR 1 (fun x y => x ||| y) rd ra rb
/-- XOR. -/
def opXor (rd ra rb : Fin 32) : SlotOp := slotRR 1 (fun x y => x ^^^ y) rd ra rb
/-- SLL (R44). -/
def opSll (rd ra rb : Fin 32) : SlotOp := slotRR 1 (fun x y => x <<< sh5 y) rd ra rb
/-- SRL. -/
def opSrl (rd ra rb : Fin 32) : SlotOp := slotRR 1 (fun x y => x >>> sh5 y) rd ra rb
/-- SRA: rounds toward minus infinity (R143). -/
def opSra (rd ra rb : Fin 32) : SlotOp := slotRR 1 (fun x y => x.sshiftRight (sh5 y)) rd ra rb
/-- SLT. -/
def opSlt (rd ra rb : Fin 32) : SlotOp := slotRR 1 (fun x y => boolW (decide (x.toInt < y.toInt))) rd ra rb
/-- SLTU. -/
def opSltu (rd ra rb : Fin 32) : SlotOp := slotRR 1 (fun x y => boolW (decide (x.toNat < y.toNat))) rd ra rb
/-- MIN, signed. -/
def opMin (rd ra rb : Fin 32) : SlotOp := slotRR 1 (sMinW) rd ra rb
/-- MAX, signed. -/
def opMax (rd ra rb : Fin 32) : SlotOp := slotRR 1 (sMaxW) rd ra rb
/-- MUL: the low word. -/
def opMul (rd ra rb : Fin 32) : SlotOp := slotRR 3 (fun x y => x * y) rd ra rb
/-- MULH: the signed high word. -/
def opMulh (rd ra rb : Fin 32) : SlotOp := slotRR 3 (mulHigh) rd ra rb

/-- ADDI: IMM16 sign-extended (R44). -/
def opAddi (rd ra : Fin 32) (imm : BitVec 16) : SlotOp := slotRI (fun x y => x + y) rd ra (sx16 imm)
/-- ANDI: IMM16 zero-extended. -/
def opAndi (rd ra : Fin 32) (imm : BitVec 16) : SlotOp := slotRI (fun x y => x &&& y) rd ra (zx16 imm)
/-- ORI. -/
def opOri (rd ra : Fin 32) (imm : BitVec 16) : SlotOp := slotRI (fun x y => x ||| y) rd ra (zx16 imm)
/-- XORI. -/
def opXori (rd ra : Fin 32) (imm : BitVec 16) : SlotOp := slotRI (fun x y => x ^^^ y) rd ra (zx16 imm)
/-- SLLI: by IMM16 [4:0]. -/
def opSlli (rd ra : Fin 32) (imm : BitVec 16) : SlotOp := slotRI (fun x y => x <<< sh5 y) rd ra (sx16 imm)
/-- SRLI. -/
def opSrli (rd ra : Fin 32) (imm : BitVec 16) : SlotOp := slotRI (fun x y => x >>> sh5 y) rd ra (sx16 imm)
/-- SRAI. -/
def opSrai (rd ra : Fin 32) (imm : BitVec 16) : SlotOp := slotRI (fun x y => x.sshiftRight (sh5 y)) rd ra (sx16 imm)
/-- SLTI. -/
def opSlti (rd ra : Fin 32) (imm : BitVec 16) : SlotOp := slotRI (fun x y => boolW (decide (x.toInt < y.toInt))) rd ra (sx16 imm)
/-- LUI: IMM21 << 11. -/
def opLui (rd : Fin 32) (imm : BitVec 21) : SlotOp where
  dest := some (rS rd.val)
  run := fun _ _ => .ok (fun c => c.setS rd.val (imm.zeroExtend 32 <<< 11)) none

/-- LDW (R45). -/
def opLdw (rd ra : Fin 32) (imm : BitVec 16) : SlotOp where
  reads := [rS ra.val]
  dest := some (rS rd.val)
  lat := fun _ => 4
  run := fun _ => sLdw rd.val ra.val imm
/-- STW (R45). -/
def opStw (b : Bun) (rd ra : Fin 32) (imm : BitVec 16) : SlotOp where
  reads := [rS rd.val, rS ra.val]
  run := fun d => sStw (d.cycles b.core.val) rd.val ra.val imm

/-! ### Core registers as plan code reads them (R46, R69, R76) -/

/-- Occupancy words that a core's state determines. -/
def Core.queueStatus (c : Core) : Nat :=
  c.mq.length + c.dq.length * 2 ^ 4 + c.lq.length * 2 ^ 9 + c.sq.length * 2 ^ 13

/-- Messages of one kind in the mailbox. -/
def Core.mbxCount (c : Core) (kinds : List Nat) : Nat := (c.mbx.filter (fun m => kinds.contains m.kind)).length

/-- TAG_LIMIT of a core. -/
def Core.tagLimit (c : Core) : Nat := c.fld Off.DMA_EXP Fl.DMA_EXP_TAG_LIMIT

/-- The tags a core holds: one per unit in flight, of its own transfers and of the chains it forwards (R191, R208). -/
def Core.tags (c : Core) : Nat := (c.xfers.flatMap (·.flights)).length + c.fwdTags

/-- One grant fewer of those for window `w` of a core for which `p` holds: the oldest. -/
def dropGrant (p : Nat → Bool) (w : Nat) : List Grant → List Grant
  | [] => []
  | g :: gs => if g.win = w ∧ p g.core = true then gs else g :: dropGrant p w gs

/-- The grants that attach to no transfer that is queued or has yet to take its own: a queued descriptor with USE_GRANT takes the oldest for its core and
window, a SCATTER, whose core its list tells, the oldest for its window (R67, R184, R205; DESIGN CHOICE, log entry 65). -/
def Core.freeGrants (c : Core) : List Grant :=
  let want (scatter : Bool) (dst cw : Nat) (gs : List Grant) : List Grant :=
    dropGrant (fun k => scatter || decide (0x400000000000 + k * 0x1000000 ≤ dst ∧ dst < 0x400000000000 + (k + 1) * 0x1000000)) cw gs
  let gs := c.xfers.foldl (fun gs t => if t.desc.useGrant && t.held == 0 && !t.failed && t.ovl.isNone then want (t.desc.ty == 2) t.desc.dst t.desc.cw gs else gs) c.grants
  c.dq.foldl (fun gs q => match q with
    | .desc b _ => if leAt b 0 1 / 64 % 2 = 1 then want (leAt b 0 1 % 16 == 2) (leAt b 16 6) (leAt b 1 1 % 8) gs else gs
    | .ovl _ _ _ => gs) gs

/-- The transfers that count in DMA_STATUS.ACTIVE: those not yet complete (R190). -/
def Core.active (c : Core) : Nat := c.xfers.length

/-- The chains a core forwards: the first four of those that have arrived and not gone on whole (R212). -/
def Core.forwarding (c : Core) : Nat := min 4 c.fwdQ.length

/-- The cycles that core `k` has waited for a tag and not yet counted (R208). -/
def Dev.tagWaited (d : Dev) (k : Nat) : Nat :=
  match (d.core k).tagSince with
  | some t => d.cycles k - t
  | none => 0

/-- The side-clock cycle from which core `k`'s waiting credit requests are still to be counted, if one waits (R222). -/
def Dev.creditMark (d : Dev) (k : Nat) : Option Nat :=
  ((((d.cores.flatMap (fun e => e.2.cwq)).flatMap (·.2)).filter (fun r => r.sender == k)).map (·.cyc)).min?

/-- Core `k`'s waiting credit requests, to be counted from now on. -/
def Dev.creditRemark (d : Dev) (k : Nat) : Dev :=
  let now := Tab.get 0 d.sideCyc (sideOf k)
  { d with cores := d.cores.map (fun e => (e.1, { e.2 with cwq := e.2.cwq.map (fun q =>
      (q.1, q.2.map (fun r => if r.sender == k then { r with cyc := now } else r))) })) }

/-- MU_SPARE: which arrays use their spare column, and the logical column it serves, 0 where it is not used (R109). -/
def muSpareWord (k : Nat) : Word :=
  let x := (Config.muSpare k).toNat
  wd (x % 16 + (((List.range 4).filter (fun a => x.testBit a)).map (fun a => x / 2 ^ (8 + 2 * a) % 4 * 2 ^ (8 + 2 * a))).foldl (· + ·) 0)

/-- PM banks of each row group P (R85). -/
def banksOf (rows : Nat) : Nat := if rows ≤ 4 then 4 else if rows ≤ 8 then 2 else 1

/-- RAMP_DIS. -/
def Core.rampDis (c : Core) : Bool := c.fld Off.MU_EXP Fl.MU_EXP_RAMP_DIS == 1

/-- The activity level; RAMP_DIS holds it at 100 % during work and at 0 % when idle. A feed stall under RAMP_DIS is a cycle of the command in progress, and
reads 100 % (R105, R109; DESIGN CHOICE, log entry 61). -/
def Core.level (c : Core) : Nat := if c.rampDis then (if c.mu.isEmpty then 0 else 4) else c.muLevel

/-- MU_STATUS as the unit's state gives it (R109). -/
def Core.muStatusWord (c : Core) : Word :=
  let filler := !c.rampDis && decide (0 < c.muIdle) && decide (0 < c.muLevel)
  wd (b2n (!(c.muFin ++ c.mu).isEmpty) + c.level * 2 + b2n filler * 2 ^ 4 + b2n (decide (c.mu.length ≥ 2)) * 2 ^ 5
    + (match c.muFin ++ c.mu with
       | m :: _ => (m.rows - 1) % 16 * 2 ^ 8 + (if banksOf m.rows = 4 then 2 else if banksOf m.rows = 2 then 1 else 0) * 2 ^ 12
       | [] => 0))

/-- Whether the zeroing of R169 runs on core `k`: it may once the placement of a job on its patch has begun and not yet come to this core, or while the core is
restored; the sequencer's cycles are not modelled, so when it does is a free value (R169, R188; log entry 59). -/
def Dev.coreZeroing (d : Dev) (k : Nat) : Bool :=
  let due := match (d.core k).jobOf with
    | some j => (d.job j).state == .restoring
    | none => d.jobs.any (fun e => e.2.state == .loaded && inPatch e.2.mask k && (coresOf e.2.mask).any (fun i => (d.core i).jobOf == some e.1))
  due && Config.zeroing k d.tick

/-- A core register's word as a read returns it: the stored word, with the fields that the core's state determines (R76, R188,
R222). -/
def Dev.coreReg (d : Dev) (k o : Nat) : Word :=
  let c := d.core k
  let w := c.reg o
  if o = Off.CORE_ID then
    wd (k + clusterOf k * 2 ^ 16 + (Config.physSlot k).toNat % 17 * 2 ^ 24 + sideOf k * 2 ^ 31)
  else if o = Off.CORE_STATUS then Fl.CORE_STATUS_STATE.put w c.state.code
  else if o = Off.CORE_PC then wd (c.pc % 4096)
  else if o = Off.CYCLE_LO then lo32 (d.cycles k)
  else if o = Off.CYCLE_HI then hi32 (d.cycles k)
  else if o = Off.QUEUE_STATUS then wd c.queueStatus
  else if o = Off.MBX_STATUS then
    Fl.MBX_STATUS_RESV.put (Fl.MBX_STATUS_TOTAL.put w c.mbx.length) (c.mbxCount [1, 2])
  else if o = Off.HOLD_STATUS then Fl.HOLD_STATUS_CREDIT_GRANTS.put w c.freeGrants.length
  else if o = Off.MU_SPARE then muSpareWord k
  else if o = Off.MU_STATUS then c.muStatusWord
  else if o = Off.SP_STATUS then Fl.SP_STATUS_GB_LINES.put w c.gbLines
  else if o = Off.SP_GATE then Fl.SP_GATE_ZEROING.put w (b2n (d.coreZeroing k))
  else if o = Off.DMA_STATUS then wd (c.active % 8 + c.tags % 128 * 2 ^ 8 + c.grants.length % 16 * 2 ^ 16 + c.forwarding * 2 ^ 20)
  else if o = Off.DMA_TAG_WAIT then w + wd (d.tagWaited k)
  else if o = Off.DMA_CREDIT_WAIT then
    let now := Tab.get 0 d.sideCyc (sideOf k)
    w + wd (now - (d.creditMark k).getD now)
  else match (List.range 8).find? (fun i => o == Off.CW_AVAIL i) with
    | some i =>
      let q := Tab.get [] c.cwq i
      wd (Tab.get 0 c.cwAvail i + q.length * 2 ^ 12 +
        (match q with | r :: _ => r.sender * 2 ^ 22 + 2 ^ 31 | [] => 0))
    | none => w

/-- RDCR: a basic register of the core's own block, at IMM16 × 4; other offsets read 0 (R46). It reads live, and takes no shadow: R6 speaks of the
accesses of functions and of core windows (DESIGN CHOICE, log entry 55). -/
def opRdcr (b : Bun) (rd : Fin 32) (imm : BitVec 16) : SlotOp where
  dest := some (rS rd.val)
  lat := fun _ => 4
  run := fun d _ =>
    let o := imm.toNat * 4
    let k := b.core.val
    let v : Word := if o < 0x8000 ∧ (regOf (.core k) o).isSome then
        (match regOf (.core k) o with
         | some r => if r.fields.all (fun f => f.acc == .wo) then 0 else d.coreReg k o
         | none => 0)
      else 0
    .ok (fun c => c.setS rd.val v) none

/-- RDCYC: CYCLE_LO, with CYCLE_HI into the cycle shadow (R43). -/
def opRdcyc (b : Bun) (rd : Fin 32) : SlotOp where
  dest := some (rS rd.val)
  run := fun d _ =>
    let n := d.cycles b.core.val
    .ok (fun c => { c.setS rd.val (lo32 n) with cycShadow := hi32 n }) none
/-- RDCYCH: the cycle shadow (R43). -/
def opRdcych (rd : Fin 32) : SlotOp where
  dest := some (rS rd.val)
  run := fun _ c => .ok (fun cur => cur.setS rd.val c.cycShadow) none

/-! ### Branches (R47, R48) -/

/-- BEQ. -/
def opBeq (ra rb : Fin 32) (off : BitVec 16) : SlotOp := slotBr (fun x y => x == y) ra rb off
/-- BNE. -/
def opBne (ra rb : Fin 32) (off : BitVec 16) : SlotOp := slotBr (fun x y => x != y) ra rb off
/-- BLT, signed. -/
def opBlt (ra rb : Fin 32) (off : BitVec 16) : SlotOp := slotBr (fun x y => decide (x.toInt < y.toInt)) ra rb off
/-- BGE, signed. -/
def opBge (ra rb : Fin 32) (off : BitVec 16) : SlotOp := slotBr (fun x y => decide (y.toInt ≤ x.toInt)) ra rb off
/-- BLTU. -/
def opBltu (ra rb : Fin 32) (off : BitVec 16) : SlotOp := slotBr (fun x y => decide (x.toNat < y.toNat)) ra rb off
/-- BGEU. -/
def opBgeu (ra rb : Fin 32) (off : BitVec 16) : SlotOp := slotBr (fun x y => decide (y.toNat ≤ x.toNat)) ra rb off
/-- JMP: RA and RB are s0. -/
def opJmp (off : BitVec 16) : SlotOp := slotBr (fun _ _ => true) 0 0 off

/-! ### Messages (R64) -/

/-- The source word of a message (R64). -/
def Msg.sourceWord (m : Msg) : Word := wd (m.source + m.kind * 2 ^ 12)

/-- RECV: the oldest message's payload goes to the 16 B-aligned AM buffer named by RD, its source word into RD; an empty mailbox
waits, or answers 0x8000_0000 with NW, after the same latency as a message (R41, R64; DESIGN CHOICE, log entry 61). A buffer outside AM is ADDR_RANGE, before MISALIGNED (DESIGN CHOICE, log entry 55). -/
def opRecv (rd : Fin 32) (nw : Bool) : SlotOp where
  reads := [rS rd.val]
  dest := some (rS rd.val)
  lat := fun _ => 2
  run := fun _ c =>
    match c.mbx with
    | [] => if nw then .ok (fun cur => cur.setS rd.val 0x80000000) none else .wait 3 0
    | m :: rest =>
      let a := (c.s rd.val).toNat
      if memOf a ≠ 2 then .fault cADDR a
      else if a % 16 ≠ 0 then .fault cMISAL a
      else .ok (fun cur => ({ cur with mbx := rest }.direct 0 a m.payload).setS rd.val m.sourceWord) none

/-! ### Slot rings as the owning core uses them (R214–R217) -/

/-- The five counts of a ring: HEAD, TAIL, FILLED, PHELD, CHELD. -/
structure RingSt where
  head : Nat
  tail : Nat
  filled : Nat
  pheld : Nat
  cheld : Nat
  deriving DecidableEq, Repr

/-- Read a ring's counts. -/
def Core.ringSt (c : Core) (r : Nat) : RingSt :=
  ⟨c.fld (Off.RING_PTR r) Fl.RING_PTR_HEAD, c.fld (Off.RING_PTR r) Fl.RING_PTR_TAIL, c.fld (Off.RING_PTR r) Fl.RING_PTR_FILLED,
    c.fld (Off.RING_HELD r) Fl.RING_HELD_PHELD, c.fld (Off.RING_HELD r) Fl.RING_HELD_CHELD⟩

/-- Write a ring's counts. -/
def Core.setRingSt (c : Core) (r : Nat) (x : RingSt) : Core :=
  let c := c.setReg (Off.RING_PTR r) (wd (x.head % 64 + x.tail % 64 * 2 ^ 8 + x.filled % 128 * 2 ^ 16))
  (c.setFld (Off.RING_HELD r) Fl.RING_HELD_PHELD x.pheld).setFld (Off.RING_HELD r) Fl.RING_HELD_CHELD x.cheld

/-- Ring settings: enabled, MODE, SLOTS, slot size in 256 B units. -/
def Core.ringEn (c : Core) (r : Nat) : Bool := c.fld (Off.RING_CFG r) Fl.RING_CFG_EN == 1
/-- MODE. -/
def Core.ringMode (c : Core) (r : Nat) : Nat := c.fld (Off.RING_CFG r) Fl.RING_CFG_MODE
/-- SLOTS. -/
def Core.ringSlots (c : Core) (r : Nat) : Nat := c.fld (Off.RING_CFG r) Fl.RING_CFG_SLOTS
/-- SLOT_SIZE. -/
def Core.ringUnits (c : Core) (r : Nat) : Nat := c.fld (Off.RING_HELD r) Fl.RING_HELD_SLOT_SIZE

/-- Whether a ring has a drained slot. -/
def Core.ringRoom (c : Core) (r : Nat) : Bool :=
  let x := c.ringSt r
  decide (x.pheld + x.filled + x.cheld < c.ringSlots r)

/-- Return `n` credits to a window: refused, with CW_OVER, when AVAIL would rise above SIZE (R185). -/
def Core.creditReturn (c : Core) (w n : Nat) : Core :=
  let a := Tab.get 0 c.cwAvail w + n
  if a > c.fld (Off.CW_CFG w) Fl.CW_CFG_SIZE then c.setFld Off.SP_STATUS Fl.SP_STATUS_CW_OVER 1
  else { c with cwAvail := Tab.set 0 c.cwAvail w a }

/-- The credits a consume release returns to every enabled window bound to the ring (R185). -/
def Core.ringReturn (c : Core) (r : Nat) : Core :=
  ((List.range 8).filter (fun w =>
    c.fld (Off.CW_CFG w) Fl.CW_CFG_EN == 1 && c.fld (Off.CW_CFG w) Fl.CW_CFG_RING_BIND == 1
      && c.fld (Off.CW_CFG w) Fl.CW_CFG_RING == r)).foldl (fun c w => c.creditReturn w (c.ringUnits r)) c

/-- Whether the owning core may acquire or release in a direction: produce in MODE 0 and 2, consume in MODE 0 and 1. -/
def Core.ringAllows (c : Core) (r : Nat) (consume : Bool) : Bool :=
  c.ringEn r && (if consume then decide (c.ringMode r ≤ 1) else (c.ringMode r == 0 || c.ringMode r == 2))

/-- RACQ (R215, R216); its immediate answers have the latency of a slot acquired (R41; DESIGN CHOICE, log entry 61). -/
def opRacq (rd : Fin 32) (ring : Fin 16) (dir nw : Bool) : SlotOp where
  dest := some (rS rd.val)
  lat := fun _ => 2
  run := fun _ c =>
    let r := ring.val
    let x := c.ringSt r
    let n := c.ringSlots r
    if !c.ringAllows r dir then .ok (fun cur => cur.setS rd.val 0x80000002) none
    else if dir then
      if x.filled > 0 then
        .ok (fun cur => (cur.setRingSt r { x with head := (x.head + 1) % n, filled := x.filled - 1, cheld := x.cheld + 1 }).setS
          rd.val (wd (x.head * 256 * c.ringUnits r))) none
      else if nw then .ok (fun cur => cur.setS rd.val 0x80000000) none else .wait 4 r
    else if c.ringRoom r then
      .ok (fun cur => (cur.setRingSt r { x with tail := (x.tail + 1) % n, pheld := x.pheld + 1 }).setS
        rd.val (wd (x.tail * 256 * c.ringUnits r))) none
    else if nw then .ok (fun cur => cur.setS rd.val 0x80000001) none else .wait 4 r

/-- RREL: with nothing held it is ignored, with RING_UNDER (R215, R217). -/
def opRrel (ring : Fin 16) (dir : Bool) : SlotOp where
  run := fun _ c =>
    let r := ring.val
    let x := c.ringSt r
    let under (cur : Core) : Core :=
      { cur.setFld (Off.RING_STATUS r) Fl.RING_STATUS_UNDER 1 with out := cur.out ++ [.ringUnder r] }
    if !c.ringAllows r dir then .ok under none
    else if dir then
      if x.cheld > 0 then .ok (fun cur => (cur.setRingSt r { x with cheld := x.cheld - 1 }).ringReturn r) none else .ok under none
    else
      if x.pheld > 0 then .ok (fun cur => cur.setRingSt r { x with pheld := x.pheld - 1, filled := x.filled + 1 }) none
      else .ok under none

/-! ### Waiting, preemption points, stops (R60, R67, R68, R71, R73) -/

/-- Whether the queues named in a mask are empty and all their commands complete (R60). -/
def Core.drained (c : Core) (mask : Nat) : Bool :=
  (!mask.testBit 0 || (c.mq.isEmpty && c.mu.isEmpty && c.muFin.isEmpty)) && (!mask.testBit 1 || (c.dq.isEmpty && c.xfers.isEmpty))
    && (!mask.testBit 2 || (c.lq.isEmpty && c.replies.isEmpty)) && (!mask.testBit 3 || c.sq.isEmpty)

/-- QWAIT: the named queues empty and complete, and a fence of the gather buffer (R60, R175). -/
def opQwait (mask : BitVec 4) : SlotOp where
  run := fun _ c => if c.drained mask.toNat then .ok Core.fence none else .wait 5 0

/-- The entries a PPT of core `k` may name: the live-range table's length in the plan of its job (R308). A core without a job, or
whose plan is not registered, has no table that bounds them (log entry 53). -/
def Dev.liveCount (d : Dev) (k : Nat) : Nat :=
  match (d.core k).jobOf, d.plan ((d.core k).fld Off.CORE_JOB Fl.CORE_JOB_PLAN) with
  | some _, some p => leAt p.header 612 2
  | _, _ => 1024

/-- PPT: an entry at or above LIVE_COUNT is ILLEGAL_OP (R308); holds or unattached grants stop the core (R67); with a pending request
the PPT is taken, a fence, no request waits any more, and no later bundle issues (R68, R78, R175). -/
def opPpt (b : Bun) (entry : Fin 1024) : SlotOp where
  run := fun d c =>
    if entry.val ≥ d.liveCount b.core.val then .fault cILLEGAL 0
    else if c.fld Off.HOLD_STATUS Fl.HOLD_STATUS_SEM_HOLD ≠ 0 ∨ c.freeGrants ≠ [] then .fault cPPTHOLD entry.val
    else if c.fld Off.CORE_STATUS Fl.CORE_STATUS_PREEMPT_PEND = 1 then .ok (fun cur =>
        { cur.fence with pptEntry := some entry.val }.setFld Off.CORE_STATUS Fl.CORE_STATUS_PREEMPT_PEND 0) none
    else .ok id none

/-- TRAP stops the core; its code is not part of the record (R73, R75). -/
def opTrap (_code : BitVec 16) : SlotOp where
  run := fun _ _ => .fault cTRAP 0

/-- END: it waits as QWAIT of all four queues; once they are drained it issues, a dispatch message still unread is discarded, and no later
bundle issues until the core parks (R61, R71). -/
def opEndBatch : SlotOp where
  run := fun _ c =>
    if c.drained 0xF then .ok (fun cur => { cur with ending := true, mbx := cur.mbx.filter (fun m => m.kind != 2) }) none
    else .wait 5 0

end Sys2Proof.Machine
end

