-- ==== Sys2Proof/Machine/DevMem.lean ====
section
/-! DEFINITION. The device address space, the HBM stacks with their error correction, the mesh and bridge errors, host memory behind the translation windows, and the containment of a side (R21, R202, R224–R246, R441–R444, R514, R515, R519). -/

namespace Sys2Proof.Machine

/-! ### Targets of a device address (R224, R225) -/

/-- What a device address names. -/
inductive Targ where
  | hbm (side off : Nat)
  | sram (core a : Nat)
  | creg (core o : Nat)
  | latch (cl w : Nat)
  | host
  | none
  deriving DecidableEq, Repr

/-- The bytes of one HBM stack. -/
def hbmSize : Nat := 0x400000000

/-- The target of a device address. -/
def targetOf (a : Nat) : Targ :=
  if a < 2 * hbmSize then .hbm (a / hbmSize) (a % hbmSize)
  else if 0x400000000000 ≤ a ∧ a < 0x400200000000 then
    let k := (a - 0x400000000000) / 0x1000000
    let l := (a - 0x400000000000) % 0x1000000
    if memOf l ≠ 0 then .sram k l
    else if 0xC00000 ≤ l ∧ l < 0xC10000 then .creg k (l - 0xC00000)
    else .none
  else if 0x500000000000 ≤ a ∧ a < 0x500000200000 then
    let l := (a - 0x500000000000) % 0x10000
    if l < 0x8000 ∧ l % 8 = 0 then .latch ((a - 0x500000000000) / 0x10000) (l / 8) else .none
  else if 0x800000000000 ≤ a ∧ a < 0x1000000000000 then .host
  else .none

/-- A 64-bit value of two registers. -/
def Dev.reg64 (d : Dev) (lo hi : Nat) : Nat := (d.reg lo).toNat + 2 ^ 32 * (d.reg hi).toNat

/-- Whether a side is contained (R21). -/
def Dev.contained (d : Dev) (s : Nat) : Bool :=
  d.fld ((Block.mesh s).base + Off.MESH_STATUS) Fl.MESH_STATUS_CONTAINED == 1

/-- The base of a stream table half (R278). -/
def Dev.stBase (d : Dev) (s : Nat) : Nat :=
  (d.reg (Block.sch.base + Off.ST_BASE_LO s)).toNat + 2 ^ 32 * (d.reg (Block.sch.base + Off.ST_BASE_HI s)).toNat

/-- Whether `n` bytes from `a` touch a stream table half, which no DMA unit may name (R279). A half whose base is still 0 was never placed, so it
covers nothing. -/
def Dev.inTable (d : Dev) (a n : Nat) : Bool :=
  [0, 1].any (fun s => d.stBase s != 0 && decide (a < d.stBase s + 0x10000) && decide (d.stBase s < a + n))

/-! ### The stream table in HBM (R278–R280) -/

/-- The 64 bytes of an entry. -/
def Stream.bytes (x : Stream) : List Byte :=
  natLE 1 (x.state + b2n x.be * 8 + x.chunk * 16 + x.home * 64 + b2n x.backlog * 128) ++ natLE 1 (x.srcKind + x.mirror * 16)
    ++ natLE 2 x.srcId ++ natLE 2 x.plan ++ natLE 2 x.bound ++ natLE 6 x.ctxPtr ++ natLE 1 x.client ++ natLE 1 x.resultRing
    ++ natLE 3 x.ctxSize ++ natLE 1 x.inChunks ++ natLE 6 x.inBase ++ natLE 2 0 ++ natLE 3 x.chunkBytes ++ natLE 1 0
    ++ natLE 4 x.inWr ++ natLE 4 x.inRd ++ natLE 4 x.step ++ natLE 4 x.ackStep ++ natLE 4 x.readyTick ++ natLE 4 x.deadline ++ natLE 8 0

/-- Z, the bytes of the input ring (R283). -/
def Stream.z (x : Stream) : Nat := x.inChunks * x.chunkBytes
/-- The units between two positions modulo 2N. -/
def span (n tail head : Nat) : Nat := if n = 0 then 0 else (tail + 2 * n - head) % (2 * n)

/-- F, the bytes the input ring holds (R283). -/
def Stream.held (x : Stream) : Nat := span x.z x.inWr x.inRd
/-- Whether a stream is in backlog: two chunks or more, or a token slot that is not one real-time step (R286, R289). -/
def Dev.inBacklog (d : Dev) (x : Stream) : Bool :=
  decide (x.held ≥ 2 * x.chunkBytes) || (x.srcKind == 4 && leNat (d.hbm.read (x.inBase + x.inRd % x.z) 4) != 1)

/-- An entry as it stands: BACKLOG of a READY stream follows its input, that of a RUNNING one tells of a catch-up row, and no other stream is in backlog
(R280, R289). -/
def Dev.entryView (d : Dev) (i : Nat) : Stream :=
  let x := d.stream i
  { x with backlog := if x.state = 2 then d.inBacklog x else x.state == 3 && x.backlog }

/-- The half of the stream table in which an address lies (R278). -/
def Dev.halfOf (d : Dev) (a : Nat) : Option Nat :=
  [0, 1].find? (fun s => d.stBase s != 0 && decide (d.stBase s ≤ a) && decide (a < d.stBase s + 0x10000))

/-- Byte `o` of the half of side `s`: entry i lies at 64i, and the same ID in the other half reads FREE (R278). -/
def Dev.tableByte (d : Dev) (s o : Nat) : Byte :=
  let x := d.entryView (o / 64)
  ((if x.side = s then x else Stream.free).bytes).getD (o % 64) 0

/-- Bytes of HBM, those of a half of the stream table as its entries stand. -/
def Dev.hbmBytes (d : Dev) (a n : Nat) : List Byte :=
  if d.inTable a n then (List.range n).map (fun i => match d.halfOf (a + i) with
    | some s => d.tableByte s (a + i - d.stBase s)
    | none => d.hbm.byte (a + i))
  else d.hbm.read a n

/-! ### The mesh and the bridge (R18, R227, R228, R245) -/

/-- A counter of a mesh block. -/
def Dev.meshCount (d : Dev) (s o n : Nat) : Dev :=
  d.bump ((Block.mesh s).base + o) n { cls := kECC, code := 0x0D, src := srcMesh s }

/-- The MESH_UE record of a side (R519). -/
def Dev.meshRecord (d : Dev) (s router port : Nat) : Dev :=
  let (x, d) := d.free
  d.emit { cls := kECC, code := 0x08, src := srcMesh s, obj := router + port * 2 ^ 4 + s * 2 ^ 8, detail := 7 + x.toNat * 2 ^ 32 }

/-- A router output: side, router and port, with the ports as MESH_LINK_SEL numbers them. Where a path ends, it names the unit behind the port: the
clusters' units at a crossbar port, the HBM controller at an attachment of row 0, the base die at one of row 3 (R227, R245). -/
abbrev MeshOut := Nat × Nat × Nat

/-- The output ports from router `i` to router `j` of side `s`: first along the row, then along the column, with row 0 in the north (R18, R228). -/
def walk (s i j : Nat) : List MeshOut :=
  let col := (List.range (max (i % 4) (j % 4) - min (i % 4) (j % 4))).map (fun n =>
    if i % 4 < j % 4 then (s, i + n, 2) else (s, i - n, 3))
  let m := i / 4 * 4 + j % 4
  col ++ (List.range (max (i / 4) (j / 4) - min (i / 4) (j / 4))).map (fun n =>
    if i / 4 < j / 4 then (s, m + 4 * n, 1) else (s, m - 4 * n, 0))

/-- The output ports of a packet from behind `a` to behind `b`: to the other side it leaves through row 3 of the sender's column (R228). -/
def meshPath (a b : MeshOut) : List MeshOut :=
  if a.1 = b.1 then walk a.1 a.2.1 b.2.1 ++ [b]
  else
    let m := 12 + a.2.1 % 4
    walk a.1 a.2.1 m ++ [(a.1, m, 5)] ++ walk b.1 m b.2.1 ++ [b]

/-- Whether a router of a side has an output port (R227): a neighbour to the north (0), south (1), east (2) or west (3) in the mesh of four rows
and four columns, its crossbar (4), or an attachment (5), which rows 0 and 3 have. -/
def meshPort (router port : Nat) : Bool :=
  match port with
  | 0 => decide (4 ≤ router)
  | 1 => decide (router < 12)
  | 2 => decide (router % 4 < 3)
  | 3 => decide (0 < router % 4)
  | 4 => true
  | _ => decide (router < 4 ∨ 12 ≤ router)

/-- The output behind which a cluster's units stand (R227). -/
def clusterOut (cl : Nat) : MeshOut := (cl / 16, cl % 16, 4)

/-- The output behind which a target stands for an issuer in column `col` of side `s` (R228). -/
def Targ.out (s col : Nat) : Targ → Option MeshOut
  | .hbm t _ => some (t, col, 5)
  | .sram c _ | .creg c _ => some (clusterOut (clusterOf c))
  | .latch cl _ => some (clusterOut cl)
  | .host => some (s, 12 + col, 5)
  | .none => Option.none

/-- The 64 B flits of a packet with `n` bytes of data: those that carry the data, one at least, and what its header adds, which the specification does
not state (log entry 57). -/
def flitsOf (n : Nat) : Nat := max 1 ((n + 63) / 64) + Config.headFlits n

/-- An injected error leaves with the next flit out of the selected port: a single-bit error is corrected and counted, a double-bit one contains the
side (MESH_EXP, R231). `contain` is the containment of a side. -/
def Dev.spendInjection (d : Dev) (contain : Dev → Nat → Nat → Dev) (s : Nat) : Dev :=
  let b := (Block.mesh s).base
  let inj := d.fld (b + Off.MESH_EXP) Fl.MESH_EXP_ECC_INJ
  let d := d.setFld (b + Off.MESH_EXP) Fl.MESH_EXP_ECC_INJ 0
  if inj = 1 then d.meshCount s Off.MESH_CE 1
  else if inj = 2 then
    contain (d.meshRecord s (d.fld (b + Off.MESH_LINK_SEL) Fl.MESH_LINK_SEL_ROUTER) (d.fld (b + Off.MESH_LINK_SEL) Fl.MESH_LINK_SEL_PORT)) s 2
  else d

/-- Whether an output is the selected one of its side (MESH_LINK_SEL). -/
def Dev.selected (d : Dev) (o : MeshOut) : Bool :=
  let b := (Block.mesh o.1).base + Off.MESH_LINK_SEL
  d.fld b Fl.MESH_LINK_SEL_ROUTER == o.2.1 && d.fld b Fl.MESH_LINK_SEL_PORT == o.2.2

/-- Whether an output leads onto the bridge: an attachment of row 3 (R227). -/
def ontoBridge (o : MeshOut) : Bool := o.2.2 == 5 && decide (12 ≤ o.2.1)

/-! ### Containment of a side (R21, R26, R242) -/

/-- Whether the `n` bytes from `a` lie wholly in side `s`'s HBM. -/
def inHbm (s a n : Nat) : Bool := decide (s * hbmSize ≤ a) && decide (a + n ≤ (s + 1) * hbmSize)

/-- Whether the rings of camera `c`, its pool or its bitstream ring, begin on side `s` (R365). -/
def Dev.camOn (d : Dev) (c s : Nat) : Bool :=
  let b := Block.fin.base
  [d.reg64 (b + Off.BS_BASE_LO c) (b + Off.BS_BASE_HI c), d.reg64 (b + Off.FB_BASE_LO c) (b + Off.FB_BASE_HI c)].any
    (fun a => inHbm s a 1)

/-- Camera `c` stops: it is OFF, and CAMERA_STOPPED is recorded (R372). -/
def Dev.camStop (d : Dev) (c : Nat) : Dev :=
  let o := Block.fin.base + Off.CAM_CFG c
  let st := Block.fin.base + Off.CAM_STATUS c
  let d := (d.setFld o Fl.CAM_CFG_EN 0).setFld st Fl.CAM_STATUS_STATE 0
  d.emit { cls := kVIDEO, code := 0x05, src := 0x10 + d.fld o Fl.CAM_CFG_ENGINE, obj := c, stream := c,
           detail := (d.reg (Block.fin.base + Off.CAM_FRAME c)).toNat + 0x3FF * 2 ^ 40 }

/-- The cameras that satisfy `p` stop, those enabled among them. -/
def Dev.camsStop (d : Dev) (p : Nat → Bool) : Dev :=
  d.each ((List.range 64).filter (fun c => d.fld (Block.fin.base + Off.CAM_CFG c) Fl.CAM_CFG_EN == 1 && p c)) Dev.camStop

/-- The entry of a released stream: positions and context stay as they are (R282). -/
def Stream.freed (x : Stream) : Stream :=
  { x with state := 0, backlog := false, release := false, overrun := false, snapPend := false, whole := false, relinquished := false, restoring := none
           resetting := none, unacked := 0 }

/-- The streams of a failed or timed-out batch become SUSPECT, those with a RELEASE pending FREE (R281, R293). -/
def Stream.failed (x : Stream) : Stream := if x.release then x.freed else { x with state := 4, backlog := false }

/-- Whether a plan's layout is SHARDED: bit 0 of FLAGS, byte 6 of its header (R24, R308). -/
def Dev.sharded (d : Dev) (p : Nat) : Bool :=
  match d.plan p with
  | some x => leAt x.header 6 1 % 2 == 1
  | none => false

/-- The transfers of a contained side's cores complete with error: none of their units issues or lands any more, neither SIGNAL nor ring operation is applied,
their requests leave the windows of the other side, and each is recorded as SIDE_CONTAINED, with the destination of its first unit in flight, else of its
descriptor (R21, R220; DESIGN CHOICE, log entry 66). -/
def Dev.endTransfers (d : Dev) (s : Nat) : Dev :=
  let there := d.cores.filter (fun e => sideOf e.1 == s)
  let d := d.each (there.flatMap (fun e => (e.2.xfers.filter (fun t => !t.failed)).map (fun t => (e.1, t)))) (fun d e =>
    d.emit { cls := kDMA, code := 0x06, src := srcDma e.1, obj := (e.2.flights.head?.map (·.dst)).getD e.2.desc.dst, issuer := e.1,
             detail := e.2.desc.tag + e.2.desc.ty % 16 * 2 ^ 16 })
  { d with cores := d.cores.map (fun e =>
      let c := { e.2 with cwq := (e.2.cwq.map (fun q => (q.1, q.2.filter (fun r => sideOf r.sender != s)))).filter (fun q => !q.2.isEmpty) }
      (e.1, if sideOf e.1 = s then { c with xfers := [], fwdQ := [], fwdTags := 0, tagSince := none } else c)) }

/-- The containment of a side; its record is its caller's. MESH_STATUS and HBM_STATUS show it, every job with a core on the side fails and every job
of a SHARDED plan with it, the streams of their batches become SUSPECT, resets and restores of its streams go no further, its transfers end, its cameras stop, and the mirror engine relinquishes its home streams (R21, R372, R412). -/
def Dev.contain (d : Dev) (s cause : Nat) : Dev :=
  if d.contained s then d
  else
    let m := (Block.mesh s).base + Off.MESH_STATUS
    let d := (d.setFld m Fl.MESH_STATUS_CONTAINED 1).setFld m Fl.MESH_STATUS_CAUSE cause
    let d : Dev := { d.setFld ((Block.hbm s).base + Off.HBM_STATUS) Fl.HBM_STATUS_CONTAINED 1 with alerts := d.alerts ||| 4 }
    let stops (x : Job) : Bool := (coresOf x.mask).any (fun k => sideOf k == s) || d.sharded x.plan
    let d := d.each (d.jobs.filter (fun e => stops e.2)) (fun d e => d.failJob e.1)
    let d := d.each (List.range 32) (fun d b =>
      match (d.bat b).inflight with
      | none => d
      | some x =>
        if b / 16 ≠ s ∧ (x.placed = true ∨ stops (d.job (d.fld (Block.sch.base + Off.BAT_CFG b) Fl.BAT_CFG_JOB)) = false) then d
        else
        let d := d.each x.rows (fun d r => d.setStream r.1 (d.stream r.1).failed)
        { d.setBat b { d.bat b with inflight := none } with scDone := d.scDone.filter (fun e => e.1 != b) })
    let d := d.each ((d.streams.filter (fun e => e.2.side == s && (e.2.resetting.isSome || e.2.restoring.isSome))).map (·.1)) (fun d i =>
      let x := d.stream i
      d.setStream i (if x.release then x.freed else { x with resetting := none, restoring := none }))
    let d := d.camsStop (fun c => d.camOn c s)
    let d := d.endTransfers s
    let names := (d.streams.filter (fun e => e.2.side == s && e.2.state != 0 && e.2.mirror != 3)).map (·.1)
    if names.isEmpty ∨ d.mir.formed = false then d
    else { d with mir := { d.mir with out := d.mir.out ++ [.relinquish names] } }

/-- The containment of a side with the record of class POWER or ECC that names it (R21), for the causes that no other rule gives a record of those classes
naming the side: PLL_UNLOCK and RAIL_FAULT for the causes 1 and 5, else the one ECC code that tells of a containment, from the unit that failed, or from the
Hinge for a side controller, whose station is bypassed from then on (R22; DESIGN CHOICE, log entry 57). -/
def Dev.containNoted (d : Dev) (s cause : Nat) : Dev :=
  if d.contained s then d
  else
    let power (code : Nat) : Dev := d.emit { cls := kPOWER, code := code, src := 0, obj := s }
    let ecc (src : Nat) : Dev :=
      let (x, d) := d.free
      d.emit { cls := kECC, code := 0x08, src := src, obj := s * 2 ^ 8, detail := 7 + x.toNat * 2 ^ 32 }
    let d := match cause with
      | 1 => power 0x04
      | 5 => power 0x03
      | 3 => ecc 0
      | 4 | 7 => ecc (srcHbm s)
      | _ => ecc (srcMesh s)
    d.contain s cause

/-! ### Traffic (R228, R245) -/

/-- A packet of `n` flits from behind `a` to behind `b`: each side's selected port counts those that leave it and spends an injection that waits, and
the bridge counts what it takes from a side and gives to one (R228, R245). -/
def Dev.packet (d : Dev) (a b : MeshOut) (n : Nat) : Dev :=
  let path := meshPath a b
  let d := d.each ((path.filter ontoBridge).map (·.1)) (fun d s => d.meshCount s Off.MESH_BR_OUT n)
  let d := if a.1 ≠ b.1 ∨ ontoBridge a = true then d.meshCount b.1 Off.MESH_BR_IN n else d
  d.each ((path.filter d.selected).map (·.1)) (fun d s => (d.meshCount s Off.MESH_LINK_FLITS n).spendInjection Dev.contain s)

/-- A request with `out` bytes of data and its response with `back`; what stays in a cluster's crossbar reaches no router (R18, R228). -/
def Dev.exchange (d : Dev) (a b : MeshOut) (out back : Nat) : Dev :=
  if a = b then d else (d.packet a b (flitsOf out)).packet b a (flitsOf back)

/-- A packet of `n` bytes from the units of one cluster to those of another; one that stays in a cluster's crossbar reaches no router (R18, R228). -/
def Dev.clusterPacket (d : Dev) (a b n : Nat) : Dev := if a = b then d else d.packet (clusterOut a) (clusterOut b) (flitsOf n)

/-- The exchange of a core with a device address. -/
def Dev.coreTraffic (d : Dev) (k a out back : Nat) : Dev :=
  let from_ := clusterOut (clusterOf k)
  match (targetOf a).out from_.1 (from_.2.1 % 4) with
  | some b => d.exchange from_ b out back
  | none => d

/-- The exchange of a device unit, which enters side `s` through the bridge attachment in column 0, with that side's HBM. -/
def Dev.baseTraffic (d : Dev) (s out back : Nat) : Dev := d.exchange (s, 12, 5) (s, 0, 5) out back
/-- The exchange of a device unit that writes `n` bytes to the units of a cluster, by column 0 of its side. -/
def Dev.baseToCluster (d : Dev) (cl n : Nat) : Dev := d.exchange (cl / 16, 12, 5) (clusterOut cl) n 0

/-! ### HBM error correction (R234, R235, R243) -/

/-- A counter of an HBM controller. -/
def Dev.hbmCount (d : Dev) (s o n : Nat) : Dev :=
  d.bump ((Block.hbm s).base + o) n { cls := kECC, code := 0x0D, src := srcHbm s }

/-- The pseudo-channel of a side offset, on the channel of half its number (R233). -/
def pseudoChannel (a : Nat) : Nat := a / 2 ^ 8 % 32 ^^^ a / 2 ^ 13 % 32 ^^^ a / 2 ^ 18 % 32

/-- The row that holds a granule, in its stack: its pseudo-channel, and the row there that the remaining bits select (R233). -/
def rowOf (g : Nat) : Nat × Nat := (pseudoChannel (g * 32 % hbmSize), Config.hbmRow (g * 32 % hbmSize / 2 ^ 13))

/-- The bank that holds a row (R233, R239). -/
def hbmBank (r : Nat × Nat) : Nat × Nat := (r.1, Config.rowBank r.2)
/-- Whether two granules lie in one row of one stack. -/
def sameRow (g h : Nat) : Bool := rowOf h == rowOf g && h * 32 / hbmSize == g * 32 / hbmSize

/-- An uncorrectable granule (R234): counted, latched, and its row owed to the repair list (R515). `g` is the device
granule number. -/
def Dev.hbmUeNote (d : Dev) (g : Nat) : Dev :=
  let s := g * 32 / hbmSize
  let o := g * 32 % hbmSize
  let b := (Block.hbm s).base
  let d := d.hbmCount s Off.HBM_UE 1
  let d := (d.setReg (b + Off.HBM_LAST_UE_LO) (lo32 o)).setReg (b + Off.HBM_LAST_UE_HI) (wd (o / 2 ^ 32 + 2 ^ 31))
  { d with repairPend := if d.repairPend.any (sameRow g) then d.repairPend else d.repairPend ++ [g] }

/-- The granule numbers that `n` bytes from `a` touch. -/
def granules (a n : Nat) : List Nat := (blocks 32 a n).map (· / 32)

/-- A unit comes to the controller of the stack that holds `a`: a controller in RET is asked to wake, and the unit's effect is as if it had waited for it
(R497, R498; log entry 62). -/
def Dev.hbmUse (d : Dev) (a : Nat) : Dev := if a < 2 * hbmSize then d.useDomain (shHbm (a / hbmSize)) else d

/-- The checks of a read, granule by granule in ascending order (R234): correctable ones are counted, uncorrectable ones
counted and latched. -/
def Dev.hbmCheck (d : Dev) (a n : Nat) : Dev :=
  (d.hbmUse a).each (granules a n) (fun d g =>
    if d.hbmUe.contains g then d.hbmUeNote g
    else if d.hbmCe.contains g then d.hbmCount (g * 32 / hbmSize) Off.HBM_CE 1
    else d)

/-- The first uncorrectable granule of a read, by its address (R234). -/
def Dev.hbmBad (d : Dev) (a n : Nat) : Option Nat := ((granules a n).find? (fun g => d.hbmUe.contains g)).map (· * 32)

/-- The ECC record of a failed HBM access (R519); the syndrome is a free value. -/
def Dev.hbmRecord (d : Dev) (code src issuer job addr : Nat) : Dev :=
  let (x, d) := d.free
  d.emit { cls := kECC, code := code, src := src, obj := addr, issuer := issuer, detail := 4 + job * 2 ^ 8 + x.toNat * 2 ^ 32 }

/-- Write the bytes of one granule (R234, R235). Entries of the stream table change through their commands alone (R279). A part of a granule is a
read-modify-write; over an uncorrectable error its bytes are dropped and the writer is recorded. `core` is the issuing core of a DMA write. -/
def Dev.hbmGran (src : Nat) (core : Option Nat) (d : Dev) (p : Nat × List Byte) : Dev :=
  let g := p.1 / 32
  let s := p.1 / hbmSize
  let whole := p.2.length == 32
  let d := if whole then d else d.hbmCount s Off.HBM_RMW 1
  if d.inTable p.1 p.2.length then d
  else if !whole && d.hbmUe.contains g then
    let d := d.hbmUeNote g
    match core with
    | some k => (d.hbmRecord 0x05 src k (d.jobNum k) (g * 32)).failCoreJob k
    | none => d.hbmRecord 0x05 src 0xFFFF 0 (g * 32)
  else
    let d := if !whole && d.hbmCe.contains g then d.hbmCount s Off.HBM_CE 1 else d
    let d := { d with hbm := d.hbm.write p.1 p.2, hbmUe := d.hbmUe.filter (· != g), hbmCe := d.hbmCe.filter (· != g) }
    let e := (Block.hbm s).base + Off.HBM_EXP
    match d.fld e Fl.HBM_EXP_ECC_INJ with
    | 1 => { d.setFld e Fl.HBM_EXP_ECC_INJ 0 with hbmCe := g :: d.hbmCe }
    | 2 => { d.setFld e Fl.HBM_EXP_ECC_INJ 0 with hbmUe := g :: d.hbmUe }
    | _ => d

/-- Write bytes to HBM, granule by granule. -/
def Dev.hbmWrite (d : Dev) (src : Nat) (core : Option Nat) (a : Nat) (bs : List Byte) : Dev :=
  (cut 32 bs.length a bs).foldl (Dev.hbmGran src core) (d.hbmUse a)

/-- A write by a device unit that enters the side through the bridge attachment in column 0; a contained side's HBM answers no unit (R228, R242). -/
def Dev.hbmUnitWrite (d : Dev) (src a : Nat) (bs : List Byte) : Dev :=
  if d.contained (a / hbmSize) then d
  else
    let d := d.baseTraffic (a / hbmSize) bs.length 0
    if d.contained (a / hbmSize) then d else d.hbmWrite src none a bs

/-- Write `n` zero bytes to HBM, whole granules clearing their errors (R240, R517). -/
def Dev.hbmZero (d : Dev) (a n : Nat) : Dev :=
  let out (x : Nat) : Bool := !(decide (a ≤ x) && decide (x < a + n))
  let clean (g : Nat) : Bool := !(decide (a ≤ g * 32) && decide (g * 32 + 32 ≤ a + n))
  { d with hbm := d.hbm.filter (fun x => out x.1), hbmUe := d.hbmUe.filter clean, hbmCe := d.hbmCe.filter clean }

/-- A read of HBM by a unit of a cluster or of the side controller: its bytes, or none where a granule fails or the side is contained, with the counts
(R242, R514). -/
def Dev.hbmSideRead (d : Dev) (a n : Nat) : Option (List Byte) × Dev :=
  if d.contained (a / hbmSize) then (none, d) else ((if (d.hbmBad a n).isSome then none else some (d.hbmBytes a n)), d.hbmCheck a n)

/-- A read of HBM by a device unit that enters the side through the bridge attachment in column 0 (R228, R514). -/
def Dev.hbmUnitRead (d : Dev) (a n : Nat) : Option (List Byte) × Dev :=
  if d.contained (a / hbmSize) then (none, d) else (d.baseTraffic (a / hbmSize) 0 n).hbmSideRead a n

/-! ### Host memory through translation windows (R226, R438, R443) -/

/-- The field of configuration space that sizes BAR2, and the one that enables 10-bit tags (R438, R440; log entry 61). -/
def pciBar : Nat := 2
/-- The enable of 10-bit requester tags. -/
def pciTags : Nat := 4
/-- A field of a function's configuration space. -/
def Dev.pciField (d : Dev) (f o : Nat) : Nat := Tab.get 0 d.pci (16 * f + o)
/-- Write a field of a function's configuration space. -/
def Dev.setPci (d : Dev) (f o v : Nat) : Dev := { d with pci := Tab.set 0 d.pci (16 * f + o) v }

/-- Whether window `w` of client `c` covers `n` bytes from `a` for a read or a write (R443). -/
def Dev.twCovers (d : Dev) (c w a n : Nat) (wr : Bool) : Bool :=
  let b := (Block.ring c).base
  let cfg := b + Off.TW_CFG w
  let dev := d.reg64 (b + Off.TW_DEV_LO w) (b + Off.TW_DEV_HI w)
  d.fld cfg Fl.TW_CFG_EN == 1 && d.fld cfg (if wr then Fl.TW_CFG_WR else Fl.TW_CFG_RD) == 1
    && decide (dev ≤ a) && decide (a + n ≤ dev + 4096 * d.fld cfg Fl.TW_CFG_SIZE)

/-- The host address of a device address of a client, if a window covers the bytes and Bus Master Enable is 1 (R443). -/
def Dev.hostAddr (d : Dev) (c a n : Nat) (wr : Bool) : Option Nat :=
  if d.bmeOff.contains (c + 1) then none
  else ((List.range 16).find? (fun w => d.twCovers c w a n wr)).map (fun w =>
    let b := (Block.ring c).base
    d.reg64 (b + Off.TW_HOST_LO w) (b + Off.TW_HOST_HI w) + (a - d.reg64 (b + Off.TW_DEV_LO w) (b + Off.TW_DEV_HI w)))

/-- The pieces of `n` bytes from `a`, cut at every 256 B-aligned boundary (R191). -/
def ranges256 (a n : Nat) : List (Nat × Nat) :=
  (blocks 256 a n).map (fun b => (max a b, min (a + n) (b + 256) - max a b))

/-- Count a failed host read unit (R444). -/
def Dev.hostErr (d : Dev) : Dev :=
  let o := Block.hif.base + Off.HIF_HOST_ERR
  if (d.reg o).toNat < 2 ^ 32 - 1 then d.setReg o (d.reg o + 1) else d

/-! ### What a DMA transfer may reach (R181, R202, R242) -/

/-- The client of a core's job. -/
def Dev.clientOf (d : Dev) (k : Nat) : Nat :=
  match (d.core k).jobOf with
  | some j => (d.job j).client
  | none => 0

/-- The DMA code of an access of core `k` to `n` bytes from `a`, with the window `cw` of a remote write; none when allowed. -/
def Dev.dmaReach (d : Dev) (k : Nat) (wr : Bool) (cw a n : Nat) : Option Nat :=
  match targetOf a with
  | .hbm s _ =>
    if a + n > 2 * hbmSize ∨ d.inTable a n = true then some 0x02
    else if d.contained s = true ∨ d.contained ((a + n - 1) / hbmSize) = true then some 0x06 else none
  | .sram c l =>
    if !inMem l n then some 0x02
    else if c = k then none
    else if !d.sameJob k c then some (if wr then 0x04 else 0x02)
    else if d.contained (sideOf c) then some 0x06
    else if !wr then none
    else
      let t := d.core c
      let base := t.fld (Off.CW_BASE cw) Fl.CW_BASE_BASE
      if t.fld (Off.CW_CFG cw) Fl.CW_CFG_EN = 1 ∧ base ≤ l ∧ l + n ≤ base + 256 * t.fld (Off.CW_CFG cw) Fl.CW_CFG_SIZE then none
      else some 0x04
  | .creg c o => if c = k ∧ (wr = true ∨ o + n ≤ 0x8000) ∧ o + n ≤ 0x10000 then none else some 0x02
  | .host =>
    if a + n ≤ 0x1000000000000 ∧ ((ranges256 a n).all (fun p => (d.hostAddr (d.clientOf k) p.1 p.2 wr).isSome)) = true then none else some 0x02
  | _ => some 0x02

/-! ### The HBM controller's own work (R232, R234, R238, R243) -/

/-- HBM_CE_WRITEBACK: a corrected granule is written back when its pseudo-channel is idle (R234). -/
def execHbmCeWriteback (a : Nat) (s : State) : Out :=
  onDev (fun d => { d with hbmCe := d.hbmCe.filter (· != a / 32) }) s

/-- PATROL_SCRUB_UNIT: the next 256 B unit of a side is read; a correctable error is written back, an uncorrectable one is
recorded with the side offset, and no job fails (R238). -/
def Dev.scrubUnit (d : Dev) (s : Nat) : Dev :=
  let b := (Block.hbm s).base
  let u := d.fld (b + Off.HBM_SCRUB_POS) Fl.HBM_SCRUB_POS_UNIT
  let a := s * hbmSize + u * 256
  let d := d.each (granules a 256) (fun d g =>
    if d.hbmUe.contains g then
      let d := d.hbmUeNote g
      let (x, d) := d.free
      d.emit { cls := kECC, code := 0x06, src := srcHbm s, obj := g * 32 % hbmSize + 2 ^ 47, detail := 4 + x.toNat * 2 ^ 32 }
    else if d.hbmCe.contains g then { d.hbmCount s Off.HBM_CE 1 with hbmCe := d.hbmCe.filter (· != g) }
    else d)
  if u + 1 < 2 ^ 26 then d.setReg (b + Off.HBM_SCRUB_POS) (wd (u + 1))
  else (d.setReg (b + Off.HBM_SCRUB_POS) 0).hbmCount s Off.HBM_SCRUB_SWEEPS 1

/-- PATROL_SCRUB_UNIT while the side's scrub is enabled and the side is not contained. -/
def execPatrolScrubUnit (side : Fin 2) (s : State) : Out :=
  onDev (fun d =>
    if d.fld ((Block.hbm side.val).base + Off.HBM_SCRUB_CFG) Fl.HBM_SCRUB_CFG_EN = 1 ∧ d.contained side.val = false then d.scrubUnit side.val
    else d) s

/-- REFRESH: the stack reports its temperature, and the interval is halved above 85 °C unless TCR_DIS (R232, R243). `temp` is the
stack's report, `od` the corrections its on-die ECC reports; `ue` tells that the controller met an uncorrectable error of its own, which contains
the side with cause 4 (R21). -/
def execRefresh (side : Fin 2) (temp : BitVec 8) (od : Fin 256) (ue : Bool) (s : State) : Out :=
  onDev (fun d =>
    let b := (Block.hbm side.val).base
    let t := b + Off.HBM_TEMP
    let peak := BitVec.ofNat 8 (d.fld t Fl.HBM_TEMP_PEAK)
    let d := d.setFld t Fl.HBM_TEMP_NOW temp.toNat
    let d := if peak.toInt < temp.toInt then d.setFld t Fl.HBM_TEMP_PEAK temp.toNat else d
    let hot := decide (85 < temp.toInt) && d.fld (b + Off.HBM_EXP) Fl.HBM_EXP_TCR_DIS == 0
    let d := (d.setFld (b + Off.HBM_STATUS) Fl.HBM_STATUS_TCR_ACTIVE (b2n hot)).hbmCount side.val Off.HBM_ODECC od.val
    if ue then d.containNoted side.val 4 else d) s

/-- RFM: a refresh management command is issued and counted (R232). -/
def execRfm (side : Fin 2) (s : State) : Out := onDev (fun d => d.hbmCount side.val Off.HBM_RFM 1) s

/-- CA_PARITY_ALARM: the first alarm of a command reissues it; a second contains the side with cause 7 and a record (R21, R232). -/
def execCaParityAlarm (side : Fin 2) (again : Bool) (s : State) : Out :=
  onDev (fun d => if again then d.containNoted side.val 7 else d) s

/-! ### Mesh and bridge (R231, R245) -/

/-- MESH_FLIT_ERROR: a flit out of a port of a router fails its check: a correctable error is counted, an uncorrectable one contains the side (R231).
A router has the ports that its place in the mesh gives it (R227). -/
def execMeshFlitError (side : Fin 2) (router : Fin 16) (port : Fin 6) (ue : Bool) (s : State) : Out :=
  onDev (fun d =>
    if meshPort router.val port.val = false then d
    else if ue then (d.meshRecord side.val router.val port.val).contain side.val 2
    else d.meshCount side.val Off.MESH_CE 1) s

/-- BRIDGE_FLIT_ERROR: a flit that a router of row 3 sends over the bridge is resent once and counted; when the resent flit fails too, the sending side
is contained with cause 6 (R227, R231, R245). -/
def execBridgeFlitError (side : Fin 2) (router : Fin 16) (again : Bool) (s : State) : Out :=
  onDev (fun d =>
    if router.val < 12 then d
    else
      let d := d.meshCount side.val Off.MESH_BR_REPLAY 1
      if again then (d.meshRecord side.val router.val 5).contain side.val 6 else d) s

end Sys2Proof.Machine
end

