-- ==== Sys2Proof/Machine/Matrix.lean ====
section
/-! DEFINITION. The matrix unit: issue of MM, MMZ and MMEW, acceptance, the product with its saturation, completion, and the ramp of its activity level (R79–R110). -/

namespace Sys2Proof.Machine

/-! ### Geometry of a command (R80, R85, R88) -/

/-- Weight tile bytes T. -/
def tileBytes (fmt : Nat) : Nat := if fmt = 2 then 8 else if fmt = 4 then 32 else 16
/-- Activation panel line bytes L. -/
def lineBytes (fmt : Nat) : Nat := if fmt ≥ 3 then 128 else 64
/-- Array cycles per weight tile R. -/
def tileCycles (fmt : Nat) : Nat := if fmt = 3 then 2 else if fmt = 4 then 4 else 1
/-- K elements per slice. -/
def sliceDepth (fmt : Nat) : Nat := if fmt = 1 then 8 else 4
/-- K-slices S (R88). -/
def MCmd.slices (m : MCmd) : Nat := if m.fmt = 1 then (m.kb + 1) / 2 else m.kb
/-- Weight tiles of a command, in the order of R83; an MMEW takes one group of W for each (R93). -/
def MCmd.tiles (m : MCmd) : Nat := if m.op = .mmew then m.nb else m.slices * m.nb
/-- Panel lines of a command. -/
def MCmd.lines (m : MCmd) : Nat := if m.op = .mmew then m.nb else m.slices
/-- The panel line that tile `t` meets (R83, R93). -/
def MCmd.lineOf (m : MCmd) (t : Nat) : Nat := if m.op = .mmew then t else t / m.nb
/-- Array cycles of one tile (R80, R93). -/
def MCmd.cycles (m : MCmd) : Nat := if m.op = .mmew then 1 else tileCycles m.fmt

/-- The weight bytes a command reads (R87). -/
def MCmd.weightLen (m : MCmd) : Nat := if m.op = .mmew then 4 * m.nb else tileBytes m.fmt * m.slices * m.nb
/-- The activation bytes a command reads (R87). -/
def MCmd.actLen (m : MCmd) : Nat := if m.op = .mmew then 64 * m.nb else lineBytes m.fmt * m.slices

/-- The first byte of a range outside `[lo, hi)`, if any (R87). -/
def firstOutside (lo hi a n : Nat) : Option Nat :=
  if a < lo ∨ hi ≤ a then some a else if a + n > hi then some hi else none

/-- The issue checks, first failing one (R57, R87). -/
def MCmd.check (m : MCmd) (kField : Nat) : Option (Nat × Nat) :=
  if m.fmt ≥ 5 ∨ m.sc > 255 ∨ m.sc + m.nb > 256 * banksOf m.rows ∨ (m.op = .mmew ∧ (m.fmt ≠ 0 ∨ kField ≠ 0)) then
    some (cILLEGAL, 0)
  else match firstOutside 0 0x40000 m.sa m.weightLen with
    | some a => some (cADDR, a)
    | none => match firstOutside 0x400000 0x420000 m.sb m.actLen with
      | some a => some (cADDR, a)
      | none =>
        if m.sa % (if m.op = .mmew then 4 else tileBytes m.fmt) ≠ 0 then some (cMISAL, m.sa)
        else if m.sb % 64 ≠ 0 then some (cMISAL, m.sb) else none

/-- The issue of a matrix command into its queue of 8 (R54–R57, R87). -/
def xMatrix (op : MOp) (sa sb sc fmt m1 n41 k41 : Nat) (c : Core) : SlotRes :=
  if c.mq.length ≥ 8 then .wait 2 0
  else
    let m : MCmd := ⟨op, fmt, m1 + 1, n41 + 1, k41 + 1, (c.s sa).toNat, (c.s sb).toNat, (c.s sc).toNat⟩
    match m.check k41 with
    | some (f, a) => .fault f a
    | none => .ok (fun cur => { cur with mq := cur.mq ++ [m] }) none

/-- A matrix X slot. -/
def slotMat (op : MOp) (sa sb sc : Fin 32) (fmt : Fin 8) (m1 : Fin 16) (n41 k41 : Fin 1024) : SlotOp where
  reads := [rS sa.val, rS sb.val, rS sc.val]
  run := fun _ => xMatrix op sa.val sb.val sc.val fmt.val m1.val n41.val k41.val

/-- MM (R57, R91). -/
def opMm (sa sb sc : Fin 32) (fmt : Fin 8) (m1 : Fin 16) (n41 k41 : Fin 1024) : SlotOp := slotMat .mm sa sb sc fmt m1 n41 k41
/-- MMZ (R57, R91). -/
def opMmz (sa sb sc : Fin 32) (fmt : Fin 8) (m1 : Fin 16) (n41 k41 : Fin 1024) : SlotOp := slotMat .mmz sa sb sc fmt m1 n41 k41
/-- MMEW (R57, R93). -/
def opMmew (sa sb sc : Fin 32) (fmt : Fin 8) (m1 : Fin 16) (n41 k41 : Fin 1024) : SlotOp := slotMat .mmew sa sb sc fmt m1 n41 k41

/-! ### Operands (R81, R82, R93, R98) -/

/-- The bytes of tile `t` of a command: address and length (R82, R93). -/
def MCmd.tileAt (x : MCmd) (t : Nat) : Nat × Nat := if x.op = .mmew then (x.sa + 4 * t, 4) else (x.sa + tileBytes x.fmt * t, tileBytes x.fmt)
/-- The bytes of panel line `s`: address and length (R81, R93). -/
def MCmd.lineAt (x : MCmd) (s : Nat) : Nat × Nat := if x.op = .mmew then (x.sb + 64 * s, 64) else (x.sb + lineBytes x.fmt * s, lineBytes x.fmt)

/-- A read of the feeders or of the panel reader: the banks' bytes as they stood before the cycle, and the granule of an uncorrectable error (R98, R103,
R176, R178). -/
def Core.muRead (c : Core) (r : Nat × Nat) : MuRead := ⟨c.before.bankN r.1 r.2, c.before.ueIn r.1 r.2⟩

/-- Byte `i` of what was read. -/
def MuRead.byte (r : MuRead) (i : Nat) : Byte := r.bytes.getD i 0

/-- Two bytes as a signed number. -/
def MuRead.half (r : MuRead) (i : Nat) : Int := sgn 16 (leNat [r.byte i, r.byte (i + 1)])

/-- The low or high signed nibble of a byte. -/
def nib (b : Byte) (hi : Bool) : Int := sgn 4 (if hi then b.toNat / 16 else b.toNat)

/-- The activation of stream row `m`, K element `j` of slice `s`, whose panel line is `l` (R81); FMT 1 elements past an odd K/4 are zero (R88). -/
def actOf (x : MCmd) (l : MuRead) (s m j : Nat) : Int :=
  if x.fmt = 1 then
    if x.kb % 2 = 1 ∧ s + 1 = x.slices ∧ j ≥ 4 then 0
    else nib (l.byte (16 * (m / 4) + 4 * (m % 4) + j / 2)) (j % 2 = 1)
  else if x.fmt ≥ 3 then l.half (32 * (m / 4) + 8 * (m % 4) + 2 * j)
  else (l.byte (16 * (m / 4) + 4 * (m % 4) + j)).toInt

/-- The weight of K-row `j`, column `cc` of the tile `w` (R82). -/
def weightOf (x : MCmd) (w : MuRead) (j cc : Nat) : Int :=
  if x.fmt = 1 ∨ x.fmt = 2 then nib (w.byte (2 * j + cc / 2)) (cc % 2 = 1)
  else if x.fmt = 4 then w.half (8 * j + 2 * cc)
  else (w.byte (4 * j + cc)).toInt

/-- The exact sum one slice adds to column `cc` of accumulator row `m` (R89, R93). -/
def sliceSum (x : MCmd) (w l : MuRead) (s m cc : Nat) : Int :=
  if x.op = .mmew then (l.byte (16 * (m / 4) + 4 * (m % 4) + cc)).toInt * (w.byte cc).toInt
  else ((List.range (sliceDepth x.fmt)).map (fun j => actOf x l s m j * weightOf x w j cc)).foldl (· + ·) 0

/-! ### The accumulators (R84–R86, R89–R92) -/

/-- The local address of accumulator row `m`, N-block `n` (R85, R86). -/
def accAddr (x : MCmd) (n m : Nat) : Nat :=
  let t := x.sc + n
  0x800000 + (m / 4 + 4 / banksOf x.rows * (t / 256)) * 0x4000 + 64 * (t % 256) + 16 * (m % 4)

/-- The sum added to an accumulator, clamped to ±(2^31 − 1) (R89). -/
def accAdd (old sum : Int) : Int := clampI (-(2 ^ 31 - 1)) (2 ^ 31 - 1) (old + sum)

/-- The accumulator granules that tile `t` reads, one per unmasked row; the first slice of an MMZ, which starts from zero, reads none (R84, R91;
DESIGN CHOICE, log entry 61). -/
def accReads (x : MCmd) (t : Nat) : List (Nat × Nat) :=
  if x.op = .mmz ∧ t < x.nb then [] else (List.range x.rows).map (fun m => (accAddr x (t % x.nb) m, 16))

/-- One accumulator row of tile `t`: the four new words, and how many were clamped; the old words are those of `old` (R90, R91). -/
def accRow (x : MCmd) (old : Core) (w l : MuRead) (t m : Nat) : List (Nat × Byte) × Nat :=
  let a := accAddr x (t % x.nb) m
  let zero := x.op = .mmz ∧ t < x.nb
  let one (cc : Nat) : Int × Int :=
    let o : Int := if zero then 0 else (old.bankWord (a + 4 * cc)).toInt
    let sum := sliceSum x w l (t / x.nb) m cc
    (accAdd o sum, o + sum)
  let vs := [one 0, one 1, one 2, one 3]
  (withAddr a (vs.flatMap (fun v => natLE 4 (wi v.1).toNat)), (vs.filter (fun v => v.1 != v.2)).length)

/-- An array's accumulate writes: bytes that the core also writes in this cycle keep the core's data, and the meeting is a conflict (R129, R179). -/
def Core.arrayWrite (c : Core) (rows : List (List (Nat × Byte))) : Core :=
  let c' := rows.foldl (fun c w => c.granWrite 0 w) { c with wrote := [] }
  let arr := c'.wrote.map (fun (x : Nat × Byte) => x.1)
  let both := arr.filter c.wroteAt
  let c' := { c' with
    wrote := c.wrote
    arrWrote := arr
    mem := both.foldl (fun (m : Mem) a => m.setByte a (c.mem.byte a)) c'.mem }
  if both.isEmpty then c' else c'.conflict

/-- One tile `t` of a command: an uncorrectable read of the tile, of its panel line or of an accumulator ends the command with no accumulation for it,
else every unmasked accumulator is updated (R84, R89, R103). A failing accumulate read withholds the accumulation of all four arrays in that
array cycle, since R103 speaks of the failing tile, which they share (DESIGN CHOICE, log entry 55). -/
def tileCycle (x : MCmd) (t : Nat) (w l : MuRead) (c : Core) : Core × Option Nat :=
  match (w.bad.or l.bad).or ((accReads x t).findSome? (fun p => c.before.ueIn p.1 p.2)) with
  | some g => (c, some g)
  | none =>
    let rows := (List.range x.rows).map (fun m => accRow x c.before w l t m)
    let c := c.noteBefore (accReads x t)
    (((c.arrayWrite (rows.map (·.1))).bumpIf Off.MU_SAT ((rows.map (·.2)).foldl (· + ·) 0)), none)

/-! ### The command in progress (R96–R98, R101, R103) -/

/-- The command and tile that the feeders fetch next: behind the tiles already fetched, up to 8 ahead, the next accepted command's after the current
one's (R96, R101). -/
def Core.nextTile (c : Core) : Option (MCmd × Nat) :=
  if c.muFed.length ≥ 8 then none
  else match c.mu with
    | [] => none
    | x :: rest =>
      let p := c.muTile + c.muFed.length
      if p < x.tiles then some (x, p)
      else match rest with
        | y :: _ => if p - x.tiles < y.tiles then some (y, p - x.tiles) else none
        | [] => none

/-- The command and panel line that the panel reader reads next: that of the current slice, or the one after it (R98, R100). -/
def Core.nextLine (c : Core) : Option (MCmd × Nat) :=
  if c.muLines.length ≥ 2 then none
  else match c.mu with
    | [] => none
    | x :: rest =>
      let p := x.lineOf c.muTile + c.muLines.length
      if p < x.lines then some (x, p)
      else match rest with
        | y :: _ => if p - x.lines < y.lines then some (y, p - x.lines) else none
        | [] => none

/-- The most tiles that the feeders read in one cycle at a format: 32 B of them, from distinct banks (R101). -/
def feedLimit (fmt : Nat) : Nat := if fmt = 2 then 4 else if fmt = 4 then 1 else 2

/-- Whether two tiles lie in different rows of one bank; tiles of 8 B that share a row are read with it (R101; DESIGN CHOICE, log entry 61). -/
def bankClash (a b : Nat) : Bool := decide (a / 16 % 16 = b / 16 % 16 ∧ a / 256 ≠ b / 256)

/-- The feeders read the next tiles of one cycle, at most `n`, after those at `done` (R101). -/
def Core.feed : Nat → List Nat → Core → Core
  | 0, _, c => c
  | n + 1, done, c =>
    match c.nextTile with
    | none => c
    | some (x, t) =>
      let r := x.tileAt t
      if done.length ≥ feedLimit x.fmt ∨ done.any (bankClash r.1) = true then c
      else
        let w := c.muRead r
        let c := if w.bad.isNone then c.noteBefore [r] else c
        Core.feed n (r.1 :: done) { c with muFed := c.muFed ++ [w], muFill := false }

/-- The panel reader reads the next line (R98). -/
def Core.panel (c : Core) : Core :=
  match c.nextLine with
  | some (x, s) => { c with muLines := c.muLines ++ [c.muRead (x.lineAt s)], muAge := 0 }
  | none => c

/-- Whether the last panel line read is that of a slice that has had no array cycle. -/
def Core.lineAhead (c : Core) : Bool :=
  decide (c.muLines.length ≥ 2) || (match c.mu with
    | x :: _ => decide (c.muLines.length = 1 ∧ c.muSub = 0) && (c.muTile == 0 || x.op == .mmew || c.muTile % x.nb == 0)
    | [] => false)

/-- The panel reader at the end of a cycle: a line that its slice may need next is read, since it never keeps the arrays waiting, and one that has been held
for four cycles without its slice's beginning is read again, since a command reads its line in the four cycles before; `early` reads the line after it
(R98, R100). -/
def Core.panels (c : Core) (early : Bool) : Core :=
  let c := { c with muAge := c.muAge + 1 }
  let c := if c.lineAhead && decide (4 ≤ c.muAge) then { c with muLines := c.muLines.dropLast }.panel else c
  if c.muLines.isEmpty || early then c.panel else c

/-- The command in progress leaves the arrays; what was read ahead for it goes, what was read for the next stays. -/
def Core.endHead (c : Core) : Core :=
  match c.mu with
  | [] => c
  | x :: rest => { c with
      mu := rest, muTile := 0, muSub := 0
      muFed := c.muFed.drop (x.tiles - c.muTile), muLines := c.muLines.drop (x.lines - x.lineOf c.muTile) }

/-- The last array cycle of the next tile, whose bytes have been read; the granule of an error that abandons the command, which then counts in
MU_DONE at once (R89, R97, R103). The read of a slice's panel line is counted with its first tile. -/
def Core.muNext (c : Core) : Core × Option Nat :=
  match c.mu, c.muFed, c.muLines with
  | x :: _, w :: fed, l :: lines =>
    let first := c.muTile == 0 || x.lineOf c.muTile != x.lineOf (c.muTile - 1)
    let c := if first && l.bad.isNone then c.noteBefore [x.lineAt (x.lineOf c.muTile)] else c
    match tileCycle x c.muTile w l c with
    | (c, some g) => (c.endHead.bump Off.MU_DONE 1, some g)
    | (c, none) =>
      let t := c.muTile + 1
      ({ c with muTile := t, muSub := 0, muFed := fed, muLines := if x.lineOf t = x.lineOf c.muTile then l :: lines else lines }, none)
  | _, _, _ => (c, none)

/-- Whether the command in progress has had its last array cycle. -/
def Core.headOver (c : Core) : Bool :=
  match c.mu with
  | x :: _ => decide (x.tiles ≤ c.muTile)
  | [] => false

/-- Whether a core's queued commands may start: not while it is in reset, suspended or stopped by force (R314). -/
def Core.enginesRun (c : Core) : Bool := c.state != .reset && !c.queuesHeld

/-- Whether the unit takes another command: none in progress, or one whose last weight tile has been read and no second behind it (R96). -/
def Core.muTakes (c : Core) : Bool :=
  match c.mu with
  | [] => true
  | [x] => decide (x.tiles ≤ c.muTile + c.muFed.length)
  | _ => false

/-- The unit accepts the next queued command (R96). -/
def execMatrixCommandAccept (k : Fin 512) (s : State) : Out :=
  onDev (fun d => d.onCore k.val (fun c =>
    match c.mq with
    | [] => c
    | m :: rest =>
      if !c.muTakes || !c.enginesRun then c
      else { c with mq := rest, mu := c.mu ++ [m], muFill := c.muFill || c.mu.isEmpty })) s

/-- The stop of a core whose matrix command met an uncorrectable error. A core that is not RUNNING any more has its record already, and no second
one is written (R72, R103; DESIGN CHOICE, log entry 55). -/
def Dev.muStop (d : Dev) (k : Nat) (bad : Option Nat) : Dev :=
  match bad with
  | some g => if (d.core k).state = .running then d.coreStop k cECC 3 g 0 0 else d
  | none => d

/-! ### The ramp (R105–R107) -/

/-- Whether an array cycle may take place in cycle `pos` of a step (R105). -/
def mayRun (level pos : Nat) : Bool :=
  if level ≥ 4 then true else if level = 3 then pos % 4 != 3 else if level = 2 then pos % 2 == 0 else level == 1 && pos % 4 == 0

/-- The ceiling of filler at an idle cycle's number (R106). -/
def fillerCeiling (n : Nat) : Nat :=
  if n ≤ 40 then 4 else if n ≤ 48 then 3 else if n ≤ 56 then 2 else if n ≤ 64 then 1 else 0

/-- Whether the next tile is present; its panel line always is (R100, R101). -/
def Core.muReady (c : Core) : Bool := !c.mu.isEmpty && !c.muFed.isEmpty

/-- The end of a cycle of the step; at the end of a step the level rises one quarter, up to `top` (R106). -/
def Core.stepOn (c : Core) (top : Nat) : Core :=
  if c.muStep + 1 < 8 then { c with muStep := c.muStep + 1 }
  else { c with muStep := 0, muLevel := if c.rampDis then c.muLevel else if c.muLevel < top then c.muLevel + 1 else c.muLevel }

/-- A cycle with a tile ready: work resumes with a new step at the current level or 25 %, and the array cycle takes place or is withheld (R101, R105–R107).
The array cycle of a tile that then fails counts in MU_ARRAY_CYC (R103, R109; DESIGN CHOICE, log entry 61). -/
def Core.workCycle (c : Core) : Core × Option Nat :=
  let c := if c.muIdle = 0 then c else { c with muStep := 0, muIdle := 0, muLevel := max 1 c.muLevel }
  let c := if c.rampDis then { c with muLevel := 4 } else c
  if !mayRun c.muLevel c.muStep then ((c.bump Off.MU_RAMP_LOST 1).stepOn 4, none)
  else
    let c := c.bump Off.MU_ARRAY_CYC 1
    let r := match c.mu with
      | x :: _ => if c.muSub + 1 < x.cycles then ({ c with muSub := c.muSub + 1 }, none) else c.muNext
      | [] => (c, none)
    let c := if r.1.headOver then { r.1.endHead with muFin := r.1.muFin ++ r.1.mu.take 1 } else r.1
    (c.stepOn 4, r.2)

/-- An idle cycle: a feed stall if a command is in progress at full level, and the level falls to the ceiling of its number; filler runs below it
(R101, R106). A unit that has never worked counts as idle for long, so that no filler runs before its first work, and the cycles until the first
tile of a command accepted by an idle unit are its fill, not stalls (R95; DESIGN CHOICE, log entry 55). -/
def Core.idleCycle (c : Core) : Core :=
  let c := if !c.mu.isEmpty && !c.muFill && c.level == 4 then c.bump Off.MU_STALL_FEED 1 else c
  let n := c.muIdle + 1
  let top := fillerCeiling n
  { c with
    muIdle := min 64 n
    muLevel := if c.rampDis then c.level else min top c.muLevel }.stepOn top

/-- One side-clock cycle of the unit: its array cycle or idle cycle on what was read before, then the reads of the feeders and the panel reader, which see the
banks as they stood before the cycle (R98, R178). -/
def Core.muCycle (c : Core) (y : MuCyc) : Core × Option Nat :=
  let c := if y.meet then { c with arrWrote := [] } else c.newCycle
  let c := if c.muLines.isEmpty then c.panel else c
  let r := if c.muReady then c.workCycle else (c.idleCycle, none)
  ((Core.feed y.fetch.val [] r.1).panels y.panel, r.2)

/-- Cycles of the unit, at most `n`, until the command in progress is over or abandoned: `denied` of them without a read of the feeders, then each with as
many as they take (R101, R102). -/
def Core.muRun : Nat → Nat → Core → Core × Option Nat
  | 0, _, c => (c, none)
  | n + 1, denied, c =>
    match c.muCycle ⟨if denied = 0 then 4 else 0, false, false⟩ with
    | (c', some g) => (c', some g)
    | (c', none) => if c'.muFin.isEmpty then Core.muRun n (denied - 1) c' else (c', none)

/-- A command's last result becomes readable: MU_DONE increments (R97). A command that the unit's cycles have not brought to its last array cycle
first does the rest of its cycles here, through the ramp (log entry 12), `denied` of them with the feeders' reads denied. An uncorrectable error abandons it
there, and the core stops with ECC_STOP (R103). -/
def execMatrixCommandDone (k : Fin 512) (denied : Nat) (s : State) : Out :=
  onDev (fun d =>
    let c := d.core k.val
    match c.muFin, c.mu with
    | _ :: fin, _ => d.putCore k.val ({ c with muFin := fin }.bump Off.MU_DONE 1)
    | [], [] => d
    | [], m :: _ =>
      let r := Core.muRun (denied + 8 + 4 * (m.tiles - c.muTile) * m.cycles) denied c
      let c := r.1
      let c := if r.2.isNone && !c.muFin.isEmpty then { c with muFin := c.muFin.drop 1 }.bump Off.MU_DONE 1 else c
      (d.putCore k.val c).muStop k.val r.2) s

/-- RAMP_STEP_END: the unit's side-clock cycles up to the end of its 8-cycle step; a list that ends before the step's end leaves the step open, so
that other commands may fall between the cycles (R79, R98, R101, R105–R107; log entry 12). -/
def execRampStepEnd (k : Fin 512) (cycs : List MuCyc) (s : State) : Out :=
  onDev (fun d =>
    let r := cycs.foldl (fun (a : Core × Option Nat) y => let q := a.1.muCycle y; (q.1, a.2.or q.2)) (d.core k.val, none)
    (d.putCore k.val r.1).muStop k.val r.2) s

end Sys2Proof.Machine
end

