-- ==== Sys2Proof/Machine/Vector.lean ====
section
/-! DEFINITION. The V-slot operations: lane arithmetic, masks, permutes, reductions, lookup tables, requantisation, loads and stores, summaries (R49, R111–R136). -/

namespace Sys2Proof.Machine

/-- The register a second source reads, as the interlock numbers it. -/
def srcRegs : VSrc → List Nat
  | .vec r => [rV r.val]
  | .scal r => [rS r.val]

/-- A V slot that writes a vector register with latency `l`: the governing mask, the registers it reads, and its computation. -/
def slotVec (l : Nat) (m vd : Nat) (reads : List Nat) (f : Core → SlotRes) : SlotOp where
  reads := rM m :: reads
  dest := some (rV vd)
  lat := fun _ => l
  run := fun _ => f

/-- A V slot that writes a mask register (R115: latency 2). -/
def slotMsk (g : VM) (md : Fin 8) (reads : List Nat) (f : Core → SlotRes) : SlotOp where
  reads := rM g.m.val :: reads
  dest := some (rM md.val)
  lat := fun _ => 2
  run := fun _ => f

/-- A V slot that writes no register: a store, or VLUTST. -/
def slotOut (m : Fin 8) (reads : List Nat) (f : Core → SlotRes) : SlotOp where
  reads := rM m.val :: reads
  run := fun _ => f

/-- The latency of a load: 4, and one more for each further row of one bank (R126). -/
def loadLat (c : Core) (m w : Nat) (addr : Nat → Int) : Nat :=
  4 + bankExtra ((c.enabled m).map (fun l => ((addr l).toNat, elemBytes w)))

/-- A lane-wise operation of two sources with latency `n`. -/
def slotMap2 (n : Nat) (g : VM) (vd va : Fin 32) (vb : VSrc) (f : Word → Word → Word) : SlotOp :=
  slotVec n g.m.val vd.val (rV va.val :: srcRegs vb) (vMap g vd.val (fun c l => f (c.v va.val l) (srcLane c vb l)))

/-- A lane-wise saturating operation of two sources. -/
def slotSat2 (g : VM) (vd va : Fin 32) (vb : VSrc) (f : Int → Int → Int) : SlotOp :=
  slotVec 2 g.m.val vd.val (rV va.val :: srcRegs vb) (vSat g vd.val (fun c l => f (c.v va.val l).toInt (srcLane c vb l).toInt))

/-- A lane-wise signed compare. -/
def slotCmp (g : VM) (md : Fin 8) (va : Fin 32) (vb : VSrc) (f : Int → Int → Bool) : SlotOp :=
  slotMsk g md (rV va.val :: srcRegs vb) (vCmp g md.val (fun c l => f (c.v va.val l).toInt (srcLane c vb l).toInt))

/-- A lane-wise operation of one source. -/
def slotMap1 (g : VM) (vd va : Fin 32) (f : Word → Word) : SlotOp :=
  slotVec 2 g.m.val vd.val [rV va.val] (vMap g vd.val (fun c l => f (c.v va.val l)))

/-- A mask operation. -/
def slotMask (g : VM) (md : Fin 8) (reads : List (Fin 8)) (f : Core → Nat → Bool) : SlotOp :=
  slotMsk g md (reads.map (fun r => rM r.val)) (vCmp g md.val f)

/-- VNOP (R50). -/
def opVnop : SlotOp := { run := fun _ _ => .ok id none }
/-- VADD (R115). -/
def opVadd (g : VM) (vd va : Fin 32) (vb : VSrc) : SlotOp := slotMap2 2 g vd va vb (fun x y => x + y)
/-- VSUB (R115). -/
def opVsub (g : VM) (vd va : Fin 32) (vb : VSrc) : SlotOp := slotMap2 2 g vd va vb (fun x y => x - y)
/-- VMUL (R115). -/
def opVmul (g : VM) (vd va : Fin 32) (vb : VSrc) : SlotOp := slotMap2 4 g vd va vb (fun x y => x * y)
/-- VMULH (R115). -/
def opVmulh (g : VM) (vd va : Fin 32) (vb : VSrc) : SlotOp := slotMap2 4 g vd va vb (mulHigh)
/-- VMIN (R115). -/
def opVmin (g : VM) (vd va : Fin 32) (vb : VSrc) : SlotOp := slotMap2 2 g vd va vb (sMinW)
/-- VMAX (R115). -/
def opVmax (g : VM) (vd va : Fin 32) (vb : VSrc) : SlotOp := slotMap2 2 g vd va vb (sMaxW)
/-- VAND (R115). -/
def opVand (g : VM) (vd va : Fin 32) (vb : VSrc) : SlotOp := slotMap2 2 g vd va vb (fun x y => x &&& y)
/-- VOR (R115). -/
def opVor (g : VM) (vd va : Fin 32) (vb : VSrc) : SlotOp := slotMap2 2 g vd va vb (fun x y => x ||| y)
/-- VXOR (R115). -/
def opVxor (g : VM) (vd va : Fin 32) (vb : VSrc) : SlotOp := slotMap2 2 g vd va vb (fun x y => x ^^^ y)
/-- VSLL (R115). -/
def opVsll (g : VM) (vd va : Fin 32) (vb : VSrc) : SlotOp := slotMap2 2 g vd va vb (fun x y => x <<< sh5 y)
/-- VSRL (R115). -/
def opVsrl (g : VM) (vd va : Fin 32) (vb : VSrc) : SlotOp := slotMap2 2 g vd va vb (fun x y => x >>> sh5 y)
/-- VSRA (R115). -/
def opVsra (g : VM) (vd va : Fin 32) (vb : VSrc) : SlotOp := slotMap2 2 g vd va vb (fun x y => x.sshiftRight (sh5 y))
/-- VSRAR (R115). -/
def opVsrar (g : VM) (vd va : Fin 32) (vb : VSrc) : SlotOp := slotMap2 2 g vd va vb (fun x y => rnShift x (sh5 y))
/-- VADDS (R116). -/
def opVadds (g : VM) (vd va : Fin 32) (vb : VSrc) : SlotOp := slotSat2 g vd va vb (fun x y => x + y)
/-- VSUBS (R116). -/
def opVsubs (g : VM) (vd va : Fin 32) (vb : VSrc) : SlotOp := slotSat2 g vd va vb (fun x y => x - y)
/-- VMAC (R115): c + low 32 bits of a × b. -/
def opVmac (g : VM) (vd va : Fin 32) (vb : VSrc) (vc : Fin 32) : SlotOp :=
  slotVec 4 g.m.val vd.val (rV va.val :: rV vc.val :: srcRegs vb) (vMap g vd.val (fun c l => c.v vc.val l + c.v va.val l * srcLane c vb l))
/-- VMACS (R116): the exact product is added before the clamp. -/
def opVmacs (g : VM) (vd va : Fin 32) (vb : VSrc) (vc : Fin 32) : SlotOp :=
  slotVec 4 g.m.val vd.val (rV va.val :: rV vc.val :: srcRegs vb) (vSat g vd.val (fun c l => (c.v vc.val l).toInt + (c.v va.val l).toInt * (srcLane c vb l).toInt))
/-- VCMPEQ (R115). -/
def opVcmpeq (g : VM) (md : Fin 8) (va : Fin 32) (vb : VSrc) : SlotOp := slotCmp g md va vb (fun x y => decide (x = y))
/-- VCMPNE (R115). -/
def opVcmpne (g : VM) (md : Fin 8) (va : Fin 32) (vb : VSrc) : SlotOp := slotCmp g md va vb (fun x y => decide (x ≠ y))
/-- VCMPLT (R115). -/
def opVcmplt (g : VM) (md : Fin 8) (va : Fin 32) (vb : VSrc) : SlotOp := slotCmp g md va vb (fun x y => decide (x < y))
/-- VCMPLE (R115). -/
def opVcmple (g : VM) (md : Fin 8) (va : Fin 32) (vb : VSrc) : SlotOp := slotCmp g md va vb (fun x y => decide (x ≤ y))
/-- VCMPGT (R115). -/
def opVcmpgt (g : VM) (md : Fin 8) (va : Fin 32) (vb : VSrc) : SlotOp := slotCmp g md va vb (fun x y => decide (y < x))
/-- VCMPGE (R115). -/
def opVcmpge (g : VM) (md : Fin 8) (va : Fin 32) (vb : VSrc) : SlotOp := slotCmp g md va vb (fun x y => decide (y ≤ x))
/-- VCLAMP (R118). -/
def opVclamp (g : VM) (vd va : Fin 32) (vb : VSrc) (vc : Fin 32) : SlotOp :=
  slotVec 2 g.m.val vd.val (rV va.val :: rV vc.val :: srcRegs vb) (vClamp g vd.val va.val vb vc.val)
/-- VSEL (R115, R118). -/
def opVsel (g : VM) (vd va : Fin 32) (vb : VSrc) (mc : Fin 8) : SlotOp :=
  slotVec 2 g.m.val vd.val (rV va.val :: rM mc.val :: srcRegs vb) (vMap g vd.val (fun c l => if (c.m mc.val).getLsbD l then c.v va.val l else srcLane c vb l))
/-- VMOV (R115). -/
def opVmov (g : VM) (vd va : Fin 32) : SlotOp := slotMap1 g vd va (fun x => x)
/-- VNEG (R116). -/
def opVneg (g : VM) (vd va : Fin 32) : SlotOp :=
  slotVec 2 g.m.val vd.val [rV va.val] (vSat g vd.val (fun c l => -(c.v va.val l).toInt))
/-- VABS (R116). -/
def opVabs (g : VM) (vd va : Fin 32) : SlotOp :=
  slotVec 2 g.m.val vd.val [rV va.val] (vSat g vd.val (fun c l => ((c.v va.val l).toInt.natAbs : Int)))
/-- VNOT (R115). -/
def opVnot (g : VM) (vd va : Fin 32) : SlotOp := slotMap1 g vd va (fun x => ~~~ x)
/-- VSLLI (R117). -/
def opVslli (g : VM) (vd va n : Fin 32) : SlotOp := slotMap1 g vd va (fun x => x <<< n.val)
/-- VSRLI (R117). -/
def opVsrli (g : VM) (vd va n : Fin 32) : SlotOp := slotMap1 g vd va (fun x => x >>> n.val)
/-- VSRAI (R117). -/
def opVsrai (g : VM) (vd va n : Fin 32) : SlotOp := slotMap1 g vd va (fun x => x.sshiftRight n.val)
/-- VSRARI (R117). -/
def opVsrari (g : VM) (vd va n : Fin 32) : SlotOp := slotMap1 g vd va (fun x => rnShift x n.val)
/-- VADDI (R115). -/
def opVaddi (g : VM) (vd va : Fin 32) (imm : BitVec 11) : SlotOp :=
  slotMap1 g vd va (fun x => x + imm.signExtend 32)
/-- VPERM (R119). -/
def opVperm (g : VM) (vd va vb : Fin 32) : SlotOp :=
  slotVec 2 g.m.val vd.val [rV va.val, rV vb.val] (vMap g vd.val (fun c l => permLane c g.m.val va.val vb.val l))
/-- VPERMI (R119). -/
def opVpermi (g : VM) (vd va : Fin 32) (pat : Fin 8) (n : Fin 16) : SlotOp :=
  slotVec 2 g.m.val vd.val [rV va.val] (vPermI g vd.val va.val pat.val n.val)
/-- VIOTA (R115). -/
def opViota (g : VM) (vd : Fin 32) : SlotOp := slotVec 2 g.m.val vd.val [] (vMap g vd.val (fun _ l => wd l))
/-- VMTOV (R115). -/
def opVmtov (g : VM) (vd : Fin 32) (ma : Fin 8) : SlotOp :=
  slotVec 2 g.m.val vd.val [rM ma.val] (vMap g vd.val (fun c l => boolW ((c.m ma.val).getLsbD l)))
/-- MAND (R115). -/
def opMand (g : VM) (md ma mb : Fin 8) : SlotOp :=
  slotMask g md [ma, mb] (fun c l => (fun x y : Bool => x && y) ((c.m ma.val).getLsbD l) ((c.m mb.val).getLsbD l))
/-- MOR (R115). -/
def opMor (g : VM) (md ma mb : Fin 8) : SlotOp :=
  slotMask g md [ma, mb] (fun c l => (fun x y : Bool => x || y) ((c.m ma.val).getLsbD l) ((c.m mb.val).getLsbD l))
/-- MXOR (R115). -/
def opMxor (g : VM) (md ma mb : Fin 8) : SlotOp :=
  slotMask g md [ma, mb] (fun c l => (fun x y : Bool => x != y) ((c.m ma.val).getLsbD l) ((c.m mb.val).getLsbD l))
/-- MANDN (R115). -/
def opMandn (g : VM) (md ma mb : Fin 8) : SlotOp :=
  slotMask g md [ma, mb] (fun c l => (fun x y : Bool => x && !y) ((c.m ma.val).getLsbD l) ((c.m mb.val).getLsbD l))
/-- MNOT (R115). -/
def opMnot (g : VM) (md ma : Fin 8) : SlotOp :=
  slotMask g md [ma] (fun c l => !(c.m ma.val).getLsbD l)
/-- MSET (R115). -/
def opMset (g : VM) (md : Fin 8) (ss : Fin 32) : SlotOp :=
  slotMsk g md [rS ss.val] (vCmp g md.val (fun c l => (c.s ss.val).getLsbD l))
/-- MLOW: n above 16 is ILLEGAL_OP (R115). -/
def opMlow (g : VM) (md : Fin 8) (n : Fin 32) : SlotOp :=
  slotMsk g md [] (fun c => if n.val > 16 then .fault cILLEGAL 0 else vCmp g md.val (fun _ l => decide (l < n.val)) c)
/-- VRROW (R120). -/
def opVrrow (m : Fin 8) (vd va : Fin 32) (fn : Fin 4) : SlotOp :=
  slotVec 4 m.val vd.val [rV va.val] (vReduce m.val vd.val va.val fn.val rowGrp)
/-- VRCOL (R120). -/
def opVrcol (m : Fin 8) (vd va : Fin 32) (fn : Fin 4) : SlotOp :=
  slotVec 4 m.val vd.val [rV va.val] (vReduce m.val vd.val va.val fn.val colGrp)
/-- VRALL (R120). -/
def opVrall (m : Fin 8) (vd va : Fin 32) (fn : Fin 4) : SlotOp :=
  slotVec 4 m.val vd.val [rV va.val] (vReduce m.val vd.val va.val fn.val allGrp)
/-- VLUT (R132). -/
def opVlut (g : VM) (vd va : Fin 32) (t : Fin 4) (h : Fin 32) : SlotOp :=
  slotVec 6 g.m.val vd.val [rV va.val] (vLut g vd.val va.val t.val h.val)
/-- VLUTST (R133). -/
def opVlutst (m : Fin 8) (va : Fin 32) (t : Fin 4) (j : Fin 16) : SlotOp :=
  slotOut m [rV va.val] (vLutSt m.val va.val t.val j.val)
/-- REQ (R134–R136). -/
def opReq (g : VM) (vd va vb vc ss : Fin 32) (f : ReqF) : SlotOp :=
  slotVec 4 g.m.val vd.val (rV va.val :: (if f.src.val = 1 then [rS ss.val] else if f.src.val = 2 then [rV vb.val] else [])) (vReq g vd.val va.val vb.val vc.val ss.val f)
/-- VLD (R121–R123, R125, R126). -/
def opVld (g : VM) (vd ss vb vc : Fin 32) (w : Fin 4) (zx : Bool) : SlotOp where
  reads := [rM g.m.val, rS ss.val, rS vb.val, rS vc.val]
  dest := some (rV vd.val)
  lat := fun c => loadLat c g.m.val w.val (strided c ss.val vb.val vc.val w.val)
  run := fun _ => vLd g vd.val ss.val vb.val vc.val w.val zx
/-- VST (R121, R123, R125). -/
def opVst (m : Fin 8) (va ss vb vc : Fin 32) (w : Fin 4) : SlotOp :=
  slotOut m [rV va.val, rS ss.val, rS vb.val, rS vc.val] (vSt m.val va.val ss.val vb.val vc.val w.val)
/-- VLDX (R124). -/
def opVldx (g : VM) (vd ss vb : Fin 32) (w : Fin 4) (zx : Bool) : SlotOp where
  reads := [rM g.m.val, rS ss.val, rV vb.val]
  dest := some (rV vd.val)
  lat := fun c => loadLat c g.m.val w.val (indexed c ss.val vb.val w.val)
  run := fun _ => vLdx g vd.val ss.val vb.val w.val zx
/-- VSTX (R124). -/
def opVstx (m : Fin 8) (va ss vb : Fin 32) (w : Fin 4) : SlotOp :=
  slotOut m [rV va.val, rS ss.val, rV vb.val] (vStx m.val va.val ss.val vb.val w.val)
/-- ACC.LD (R128). -/
def opAccLd (g : VM) (vd ss : Fin 32) (imm : Fin 1024) : SlotOp :=
  slotVec 3 g.m.val vd.val [rS ss.val] (vAccLd g vd.val ss.val imm.val)

/-! ### Summaries (R49) -/

/-- A V slot that writes an s register (R41: latency 3). -/
def slotSum (rd : Fin 32) (m : Fin 8) (src : Nat) (f : Core → SlotRes) : SlotOp where
  reads := [rM m.val, src]
  dest := some (rS rd.val)
  lat := fun _ => 3
  run := fun _ => f

/-- VSUM.ANY. -/
def opVsumAny (m : Fin 8) (rd : Fin 32) (ma : Fin 8) : SlotOp :=
  slotSum rd m (rM ma.val) (vSumMask (fun _ on => b2n (!on.isEmpty)) m.val rd.val ma.val)
/-- VSUM.ALL: 1 when no lane is enabled. -/
def opVsumAll (m : Fin 8) (rd : Fin 32) (ma : Fin 8) : SlotOp :=
  slotSum rd m (rM ma.val) (vSumMask (fun en on => b2n (en.length == on.length)) m.val rd.val ma.val)
/-- VSUM.COUNT. -/
def opVsumCount (m : Fin 8) (rd : Fin 32) (ma : Fin 8) : SlotOp :=
  slotSum rd m (rM ma.val) (vSumMask (fun _ on => on.length) m.val rd.val ma.val)
/-- VSUM.FIRST: 16 when none. -/
def opVsumFirst (m : Fin 8) (rd : Fin 32) (ma : Fin 8) : SlotOp :=
  slotSum rd m (rM ma.val) (vSumMask (fun _ on => on.headD 16) m.val rd.val ma.val)
/-- VSUM.MAX: 0x8000_0000 when none. -/
def opVsumMax (m : Fin 8) (rd va : Fin 32) : SlotOp :=
  slotSum rd m (rV va.val) (vSumVec (fun xs => xs.foldl max (-(2 ^ 31))) m.val rd.val va.val)
/-- VSUM.MIN: 0x7FFF_FFFF when none. -/
def opVsumMin (m : Fin 8) (rd va : Fin 32) : SlotOp :=
  slotSum rd m (rV va.val) (vSumVec (fun xs => xs.foldl min (2 ^ 31 - 1)) m.val rd.val va.val)
/-- VSUM.LANE0: whatever the mask. -/
def opVsumLane0 (m : Fin 8) (rd va : Fin 32) : SlotOp :=
  slotSum rd m (rV va.val) (fun c => .ok (fun cur => cur.setS rd.val (c.v va.val 0)) none)

end Sys2Proof.Machine
end

