-- ==== Sys2Proof/Machine/XSlot.lean ====
section
/-! DEFINITION. The X-slot operations of the DMA, Latch and send queues (R51, R54–R59, R62, R63, R251, R252, R259). -/

namespace Sys2Proof.Machine

/-- XNOP (R57). -/
def opXnop : SlotOp := { run := fun _ _ => .ok id none }

/-- The check of an AM source copied at issue (R57, R58, R173). -/
def amFault (c : Core) (a n align : Nat) : Option (Nat × Nat) :=
  if memOf a ≠ 2 ∨ memOf (a + n - 1) ≠ 2 then some (cADDR, a)
  else if a % align ≠ 0 then some (cMISAL, a)
  else (c.ueIn a n).map (fun g => (cECC, g))

/-- DMA: the 64 B descriptor is copied into the DMA queue of 16 at issue (R57, R58). -/
def opDma (b : Bun) (sa : Fin 32) : SlotOp where
  reads := [rS sa.val]
  run := fun _ c =>
    if c.dq.length ≥ 16 then .wait 2 0
    else
      let a := (c.s sa.val).toNat
      match amFault c a 64 64 with
      | some (f, x) => .fault f x
      | none => .ok (fun cur => { cur.noteRead a 64 with dq := cur.dq ++ [.desc (c.seeN a 64) (coreAddr b.core.val a)] }) none

/-- OVL: whole segments from a device address; a range past segment 15 is ILLEGAL_OP (R51, R58). -/
def opOvl (sa sb : Fin 32) (seg cnt1 : Fin 16) : SlotOp where
  reads := [rS sa.val, rS sb.val]
  run := fun _ c =>
    if c.dq.length ≥ 16 then .wait 2 0
    else if seg.val + cnt1.val > 15 then .fault cILLEGAL 0
    else .ok (fun cur => { cur with
      dq := cur.dq ++ [.ovl ((c.s sa.val).toNat + (c.s sb.val).toNat % 2 ^ 16 * 2 ^ 32) seg.val (cnt1.val + 1)] }) none

/-- The HOLD field of XIMM (R252). -/
def holdOf (x : BitVec 27) : Nat := x.toNat % 4

/-- The word of the oldest operation of a full Latch queue: the other party of a wait for it (R75). -/
def Core.latchParty (c : Core) : Nat :=
  match c.lq with
  | r :: _ => latchAddr (r.sa.toNat / 4096 % 32) (r.sa.toNat % 4096)
  | [] => 0

/-- The target of the oldest entry of a full send queue (R70, R75). -/
def Core.sendParty (c : Core) : Nat :=
  match c.sq with
  | m :: _ => m.target
  | [] => 0

/-- A Latch operation into the Latch queue of 8; a HOLD acquire at 255 or a release at 0 raises HOLD_COUNT (R55, R59). -/
def xLatch (op : LOp) (sa sb sc : Fin 32) (ximm : BitVec 27) (c : Core) : SlotRes :=
  if c.lq.length ≥ 8 then .wait 2 c.latchParty
  else
    let n := c.fld Off.HOLD_STATUS Fl.HOLD_STATUS_SEM_HOLD
    if (op = .sub ∨ op = .cas) ∧ holdOf ximm = 1 ∧ n = 255 then .fault cHOLDCNT 0
    else if op = .add ∧ holdOf ximm = 2 ∧ n = 0 then .fault cHOLDCNT 0
    else .ok (fun cur => { cur with
      lq := cur.lq ++ [⟨op, c.s sa.val, c.s sb.val, c.s sc.val, sc.val, ximm⟩] }) none

/-- A Latch X slot; SC is a second operand of LCAS and LWATCH and the reply register of all but LWATCH. The reply register stays pending by the
queue and the reply, so the slot itself has no latency. -/
def slotLatch (op : LOp) (sa sb sc : Fin 32) (ximm : BitVec 27) : SlotOp where
  reads := if op = .cas ∨ op = .watch then [rS sa.val, rS sb.val, rS sc.val] else [rS sa.val, rS sb.val]
  dest := if op = .watch then none else some (rS sc.val)
  run := fun _ => xLatch op sa sb sc ximm

/-- LADD (R251). -/
def opLadd (sa sb sc : Fin 32) (ximm : BitVec 27) : SlotOp := slotLatch .add sa sb sc ximm
/-- LSUB (R251). -/
def opLsub (sa sb sc : Fin 32) (ximm : BitVec 27) : SlotOp := slotLatch .sub sa sb sc ximm
/-- LSET (R251). -/
def opLset (sa sb sc : Fin 32) (ximm : BitVec 27) : SlotOp := slotLatch .set sa sb sc ximm
/-- LCAS (R251). -/
def opLcas (sa sb sc : Fin 32) (ximm : BitVec 27) : SlotOp := slotLatch .cas sa sb sc ximm
/-- LSEQADV (R251). -/
def opLseqadv (sa sb sc : Fin 32) (ximm : BitVec 27) : SlotOp := slotLatch .seqAdv sa sb sc ximm
/-- LREAD (R251). -/
def opLread (sa sb sc : Fin 32) (ximm : BitVec 27) : SlotOp := slotLatch .read sa sb sc ximm
/-- LWATCH (R259). -/
def opLwatch (sa sb sc : Fin 32) (ximm : BitVec 27) : SlotOp := slotLatch .watch sa sb sc ximm

/-- SEND: a 16 B message from AM to a core of the job; any other target is SEND_TARGET (R57, R58, R62). -/
def opSend (b : Bun) (sa sb : Fin 32) : SlotOp where
  reads := [rS sa.val, rS sb.val]
  run := fun d c =>
    if c.sq.length ≥ 4 then .wait 2 c.sendParty
    else
      let t := (c.s sa.val).toNat
      let a := (c.s sb.val).toNat
      if !d.sameJob b.core.val t then .fault cSENDTGT 0
      else match amFault c a 16 16 with
        | some (f, x) => .fault f x
        | none => .ok (fun cur => { cur.noteRead a 16 with sq := cur.sq ++ [⟨0, b.core.val, t, c.seeN a 16⟩] }) none

end Sys2Proof.Machine
end

