-- ==== Sys2Proof/Machine/Issue.lean ====
section
/-! DEFINITION. The issue of a bundle by its slot commands: what each slot command does (its operation in Scalar, Vector, Matrix and XSlot), and how a
command joins the bundle at its core's PC (R37–R42, R47, R50–R54, R57, R74). -/

namespace Sys2Proof.Machine

/-- The operation of a slot command; none for a command that is no slot. -/
def opOf : Instr → Option SlotOp
  | .snop _ => some opSnop
  | .add _ rd ra rb => some (opAdd rd ra rb)
  | .sub _ rd ra rb => some (opSub rd ra rb)
  | .and _ rd ra rb => some (opAnd rd ra rb)
  | .or _ rd ra rb => some (opOr rd ra rb)
  | .xor _ rd ra rb => some (opXor rd ra rb)
  | .sll _ rd ra rb => some (opSll rd ra rb)
  | .srl _ rd ra rb => some (opSrl rd ra rb)
  | .sra _ rd ra rb => some (opSra rd ra rb)
  | .slt _ rd ra rb => some (opSlt rd ra rb)
  | .sltu _ rd ra rb => some (opSltu rd ra rb)
  | .min _ rd ra rb => some (opMin rd ra rb)
  | .max _ rd ra rb => some (opMax rd ra rb)
  | .mul _ rd ra rb => some (opMul rd ra rb)
  | .mulh _ rd ra rb => some (opMulh rd ra rb)
  | .addi _ rd ra imm => some (opAddi rd ra imm)
  | .andi _ rd ra imm => some (opAndi rd ra imm)
  | .ori _ rd ra imm => some (opOri rd ra imm)
  | .xori _ rd ra imm => some (opXori rd ra imm)
  | .slli _ rd ra imm => some (opSlli rd ra imm)
  | .srli _ rd ra imm => some (opSrli rd ra imm)
  | .srai _ rd ra imm => some (opSrai rd ra imm)
  | .slti _ rd ra imm => some (opSlti rd ra imm)
  | .lui _ rd imm => some (opLui rd imm)
  | .ldw _ rd ra imm => some (opLdw rd ra imm)
  | .stw b rd ra imm => some (opStw b rd ra imm)
  | .rdcr b rd imm => some (opRdcr b rd imm)
  | .rdcyc b rd => some (opRdcyc b rd)
  | .rdcych _ rd => some (opRdcych rd)
  | .beq _ ra rb off => some (opBeq ra rb off)
  | .bne _ ra rb off => some (opBne ra rb off)
  | .blt _ ra rb off => some (opBlt ra rb off)
  | .bge _ ra rb off => some (opBge ra rb off)
  | .bltu _ ra rb off => some (opBltu ra rb off)
  | .bgeu _ ra rb off => some (opBgeu ra rb off)
  | .jmp _ off => some (opJmp off)
  | .recv _ rd nw => some (opRecv rd nw)
  | .racq _ rd ring dir nw => some (opRacq rd ring dir nw)
  | .rrel _ ring dir => some (opRrel ring dir)
  | .qwait _ mask => some (opQwait mask)
  | .ppt b entry => some (opPpt b entry)
  | .trap _ code => some (opTrap code)
  | .endBatch _ => some opEndBatch
  | .vnop _ => some opVnop
  | .vadd _ g vd va vb => some (opVadd g vd va vb)
  | .vsub _ g vd va vb => some (opVsub g vd va vb)
  | .vadds _ g vd va vb => some (opVadds g vd va vb)
  | .vsubs _ g vd va vb => some (opVsubs g vd va vb)
  | .vmul _ g vd va vb => some (opVmul g vd va vb)
  | .vmulh _ g vd va vb => some (opVmulh g vd va vb)
  | .vmac _ g vd va vb vc => some (opVmac g vd va vb vc)
  | .vmacs _ g vd va vb vc => some (opVmacs g vd va vb vc)
  | .vmin _ g vd va vb => some (opVmin g vd va vb)
  | .vmax _ g vd va vb => some (opVmax g vd va vb)
  | .vand _ g vd va vb => some (opVand g vd va vb)
  | .vor _ g vd va vb => some (opVor g vd va vb)
  | .vxor _ g vd va vb => some (opVxor g vd va vb)
  | .vsll _ g vd va vb => some (opVsll g vd va vb)
  | .vsrl _ g vd va vb => some (opVsrl g vd va vb)
  | .vsra _ g vd va vb => some (opVsra g vd va vb)
  | .vsrar _ g vd va vb => some (opVsrar g vd va vb)
  | .vcmpeq _ g md va vb => some (opVcmpeq g md va vb)
  | .vcmpne _ g md va vb => some (opVcmpne g md va vb)
  | .vcmplt _ g md va vb => some (opVcmplt g md va vb)
  | .vcmple _ g md va vb => some (opVcmple g md va vb)
  | .vcmpgt _ g md va vb => some (opVcmpgt g md va vb)
  | .vcmpge _ g md va vb => some (opVcmpge g md va vb)
  | .vclamp _ g vd va vb vc => some (opVclamp g vd va vb vc)
  | .vsel _ g vd va vb mc => some (opVsel g vd va vb mc)
  | .vmov _ g vd va => some (opVmov g vd va)
  | .vneg _ g vd va => some (opVneg g vd va)
  | .vabs _ g vd va => some (opVabs g vd va)
  | .vnot _ g vd va => some (opVnot g vd va)
  | .vslli _ g vd va n => some (opVslli g vd va n)
  | .vsrli _ g vd va n => some (opVsrli g vd va n)
  | .vsrai _ g vd va n => some (opVsrai g vd va n)
  | .vsrari _ g vd va n => some (opVsrari g vd va n)
  | .vaddi _ g vd va imm => some (opVaddi g vd va imm)
  | .vperm _ g vd va vb => some (opVperm g vd va vb)
  | .vpermi _ g vd va pat n => some (opVpermi g vd va pat n)
  | .viota _ g vd => some (opViota g vd)
  | .vmtov _ g vd ma => some (opVmtov g vd ma)
  | .mand _ g md ma mb => some (opMand g md ma mb)
  | .mor _ g md ma mb => some (opMor g md ma mb)
  | .mxor _ g md ma mb => some (opMxor g md ma mb)
  | .mandn _ g md ma mb => some (opMandn g md ma mb)
  | .mnot _ g md ma => some (opMnot g md ma)
  | .mset _ g md ss => some (opMset g md ss)
  | .mlow _ g md n => some (opMlow g md n)
  | .vrrow _ m vd va fn => some (opVrrow m vd va fn)
  | .vrcol _ m vd va fn => some (opVrcol m vd va fn)
  | .vrall _ m vd va fn => some (opVrall m vd va fn)
  | .vlut _ g vd va t h => some (opVlut g vd va t h)
  | .vlutst _ m va t j => some (opVlutst m va t j)
  | .req _ g vd va vb vc ss f => some (opReq g vd va vb vc ss f)
  | .vld _ g vd ss vb vc w zx => some (opVld g vd ss vb vc w zx)
  | .vst _ m va ss vb vc w => some (opVst m va ss vb vc w)
  | .vldx _ g vd ss vb w zx => some (opVldx g vd ss vb w zx)
  | .vstx _ m va ss vb w => some (opVstx m va ss vb w)
  | .accLd _ g vd ss imm => some (opAccLd g vd ss imm)
  | .vsumAny _ m rd ma => some (opVsumAny m rd ma)
  | .vsumAll _ m rd ma => some (opVsumAll m rd ma)
  | .vsumCount _ m rd ma => some (opVsumCount m rd ma)
  | .vsumFirst _ m rd ma => some (opVsumFirst m rd ma)
  | .vsumMax _ m rd va => some (opVsumMax m rd va)
  | .vsumMin _ m rd va => some (opVsumMin m rd va)
  | .vsumLane0 _ m rd va => some (opVsumLane0 m rd va)
  | .xnop _ => some opXnop
  | .mm _ sa sb sc fmt m1 n41 k41 => some (opMm sa sb sc fmt m1 n41 k41)
  | .mmz _ sa sb sc fmt m1 n41 k41 => some (opMmz sa sb sc fmt m1 n41 k41)
  | .mmew _ sa sb sc fmt m1 n41 k41 => some (opMmew sa sb sc fmt m1 n41 k41)
  | .dma b sa => some (opDma b sa)
  | .ovl _ sa sb seg cnt1 => some (opOvl sa sb seg cnt1)
  | .ladd _ sa sb sc ximm => some (opLadd sa sb sc ximm)
  | .lsub _ sa sb sc ximm => some (opLsub sa sb sc ximm)
  | .lset _ sa sb sc ximm => some (opLset sa sb sc ximm)
  | .lcas _ sa sb sc ximm => some (opLcas sa sb sc ximm)
  | .lseqadv _ sa sb sc ximm => some (opLseqadv sa sb sc ximm)
  | .lread _ sa sb sc ximm => some (opLread sa sb sc ximm)
  | .lwatch _ sa sb sc ximm => some (opLwatch sa sb sc ximm)
  | .send b sa sb => some (opSend b sa sb)
  | _ => none

/-- A slot command with its slot number (1 S, 2 V, 3 X) and its operation. -/
def partOf (i : Instr) : Option (Nat × SlotOp) :=
  match slotCode i, opOf i with
  | some c, some o => some (c.slot, o)
  | _, _ => none

/-- A slot command on the core of its bundle. It acts when the bundle that the core fetches at its PC spells it after the slots given so far, in slot
order; the last slot, or one without `more`, issues the whole bundle, and until then nothing happens (R38; log entry 9). A core that issues no bundle,
and a command that the bundle does not spell, change nothing. -/
def Dev.slotAt (d : Dev) (b : Bun) (i : Instr) : Dev :=
  let k := b.core.val
  if !(d.core k).issues then d
  else
    let c := (d.core k).takeParityInject
    match c.fetch with
    | .bundle w =>
      let given := if spells w 1 (d.stage k ++ [i]) then d.stage k ++ [i] else [i]
      if !spells w 1 given then d
      else if b.more && !emptySlots w ((given.filterMap partOf).foldl (fun n p => max n (p.1 + 1)) 1) 4 then d.setStage k given
      else ((d.setStage k []).setCore k c).runBundle k (given.filterMap partOf)
    | f => ((d.setStage k []).setCore k c).fetchTrouble k f

/-- A slot command. -/
def Dev.slot (d : Dev) (i : Instr) : Dev :=
  match slotCode i with
  | some c => d.slotAt c.bun i
  | none => d

/-! ### The commands -/

/-- SNOP (see `opSnop`). -/
def execSnop (b : Bun) (s : State) : Out := onDev (fun d => d.slot (.snop b)) s
/-- ADD (see `opAdd`). -/
def execAdd (b : Bun) (rd ra rb : Fin 32) (s : State) : Out := onDev (fun d => d.slot (.add b rd ra rb)) s
/-- SUB (see `opSub`). -/
def execSub (b : Bun) (rd ra rb : Fin 32) (s : State) : Out := onDev (fun d => d.slot (.sub b rd ra rb)) s
/-- AND (see `opAnd`). -/
def execAnd (b : Bun) (rd ra rb : Fin 32) (s : State) : Out := onDev (fun d => d.slot (.and b rd ra rb)) s
/-- OR (see `opOr`). -/
def execOr (b : Bun) (rd ra rb : Fin 32) (s : State) : Out := onDev (fun d => d.slot (.or b rd ra rb)) s
/-- XOR (see `opXor`). -/
def execXor (b : Bun) (rd ra rb : Fin 32) (s : State) : Out := onDev (fun d => d.slot (.xor b rd ra rb)) s
/-- SLL (see `opSll`). -/
def execSll (b : Bun) (rd ra rb : Fin 32) (s : State) : Out := onDev (fun d => d.slot (.sll b rd ra rb)) s
/-- SRL (see `opSrl`). -/
def execSrl (b : Bun) (rd ra rb : Fin 32) (s : State) : Out := onDev (fun d => d.slot (.srl b rd ra rb)) s
/-- SRA (see `opSra`). -/
def execSra (b : Bun) (rd ra rb : Fin 32) (s : State) : Out := onDev (fun d => d.slot (.sra b rd ra rb)) s
/-- SLT (see `opSlt`). -/
def execSlt (b : Bun) (rd ra rb : Fin 32) (s : State) : Out := onDev (fun d => d.slot (.slt b rd ra rb)) s
/-- SLTU (see `opSltu`). -/
def execSltu (b : Bun) (rd ra rb : Fin 32) (s : State) : Out := onDev (fun d => d.slot (.sltu b rd ra rb)) s
/-- MIN (see `opMin`). -/
def execMin (b : Bun) (rd ra rb : Fin 32) (s : State) : Out := onDev (fun d => d.slot (.min b rd ra rb)) s
/-- MAX (see `opMax`). -/
def execMax (b : Bun) (rd ra rb : Fin 32) (s : State) : Out := onDev (fun d => d.slot (.max b rd ra rb)) s
/-- MUL (see `opMul`). -/
def execMul (b : Bun) (rd ra rb : Fin 32) (s : State) : Out := onDev (fun d => d.slot (.mul b rd ra rb)) s
/-- MULH (see `opMulh`). -/
def execMulh (b : Bun) (rd ra rb : Fin 32) (s : State) : Out := onDev (fun d => d.slot (.mulh b rd ra rb)) s
/-- ADDI (see `opAddi`). -/
def execAddi (b : Bun) (rd ra : Fin 32) (imm : BitVec 16) (s : State) : Out := onDev (fun d => d.slot (.addi b rd ra imm)) s
/-- ANDI (see `opAndi`). -/
def execAndi (b : Bun) (rd ra : Fin 32) (imm : BitVec 16) (s : State) : Out := onDev (fun d => d.slot (.andi b rd ra imm)) s
/-- ORI (see `opOri`). -/
def execOri (b : Bun) (rd ra : Fin 32) (imm : BitVec 16) (s : State) : Out := onDev (fun d => d.slot (.ori b rd ra imm)) s
/-- XORI (see `opXori`). -/
def execXori (b : Bun) (rd ra : Fin 32) (imm : BitVec 16) (s : State) : Out := onDev (fun d => d.slot (.xori b rd ra imm)) s
/-- SLLI (see `opSlli`). -/
def execSlli (b : Bun) (rd ra : Fin 32) (imm : BitVec 16) (s : State) : Out := onDev (fun d => d.slot (.slli b rd ra imm)) s
/-- SRLI (see `opSrli`). -/
def execSrli (b : Bun) (rd ra : Fin 32) (imm : BitVec 16) (s : State) : Out := onDev (fun d => d.slot (.srli b rd ra imm)) s
/-- SRAI (see `opSrai`). -/
def execSrai (b : Bun) (rd ra : Fin 32) (imm : BitVec 16) (s : State) : Out := onDev (fun d => d.slot (.srai b rd ra imm)) s
/-- SLTI (see `opSlti`). -/
def execSlti (b : Bun) (rd ra : Fin 32) (imm : BitVec 16) (s : State) : Out := onDev (fun d => d.slot (.slti b rd ra imm)) s
/-- LUI (see `opLui`). -/
def execLui (b : Bun) (rd : Fin 32) (imm : BitVec 21) (s : State) : Out := onDev (fun d => d.slot (.lui b rd imm)) s
/-- LDW (see `opLdw`). -/
def execLdw (b : Bun) (rd ra : Fin 32) (imm : BitVec 16) (s : State) : Out := onDev (fun d => d.slot (.ldw b rd ra imm)) s
/-- STW (see `opStw`). -/
def execStw (b : Bun) (rd ra : Fin 32) (imm : BitVec 16) (s : State) : Out := onDev (fun d => d.slot (.stw b rd ra imm)) s
/-- RDCR (see `opRdcr`). -/
def execRdcr (b : Bun) (rd : Fin 32) (imm : BitVec 16) (s : State) : Out := onDev (fun d => d.slot (.rdcr b rd imm)) s
/-- RDCYC (see `opRdcyc`). -/
def execRdcyc (b : Bun) (rd : Fin 32) (s : State) : Out := onDev (fun d => d.slot (.rdcyc b rd)) s
/-- RDCYCH (see `opRdcych`). -/
def execRdcych (b : Bun) (rd : Fin 32) (s : State) : Out := onDev (fun d => d.slot (.rdcych b rd)) s
/-- BEQ (see `opBeq`). -/
def execBeq (b : Bun) (ra rb : Fin 32) (off : BitVec 16) (s : State) : Out := onDev (fun d => d.slot (.beq b ra rb off)) s
/-- BNE (see `opBne`). -/
def execBne (b : Bun) (ra rb : Fin 32) (off : BitVec 16) (s : State) : Out := onDev (fun d => d.slot (.bne b ra rb off)) s
/-- BLT (see `opBlt`). -/
def execBlt (b : Bun) (ra rb : Fin 32) (off : BitVec 16) (s : State) : Out := onDev (fun d => d.slot (.blt b ra rb off)) s
/-- BGE (see `opBge`). -/
def execBge (b : Bun) (ra rb : Fin 32) (off : BitVec 16) (s : State) : Out := onDev (fun d => d.slot (.bge b ra rb off)) s
/-- BLTU (see `opBltu`). -/
def execBltu (b : Bun) (ra rb : Fin 32) (off : BitVec 16) (s : State) : Out := onDev (fun d => d.slot (.bltu b ra rb off)) s
/-- BGEU (see `opBgeu`). -/
def execBgeu (b : Bun) (ra rb : Fin 32) (off : BitVec 16) (s : State) : Out := onDev (fun d => d.slot (.bgeu b ra rb off)) s
/-- JMP (see `opJmp`). -/
def execJmp (b : Bun) (off : BitVec 16) (s : State) : Out := onDev (fun d => d.slot (.jmp b off)) s
/-- RECV (see `opRecv`). -/
def execRecv (b : Bun) (rd : Fin 32) (nw : Bool) (s : State) : Out := onDev (fun d => d.slot (.recv b rd nw)) s
/-- RACQ (see `opRacq`). -/
def execRacq (b : Bun) (rd : Fin 32) (ring : Fin 16) (dir nw : Bool) (s : State) : Out := onDev (fun d => d.slot (.racq b rd ring dir nw)) s
/-- RREL (see `opRrel`). -/
def execRrel (b : Bun) (ring : Fin 16) (dir : Bool) (s : State) : Out := onDev (fun d => d.slot (.rrel b ring dir)) s
/-- QWAIT (see `opQwait`). -/
def execQwait (b : Bun) (mask : BitVec 4) (s : State) : Out := onDev (fun d => d.slot (.qwait b mask)) s
/-- PPT (see `opPpt`). -/
def execPpt (b : Bun) (entry : Fin 1024) (s : State) : Out := onDev (fun d => d.slot (.ppt b entry)) s
/-- TRAP (see `opTrap`). -/
def execTrap (b : Bun) (code : BitVec 16) (s : State) : Out := onDev (fun d => d.slot (.trap b code)) s
/-- END (see `opEndBatch`). -/
def execEndBatch (b : Bun) (s : State) : Out := onDev (fun d => d.slot (.endBatch b)) s
/-- VNOP (see `opVnop`). -/
def execVnop (b : Bun) (s : State) : Out := onDev (fun d => d.slot (.vnop b)) s
/-- VADD (see `opVadd`). -/
def execVadd (b : Bun) (g : VM) (vd va : Fin 32) (vb : VSrc) (s : State) : Out := onDev (fun d => d.slot (.vadd b g vd va vb)) s
/-- VSUB (see `opVsub`). -/
def execVsub (b : Bun) (g : VM) (vd va : Fin 32) (vb : VSrc) (s : State) : Out := onDev (fun d => d.slot (.vsub b g vd va vb)) s
/-- VADDS (see `opVadds`). -/
def execVadds (b : Bun) (g : VM) (vd va : Fin 32) (vb : VSrc) (s : State) : Out := onDev (fun d => d.slot (.vadds b g vd va vb)) s
/-- VSUBS (see `opVsubs`). -/
def execVsubs (b : Bun) (g : VM) (vd va : Fin 32) (vb : VSrc) (s : State) : Out := onDev (fun d => d.slot (.vsubs b g vd va vb)) s
/-- VMUL (see `opVmul`). -/
def execVmul (b : Bun) (g : VM) (vd va : Fin 32) (vb : VSrc) (s : State) : Out := onDev (fun d => d.slot (.vmul b g vd va vb)) s
/-- VMULH (see `opVmulh`). -/
def execVmulh (b : Bun) (g : VM) (vd va : Fin 32) (vb : VSrc) (s : State) : Out := onDev (fun d => d.slot (.vmulh b g vd va vb)) s
/-- VMAC (see `opVmac`). -/
def execVmac (b : Bun) (g : VM) (vd va : Fin 32) (vb : VSrc) (vc : Fin 32) (s : State) : Out := onDev (fun d => d.slot (.vmac b g vd va vb vc)) s
/-- VMACS (see `opVmacs`). -/
def execVmacs (b : Bun) (g : VM) (vd va : Fin 32) (vb : VSrc) (vc : Fin 32) (s : State) : Out := onDev (fun d => d.slot (.vmacs b g vd va vb vc)) s
/-- VMIN (see `opVmin`). -/
def execVmin (b : Bun) (g : VM) (vd va : Fin 32) (vb : VSrc) (s : State) : Out := onDev (fun d => d.slot (.vmin b g vd va vb)) s
/-- VMAX (see `opVmax`). -/
def execVmax (b : Bun) (g : VM) (vd va : Fin 32) (vb : VSrc) (s : State) : Out := onDev (fun d => d.slot (.vmax b g vd va vb)) s
/-- VAND (see `opVand`). -/
def execVand (b : Bun) (g : VM) (vd va : Fin 32) (vb : VSrc) (s : State) : Out := onDev (fun d => d.slot (.vand b g vd va vb)) s
/-- VOR (see `opVor`). -/
def execVor (b : Bun) (g : VM) (vd va : Fin 32) (vb : VSrc) (s : State) : Out := onDev (fun d => d.slot (.vor b g vd va vb)) s
/-- VXOR (see `opVxor`). -/
def execVxor (b : Bun) (g : VM) (vd va : Fin 32) (vb : VSrc) (s : State) : Out := onDev (fun d => d.slot (.vxor b g vd va vb)) s
/-- VSLL (see `opVsll`). -/
def execVsll (b : Bun) (g : VM) (vd va : Fin 32) (vb : VSrc) (s : State) : Out := onDev (fun d => d.slot (.vsll b g vd va vb)) s
/-- VSRL (see `opVsrl`). -/
def execVsrl (b : Bun) (g : VM) (vd va : Fin 32) (vb : VSrc) (s : State) : Out := onDev (fun d => d.slot (.vsrl b g vd va vb)) s
/-- VSRA (see `opVsra`). -/
def execVsra (b : Bun) (g : VM) (vd va : Fin 32) (vb : VSrc) (s : State) : Out := onDev (fun d => d.slot (.vsra b g vd va vb)) s
/-- VSRAR (see `opVsrar`). -/
def execVsrar (b : Bun) (g : VM) (vd va : Fin 32) (vb : VSrc) (s : State) : Out := onDev (fun d => d.slot (.vsrar b g vd va vb)) s
/-- VCMPEQ (see `opVcmpeq`). -/
def execVcmpeq (b : Bun) (g : VM) (md : Fin 8) (va : Fin 32) (vb : VSrc) (s : State) : Out := onDev (fun d => d.slot (.vcmpeq b g md va vb)) s
/-- VCMPNE (see `opVcmpne`). -/
def execVcmpne (b : Bun) (g : VM) (md : Fin 8) (va : Fin 32) (vb : VSrc) (s : State) : Out := onDev (fun d => d.slot (.vcmpne b g md va vb)) s
/-- VCMPLT (see `opVcmplt`). -/
def execVcmplt (b : Bun) (g : VM) (md : Fin 8) (va : Fin 32) (vb : VSrc) (s : State) : Out := onDev (fun d => d.slot (.vcmplt b g md va vb)) s
/-- VCMPLE (see `opVcmple`). -/
def execVcmple (b : Bun) (g : VM) (md : Fin 8) (va : Fin 32) (vb : VSrc) (s : State) : Out := onDev (fun d => d.slot (.vcmple b g md va vb)) s
/-- VCMPGT (see `opVcmpgt`). -/
def execVcmpgt (b : Bun) (g : VM) (md : Fin 8) (va : Fin 32) (vb : VSrc) (s : State) : Out := onDev (fun d => d.slot (.vcmpgt b g md va vb)) s
/-- VCMPGE (see `opVcmpge`). -/
def execVcmpge (b : Bun) (g : VM) (md : Fin 8) (va : Fin 32) (vb : VSrc) (s : State) : Out := onDev (fun d => d.slot (.vcmpge b g md va vb)) s
/-- VCLAMP (see `opVclamp`). -/
def execVclamp (b : Bun) (g : VM) (vd va : Fin 32) (vb : VSrc) (vc : Fin 32) (s : State) : Out := onDev (fun d => d.slot (.vclamp b g vd va vb vc)) s
/-- VSEL (see `opVsel`). -/
def execVsel (b : Bun) (g : VM) (vd va : Fin 32) (vb : VSrc) (mc : Fin 8) (s : State) : Out := onDev (fun d => d.slot (.vsel b g vd va vb mc)) s
/-- VMOV (see `opVmov`). -/
def execVmov (b : Bun) (g : VM) (vd va : Fin 32) (s : State) : Out := onDev (fun d => d.slot (.vmov b g vd va)) s
/-- VNEG (see `opVneg`). -/
def execVneg (b : Bun) (g : VM) (vd va : Fin 32) (s : State) : Out := onDev (fun d => d.slot (.vneg b g vd va)) s
/-- VABS (see `opVabs`). -/
def execVabs (b : Bun) (g : VM) (vd va : Fin 32) (s : State) : Out := onDev (fun d => d.slot (.vabs b g vd va)) s
/-- VNOT (see `opVnot`). -/
def execVnot (b : Bun) (g : VM) (vd va : Fin 32) (s : State) : Out := onDev (fun d => d.slot (.vnot b g vd va)) s
/-- VSLLI (see `opVslli`). -/
def execVslli (b : Bun) (g : VM) (vd va n : Fin 32) (s : State) : Out := onDev (fun d => d.slot (.vslli b g vd va n)) s
/-- VSRLI (see `opVsrli`). -/
def execVsrli (b : Bun) (g : VM) (vd va n : Fin 32) (s : State) : Out := onDev (fun d => d.slot (.vsrli b g vd va n)) s
/-- VSRAI (see `opVsrai`). -/
def execVsrai (b : Bun) (g : VM) (vd va n : Fin 32) (s : State) : Out := onDev (fun d => d.slot (.vsrai b g vd va n)) s
/-- VSRARI (see `opVsrari`). -/
def execVsrari (b : Bun) (g : VM) (vd va n : Fin 32) (s : State) : Out := onDev (fun d => d.slot (.vsrari b g vd va n)) s
/-- VADDI (see `opVaddi`). -/
def execVaddi (b : Bun) (g : VM) (vd va : Fin 32) (imm : BitVec 11) (s : State) : Out := onDev (fun d => d.slot (.vaddi b g vd va imm)) s
/-- VPERM (see `opVperm`). -/
def execVperm (b : Bun) (g : VM) (vd va vb : Fin 32) (s : State) : Out := onDev (fun d => d.slot (.vperm b g vd va vb)) s
/-- VPERMI (see `opVpermi`). -/
def execVpermi (b : Bun) (g : VM) (vd va : Fin 32) (pat : Fin 8) (n : Fin 16) (s : State) : Out := onDev (fun d => d.slot (.vpermi b g vd va pat n)) s
/-- VIOTA (see `opViota`). -/
def execViota (b : Bun) (g : VM) (vd : Fin 32) (s : State) : Out := onDev (fun d => d.slot (.viota b g vd)) s
/-- VMTOV (see `opVmtov`). -/
def execVmtov (b : Bun) (g : VM) (vd : Fin 32) (ma : Fin 8) (s : State) : Out := onDev (fun d => d.slot (.vmtov b g vd ma)) s
/-- MAND (see `opMand`). -/
def execMand (b : Bun) (g : VM) (md ma mb : Fin 8) (s : State) : Out := onDev (fun d => d.slot (.mand b g md ma mb)) s
/-- MOR (see `opMor`). -/
def execMor (b : Bun) (g : VM) (md ma mb : Fin 8) (s : State) : Out := onDev (fun d => d.slot (.mor b g md ma mb)) s
/-- MXOR (see `opMxor`). -/
def execMxor (b : Bun) (g : VM) (md ma mb : Fin 8) (s : State) : Out := onDev (fun d => d.slot (.mxor b g md ma mb)) s
/-- MANDN (see `opMandn`). -/
def execMandn (b : Bun) (g : VM) (md ma mb : Fin 8) (s : State) : Out := onDev (fun d => d.slot (.mandn b g md ma mb)) s
/-- MNOT (see `opMnot`). -/
def execMnot (b : Bun) (g : VM) (md ma : Fin 8) (s : State) : Out := onDev (fun d => d.slot (.mnot b g md ma)) s
/-- MSET (see `opMset`). -/
def execMset (b : Bun) (g : VM) (md : Fin 8) (ss : Fin 32) (s : State) : Out := onDev (fun d => d.slot (.mset b g md ss)) s
/-- MLOW (see `opMlow`). -/
def execMlow (b : Bun) (g : VM) (md : Fin 8) (n : Fin 32) (s : State) : Out := onDev (fun d => d.slot (.mlow b g md n)) s
/-- VRROW (see `opVrrow`). -/
def execVrrow (b : Bun) (m : Fin 8) (vd va : Fin 32) (fn : Fin 4) (s : State) : Out := onDev (fun d => d.slot (.vrrow b m vd va fn)) s
/-- VRCOL (see `opVrcol`). -/
def execVrcol (b : Bun) (m : Fin 8) (vd va : Fin 32) (fn : Fin 4) (s : State) : Out := onDev (fun d => d.slot (.vrcol b m vd va fn)) s
/-- VRALL (see `opVrall`). -/
def execVrall (b : Bun) (m : Fin 8) (vd va : Fin 32) (fn : Fin 4) (s : State) : Out := onDev (fun d => d.slot (.vrall b m vd va fn)) s
/-- VLUT (see `opVlut`). -/
def execVlut (b : Bun) (g : VM) (vd va : Fin 32) (t : Fin 4) (h : Fin 32) (s : State) : Out := onDev (fun d => d.slot (.vlut b g vd va t h)) s
/-- VLUTST (see `opVlutst`). -/
def execVlutst (b : Bun) (m : Fin 8) (va : Fin 32) (t : Fin 4) (j : Fin 16) (s : State) : Out := onDev (fun d => d.slot (.vlutst b m va t j)) s
/-- REQ (see `opReq`). -/
def execReq (b : Bun) (g : VM) (vd va vb vc ss : Fin 32) (f : ReqF) (s : State) : Out := onDev (fun d => d.slot (.req b g vd va vb vc ss f)) s
/-- VLD (see `opVld`). -/
def execVld (b : Bun) (g : VM) (vd ss vb vc : Fin 32) (w : Fin 4) (zx : Bool) (s : State) : Out := onDev (fun d => d.slot (.vld b g vd ss vb vc w zx)) s
/-- VST (see `opVst`). -/
def execVst (b : Bun) (m : Fin 8) (va ss vb vc : Fin 32) (w : Fin 4) (s : State) : Out := onDev (fun d => d.slot (.vst b m va ss vb vc w)) s
/-- VLDX (see `opVldx`). -/
def execVldx (b : Bun) (g : VM) (vd ss vb : Fin 32) (w : Fin 4) (zx : Bool) (s : State) : Out := onDev (fun d => d.slot (.vldx b g vd ss vb w zx)) s
/-- VSTX (see `opVstx`). -/
def execVstx (b : Bun) (m : Fin 8) (va ss vb : Fin 32) (w : Fin 4) (s : State) : Out := onDev (fun d => d.slot (.vstx b m va ss vb w)) s
/-- ACC_LD (see `opAccLd`). -/
def execAccLd (b : Bun) (g : VM) (vd ss : Fin 32) (imm : Fin 1024) (s : State) : Out := onDev (fun d => d.slot (.accLd b g vd ss imm)) s
/-- VSUM_ANY (see `opVsumAny`). -/
def execVsumAny (b : Bun) (m : Fin 8) (rd : Fin 32) (ma : Fin 8) (s : State) : Out := onDev (fun d => d.slot (.vsumAny b m rd ma)) s
/-- VSUM_ALL (see `opVsumAll`). -/
def execVsumAll (b : Bun) (m : Fin 8) (rd : Fin 32) (ma : Fin 8) (s : State) : Out := onDev (fun d => d.slot (.vsumAll b m rd ma)) s
/-- VSUM_COUNT (see `opVsumCount`). -/
def execVsumCount (b : Bun) (m : Fin 8) (rd : Fin 32) (ma : Fin 8) (s : State) : Out := onDev (fun d => d.slot (.vsumCount b m rd ma)) s
/-- VSUM_FIRST (see `opVsumFirst`). -/
def execVsumFirst (b : Bun) (m : Fin 8) (rd : Fin 32) (ma : Fin 8) (s : State) : Out := onDev (fun d => d.slot (.vsumFirst b m rd ma)) s
/-- VSUM_MAX (see `opVsumMax`). -/
def execVsumMax (b : Bun) (m : Fin 8) (rd va : Fin 32) (s : State) : Out := onDev (fun d => d.slot (.vsumMax b m rd va)) s
/-- VSUM_MIN (see `opVsumMin`). -/
def execVsumMin (b : Bun) (m : Fin 8) (rd va : Fin 32) (s : State) : Out := onDev (fun d => d.slot (.vsumMin b m rd va)) s
/-- VSUM_LANE0 (see `opVsumLane0`). -/
def execVsumLane0 (b : Bun) (m : Fin 8) (rd va : Fin 32) (s : State) : Out := onDev (fun d => d.slot (.vsumLane0 b m rd va)) s
/-- XNOP (see `opXnop`). -/
def execXnop (b : Bun) (s : State) : Out := onDev (fun d => d.slot (.xnop b)) s
/-- MM (see `opMm`). -/
def execMm (b : Bun) (sa sb sc : Fin 32) (fmt : Fin 8) (m1 : Fin 16) (n41 k41 : Fin 1024) (s : State) : Out := onDev (fun d => d.slot (.mm b sa sb sc fmt m1 n41 k41)) s
/-- MMZ (see `opMmz`). -/
def execMmz (b : Bun) (sa sb sc : Fin 32) (fmt : Fin 8) (m1 : Fin 16) (n41 k41 : Fin 1024) (s : State) : Out := onDev (fun d => d.slot (.mmz b sa sb sc fmt m1 n41 k41)) s
/-- MMEW (see `opMmew`). -/
def execMmew (b : Bun) (sa sb sc : Fin 32) (fmt : Fin 8) (m1 : Fin 16) (n41 k41 : Fin 1024) (s : State) : Out := onDev (fun d => d.slot (.mmew b sa sb sc fmt m1 n41 k41)) s
/-- DMA (see `opDma`). -/
def execDma (b : Bun) (sa : Fin 32) (s : State) : Out := onDev (fun d => d.slot (.dma b sa)) s
/-- OVL (see `opOvl`). -/
def execOvl (b : Bun) (sa sb : Fin 32) (seg cnt1 : Fin 16) (s : State) : Out := onDev (fun d => d.slot (.ovl b sa sb seg cnt1)) s
/-- LADD (see `opLadd`). -/
def execLadd (b : Bun) (sa sb sc : Fin 32) (ximm : BitVec 27) (s : State) : Out := onDev (fun d => d.slot (.ladd b sa sb sc ximm)) s
/-- LSUB (see `opLsub`). -/
def execLsub (b : Bun) (sa sb sc : Fin 32) (ximm : BitVec 27) (s : State) : Out := onDev (fun d => d.slot (.lsub b sa sb sc ximm)) s
/-- LSET (see `opLset`). -/
def execLset (b : Bun) (sa sb sc : Fin 32) (ximm : BitVec 27) (s : State) : Out := onDev (fun d => d.slot (.lset b sa sb sc ximm)) s
/-- LCAS (see `opLcas`). -/
def execLcas (b : Bun) (sa sb sc : Fin 32) (ximm : BitVec 27) (s : State) : Out := onDev (fun d => d.slot (.lcas b sa sb sc ximm)) s
/-- LSEQADV (see `opLseqadv`). -/
def execLseqadv (b : Bun) (sa sb sc : Fin 32) (ximm : BitVec 27) (s : State) : Out := onDev (fun d => d.slot (.lseqadv b sa sb sc ximm)) s
/-- LREAD (see `opLread`). -/
def execLread (b : Bun) (sa sb sc : Fin 32) (ximm : BitVec 27) (s : State) : Out := onDev (fun d => d.slot (.lread b sa sb sc ximm)) s
/-- LWATCH (see `opLwatch`). -/
def execLwatch (b : Bun) (sa sb sc : Fin 32) (ximm : BitVec 27) (s : State) : Out := onDev (fun d => d.slot (.lwatch b sa sb sc ximm)) s
/-- SEND (see `opSend`). -/
def execSend (b : Bun) (sa sb : Fin 32) (s : State) : Out := onDev (fun d => d.slot (.send b sa sb)) s

end Sys2Proof.Machine
end

