-- ==== Sys2Proof/Machine/CoreLife.lean ====
section
/-! DEFINITION. The life of a core: start, halt, reset, parking, messages, Latch replies, bounded waits, parity refetch, and the reset of a job (R52, R61–R66, R70–R76, R172, R175, R258, R266). -/

namespace Sys2Proof.Machine

/-! ### The end of a job on a core -/

/-- The job leaves the core: queues, mailbox, transfers, grants and holds go with it, and the core is IDLE (R71). -/
def Core.endJob (c : Core) : Core :=
  let c := { c with
    state := .idle, waitSince := none, pptEntry := none, ending := false, stepStop := false
    waitParty := 0, resume := 0
    mq := [], dq := [], lq := [], sq := [], mu := [], muFin := [], muTile := 0, muSub := 0, muFed := [], muLines := [], muFill := false, muAge := 0, replies := [], mbx := [], xfers := [], tagSince := none, fwdTags := 0, fwdQ := [], grants := [], gb := [] }
  let c := (c.setReg Off.CORE_JOB 0).setFld Off.HOLD_STATUS Fl.HOLD_STATUS_SEM_HOLD 0
  (c.setFld Off.CORE_STATUS Fl.CORE_STATUS_WAIT 0).setFld Off.CORE_STATUS Fl.CORE_STATUS_PREEMPT_PEND 0

/-- The credit requests of a set of cores leave every window. -/
def Dev.dropRequests (d : Dev) (p : Nat → Bool) : Dev :=
  { d with cores := d.cores.map (fun e => (e.1, { e.2 with
      cwq := (e.2.cwq.map (fun q => (q.1, q.2.filter (fun r => !p r.sender)))).filter (fun q => !q.2.isEmpty) })) }

/-- The cores that hold job `j`. -/
def Dev.coresHolding (d : Dev) (j : Nat) : List Nat := (coresOf (d.job j).mask).filter (fun k => d.holds j k)

/-- Job `j` leaves every core that holds it. -/
def Dev.freeCores (d : Dev) (j : Nat) : Dev :=
  let ks := d.coresHolding j
  let d := d.dropRequests (fun k => ks.contains k)
  d.each ks (fun d k => (d.abortStage k).setCore k (((d.abortStage k).core k).endJob))

/-- The save images of job `j` are discarded. -/
def Dev.dropImages (d : Dev) (j : Nat) : Dev :=
  { d with images := d.images.filter (fun e => match e.2 with | some x => x.job != j | none => true) }

/-- An adaptation round whose job is reset can no longer complete (R165). -/
def Dev.breakRounds (d : Dev) (j : Nat) : Dev :=
  { d with longs := d.longs.map (fun x => if x.op = 0x20 ∧ leAt x.entry 8 1 = j then { x with broken := true } else x) }

/-- Reset of a job (R266, R305): its images and cores are given up, the Latch units release it with OWNER_RESET, and it is LOADED. A core that a completed
save has left without a job reads SUSPENDED until another takes it (R71; DESIGN CHOICE, log entry 61). -/
def Dev.resetJob (d : Dev) (j : Nat) : Dev :=
  if (d.job j).state = .free then d
  else
    let d := ((d.endPreempted j).dropImages j).breakRounds j
    let d := d.freeCores j
    let d := d.setJob j { d.job j with
      state := .loaded, runs := 2, started := false, wants := none, request := none, savedCores := []
      parkedOut := false, forcedNoted := false }
    d.latchRelease j (some 2)

/-! ### Start, halt, reset (R71, R76) -/

/-- A core enters RUNNING at START_PC; CAUSE is cleared. -/
def Core.enterRunning (c : Core) (pc : Nat) : Core :=
  { c with state := .running, pc := pc, waitSince := none, ending := false, stepStop := false, pptEntry := none }.setReg Off.CORE_CAUSE 0

/-- CORE_CTRL.START: from PARKED at START_PC, after a single step at the next bundle, where a batch that the step ended stays ended; else
START_REFUSED. -/
def Dev.coreStart (d : Dev) (k : Nat) : Dev :=
  let c := d.core k
  if c.state = .parked then d.setCore k (c.enterRunning (c.fld Off.CORE_CTRL Fl.CORE_CTRL_START_PC))
  else if c.state = .stopped ∧ c.stepStop = true then d.setCore k { c.enterRunning c.resume with ending := c.ending }
  else d.coreRecord k 0x10 0 0 0 0

/-- CORE_CTRL.HALT_REQ: a RUNNING core stops with HALTED, which fails its job; otherwise it is ignored (R74). -/
def Dev.coreHalt (d : Dev) (k : Nat) : Dev := if (d.core k).state = .running then d.coreStop k cHALTED 0 0 0 0 else d

/-- A core as its reset leaves it: the scratchpads and the bundle store keep their bytes, with no segment valid. -/
def Dev.resetCore (d : Dev) (k : Nat) : Dev :=
  let d := d.setStage k []
  let c := d.core k
  let d := d.dropRequests (fun n => n == k)
  d.setCore k { Core.atReset with mem := c.mem, ue := c.ue, ce := c.ce, imem := c.imem, cycMark := Tab.get 0 d.sideCyc (sideOf k) }

/-- CORE_CTRL.RESET: the core's job is reset (R266), and the core enters RESET. -/
def Dev.coreResetReq (d : Dev) (k : Nat) : Dev :=
  let d := match (d.core k).jobOf with
    | some j => d.resetJob j
    | none => d
  d.resetCore k

/-- A write of CORE_CTRL: RESET takes precedence over START and HALT_REQ; START_PC takes its value first. -/
def Dev.coreCtrl (d : Dev) (k : Nat) (v : Word) : Dev :=
  if Fl.CORE_CTRL_RESET.on v then d.coreResetReq k
  else
    let d := if Fl.CORE_CTRL_START.on v then d.coreStart k else d
    if Fl.CORE_CTRL_HALT_REQ.on v then d.coreHalt k else d

/-- A commit of MBX_IN0–3 (R66): a message of kind 3, dropped with INJ_DROP when the 12 general entries are full. -/
def Dev.inject (d : Dev) (k : Nat) : Dev :=
  let c := d.core k
  if c.mbxCount [0, 3] ≥ 12 then
    (d.setCore k (c.setFld Off.MBX_STATUS Fl.MBX_STATUS_INJ_DROP 1)).coreRecord k 0x12 0 0 0 0
  else
    let p := natLE 4 (c.reg (Off.MBX_IN 0)).toNat ++ natLE 4 (c.reg (Off.MBX_IN 1)).toNat
      ++ natLE 4 (c.reg (Off.MBX_IN 2)).toNat ++ natLE 4 (c.reg (Off.MBX_IN 3)).toNat
    d.setCore k { c with mbx := c.mbx ++ [⟨3, 0x200, k, p⟩] }

/-- CORE_RESET_DONE: the reset of a core of an ON cluster completes, and the core is IDLE (R71). -/
def execCoreResetDone (k : Fin 512) (s : State) : Out :=
  onDev (fun d =>
    if (d.core k.val).state = .reset ∧ d.clusterOn (clusterOf k.val) = true then d.setCore k.val { d.core k.val with state := .idle }
    else d) s

/-! ### Parking (R61, R71, R325) -/

/-- A started job whose every core has parked is done: JOB_DONE, and the sequencers end it (R305, R325). -/
def Dev.jobDone (d : Dev) (j : Nat) : Dev :=
  let x := d.job j
  if x.started = true ∧ x.state = .resident ∧ (coresOf x.mask).all (fun k => d.holds j k && (d.core k).state == .parked) then
    let side := if (coresOf x.mask).any (fun k => sideOf k == 0) then 0 else 1
    let d := d.emit { cls := kSCHED, code := 0x13, src := srcSc side, issuer := j }
    let d := d.freeCores j
    let d := d.setJob j { d.job j with state := .loaded, runs := 2, started := false, wants := none, request := none }
    d.latchRelease j none
  else d

/-- CORE_PARK: END's drain is complete; the gather buffer is fenced and the core parks (R71, R175). -/
def execCorePark (k : Fin 512) (s : State) : Out :=
  onDev (fun d =>
    let c := d.core k.val
    if c.state = .running ∧ c.ending = true ∧ c.drained 0xF = true then
      let d := d.putCore k.val { c.fence with state := .parked, ending := false }
      match (d.core k.val).jobOf with
      | some j => d.jobDone j
      | none => d
    else d) s

/-! ### Messages and replies (R63, R65, R258) -/

/-- MESSAGE_DELIVER: the oldest entry of a send queue is accepted, or discarded by a target in RESET or STOPPED; a target that is
SUSPENDED or whose 12 general entries are full keeps it waiting (R61, R63, R65). A core that is SUSPENDED or stopped by force sends
nothing (R314). -/
def execMessageDeliver (k : Fin 512) (s : State) : Out :=
  onDev (fun d =>
    let c := d.core k.val
    match c.sq with
    | [] => d
    | m :: rest =>
      let t := d.core m.target
      if c.queuesHeld then d
      else if t.state = .reset ∨ t.state = .stopped then d.setCore k.val { c with sq := rest }
      else if t.state = .suspended ∨ t.mbxCount [0, 3] ≥ 12 then d
      else
        let d := (d.setCore k.val { c with sq := rest }).clusterPacket (clusterOf k.val) (clusterOf m.target) 16
        d.setCore m.target { d.core m.target with mbx := (d.core m.target).mbx ++ [m] }) s

/-- LATCH_REPLY: the oldest reply under way is written to its register, and SEM_HOLD follows a granted acquire or release; with several
operations under way, one that would take the count past 255 or below 0 leaves it and raises HOLD_COUNT in the X slot (R59; log entry 9). -/
def execLatchReply (k : Fin 512) (s : State) : Out :=
  onDev (fun d =>
    let c := d.core k.val
    match c.replies with
    | [] => d
    | r :: rest =>
      let n := ((c.fld Off.HOLD_STATUS Fl.HOLD_STATUS_SEM_HOLD : Int) + r.hold)
      let c := { c with replies := rest }.setS r.dest r.val
      if 0 ≤ n ∧ n ≤ 255 then d.setCore k.val (c.setFld Off.HOLD_STATUS Fl.HOLD_STATUS_SEM_HOLD n.toNat)
      else if c.state = .running then (d.setCore k.val c).coreStop k.val cHOLDCNT 3 0 0 0
      else d.setCore k.val c) s

/-! ### Bounded waits (R70, R75) -/

/-- The slot that a bounded wait holds up: the X slot for a full queue, the S slot for RECV, RACQ and QWAIT (R75). -/
def waitSlot (w : Nat) : Nat := if w = 6 then 0 else if w = 2 then 3 else 1

/-- STALL_TIMEOUT: one bundle has waited more than STALL_LIMIT ticks; the core stops, and the record and FAULT_ADDR name the other party of the wait
(R70, R75). -/
def execStallTimeout (k : Fin 512) (s : State) : Out :=
  onDev (fun d =>
    let c := d.core k.val
    match c.waitSince with
    | some t =>
      if c.state = .running ∧ d.tick - t > c.fld Off.STALL_LIMIT Fl.STALL_LIMIT_TICKS then
        let w := c.fld Off.CORE_STATUS Fl.CORE_STATUS_WAIT
        d.coreStop k.val cSTALL (waitSlot w) c.waitParty w 0
      else d
    | none => d) s

/-! ### Instruction memory parity (R52) -/

/-- What a reread of `n` bytes at device address `a` for core `k`'s instruction memory returns: the bytes, and whether it ended in an uncorrectable
error. A source in host memory gives the bytes `host` that came with the command, or an error when none came (R52, R53, R444; log entry 7). -/
def Dev.codeRead (d : Dev) (k a n : Nat) (host : List Byte) : List Byte × Bool × Dev :=
  match targetOf a with
  | .hbm _ _ => if d.dmaReach k false 0 a n = none then (d.hbmBytes a n, (d.hbmBad a n).isSome, d.hbmCheck a n) else ([], true, d)
  | .sram j l => ((d.core j).bankN l n, ((d.core j).ueIn l n).isSome, d.onCore j (fun c => c.noteRead l n))
  | .host => if d.dmaReach k false 0 a n = none then (host, host.length != n, d) else ([], true, d)
  | _ => ([], true, d)

/-- PARITY_REFETCH: the fetch of a RUNNING core has found a parity error in the bundle at the PC, which is reread from its overlay source; a retry that
fails parity, or an uncorrectable error of the reread, stops the core with IMEM_PARITY (R52). Parity errors come from outside, or from PAR_INJECT. -/
def execParityRefetch (k : Fin 512) (retryBad : Bool) (host : List Byte) (s : State) : Out :=
  onDev (fun d =>
    let c := d.core k.val
    if !c.issues || decide (c.pc ≥ 4096) || !(c.reg Off.IMEM_VALID).getLsbD (c.pc / 256) then d
    else
      let seg := c.pc / 256
      let a := (c.reg (Off.OVL_SRC_LO seg)).toNat + 2 ^ 32 * (c.reg (Off.OVL_SRC_HI seg)).toNat + 16 * (c.pc - 256 * seg)
      let (bs, bad, d) := (d.setStage k.val []).codeRead k.val a 16 host
      let d := d.onCore k.val (fun c => { c.bump Off.PARITY_REFETCH 1 with
        imem := if bad then c.imem else c.imem.write (16 * c.pc) bs, imemBad := c.imemBad.filter (· != c.pc) })
      if bad ∨ retryBad = true then d.coreStop k.val cPARITY 0 0 0 0 else d) s

/-! ### The scratchpads' own work (R172, R175) -/

/-- SRAM_CE_WRITEBACK: a corrected granule is written back (R172). -/
def execSramCeWriteback (k : Fin 512) (gran : Nat) (s : State) : Out :=
  onDev (fun d => d.setCore k.val { d.core k.val with ce := (d.core k.val).ce.filter (· != gran) }) s

/-- GATHER_LINE_AGE_FLUSH: the oldest line is written once GB_AGE side-clock cycles have passed since it was taken (R175 case 3, SP_EXP). -/
def execGatherLineAgeFlush (k : Fin 512) (s : State) : Out :=
  onDev (fun d =>
    match (d.core k.val).gb with
    | l :: _ =>
      if l.taken + (d.core k.val).fld Off.SP_EXP Fl.SP_EXP_GB_AGE ≤ d.cycles k.val then d.onCore k.val (fun c => c.newCycle.flushOldest) else d
    | [] => d) s

end Sys2Proof.Machine
end

