-- ==== Sys2Proof/Machine/CoreRegs.lean ====
section
/-! DEFINITION. Writes of a core's own registers, as PF0 makes them and as a DMA write to the core's own window does: credit windows, slot rings, statistics, counter clears and CORE_CTRL (R66, R76, R109, R137, R159, R163, R182, R185, R188, R202, R214, R215, R222). -/

namespace Sys2Proof.Machine

/-- Whether `n` bytes from local address `a` lie in one memory, all of it in ON groups. -/
def Core.onRange (c : Core) (a n : Nat) : Bool := inMem a n && (blocks 0x10000 a n).all (fun g => c.isOn (if g < a then a else g))

/-- Write a core register's fields by its field table (R9, R12, R14). -/
def Core.plainWrite (c : Core) (o : Nat) (v : Word) : Core :=
  match findReg Map.core o with
  | some r => c.setReg o (r.write ((c.reg Off.EXPERT_EN).getLsbD 0) v (c.reg o))
  | none => c

/-! ### Credit windows (R182, R185, R188) -/

/-- A write of CW_CFG(w). -/
def Core.cwCfgWrite (c : Core) (w : Nat) (v : Word) : Core :=
  let o := Off.CW_CFG w
  let was := c.fld o Fl.CW_CFG_EN
  let want := Fl.CW_CFG_EN.get v
  if was = 1 then
    if want = 0 ∧ (Tab.get [] c.cwq w).isEmpty then c.setFld o Fl.CW_CFG_EN 0 else c
  else
    let c := (c.plainWrite o v).setFld o Fl.CW_CFG_EN 0
    let size := c.fld o Fl.CW_CFG_SIZE
    if want = 0 then c
    else if size = 0 ∨ c.onRange (c.fld (Off.CW_BASE w) Fl.CW_BASE_BASE) (256 * size) = false then
      c.setFld Off.SP_STATUS Fl.SP_STATUS_CW_BAD 1
    else { c.setFld o Fl.CW_CFG_EN 1 with cwAvail := Tab.set 0 c.cwAvail w size }

/-- A write of CW_BASE(w): ignored while EN is 1 or outside the memories. -/
def Core.cwBaseWrite (c : Core) (w : Nat) (v : Word) : Core :=
  if c.fld (Off.CW_CFG w) Fl.CW_CFG_EN = 1 ∨ memOf (Fl.CW_BASE_BASE.get v) = 0 then c else c.plainWrite (Off.CW_BASE w) v

/-- A write of CW_RETURN(w): ignored while EN is 0. -/
def Core.cwReturnWrite (c : Core) (w n : Nat) : Core := if c.fld (Off.CW_CFG w) Fl.CW_CFG_EN = 1 then c.creditReturn w n else c

/-! ### Slot rings (R214, R215, R222) -/

/-- The base of a ring. -/
def Core.ringBase (c : Core) (r : Nat) : Nat := (c.reg (Off.RING_BASE_LO r)).toNat + 2 ^ 32 * (c.reg (Off.RING_BASE_HI r)).toNat

/-- Whether ring `r` of core `k` lies where R214 allows. -/
def Core.ringFits (c : Core) (k r : Nat) : Bool :=
  let n := c.ringSlots r * 256 * c.ringUnits r
  match targetOf (c.ringBase r) with
  | .hbm _ o => decide (o + n ≤ hbmSize)
  | .sram t a => t == k && c.onRange a n
  | _ => false

/-- A write of RING_CFG(r): an enable resets the counts, a disable discards them; while EN is 1 the other fields are held. -/
def Core.ringCfgWrite (c : Core) (k r : Nat) (v : Word) : Core :=
  let o := Off.RING_CFG r
  let want := Fl.RING_CFG_EN.get v
  if c.fld o Fl.RING_CFG_EN = 1 then
    if want = 0 then (c.setFld o Fl.RING_CFG_EN 0).setRingSt r ⟨0, 0, 0, 0, 0⟩ else c
  else
    let c := (c.plainWrite o v).setFld o Fl.RING_CFG_EN 0
    if want = 0 then c
    else if c.ringFits k r then (c.setFld o Fl.RING_CFG_EN 1).setRingSt r ⟨0, 0, 0, 0, 0⟩
    else c.setFld (Off.RING_STATUS r) Fl.RING_STATUS_BAD 1

/-! ### Statistics (R159, R163) -/

/-- A write of STAT_CFG(n): a slot whose EN falls clears its window counts. -/
def Core.statCfgWrite (c : Core) (n : Nat) (v : Word) : Core :=
  let was := c.fld (Off.STAT_CFG n) Fl.STAT_CFG_EN
  let c := c.plainWrite (Off.STAT_CFG n) v
  if was = 1 ∧ c.fld (Off.STAT_CFG n) Fl.STAT_CFG_EN = 0 then
    { c.setReg (Off.STAT_WIN n) 0 with winSats := Tab.set 0 c.winSats n 0 }
  else c

/-- Zero a statistics slot. -/
def Core.statClear (c : Core) (n : Nat) : Core :=
  let c := c.clearRegs [Off.STAT_MAXABS n, Off.STAT_SQERR_LO n, Off.STAT_SQERR_HI n, Off.STAT_SATS n, Off.STAT_ELEMS n, Off.STAT_WIN n]
  { c.setFld (Off.STAT_CFG n) Fl.STAT_CFG_SQERR_SAT 0 with winSats := Tab.set 0 c.winSats n 0 }

/-- STAT_CTRL.CLR. -/
def Core.statCtrl (c : Core) (v : Nat) : Core :=
  ((List.range 8).filter (fun n => v.testBit n)).foldl Core.statClear c

/-! ### Counter clears -/

/-- MU_CTRL.CNT_CLR: MU_DONE stays (R109). -/
def Core.muClear (c : Core) : Core := c.clearRegs [Off.MU_ARRAY_CYC, Off.MU_STALL_FEED, Off.MU_RAMP_LOST, Off.MU_SAT]
/-- VE_CTRL.CNT_CLR (R137). -/
def Core.veClear (c : Core) : Core := c.clearRegs [Off.VE_SAT, Off.VE_LUT_CLAMP, Off.VE_BANK_EXTRA, Off.VE_ACC_LD]
/-- SP_CTRL.CNT_CLR (R188). -/
def Core.spClear (c : Core) : Core := c.clearRegs [Off.SP_PD_READS, Off.SP_CONFLICTS, Off.SP_ECC_CE, Off.SP_GB_FLUSH, Off.SP_DMA_WAIT]
/-- DMA_CTRL.CNT_CLR: DMA_DONE stays (R222). -/
def Core.dmaClear (c : Core) : Core := c.clearRegs [Off.DMA_UNITS, Off.DMA_TAG_WAIT, Off.DMA_CREDIT_WAIT, Off.DMA_FWD_UNITS]

/-- A wait of core `k` for a tag, to be counted from now on. -/
def Dev.tagRemark (d : Dev) (k : Nat) : Dev := d.setCore k { d.core k with tagSince := (d.core k).tagSince.map (fun _ => d.cycles k) }

/-! ### The write itself -/

/-- A write of a register of core `k`'s block that has passed the checks of access. -/
def Dev.coreRegWrite (d : Dev) (k o : Nat) (v : Word) : Dev :=
  let up (f : Core → Core) : Dev := d.onCore k f
  let on0 : Bool := v.getLsbD 0
  let win := (List.range 8).find? (fun w => decide (Off.CW_CFG w ≤ o) && decide (o < Off.CW_CFG w + 0x10))
  let ring := (List.range 16).find? (fun r => decide (Off.RING_CFG r ≤ o) && decide (o < Off.RING_CFG r + 0x18))
  let stat := (List.range 8).find? (fun n => o == Off.STAT_CFG n)
  let mbx := (List.range 4).find? (fun n => o == Off.MBX_IN n)
  if o = Off.CORE_CTRL then (d.setCore k ((d.core k).plainWrite o v)).coreCtrl k v
  else if o = Off.MU_CTRL then (if on0 then up Core.muClear else d)
  else if o = Off.VE_CTRL then (if on0 then up Core.veClear else d)
  else if o = Off.SP_CTRL then (if on0 then up Core.spClear else d)
  else if o = Off.MU_EXP then up (fun c => { c.plainWrite o v with muLevel := c.level })
  else if o = Off.DMA_CTRL then (if on0 then ((d.creditRemark k).tagRemark k).onCore k Core.dmaClear else d)
  else if o = Off.STAT_CTRL then up (fun c => c.statCtrl (Fl.STAT_CTRL_CLR.get v))
  else match mbx, stat, win, ring with
    | some n, _, _, _ =>
      let d := up (fun c => c.setReg o v)
      if n = 3 then d.inject k else d
    | _, some n, _, _ => up (fun c => c.statCfgWrite n v)
    | _, _, some w, _ =>
      if o = Off.CW_CFG w then up (fun c => c.cwCfgWrite w v)
      else if o = Off.CW_BASE w then up (fun c => c.cwBaseWrite w v)
      else if o = Off.CW_RETURN w then up (fun c => c.cwReturnWrite w (Fl.CW_RETURN_COUNT.get v))
      else d
    | _, _, _, some r =>
      if o = Off.RING_CFG r then up (fun c => c.ringCfgWrite k r v)
      else if o = Off.RING_STATUS r ∨ (d.core k).ringEn r = false then up (fun c => c.plainWrite o v)
      else d
    | _, _, _, _ => up (fun c => c.plainWrite o v)

/-! ### The register block in the core's own window (R6, R14, R202, R225, R543) -/

/-- Whether a core register is the low half of a 64-bit pair (R6). -/
def coreLow (l : Nat) : Bool :=
  [Off.FAULT_ADDR_LO, Off.CYCLE_LO].contains l || (List.range 16).any (fun n => l == Off.OVL_SRC_LO n || l == Off.RING_BASE_LO n)
    || (List.range 8).any (fun n => l == Off.STAT_SQERR_LO n)

/-- The number of a reader that holds shadows: a function, a core through its window, the Hinge or the debug port. R6 names the functions and the core
windows; that the Hinge and the debug port hold shadows of their own beside PF0's is the model's choice (DESIGN CHOICE, log entry 58). -/
def whoKey : Who → Nat
  | .pf0 => 0
  | .client c => 1 + c.val
  | .core k => 64 + k.val
  | .hinge => 40
  | .debug => 41
  | .config _ => 42

/-- The key of a reader's shadow of the pair whose high half is at offset `o` of BAR0. -/
def shadowKey (who o : Nat) : Nat := who * 2 ^ 32 + o

/-- The word of register `o` of core `k`, write-only registers reading 0. -/
def Dev.coreRegRead (d : Dev) (k o : Nat) : Word :=
  match findReg Map.core o with
  | some r => if r.fields.all (fun f => f.acc == .wo) then 0 else d.coreReg k o
  | none => 0

/-- A read of register `o` through core `k`'s own window, with that core's shadow of the pairs (R6, R202). -/
def Dev.windowRead (d : Dev) (k o : Nat) : Word × Dev :=
  let key (l : Nat) : Nat := shadowKey (64 + k) ((Block.core k).base + l)
  if coreLow o then (d.coreRegRead k o, { d with shadows := Tab.set none d.shadows (key (o + 4)) (some (d.coreRegRead k (o + 4))) })
  else if 4 ≤ o ∧ coreLow (o - 4) = true then ((Tab.get none d.shadows (key o)).getD (d.coreRegRead k o), d)
  else (d.coreRegRead k o, d)

/-- The bits of a register's fields of access RW and WO, the ones a write through the window reaches (R202). -/
def RegSpec.windowMask (r : RegSpec) (v : Word) : Word :=
  r.fields.foldl (fun w f => if f.acc = .rw ∨ f.acc = .wo then w else f.fld.put w 0) v

/-- A write of register `o` through core `k`'s own window: the RW and WO fields of a basic register as a PF0 write would; an RWE field keeps its value,
and while EXPERT_EN is 0 the drop is recorded with the register's offset in BAR0 (R14, R202, R543). -/
def Dev.windowWrite (d : Dev) (k o : Nat) (v : Word) : Dev :=
  match findReg Map.core o with
  | none => d
  | some r =>
    if o < 0x8000 then d.coreRegWrite k o (r.windowMask v)
    else if r.fields.any (fun f => f.acc == .rwe) = true ∧ ((d.core k).reg Off.EXPERT_EN).getLsbD 0 = false then
      d.emit { cls := kSEC, code := 0x01, src := 0, obj := (Block.core k).base + o }
    else d

end Sys2Proof.Machine
end

