-- ==== Sys2Proof/Machine/LatchUnit.lean ====
section
/-! DEFINITION. The Latch units: operations with their checks, watches and notifications, forwards, the pair range and host operations (R247–R276). -/

namespace Sys2Proof.Machine

/-! ### Comparison and reachability -/

/-- Serial comparison: `v` at or past `t` (R250). -/
def serialGE (v t : Word) : Bool := decide ((v - t).toNat < 2 ^ 31)

/-- The comparison of a word's kind (R250). -/
def atOrPast (kind : Nat) (v t : Word) : Bool := if kind = 0 then decide (t.toNat ≤ v.toNat) else serialGE v t

/-- Whether a Latch unit can be reached (R273). -/
def Dev.reachable (d : Dev) (cl : Nat) : Bool :=
  d.clusterOn cl && !d.contained (cl / 16) && d.fld ((Block.seq cl).base + Off.CS_STATUS) Fl.CS_STATUS_READY == 1

/-- Whether a word lies in its unit's pair range (R249). -/
def Dev.inPairRange (d : Dev) (cl w : Nat) : Bool :=
  let o := (Block.latch cl).base + Off.LU_PAIR
  let b := d.fld o Fl.LU_PAIR_BASE
  decide (b ≤ w) && decide (w < b + d.fld o Fl.LU_PAIR_COUNT)

/-- Whether the device is a member of a pair (R271). -/
def Dev.paired (d : Dev) : Bool := d.fld (Block.gctl.base + Off.DEV_INFO) Fl.DEV_INFO_ROLE != 0

/-- A counter of a Latch unit. -/
def Dev.luCount (d : Dev) (cl o n : Nat) : Dev :=
  d.bump ((Block.latch cl).base + o) n { cls := kLATCH, code := 0x0E, src := srcLatch cl }

/-! ### Operations (R251–R256) -/

/-- An operation as it reaches a unit: `op` and `source` as R275 numbers them; `hold` 1 acquire, 2 release; `kind` the KIND a SET
writes; `own` the owner an LSET takes; `bad` a failed check 1. -/
structure LIn where
  op : Nat
  source : Nat
  issuer : Nat
  job : Nat
  word : Nat
  x : Word
  y : Word
  hold : Nat
  try_ : Bool
  kind : Option Nat
  own : Bool
  bad : Bool
  deriving DecidableEq, Repr

/-- A LATCH record of an operation (R275). -/
def Dev.latchRecord (d : Dev) (cl : Nat) (i : LIn) (code src : Nat) : Dev :=
  d.emit { cls := kLATCH, code := code, src := src, obj := latchAddr cl i.word, issuer := i.issuer,
           detail := i.op + i.source * 2 ^ 4 + i.job * 2 ^ 8 + i.x.toNat % 2 ^ 16 * 2 ^ 16 + ((d.lu cl).val i.word).toNat * 2 ^ 32 }

/-- The checks of R253 in order: the status and the record code (0 for none) of the first that fails. Forwards, mirror copies and the
host pass no FOREIGN or HOLD check (R270, R276). -/
def Dev.latchCheck (d : Dev) (i : LIn) (w : LWord) : Option (Nat × Nat) :=
  let write := i.op ≠ 6 ∧ i.op ≠ 7
  let mine := decide (w.hjob = i.job)
  if i.bad then some (0x80000005, 0x04)
  else if i.source ≤ 1 ∧ w.owned = true ∧ (d.job w.owner).client ≠ (d.job i.job).client then some (0x8000000A, 0x07)
  else if write ∧ w.kind = 3 then some (0x8000000B, 0x08)
  else if (i.op = 1 ∨ i.op = 2) ∧ w.kind ≠ 0 then some (0x80000004, 0x03)
  else if i.op = 5 ∧ w.kind = 0 then some (0x80000004, 0x03)
  else if i.hold = 1 ∧ w.susp = true ∧ mine = false then some (0x80000007, 0)
  else if i.hold = 1 ∧ w.hcnt > 0 ∧ mine = false then some (0x80000006, 0)
  else if i.hold = 1 ∧ w.hcnt = 255 then some (0x80000009, 0x06)
  else if i.hold = 2 ∧ (w.hcnt = 0 ∨ mine = false) then some (0x80000008, 0x05)
  else if i.op = 2 ∧ i.x.toNat > w.value.toNat then some (0x80000002, if i.try_ then 0 else 0x01)
  else if i.op = 1 ∧ w.value.toNat + i.x.toNat ≥ 2 ^ 32 then some (0x80000003, 0x02)
  else if i.op = 4 ∧ w.value ≠ i.x then some (0x80000001, 0)
  else none

/-- The word after an operation that passed (R251–R253). `fixed` tells whether the pair range fixes its KIND. -/
def LIn.result (i : LIn) (fixed : Bool) (w : LWord) : LWord :=
  let v := match i.op with
    | 1 => w.value + i.x
    | 2 => w.value - i.x
    | 3 => i.x
    | 4 => i.y
    | 5 => w.value + i.x
    | _ => w.value
  let w := { w with value := v }
  let w := match i.kind with
    | some k => if fixed then w else { w with kind := k }
    | none => w
  let w := if i.own then { w with owned := true, owner := i.job } else w
  if i.hold = 1 then { w with hcnt := w.hcnt + 1, hjob := i.job }
  else if i.hold = 2 then { w with hcnt := w.hcnt - 1, susp := if w.hcnt = 1 then false else w.susp }
  else w

/-! ### Watches (R259–R262) -/

/-- Whether the condition of a watch holds in a unit. -/
def Latch.holdsCond (l : Latch) (w : Watch) : Bool :=
  let x := l.word w.word
  match w.cond with
  | 0 => x.value == w.target
  | 1 => x.value != w.target
  | 2 => atOrPast x.kind x.value w.target
  | 3 => !atOrPast x.kind x.value w.target
  | _ => serialGE x.value w.target && serialGE (l.val (w.word + 1)) w.target

/-- After an operation on a word, the watches it satisfies complete with MET, in the order of registration (R260). -/
def Dev.evalWatches (d : Dev) (cl w : Nat) : Dev :=
  let l := d.lu cl
  d.completeWhere cl (fun x => (x.word == w || (x.cond == 4 && x.word + 1 == w)) && l.holdsCond x) 0

/-! ### Forwards (R269, R270) -/

/-- The enabled forward entry that names a word. -/
def Dev.fwdOf (d : Dev) (cl w : Nat) : Option Nat :=
  (List.range 64).find? (fun e =>
    let o := (Block.latch cl).base + Off.FWD_CFG e
    d.fld o Fl.FWD_CFG_EN == 1 && d.fld o Fl.FWD_CFG_WORD == w)

/-- The clusters an entry forwards to. -/
def Dev.fwdDests (d : Dev) (cl e : Nat) : List Nat :=
  let b := (Block.latch cl).base
  if d.fld (b + Off.FWD_CFG e) Fl.FWD_CFG_FANOUT = 1 then
    (List.range 32).filter (fun c => (d.reg (b + Off.FWD_MASK e)).getLsbD c)
  else [d.fld (b + Off.FWD_CFG e) Fl.FWD_CFG_DCLUSTER]

/-- A forward of cluster `cl` that its destination word could not get writes UNREACHABLE at the source unit, and no job fails (R270). -/
def Dev.fwdLost (d : Dev) (cl c dw : Nat) (x : Word) : Dev :=
  d.emit { cls := kLATCH, code := 0x0C, src := srcLatch cl, obj := latchAddr c dw, issuer := 0x201,
           detail := 8 + 2 * 2 ^ 4 + x.toNat % 2 ^ 16 * 2 ^ 16 + ((d.lu c).val dw).toNat * 2 ^ 32 }

/-- Send the forward of entry `e` of cluster `cl`, triggered by word `w`: DOP with DOPND for a COUNT word, a SET of the lower value `low`
for a PAIR word; to an unreachable unit it writes UNREACHABLE here. -/
def Dev.forward (d : Dev) (cl e w : Nat) (low : Option Word) : Dev :=
  let b := (Block.latch cl).base
  let dop := d.fld (b + Off.FWD_CFG e) Fl.FWD_CFG_DOP
  let dw := d.fld (b + Off.FWD_DEST e) Fl.FWD_DEST_DWORD
  let x := low.getD (wd (d.fld (b + Off.FWD_DEST e) Fl.FWD_DEST_DOPND))
  let op := if low.isSome then 3 else if dop = 0 then 1 else 5
  d.each (d.fwdDests cl e) (fun d c =>
    if d.reachable c then
      let d := d.clusterPacket cl c 8
      let l := d.lu c
      d.setLu c { l with inbox := l.inbox ++ [⟨op, 2, 0x201, 0, dw, x, cl, w⟩] }
    else d.fwdLost cl c dw x)

/-- The lower of a PAIR and its IMAGE by R250. -/
def lowerOf (p i : Word) : Word := if serialGE p i then i else p

/-- Write a word's new content: the forward's action, the copy to the partner, and the watches (R260, R269, R271). -/
def Dev.latchStore (d : Dev) (cl w : Nat) (add : Bool) (new : LWord) : Dev :=
  let l := d.lu cl
  let old := l.word w
  let p := if old.kind = 3 then w - 1 else w
  let low0 := lowerOf (l.val p) (l.val (p + 1))
  let trig := match d.fwdOf cl p with
    | some e => if old.kind = 0 ∧ add = true ∧ old.value ≠ new.value
        ∧ new.value = d.reg ((Block.latch cl).base + Off.FWD_TARGET e) then some e else none
    | none => none
  let d := d.setLu cl (l.setWord w (if trig.isSome then { new with value := 0 } else new))
  let d := match trig with
    | some e => d.forward cl e w none
    | none => d
  let low1 := lowerOf ((d.lu cl).val p) ((d.lu cl).val (p + 1))
  let d := if (old.kind = 2 ∨ old.kind = 3) ∧ low0 ≠ low1 then
      match d.fwdOf cl p with
      | some e => d.forward cl e p (some low1)
      | none => d
    else d
  let d := if old.kind = 2 ∧ old.value ≠ new.value ∧ d.paired = true then { d with pairOut := d.pairOut ++ [(cl, w, new.value)] } else d
  d.evalWatches cl w

/-! ### Applying one operation -/

/-- An access to a word with an uncorrectable error (R514): LATCH_UE, and the word's watches complete with UNREACHABLE. -/
def Dev.latchUe (d : Dev) (cl : Nat) (i : LIn) : Dev :=
  let (x, d) := d.free
  let d := d.emit { cls := kECC, code := 0x09, src := srcLatch cl, obj := latchAddr cl i.word, issuer := i.issuer,
                    detail := 5 + i.job * 2 ^ 8 + x.toNat * 2 ^ 32 }
  d.completeWhere cl (fun w => w.word == i.word) 8

/-- One operation on a reachable unit: its status, VALUE for a READ, and the device after it; an LSET or a host SET that is not refused rewrites the
word whole and clears its error (R253–R257, R514). -/
def Dev.latchOp (d : Dev) (cl : Nat) (i : LIn) : Word × Dev :=
  let l := d.lu cl
  let rewrite := decide (i.op = 3 ∧ i.kind.isSome)
  if l.ue.contains i.word && !rewrite then (if i.op = 6 then 0 else 0x8000000C, d.latchUe cl i)
  else
    let w := l.word i.word
    match d.latchCheck i w with
    | some (st, code) =>
      let d := d.luCount cl Off.LU_REFUSED 1
      (if i.op = 6 then 0 else wd st, if code = 0 then d else d.latchRecord cl i code (srcLatch cl))
    | none =>
      let d := d.luCount cl Off.LU_OPS 1
      let d := d.setLu cl { d.lu cl with ue := (d.lu cl).ue.filter (· != i.word) }
      if i.op = 6 then (w.value, d)
      else (0, d.latchStore cl i.word (i.op == 1) (i.result (d.inPairRange cl i.word) w))

/-- Whether the last operation of a job met a word's uncorrectable error, which fails the job as UNREACHABLE does. -/
def Dev.wordBad (d : Dev) (cl : Nat) (i : LIn) : Bool := (d.lu cl).ue.contains i.word && !(decide (i.op = 3 ∧ i.kind.isSome))

/-- What an operation of core `k` on a word of cluster `cl` sends and gets back, when its unit can be reached (R228). -/
def Dev.latchTraffic (d : Dev) (k cl w out back : Nat) : Dev := if d.reachable cl then d.coreTraffic k (latchAddr cl w) out back else d

/-- A SIGNAL of a transfer (R206, R256, R273): applied under its core's job, with the operand range of its operation (R252). An unreachable unit writes UNREACHABLE and the job fails. -/
def Dev.signal (d : Dev) (k op addr : Nat) (x : Word) : Dev :=
  match targetOf addr with
  | .latch cl w =>
    let j := (d.core k).jobOf.getD 0
    let i : LIn := ⟨if op = 4 then 5 else op, 1, k, j, w, x, 0, 0, false, none, false, decide (op = 4 ∧ (x.toNat = 0 ∨ x.toNat ≥ 2 ^ 31))⟩
    let d := d.latchTraffic k cl w 4 0
    if !d.reachable cl then (d.latchRecord cl i 0x0C (srcLatch cl)).failCoreJob k
    else
      let bad := d.wordBad cl i
      let d := (d.latchOp cl i).2
      if bad then d.failCoreJob k else d
  | _ => d

/-! ### The Latch queue of a core (R251, R252, R258, R259) -/

/-- The operation number of R275. -/
def LOp.code : LOp → Nat
  | .add => 1 | .sub => 2 | .set => 3 | .cas => 4 | .seqAdv => 5 | .read => 6 | .watch => 7

/-- The encoding check of an X-slot operation other than LWATCH (R252); `fixed` when the word lies in the pair range. -/
def LReq.badEnc (r : LReq) (fixed : Bool) : Bool :=
  let x := r.ximm.toNat
  let hold := x % 4
  let ac := r.op = .sub ∨ r.op = .cas
  let kind := x / 8 % 4
  decide (x / 64 ≠ 0 ∨ r.sa.toNat / 2 ^ 17 ≠ 0 ∨ hold = 3 ∨ (hold = 1 ∧ ¬ ac) ∨ (hold = 2 ∧ r.op ≠ .add)
    ∨ (x / 4 % 2 = 1 ∧ ¬ ac) ∨ (kind ≠ 0 ∧ r.op ≠ .set) ∨ (r.op = .set ∧ kind ≥ 2 ∧ fixed = false)
    ∨ (x / 32 % 2 = 1 ∧ r.op ≠ .set) ∨ (r.op = .seqAdv ∧ (r.sb.toNat = 0 ∨ r.sb.toNat ≥ 2 ^ 31)))

/-- The operation an X-slot request asks of its unit; a record of an LWATCH names its cookie as the operand (R275). -/
def LReq.toIn (r : LReq) (k j : Nat) (fixed : Bool) : LIn :=
  let x := r.ximm.toNat
  ⟨r.op.code, 0, k, j, r.sa.toNat % 4096, if r.op = .watch then wd (x / 2 ^ 15 % 256) else r.sb, r.scv, x % 4, x / 4 % 2 == 1,
    if r.op = .set then some (x / 8 % 4) else none, x / 32 % 2 == 1, r.badEnc fixed⟩

/-- Whether a batcher is enabled, and the first cluster of its job's patch (R292, R293). -/
def Dev.batOn (d : Dev) (b : Nat) : Bool := d.fld (Block.sch.base + Off.BAT_CFG b) Fl.BAT_CFG_EN == 1
/-- The job of a batcher. -/
def Dev.batJob (d : Dev) (b : Nat) : Nat := d.fld (Block.sch.base + Off.BAT_CFG b) Fl.BAT_CFG_JOB
/-- The plan of a batcher. -/
def Dev.batPlan (d : Dev) (b : Nat) : Nat := d.fld (Block.sch.base + Off.BAT_CFG b) Fl.BAT_CFG_PLAN
/-- The first cluster of a job's patch. -/
def Dev.firstCluster (d : Dev) (j : Nat) : Nat := ((coresOf (d.job j).mask).map clusterOf).headD 0

/-- Watch slots in use: registered watches, completed ones that wait with their slot, and one held for each enabled batcher whose patch
begins here (R260, R263, R293). -/
def Dev.slotsUsed (d : Dev) (cl : Nat) : Nat :=
  let l := d.lu cl
  (l.watches.filter (fun w => w.batch.isNone)).length + (l.waiting.filter (fun n => n.slot)).length
    + ((List.range 32).filter (fun b => d.batOn b && d.firstCluster (d.batJob b) == cl)).length

/-- LWATCH (R259, R260, R268). -/
def Dev.latchWatch (d : Dev) (cl k j : Nat) (r : LReq) : Dev :=
  let x := r.ximm.toNat
  let cond := x / 4 % 8
  let host := x / 32 % 2 == 1
  let core := x / 64 % 512
  let cookie := x / 2 ^ 15 % 256
  let t := r.scv.toNat
  let w := r.sa.toNat % 4096
  let l := d.lu cl
  let wd_ := l.word w
  let okCore := host || inPatch (d.job j).mask core
  let i : LIn := ⟨7, 0, k, j, w, BitVec.ofNat 32 cookie, 0, 0, false, none, false, false⟩
  let wt : Watch := ⟨w, cond, r.sb, if host then 0x200 else if okCore then core else k, cookie, j, k, d.tick + 25 * t, none⟩
  let bad := x % 4 ≠ 0 ∨ cond ≥ 5 ∨ x / 2 ^ 23 ≠ 0 ∨ okCore = false ∨ r.sa.toNat / 2 ^ 17 ≠ 0 ∨ t = 0 ∨ t > 2 ^ 30
    ∨ (cond = 4 ∧ wd_.kind ≠ 2)
  if l.ue.contains w then ((d.latchUe cl i).completeWatch cl wt 8 false).failJob j
  else if bad then
    ((d.luCount cl Off.LU_REFUSED 1).latchRecord cl i 0x04 (srcLatch cl)).completeWatch cl wt 6 false
  else match d.latchCheck i wd_ with
    | some (_, code) => ((d.luCount cl Off.LU_REFUSED 1).latchRecord cl i code (srcLatch cl)).completeWatch cl wt 7 false
    | none =>
      let d := d.luCount cl Off.LU_OPS 1
      if l.holdsCond wt then d.completeWatch cl wt 0 false
      else if wd_.susp = true ∧ wd_.hjob ≠ j then d.completeWatch cl wt 4 false
      else if d.slotsUsed cl ≥ 256 then (d.latchRecord cl i 0x0A (srcLatch cl)).completeWatch cl wt 5 false
      else d.setLu cl { d.lu cl with watches := (d.lu cl).watches ++ [wt] }

/-- The head of a core's Latch queue reaches its unit (R55, R253, R273). An LWATCH to an unreachable unit completes with UNREACHABLE: its
host is notified, and a core's notification finds the core stopped (R263). -/
def Dev.latchFromCore (d : Dev) (cl k : Nat) : Dev :=
  let c := d.core k
  match c.lq with
  | [] => d
  | r :: rest =>
    if r.sa.toNat / 4096 % 32 ≠ cl ∨ c.queuesHeld = true then d
    else
      let d := d.setCore k { c with lq := rest }
      let j := c.jobOf.getD 0
      let fixed := d.inPairRange cl (r.sa.toNat % 4096)
      let i := r.toIn k j fixed
      let d := d.latchTraffic k cl i.word 8 4
      let reply (d : Dev) (v : Word) (h : Int) : Dev :=
        d.setCore k { d.core k with replies := (d.core k).replies ++ [⟨r.dest, v, h⟩] }
      if !d.reachable cl then
        let d := if r.op = .watch then d else reply d (if r.op = .read then 0 else 0x8000000C) 0
        let d := d.latchRecord cl i 0x0C (srcSeq (clusterOf k))
        let x := r.ximm.toNat
        let d := if r.op = .watch ∧ x / 32 % 2 = 1 then
            d.emit { cls := kLATCH, code := 0x0D, src := srcSeq (clusterOf k), obj := latchAddr cl i.word, issuer := 0x200,
                     detail := 7 + j * 2 ^ 8 + x / 2 ^ 15 % 256 * 2 ^ 16 + 8 * 2 ^ 32 + ((d.lu cl).val i.word).toNat % 2 ^ 16 * 2 ^ 48 }
          else d
        d.failCoreJob k
      else if r.op = .watch then d.latchWatch cl k j r
      else
        let bad := d.wordBad cl i
        let (v, d) := d.latchOp cl i
        let held : Int := if v = 0 ∧ i.hold = 1 then 1 else if v = 0 ∧ i.hold = 2 then -1 else 0
        let d := reply d v (if r.op = .read then 0 else held)
        if bad then d.failCoreJob k else d

/-- The oldest operation that reached the unit from another unit; a forward still under way when the unit became unreachable is lost (R270). -/
def Dev.latchFromInbox (d : Dev) (cl : Nat) : Dev :=
  let l := d.lu cl
  match l.inbox with
  | [] => d
  | m :: rest =>
    let d := d.setLu cl { l with inbox := rest }
    let w := l.word m.word
    let i : LIn := ⟨m.op, 2, 0x201, 0, m.word, m.operand, 0, 0, false, none, false, false⟩
    if !d.reachable cl then d.fwdLost m.fromCluster cl m.word m.operand
    else match (if l.ue.contains m.word then none else d.latchCheck i w) with
    | some _ =>
      let d := d.luCount cl Off.LU_REFUSED 1
      d.emit { cls := kLATCH, code := 0x0B, src := srcLatch cl, obj := latchAddr cl m.word, issuer := 0x201,
               detail := 8 + 2 * 2 ^ 4 + m.fromCluster * 2 ^ 8 + m.fromWord * 2 ^ 16 + w.value.toNat * 2 ^ 32 }
    | none => (d.latchOp cl i).2

/-- A copied PAIR value: the unit sets the IMAGE word when the value is at or past its own (R271); a word in error refuses it (R514). -/
def Dev.imageApply (d : Dev) (cl w : Nat) (v : Word) : Dev :=
  let x := (d.lu cl).word w
  if d.reachable cl = true ∧ (d.lu cl).ue.contains w = true then d.latchUe cl ⟨3, 4, 0x202, 0, w, v, 0, 0, false, none, false, false⟩
  else if d.reachable cl = true ∧ x.kind = 3 ∧ serialGE v x.value = true then
    (d.luCount cl Off.LU_OPS 1).latchStore cl w false { x with value := v }
  else d

/-- LATCH_OP_APPLY: a unit applies one operation, from a core's Latch queue or from its own inputs (R253, R257). -/
def execLatchOpApply (cl : Fin 32) (k : Option (Fin 512)) (s : State) : Out :=
  onDev (fun d => match k with
    | some k => d.latchFromCore cl.val k.val
    | none => d.latchFromInbox cl.val) s

/-- WATCH_TIMEOUT: the i-th registered watch has reached its expiry; it is recorded and completes with TIMEOUT (R261). -/
def execWatchTimeout (cl : Fin 32) (i : Nat) (s : State) : Out :=
  onDev (fun d =>
    let l := d.lu cl.val
    match l.watches[i]? with
    | none => d
    | some w =>
      if d.tick < w.expires then d
      else
        let d := d.luCount cl.val Off.LU_TIMEOUTS 1
        let d := d.emit { cls := kLATCH, code := 0x09, src := srcLatch cl.val, obj := latchAddr cl.val w.word,
                          issuer := if w.batch.isSome then 0xFFFF else w.core,
                          detail := 7 + w.job * 2 ^ 8 + w.cookie % 256 * 2 ^ 16 + (l.val w.word).toNat * 2 ^ 32 }
        let d := d.setLu cl.val { d.lu cl.val with watches := (d.lu cl.val).watches.eraseIdx i }
        d.completeWatch cl.val w 1 true) s

/-- NOTIFICATION_DELIVER: the i-th waiting notification, the first for its core, reaches a mailbox with room; a core in RESET or STOPPED
discards it, a SUSPENDED one keeps it waiting until it is restored, also while another job holds the core (R61, R63, R263). -/
def execNotificationDeliver (cl : Fin 32) (i : Nat) (s : State) : Out :=
  onDev (fun d =>
    let l := d.lu cl.val
    match l.waiting[i]? with
    | none => d
    | some n =>
      let c := d.core n.core
      let first := (l.waiting.take i).all (fun m => m.core != n.core)
      let gone := d.setLu cl.val { l with waiting := l.waiting.eraseIdx i }
      if !first then d
      else if c.state = .reset ∨ c.state = .stopped then gone
      else if c.state = .suspended ∨ c.mbxCount [1] ≥ 3 ∨ (d.job n.job).state = .suspended ∨ (d.job n.job).state = .restoring then d
      else
        let d := gone.clusterPacket cl.val (clusterOf n.core) 16
        d.setCore n.core { d.core n.core with mbx := (d.core n.core).mbx ++ [⟨1, 0x3FF, n.core, n.payload⟩] }) s

/-! ### Host operations and registers (R249, R269, R276) -/

/-- The 64 bits of a word (R247). -/
def LWord.bits (w : LWord) : Nat :=
  w.value.toNat + w.owner * 2 ^ 32 + b2n w.owned * 2 ^ 40 + w.kind * 2 ^ 41 + b2n w.susp * 2 ^ 43 + w.hjob * 2 ^ 44 + w.hcnt * 2 ^ 52

/-- A write of LH_CMD with OP nonzero: the operation of issuer 0x0200 and its result (R276); an unreachable unit answers
UNREACHABLE (R254, R273). -/
def Dev.latchHost (d : Dev) (cl : Nat) (v : Word) : Dev :=
  let b := (Block.latch cl).base
  let op := Fl.LH_CMD_OP.get v
  let kind := Fl.LH_CMD_KIND.get v
  let w := d.fld (b + Off.LH_WORD) Fl.LH_WORD_VALUE
  let x := d.reg (b + Off.LH_OPND)
  let job := Fl.LH_CMD_JOB.get v
  let owned := Fl.LH_CMD_OWNED.get v
  let bad := decide ((kind ≠ 0 ∧ op ≠ 3) ∨ ((owned ≠ 0 ∨ job ≠ 0) ∧ op ≠ 7) ∨ (op = 3 ∧ kind ≥ 2 ∧ d.inPairRange cl w = false)
    ∨ (op = 5 ∧ (x.toNat = 0 ∨ x.toNat ≥ 2 ^ 31)))
  let i : LIn := ⟨op, 3, 0x200, 0, w, x, d.reg (b + Off.LH_OPND2), 0, false, if op = 3 then some kind else none, false, bad⟩
  let put (d : Dev) (n : Nat) : Dev := (d.setReg (b + Off.LH_RESULT_LO) (lo32 n)).setReg (b + Off.LH_RESULT_HI) (hi32 n)
  if op = 0 then d
  else if d.reachable cl = false then put d (if op = 6 then 0 else 0x8000000C)
  else if bad then put ((d.luCount cl Off.LU_REFUSED 1).latchRecord cl i 0x04 (srcLatch cl)) 0x80000005
  else if op = 7 then
    if d.wordBad cl i then put (d.latchUe cl i) 0x8000000C
    else
      let l := d.lu cl
      let y := l.word w
      let y := if owned = 1 then { y with owned := true, owner := job } else { y with owned := false }
      put ((d.luCount cl Off.LU_OPS 1).setLu cl (l.setWord w y)) 0
  else if op = 6 then
    let bits := ((d.lu cl).word w).bits
    let ue := d.wordBad cl i
    let d := (d.latchOp cl i).2
    put d (if ue then 0 else bits)
  else
    let (st, d) := d.latchOp cl i
    put d st.toNat

/-- A write of LU_PAIR (R249, R276): ignored as a whole outside its limits, or while a watch, an enabled forward entry or an enabled
batcher's completion word lies in the old or the new range. Words that enter take their fixed KIND, words that leave become COUNT. -/
def Dev.luPairWrite (d : Dev) (cl : Nat) (v : Word) : Dev :=
  let o := (Block.latch cl).base + Off.LU_PAIR
  let nb := Fl.LU_PAIR_BASE.get v
  let nc := Fl.LU_PAIR_COUNT.get v
  let ob := d.fld o Fl.LU_PAIR_BASE
  let oc := d.fld o Fl.LU_PAIR_COUNT
  let inNew (w : Nat) : Bool := decide (nb ≤ w) && decide (w < nb + nc)
  let inOld (w : Nat) : Bool := decide (ob ≤ w) && decide (w < ob + oc)
  let any (w : Nat) : Bool := inNew w || inOld w
  let l := d.lu cl
  let busy := l.watches.any (fun w => any w.word)
    || (List.range 64).any (fun e =>
        let f := (Block.latch cl).base + Off.FWD_CFG e
        d.fld f Fl.FWD_CFG_EN == 1 && any (d.fld f Fl.FWD_CFG_WORD))
    || (List.range 32).any (fun b => d.batOn b && d.firstCluster (d.batJob b) == cl &&
        (match d.plan (d.batPlan b) with | some p => any (leAt p.header 58 2 % 4096) | none => false))
  if nb % 2 = 1 ∨ nc % 2 = 1 ∨ nc > 64 ∨ nb + nc > 4096 ∨ busy = true then d
  else
    let l := (List.range oc).foldl (fun l i => if inNew (ob + i) then l else l.setWord (ob + i) { l.word (ob + i) with kind := 0 }) l
    let l := (List.range nc).foldl (fun l i => l.setWord (nb + i) { l.word (nb + i) with kind := if (nb + i) % 2 = 0 then 2 else 3 }) l
    (d.setLu cl l).setReg o (wd (nb + nc * 2 ^ 16))

/-- A write of FWD_CFG(e): an enable is refused, with FWD_BAD, where R269 does not allow it; while EN is 1 the other fields are held. -/
def Dev.fwdCfgWrite (d : Dev) (cl e : Nat) (v : Word) : Dev :=
  let b := (Block.latch cl).base
  let o := b + Off.FWD_CFG e
  let want := Fl.FWD_CFG_EN.get v
  if d.fld o Fl.FWD_CFG_EN = 1 then (if want = 0 then d.setFld o Fl.FWD_CFG_EN 0 else d)
  else
    let d := match findReg Map.latch (Off.FWD_CFG e) with
      | some r => (d.setReg o (r.write false v (d.reg o))).setFld o Fl.FWD_CFG_EN 0
      | none => d
    let w := d.fld o Fl.FWD_CFG_WORD
    let kind := ((d.lu cl).word w).kind
    let dop := d.fld o Fl.FWD_CFG_DOP
    if want = 0 then d
    else if (d.fwdOf cl w).isSome ∨ kind = 1 ∨ kind = 3 ∨ (dop = 2 ∧ kind ≠ 2) then d.setFld (b + Off.LU_STATUS) Fl.LU_STATUS_FWD_BAD 1
    else d.setFld o Fl.FWD_CFG_EN 1

/-! ### Forced suspension and the Shutter (R248, R268) -/

/-- Set SUSP on every word a job holds: other jobs' watches on it whose condition does not hold complete with HELD_BY_SUSPENDED (R268). -/
def Dev.suspendHolds (d : Dev) (j : Nat) : Dev :=
  d.each d.latchClusters (fun d cl =>
    let l := d.lu cl
    let held (x : LWord) : Bool := x.hcnt != 0 && x.hjob == j
    let l := { l with words := l.words.map (fun e => if held e.2 then (e.1, { e.2 with susp := true }) else e) }
    (d.setLu cl l).completeWhere cl (fun w => held (l.word w.word) && w.job != j && w.batch.isNone && !l.holdsCond w) 4)

/-- Clear SUSP on a restored job's words (R268, R315). -/
def Dev.resumeHolds (d : Dev) (j : Nat) : Dev :=
  d.each d.latchClusters (fun d cl =>
    let l := d.lu cl
    d.setLu cl { l with words := l.words.map (fun e => if e.2.hcnt != 0 && e.2.hjob == j then (e.1, { e.2 with susp := false }) else e) })

/-- A cluster's Shutter leaves ON: every registered watch completes with UNREACHABLE and its job fails, but for a batch watch, which the
side controller registered; waiting notifications are lost likewise, forwards that had not been applied are lost for their source units, and the
unit is as it opens (R248, R266, R270). A completed watch's notification reaches the host; a core's finds its core stopped. -/
def Dev.latchClose (d : Dev) (cl : Nat) : Dev :=
  let l := d.lu cl
  let note (d : Dev) (word job who cookie : Nat) : Dev :=
    d.emit { cls := kLATCH, code := 0x0C, src := srcLatch cl, obj := latchAddr cl word, issuer := who,
             detail := 7 + job * 2 ^ 8 + cookie % 256 * 2 ^ 16 + (l.val word).toNat * 2 ^ 32 }
  let d := d.setLu cl { l with watches := [], waiting := [], inbox := [] }
  let d := d.each l.watches (fun d w =>
    let d := note d w.word w.job (if w.batch.isSome then 0xFFFF else w.core) w.cookie
    if w.batch.isSome ∨ w.core = 0x200 then d.completeWatch cl w 8 true else d)
  let d := d.each l.waiting (fun d n => note d (leAt n.payload 8 4 % 4096) n.job n.core (leAt n.payload 2 1))
  let d := d.each l.inbox (fun d m => d.fwdLost m.fromCluster cl m.word m.operand)
  let d := d.each (((l.watches.filter (fun w => w.batch.isNone)).map (·.job)) ++ l.waiting.map (·.job)) (fun d j => d.failJob j)
  d.setLu cl Latch.fresh

end Sys2Proof.Machine
end

