-- ==== Sys2Proof/Machine/Dma.lean ====
section
/-! DEFINITION. The DMA engine of a core: descriptors and their checks, units, credits and grants, the weight chain, shift-block conversion, ring operations and SIGNALs, overlay loads (R51, R145–R158, R181–R187, R190–R223). -/

namespace Sys2Proof.Machine

/-! ### The descriptor (R195, R196) -/

/-- A bit of a byte list, numbered from byte 0. -/
def bitsAt (bs : List Byte) (byte lo n : Nat) : Nat := leAt bs byte 1 / 2 ^ lo % 2 ^ n

/-- The fields of a 64 B descriptor. -/
def Desc.parse (b : List Byte) : Desc where
  ty := bitsAt b 0 0 4
  sb := bitsAt b 0 4 1 == 1
  grantOnly := bitsAt b 0 5 1 == 1
  useGrant := bitsAt b 0 6 1 == 1
  cw := bitsAt b 1 0 3
  ringEn := bitsAt b 1 3 1 == 1
  ring := bitsAt b 1 4 4
  ringOp := bitsAt b 2 0 1
  sigOp := bitsAt b 2 1 3
  sigPerHop := bitsAt b 2 4 1 == 1
  elem := bitsAt b 3 0 2
  tiled := bitsAt b 3 2 1 == 1
  len := leAt b 4 4
  src := leAt b 8 8
  dst := leAt b 16 8
  arg0 := leAt b 24 8
  arg1 := leAt b 32 8
  sigAddr := leAt b 40 8
  sigVal := leAt b 48 4
  limit := leAt b 52 4
  tag := leAt b 56 2
  ringCore := leAt b 58 2

/-- COPY's rows, the pieces of GATHER and SCATTER, the blocks of TRANSPOSE; 1 for CHAIN and FILL. -/
def Desc.pieces (x : Desc) : Nat :=
  match x.ty with
  | 0 => x.arg0 % 2 ^ 16 + 1
  | 1 | 2 => x.arg0 % 2 ^ 12 + 1
  | 3 => (x.arg0 % 16 + 1) * (x.arg0 / 2 ^ 8 % 16 + 1)
  | _ => 1

/-- NR/4 and NC/4 of a TRANSPOSE. -/
def Desc.nr4 (x : Desc) : Nat := x.arg0 % 16 + 1
/-- NC/4. -/
def Desc.nc4 (x : Desc) : Nat := x.arg0 / 2 ^ 8 % 16 + 1
/-- The element bytes of a TRANSPOSE. -/
def Desc.eb (x : Desc) : Nat := 2 ^ x.elem
/-- SRC_RS. -/
def Desc.srcRs (x : Desc) : Int := sgn 32 (x.arg1 % 2 ^ 32)
/-- DST_RS. -/
def Desc.dstRs (x : Desc) : Int := sgn 32 (x.arg1 / 2 ^ 32)
/-- STRIDE of GATHER and SCATTER. -/
def Desc.stride (x : Desc) : Nat := x.arg0 / 2 ^ 32
/-- HOPS of a CHAIN. -/
def Desc.hops (x : Desc) : Nat := x.arg0 % 16

/-- The first nonzero byte at offsets `a` to `b - 1`. -/
def firstNonzero (bs : List Byte) (a b : Nat) : Option Nat := ((List.range b).drop a).find? (fun i => leAt bs i 1 != 0)

/-- Whether a device address is one of core `k`'s own memories. -/
def ownMem (k a n : Nat) : Bool := match targetOf a with | .sram c l => c == k && inMem l n | _ => false

/-- The first invalid byte offset of a descriptor issued by core `k` (R195, R196, R203 check 1). -/
def Desc.invalid (x : Desc) (k : Nat) (b : List Byte) : Option Nat :=
  let t := x.ty
  let bad (c : Bool) (o : Nat) : Option Nat := if c then some o else none
  let gs := t == 1 || t == 2
  let tr := t == 3
  [bad (decide (t > 5)) 0,
   bad (bitsAt b 0 7 1 == 1 || (x.sb && t != 0) || ((x.grantOnly || x.useGrant) && !(t == 0 || gs || t == 5))) 0,
   bad (x.ringEn && t == 4) 1,
   bad (decide (x.sigOp ≥ 5) || (x.sigPerHop && t != 4) || bitsAt b 2 5 3 != 0) 2,
   bad (((x.elem != 0 || x.tiled) && !tr) || (tr && x.elem == 3) || bitsAt b 3 3 5 != 0) 3,
   if x.sb || tr then firstNonzero b 4 8 else bad (decide (x.len < 4)) 4,
   if t == 5 then firstNonzero b 12 16 else firstNonzero b 14 16,
   bad (t == 4 && !ownMem k (x.dst % 2 ^ 48) 1) 16,
   bad (x.grantOnly && (match targetOf (x.dst % 2 ^ 48) with | .sram c _ => c == k | _ => true)) 16,
   firstNonzero b 22 24,
   if t == 0 && !x.sb then firstNonzero b 26 32
   else if x.sb || t == 5 then firstNonzero b 24 32
   else if gs then (bad (bitsAt b 25 4 4 != 0) 25).or (firstNonzero b 26 28)
   else if tr then ((bad (bitsAt b 24 4 4 != 0) 24).or (bad (bitsAt b 25 4 4 != 0) 25)).or (firstNonzero b 26 32)
   else (bad (bitsAt b 24 4 4 != 0) 24).or (firstNonzero b 25 32),
   if t == 0 && !x.sb then (if x.pieces = 1 then firstNonzero b 32 40 else none)
   else if x.sb || gs then firstNonzero b 38 40
   else if tr then none else firstNonzero b 32 40,
   if x.sigOp = 0 then firstNonzero b 40 52
   else match targetOf x.sigAddr with
    | .latch _ w => bad (x.sigPerHop && decide (w + x.hops ≥ 4096)) 40
    | _ => some 40,
   if gs then none else firstNonzero b 52 56,
   bad (bitsAt b 59 1 7 != 0) 59,
   firstNonzero b 60 64].findSome? id

/-- The first misaligned field: its byte offset, and whether it is an address (R192, R203 check 2). -/
def Desc.misaligned (x : Desc) : Option (Nat × Option Nat) :=
  let off (c : Bool) (o : Nat) (a : Option Nat) : Option (Nat × Option Nat) := if c then some (o, a) else none
  let gs := x.ty == 1 || x.ty == 2
  [off (x.len % 4 != 0) 4 none,
   off (x.ty != 5 && x.src % 4 != 0) 8 (some x.src),
   off (x.dst % 4 != 0) 16 (some x.dst),
   off (gs && x.stride % 4 != 0) 28 none,
   if gs then off (x.arg1 % 4 != 0) 32 (some x.arg1)
   else if x.sb then off (x.arg1 % 32 != 0) 32 (some x.arg1)
   else off (x.arg1 % 2 ^ 32 % 4 != 0) 32 none,
   off (!gs && !x.sb && x.arg1 / 2 ^ 32 % 4 != 0) 36 none].findSome? id

/-! ### Shift blocks (R145–R158) -/

/-- A shift-block descriptor's fields. -/
structure SbDesc where
  data : Nat
  scale : Nat
  blocks : Nat
  sb4 : Bool
  firstTag : Nat
  pack : Bool
  wide : Bool
  t : Int
  deriving DecidableEq, Repr

/-- The fields of a 32 B SBDESC (R148). -/
def SbDesc.parse (b : List Byte) : SbDesc :=
  ⟨leAt b 0 6, leAt b 8 6, leAt b 16 3, bitsAt b 19 0 2 == 1, bitsAt b 19 2 2, bitsAt b 19 4 1 == 1, bitsAt b 19 5 1 == 1, sgn 8 (leAt b 20 1)⟩

/-- The first invalid byte of an SBDESC (R152). -/
def sbInvalid (b : List Byte) : Option Nat :=
  let bad (c : Bool) (o : Nat) : Option Nat := if c then some o else none
  let t := sgn 8 (leAt b 20 1)
  [bad (leAt b 0 1 % 32 != 0) 0, firstNonzero b 6 8, firstNonzero b 14 16,
   bad (decide (bitsAt b 19 0 2 ≥ 2) || bitsAt b 19 6 2 != 0) 19, bad (decide (t < -32 ∨ 31 < t)) 20, firstNonzero b 21 32].findSome? id

/-- Elements of a block. -/
def SbDesc.n (s : SbDesc) : Nat := if s.sb4 then 64 else 32
/-- Bytes of a plain element. -/
def SbDesc.w (s : SbDesc) : Nat := if s.wide then 4 else 2
/-- Plain bytes of a block. -/
def SbDesc.plainLen (s : SbDesc) : Nat := s.n * s.w
/-- The tag of block `i`. -/
def SbDesc.tag (s : SbDesc) (i : Nat) : Nat := (s.firstTag + i) % 4
/-- The trailer (R147). -/
def SbDesc.trailer (s : SbDesc) : Nat :=
  ((List.range 4).map (fun j => (s.blocks / 2 ^ (6 * j) % 64 + (s.firstTag + s.blocks + j + 2) % 4 * 64) * 2 ^ (8 * j))).foldl (· + ·) 0
/-- The smallest plain value a clamp writes (R138). -/
def SbDesc.lo (s : SbDesc) : Int := if s.wide then -(2 ^ 31 - 1) else -(2 ^ 15)
/-- The largest. -/
def SbDesc.hi (s : SbDesc) : Int := if s.wide then 2 ^ 31 - 1 else 2 ^ 15 - 1

/-- The elements that stored bytes of a block hold. -/
def SbDesc.elems (s : SbDesc) (b : List Byte) : List Int :=
  (List.range (if s.sb4 then 2 * b.length else b.length)).map (fun i => if s.sb4 then sgn 4 (leAt b (i / 2) 1 / (if i % 2 = 1 then 16 else 1)) else sgn 8 (leAt b i 1))

/-- Expansion of a block under its scale byte: the plain bytes and the number of clamped elements (R149). -/
def SbDesc.expand (s : SbDesc) (scale : Nat) (b : List Byte) : List Byte × Nat :=
  let d := sgn 6 scale - s.t
  let exact (v : Int) : Int := if 0 ≤ d then v * 2 ^ d.toNat else rneShift v (-d).toNat
  let vs := (s.elems b).map exact
  (vs.flatMap (fun v => natLE s.w ((clampI s.lo s.hi v) % (2 ^ 32 : Int)).toNat), (vs.filter (fun v => decide (v < s.lo ∨ s.hi < v))).length)

/-- The plain elements of a block. -/
def SbDesc.plain (s : SbDesc) (b : List Byte) : List Int := (List.range s.n).map (fun i => sgn (8 * s.w) (leAt b (s.w * i) s.w))

/-- Packing of a block: its scale byte for index `i`, its data bytes, whether its exponent was limited to 31, and the clamped elements
(R150). -/
def SbDesc.packBlock (s : SbDesc) (i : Nat) (b : List Byte) : Nat × List Byte × Bool × Nat :=
  let xs := s.plain b
  let a := (xs.map Int.natAbs).foldl max 0
  let q : Int := if s.sb4 then 7 else 127
  let n := ((List.range 33).find? (fun n => decide (rneShift a n ≤ q))).getD 32
  let lim := decide (s.t + n > 31)
  let e : Int := if lim then 31 else s.t + n
  let ys := xs.map (fun x => rneShift x (e - s.t).toNat)
  let lo : Int := if s.sb4 then -8 else -128
  let hi : Int := if s.sb4 then 7 else 127
  let zs := ys.map (clampI lo hi)
  let bytes := if s.sb4 then
      (List.range 32).map (fun j => BitVec.ofInt 8 ((zs.getD (2 * j) 0) % 16 + 16 * ((zs.getD (2 * j + 1) 0) % 16)))
    else zs.map (BitVec.ofInt 8)
  ((e % 64).toNat + s.tag i * 64, bytes, lim, (ys.filter (fun y => decide (y < lo ∨ hi < y))).length)

/-! ### Records and stops (R153, R220, R221) -/

/-- The transfer with a number. -/
def Core.xfer (c : Core) (x : Nat) : Option Xfer := c.xfers.find? (fun t => t.id == x)

/-- Replace a transfer. -/
def Dev.setXfer (d : Dev) (k : Nat) (t : Xfer) : Dev :=
  d.setCore k { d.core k with xfers := (d.core k).xfers.map (fun u => if u.id == t.id then t else u) }

/-- Remove a transfer. -/
def Dev.dropXfer (d : Dev) (k x : Nat) : Dev := d.setCore k { d.core k with xfers := (d.core k).xfers.filter (fun u => u.id != x) }

/-- The hops of a transfer of core `k` leave the cores that would forward them (R212, R220). -/
def Dev.dropChain (d : Dev) (k x : Nat) : Dev :=
  { d with cores := d.cores.map (fun e => (e.1, if clusterOf e.1 = clusterOf k then
      { e.2 with fwdQ := e.2.fwdQ.filter (fun q => !(q.1 == k && q.2.1 == x)) } else e.2)) }

/-- The wait of core `k` for a tag ends: its cycles are counted (R208). -/
def Dev.tagDone (d : Dev) (k : Nat) : Dev :=
  match (d.core k).tagSince with
  | none => d
  | some _ => (d.setCore k { d.core k with tagSince := none }).onCore k (fun c => c.bump Off.DMA_TAG_WAIT (d.tagWaited k))

/-- A DMA record (R221). `e` is the core whose engine writes it. -/
def Dev.dmaRecord (d : Dev) (e : Nat) (t : Xfer) (code obj hop det : Nat) : Dev :=
  d.emit { cls := kDMA, code := code, src := srcDma e, obj := obj, issuer := e,
           detail := t.desc.tag + t.desc.ty % 16 * 2 ^ 16 + hop % 16 * 2 ^ 20 + det % 2 ^ 32 * 2 ^ 32 }

/-- The core whose engine forwards to hop `hop` of a chain of core `k`. -/
def Xfer.hopSender (t : Xfer) (k hop : Nat) : Nat := if hop ≤ 1 then k else (t.hops.map (·.core)).getD (hop - 2) k

/-- Whether no unit of a transfer is in flight, to its own destination or along its chain. -/
def Xfer.still (t : Xfer) : Bool := t.flights.isEmpty && t.hops.all (fun h => h.flying.isEmpty)

/-- A transfer stops: units in flight complete, none issues, the waits of its cores for a tag end, and neither its ring operation nor its SIGNAL is applied
(R208, R220). Scale bytes of a packing that still wait for their word go with it, unwritten (R153, R192; DESIGN CHOICE, log entry 61). -/
def Dev.xferFail (d : Dev) (k x : Nat) : Dev :=
  match (d.core k).xfer x with
  | some t =>
    let ks := (d.cores.filter (fun e => e.1 == k || e.2.fwdQ.any (fun q => q.1 == k && q.2.1 == x))).map (·.1)
    let d := (d.each ks Dev.tagDone).dropChain k x
    if t.still then d.dropXfer k x else d.setXfer k { t with failed := true }
  | none => d

/-- A stop code of class DMA. -/
def Dev.dmaStop (d : Dev) (k : Nat) (t : Xfer) (code obj det : Nat) : Dev :=
  ((d.dmaRecord k t code obj 0 det).xferFail k t.id).failCoreJob k

/-- A stop by an uncorrectable read (R173, R234, R444). -/
def Dev.dmaEcc (d : Dev) (k x code addr : Nat) : Dev :=
  let d := if code = 0x02 then
      match targetOf addr with
      | .sram h g => d.sramRecord 0x02 (srcDma k) k h g
      | _ => d
    else if code = 0x07 then
      let (y, d) := d.free
      d.emit { cls := kECC, code := 0x07, src := srcDma k, obj := addr, issuer := k, detail := 6 + d.jobNum k * 2 ^ 8 + y.toNat * 2 ^ 32 }
    else d.hbmRecord 0x04 (srcDma k) k (d.jobNum k) addr
  (d.xferFail k x).failCoreJob k

/-- A FORMAT record (R158). -/
def Dev.formatRecord (d : Dev) (k : Nat) (t : Xfer) (code det : Nat) : Dev :=
  d.emit { cls := kFORMAT, code := code, src := srcDma k, obj := t.desc.arg1 % 2 ^ 48, issuer := k, detail := det }

/-- A stop of class FORMAT (R153). -/
def Dev.formatStop (d : Dev) (k : Nat) (t : Xfer) (code det : Nat) : Dev :=
  ((d.formatRecord k t code det).xferFail k t.id).failCoreJob k

/-! ### Reads and writes of the engine (R173, R192, R202, R234) -/

/-- What a read returns: bytes, a host address to read from, or an uncorrectable error. -/
inductive Got where
  | bytes (bs : List Byte)
  | host (a : Nat)
  | ue (code addr : Nat)
  deriving DecidableEq, Repr

/-- Read `n` bytes that R202 allows. -/
def Dev.dmaGet (d : Dev) (k a n : Nat) : Got × Dev :=
  match targetOf a with
  | .hbm _ _ => ((match d.hbmBad a n with | some g => .ue 0x04 g | none => .bytes (d.hbmBytes a n)), d.hbmCheck a n)
  | .sram c l => ((match (d.core c).ueIn l n with | some g => .ue 0x02 (coreAddr c g) | none => .bytes ((d.core c).bankN l n)),
      d.onCore c (fun x => x.noteRead l n))
  | .creg c o =>
    let r := (List.range (n / 4)).foldl (fun (a : List Byte × Dev) i =>
      ((a.1 ++ natLE 4 (a.2.windowRead c (o + 4 * i)).1.toNat), (a.2.windowRead c (o + 4 * i)).2)) ([], d)
    (.bytes r.1, r.2)
  | .host => (.host ((d.hostAddr (d.clientOf k) a n false).getD 0), d)
  | _ => (.bytes [], d)

/-- Whether core `k` or a target lies on a contained side, between which and the other side nothing passes (R21, R242). -/
def Dev.cutOff (d : Dev) (k a : Nat) : Bool :=
  d.contained (sideOf k) || (match targetOf a with
    | .hbm s _ => d.contained s
    | .sram c _ | .creg c _ => d.contained (sideOf c)
    | _ => false)

/-- Land bytes at a device address: HBM, a core's memories through its gather buffer, the core's own registers, or host memory at the address `host` that its
window gave. Where its own packet's error contains a side on the way, nothing lands there (R231, R242). `meet` is not 0 where a scratchpad's write falls
into the cycle of the core's latest writes (R179, R180). -/
def Dev.dmaLand (d : Dev) (k meet : Nat) (host : Option Nat) (a : Nat) (bs : List Byte) : Dev :=
  let d := d.coreTraffic k a bs.length 0
  if d.cutOff k a then d
  else match targetOf a with
    | .hbm _ _ => d.hbmWrite (srcDma k) (some k) a bs
    | .sram c l => d.onCore c (fun x => x.dmaWrite (k + 1) (d.cycles c) meet l bs)
    | .creg c o => d.each (List.range (bs.length / 4)) (fun d i => d.windowWrite c (o + 4 * i) (wd (leAt bs (4 * i) 4)))
    | .host => match host with
      | some h => { d with host := d.host.write h bs }
      | none => d
    | _ => d

/-- Where the packets of core `k` for an address go: another core, a stack, or the host; its own scratchpad needs none. -/
def destNode (k a : Nat) : Option Nat :=
  match targetOf a with
  | .hbm s _ => some s
  | .host => some 2
  | .sram c _ => if c = k then none else some (3 + c)
  | _ => none

/-- Whether a write of core `k` that went out before its write number `n` is still on its way to a destination: packets from one source to one destination
arrive in the order sent (R18, R230). -/
def Dev.underWay (d : Dev) (k n : Nat) (g : Option Nat) : Bool :=
  g.isSome && ((d.core k).xfers.any (fun t => t.flights.any (fun f => f.sent && decide (f.seq < n) && destNode k f.dst == g))
    || d.cores.any (fun e => clusterOf e.1 == clusterOf k && e.2.xfers.any (fun t => (t.hops.mapIdx (fun i h => (i, h))).any (fun p =>
        t.hopSender e.1 (p.1 + 1) == k && p.2.flying.any (fun m => decide (m < n)) && destNode k (coreAddr p.2.core 0) == g))))

/-- An address as an exact integer: outside 48 bits it reaches nothing. -/
def Dev.reachI (d : Dev) (k : Nat) (wr : Bool) (cw : Nat) (a : Int) (n : Nat) : Option (Nat × Nat) :=
  if a < 0 ∨ a + n > 2 ^ 48 then some (0x02, (a % 2 ^ 48).toNat)
  else (d.dmaReach k wr cw a.toNat n).map (fun c => (c, a.toNat))

/-- The first and the last byte of a range (R203 check 3). -/
def Dev.endsFail (d : Dev) (k : Nat) (wr : Bool) (cw : Nat) (a : Int) (n : Nat) : Option (Nat × Nat) :=
  (d.reachI k wr cw a 1).or (d.reachI k wr cw (a + n - 1) 1)

/-- The ranges of a descriptor that can be computed before its units (R203 check 3). -/
def Dev.descRanges (d : Dev) (k : Nat) (x : Desc) (sb : Option SbDesc) : Option (Nat × Nat) :=
  let rd (a : Int) (n : Nat) := d.endsFail k false x.cw a n
  let wr (a : Int) (n : Nat) := d.endsFail k true x.cw a n
  match sb with
  | some s =>
    let plain := s.blocks * s.plainLen
    if s.pack then
      (((if plain = 0 then none else rd x.src plain).or (if s.blocks = 0 then none else wr s.data (32 * s.blocks)))).or (wr s.scale (s.blocks + 4))
    else (((if s.blocks = 0 then none else rd s.data (32 * s.blocks)).or (rd s.scale (s.blocks + 4)))).or (if plain = 0 then none else wr x.dst plain)
  | none =>
    match x.ty with
    | 0 => (List.range x.pieces).findSome? (fun i => (rd (x.src + i * x.srcRs) x.len).or (wr (x.dst + i * x.dstRs) x.len))
    | 1 => (rd (x.arg1 % 2 ^ 48 : Nat) (4 * x.pieces)).or (wr x.dst (x.pieces * x.len))
    | 2 => (rd (x.arg1 % 2 ^ 48 : Nat) (4 * x.pieces)).or (rd x.src (x.pieces * x.len))
    | 3 =>
      ((List.range (4 * x.nr4)).findSome? (fun i => rd (x.src + i * x.srcRs) (4 * x.nc4 * x.eb))).or
        (if x.tiled then (List.range x.nc4).findSome? (fun p => wr (x.dst + p * x.dstRs) (x.nr4 * 16 * x.eb))
         else (List.range (4 * x.nc4)).findSome? (fun j => wr (x.dst + j * x.dstRs) (4 * x.nr4 * x.eb)))
    | 4 => (rd x.src x.len).or (wr x.dst x.len)
    | _ => wr x.dst x.len

/-- The cores of a CHAIN beyond its first: the next cores of the cluster that belong to the job (R210). -/
def Dev.chainCores (d : Dev) (k : Nat) : List Nat :=
  (List.range 16).filterMap (fun i => let n := clusterOf k * 16 + i; if n > k && d.sameJob k n then some n else none)

/-! ### Credits (R183, R204, R205) -/

/-- The other core whose scratchpad an address lies in. -/
def remoteOf (k a : Nat) : Option Nat :=
  match targetOf a with
  | .sram c _ => if c = k then none else some c
  | _ => none

/-- The credits of a byte count. -/
def creditsFor (n : Nat) : Nat := (n + 255) / 256

/-- The indices of a list that have come, when all have (R199). -/
def Xfer.indices (t : Xfer) : Option (List Nat) := if t.list.length < t.desc.pieces then none else some (t.list.filterMap (fun i => i))

/-- The bytes a transfer asks credits for; a SCATTER's once its whole list has come (R204, R205). -/
def Xfer.creditBytes (t : Xfer) (k : Nat) : Nat :=
  let x := t.desc
  if x.grantOnly then x.len
  else if x.sb then
    let s := SbDesc.parse t.sbdesc
    if s.pack then (if (remoteOf k s.data).isSome then 32 * s.blocks else 0) + (if (remoteOf k s.scale).isSome then s.blocks + 4 else 0)
    else s.blocks * s.plainLen
  else match x.ty with
    | 2 => x.len * (((t.indices).getD []).filter (fun i => i != 0xFFFFFFFF)).length
    | 3 => x.pieces * 16 * x.eb
    | _ => x.pieces * x.len

/-- The other core whose window a transfer writes through, as far as its descriptor tells. -/
def Xfer.target (t : Xfer) (k : Nat) : Option Nat :=
  let s := SbDesc.parse t.sbdesc
  if t.desc.sb && s.pack then (remoteOf k s.data).or (remoteOf k s.scale) else remoteOf k t.desc.dst

/-- Put a request at a window for a write that begins at `a` (R183): refused at once when it can never be granted. -/
def Dev.askCredit (d : Dev) (k : Nat) (t : Xfer) (recv n hop a : Nat) : Dev :=
  let c := d.core recv
  let w := t.desc.cw
  let q := Tab.get [] c.cwq w
  let sender := t.hopSender k hop
  if c.fld (Off.CW_CFG w) Fl.CW_CFG_EN = 0 ∨ n > c.fld (Off.CW_CFG w) Fl.CW_CFG_SIZE then
    ((d.dmaRecord sender t 0x04 a hop 0).xferFail k t.id).failCoreJob k
  else
    let d := d.setCore recv { c with cwq := Tab.set [] c.cwq w (q ++ [⟨sender, t.id, n, hop, d.tick, Tab.get 0 d.sideCyc (sideOf sender)⟩]) }
    if hop = 0 then d.setXfer k { t with credit := .waiting, recv := some recv }
    else d.setXfer k { t with hops := t.hops.mapIdx (fun i h => if i + 1 = hop then { h with credit := .waiting } else h) }

/-- Ring operation of a completing transfer (R217). -/
def Dev.ringOp (d : Dev) (k : Nat) (t : Xfer) : Dev :=
  let x := t.desc
  if !x.ringEn then d
  else
    let o := x.ringCore % 512
    let r := x.ring
    let c := d.core o
    let st := c.ringSt r
    let n := c.ringSlots r
    let obj := o + r * 2 ^ 16
    if x.ringOp = 0 then
      if c.ringEn r = true ∧ c.ringMode r = 1 ∧ c.ringRoom r = true then
        d.setCore o (c.setRingSt r { st with tail := (st.tail + 1) % n, filled := st.filled + 1 })
      else (d.setCore o (c.setFld (Off.RING_STATUS r) Fl.RING_STATUS_OVER 1)).dmaRecord k t 0x0A obj 0 0
    else
      if c.ringEn r = true ∧ c.ringMode r = 2 ∧ st.filled > 0 then
        d.setCore o (c.setRingSt r { st with head := (st.head + 1) % n, filled := st.filled - 1 })
      else (d.setCore o (c.setFld (Off.RING_STATUS r) Fl.RING_STATUS_UNDER 1)).dmaRecord k t 0x0B obj 0 0

/-- The event of a conversion that clamped an element or limited an exponent (R156). -/
def Dev.convEvent (d : Dev) (k : Nat) (t : Xfer) : Dev :=
  let pack := (SbDesc.parse t.sbdesc).pack
  if t.desc.sb = true ∧ pack = false ∧ t.clamped > 0 then d.formatRecord k t 0x04 t.clamped
  else if t.desc.sb = true ∧ pack = true ∧ t.limited > 0 then d.formatRecord k t 0x05 (t.limited + t.clamped * 2 ^ 32)
  else d

/-- Steps 3 to 5 of R194: the ring operation, the SIGNAL, DMA_DONE; then a conversion's event is recorded (R156). A SIGNAL at a contained side stops
the transfer instead (R242). -/
def Dev.finishXfer (d : Dev) (k : Nat) (t : Xfer) : Dev :=
  let x := t.desc
  let sigSide := match targetOf x.sigAddr with | .latch cl _ => cl / 16 | _ => 0
  if x.sigOp ≠ 0 ∧ d.contained sigSide = true then d.dmaStop k t 0x06 x.sigAddr 0
  else
    let d := (d.dropXfer k t.id).dropChain k t.id
    let d := d.ringOp k t
    let d := if x.sigOp ≠ 0 ∧ x.sigPerHop = false then d.signal k x.sigOp x.sigAddr (wd x.sigVal) else d
    (d.onCore k (fun c => c.bump Off.DMA_DONE 1)).convEvent k t

/-! ### The start of a transfer (R190, R203, R205, R210) -/

/-- A transfer as it starts. -/
def Xfer.new (id at_ : Nat) (raw : List Byte) (x : Desc) (ovl : Option (Nat × Nat × Nat)) (hops : List Hop) (sbdesc : List Byte) : Xfer :=
  ⟨id, at_, raw, x, ovl, 0, 0, [], .none, [], [], hops, sbdesc, 0, 0, false, [], 0, 0, (0, 0), none, 0, [], []⟩

/-- The first byte of an SB descriptor's must-be-0 SRC or DST that is not: SRC of an expansion, DST of a packing (R196, R198). -/
def sbInvalidAt (pack : Bool) (b : List Byte) : Option Nat := if pack then firstNonzero b 16 22 else firstNonzero b 8 14

/-- The lesser of two offsets, where there are any. -/
def firstOf : Option Nat → Option Nat → Option Nat
  | some a, some b => some (min a b)
  | a, b => a.or b

/-- A descriptor with USE_GRANT takes the oldest grant that its core holds for the receiver and the window (R205). -/
def Dev.attachGrant (d : Dev) (k : Nat) (t : Xfer) (recv : Nat) : Dev :=
  let obj := recv + t.desc.cw * 2 ^ 16
  match (d.core k).grants.find? (fun g => g.core == recv && g.win == t.desc.cw) with
  | none => d.dmaStop k t 0x09 obj 2
  | some g =>
    if g.credits < creditsFor (t.creditBytes k) then d.dmaStop k t 0x09 obj 3
    else (d.setCore k { d.core k with grants := (d.core k).grants.erase g }).setXfer k { t with credit := .granted, recv := some recv, held := g.credits }

/-- The grant rules of R205 and R210 on a descriptor that has passed its checks. A SCATTER takes its grant once its list has told which core it writes. -/
def Dev.startGrants (d : Dev) (k : Nat) (t : Xfer) : Dev :=
  let x := t.desc
  let chain := d.chainCores k
  let recv := (t.target k).getD k
  let obj := recv + x.cw * 2 ^ 16
  let n := creditsFor (t.creditBytes k)
  if x.ty = 4 ∧ chain.length < x.hops then d.dmaStop k t 0x08 (chain.getLastD k) 0
  else if x.grantOnly then
    if (d.core k).grants.length ≥ 8 then d.dmaStop k t 0x09 obj 1 else d.askCredit k t recv n 0 x.dst
  else if x.useGrant = true ∧ x.ty ≠ 2 then d.attachGrant k t recv
  else if x.ty = 4 then d.setXfer k { t with hops := (chain.take x.hops).map (fun c => ⟨c, 0, [], .none, false⟩) }
  else d.setXfer k { t with recv := if x.ty = 2 then none else t.target k }

/-- The checks of R203 on a descriptor that has just started, in order, then its grants. The SBDESC of a conversion is read first, where it lies as R198
asks, since check 1 depends on its direction. -/
def Dev.startDesc (d : Dev) (k : Nat) (b : List Byte) (t : Xfer) : Dev :=
  let x := t.desc
  let there : Bool := ownMem k x.arg1 32 && memOf (x.arg1 % 2 ^ 24) == 2 && x.arg1 % 32 == 0
  let (got, d) := if x.ty = 0 ∧ x.sb = true ∧ there = true then d.dmaGet k (x.arg1 % 2 ^ 48) 32 else (.bytes [], d)
  let sbb := match got with | .bytes bs => bs | _ => []
  let s := SbDesc.parse sbb
  match firstOf (x.invalid k b) (if sbb.isEmpty then none else sbInvalidAt s.pack b) with
  | some o => d.dmaStop k t 0x01 t.at_ o
  | none =>
    match x.misaligned with
    | some (o, a) => d.dmaStop k t 0x03 (a.getD t.at_) o
    | none =>
      if x.ringEn = true ∧ ¬ (d.sameJob k x.ringCore = true) then d.dmaStop k t 0x02 (coreAddr x.ringCore (0xC00000 + Off.RING_CFG x.ring)) 0
      else if x.sb = true ∧ there = false then d.dmaStop k t 0x02 (x.arg1 % 2 ^ 48) 0
      else match got with
        | .ue code a => d.dmaEcc k t.id code a
        | _ =>
          let t := { t with sbdesc := sbb }
          let d := d.setXfer k t
          if x.sb = true ∧ (sbInvalid sbb).isSome then d.formatStop k t 0x03 ((sbInvalid sbb).getD 0)
          else match d.descRanges k x (if x.sb then some s else none) with
            | some (code, a) => d.dmaStop k t code a 0
            | none => d.startGrants k t

/-- DMA_TRANSFER_START: the head of the DMA queue starts while fewer than four transfers run (R190, R203). An overlay load counts among them, and
holds no tags (DESIGN CHOICE, log entry 55). -/
def execDmaTransferStart (k : Fin 512) (s : State) : Out :=
  onDev (fun d =>
    let c := d.core k.val
    if c.xfers.length ≥ 4 ∨ c.queuesHeld = true ∨ c.state = .reset ∨ d.contained (sideOf k.val) = true then d
    else match c.dq with
      | [] => d
      | .desc b a :: rest =>
        let t := Xfer.new (c.nextXfer + 1) a b (Desc.parse b) none [] []
        let d := d.setCore k.val { c with dq := rest, nextXfer := c.nextXfer + 1, xfers := c.xfers ++ [t] }
        d.startDesc k.val b t
      | .ovl src seg n :: rest =>
        let t := Xfer.new (c.nextXfer + 1) 0 [] (Desc.parse []) (some (src, seg, n)) [] []
        let d := d.setCore k.val { c with dq := rest, nextXfer := c.nextXfer + 1, xfers := c.xfers ++ [t] }
        if src % 4 ≠ 0 then d.dmaStop k.val t 0x03 src 0
        else match d.dmaReach k.val false 0 src (4096 * n) with
          | some code => d.dmaStop k.val t code src 0
          | none => d) s

/-- The oldest overlay load of a core that has not failed. -/
def Core.overlay (c : Core) : Option Xfer := c.xfers.find? (fun t => t.ovl.isSome && !t.failed)

/-- The first packet of an overlay load's current segment lands: the segment's valid bit clears (R51). -/
def Dev.overlayPacket (d : Dev) (k : Nat) (t : Xfer) : Dev :=
  match t.ovl with
  | some (_, seg, _) =>
    (d.onCore k (fun c => c.setReg Off.IMEM_VALID (c.reg Off.IMEM_VALID &&& ~~~ (wd (2 ^ (seg + t.piece)))))).setXfer k { t with off := 1 }
  | none => d

/-- OVERLAY_SEGMENT_LANDED: the oldest overlay load lands its segment: its bundles, its valid bit and OVL_SRC (R51). A source in host memory gives the
bytes `host` that came with the command, or an error when none came (log entry 7). -/
def execOverlaySegmentLanded (k : Fin 512) (host : List Byte) (s : State) : Out :=
  onDev (fun d =>
    match (d.core k.val).overlay with
    | none => d
    | some t => match t.ovl with
      | none => d
      | some (src, seg, n) =>
        let a := src + 4096 * t.piece
        let g := seg + t.piece
        if d.underWay k.val (d.core k.val).sentN (destNode k.val a) then d
        else match d.dmaReach k.val false 0 a 4096 with
        | some code => d.dmaStop k.val t code a 0
        | none =>
          let d := (d.each (ranges256 a 4096) (fun d p => d.coreTraffic k.val p.1 0 p.2)).overlayPacket k.val t
          let isHost := targetOf a == .host
          let (got, d) := if isHost then ((if host.length = 4096 then .bytes host else .ue 0x07 a : Got), d) else d.dmaGet k.val a 4096
          match got with
          | .bytes bs =>
            let d := d.onCore k.val (fun c =>
              let c := { c with imem := c.imem.write (4096 * g) bs, imemBad := c.imemBad.filter (fun b => b / 256 != g) }
              ((c.setReg Off.IMEM_VALID (c.reg Off.IMEM_VALID ||| wd (2 ^ g))).setReg (Off.OVL_SRC_LO g) (lo32 a)).setReg (Off.OVL_SRC_HI g) (hi32 a))
            if t.piece + 1 < n then d.setXfer k.val { t with piece := t.piece + 1, off := 0 } else d.dropXfer k.val t.id
          | .ue code e => (if isHost then d.hostErr else d).dmaEcc k.val t.id code e
          | .host _ => d) s

/-! ### Units (R191, R199–R201, R208) -/

/-- The number of pieces of a transfer: shift-block transfers have one per block and one for the trailer. -/
def Xfer.total (t : Xfer) : Nat := if t.desc.sb then (SbDesc.parse t.sbdesc).blocks + 1 else t.desc.pieces

/-- Whether every unit has issued. -/
def Xfer.issued (t : Xfer) : Bool := decide (t.total ≤ t.piece)

/-- The bytes of the next unit: up to the next 256 B boundary of either address (R191). -/
def unitLen (rem : Nat) (src dst : Option Nat) : Nat :=
  let cut (a : Option Nat) : Nat := match a with | some a => 256 - a % 256 | none => rem
  min rem (min (cut src) (cut dst))

/-- The source rows of a TRANSPOSE block. -/
def Desc.blockRows (x : Desc) (b : Nat) : List Int :=
  let bi := b / x.nc4
  let bj := b % x.nc4
  (List.range 4).map (fun (r : Nat) => (x.src : Int) + (4 * bi + r : Nat) * x.srcRs + (4 * bj * x.eb : Nat))

/-- The destinations of a block of a shift-block or TRANSPOSE transfer: addresses as exact integers, and lengths (R148, R201). -/
def Xfer.blockDests (t : Xfer) (i : Nat) : List (Int × Nat) :=
  let x := t.desc
  if x.sb then
    let s := SbDesc.parse t.sbdesc
    if s.pack then (if i < s.blocks then [((s.scale + i : Nat), 1), ((s.data + 32 * i : Nat), 32)] else [((s.scale + i : Nat), 4)])
    else if i < s.blocks then [((x.dst + i * s.plainLen : Nat), s.plainLen)] else []
  else
    let e := x.eb
    let bi := i / x.nc4
    let bj := i % x.nc4
    if x.tiled then [((x.dst : Int) + bj * x.dstRs + (bi * 16 * e : Nat), 16 * e)]
    else (List.range 4).map (fun j => ((x.dst : Int) + (4 * bj + j : Nat) * x.dstRs + (4 * bi * e : Nat), 4 * e))

/-- The source address of element `n`, in row-major order, of a TRANSPOSE block. -/
def Xfer.elemSrc (t : Xfer) (i n : Nat) : Int := (t.desc.blockRows i).getD (n / 4) 0 + (n % 4 * t.desc.eb : Nat)

/-- The destination address of element `n` of a TRANSPOSE block (R201). -/
def Xfer.elemDst (t : Xfer) (i n : Nat) : Int :=
  match t.blockDests i with
  | [a] => a.1 + ((4 * (n % 4) + n / 4) * t.desc.eb : Nat)
  | as => (as.getD (n % 4) (0, 0)).1 + (n / 4 * t.desc.eb : Nat)

/-- The units of a TRANSPOSE block: the elements whose source and destination lie in the same 256 B-aligned pieces (R191). -/
def Xfer.elemUnits (t : Xfer) (i : Nat) : List (List Nat) :=
  let key (n : Nat) : Int × Int := (t.elemSrc i n / 256, t.elemDst i n / 256)
  (((List.range 16).map key).eraseDups).map (fun q => (List.range 16).filter (fun n => key n == q))

/-- The pieces of the plain side of a shift-block block (R191). -/
def Xfer.plainUnits (t : Xfer) (i : Nat) : List (Nat × Nat) :=
  let s := SbDesc.parse t.sbdesc
  ranges256 ((if s.pack then t.desc.src else t.desc.dst) + i * s.plainLen) s.plainLen

/-- The last bytes of a packing's scale stream that wait with the trailer for their word: their address and length (R147, R192). -/
def SbDesc.tail (s : SbDesc) : Nat × Nat :=
  let lo := max s.scale ((s.scale + s.blocks) / 4 * 4)
  (lo, s.scale + s.blocks + 4 - lo)

/-- The number of units of a block: the pieces into which the 256 B boundaries of its source and destination addresses cut it; a packing writes each word
of its scale stream by a unit of its own (R191, R192). -/
def Xfer.blockUnits (t : Xfer) (i : Nat) : Nat :=
  let s := SbDesc.parse t.sbdesc
  if t.desc.sb = false then (t.elemUnits i).length
  else if i < s.blocks then (t.plainUnits i).length + b2n (s.pack && (s.scale + i + 1) % 4 == 0)
  else if s.pack then (ranges256 s.tail.1 s.tail.2).length else 1

/-- What unit `u` of block `i` reads (R149–R151, R191, R201). -/
def Xfer.blockReads (t : Xfer) (i u : Nat) : List (Int × Nat) :=
  let s := SbDesc.parse t.sbdesc
  if t.desc.sb = false then
    (List.range 4).filterMap (fun r =>
      match ((t.elemUnits i).getD u []).filter (fun n => n / 4 == r) with
      | [] => none
      | n :: ns => some (t.elemSrc i n, t.desc.eb * (ns.length + 1)))
  else if s.blocks ≤ i then []
  else match (t.plainUnits i)[u]? with
    | none => []
    | some p =>
      if s.pack then [((p.1 : Int), p.2)]
      else
        let per := if s.sb4 then 2 * s.w else s.w
        [(((s.data + 32 * i + (p.1 - (t.desc.dst + i * s.plainLen)) / per : Nat) : Int), p.2 / per)]

/-- Where unit `u` of block `i` writes: its lowest address, and how far its writes reach. -/
def Xfer.unitDst (t : Xfer) (i u : Nat) : Nat × Nat :=
  let s := SbDesc.parse t.sbdesc
  if t.desc.sb = false then
    let as := ((t.elemUnits i).getD u []).map (fun n => (t.elemDst i n).toNat)
    let lo := as.min?.getD 0
    (lo, as.foldl max lo - lo + t.desc.eb)
  else if s.pack then
    if i < s.blocks then (if u < (t.plainUnits i).length then (s.data + 32 * i, 32) else (max s.scale (s.scale + i - 3), min 4 (i + 1)))
    else (ranges256 s.tail.1 s.tail.2).getD u (0, 0)
  else (t.plainUnits i).getD u (0, 0)

/-- The bytes of one piece, or the units of one block. -/
def Xfer.pieceLen (t : Xfer) : Nat := if t.desc.sb || t.desc.ty == 3 then t.blockUnits t.piece else t.desc.len

/-- The cursor moved by `n` bytes, or by `n` units of a block. -/
def Xfer.advance (t : Xfer) (n : Nat) : Xfer :=
  if t.off + n < t.pieceLen then { t with off := t.off + n } else { t with piece := t.piece + 1, off := 0 }

/-- The bytes of the scale stream or the index list that the next piece needs to have been read: up to the index or scale byte of the piece, or the whole
trailer; none where the transfer has no list (R151, R199). -/
def Xfer.listNeed (t : Xfer) : Nat :=
  if t.desc.sb then
    let s := SbDesc.parse t.sbdesc
    if s.pack then 0 else if t.piece < s.blocks then t.piece + 1 else s.blocks + 4
  else if t.desc.ty = 1 ∨ t.desc.ty = 2 then 4 * t.desc.pieces else 0

/-- The address and the length of a transfer's list. -/
def Xfer.listRange (t : Xfer) : Nat × Nat :=
  if t.desc.sb then ((SbDesc.parse t.sbdesc).scale, (SbDesc.parse t.sbdesc).blocks + 4) else (t.desc.arg1 % 2 ^ 48, 4 * t.desc.pieces)

/-- The list's element for a piece, if it has come: none inside for one whose read failed. -/
def Xfer.item (t : Xfer) (i : Nat) : Option (Option Nat) := t.list[i - t.listAt]?

/-- The next unit of a plain transfer: source, if it reads, destination and bytes; a hole of a GATHER reads nothing, as a FILL does (R191, R199). -/
def Xfer.span (t : Xfer) : Option Int × Int × Nat :=
  let x := t.desc
  let i := t.piece
  let o := t.off
  let idx := ((t.item i).getD none).getD 0
  let (src, dst) : Option Int × Int := match x.ty with
    | 0 => (some (x.src + i * x.srcRs + o), x.dst + i * x.dstRs + o)
    | 1 => (if idx = 0xFFFFFFFF then none else some (x.src + idx * x.stride + o : Nat), (x.dst + i * x.len + o : Nat))
    | 2 => (some (x.src + i * x.len + o : Nat), (x.dst + idx * x.stride + o : Nat))
    | 5 => (none, (x.dst + o : Nat))
    | _ => (some (x.src + o : Nat), (x.dst + o : Nat))
  (src, dst, unitLen (x.len - o) (src.map Int.toNat) (some dst.toNat))

/-- Whether a SCATTER piece must wait, since an earlier piece that overlaps it is still in flight (R200). -/
def Xfer.heldBack (t : Xfer) : Bool :=
  let (_, dst, n) := t.span
  t.desc.ty == 2 && t.flights.any (fun f => !f.list && decide (f.dst < dst.toNat + n) && decide (dst.toNat < f.dst + f.len))

/-- The tags that the next unit of a transfer takes, none where nothing can issue now. A conversion goes unit by unit; the pieces of a list wait for
their index; a skipped hole and the check of a trailer take no tag (R151, R191, R199, R208). -/
def Xfer.nextTags (t : Xfer) : Option Nat :=
  let x := t.desc
  if t.failed = true ∨ t.ovl.isSome = true ∨ x.grantOnly = true ∨ t.issued = true then none
  else if t.listOff < t.listNeed ∧ (x.sb = true → t.flights = []) then some 1
  else if x.sb then
    if t.flights ≠ [] then none
    else some (if (SbDesc.parse t.sbdesc).pack = false ∧ (SbDesc.parse t.sbdesc).blocks ≤ t.piece then 0 else 1)
  else match x.ty with
    | 1 => if (t.item t.piece).isSome then some 1 else none
    | 2 => match t.item t.piece with
      | none => none
      | some j => if j = some 0xFFFFFFFF then some 0 else if t.heldBack then none else some 1
    | _ => some 1

/-- What the next unit of a transfer reads. -/
def Xfer.nextReads (t : Xfer) : List (Int × Nat) :=
  if t.listOff < t.listNeed then [(((t.listRange.1 + t.listOff : Nat) : Int), 1)]
  else if t.desc.sb || t.desc.ty == 3 then t.blockReads t.piece t.off
  else (t.span.1.map (fun a => (a, t.span.2.2))).toList

/-- The host reads that wait for their completion (R438). -/
def Dev.hostReads (d : Dev) : Nat := (d.cores.flatMap (fun e => e.2.xfers.flatMap (fun t => t.flights.filter (fun f => f.host == 1)))).length

/-- The next unit of a transfer may go now: it can issue, no write of the core is on its way to a place it reads, so that the read request would come after it,
and a host read finds a tag of its function free, 512 with 10-bit tags and 256 without (R230, R438). -/
def Dev.unitFree (d : Dev) (k : Nat) (t : Xfer) : Bool :=
  let c := d.core k
  let tags := if d.pciField (d.clientOf k + 1) pciTags = 1 then 512 else 256
  t.nextTags.isSome && t.nextReads.all (fun p => !d.underWay k c.sentN (destNode k p.1.toNat))
    && (t.nextReads.all (fun p => targetOf p.1.toNat != .host) || decide (d.hostReads < tags))

/-- Whether transfer `x` is next among those of core `k` that can issue: they take turns in the order of their start (R190). -/
def Dev.unitTurn (d : Dev) (k x : Nat) : Bool :=
  let c := d.core k
  let ready := (c.xfers.filter (d.unitFree k)).map (·.id)
  ((ready.filter (fun i => decide (c.turn < i))) ++ ready.filter (fun i => decide (i ≤ c.turn))).head? == some x

/-- The tags held by the cores of a side (R208). -/
def Dev.poolTags (d : Dev) (s : Nat) : Nat := ((d.cores.filter (fun e => sideOf e.1 == s)).map (fun e => e.2.tags)).foldl (· + ·) 0

/-- The cores of a side that wait for a tag of the pool and come before core `k` in rotation (R208). -/
def Dev.poolAhead (d : Dev) (k : Nat) : Nat :=
  let s := sideOf k
  let place (j : Nat) : Nat := (j % 256 + 255 - Tab.get 255 d.poolTurn s) % 256
  (d.cores.filter (fun e => sideOf e.1 == s && e.2.tagSince.isSome && decide (e.2.tags < e.2.tagLimit) && decide (place e.1 < place k))).length

/-- Whether core `k` finds no tag: it holds its own limit, or its side's pool of 2,048 is exhausted once the waiting cores before it have theirs (R208). -/
def Dev.noTag (d : Dev) (k : Nat) : Bool :=
  decide ((d.core k).tagLimit ≤ (d.core k).tags ∨ 2048 ≤ d.poolTags (sideOf k) + d.poolAhead k)

/-- A unit of core `k` waits for a tag (R208). -/
def Dev.tagWaits (d : Dev) (k : Nat) : Dev := d.setCore k { d.core k with tagSince := (d.core k).tagSince.or (some (d.cycles k)) }

/-- Core `k` takes a tag: its wait, if any, ends, and the rotation of its side goes on from it (R208). -/
def Dev.tagTaken (d : Dev) (k : Nat) : Dev :=
  if (d.core k).tagSince.isNone then d else { d.tagDone k with poolTurn := Tab.set 255 (d.tagDone k).poolTurn (sideOf k) (k % 256) }

/-- Cut ranges at the 256 B boundaries (R191). -/
def cutRanges (l : List (Int × Nat)) : List (Int × Nat) :=
  l.flatMap (fun p => if p.1 < 0 then [p] else (ranges256 p.1.toNat p.2).map (fun q => ((q.1 : Int), q.2)))

/-- Read a list of ranges for one unit: the bytes, or the host addresses owed. A failure stops the transfer. -/
def Dev.readAll (d : Dev) (k : Nat) (t : Xfer) : List (Int × Nat) → List Byte → List (Nat × Nat) → Dev × Option (List Byte × List (Nat × Nat))
  | [], bs, hs => (d, some (bs, hs))
  | (a, n) :: rest, bs, hs =>
    match d.reachI k false t.desc.cw a n with
    | some (code, x) => (d.dmaStop k t code x 0, none)
    | none =>
      let d := d.coreTraffic k a.toNat 0 n
      if d.contained (sideOf k) = true then (d, none)
      else if d.cutOff k a.toNat = true then (d.dmaStop k t 0x06 a.toNat 0, none)
      else
      let (got, d) := d.dmaGet k a.toNat n
      match got with
      | .bytes b => d.readAll k t rest (bs ++ b) hs
      | .host h => d.readAll k t rest bs (hs ++ [(h, n)])
      | .ue code e => (d.dmaEcc k t.id code e, none)

/-- A unit of no bytes, at block or piece `i` and unit `u` of it, that writes `n` bytes from `a`. -/
def Flight.of (i u a n : Nat) : Flight := ⟨i, u, a, n, [], [], 0, 0, 0, 0, false, 0, false, none⟩

/-- Put a unit in flight: it takes the next number of its core, and the turn passes on from its transfer (R190). `t` is the transfer as the unit leaves
it. -/
def Dev.takeOff (d : Dev) (k : Nat) (t : Xfer) (f : Flight) : Dev :=
  let c := d.core k
  (d.setCore k { c with turn := t.id, sentN := c.sentN + 1 }).setXfer k { t with flights := t.flights ++ [{ f with seq := c.sentN, hostAt := d.tick }] }

/-- Issue a unit: its reads, then its flight, with the cursor moved by `n`. Its write goes out at once where no read outside the core comes before it and no
grant is wanted (R230). -/
def Dev.launch (d : Dev) (k : Nat) (t : Xfer) (reads : List (Int × Nat)) (f : Flight) (n : Nat) : Dev :=
  let own (p : Int × Nat) : Bool := match targetOf p.1.toNat with | .sram c _ | .creg c _ => c == k | _ => false
  let dst := if targetOf f.dst = .host then d.hostAddr (d.clientOf k) f.dst f.len true else none
  let cuts := cutRanges reads
  match d.readAll k t cuts [] [] with
  | (d, none) => d
  | (d, some (bs, hs)) =>
    d.takeOff k (t.advance n) { f with
      data := f.data ++ bs, hostSrc := hs, host := if hs.isEmpty then 0 else 1, hostDst := dst
      hostDev := ((cuts.find? (fun p => targetOf p.1.toNat == .host)).map (fun p => p.1.toNat)).getD 0
      sent := reads.all own && ((remoteOf k f.dst).isNone || t.credit == .granted) }

/-- The bytes of a scale stream, granule by granule, with none for those of a granule whose read fails, and the first failure (R154). The unit's read is one
access of the memory it comes from (R170). -/
def Dev.scaleBytes (d : Dev) (k a n : Nat) : List (Option Nat) × Option (Nat × Nat) × Dev :=
  let gather (w : Nat) (base : Nat) (bad : Nat → Nat → Bool) (bs : List Byte) : List (Option Nat) :=
    (cut w n base bs).flatMap (fun p => p.2.map (fun b => if bad p.1 p.2.length then none else some b.toNat))
  match targetOf a with
  | .hbm _ _ => (gather 32 a (fun g m => (d.hbmBad g m).isSome) (d.hbmBytes a n), (d.hbmBad a n).map (fun g => (0x04, g)), d.hbmCheck a n)
  | .sram c l =>
    (gather 16 l (fun g m => ((d.core c).ueIn g m).isSome) ((d.core c).bankN l n), ((d.core c).ueIn l n).map (fun g => (0x02, coreAddr c g)),
      d.onCore c (fun x => x.noteRead l n))
  | _ => match d.dmaGet k a n with
    | (.bytes bs, d) => (bs.map (fun b => some b.toNat), none, d)
    | (_, d) => (List.replicate n none, none, d)

/-- Issue the next unit of a transfer's index list or scale stream (R191, R199). -/
def Dev.issueList (d : Dev) (k : Nat) (t : Xfer) : Dev :=
  let (base, len) := t.listRange
  let a := base + t.listOff
  let n := min (256 - a % 256) (len - t.listOff)
  let f : Flight := { Flight.of 0 0 a n with list := true, hostDev := a }
  let t := { t with listOff := t.listOff + n }
  match d.reachI k false t.desc.cw (a : Int) n with
  | some (code, x) => d.dmaStop k t code x 0
  | none =>
    let d := d.coreTraffic k a 0 n
    if d.contained (sideOf k) = true then d
    else if d.cutOff k a = true then d.dmaStop k t 0x06 a 0
    else match targetOf a, t.desc.sb with
    | .host, _ => d.takeOff k t { f with hostSrc := [((d.hostAddr (d.clientOf k) a n false).getD 0, n)], host := 1 }
    | _, true =>
      let (xs, bad, d) := d.scaleBytes k a n
      let t := { t with list := t.list.drop (t.piece - t.listAt) ++ xs, listAt := t.piece, listBad := if t.listBad.1 = 0 then bad.getD (0, 0) else t.listBad }
      d.takeOff k t f
    | _, false =>
      match d.dmaGet k a n with
      | (.bytes bs, d) => d.takeOff k t { f with data := bs }
      | (.ue code e, d) => d.dmaEcc k t.id code e
      | (_, d) => d

/-- The turn passes on from a transfer that took no tag (R190). -/
def Dev.passTurn (d : Dev) (k : Nat) (t : Xfer) : Dev :=
  let d := d.setXfer k t
  d.setCore k { d.core k with turn := t.id }

/-- Issue the next unit of a block of a shift-block or TRANSPOSE transfer, whose writes must be allowed before it issues; an expansion's scale byte is checked
first, and its trailer is checked here (R151–R154, R192, R201, R202). -/
def Dev.issueBlock (d : Dev) (k : Nat) (t : Xfer) : Dev :=
  let x := t.desc
  let s := SbDesc.parse t.sbdesc
  let i := t.piece
  let (a, n) := t.unitDst i t.off
  let f := Flight.of i t.off a n
  let reads := t.blockReads i t.off
  match (cutRanges (t.blockDests i)).findSome? (fun p => d.reachI k true x.cw p.1 p.2) with
  | some (code, a) => d.dmaStop k t code a 0
  | none =>
    if x.sb = false then d.launch k t reads f 1
    else if s.pack then
      if reads ≠ [] then d.launch k t reads f 1
      else if i < s.blocks then d.launch k { t with waits := [] } [] { f with data := t.waits.map (·.2) } 1
      else
        let tail := t.waits ++ withAddr (s.scale + s.blocks) (natLE 4 s.trailer)
        d.launch k t [] { f with data := (tail.filter (fun p => decide (a ≤ p.1 ∧ p.1 < a + n))).map (·.2) } 1
    else if i < s.blocks then
      match (t.item i).getD none with
      | none => d.dmaEcc k t.id t.listBad.1 t.listBad.2
      | some b =>
        if b / 64 ≠ s.tag i then d.formatStop k t 0x01 (i + s.tag i * 2 ^ 24 + b / 64 * 2 ^ 26 + b * 2 ^ 32)
        else d.launch k t reads { f with aux := b } 1
    else
      let bs := (List.range 4).map (fun j => (t.item (i + j)).getD none)
      if bs.any (fun b => b.isNone) then d.dmaEcc k t.id t.listBad.1 t.listBad.2
      else
        let v := ((List.range 4).map (fun j => (bs.getD j none).getD 0 * 2 ^ (8 * j))).foldl (· + ·) 0
        if v ≠ s.trailer then d.formatStop k t 0x02 (s.trailer + v * 2 ^ 32) else d.passTurn k (t.advance 1)

/-- Issue one unit of a transfer other than a conversion or a TRANSPOSE, whose addresses must be allowed before it issues (R199, R202). -/
def Dev.issueUnit (d : Dev) (k : Nat) (t : Xfer) : Dev :=
  let x := t.desc
  let (src, dst, n) := t.span
  let pat := if x.ty = 5 then natLE 4 x.src else [0]
  let f := Flight.of t.piece 0 dst.toNat n
  if x.ty = 2 ∧ t.item t.piece = some (some 0xFFFFFFFF) then d.passTurn k { t with piece := t.piece + 1, off := 0 }
  else match (src.bind (fun a => d.reachI k false x.cw a n)).or (d.reachI k true x.cw dst n) with
    | some (code, a) => d.dmaStop k t code a 0
    | none => match src with
      | some a => d.launch k t [(a, n)] f n
      | none => d.launch k t [] { f with data := (List.range n).map (fun j => pat.getD (j % pat.length) 0) } n

/-- DMA_UNIT_ISSUE: transfer `x` issues its next unit when it is its turn and a tag is free for the core and its side; else its wait for a tag is counted
(R190, R191, R208). -/
def execDmaUnitIssue (k : Fin 512) (x : Nat) (s : State) : Out :=
  onDev (fun d =>
    match (d.core k.val).xfer x with
    | none => d
    | some t => match t.nextTags with
      | none => d
      | some u =>
        if d.unitTurn k.val x = false then d
        else if u ≠ 0 ∧ d.noTag k.val = true then d.tagWaits k.val
        else
          let d := if u = 0 then d else d.tagTaken k.val
          if t.listOff < t.listNeed then d.issueList k.val t
          else if t.desc.sb = true ∨ t.desc.ty = 3 then d.issueBlock k.val t
          else d.issueUnit k.val t) s

/-! ### The landing of units (R180, R191, R192, R200, R204, R230) -/

/-- A run of bytes put among others by address, joined to those it touches. -/
def insRun (w : Nat × List Byte) : List (Nat × List Byte) → List (Nat × List Byte)
  | [] => [w]
  | y :: ys =>
    if w.1 + w.2.length = y.1 then (w.1, w.2 ++ y.2) :: ys
    else if y.1 + y.2.length = w.1 then insRun (y.1, y.2 ++ w.2) ys
    else if w.1 < y.1 then w :: y :: ys else y :: insRun w ys

/-- The whole words among bytes that have come, in runs, and the bytes that wait on for theirs (R192). -/
def fullWords (l : List (Nat × Byte)) : List (Nat × List Byte) × List (Nat × Byte) :=
  let words := ((l.map (fun p => p.1 / 4 * 4)).eraseDups).filter (fun a => (List.range 4).all (fun j => l.any (fun p => p.1 == a + j)))
  let word (a : Nat) : List Byte := (List.range 4).map (fun j => ((l.find? (fun p => p.1 == a + j)).map (·.2)).getD 0)
  (words.foldl (fun r a => insRun (a, word a) r) [], l.filter (fun p => !words.contains (p.1 / 4 * 4)))

/-- What a unit whose bytes have come writes, what then waits for its word, the plain bytes of a block still to be packed, and the elements clamped and
exponents limited by a conversion. A packing writes its scale stream word by word, each by a unit of its own (R147, R149, R150, R192). -/
def Xfer.writes (t : Xfer) (f : Flight) (data : List Byte) : List (Nat × List Byte) × List (Nat × Byte) × List Byte × Nat × Nat :=
  let x := t.desc
  let s := SbDesc.parse t.sbdesc
  if x.sb then
    if s.pack = false then
      let (bs, cl) := s.expand f.aux data
      ([(f.dst, bs)], t.waits, [], cl, 0)
    else if f.piece < s.blocks ∧ f.sub + 1 < (t.plainUnits f.piece).length then ([], t.waits, t.half ++ data, 0, 0)
    else if f.piece < s.blocks ∧ f.sub < (t.plainUnits f.piece).length then
      let (sc, bs, lim, cl) := s.packBlock f.piece (t.half ++ data)
      ([(s.data + 32 * f.piece, bs)], t.waits ++ withAddr (s.scale + f.piece) (natLE 1 sc), [], cl, b2n lim)
    else (cut 4 data.length f.dst data, t.waits, [], 0, 0)
  else if x.ty = 3 then
    let es := (t.elemUnits f.piece).getD f.sub []
    let new := (es.mapIdx (fun m n => withAddr (t.elemDst f.piece n).toNat ((data.drop (x.eb * m)).take x.eb))).flatten
    let r := fullWords (t.waits ++ new)
    (r.1, r.2, [], 0, 0)
  else ([(f.dst, data)], t.waits, [], 0, 0)

/-- The cores whose gather buffer a write puts a piece into. -/
def bufCore (w : Nat × List Byte) : List Nat :=
  match targetOf w.1 with
  | .sram c l => if partLines l w.2.length then [c] else []
  | _ => []

/-- Land the writes of one unit of transfer `t`; a window that refuses them, or a side contained before or by them, stops the transfer. The window of a host
write was passed as the unit issued, at `f.hostDst` (R181, R242, R465). -/
def Dev.landWrites (d : Dev) (k meet : Nat) (t : Xfer) (f : Flight) (ws : List (Nat × List Byte)) : Dev × Bool :=
  match ws.findSome? (fun w => if targetOf w.1 = .host then none else (d.dmaReach k true t.desc.cw w.1 w.2.length).map (fun c => (c, w.1))) with
  | some (code, a) => (d.dmaStop k t code a 0, false)
  | none =>
    let d := d.each (ws.flatMap (fun w => cut 256 w.2.length w.1 w.2)) (fun d w => d.dmaLand k meet (f.hostDst.map (fun h => h + w.1 - f.dst)) w.1 w.2)
    match ws.find? (fun w => d.cutOff k w.1) with
    | some w => if d.contained (sideOf k) then (d, false) else (d.dmaStop k t 0x06 w.1 0, false)
    | none => (d, true)

/-- The SIGNAL of hop `hop` of a CHAIN, once every unit has landed at core `at_` (R213): its lines are written first; a contained side
stops the transfer (R242). -/
def Dev.hopSignal (d : Dev) (k sender at_ : Nat) (t : Xfer) (hop : Nat) : Dev :=
  let x := t.desc
  let a := x.sigAddr + 8 * hop
  let side := match targetOf a with | .latch cl _ => cl / 16 | _ => 0
  let d := if t.bufCores.contains at_ then d.onCore at_ Core.fence else d
  if x.sigOp = 0 then d
  else if d.contained side then ((d.dmaRecord sender t 0x06 a hop 0).xferFail k t.id).failCoreJob k
  else d.signal sender x.sigOp a (wd x.sigVal)

/-- The first index of a list unit that stops its transfer, in list order: at or above LIMIT, or naming a piece outside R202, or a SCATTER's piece that
does not lie in the one core in whose window the first piece lies (R200, R204): the DMA code, the address and the detail. `recv` is that core. -/
def Dev.indexFault (d : Dev) (k : Nat) (t : Xfer) (recv : Option (Option Nat)) : Nat → List Nat → Option (Nat × Nat × Nat)
  | _, [] => none
  | n, i :: is =>
    let x := t.desc
    let at_ : Int := ((if x.ty = 1 then x.src else x.dst) + i * x.stride : Nat)
    if i = 0xFFFFFFFF then d.indexFault k t recv (n + 1) is
    else if x.limit ≠ 0 ∧ i ≥ x.limit then some (0x07, x.arg1 % 2 ^ 48 + 4 * n, i)
    else match d.reachI k (x.ty == 2) x.cw at_ x.len with
      | some (code, a) => some (code, a, 0)
      | none =>
        let core := remoteOf k at_.toNat
        if x.ty = 2 ∧ recv.getD core ≠ core then some (0x04, at_.toNat, 0) else d.indexFault k t (if x.ty = 2 then recv.or (some core) else recv) (n + 1) is

/-- The first piece of a SCATTER that is no hole says which core's window the transfer writes through, if any (R204). -/
def Xfer.scatterTo (t : Xfer) (k : Nat) : Option (Option Nat) :=
  ((t.list.filterMap (fun i => i)).find? (fun i => i != 0xFFFFFFFF)).map (fun i => remoteOf k (t.desc.dst + i * t.desc.stride))

/-- A unit of an index list or a scale stream arrives: indices are checked in list order, and those that pass may be used; a SCATTER with USE_GRANT takes its
grant with the last of them. Scale bytes from host memory join their stream, none for a failed read (R151, R154, R200, R205, R444). -/
def Dev.listArrives (d : Dev) (k : Nat) (t : Xfer) (f : Flight) : Dev :=
  if t.desc.sb then
    if f.host = 2 then d.setXfer k { t with list := t.list.drop (t.piece - t.listAt) ++ List.replicate f.len none, listAt := t.piece, listBad := (0x07, f.dst) }
    else if f.data = [] then d.setXfer k t
    else d.setXfer k { t with list := t.list.drop (t.piece - t.listAt) ++ f.data.map (fun b => some b.toNat), listAt := t.piece }
  else
    let is := (List.range (f.len / 4)).map (fun j => leAt f.data (4 * j) 4)
    match d.indexFault k t (t.scatterTo k) t.list.length is with
    | some (code, a, det) => (d.setXfer k t).dmaStop k t code a det
    | none =>
      let t := { t with list := t.list ++ is.map some }
      let t := { t with recv := if t.desc.ty = 2 then (t.scatterTo k).getD none else t.recv }
      let d := d.setXfer k t
      if t.desc.ty = 2 ∧ t.desc.useGrant = true ∧ t.indices.isSome = true then
        d.attachGrant k t (((t.scatterTo k).getD (remoteOf k t.desc.dst)).getD k)
      else d

/-- The writes of a unit must wait for a grant: the request goes out with the first unit that is ready, the write from `a`, for a SCATTER once its whole list
has come (R204). -/
def Dev.askFirst (d : Dev) (k : Nat) (t : Xfer) (recv a : Nat) : Dev :=
  if t.desc.ty = 2 ∧ t.indices = none then d
  else if t.credit = .none then d.askCredit k t recv (creditsFor (t.creditBytes k)) 0 a
  else d

/-- Whether a unit with a remote write may not land yet: no grant, or a SCATTER whose list has not come whole. -/
def Xfer.mustAsk (t : Xfer) : Bool := t.credit != .granted || (t.desc.ty == 2 && t.indices == none)

/-- A data unit lands: its writes, its tag, and, as the last of a CHAIN at its first core, the hop's SIGNAL (R191, R212, R213). -/
def Dev.landUnit (d : Dev) (k meet : Nat) (t : Xfer) (f : Flight) (data : List Byte) : Dev :=
  let (ws, waits, half, cl, lim) := t.writes f data
  let t' := { t with
    bufCores := (ws.flatMap bufCore).foldl addNum t.bufCores
    landed := if t.desc.ty = 4 then t.landed ++ [(f.dst, data)] else t.landed
    waits := waits, half := half, clamped := t.clamped + cl, limited := t.limited + lim }
  let d := d.setXfer k t'
  let (d, ok) := d.landWrites k meet t' f ws
  let d := if ok then d.onCore k (fun c => c.bump Off.DMA_UNITS 1) else d
  let d := if ok && !t.failed && t.landed.isEmpty && !t.hops.isEmpty then d.setCore k { d.core k with fwdQ := (d.core k).fwdQ ++ [(k, t.id, 1)] } else d
  let d := if t.failed then d.xferFail k t.id else d
  if ok && !t.failed && t'.desc.sigPerHop && t'.issued && t'.flights.isEmpty then d.hopSignal k k k t' 0 else d

/-- The write of a unit whose read has come goes out behind an earlier one to the same destination: it takes its number now (R230). -/
def Dev.sendUnit (d : Dev) (k : Nat) (t : Xfer) (i : Nat) (f : Flight) : Dev :=
  let c := d.core k
  (d.setCore k { c with sentN := c.sentN + 1 }).setXfer k { t with flights := t.flights.set i { f with sent := true, seq := c.sentN } }

/-- DMA_UNIT_COMPLETE: the i-th unit in flight arrives: an index list's or scale stream's in order, a data unit's write after those of the same core to
the same destination that went out before it. It frees its tag. The first unit of a remote write that is ready asks for the transfer's credits, and none
is written before the grant (R191, R204, R230). A failed host read stops the transfer (R444). For an overlay load, the first packet of its segment lands
(R51). `meet` is not 0 where a scratchpad's write falls into the cycle of that core's latest writes; where it must wait for them it counts the cycles
(R179, R180). -/
def execDmaUnitComplete (k : Fin 512) (x i meet : Nat) (s : State) : Out :=
  onDev (fun d =>
    match (d.core k.val).xfer x with
    | none => d
    | some t =>
      if t.ovl.isSome then (if (d.core k.val).overlay = some t ∧ t.off = 0 then d.overlayPacket k.val t else d)
      else match t.flights[i]? with
      | none => d
      | some f =>
        let gone := { t with flights := t.flights.eraseIdx i }
        let recv := if t.failed then none else (remoteOf k.val f.dst).or t.recv
        let node := destNode k.val f.dst
        if f.host = 1 ∨ (f.list = true ∧ (t.flights.take i).any (·.list) = true) then d
        else if f.host = 2 ∧ (f.list = false ∨ t.desc.sb = false) then ((d.hostErr).setXfer k.val gone).dmaEcc k.val x 0x07 f.hostDev
        else if f.list then (if t.failed then (d.setXfer k.val gone).xferFail k.val x else (if f.host = 2 then d.hostErr else d).listArrives k.val gone f)
        else if f.sent = true ∧ d.underWay k.val f.seq node = true then d
        else if recv.isSome = true ∧ t.mustAsk = true then d.askFirst k.val t (recv.getD 0) f.dst
        else if recv.isSome = true ∧ t.recv ≠ recv then (d.setXfer k.val gone).dmaStop k.val gone 0x04 f.dst 0
        else if t.failed = true ∧ (remoteOf k.val f.dst).isSome = true ∧ t.credit ≠ .granted then (d.setXfer k.val gone).xferFail k.val x
        else if f.sent = false ∧ d.underWay k.val (d.core k.val).sentN node = true then d.sendUnit k.val t i f
        else d.landUnit k.val meet gone f f.data) s

/-- A hop of a chain with another state. -/
def Xfer.setHop (t : Xfer) (hop : Nat) (h : Hop) : Xfer := { t with hops := t.hops.mapIdx (fun i g => if i + 1 = hop then h else g) }

/-- A unit goes on to hop `hop` of a chain once that hop's credits are granted and a tag is free: the request goes out with the first; a core forwards the first
four of the chains that have arrived (R208, R211, R212). -/
def Dev.chainSend (d : Dev) (k : Nat) (t : Xfer) (hop : Nat) (h : Hop) : Dev :=
  let sender := t.hopSender k hop
  let here := if hop ≤ 1 then t.landed.length else ((t.hops.map (·.forwarded)).getD (hop - 2) 0)
  match (t.landed.take here)[h.forwarded + h.flying.length]? with
  | none => d
  | some (a, bs) =>
    let dst := coreAddr h.core (a % 2 ^ 24)
    if t.failed then d
    else if h.credit = .none then d.askCredit k t h.core (creditsFor t.desc.len) hop dst
    else if h.credit = .waiting ∨ ((d.core sender).fwdQ.take 4).contains (k, t.id, hop) = false then d
    else if d.noTag sender then d.tagWaits sender
    else match d.dmaReach sender true t.desc.cw dst bs.length with
      | some code => (((d.tagTaken sender).dmaRecord sender t code dst hop 0).xferFail k t.id).failCoreJob k
      | none =>
        let d := d.tagTaken sender
        let c := d.core sender
        (d.setCore sender { c with sentN := c.sentN + 1, fwdTags := c.fwdTags + 1 }).setXfer k (t.setHop hop { h with flying := h.flying ++ [c.sentN] })

/-- The oldest unit on its way to hop `hop` lands there and frees its tag; with the last one the hop's SIGNAL is applied. A unit in flight lands after a stop too
(R208, R212, R213, R220). -/
def Dev.chainLand (d : Dev) (k : Nat) (t : Xfer) (hop meet : Nat) (h : Hop) : Dev :=
  let sender := t.hopSender k hop
  match h.flying, t.landed[h.forwarded]? with
  | n :: later, some (a, bs) =>
    let dst := coreAddr h.core (a % 2 ^ 24)
    if d.underWay sender n (destNode sender dst) then d
    else
      let all := t.issued && t.flights.isEmpty && h.forwarded + 1 == t.landed.length && !t.failed
      let t' := { t.setHop hop { h with forwarded := h.forwarded + 1, flying := later, signalled := all } with
        bufCores := (bufCore (dst, bs)).foldl addNum t.bufCores }
      let d := (d.setXfer k t').setCore sender { (d.setXfer k t').core sender with fwdTags := ((d.setXfer k t').core sender).fwdTags - 1 }
      let d := (d.dmaLand sender meet none dst bs).onCore sender (fun c => c.bump Off.DMA_FWD_UNITS 1)
      if d.cutOff sender dst then d
      else if t.failed then d.xferFail k t.id
      else
        let d := if all then d.setCore sender { d.core sender with fwdQ := (d.core sender).fwdQ.erase (k, t.id, hop) } else d
        let d := if h.forwarded = 0 ∧ hop < t.hops.length then
            d.setCore h.core { d.core h.core with fwdQ := (d.core h.core).fwdQ ++ [(k, t.id, hop + 1)] } else d
        if all && t.desc.sigPerHop then d.hopSignal k sender h.core t' hop else d
  | _, _ => d

/-- CHAIN_UNIT_FORWARD: the next unit that landed at the core before hop `hop` goes on to it, or, with `lands`, the oldest on its way lands there
(R208, R211–R213). `meet` is as in DMA_UNIT_COMPLETE. -/
def execChainUnitForward (k : Fin 512) (x hop : Nat) (lands : Bool) (meet : Nat) (s : State) : Out :=
  onDev (fun d =>
    match (d.core k.val).xfer x with
    | none => d
    | some t => match (if hop = 0 then none else t.hops[hop - 1]?) with
      | none => d
      | some h => if lands then d.chainLand k.val t hop meet h else d.chainSend k.val t hop h) s

/-- DMA_TRANSFER_COMPLETE: with every unit landed at every core, the lines are flushed, and steps 3 to 5 of R194 follow (R156, R175, R194). -/
def execDmaTransferComplete (k : Fin 512) (x : Nat) (s : State) : Out :=
  onDev (fun d =>
    match (d.core k.val).xfer x with
    | none => d
    | some t =>
      let chainDone := t.hops.all (fun h => h.forwarded == t.landed.length)
      if t.failed = true ∨ t.ovl.isSome = true ∨ t.desc.grantOnly = true ∨ t.issued = false ∨ t.flights ≠ [] ∨ chainDone = false then d
      else (d.each t.bufCores (fun d c => d.onCore c Core.fence)).finishXfer k.val t) s

/-! ### Grants and timeouts (R183–R187, R205) -/

/-- The core whose engine holds a request's transfer: the head of a chain for its hops. -/
def Dev.ownerOf (d : Dev) (r : CwReq) : Nat :=
  if r.hop = 0 then r.sender
  else (((d.cores.filter (fun e => clusterOf e.1 == clusterOf r.sender)).find? (fun e => match e.2.xfer r.xfer with
    | some t => decide (e.1 ≤ r.sender) && (r.hop == 1 && e.1 == r.sender || (t.hops.map (·.core))[r.hop - 2]? == some r.sender)
    | none => false)).map (·.1)).getD r.sender

/-- DMA_CREDIT_WAIT as request `r`, which has left its queue, ends: the side-clock cycles in which it alone of its core's requests waited
are counted; those that overlap a request still waiting are counted with that one (R222). -/
def Dev.creditWaited (d : Dev) (r : CwReq) : Dev :=
  let upTo := (d.creditMark r.sender).getD (Tab.get 0 d.sideCyc (sideOf r.sender))
  d.onCore r.sender (fun c => c.bump Off.DMA_CREDIT_WAIT (upTo - r.cyc))

/-- CREDIT_GRANT: the head request of window `w` of core `k` is granted in full when it fits; a GRANT_ONLY transfer completes and its
grant is held, unless its core holds eight already (R183, R205); a SUSPENDED receiver grants nothing (R187). -/
def execCreditGrant (k : Fin 512) (w : Fin 8) (s : State) : Out :=
  onDev (fun d =>
    let c := d.core k.val
    match Tab.get [] c.cwq w.val with
    | [] => d
    | r :: rest =>
      let av := Tab.get 0 c.cwAvail w.val
      let o := d.ownerOf r
      let t := (d.core o).xfer r.xfer
      let only := t.any (fun t => t.desc.grantOnly)
      if c.state = .suspended ∨ c.fld (Off.CW_CFG w.val) Fl.CW_CFG_EN = 0 ∨ r.credits > av then d
      else if only = true ∧ (d.core r.sender).grants.length ≥ 8 then
        match t with
        | some t => ((d.setCore k.val { c with cwq := Tab.set [] c.cwq w.val rest }).creditWaited r).dmaStop o t 0x09 (k.val + w.val * 2 ^ 16) 1
        | none => d
      else
        let d := d.setCore k.val { c with cwAvail := Tab.set 0 c.cwAvail w.val (av - r.credits), cwq := Tab.set [] c.cwq w.val rest }
        let d := d.creditWaited r
        let hold (d : Dev) : Dev := d.setCore r.sender { d.core r.sender with grants := (d.core r.sender).grants ++ [⟨k.val, w.val, r.credits⟩] }
        if r.xfer = 0 then hold d
        else match t with
          | none => d
          | some t =>
            if t.desc.grantOnly then (hold d).finishXfer o t
            else if r.hop = 0 then d.setXfer o { t with credit := .granted }
            else d.setXfer o { t with hops := t.hops.mapIdx (fun i h => if i + 1 = r.hop then { h with credit := .granted } else h) }) s

/-- CREDIT_TIMEOUT: the i-th request of a window has waited longer than its sender's STALL_LIMIT: it leaves the queue, is recorded with
both parties, and the job fails (R186, R211, R315). -/
def execCreditTimeout (k : Fin 512) (w : Fin 8) (i : Nat) (s : State) : Out :=
  onDev (fun d =>
    let c := d.core k.val
    let q := Tab.get [] c.cwq w.val
    match q[i]? with
    | none => d
    | some r =>
      if d.tick - r.since ≤ (d.core r.sender).fld Off.STALL_LIMIT Fl.STALL_LIMIT_TICKS then d
      else
        let o := d.ownerOf r
        let d := (d.setCore k.val { c with cwq := Tab.set [] c.cwq w.val (q.eraseIdx i) }).creditWaited r
        let t := ((d.core o).xfer r.xfer).getD (Xfer.new 0 0 [] (Desc.parse []) none [] [])
        ((d.dmaRecord r.sender t 0x05 (k.val + w.val * 2 ^ 16) r.hop r.credits).xferFail o r.xfer).failCoreJob r.sender) s

end Sys2Proof.Machine
end

