-- ==== Sys2Proof/Machine/Rings.lean ====
section
/-! DEFINITION. The rings in host memory: positions, write-backs and MSI-X messages, completions, the delivery of records to the log and the event rings (R445–R451, R459–R461, R512, R513). -/

namespace Sys2Proof.Machine

/-! ### Ring sets (R445, R465) -/

/-- A ring of a function. -/
inductive RSet where
  | sq | cq | eq
  | sr (r : Nat)
  | rr (q : Nat)
  deriving DecidableEq, Repr

/-- The ring block of a function: 0 is PF0, `c + 1` client c. -/
def fnBase (f : Nat) : Nat := if f = 0 then Block.pf0ring.base else (Block.ring (f - 1)).base

/-- The offset of a ring set in its block. -/
def RSet.off : RSet → Nat
  | .sq => 0
  | .cq => 0x20
  | .eq => 0x40
  | .sr r => 0x1000 + 0x20 * r
  | .rr q => 0x1800 + 0x20 * q

/-- The offset of a ring's position in the write-back area (R446). -/
def RSet.wb : RSet → Nat
  | .sq => 0
  | .cq => 4
  | .eq => 8
  | .sr r => 0x100 + 4 * r
  | .rr q => 0x200 + 4 * q

/-- The registers of a ring. -/
def rbase (f : Nat) (x : RSet) : Nat := fnBase f + x.off

/-- Whether a ring is enabled. -/
def Dev.ringOn (d : Dev) (f : Nat) (x : RSet) : Bool := d.fld (rbase f x + Off.X_CFG) Fl.X_CFG_EN == 1

/-- N of a ring, in entries, or in bytes for a stream ring (R445). -/
def Dev.ringN (d : Dev) (f : Nat) (x : RSet) : Nat :=
  let n := d.fld (rbase f x + Off.X_CFG) Fl.X_CFG_SIZE
  match x with
  | .sr _ => 4096 * n
  | _ => n

/-- The bytes of one unit of a ring. -/
def Dev.ringUnit (d : Dev) (f : Nat) : RSet → Nat
  | .sq => 64
  | .cq => 32
  | .eq => 32
  | .sr _ => 1
  | .rr q => 64 * 2 ^ d.fld (rbase f (.rr q) + Off.X_CFG) Fl.X_CFG_ESZ

/-- HPOS of a ring. -/
def Dev.hpos (d : Dev) (f : Nat) (x : RSet) : Nat := d.fld (rbase f x + Off.X_HPOS) Fl.X_HPOS_POS
/-- DPOS of a ring. -/
def Dev.dpos (d : Dev) (f : Nat) (x : RSet) : Nat := d.fld (rbase f x + Off.X_DPOS) Fl.X_DPOS_POS

/-- The units a ring holds for the device: HPOS is the tail of the rings the host fills. -/
def Dev.offered (d : Dev) (f : Nat) (x : RSet) : Nat := span (d.ringN f x) (d.hpos f x) (d.dpos f x)

/-- The units a ring that the device fills holds for the host. -/
def Dev.unread (d : Dev) (f : Nat) (x : RSet) : Nat := span (d.ringN f x) (d.dpos f x) (d.hpos f x)

/-- The host address of unit `p` of a ring. -/
def Dev.unitAddr (d : Dev) (f : Nat) (x : RSet) (p : Nat) : Nat :=
  d.reg64 (rbase f x + Off.X_BASE_LO) (rbase f x + Off.X_BASE_HI) + p % d.ringN f x * d.ringUnit f x

/-! ### Writes to the host (R444, R446, R461) -/

/-- A write of a function to host memory; nothing leaves while its Bus Master Enable is 0. -/
def Dev.hostWrite (d : Dev) (f a : Nat) (bs : List Byte) : Dev :=
  if d.bmeOff.contains f then d else { d with host := d.host.write a bs }

/-- Send an MSI-X message, or set its PBA bit while it is masked (R461). -/
def Dev.sendVector (d : Dev) (f v : Nat) : Dev :=
  let b := fnBase f
  if d.msixOff.contains f ∨ d.fld (b + Off.MSIX_CTRL v) Fl.MSIX_CTRL_MASK = 1 then
    let o := b + Off.MSIX_PBA (v / 32)
    d.setReg o (d.reg o ||| wd (2 ^ (v % 32)))
  else d.hostWrite f (d.reg64 (b + Off.MSIX_ADDR_LO v) (b + Off.MSIX_ADDR_HI v)) (natLE 4 (d.reg (b + Off.MSIX_DATA v)).toNat)

/-- Write a ring's DPOS back, with its vector when enabled (R446). -/
def Dev.writeBack (d : Dev) (f : Nat) (x : RSet) : Dev :=
  let b := fnBase f
  let d := d.hostWrite f (d.reg64 (b + Off.WB_LO) (b + Off.WB_HI) + x.wb) (natLE 4 (d.dpos f x))
  let c := rbase f x + Off.X_CFG
  let irq := match x with
    | .sq => false
    | .sr _ => false
    | _ => d.fld c Fl.X_CFG_IRQ_EN == 1
  if irq then d.sendVector f (d.fld c Fl.X_CFG_VECTOR) else d

/-- Add to a ring's counter, which holds at its maximum. -/
def Dev.ringCount (d : Dev) (f : Nat) (x : RSet) : Dev :=
  let o := rbase f x + Off.X_COUNT
  d.setReg o (wd (min ((d.reg o).toNat + 1) (2 ^ 32 - 1)))

/-- Set a flag of a ring's status. -/
def Dev.ringFlag (d : Dev) (f : Nat) (x : RSet) (g : Fld) : Dev := d.setFld (rbase f x + Off.X_STATUS) g 1

/-- Advance a ring's DPOS. -/
def Dev.ringAdvance (d : Dev) (f : Nat) (x : RSet) (n : Nat) : Dev :=
  d.setFld (rbase f x + Off.X_DPOS) Fl.X_DPOS_POS ((d.dpos f x + n) % (2 * d.ringN f x))

/-- Whether a ring that the device fills can take an entry. -/
def Dev.ringOpen (d : Dev) (f : Nat) (x : RSet) : Bool := d.ringOn f x && decide (d.unread f x < d.ringN f x)

/-- Write an entry at a ring's tail, without its write-back. -/
def Dev.ringPut (d : Dev) (f : Nat) (x : RSet) (bs : List Byte) : Dev :=
  (d.hostWrite f (d.unitAddr f x (d.dpos f x)) bs).ringAdvance f x 1

/-! ### Completions (R449, R451) -/

/-- A completion entry. -/
def cqEntry (cid status kind op detail token percent : Nat) (result : List Byte) : List Byte :=
  natLE 4 cid ++ natLE 1 status ++ natLE 1 kind ++ natLE 1 op ++ natLE 1 detail ++ natLE 4 token ++ natLE 1 percent
    ++ natLE 3 0 ++ (result ++ List.replicate 16 0).take 16

/-- Completions of a function that wait for room in its CQ. -/
def Dev.waitingCq (d : Dev) (f : Nat) : List (List Byte) := Tab.get [] d.cqWait f

/-- Write an entry to a CQ that has room. -/
def Dev.cqPut (d : Dev) (f : Nat) (e : List Byte) : Dev := ((d.ringPut f .cq e).ringCount f .cq).writeBack f .cq

/-- A FINAL or STEPPED: it waits when its CQ is full or others wait (R451). -/
def Dev.complete (d : Dev) (f : Nat) (e : List Byte) : Dev :=
  if d.waitingCq f = [] ∧ d.ringOpen f .cq = true then d.cqPut f e
  else { d with cqWait := Tab.set [] d.cqWait f (d.waitingCq f ++ [e]) }

/-- A PROGRESS, which is not written where it would leave fewer than 2 free entries (R451). -/
def Dev.progress (d : Dev) (f : Nat) (e : List Byte) : Dev :=
  if d.waitingCq f = [] ∧ d.ringOn f .cq = true ∧ d.unread f .cq + 3 ≤ d.ringN f .cq then d.cqPut f e else d

/-- CQ_ENTRY_WRITE: the oldest waiting completion of a function is written once its CQ has room (R451). -/
def execCqEntryWrite (f : Fin 33) (s : State) : Out :=
  onDev (fun d =>
    match d.waitingCq f.val with
    | [] => d
    | e :: rest =>
      if d.ringOpen f.val .cq then { d with cqWait := Tab.set [] d.cqWait f.val rest }.cqPut f.val e else d) s

/-! ### Records (R460, R512, R513) -/

/-- The 32 bytes of a record (R509). -/
def Record.bytes (r : Record) : List Byte :=
  [r.cls, r.code] ++ natLE 2 r.source.toNat ++ natLE 8 r.object.toNat ++ natLE 2 r.issuer.toNat ++ natLE 2 r.stream.toNat
    ++ natLE 8 r.stamp.toNat ++ natLE 8 r.detail.toNat

/-- The job of a record, when it has one (R460): the issuer itself for class SCHED, an adaptation round that was refused and a stream's reset; the job in the
detail of a Latch record; the job of the issuing core for the other classes that name one (R158, R519). -/
def Dev.recordJob (d : Dev) (r : Record) : Option Nat :=
  let cls := r.cls.toNat
  let i := r.issuer.toNat
  let named := cls = kSCHED ∨ (cls = kFORMAT ∧ r.code = 0x06) ∨ (cls = kECC ∧ r.code = 0x0B)
  if named then (if i < 256 then some i else none)
  else if cls = kLATCH ∧ (i < 512 ∨ i = 0x200) then some (r.detail.toNat / 2 ^ 8 % 256)
  else if (cls = kDMA ∨ cls = kCORE ∨ cls = kECC ∨ cls = kFORMAT ∨ cls = kCALIB) ∧ i < 512 then (d.core i).jobOf
  else none

/-- The clients whose event rings also take a record (R460): the client of its job, and that of its stream; the stream field of a VIDEO or a LINK record
names a camera (R374, R395). -/
def Dev.recordClients (d : Dev) (r : Record) : List Nat :=
  let ofJob := (d.recordJob r).toList.map (fun j => (d.job j).client)
  let named := r.cls.toNat ≠ kVIDEO ∧ r.cls.toNat ≠ kLINK ∧ r.stream.toNat < 1024
  (ofJob ++ (if named then [(d.stream r.stream.toNat).client] else [])).eraseDups

/-- Deliver a record to a function's event ring; a full ring drops and counts it (R460). -/
def Dev.eventPut (d : Dev) (f : Nat) (r : Record) : Dev :=
  if d.ringOpen f .eq then (d.ringPut f .eq r.bytes).writeBack f .eq
  else if d.ringOn f .eq then (d.ringCount f .eq).ringFlag f .eq Fl.X_STATUS_DROPPED
  else d

/-- Whether a record is a host-targeted watch notification (R263), which goes to its client alone. -/
def Record.isNotify (r : Record) : Bool := r.cls.toNat == kLATCH && r.code.toNat == 0x0D

/-- The records the log holds. -/
def Dev.logCount (d : Dev) : Nat :=
  let b := Block.tel.base
  (d.fld (b + Off.TEL_LOG_TAIL) Fl.TEL_LOG_TAIL_POS + 2048 - d.fld (b + Off.TEL_LOG_HEAD) Fl.TEL_LOG_HEAD_POS) % 2048

/-- A counter of the telemetry block. -/
def Dev.telCount (d : Dev) (o : Nat) : Dev := d.bump (Block.tel.base + o) 1 { cls := kECC, code := 0x0D, src := 0x0C }

/-- Place a record in the log; the oldest of 1,024 is overwritten (R513). -/
def Dev.logPut (d : Dev) (r : Record) : Dev :=
  let b := Block.tel.base
  let tail := d.fld (b + Off.TEL_LOG_TAIL) Fl.TEL_LOG_TAIL_POS
  let head := d.fld (b + Off.TEL_LOG_HEAD) Fl.TEL_LOG_HEAD_POS
  let d := if d.logCount ≥ 1024 then
      ((d.setFld (b + Off.TEL_LOG_HEAD) Fl.TEL_LOG_HEAD_POS ((head + 1) % 2048)).telCount Off.TEL_LOG_LOST).setFld
        (b + Off.TEL_STATUS) Fl.TEL_STATUS_LOST 1
    else d
  let d := { d with tel := { d.tel with log := Tab.set Record.zero d.tel.log (tail % 1024) r } }
  d.setFld (b + Off.TEL_LOG_TAIL) Fl.TEL_LOG_TAIL_POS ((tail + 1) % 2048)

/-- Whether the station of the management ring from which a source's records come is bypassed: its domain is OFF, or its side is contained. The base die
brings the records of the units that are no station's (R22). -/
def Dev.bypassed (d : Dev) (src : Nat) : Bool :=
  let cluster (c : Nat) : Bool := d.contained (c / 16) || d.dom c == 0
  if 0x20 ≤ src ∧ src < 0x40 then cluster (src - 0x20)
  else if 0x40 ≤ src ∧ src < 0x60 then cluster (src - 0x40)
  else if 0x200 ≤ src ∧ src < 0x400 then cluster ((src - 0x200) / 16)
  else if src = 2 ∨ src = 3 then d.contained (src - 2) || d.dom (shFabric (src - 2)) == 0
  else if src = 8 then d.dom shMirror == 0
  else if src = 9 then d.dom shPcie == 0
  else false

/-- RECORD_ARRIVE: the oldest record waiting at a source, whose station is not bypassed, reaches the telemetry block, is logged and delivered; a
sequencer counts the records it has sent (R22, R512, R78). -/
def execRecordArrive (src : BitVec 16) (s : State) : Out :=
  onDev (fun d =>
    let n := src.toNat
    match (if d.bypassed n then [] else d.waiting n) with
    | [] => d
    | r :: rest =>
      let d := d.setWaiting n rest
      let d := if 0x20 ≤ n ∧ n < 0x40 then
          d.bump ((Block.seq (n - 0x20)).base + Off.CS_RECORDS) 1 { cls := kCORE, code := 0x11, src := n }
        else d
      let d := d.logPut r
      let d := if r.isNotify then d else d.eventPut 0 r
      if r.cls.toNat = kBOLT then d
      else d.each (d.recordClients r) (fun d c => d.eventPut (c + 1) r)) s

end Sys2Proof.Machine
end

