-- ==== Sys2Proof/Machine/Streams.lean ====
section
/-! DEFINITION. The stream table: entries, sources, input rings, playback rings of produced samples, admission and the stream commands, suspect streams (R278–R287, R294, R299, R339, R341, R343, R400, R401, R455–R457, R516, R517). -/

namespace Sys2Proof.Machine

/-! ### The entry (R280) -/

/-- The entry of staged bytes, with the values ADMIT sets (R280). -/
def Stream.ofBytes (b : List Byte) : Stream :=
  let a := leAt b 0 1
  let m := leAt b 1 1
  let ctx := leAt b 8 6
  let step := leAt b 40 4
  { Stream.free with
    state := 1, be := a / 8 % 2 == 1, chunk := a / 16 % 4, home := a / 64 % 2, srcKind := m % 8, mirror := m / 16 % 4
    srcId := leAt b 2 2, plan := leAt b 4 2, bound := leAt b 6 2, ctxPtr := ctx, client := leAt b 14 1 % 32, resultRing := leAt b 15 1
    ctxSize := leAt b 16 3, inChunks := leAt b 19 1, inBase := leAt b 20 6, chunkBytes := leAt b 28 3, step := step
    ackStep := (step + 2 ^ 32 - 1) % 2 ^ 32, side := ctx / hbmSize, whole := true }

/-- The bytes a source may still write. -/
def Stream.room (x : Stream) : Nat := x.z - (x.held + x.unacked)
/-- Whether an entry is an admitted stream that takes input: an IMAGE binds no source (R400). -/
def Stream.live (x : Stream) : Bool := x.state != 0 && x.mirror != 3

/-! ### Audio units and slots as sources and consumers -/

/-- The block of an audio unit: 0–7 a copper port, 8–15 a virtual port. -/
def ublk (u : Nat) : Nat := if u < 8 then (Block.apt u).base else (Block.vpt (u - 8)).base

/-- The slots of a port, or the channels of a virtual port (R331, R355). -/
def Dev.slotCount (d : Dev) (u : Nat) : Nat :=
  if 8 ≤ u then 64
  else
    let o := ublk u + Off.AP_FMT
    if d.fld o Fl.AP_FMT_FORMAT = 2 then d.fld o Fl.AP_FMT_SLOTS_M1 + 1 else 2

/-- A slot. -/
def Dev.aslot (d : Dev) (u s : Nat) : ASlot := Tab.get ASlot.off d.aslots (64 * u + s)
/-- Replace a slot. -/
def Dev.setAslot (d : Dev) (u s : Nat) (x : ASlot) : Dev := { d with aslots := Tab.set ASlot.off d.aslots (64 * u + s) x }

/-- The live stream that satisfies `p`, if any. -/
def Dev.streamWith (d : Dev) (p : Stream → Bool) : Option Nat := (d.streams.find? (fun e => e.2.live && p e.2)).map (·.1)

/-- The stream bound to a capture slot (R339, R355). -/
def Dev.captureStream (d : Dev) (u s : Nat) : Option Nat :=
  d.streamWith (fun x => if u < 8 then x.srcKind == 1 && x.srcId / 256 % 8 == u && x.srcId % 32 == s
    else x.srcKind == 2 && x.srcId / 4096 % 8 == u - 8 && x.srcId % 4096 == s)

/-- The stream bound to a camera output (R370). -/
def Dev.outputStream (d : Dev) (n : Nat) : Option Nat :=
  d.streamWith (fun x => x.srcKind == 5 && x.srcId % 64 * 8 + x.srcId / 256 % 8 == n)

/-- The consumer of a stream ring (R456). -/
inductive Consumer where
  | stream (i : Nat)
  | slot (u s : Nat)
  | camera (c : Nat)
  deriving DecidableEq, Repr

/-- Whether slot `s` of unit `u` plays from a source: SRC and ID of SLOT_PB (R341). -/
def Dev.playsFrom (d : Dev) (u s src id : Nat) : Bool :=
  let b := ublk u
  d.fld (b + Off.SLOT_PB s) Fl.SLOT_PB_PB_EN == 1 && d.fld (b + Off.SLOT_PB s) Fl.SLOT_PB_SRC == src
    && (let v := d.fld (b + Off.SLOT_PB_SRC s) Fl.SLOT_PB_SRC_ID
        if src = 1 then v % 2 ^ 13 else if src = 2 then v / 4096 % 8 * 64 + v % 64 else v % 1024) == id

/-- The playback slots that play from a source (R341). -/
def Dev.playbacksOf (d : Dev) (src id : Nat) : List (Nat × Nat) :=
  ((List.range 16).flatMap (fun u => (List.range (if u < 8 then 32 else 64)).map (fun s => (u, s)))).filter (fun p => d.playsFrom p.1 p.2 src id)
/-- The playback slot that plays from a host ring: the first. -/
def Dev.playbackOf (d : Dev) (src id : Nat) : Option (Nat × Nat) := (d.playbacksOf src id).head?

/-- Whether a camera is registered, which binds its source (R365). -/
def Dev.camBound (d : Dev) (c : Nat) : Bool := d.fld (Block.fin.base + Off.CAM_CFG c) Fl.CAM_CFG_EN == 1

/-- The camera with a source: KIND and ID of CAM_SRC. -/
def Dev.cameraOf (d : Dev) (kind id : Nat) : Option Nat :=
  (List.range 64).find? (fun c =>
    let o := Block.fin.base + Off.CAM_SRC c
    let v := d.fld o Fl.CAM_SRC_ID
    d.camBound c && d.fld o Fl.CAM_SRC_KIND == kind && (if kind = 0 then v % 2 ^ 13 else v % 2 ^ 15) == id)

/-- The consumer of stream ring `r` of client `c`. -/
def Dev.consumerOf (d : Dev) (c r : Nat) : Option Consumer :=
  match d.streamWith (fun x => (x.srcKind == 3 || x.srcKind == 4) && x.srcId % 2 ^ 13 == 256 * c + r) with
  | some i => some (.stream i)
  | none => match d.playbackOf 1 (256 * c + r) with
    | some p => some (.slot p.1 p.2)
    | none => (d.cameraOf 0 (256 * c + r)).map .camera

/-- The bytes of an output tensor (R369). -/
def Dev.tensorSize (d : Dev) (n : Nat) : Nat :=
  let b := Block.fin.base
  let ch := if d.fld (b + Off.OUT_CFG n) Fl.OUT_CFG_COLOUR = 0 then 1 else 3
  ch * d.fld (b + Off.OUT_SIZE n) Fl.OUT_SIZE_OW * d.fld (b + Off.OUT_SIZE n) Fl.OUT_SIZE_OH
    + 4 * d.fld (b + Off.OUT_CFG n) Fl.OUT_CFG_FRAME_TAG

/-- Whether an entry's source is valid and free (R280, R339, R355, R370, R456). -/
def Dev.sourceOk (d : Dev) (x : Stream) : Bool :=
  match x.srcKind with
  | 0 => true
  | 1 => decide (x.srcId % 32 < d.slotCount (x.srcId / 256 % 8)) && (d.captureStream (x.srcId / 256 % 8) (x.srcId % 32)).isNone
  | 2 => decide (x.srcId % 4096 < 64) && (d.captureStream (8 + x.srcId / 4096 % 8) (x.srcId % 4096)).isNone
  | 3 | 4 => decide (x.srcId % 256 < 64) && (d.consumerOf (x.srcId / 256 % 32) (x.srcId % 256)).isNone
  | 5 =>
    let n := x.srcId % 64 * 8 + x.srcId / 256 % 8
    (d.outputStream n).isNone && d.fld (Block.fin.base + Off.OUT_CFG n) Fl.OUT_CFG_EN == 1 && d.tensorSize n == x.chunkBytes
  | _ => false

/-! ### Input (R283, R285) -/

/-- A record of class SCHED about a stream (R298). -/
def Dev.streamRecord (d : Dev) (code src i det : Nat) : Dev :=
  d.emit { cls := kSCHED, code := code, src := src, stream := i, detail := det }

/-- Write bytes of the unit `src` into a ring of `z` bytes at `base` from position `p`, wrapping at its end. -/
def Dev.ringWrite (d : Dev) (src base z p : Nat) (bs : List Byte) : Dev :=
  let a := p % z
  let n := min bs.length (z - a)
  let d := d.hbmUnitWrite src (base + a) (bs.take n)
  if n < bs.length then d.hbmUnitWrite src base (bs.drop n) else d

/-- A refused write: INPUT_OVERFLOW once for each run (R285). -/
def Dev.inputRefused (d : Dev) (i : Nat) : Dev :=
  let x := d.stream i
  if x.overrun then d else (d.setStream i { x with overrun := true }).streamRecord 0x02 (srcSc x.side) i 0

/-- The unit that writes a stream's input ring: the audio block, the host interface, or the scaler (R510). -/
def Stream.writer (x : Stream) : Nat := if x.srcKind = 1 ∨ x.srcKind = 2 then 0x0A else if x.srcKind = 5 then 0x14 else 0x09

/-- A source writes bytes to a stream's input ring; a write that would raise F above Z is not made (R285). The answer tells whether the
bytes were taken. -/
def Dev.inputPut (d : Dev) (i : Nat) (bs : List Byte) : Bool × Dev :=
  let x := d.stream i
  if !x.live || d.contained x.side then (false, d)
  else if x.room < bs.length then (false, d.inputRefused i)
  else
    let d := d.ringWrite x.writer x.inBase x.z (x.inWr + x.unacked) bs
    (true, d.setStream i { x with unacked := x.unacked + bs.length, overrun := false })

/-- INPUT_WRITE_ACK: HBM acknowledges `n` bytes of a stream's input, and IN_WR advances (R283). -/
def execInputWriteAck (i : Fin 1024) (n : Nat) (s : State) : Out :=
  onDev (fun d =>
    let x := d.stream i.val
    let k := min n x.unacked
    if x.live then d.setStream i.val { x with inWr := (x.inWr + k) % (2 * x.z), unacked := x.unacked - k } else d) s

/-! ### Playback rings (R341, R343) -/

/-- The base of the group control block. -/
def apg : Nat := Block.apg.base
/-- The members of group `g`: bit u is unit u (R336). -/
def Dev.members (d : Dev) (g : Nat) : List Nat := (List.range 16).filter (fun u => (d.reg (apg + Off.APG_MEMBERS g)).toNat.testBit u)
/-- The group of a unit. -/
def Dev.groupOf (d : Dev) (u : Nat) : Option Nat := (List.range 4).find? (fun g => (d.members g).contains u)
/-- The unit and its group in OBJECT of an AUDIO record (R357). -/
def Dev.unitObj (d : Dev) (u : Nat) : Nat := u + (d.groupOf u).getD 0 * 2 ^ 12

/-- A record of class AUDIO about a slot (R357): `dir` 0 capture, 1 playback. -/
def Dev.audioRecord (d : Dev) (code u s dir : Nat) (stream : Option Nat) : Dev :=
  let b := ublk u
  d.emit { cls := kAUDIO, code := code, src := 0x0A, obj := d.unitObj u + s * 2 ^ 4 + dir * 2 ^ 10, stream := stream.getD 0xFFFF,
           detail := d.reg64 (b + Off.AP_FRAME_LO) (b + Off.AP_FRAME_HI) }

/-- The stream a playback slot plays, for its records. -/
def Dev.playStream (d : Dev) (u s : Nat) : Option Nat :=
  let b := ublk u
  if d.fld (b + Off.SLOT_PB s) Fl.SLOT_PB_SRC = 3 then some (d.fld (b + Off.SLOT_PB_SRC s) Fl.SLOT_PB_SRC_ID % 1024) else none

/-- Bytes of one playback sample. -/
def Dev.pbWidth (d : Dev) (u s : Nat) : Nat := if d.fld (ublk u + Off.SLOT_PB s) Fl.SLOT_PB_MEM_W = 1 then 4 else 2
/-- C, the samples a playback ring holds (R341). -/
def Dev.pbCap (d : Dev) (u s : Nat) : Nat := d.fld (ublk u + Off.PB_SIZE s) Fl.PB_SIZE_UNITS * 256 / d.pbWidth u s
/-- PB_WR. -/
def Dev.pbWr (d : Dev) (u s : Nat) : Nat := d.fld (ublk u + Off.PB_WR s) Fl.PB_WR_POS
/-- PB_RD. -/
def Dev.pbRd (d : Dev) (u s : Nat) : Nat := d.fld (ublk u + Off.PB_RD s) Fl.PB_RD_POS
/-- F of a playback ring, a signed difference (R341). -/
def Dev.pbFill (d : Dev) (u s : Nat) : Int :=
  let c := d.pbCap u s
  let x := span c (d.pbWr u s) (d.pbRd u s)
  if x ≤ c then (x : Int) else (x : Int) - 2 * (c : Int)

/-- The base of a playback ring. -/
def Dev.pbBase (d : Dev) (u s : Nat) : Nat := d.reg64 (ublk u + Off.PB_BASE_LO s) (ublk u + Off.PB_BASE_HI s)

/-- The unit that writes a playback ring: the host interface, the audio block, or a side controller (R341, R510). -/
def Dev.pbWriter (d : Dev) (u s : Nat) : Nat :=
  match d.fld (ublk u + Off.SLOT_PB s) Fl.SLOT_PB_SRC with
  | 1 => 0x09
  | 3 => srcSc (d.stream (d.fld (ublk u + Off.SLOT_PB_SRC s) Fl.SLOT_PB_SRC_ID % 1024)).side
  | _ => 0x0A

/-- A refused write to a playback ring: each run of refusals records PB_OVERFLOW once (R343). -/
def Dev.playRefused (d : Dev) (u s : Nat) : Dev :=
  let x := d.aslot u s
  if x.refusing then d else (d.setAslot u s { x with refusing := true }).audioRecord 0x0E u s 1 (d.playStream u s)

/-- A producer writes samples to a playback ring; a write that would raise F above C is not made, and each run of refusals records
PB_OVERFLOW once (R343). -/
def Dev.playPut (d : Dev) (u s : Nat) (bs : List Byte) : Bool × Dev :=
  let w := d.pbWidth u s
  let n := bs.length / w
  let c := d.pbCap u s
  let x := d.aslot u s
  if d.pbFill u s + (n : Int) > (c : Int) ∨ c = 0 then
    (false, d.playRefused u s)
  else
    let d := d.ringWrite (d.pbWriter u s) (d.pbBase u s) (c * w) (d.pbWr u s * w) (bs.take (n * w))
    let d := d.setFld (ublk u + Off.PB_WR s) Fl.PB_WR_POS ((d.pbWr u s + n) % (2 * c))
    (true, d.setAslot u s { x with refusing := false })

/-! ### Plans and batchers -/

/-- A field of a plan's header. -/
def Plan.field (p : Plan) (o n : Nat) : Nat := leAt p.header o n

/-- The cores of a batcher's patch. -/
def Dev.batCores (d : Dev) (b : Nat) : List Nat := coresOf (d.job (d.batJob b)).mask

/-- cap of a batcher (R288). -/
def Dev.batCap (d : Dev) (b : Nat) : Nat := 16 * (d.batCores b).length

/-- The enabled batcher that serves a plan on a side. -/
def Dev.batcherFor (d : Dev) (plan side : Nat) : Option Nat :=
  ((List.range 16).map (· + 16 * side)).find? (fun b => d.batOn b && d.batPlan b == plan)

/-- The streams of a batcher: admitted, homed here, of its plan and side. -/
def Dev.batStreams (d : Dev) (b : Nat) : List (Nat × Stream) :=
  d.streams.filter (fun e => e.2.live && e.2.plan == d.batPlan b && e.2.side == b / 16)

/-- The admitted LC streams of a batcher. -/
def Dev.batLc (d : Dev) (b : Nat) : Nat := if d.batOn b then ((d.batStreams b).filter (fun e => !e.2.be)).length else 0

/-- Whether two patches share a core. -/
def overlap (a b : Nat) : Bool := a &&& b != 0

/-! ### The preemption allowance (R317–R319) -/

/-- The image bytes of live-range entry `e` of a plan: 6,144 B, its ranges, and 2,048 B for the lookup tables (R308, R317). -/
def Plan.imageOf (p : Plan) (e : Nat) : Nat :=
  let o := 64 * e
  let r := min 7 (leAt p.live (o + 1) 1)
  6144 + ((List.range r).map (fun i => leAt p.live (o + 12 + 8 * i) 4)).foldl (· + ·) 0 + (if leAt p.live o 1 % 2 = 1 then 2048 else 0)

/-- The largest image of a plan's live-range entries. -/
def Plan.maxImage (p : Plan) : Nat := (List.range (p.field 612 2)).foldl (fun m e => max m (p.imageOf e)) 0

/-- The switch time of a job whose cores each save `n` bytes, at side clock `clk` (100 MHz steps), in units of 1 / (48,000 × clk) µs (R318):
the larger of the two sides' times. -/
def switchTime (clk mask n : Nat) : Nat :=
  let on (s : Nat) : Nat := ((coresOf mask).filter (fun k => sideOf k == s)).length
  let t (s : Nat) : Nat := if on s = 0 then 0 else 43200 * clk + max (15 * n) (2 * n * on s)
  max (t 0) (t 1)

/-- The plan of a job. -/
def Dev.jobPlan (d : Dev) (j : Nat) : Option Plan := d.plan (d.job j).plan

/-- The BE jobs, other than `j`, that share a core with a patch; `more` is a job about to be created (R319). -/
def Dev.beJobsOn (d : Dev) (j mask : Nat) (more : List Job) : List Job :=
  ((d.jobs.filter (fun e => e.1 != j && e.2.state != .free)).map (·.2) ++ more).filter (fun x => x.cls == 1 && overlap x.mask mask)

/-- T_pre of the patch of job `j`, in the units of `switchTime`, at ADMIT_CLK; 0 when no BE job shares a core (R319). -/
def Dev.tPre (d : Dev) (j : Nat) (more : List Job) : Nat :=
  let clk := d.fld (Block.sch.base + Off.ADMIT_CLK) Fl.ADMIT_CLK_CLK
  let x := d.job j
  match d.beJobsOn j x.mask more with
  | [] => 0
  | js =>
    let out := js.foldl (fun m y => max m (switchTime clk y.mask (match d.plan y.plan with | some p => p.maxImage | none => 0))) 0
    let back := match d.plan x.plan with
      | some p => switchTime clk x.mask (p.imageOf (p.field 56 2))
      | none => 0
    40800000 + out + back

/-- Check 8 of R294 for a stream of bound `bound` on batcher `b`. -/
def Dev.slackOk (d : Dev) (b bound : Nat) (more : List Job) : Bool :=
  let clk := d.fld (Block.sch.base + Off.ADMIT_CLK) Fl.ADMIT_CLK_CLK
  match d.plan (d.batPlan b) with
  | some p => decide (480000 * clk * bound ≥ 1632 * max (p.field 16 4) (p.field 20 4) + d.tPre (d.batJob b) more + 960000 * clk)
  | none => false

/-! ### Admission (R294, R400, R401) -/

/-- The role of the device: 0 unpaired, 1 PAIR_A, 2 PAIR_B. -/
def Dev.role (d : Dev) : Nat := d.fld (Block.gctl.base + Off.DEV_INFO) Fl.DEV_INFO_ROLE

/-- Whether the fields of an entry are valid, its source apart (R280, R400, R401, R455). -/
def Dev.fieldsOk (d : Dev) (b : List Byte) (x : Stream) : Bool :=
  let m := leAt b 1 1
  let role := d.role
  let homeOk := if role = 0 then x.home == 0 && x.mirror != 3 else x.home == (if x.mirror = 3 then 2 - role else role - 1)
  decide (m / 8 % 2 = 0 ∧ m / 64 = 0 ∧ leAt b 14 1 / 32 = 0 ∧ leAt b 26 2 = 0 ∧ leAt b 31 1 = 0 ∧ leAt b 56 8 = 0)
    && homeOk && x.mirror != 2 && (x.mirror != 1 || d.mir.formed)
    && decide (x.srcKind ≤ 5 ∧ 1 ≤ x.bound ∧ x.ctxPtr % 256 = 0 ∧ x.ctxPtr < 2 * hbmSize ∧ x.resultRing ≤ 15)
    && decide (x.ctxSize % 256 = 0 ∧ x.ctxSize ≤ 524288 ∧ 3 ≤ x.inChunks ∧ x.inChunks ≤ 64 ∧ x.inBase % 4 = 0)
    && decide (x.chunkBytes % 4 = 0 ∧ 4 ≤ x.chunkBytes ∧ (x.srcKind ≠ 4 ∨ x.chunkBytes = 260))

/-- Whether a plan's layout is SHARDED (R24, R307). -/
def Plan.shardedLayout (p : Plan) : Bool := p.field 6 1 % 2 == 1
/-- The home side of a plan (R24, R307). -/
def Plan.homeSide (p : Plan) : Nat := p.field 6 1 / 2 % 2

/-- Check 5: the layout of R287; the batcher's side is the home side for a SHARDED plan (R25). -/
def Dev.layoutOk (x : Stream) (i : Nat) (p : Plan) : Bool :=
  decide (x.ctxPtr = p.field 24 6 + i * p.field 32 4 ∧ x.ctxSize ≤ p.field 32 4 ∧ x.inBase = p.field 36 6 + i * x.z
    ∧ x.chunkBytes = p.field 48 4 ∧ x.inChunks = p.field 45 1)
    && (x.srcKind == 4 || x.srcKind == 5 || x.chunk == p.field 44 1)
    && inHbm x.side x.ctxPtr x.ctxSize && inHbm x.side x.inBase x.z && (!p.shardedLayout || x.side == p.homeSide)

/-- Checks 3 to 9 of R294 for entry `i`; `was` is the entry it replaces. An IMAGE skips 6–9, and ADMIT_FORCE has an ADMIT or a MODIFY (`cmd`) skip them
too (R299, R400). The status, 0 when all pass. -/
def Dev.admitChecks (d : Dev) (cmd : Bool) (i : Nat) (x was : Stream) : Nat :=
  let force := cmd = true ∧ d.fld (Block.sch.base + Off.SCH_EXP) Fl.SCH_EXP_ADMIT_FORCE = 1
  if d.contained x.side then 4
  else match d.batcherFor x.plan x.side with
    | none => 5
    | some b => match d.plan x.plan with
      | none => 6
      | some p =>
        let others := if was.live && !was.be then d.batLc b - 1 else d.batLc b
        let lc := others + b2n (!x.be)
        if Dev.layoutOk x i p = false then 6
        else if force ∨ x.mirror = 3 then 0
        else if 1 ≤ x.srcKind ∧ x.srcKind ≤ 3 ∧ x.bound > 100 * (10 * 2 ^ x.chunk) then 7
        else if lc + d.fld (Block.sch.base + Off.BAT_SIZE b) Fl.BAT_SIZE_CATCHUP > d.batCap b then 8
        else if x.be then 0
        else if d.slackOk b x.bound [] = false then 9
        else if (List.range 32).any (fun o => o != b && decide (d.batLc o > 0) && overlap (d.job (d.batJob o)).mask (d.job (d.batJob b)).mask) then 10
        else 0

/-! ### The stream commands (R282) -/

/-- The staged entry of ST_STAGE. -/
def Dev.staged (d : Dev) : List Byte :=
  (List.range 16).flatMap (fun n => natLE 4 (d.reg (Block.sch.base + Off.ST_STAGE n)).toNat)

/-- A refused ADMIT or MODIFY writes ADMIT_REFUSED (R282, R298). -/
def Dev.admitRefused (d : Dev) (i st : Nat) : Dev := d.streamRecord 0x01 0 i st

/-- ADMIT: the status and the device after it; no snapshot of a stream that had the number before waits any more (R402). -/
def Dev.admitStream (d : Dev) (i : Nat) (b : List Byte) (zero : Bool) : Nat × Dev :=
  let x := Stream.ofBytes b
  let st := if d.fieldsOk b x = false ∨ (x.mirror ≠ 3 ∧ (d.setStream i Stream.free).sourceOk x = false) then 1
    else if (d.stream i).state ≠ 0 then 2
    else d.admitChecks true i x Stream.free
  if st ≠ 0 then (st, d.admitRefused i st)
  else
    let d := (if zero then d.hbmZero x.ctxPtr x.ctxSize else d).setStream i x
    (0, { d with mir := { d.mir with snapQ := d.mir.snapQ.filter (fun e => e.1 != i) } })

/-- MODIFY: CLASS, CHUNK, BOUND, CLIENT and RESULT_RING of an IDLE stream; every other H field must equal its current value. -/
def Dev.modify (d : Dev) (i : Nat) (b : List Byte) : Nat × Dev :=
  let n := Stream.ofBytes b
  let x := d.stream i
  let y := { x with be := n.be, chunk := n.chunk, bound := n.bound, client := n.client, resultRing := n.resultRing }
  let same := { n with state := x.state, be := x.be, chunk := x.chunk, bound := x.bound, client := x.client, resultRing := x.resultRing
                       backlog := x.backlog, inWr := x.inWr, inRd := x.inRd, ackStep := x.ackStep, readyTick := x.readyTick
                       deadline := x.deadline, side := x.side, unacked := x.unacked, release := x.release, overrun := x.overrun
                       snapPend := x.snapPend, whole := x.whole, relinquished := x.relinquished, restoring := x.restoring
                       resetting := x.resetting, mirror := x.mirror }
  let st := if d.fieldsOk b { n with mirror := if n.mirror = 2 ∧ x.mirror = 2 then 0 else n.mirror } = false then 1
    else if n.mirror ≠ 3 ∧ (d.setStream i Stream.free).sourceOk n = false then 1
    else if x.state ≠ 1 then 3
    else if same ≠ x ∨ n.mirror ≠ x.mirror then 1
    else d.admitChecks true i y x
  if st ≠ 0 then (st, d.admitRefused i st) else (0, d.setStream i y)

/-- RELEASE: at once, or when the batch or the reset in progress ends (R281, R517). A FREE stream is refused with NOT_IDLE. -/
def Dev.release (d : Dev) (i : Nat) : Nat × Dev :=
  let x := d.stream i
  if x.state = 0 then (3, d)
  else if x.state = 3 ∨ x.resetting.isSome then (0, d.setStream i { x with release := true })
  else (0, d.setStream i x.freed)

/-- READ: the entry is copied into ST_STAGE. -/
def Dev.stRead (d : Dev) (i : Nat) : Dev :=
  let b := (d.entryView i).bytes
  d.each (List.range 16) (fun d n => d.setReg (Block.sch.base + Off.ST_STAGE n) (wd (leAt b (4 * n) 4)))

/-- A write of ST_CMD (R299): the operation on the stream, with its status in ST_RESULT. -/
def Dev.stCmd (d : Dev) (v : Word) : Dev :=
  let i := Fl.ST_CMD_STREAM.get v
  let put (r : Nat × Dev) : Dev := r.2.setFld (Block.sch.base + Off.ST_RESULT) Fl.ST_RESULT_STATUS r.1
  match Fl.ST_CMD_OP.get v with
  | 1 => put (d.admitStream i d.staged (Fl.ST_CMD_ZERO_CTX.on v))
  | 2 => put (d.modify i d.staged)
  | 3 => put (d.release i)
  | 4 => put (0, d.stRead i)
  | _ => d

/-! ### Suspect streams (R413, R516, R517) -/

/-- Whether a suspect stream can be restored from the partner's image (R413). -/
def Dev.canRestore (d : Dev) (x : Stream) : Bool :=
  (x.mirror == 1 || x.mirror == 2) && d.fld (Block.mir.base + Off.MIR_CFG) Fl.MIR_CFG_AUTO_RESTORE == 1
    && d.fld (Block.mir.base + Off.MIR_STATUS) Fl.MIR_STATUS_PARTNER_STATE == 1

/-- The reset of a suspect stream begins, for cause `c` (R516, R519). -/
def Dev.autoReset (d : Dev) (i c : Nat) : Dev :=
  let x := d.stream i
  if d.fld (Block.tel.base + Off.TEL_SUSPECT_CTRL) Fl.TEL_SUSPECT_CTRL_AUTO_RESET = 1 ∧ x.state = 4 ∧ d.contained x.side = false then
    d.setStream i { x with resetting := some c }
  else d

/-- A stream becomes SUSPECT: it is restored from the image, reset, or left (R516). -/
def Dev.suspect (d : Dev) (i : Nat) : Dev :=
  let d := d.setStream i (d.stream i).failed
  let x := d.stream i
  if x.state ≠ 4 ∨ d.contained x.side = true then d
  else if d.canRestore x then
    { d.setStream i { x with restoring := some d.tick } with mir := { d.mir with out := d.mir.out ++ [.restoreReq i] } }
  else d.autoReset i 1

/-- STREAM_RESET_DONE: the context is zeroed and the stream is IDLE, UNMIRRORED where it was mirrored, with a whole next snapshot (R517). -/
def execStreamResetDone (i : Fin 1024) (s : State) : Out :=
  onDev (fun d =>
    let x := d.stream i.val
    match x.resetting with
    | none => d
    | some c =>
      if d.contained x.side then d
      else
      let d := d.hbmZero x.ctxPtr x.ctxSize
      if x.release then d.setStream i.val x.freed
      else
        let mirrored := x.mirror = 1 ∨ x.mirror = 2
        let d := d.setStream i.val { x with state := 1, resetting := none, mirror := if mirrored then 2 else x.mirror, whole := x.whole || decide mirrored }
        let job := (d.batcherFor x.plan x.side).map d.batJob
        d.emit { cls := kECC, code := 0x0B, src := srcSc x.side, issuer := job.getD 0xFFFF, stream := i.val, detail := c + job.getD 0 * 2 ^ 8 }) s

/-- A write of TEL_SUSPECT_CMD with RESET 1; nothing is reset on a contained side (R26, R517, R525). -/
def Dev.suspectCmd (d : Dev) (i : Nat) : Dev :=
  let x := d.stream i
  if x.state = 4 ∧ d.contained x.side = true then d
  else if x.state = 4 then d.setStream i { x with resetting := some 3, restoring := none }
  else d.setFld (Block.tel.base + Off.TEL_STATUS) Fl.TEL_STATUS_CMD_BAD 1

end Sys2Proof.Machine
end

