-- ==== Sys2Proof/Machine/Jobs.lean ====
section
/-! DEFINITION. Jobs: the job commands, placement on cores, who may take a core, preemption, saving and restoring, and the accounting of waits (R302–R320, R327). -/

namespace Sys2Proof.Machine

/-! ### Records and accounting (R320, R326) -/

/-- A SCHED record of codes 0x10–0x13. -/
def Dev.jobRecord (d : Dev) (code src j det : Nat) : Dev := d.emit { cls := kSCHED, code := code, src := src, issuer := j, detail := det }

/-- The bucket of a wait (R320). -/
def waitBucket (n : Nat) : Nat :=
  if n < 250 then 0 else if n < 1250 then 1 else if n < 2500 then 2 else if n < 6250 then 3 else if n < 12500 then 4
  else if n < 25000 then 5 else if n < 125000 then 6 else 7

/-- A wait of a job ends (R320). -/
def Dev.endWait (d : Dev) (j : Nat) : Dev :=
  let x := d.job j
  match x.wants with
  | none => d
  | some t =>
    let n := d.tick - t
    let b := Block.sch.base
    let c := x.client
    let sd := d.jobSide j
    let d := d.schCount sd (b + Off.ACC_WAITS c) 1
    let d := d.addTime64 (b + Off.ACC_WAIT_SUM_LO c) (b + Off.ACC_WAIT_SUM_HI c) n
    let m := b + Off.ACC_WAIT_MAX c
    let d := d.setReg m (wd (min (max (d.reg m).toNat n) (2 ^ 32 - 1)))
    (d.schCount sd (b + Off.ACC_HIST c (waitBucket n)) 1).setJob j { d.job j with wants := none }

/-- A write of ACC_CTRL: zero the accounting of the clients of a mask. -/
def Dev.accClear (d : Dev) (v : Nat) : Dev :=
  let b := Block.sch.base
  d.each ((List.range 32).filter (fun c => v.testBit c)) (fun d c =>
    d.zero ([Off.ACC_WAITS c, Off.ACC_WAIT_SUM_LO c, Off.ACC_WAIT_SUM_HI c, Off.ACC_WAIT_MAX c, Off.ACC_PREEMPTS c, Off.ACC_PREEMPT_TIME_LO c,
      Off.ACC_PREEMPT_TIME_HI c].map (b + ·) ++ (List.range 8).map (fun k => b + Off.ACC_HIST c k)))

/-! ### CREATE (R303, R304) -/

/-- Whether `n` bytes from `a` lie in client `c`'s allotment on side `s` (R441). -/
def Dev.allotHas (d : Dev) (c s a n : Nat) : Bool :=
  let o := Block.hif.base + Off.ALLOT c
  let base := if s = 0 then d.fld o Fl.ALLOT_BASE0 else d.fld o Fl.ALLOT_BASE1
  let size := if s = 0 then d.fld o Fl.ALLOT_SIZE0 else d.fld o Fl.ALLOT_SIZE1
  let lo := s * hbmSize + base * 0x10000000
  decide (lo ≤ a) && decide (a + n ≤ lo + size * 0x10000000)

/-- The bits set in a number below 2^`n`. -/
def popCount (n v : Nat) : Nat := ((List.range n).filter (fun i => v.testBit i)).length

/-- A word of the staged job. -/
def Dev.jobStage (d : Dev) (i : Nat) : Nat := (d.reg (Block.sch.base + Off.JOB_STAGE i)).toNat

/-- The staged job (R327). -/
def Dev.stagedJob (d : Dev) : Job :=
  let w := d.jobStage
  { Job.free with
    state := .loaded, plan := w 0 % 2 ^ 16, client := w 0 / 2 ^ 16 % 32, cls := w 0 / 2 ^ 24 % 2
    mask := w 1 + w 2 * 2 ^ 32 + w 3 * 2 ^ 64 + w 4 * 2 ^ 96
    saveBase0 := w 5 + w 6 % 2 ^ 16 * 2 ^ 32, saveBase1 := w 7 + w 8 % 2 ^ 16 * 2 ^ 32, stride := w 9 % 2 ^ 11 }

/-- The save area of a job on a side (R303 check 6, R304). -/
def Dev.saveOk (d : Dev) (x : Job) (gate s : Nat) : Bool :=
  let n := ((coresOf x.mask).filter (fun k => sideOf k == s)).length
  let base := if s = 0 then x.saveBase0 else x.saveBase1
  n == 0 || (base != 0 && base % 256 == 0 && d.allotHas x.client s base (n * x.stride * 256)
    && decide (8192 + 65536 * (popCount 6 gate + 1) ≤ x.stride * 256))

/-- The status of CREATE for job `j` (R303). -/
def Dev.createStatus (d : Dev) (j : Nat) (x : Job) : Nat :=
  let cores := coresOf x.mask
  let sides := [0, 1].filter (fun s => cores.any (fun k => sideOf k == s))
  let lcOn := (List.range 32).filter (fun b => decide (d.batLc b > 0) && overlap (d.job (d.batJob b)).mask x.mask)
  if x.stride < 32 ∨ 1824 < x.stride then 1
  else if (d.job j).state ≠ .free then 2
  else match d.plan x.plan with
    | none => 3
    | some p =>
      if cores.length < p.field 12 2 ∨ p.field 14 2 < cores.length then 3
      else if x.mask = 0 ∨ (sides.length = 2 ∧ p.field 6 1 % 2 = 0) ∨ (x.cls = 0 ∧ lcOn ≠ []) then 4
      else if cores.any (fun k => d.domDown (clusterOf k)) then 4
      else if sides.any d.contained then 5
      else if sides.all (d.saveOk x (p.field 52 1 % 64)) = false then 6
      else if lcOn.all (fun b => (d.batStreams b).all (fun e => e.2.be || d.slackOk b e.2.bound [x])) = false then 7
      else 0

/-! ### The job commands (R305, R327) -/

/-- Whether an enabled batcher names a job. -/
def Dev.batNamed (d : Dev) (j : Nat) : Bool := (List.range 32).any (fun b => d.batOn b && d.batJob b == j)

/-- The answer of a job command: JOB_RESULT, and JOB_REFUSED where it was refused. -/
def Dev.jobAnswer (d : Dev) (j st : Nat) : Dev :=
  let d := d.setFld (Block.sch.base + Off.JOB_RESULT) Fl.JOB_RESULT_STATUS st
  if st = 0 then d else d.jobRecord 0x10 0 j st

/-- CREATE. -/
def Dev.jobCreate (d : Dev) (j : Nat) : Dev :=
  let x := d.stagedJob
  let st := d.createStatus j x
  (if st = 0 then d.setJob j x else d).jobAnswer j st

/-- START: of a LOADED job that no enabled batcher names; its wait begins. -/
def Dev.jobStart (d : Dev) (j : Nat) : Dev :=
  let x := d.job j
  if x.state = .loaded ∧ d.batNamed j = false then (d.setJob j { x with started := true, wants := some d.tick }).jobAnswer j 0
  else d.jobAnswer j 8

/-- RESET. -/
def Dev.jobReset (d : Dev) (j : Nat) : Dev :=
  if (d.job j).state = .free then d.jobAnswer j 8 else (d.resetJob j).jobAnswer j 0

/-- DESTROY. -/
def Dev.jobDestroy (d : Dev) (j : Nat) : Dev :=
  if (d.job j).state = .free ∨ d.batNamed j = true then d.jobAnswer j 8 else ((d.resetJob j).setJob j Job.free).jobAnswer j 0

/-- READ into JOB_STAGE. -/
def Dev.jobRead (d : Dev) (j : Nat) : Dev :=
  let x := d.job j
  let ws := [x.plan + x.client * 2 ^ 16 + x.cls * 2 ^ 24, x.mask % 2 ^ 32, x.mask / 2 ^ 32 % 2 ^ 32, x.mask / 2 ^ 64 % 2 ^ 32, x.mask / 2 ^ 96,
    x.saveBase0 % 2 ^ 32, x.saveBase0 / 2 ^ 32, x.saveBase1 % 2 ^ 32, x.saveBase1 / 2 ^ 32, x.stride]
  (d.each (List.range 10) (fun d i => d.setReg (Block.sch.base + Off.JOB_STAGE i) (wd (ws.getD i 0)))).jobAnswer j 0

/-- A write of JOB_CMD. -/
def Dev.jobCmd (d : Dev) (v : Word) : Dev :=
  let j := Fl.JOB_CMD_JOB.get v
  match Fl.JOB_CMD_OP.get v with
  | 1 => d.jobCreate j
  | 2 => d.jobStart j
  | 3 => d.jobReset j
  | 4 => d.jobDestroy j
  | 5 => d.jobRead j
  | _ => d

/-! ### Who may take a core (R306, R311, R312) -/

/-- The batcher whose decided batch waits for a job's cores, with the batch. -/
def Dev.waitingBatch (d : Dev) (j : Nat) : Option Batch :=
  ((List.range 32).filter (fun b => d.batOn b && d.batJob b == j)).findSome? (fun b =>
    match (d.bat b).inflight with
    | some x => if x.placed then none else some x
    | none => none)

/-- A deadline as a distance from now, ordered as R250 orders serial numbers. -/
def Dev.due (d : Dev) (side deadline : Nat) : Nat := (deadline + 2 ^ 31 + 2 ^ 32 - d.tickOf (srcSc side) % 2 ^ 32) % 2 ^ 32

/-- The class in which a waiting job wants its cores: 0 LC, 1 BE. -/
def Dev.wantClass (d : Dev) (j : Nat) : Nat :=
  match d.waitingBatch j with
  | some b => b.cls
  | none => let x := d.job j
            if x.state = .suspended then (if x.runs = 0 then 0 else 1) else x.cls

/-- The place of a waiting job: LC by the earliest row DEADLINE, LC without rows and BE by their oldest wait (R312). -/
def Dev.wantKey (d : Dev) (j : Nat) : Nat :=
  let since := (d.job j).wants.getD 0
  if d.wantClass j = 1 then 2 ^ 80 + since
  else match d.waitingBatch j with
    | some b => (b.rows.filter (fun r => !r.2 && !(d.stream r.1).be)).foldl (fun m r => min m (d.due (d.stream r.1).side (d.stream r.1).deadline)) (2 ^ 33)
    | none => 2 ^ 70 + since

/-- The other jobs that hold a core of a job's patch. -/
def Dev.holders (d : Dev) (j : Nat) : List Nat :=
  ((coresOf (d.job j).mask).filterMap (fun k => (d.core k).jobOf)).filter (· != j) |>.eraseDups

/-- Whether a job waits for its cores. -/
def Dev.waits (d : Dev) (j : Nat) : Bool :=
  let x := d.job j
  x.wants.isSome && (x.state == .loaded || x.state == .suspended)

/-- Whether a job's placement has begun and not ended: a job is switched as a whole, so no other job's wait stops it (R306). -/
def Dev.placing (d : Dev) (j : Nat) : Bool := (d.job j).state == .loaded && !(d.coresHolding j).isEmpty

/-- Whether a contained side keeps a job from its cores: a side of its patch, or, for a SHARDED plan, either (R21, R26). -/
def Dev.sideBars (d : Dev) (j : Nat) : Bool :=
  let x := d.job j
  [0, 1].any (fun s => d.contained s && (d.sharded x.plan || (coresOf x.mask).any (fun k => sideOf k == s)))

/-- Whether a waiting job may take its cores now: no contained side bars it, no other job holds one or is being placed on one, and, unless its own placement
has begun, no job before it waits for one (R21, R306, R312). -/
def Dev.mayTake (d : Dev) (j : Nat) : Bool :=
  d.waits j && !d.sideBars j && (d.holders j).isEmpty
    && (d.placing j || (d.jobs.map (·.1)).all (fun i => i == j || !overlap (d.job i).mask (d.job j).mask || (!d.placing i
      && (!d.waits i || decide (d.wantKey j < d.wantKey i) || (decide (d.wantKey j = d.wantKey i) && decide (j < i))))))

/-- Whether a holder is PARKED on every core with no batch decided (R311). -/
def Dev.idleHolder (d : Dev) (h : Nat) : Bool :=
  let x := d.job h
  x.state == .resident && x.runs == 2 && x.started == false && (d.waitingBatch h).isNone
    && (coresOf x.mask).all (fun k => !d.holds h k || (d.core k).state == .parked)

/-- A preemption request for a job (R313): merged with one under way. -/
def Dev.request (d : Dev) (h : Nat) : Dev :=
  let x := d.job h
  if x.state = .resident ∧ x.request.isNone then d.setJob h { x with request := some d.tick, forcedNoted := false } else d

/-- The switch-out of an idle holder begins (R311, R312). -/
def Dev.switchOut (d : Dev) (h : Nat) : Dev :=
  d.setJob h { d.job h with state := .saving, parkedOut := true, request := none, forced := false }

/-- Whether every core of a job under request has executed END before its PPT: it is switched out from PARKED, whatever its batcher has decided since
(R316). -/
def Dev.endedUnderRequest (d : Dev) (h : Nat) : Bool :=
  let x := d.job h
  x.state == .resident && x.request.isSome && (coresOf x.mask).all (fun k => !d.holds h k || (d.core k).state == .parked)

/-- What a waiting job asks of each holder of its cores (R312). A BE job waits for BE_SLICE of a BE holder. -/
def Dev.askHolder (d : Dev) (j h : Nat) : Dev :=
  let x := d.job h
  if d.idleHolder h || d.endedUnderRequest h then d.switchOut h
  else if x.state = .resident ∧ x.runs = 1 ∧ d.wantClass j = 0 then d.request h
  else d

/-- The arbitration of a side controller: a job that ended under a request is switched out whether another still waits or not (R316), and every job whose patch begins on its side and that waits asks the Sill for its clusters and the holders for its cores (R312, R493). -/
def Dev.arbitrate (d : Dev) (side : Nat) : Dev :=
  let d := d.each ((d.jobs.map (·.1)).filter (fun h => d.jobSide h == side && d.endedUnderRequest h)) Dev.switchOut
  let js := ((d.jobs.map (·.1)).filter (fun j => d.waits j && d.jobSide j == side))
  d.each js (fun d j =>
    let d := d.each ((coresOf (d.job j).mask).map clusterOf).eraseDups Dev.askOpen
    d.each (d.holders j) (fun d h => d.askHolder j h))

/-! ### Placement (R51, R168, R169, R307) -/

/-- A value of the plan header's tables. -/
def Plan.word (p : Plan) (o : Nat) : Word := wd (p.field o 4)

/-- The core as the header's tables load it: statistics, windows, rings, START_PC (R307). -/
def Core.loadHeader (c : Core) (k : Nat) (p : Plan) : Core :=
  let c := c.setFld Off.CORE_CTRL Fl.CORE_CTRL_START_PC (p.field 54 2 % 4096)
  let c := (List.range 8).foldl (fun c n => ((c.statClear n).setReg (Off.STAT_CFG n) (p.word (64 + 8 * n))).setReg (Off.STAT_DRIFT n) (p.word (68 + 8 * n))) c
  let c := (List.range 8).foldl (fun c w =>
    ((c.setFld (Off.CW_CFG w) Fl.CW_CFG_EN 0).cwBaseWrite w (p.word (132 + 8 * w))).cwCfgWrite w (p.word (128 + 8 * w))) c
  (List.range 16).foldl (fun c r =>
    let o := 192 + 16 * r
    let base := p.field (o + 8) 6
    let base := if (p.field (o + 8) 8).testBit 63 then coreAddr k (base % 2 ^ 24) else base
    let c := (c.setFld (Off.RING_CFG r) Fl.RING_CFG_EN 0).setRingSt r ⟨0, 0, 0, 0, 0⟩
    let c := ((c.setReg (Off.RING_BASE_LO r) (lo32 base)).setReg (Off.RING_BASE_HI r) (hi32 base))
    let c := c.setFld (Off.RING_HELD r) Fl.RING_HELD_SLOT_SIZE (Fl.RING_HELD_SLOT_SIZE.get (p.word (o + 4)))
    c.ringCfgWrite k r (p.word o)) c

/-- The overlays of the header, in its order: image offset, first segment, segments (R307). -/
def Plan.overlays (p : Plan) : List (Nat × Nat × Nat) :=
  (((List.range 16).map (fun j => (p.field (480 + 8 * j) 4, p.field (484 + 8 * j) 1 % 16, p.field (484 + 8 * j) 1 / 16 + 1))).takeWhile
    (fun e => e.1 != 0))

/-- Load one segment from HBM as OVL does (R51); a segment whose bytes fail their check stays invalid. -/
def Dev.loadSegment (d : Dev) (k seg a : Nat) : Dev :=
  let (got, d) := (d.coreTraffic k a 0 4096).hbmSideRead a 4096
  match got with
  | none => d.onCore k (fun c => c.setReg Off.IMEM_VALID (c.reg Off.IMEM_VALID &&& ~~~ (wd (2 ^ seg))))
  | some bs => d.onCore k (fun c =>
      let c := { c with imem := c.imem.write (4096 * seg) bs, imemBad := c.imemBad.filter (fun b => b / 256 != seg) }
      ((c.setReg Off.IMEM_VALID (c.reg Off.IMEM_VALID ||| wd (2 ^ seg))).setReg (Off.OVL_SRC_LO seg) (lo32 a)).setReg (Off.OVL_SRC_HI seg) (hi32 a))

/-- The gating and zeroing of R168 and R169, and the job in CORE_JOB. -/
def Core.assign (c : Core) (j plan gate : Nat) : Core :=
  let c := { c with mem := [], ue := [], ce := [], gb := [] }
  let c := c.setReg Off.SP_GATE (wd (gate % 64))
  c.setReg Off.CORE_JOB (Fl.CORE_JOB_PLAN.put (Fl.CORE_JOB_JOB_VALID.put (wd j) 1) plan)

/-- A counter of a cluster sequencer. -/
def Dev.seqCount (d : Dev) (cl o n : Nat) : Dev :=
  d.bump ((Block.seq cl).base + o) n { cls := kCORE, code := 0x11, src := srcSeq cl }

/-- The placement of a job on one core (R307). CS_OVL_LOADS counts every overlay that the header lists, one with a segment that could not be read among them
(R78; DESIGN CHOICE, log entry 61). -/
def Dev.place (d : Dev) (k j : Nat) (p : Plan) : Dev :=
  let cl := clusterOf k
  let d := d.setCore k { ((d.core k).assign j (d.job j).plan (p.field 52 1)).loadHeader k p with state := .parked }
  let d := d.each p.overlays (fun d e => d.each (List.range e.2.2) (fun d i => d.loadSegment k (e.2.1 + i) (p.dest + e.1 + 4096 * i)))
  (d.seqCount cl Off.CS_OVL_LOADS p.overlays.length).seqCount cl Off.CS_PLACEMENTS 1

/-- Whether a job holds every core of its patch. -/
def Dev.holdsAll (d : Dev) (j : Nat) : Bool := (coresOf (d.job j).mask).all (fun k => d.holds j k)

/-- A job whose cores are all placed or restored is RESIDENT; one that START started runs, and its wait ends (R305, R320). -/
def Dev.becomeResident (d : Dev) (j : Nat) : Dev :=
  let d := d.setJob j { d.job j with state := .resident, residentAt := d.tick, request := none, savedCores := [] }
  let x := d.job j
  if x.started = true ∧ x.runs = 2 then
    let d := d.each (coresOf x.mask) (fun d k => d.setCore k ((d.core k).enterRunning ((d.core k).fld Off.CORE_CTRL Fl.CORE_CTRL_START_PC)))
    (d.setJob j { d.job j with runs := x.cls }).endWait j
  else d

/-- JOB_PLACEMENT: the sequencer places a LOADED job that may take its cores on one core that no job holds: IDLE, or left by a saved job
(R71, R305–R307). -/
def execJobPlacement (k : Fin 512) (j : Fin 256) (s : State) : Out :=
  onDev (fun d =>
    let c := d.core k.val
    let x := d.job j.val
    match d.plan x.plan with
    | none => d
    | some p =>
      if x.state = .loaded ∧ inPatch x.mask k.val = true ∧ (c.state = .idle ∨ c.state = .suspended) ∧ c.jobOf = none ∧ d.mayTake j.val = true
          ∧ d.clusterOn (clusterOf k.val) = true ∧ d.bypassed (srcSeq (clusterOf k.val)) = false then
        let d := d.place k.val j.val p
        if d.holdsAll j.val then d.becomeResident j.val else d
      else d) s

/-! ### Preemption (R313, R314, R316) -/

/-- PREEMPT_REQUEST: the sequencer of a cluster sets PREEMPT_PEND on the cores of a job under request; none reaches a bypassed station (R22, R313 step 2). -/
def execPreemptRequest (cl : Fin 32) (j : Fin 256) (s : State) : Out :=
  onDev (fun d =>
    let x := d.job j.val
    if x.request.isNone ∨ (x.state ≠ .resident ∧ x.state ≠ .saving) ∨ d.bypassed (srcSeq cl.val) = true then d
    else
      let ks := (coresOf x.mask).filter (fun k => clusterOf k == cl.val && d.holds j.val k && (d.core k).state == .running && (d.core k).pptEntry.isNone)
      d.each ks (fun d k => d.setCore k ((d.core k).setFld Off.CORE_STATUS Fl.CORE_STATUS_PREEMPT_PEND 1))) s

/-- The requests of transfers `ids` of core `k` leave the windows of core `c`. -/
def Core.dropXferReqs (c : Core) (k : Nat) (ids : List Nat) : Core :=
  let keep (r : CwReq) : Bool := !(r.sender == k && ids.contains r.xfer)
  let qs : Tab (List CwReq) := c.cwq.map (fun q => (q.1, q.2.filter keep))
  { c with cwq := qs.filter (fun q => !q.2.isEmpty) }

/-- A transfer that waits for its credits, and so has written nothing (R204). -/
def Xfer.onlyWaits (t : Xfer) : Bool := t.credit == .waiting && t.ovl.isNone && !t.failed

/-- Transfers of a core that wait for credits leave their windows' queues and return to the descriptor queue, having written nothing (R314). -/
def Dev.requeueWaiting (d : Dev) (k : Nat) : Dev :=
  let ts := (d.core k).xfers.filter Xfer.onlyWaits
  let ids := ts.map (fun t => t.id)
  let cs : Tab Core := d.cores.map (fun e => (e.1, e.2.dropXferReqs k ids))
  let d : Dev := { d with cores := cs }
  let c := d.core k
  let again : List DCmd := ts.map (fun t => DCmd.desc t.raw t.at_)
  d.setCore k { c with xfers := c.xfers.filter (fun t => !t.onlyWaits), dq := again ++ c.dq }

/-- Held grants are returned to their windows, and to the images of receivers that are saved already, since their windows come back from there (R185, R314,
R315). -/
def Dev.returnGrants (d : Dev) (k j : Nat) : Dev :=
  let gs := (d.core k).grants
  let d := d.setCore k { d.core k with grants := [] }
  d.each gs (fun d g =>
    let d := d.onCore g.core (fun c => c.creditReturn g.win g.credits)
    match Tab.get none d.images (256 * g.core + j) with
    | some im => { d with images := Tab.set none d.images (256 * g.core + j) (some { im with core := im.core.creditReturn g.win g.credits }) }
    | none => d)

/-- The grants that core `k` asked for again after a restore and still waits for. -/
def Dev.pendingGrants (d : Dev) (k : Nat) : List Grant :=
  d.cores.flatMap (fun e => e.2.cwq.flatMap (fun q => (q.2.filter (fun r => r.sender == k && r.xfer == 0)).map (fun r => ⟨e.1, q.1, r.credits⟩)))

/-- The grants of a core at a forced stop are kept for its image, to be requested again at the restore (R315). -/
def Dev.noteGrants (d : Dev) (k j : Nat) : Dev :=
  { d with images := Tab.set none d.images (256 * k + j) (some ⟨d.core k, j, (d.core k).grants ++ d.pendingGrants k, true, false, true, [], []⟩) }

/-- FORCED_PREEMPT: FORCE_LIMIT ticks after the request a core still RUNNING is stopped between bundles, a fence: its wait is over, and no request waits for
a PPT any more (R76, R78, R175, R313 step 4, R314, R316). -/
def execForcedPreempt (k : Fin 512) (s : State) : Out :=
  onDev (fun d =>
    let c := d.core k.val
    match c.jobOf with
    | none => d
    | some j => match (d.job j).request with
      | none => d
      | some t =>
        let limit := d.fld (Block.sch.base + Off.SCH_EXP2) Fl.SCH_EXP2_FORCE_LIMIT
        if c.state ≠ .running ∨ c.pptEntry.isSome ∨ d.tick - t < limit then d
        else
          let d := d.abortStage k.val
          let d := d.noteGrants k.val j
          let d := (d.requeueWaiting k.val).returnGrants k.val j
          let c := d.core k.val
          let c := { c.fence with pptEntry := some forcedEntry, waitSince := none }
          let c := (c.setFld Off.CORE_STATUS Fl.CORE_STATUS_WAIT 0).setFld Off.CORE_STATUS Fl.CORE_STATUS_PREEMPT_PEND 0
          let d := d.putCore k.val (c.setFld Off.CORE_STATUS Fl.CORE_STATUS_FORCED 1)
          let d := d.beginSave j true
          let d := if (d.job j).forcedNoted then d
            else (d.setJob j { d.job j with forcedNoted := true }).jobRecord 0x11 (srcSc (d.jobSide j)) j k.val
          d.suspendHolds j) s

/-! ### Saving (R308, R313, R316, R317) -/

/-- An image of job `j`'s core `k`, if one is kept. -/
def Dev.image (d : Dev) (k j : Nat) : Option Image := Tab.get none d.images (256 * k + j)

/-- The live ranges of entry `e`: local address and length (R308). -/
def Plan.ranges (p : Plan) (e : Nat) : List (Nat × Nat) :=
  let o := 64 * e
  (List.range (min 7 (leAt p.live (o + 1) 1))).map (fun i => (leAt p.live (o + 8 + 8 * i) 4, leAt p.live (o + 12 + 8 * i) 4))

/-- The scratchpad ranges that a forced stop saves: every ON WM group and AM half, and all of PM (R317). -/
def Core.wholeRanges (c : Core) : List (Nat × Nat) :=
  ([0x0, 0x10000, 0x20000, 0x30000, 0x400000, 0x410000, 0x800000].filter c.isOn).map (fun a => (a, 0x10000))

/-- The lookup tables as an image holds them, 2,048 bytes (R317). -/
def Core.lutBytes (c : Core) : List Byte := (List.range 1024).flatMap (fun i => natLE 2 (c.lut 0 i).toNat)

/-- Whether a core's save may end: PARKED, or its PPT's drain is complete, or the work a forced stop lets end has ended (R68, R314). -/
def Core.saveReady (c : Core) : Bool :=
  match c.state, c.pptEntry with
  | .parked, _ => true
  | .running, some e => if e = forcedEntry then c.mu.isEmpty && c.xfers.isEmpty && c.replies.isEmpty else c.drained 0xF
  | _, _ => false

/-- The live-range entry a core saves by, or none for the whole of its state. -/
def Core.saveEntry (c : Core) (p : Plan) : Option Nat :=
  match c.state, c.pptEntry with
  | .running, some e => if e = forcedEntry then none else some e
  | _, _ => some (p.field 56 2)

/-- The scratchpad ranges that a core's save holds. -/
def Core.saveRanges (c : Core) (p : Plan) : List (Nat × Nat) :=
  match c.saveEntry p with
  | none => c.wholeRanges
  | some e => p.ranges e

/-- Whether a core's save holds the lookup tables (R308, R317). -/
def Core.saveTables (c : Core) (p : Plan) : Bool :=
  match c.saveEntry p with
  | none => true
  | some e => leAt p.live (64 * e) 1 % 2 == 1

/-- The slot that core `k` of a job saves into (R304). -/
def Job.slot (x : Job) (k : Nat) : Nat :=
  (if sideOf k = 0 then x.saveBase0 else x.saveBase1)
    + ((coresOf x.mask).filter (fun i => sideOf i == sideOf k)).idxOf k * x.stride * 256

/-- The bytes of an image after its fixed ones: the lookup tables where they are live, then the ranges, in their order (R317; log entry 59). -/
def Core.imageTail (c : Core) (tables : Bool) (parts : List (Nat × Nat)) : List Byte :=
  (if tables then c.lutBytes else []) ++ parts.flatMap (fun r => c.bankN r.1 r.2)

/-- Whether a save of core `k` meets an uncorrectable error, of the scratchpads or of the granule that its last bytes merge into (R316). -/
def Dev.saveBad (d : Dev) (x : Job) (p : Plan) (k : Nat) : Bool :=
  let c := d.core k
  let n := 6144 + (c.imageTail (c.saveTables p) (c.saveRanges p)).length
  (c.saveRanges p).any (fun r => (c.ueIn r.1 r.2).isSome) || (n % 32 != 0 && d.hbmUe.contains ((x.slot k + n) / 32))

/-- A failed save or restore: SWITCH_FAILED, the job fails, and the sequencers end it on its stopped cores, which are free for the wanting job
(R71, R316, R326). -/
def Dev.switchFailed (d : Dev) (j k step : Nat) : Dev :=
  let d := d.jobRecord 0x12 (srcSc (d.jobSide j)) j (k + step * 2 ^ 12)
  ((d.failJob j).dropImages j).freeCores j

/-- Save core `k` of job `j`: its image is written to its slot, and the core is SUSPENDED, by force or not (R68, R71, R76, R304, R313). -/
def Dev.saveCore (d : Dev) (j : Nat) (p : Plan) (k : Nat) : Dev :=
  let x := d.job j
  let parts := (d.core k).saveRanges p
  let tables := (d.core k).saveTables p
  let whole := ((d.core k).saveEntry p).isNone
  let grants := match d.image k j with
    | some x => x.grants
    | none => d.pendingGrants k
  let fixed := (List.range 6144).map (Config.imageByte d.fresh)
  let d := { d with fresh := d.fresh + 1 }.onCore k (fun c => c.noteReads parts)
  let forced := b2n ((d.core k).pptEntry == some forcedEntry)
  let c := (d.core k).setFld Off.CORE_STATUS Fl.CORE_STATUS_FORCED forced
  let bytes := fixed ++ c.imageTail tables parts
  let d := (d.coreTraffic k (x.slot k) bytes.length 0).hbmWrite (srcSeq (clusterOf k)) none (x.slot k) bytes
  let im : Image := ⟨{ c with pptEntry := none, waitSince := none, mem := [], ue := [], ce := [] }.setFld Off.CORE_STATUS Fl.CORE_STATUS_PREEMPT_PEND 0,
    j, grants, whole, c.state == .parked, tables, fixed, parts⟩
  let d := d.dropRequests (fun n => n == k)
  let d : Dev := { d with images := Tab.set none d.images (256 * k + j) (some im) }
  (d.setJob j { x with savedCores := x.savedCores ++ [k] }).setCore k { c with state := .suspended, pptEntry := none }

/-- Whether a batch of a job is under way. -/
def Dev.batchUnderWay (d : Dev) (j : Nat) : Bool :=
  (List.range 32).any (fun b => d.batOn b && d.batJob b == j && (d.bat b).inflight.isSome)

/-- Every core of a SAVING job is saved: the cores leave it, and it is SUSPENDED; one that was preempted, or that a batch still needs, waits to be
restored (R305, R306, R313, R320). -/
def Dev.suspended (d : Dev) (j : Nat) : Dev :=
  let x := d.job j
  let d := d.each (d.coresHolding j) (fun d k => d.setCore k { (d.core k).endJob with state := .suspended })
  d.setJob j { x with
    state := .suspended, request := none
    wants := if x.parkedOut then (if d.batchUnderWay j then some (x.wants.getD d.tick) else x.wants) else some d.tick }

/-- SAVE_COMPLETE: the saves that can end do, each core of them is SUSPENDED, and with the last one the job is; `bad` is a core whose save failed
(R68, R313, R316). -/
def execSaveComplete (j : Fin 256) (bad : Option (Fin 512)) (s : State) : Out :=
  onDev (fun d =>
    let x := d.job j.val
    match d.plan x.plan with
    | none => d
    | some p =>
      if x.state ≠ .saving then d
      else
        let ks := (d.coresHolding j.val).filter (fun k => (d.core k).saveReady)
        match ((bad.map (·.val)).filter ks.contains).orElse (fun _ => ks.find? (d.saveBad x p)) with
        | some k => d.switchFailed j.val k 0
        | none =>
          let d := d.each ks (fun d k => d.saveCore j.val p k)
          if (d.coresHolding j.val).all (d.job j.val).savedCores.contains then d.suspended j.val else d) s

/-! ### Restoring (R315, R316) -/

/-- The registers whose words are part of a core's fixed state: its counters, its statistics, its credit windows and its rings (R317). -/
def fixedOffs : List Nat :=
  [Off.PARITY_REFETCH, Off.STALL_DEP, Off.STALL_QFULL, Off.STALL_WAIT, Off.STALL_FETCH] ++
  [0x1008, 0x100C, 0x1010, 0x1014, 0x1018, 0x1100, 0x1104, 0x1108, 0x110C] ++
  (List.range 64).map (fun i => 0x1200 + 4 * i) ++ [0x1404, 0x1408, 0x140C, 0x1410, 0x1414, 0x1418] ++
  (List.range 32).map (fun i => 0x1440 + 4 * i) ++ [0x1504, 0x1508, 0x150C, 0x1510, 0x1514] ++ (List.range 128).map (fun i => 0x1600 + 4 * i)

/-- The core that altered fixed bytes of a slot spell: its s, v and m registers, its PC, its mailbox, its queue entries, its credit windows, and the
words of its counters, statistics, windows and rings are whatever the bytes make them (R304, R317; log entry 59). -/
def Core.respelt (c : Core) (bs : List Byte) : Core :=
  let q := Config.imageCore bs
  let c := (List.range 32).foldl (fun (c : Core) r => c.setS r (q.s r)) c
  let c := (List.range 512).foldl (fun (c : Core) i => c.setV (i / 16) (i % 16) (q.v (i / 16) (i % 16))) c
  let c := (List.range 8).foldl (fun (c : Core) r => c.setM r (q.m r)) c
  let c := fixedOffs.foldl (fun (c : Core) o => c.setReg o (q.reg o)) c
  { c with pc := q.pc % 4096, mbx := q.mbx.take 16, mq := q.mq.take 8, dq := q.dq.take 16, lq := q.lq.take 8, sq := q.sq.take 4
           cwAvail := q.cwAvail, winSats := q.winSats }

/-- Load the image of core `k` from its slot: zeroed first, its cycle count running on (R69, R169, R304, R315 step 1); false where the slot's read fails
(R316). -/
def Dev.restoreCore (d : Dev) (j : Nat) (k : Nat) : Bool × Dev :=
  match d.image k j with
  | none => (true, d)
  | some im =>
    let x := d.job j
    let n := 6144 + (if im.tables then 2048 else 0) + (im.parts.map (·.2)).foldl (· + ·) 0
    let (got, d) := (d.coreTraffic k (x.slot k) 0 n).hbmSideRead (x.slot k) n
    match got with
    | none => (false, d)
    | some bs =>
      let now := d.core k
      let fixed := bs.take 6144
      let c := if fixed = im.fixed then im.core else im.core.respelt fixed
      let c := { c with state := .suspended, cyc := now.cyc, cycMark := now.cycMark, cwq := [], mem := [], ue := [], ce := []
                        luts := if im.tables then [] else now.luts }
      let c := c.setFld Off.CORE_STATUS Fl.CORE_STATUS_FORCED (now.fld Off.CORE_STATUS Fl.CORE_STATUS_FORCED)
      let c := if im.tables then (List.range 1024).foldl (fun (c : Core) i => c.setLut 0 i (BitVec.ofNat 16 (leAt bs (6144 + 2 * i) 2))) c else c
      let at_ := im.parts.flatMap (fun r => (List.range r.2).map (r.1 + ·))
      let m := (at_.zip (bs.drop (n - at_.length))).foldl (fun (m : Mem) p => if c.isOn p.1 then m.setByte p.1 p.2 else m) []
      (true, d.setCore k { c with mem := m })

/-- Request the grants of core `k` again, in their order (R315 step 2). -/
def Dev.regrant (d : Dev) (j : Nat) (k : Nat) : Dev :=
  match d.image k j with
  | none => d
  | some im => d.each im.grants (fun d g =>
      let t := d.core g.core
      let r : CwReq := ⟨k, 0, g.credits, 0, d.tick, Tab.get 0 d.sideCyc (sideOf k)⟩
      d.setCore g.core { t with cwq := Tab.set [] t.cwq g.win (Tab.get [] t.cwq g.win ++ [r]) })

/-- RESTORE_START: a SUSPENDED job that may take its cores is RESTORING; a slot that cannot be read fails the switch (R305, R312, R315, R316). -/
def execRestoreStart (j : Fin 256) (s : State) : Out :=
  onDev (fun d =>
    let x := d.job j.val
    if x.state = .suspended ∧ d.mayTake j.val = true ∧ (coresOf x.mask).all (fun k => d.clusterOn (clusterOf k)) = true then
      let r := (coresOf x.mask).foldl (fun (a : Option Nat × Dev) k =>
        let q := a.2.restoreCore j.val k
        (if q.1 then a.1 else a.1.or (some k), q.2)) (none, d)
      let d := r.2.setJob j.val { x with state := .restoring }
      match r.1 with
      | some k => d.switchFailed j.val k 1
      | none => d.each (coresOf x.mask) (fun d k => d.regrant j.val k)
    else d) s

/-- RESTORE_COMPLETE: every core is restored, the Latch units clear SUSP, and each core resumes or is PARKED (R315); the
windows grant what was requested again once their cores are no longer SUSPENDED (R187). `bad` is a core whose
restore failed, with the step. -/
def execRestoreComplete (j : Fin 256) (bad : Option (Fin 512 × Fin 4)) (s : State) : Out :=
  onDev (fun d =>
    let x := d.job j.val
    if x.state ≠ .restoring then d
    else match bad with
      | some (k, n) => d.switchFailed j.val k.val n.val
      | none =>
        let ks := coresOf x.mask
        let d := d.each ks (fun d k =>
          match d.image k j.val with
          | some im => d.setCore k { d.core k with state := if im.parked then .parked else .running }
          | none => d)
        let d := ((d.resumeHolds j.val).endPreempted j.val).dropImages j.val
        let d := d.becomeResident j.val
        if (d.waitingBatch j.val).isSome then d else d.endWait j.val) s

/-- BE_SLICE_EXPIRY: a BE holder resident for BE_SLICE ticks is preempted for a waiting BE job (R312). -/
def execBeSliceExpiry (h : Fin 256) (s : State) : Out :=
  onDev (fun d =>
    let x := d.job h.val
    let slice := d.fld (Block.sch.base + Off.BE_SLICE) Fl.BE_SLICE_TICKS
    let wanted := (d.jobs.map (·.1)).any (fun j => d.waits j && d.wantClass j == 1 && (d.holders j).contains h.val)
    if x.state = .resident ∧ x.runs = 1 ∧ d.tick - x.residentAt ≥ slice ∧ wanted = true then d.request h.val else d) s

end Sys2Proof.Machine
end

