-- ==== Sys2Proof/Machine/Batches.lean ====
section
/-! DEFINITION. The side controllers: readiness, the batcher's decision, dispatch, completion and results, and the mode epochs (R284, R288–R293, R296, R321–R324, R458, R459). -/

namespace Sys2Proof.Machine

/-! ### The settings in force (R288, R301) -/

/-- The side clock point in force at a side controller, in 100 MHz steps. -/
def Dev.scClk (d : Dev) (s : Nat) : Nat := d.fld ((Block.sc s).base + Off.SC_STATUS) Fl.SC_STATUS_CLK
/-- Whether 4.8 Gb/s is in force at a side controller. -/
def Dev.scQuiet (d : Dev) (s : Nat) : Bool := d.fld ((Block.sc s).base + Off.SC_STATUS) Fl.SC_STATUS_QUIET == 1
/-- Whether a side controller runs. -/
def Dev.scRuns (d : Dev) (s : Nat) : Bool := d.fld ((Block.sc s).base + Off.SC_STATUS) Fl.SC_STATUS_RUNNING == 1 && !d.contained s

/-- The step time of a plan for the pin rate in force, in ns at 1.7 GHz. -/
def Dev.stepNs (d : Dev) (s : Nat) (p : Plan) : Nat := if d.scQuiet s then p.field 20 4 else p.field 16 4

/-- S in whole ticks, rounded down (R288). -/
def Dev.stepTicks (d : Dev) (s : Nat) (p : Plan) : Nat := d.stepNs s p * 17 / (40 * d.scClk s)

/-- 4 × S in whole microseconds, rounded up (R293). -/
def Dev.watchUs (d : Dev) (s : Nat) (p : Plan) : Nat := (4 * d.stepNs s p * 17 + 1000 * d.scClk s - 1) / (1000 * d.scClk s)

/-- The tick of a side controller. -/
def Dev.scTick (d : Dev) (s : Nat) : Nat := d.tickOf (srcSc s)

/-- Insert by a key, after entries of the same key. -/
def insertBy {α : Type} (key : α → Nat) (x : α) : List α → List α
  | [] => [x]
  | y :: l => if key x < key y then x :: y :: l else y :: insertBy key x l

/-- Sort by a key; entries of the same key keep their order. -/
def sortBy {α : Type} (key : α → Nat) (l : List α) : List α := l.foldl (fun acc x => insertBy key x acc) []

/-! ### Readiness (R284, R286, R289) -/

/-- A stream becomes READY now (R284, R289). -/
def Dev.makeReady (d : Dev) (i : Nat) : Dev :=
  let x := d.stream i
  let t := d.scTick x.side % 2 ^ 32
  d.setStream i { x with state := 2, readyTick := t, deadline := (t + 250 * x.bound) % 2 ^ 32, backlog := d.inBacklog x }

/-- IDLE streams of a side whose input holds a full chunk become READY (R284). -/
def Dev.readiness (d : Dev) (s : Nat) : Dev :=
  let idle := d.streams.filter (fun e => e.2.live && e.2.state == 1 && e.2.side == s && decide (e.2.chunkBytes ≤ e.2.held))
  d.each idle (fun d e => d.makeReady e.1)

/-! ### The decision (R290) -/

/-- The READY streams a batcher may take: those with a snapshot pending are left out (R403). -/
def Dev.readyOf (d : Dev) (b : Nat) : List (Nat × Stream) := (d.batStreams b).filter (fun e => e.2.state == 2 && !e.2.snapPend)

/-- How long ago a stream became READY. -/
def Dev.readyAge (d : Dev) (x : Stream) : Nat := (d.scTick x.side % 2 ^ 32 + 2 ^ 32 - x.readyTick) % 2 ^ 32

/-- The rows a batcher dispatches now, with their catch-up marks; none when nothing is due, full or stale (R290). -/
def Dev.pick (d : Dev) (b : Nat) (p : Plan) : Option (List (Nat × Bool)) :=
  let s := b / 16
  let o := Block.sch.base
  let ready := d.readyOf b
  let back := ready.filter (fun e => d.inBacklog e.2)
  let now := ready.filter (fun e => !d.inBacklog e.2)
  let age (e : Nat × Stream) : Nat := 2 ^ 32 - d.readyAge e.2
  let lc := sortBy (fun e => d.due s e.2.deadline) (now.filter (fun e => !e.2.be))
  let cu := sortBy age back
  let be := sortBy age (now.filter (fun e => e.2.be))
  let catchup := d.fld (o + Off.BAT_SIZE b) Fl.BAT_SIZE_CATCHUP
  let cap := d.batCap b
  let due := match lc with
    | [] => false
    | e :: _ => decide ((d.scTick s + 2 * 2 ^ 32 - e.2.deadline + d.stepTicks s p) % 2 ^ 32 < 2 ^ 31)
  let full := decide (d.fld (o + Off.BAT_SIZE b) Fl.BAT_SIZE_TARGET ≤ lc.length + min cu.length catchup + be.length)
  let stale := lc.isEmpty && (cu ++ be).any (fun e => decide (d.fld (o + Off.BAT_BE_WAIT b) Fl.BAT_BE_WAIT_TICKS ≤ d.readyAge e.2))
  let take (n : Nat) (mark : Bool) (l : List (Nat × Stream)) : List (Nat × Bool) := (l.take n).map (fun e => (e.1, mark))
  let rows := take cap false lc
  let rows := rows ++ take (min catchup (cap - rows.length)) true cu
  let rows := rows ++ take (cap - rows.length) false be
  if (due || full || stale) && !rows.isEmpty then some rows else none

/-- The weight copy of a plan in force on a side. -/
def Plan.copy (p : Plan) (s : Nat) : Nat := if s = 0 then p.copy0 else p.copy1

/-! ### Taking a setting at a boundary (R165, R241, R321) -/

/-- The registers of the epochs. -/
def epo : Nat := Block.gctl.base + Off.EP_STATUS

/-- EP_UNIT of a unit. -/
def Dev.setUnit (d : Dev) (u epoch pending : Nat) : Dev := d.setReg (Block.gctl.base + Off.EP_UNIT u) (wd (epoch + pending * 2 ^ 16))

/-- The side of a unit (R329). -/
def unitSide (u : Nat) : Nat := u % 2

/-- Set a plan's weight copy on a side. -/
def Dev.setCopy (d : Dev) (plan s v : Nat) : Dev :=
  match d.plan plan with
  | some p => { d with plans := Tab.set none d.plans plan (some (if s = 0 then { p with copy0 := v } else { p with copy1 := v })) }
  | none => d

/-- A side clock below ADMIT_CLK is recorded once for each such period (R295). -/
def Dev.checkAdmitClk (d : Dev) (s clk : Nat) : Dev :=
  if d.fld (Block.sch.base + Off.ADMIT_CLK) Fl.ADMIT_CLK_CLK ≤ clk then { d with belowAdmit := d.belowAdmit.filter (· != s) }
  else if d.belowAdmit.contains s then d
  else { d with belowAdmit := s :: d.belowAdmit }.emit { cls := kSCHED, code := 0x07, src := srcSc s, detail := clk }

/-- The field of PWR_GOV_STATUS that shows a side's clock point. -/
def govClk (s : Nat) : Fld := if s = 0 then Fl.PWR_GOV_STATUS_CLK0 else Fl.PWR_GOV_STATUS_CLK1

/-- A unit takes a setting at its boundary (R241, R321). -/
def Dev.applySetting (d : Dev) (e : Epoch) (u v : Nat) : Dev :=
  let s := unitSide u
  let sc := (Block.sc s).base + Off.SC_STATUS
  match e.kind with
  | 1 => if u < 2 then (d.setFld sc Fl.SC_STATUS_CLK v).checkAdmitClk s v
         else d.setFld (Block.pwr.base + Off.PWR_GOV_STATUS) (govClk s) v
  | 2 => if u < 2 then d.setFld sc Fl.SC_STATUS_QUIET v else d.setFld ((Block.hbm s).base + Off.HBM_STATUS) Fl.HBM_STATUS_QUIET v
  | _ => d.setCopy e.plan s v

/-- A unit with a staged switch takes it and acknowledges; the HBM controller's pause ends with the switch (R241, R321, R323). -/
def Dev.switchUnit (d : Dev) (e : Epoch) (u : Nat) : Dev :=
  let st := d.fld epo Fl.EP_STATUS_STATE
  if e.pending.contains u = false ∨ st = 4 then d
  else
    let v := if st = 2 then e.old else e.new
    let d := (d.applySetting e u (if unitSide u = 0 then v.1 else v.2)).setUnit u (d.fld epo Fl.EP_STATUS_EPOCH) 0
    { d with epoch := some { e with pending := e.pending.filter (· != u), acked := e.acked ++ [u] } }

/-- A dispatch decision of a batcher is the boundary of a staged change of its plan's weight copy (R165, R321). -/
def Dev.copyBoundary (d : Dev) (b : Nat) : Dev :=
  match d.epoch with
  | some e => if e.kind = 3 ∧ e.plan = d.batPlan b ∧ d.batOn b = true ∧ (d.bat b).inflight.isNone = true then d.switchUnit e (b / 16) else d
  | none => d

/-! ### A decision -/

/-- Whether a side controller may dispatch to a batcher's job: the patch lies on its own side, or, for a SHARDED plan of which it is the home side, includes
cores of both sides; no SHARDED plan runs while a side is contained (R23, R25, R26). -/
def Dev.mayDispatch (d : Dev) (b : Nat) (p : Plan) : Bool :=
  let own := (d.batCores b).all (fun k => sideOf k == b / 16)
  let both := [0, 1].all (fun s => (d.batCores b).any (fun k => sideOf k == s))
  if p.shardedLayout then b / 16 == p.homeSide && (own || both) && !d.contained 0 && !d.contained 1 else own

/-- A batcher's decision: a staged change of its plan's weight copy takes effect first; its rows are RUNNING, its batch waits for the job's cores, and the
job's wait begins (R165, R290, R320, R321). -/
def Dev.decideBatch (d : Dev) (b : Nat) : Dev :=
  let s := b / 16
  let d := d.copyBoundary b
  match d.plan (d.batPlan b), (d.bat b).inflight with
  | some p, none =>
    if d.batOn b = false ∨ d.mayDispatch b p = false then d
    else match d.pick b p with
      | none => d
      | some rows =>
        let j := d.batJob b
        let bt := d.bat b
        let cls := if rows.any (fun r => !(d.stream r.1).be) then 0 else 1
        let cores := (d.batCores b).take ((rows.length + 15) / 16)
        let x : Batch := ⟨rows, cores, cls, (bt.seq + 1) % 2 ^ 32, bt.half, d.tick, d.watchUs s p, d.stepTicks s p,
          d.fld (Block.gctl.base + Off.EP_UNIT s) Fl.EP_UNIT_EPOCH, p.copy s, false, 0, []⟩
        let d := d.each rows (fun d r => d.setStream r.1 { d.stream r.1 with state := 3, backlog := r.2 })
        let d := d.setBat b ⟨some x, x.seq, 1 - bt.half⟩
        let d := (d.batCount b x.seq j (Block.sch.base + Off.BAT_PASSES b) 1).batCount b x.seq j ((Block.sc s).base + Off.SC_DISPATCHES) 1
        d.setJob j { d.job j with wants := some ((d.job j).wants.getD d.tick) }
  | _, _ => d

/-! ### Dispatch (R292) -/

/-- The entries of a list for `n` cores; entries past the rows are holes (R199, R292). -/
def listBytes (n : Nat) (vs : List Nat) : List Byte :=
  (vs ++ List.replicate (16 * n - vs.length) 0xFFFFFFFF).flatMap (fun v => natLE 4 v)

/-- The list area of a batch. -/
def Dev.listArea (d : Dev) (b : Nat) (x : Batch) : Nat :=
  d.reg64 (Block.sch.base + Off.BAT_AREA_LO b) (Block.sch.base + Off.BAT_AREA_HI b) + 0x2000 * x.half

/-- The slot-list entry of a row (R292 step 2). -/
def Dev.slotEntry (d : Dev) (i : Nat) : Nat := let x := d.stream i
  i * x.inChunks + x.inRd % x.z / x.chunkBytes

/-- The dispatch of a batch whose job holds its cores: the lists, the completion word with its watch (R292 steps 2 and 3). -/
def Dev.beginDispatch (d : Dev) (b : Nat) (p : Plan) (x : Batch) : Dev :=
  let s := b / 16
  let j := d.batJob b
  let n := x.cores.length
  let area := d.listArea b x
  let ids := x.rows.map (·.1)
  let d := d.hbmWrite (srcSc s) none area (listBytes n ids)
  let d := d.hbmWrite (srcSc s) none (area + 0x1000) (listBytes n (ids.map d.slotEntry))
  let cl := d.firstCluster j
  let w := p.field 58 2 % 4096
  let d := d.setBat b { d.bat b with inflight := some { x with placed := true, begun := d.tick } }
  let d := d.setJob j { d.job j with runs := x.cls }
  if !d.reachable cl then { d with scDone := d.scDone ++ [(b, 8)] }
  else
    let l := d.lu cl
    let d := d.setLu cl { l with ue := l.ue.filter (· != w) }
    let old := (d.lu cl).word w
    let d := (d.luCount cl Off.LU_OPS 1).latchStore cl w false { old with value := 0, kind := 0, owned := true, owner := j }
    let l := d.lu cl
    d.setLu cl { l with watches := l.watches ++ [⟨w, 0, wd n, 0, 0, j, 0xFFFF, d.tick + 25 * x.timeout, some b⟩] }

/-- Begin the dispatch of each decided batch of a side whose job is resident with every core PARKED. -/
def Dev.dispatchReady (d : Dev) (s : Nat) : Dev :=
  d.each ((List.range 16).map (· + 16 * s)) (fun d b =>
    match (d.bat b).inflight, d.plan (d.batPlan b) with
    | some x, some p =>
      let j := d.batJob b
      let y := d.job j
      if x.placed = false ∧ d.mayDispatch b p = true ∧ y.state = .resident ∧ y.request = none ∧ (coresOf y.mask).all (fun k => d.holds j k && (d.core k).state == .parked)
      then d.beginDispatch b p x else d
    | _, _ => d)

/-- The dispatch message of the core at position `i` of a batch (R292). -/
def Dev.dispatchMsg (d : Dev) (b : Nat) (x : Batch) (i : Nat) : List Byte :=
  let rows := (x.rows.drop (16 * i)).take 16
  natLE 6 (d.listArea b x + 64 * i)
    ++ natLE 1 (rows.length + b2n (rows.any (fun r => r.2)) * 32 + x.cls * 64)
    ++ natLE 1 x.copy ++ natLE 2 i ++ natLE 2 x.cores.length ++ natLE 4 x.seq

/-- DISPATCH_MESSAGE: an active core that is PARKED takes its message of kind 2, which its cluster's station brings, and enters RUNNING at START_PC; with the
last one the job's wait ends (R22, R61, R71, R292, R320). -/
def execDispatchMessage (k : Fin 512) (s : State) : Out :=
  onDev (fun d =>
    let find := (List.range 32).findSome? (fun b =>
      match (d.bat b).inflight with
      | some x => if x.placed && x.cores.contains k.val && !x.sent.contains k.val && d.holds (d.batJob b) k.val then some (b, x) else none
      | none => none)
    match find with
    | none => d
    | some (b, x) =>
      let c := d.core k.val
      if c.state ≠ .parked ∨ d.bypassed (srcSeq (clusterOf k.val)) = true then d
      else
        let msg : Msg := ⟨2, 0x3FF, k.val, d.dispatchMsg b x (x.cores.idxOf k.val)⟩
        let c := c.enterRunning (c.fld Off.CORE_CTRL Fl.CORE_CTRL_START_PC)
        let d := d.setCore k.val { c with mbx := c.mbx ++ [msg] }
        let x := { x with sent := x.sent ++ [k.val] }
        let d := d.setBat b { d.bat b with inflight := some x }
        if x.sent.length = x.cores.length then d.endWait (d.batJob b) else d) s

/-! ### Results (R286, R341, R458, R459) -/

/-- A result entry's first 32 bytes and payload, cut to the entry's size. -/
def resultEntry (i flags lost step plan seq size : Nat) (payload : List Byte) : List Byte :=
  let body := payload.take (size - 32)
  let trunc := b2n (decide (size - 32 < payload.length))
  natLE 2 i ++ natLE 1 (flags + 4 * trunc) ++ natLE 1 lost ++ natLE 4 step ++ natLE 2 plan ++ natLE 2 body.length ++ natLE 4 seq
    ++ natLE 16 0 ++ body

/-- Post one entry to a stream's result ring; a ring that is full or disabled drops and counts it (R459). -/
def Dev.postResult (d : Dev) (i flags step seq : Nat) (payload : List Byte) : Dev :=
  let x := d.stream i
  let f := x.client + 1
  let q := RSet.rr (x.resultRing % 16)
  let key := 16 * f + x.resultRing % 16
  let lost := Tab.get 0 d.rrLost key
  if d.ringOpen f q then
    let d := d.ringPut f q (resultEntry i flags lost step x.plan seq (d.ringUnit f q) payload)
    { d with rrLost := Tab.set 0 d.rrLost key 0 }
  else
    let d := (d.ringCount f q).ringFlag f q Fl.X_STATUS_DROPPED
    { d with rrLost := Tab.set 0 d.rrLost key (min 255 (lost + 1)) }

/-- The result writer's work for one row: samples to the playback slots that play the stream, a token to the stream's own ring, and the entry. -/
def Dev.writeResult (d : Dev) (p : Plan) (x : Batch) (r : Nat × Bool) (late : Bool) (res : ResRow) : Dev :=
  let i := r.1
  let st := d.stream i
  let step := (st.step + 2 ^ 32 - 1) % 2 ^ 32
  let flags := b2n r.2 + 2 * b2n late
  let d := match res.token with
    | some t => if (p.field 6 1).testBit 2 then (d.inputPut i (natLE 4 1 ++ natLE 4 t.toNat ++ List.replicate 252 0)).2 else d
    | none => d
  match (if (p.field 6 1).testBit 3 then d.playbacksOf 3 i else []) with
  | [] => d.postResult i flags step x.seq res.payload
  | slots => (d.each slots (fun d q => (d.playPut q.1 q.2 res.payload).2)).postResult i flags step x.seq []

/-! ### Completion (R293, R296, R402, R405) -/

/-- The partner's role in a record of class MIRROR (R415). -/
def Dev.partnerRole (d : Dev) : Nat := if d.role = 1 then 2 else if d.role = 2 then 1 else 0

/-- A class MIRROR record (R415). -/
def Dev.mirRecord (d : Dev) (code : Nat) (stream : Option Nat) (det : Nat) : Dev :=
  d.emit { cls := kMIRROR, code := code, src := 8, obj := d.partnerRole, stream := stream.getD 0xFFFF, detail := det }

/-- STEP and ACK_STEP of a stream, as a stream's MIRROR record holds them. -/
def Stream.steps (x : Stream) : Nat := x.step + x.ackStep * 2 ^ 32

/-- The lag of a home stream (R405). -/
def Stream.lag (x : Stream) : Nat := (x.step + 2 * 2 ^ 32 - 1 - x.ackStep) % 2 ^ 32

/-- A stream whose lag exceeds 2 becomes UNMIRRORED (R405). -/
def Dev.checkLag (d : Dev) (i : Nat) : Dev :=
  let x := d.stream i
  if x.mirror = 1 ∧ x.lag > 2 then (d.setStream i { x with mirror := 2 }).mirRecord 0x01 (some i) x.steps else d

/-- A row's stream after MET: STEP and IN_RD advance, it is READY or IDLE, or FREE where a RELEASE waited, and its snapshot is pending where
it is mirrored (R281, R293, R402). -/
def Dev.advanceRow (d : Dev) (i : Nat) : Dev :=
  let x := d.stream i
  let mir := (x.mirror = 1 ∨ x.mirror = 2) ∧ d.fld (Block.mir.base + Off.MIR_CFG) Fl.MIR_CFG_EN = 1 ∧ x.release = false
  let x := { x with step := (x.step + 1) % 2 ^ 32, inRd := (x.inRd + x.chunkBytes) % (2 * x.z), state := 1, backlog := false
                    snapPend := x.snapPend || decide mir }
  let d := d.setStream i x
  let d := if mir then { d with mir := { d.mir with snapQ := d.mir.snapQ ++ [(i, (x.step + 2 ^ 32 - 1) % 2 ^ 32)] } } else d
  if x.release then d.setStream i x.freed
  else (if x.chunkBytes ≤ x.held then d.makeReady i else d).checkLag i

/-- The record of a batch (R298). -/
def Dev.batchRecord (d : Dev) (b : Nat) (x : Batch) (code det : Nat) : Dev :=
  d.emit { cls := kSCHED, code := code, src := srcSc (b / 16), obj := b + b / 16 * 32 + x.seq * 2 ^ 32, issuer := d.batJob b, detail := det }

/-- How late a row is, in ticks: LC rows that were not catch-up (R296). -/
def Dev.lateness (d : Dev) (r : Nat × Bool) : Nat :=
  let x := d.stream r.1
  let n := (d.scTick x.side % 2 ^ 32 + 2 ^ 32 - x.deadline) % 2 ^ 32
  if r.2 = true ∨ x.be = true ∨ n ≥ 2 ^ 31 then 0 else n

/-- A batch completes with MET: its rows advance, then the result writer takes the finished steps; the pass is held to the step time in force at its
dispatch (R293, R295, R322). -/
def Dev.batchMet (d : Dev) (b : Nat) (p : Plan) (x : Batch) (res : List ResRow) : Dev :=
  let s := b / 16
  let lates := x.rows.map d.lateness
  let nLate := (lates.filter (· != 0)).length
  let len := d.tick - x.begun
  let d := d.batCount b x.seq (d.batJob b) ((Block.sc s).base + Off.SC_COMPLETIONS) 1
  let d := if nLate > 0 then
      (d.batchRecord b x 0x03 (nLate + lates.foldl max 0 * 2 ^ 32)).batCount b x.seq (d.batJob b) (Block.sch.base + Off.BAT_MISSES b) nLate
    else d
  let d := if len > x.limit then d.batchRecord b x 0x04 (len % 2 ^ 32) else d
  let rows := x.rows.zip lates
  let d := d.each x.rows (fun d r => d.advanceRow r.1)
  let d := d.each (rows.zip (res ++ List.replicate rows.length ⟨[], none⟩)) (fun d e => d.writeResult p x e.1.1 (e.1.2 != 0) e.2)
  let rings := (x.rows.map (fun r => let y := d.stream r.1
    (y.client + 1, y.resultRing % 16))).eraseDups
  let d := d.each rings (fun d q => if d.ringOn q.1 (.rr q.2) then d.writeBack q.1 (.rr q.2) else d)
  let j := d.batJob b
  d.setJob j { d.job j with runs := 2 }

/-- A batch ends otherwise: a timeout resets the job, and the rows' streams become SUSPECT, but for those that a RELEASE frees, which the record does
not count (R281, R293, R298). -/
def Dev.batchLost (d : Dev) (b : Nat) (x : Batch) (status : Nat) : Dev :=
  let s := b / 16
  let d := d.batCount b x.seq (d.batJob b) ((Block.sc s).base + Off.SC_FAILED) 1
  let n := (x.rows.filter (fun r => !(d.stream r.1).release)).length
  let d := if status = 1 then (d.batchRecord b x 0x05 n).resetJob (d.batJob b) else d.batchRecord b x 0x06 n
  d.each x.rows (fun d r => d.suspect r.1)

/-- The batch watch of a batcher has ended with a status (R293). -/
def Dev.batchDone (d : Dev) (b status : Nat) (res : List ResRow) : Dev :=
  let d := { d with scDone := d.scDone.filter (fun e => e.1 != b) }
  match (d.bat b).inflight, d.plan (d.batPlan b) with
  | some x, some p =>
    let d := d.setBat b { d.bat b with inflight := none }
    if status = 0 then d.batchMet b p x res else d.batchLost b x status
  | _, _ => d

/-- The status with which a batcher's watch has ended, if it has. -/
def Dev.doneStatus (d : Dev) (b : Nat) : Option Nat := (d.scDone.find? (fun e => e.1 == b)).map (·.2)

/-- BATCH_COMPLETE: the side controller takes the end of a batch watch, which its station of the ring brings while it runs (R22); `res` is what the
plan left for each row. -/
def execBatchComplete (b : Fin 32) (res : List ResRow) (s : State) : Out :=
  onDev (fun d =>
    match (if d.scRuns (b.val / 16) then d.doneStatus b.val else none) with
    | some st => d.batchDone b.val st res
    | none => d) s

/-! ### The tick (R291) -/

/-- A decided batch whose job waits for no core, after a reset or a switch-out, waits again. -/
def Dev.waitAgain (d : Dev) (s : Nat) : Dev :=
  d.each ((List.range 16).map (· + 16 * s)) (fun d b =>
    match (d.bat b).inflight with
    | some x =>
      let j := d.batJob b
      let y := d.job j
      if x.placed = false ∧ y.wants = none ∧ (y.state = .loaded ∨ y.state = .suspended) then d.setJob j { y with wants := some x.decided } else d
    | none => d)

/-- A stream table entry that its side controller reads with an uncorrectable error: the granule is noted, the stream becomes SUSPECT, and the entry is
rewritten whole from the copy of its H fields. The positions, step numbers and times that the entry alone held are free values from then on (R234, R514;
DESIGN CHOICE, log entry 67). -/
def Dev.badEntry (d : Dev) (s i : Nat) : Dev :=
  let x := d.stream i
  if x.live = false ∨ x.side ≠ s then d
  else
    let d := if d.stBase s = 0 then d else d.hbmUeNote ((d.stBase s + 64 * i) / 32)
    let (rd, d) := d.free
    let (n, d) := d.free
    let (st, d) := d.free
    let (ack, d) := d.free
    let (rt, d) := d.free
    let (dl, d) := d.free
    let r := rd.toNat % (2 * x.z)
    (d.setStream i { x with inRd := r, inWr := (r + n.toNat % (x.z + 1)) % (2 * x.z), unacked := 0, backlog := false
                            step := st.toNat, ackStep := ack.toNat, readyTick := rt.toNat, deadline := dl.toNat }).suspect i

/-- SIDE_CONTROLLER_TICK: completions, readiness, decisions, then what waiting jobs ask of their holders (R291, R312). Stream commands have
commands of their own. `res` gives, by batcher, what the plan left for the rows of a batch that completes; `ue` an uncorrectable error of the
controller itself, which contains its side (R21, R245), and `bad` an entry of the stream table that it finds in error (R514). -/
def execSideControllerTick (side : Fin 2) (res : List (Nat × List ResRow)) (ue : Bool) (bad : Option (Fin 1024)) (s : State) : Out :=
  onDev (fun d =>
    let sd := side.val
    if d.scRuns sd = false then d
    else if ue then d.containNoted sd 3
    else
      let ended := d.scDone.filter (fun e => e.1 / 16 == sd)
      let d := d.each ended (fun d e => d.batchDone e.1 e.2 (((res.find? (fun r => r.1 == e.1)).map (·.2)).getD []))
      let d := match bad with
        | some i => d.badEntry sd i.val
        | none => d
      let d := (d.readiness sd).waitAgain sd
      let d := d.each ((List.range 16).map (· + 16 * sd)) Dev.decideBatch
      (d.arbitrate sd).dispatchReady sd) s

/-! ### Mode epochs (R321–R324, R329) -/

/-- A SCHED record of codes 0x14–0x16 (R326). -/
def Dev.epochRecord (d : Dev) (code n det : Nat) : Dev := d.emit { cls := kSCHED, code := code, src := 0, obj := n, detail := det }

/-- The units of a change (R321). -/
def Dev.epochUnits (d : Dev) (kind side plan : Nat) : List Nat :=
  if kind = 1 then [side, 4 + side] else if kind = 2 then [side, 2 + side]
  else [0, 1].filter (fun s => (d.batcherFor plan s).isSome)

/-- The values in force, on each side, that a change replaces. -/
def Dev.epochOld (d : Dev) (kind side plan : Nat) : Nat × Nat :=
  if kind = 1 then (d.scClk side, d.scClk side) else if kind = 2 then (b2n (d.scQuiet side), b2n (d.scQuiet side))
  else match d.plan plan with
    | some p => (p.copy0, p.copy1)
    | none => (0, 0)

/-- Stage a change (R321). A staging while one runs, or of a value out of range, is refused. On a side whose controller does not run the plan, a weight copy
changes at once, so that a batcher enabled there later finds the copy of the plan's steps (R165); with no controller that runs it the change is complete. -/
def Dev.epochStage (d : Dev) (kind side val plan : Nat) (gov : Bool) : Dev :=
  let st := d.fld epo Fl.EP_STATUS_STATE
  let bad := (kind = 1 ∧ (val < 4 ∨ 17 < val)) ∨ (kind = 3 ∧ d.plan plan = none)
  if (st ≠ 0 ∧ st ≠ 3) ∨ bad then d.setFld epo Fl.EP_STATUS_REFUSED 1
  else
    let n := (d.fld epo Fl.EP_STATUS_EPOCH + 1) % 2 ^ 16
    let us := d.epochUnits kind side plan
    let old := d.epochOld kind side plan
    let new := if kind = 3 then (1 - old.1, 1 - old.2) else (val, val)
    let d := ((d.setFld epo Fl.EP_STATUS_EPOCH n).setFld epo Fl.EP_STATUS_STATE 1).setFld epo Fl.EP_STATUS_ACKED 0
    let d := d.each us (fun d u => d.setUnit u (d.fld (Block.gctl.base + Off.EP_UNIT u) Fl.EP_UNIT_EPOCH) 1)
    let d := if kind = 3 then d.each ([0, 1].filter (fun s => !us.contains s)) (fun d s => d.setCopy plan s (if s = 0 then new.1 else new.2)) else d
    if us.isEmpty then
      (d.setFld epo Fl.EP_STATUS_STATE 0).epochRecord 0x14 n 0
    else { d with epoch := some ⟨kind, side, old, new, plan, us, [], [], d.tick, gov⟩ }

/-- A write of EP_CTRL, with the value of EP_ARG (R329). A clock change to a legal point above the one that R533 allows, or while R501 holds the sides, is
ignored; one that is staged sets the side's ceiling (R501). -/
def Dev.epCtrl (d : Dev) (v : Word) : Dev :=
  let a := Block.gctl.base + Off.EP_ARG
  let kind := Fl.EP_CTRL_KIND.get v
  let side := Fl.EP_CTRL_SIDE.get v
  match kind with
  | 0 => d
  | 1 =>
    let clk := d.fld a Fl.EP_ARG_CLK
    let cap := if side = 0 then d.boot.cap0 else d.boot.cap1
    if 4 ≤ clk ∧ clk ≤ 17 ∧ (cap < clk ∨ d.fld (Block.pwr.base + Off.PWR_GOV_STATUS) Fl.PWR_GOV_STATUS_CAL_HOLD = 1) then d
    else
      let was := d.fld epo Fl.EP_STATUS_EPOCH
      let d := d.epochStage 1 side clk 0 false
      if d.fld epo Fl.EP_STATUS_EPOCH = was then d
      else d.setFld (Block.pwr.base + Off.PWR_CEIL) (if side = 0 then Fl.PWR_CEIL_CEIL0 else Fl.PWR_CEIL_CEIL1) clk
  | 2 => d.epochStage 2 side (d.fld a Fl.EP_ARG_QUIET) 0 false
  | _ => d.epochStage 3 side 0 (d.fld a Fl.EP_ARG_PLAN) false

/-- Whether a unit's boundary has come: a clock unit switches after its side controller's acknowledgement, a weight copy with the next dispatch decision
of the plan's batcher on the side, and a side controller only while it runs (R321). -/
def Dev.atBoundary (d : Dev) (e : Epoch) (u : Nat) : Bool :=
  let s := unitSide u
  if e.kind = 3 then d.scRuns s && (match d.batcherFor e.plan s with
    | some b => (d.bat b).inflight.isNone
    | none => true)
  else if u < 2 then d.scRuns s
  else decide (u < 4) || !e.pending.contains s

/-- UNIT_BOUNDARY_SWITCH: a unit with a staged switch reaches its boundary, switches and acknowledges (R321). In a rollback it returns to the old
setting (R323). -/
def execUnitBoundarySwitch (u : Fin 6) (s : State) : Out :=
  onDev (fun d =>
    match d.epoch with
    | none => d
    | some e => if d.atBoundary e u.val then d.switchUnit e u.val else d) s

/-- Whether a unit's messages pass by the ring: its side is contained, or the domain of its station is OFF (R22). -/
def Dev.unitBypassed (d : Dev) (u : Nat) : Bool :=
  let s := unitSide u
  d.contained s || (if 2 ≤ u ∧ u < 4 then d.dom (shHbm s) == 0 else d.dom (shFabric s) == 0)

/-- EPOCH_ACK: the Hinge receives a unit's acknowledgement; the last one completes the change, or the rollback; none arrives from a bypassed station, or
counts once a rollback is stuck (R22, R321, R323, R324). -/
def execEpochAck (u : Fin 6) (s : State) : Out :=
  onDev (fun d =>
    match d.epoch with
    | none => d
    | some e =>
      if e.acked.contains u.val = false ∨ d.fld epo Fl.EP_STATUS_STATE = 4 ∨ d.unitBypassed u.val = true then d
      else
        let bits := d.fld epo Fl.EP_STATUS_ACKED
        let d := d.setFld epo Fl.EP_STATUS_ACKED (bits ||| 2 ^ u.val)
        let e := { e with acked := e.acked.filter (· != u.val), arrived := e.arrived ++ [u.val] }
        if e.pending = [] ∧ e.acked = [] then
          let d := { d with epoch := none }
          if d.fld epo Fl.EP_STATUS_STATE = 2 then d.setFld epo Fl.EP_STATUS_STATE 3
          else (d.setFld epo Fl.EP_STATUS_STATE 0).epochRecord 0x14 (d.fld epo Fl.EP_STATUS_EPOCH) 0
        else { d with epoch := some e }) s

/-- EPOCH_TIMEOUT: a unit has not acknowledged within 25,000 ticks; the change rolls back to the settings of epoch E under number E + 2. The
late unit's pending switch is cancelled; a unit that switched returns at its next boundary (R323). -/
def execEpochTimeout (u : Fin 6) (s : State) : Out :=
  onDev (fun d =>
    match d.epoch with
    | none => d
    | some e =>
      let late := e.pending.contains u.val || e.acked.contains u.val
      if d.fld epo Fl.EP_STATUS_STATE ≠ 1 ∨ late = false ∨ d.tick - e.since < 25000 then d
      else
        let n := d.fld epo Fl.EP_STATUS_EPOCH
        let m := (n + 1) % 2 ^ 16
        let d := (d.epochRecord 0x15 n (u.val + e.kind * 16)).setFld epo Fl.EP_STATUS_LATE u.val
        let d := ((d.setFld epo Fl.EP_STATUS_EPOCH m).setFld epo Fl.EP_STATUS_STATE 2).setFld epo Fl.EP_STATUS_ACKED 0
        let d := d.each e.pending (fun d v => d.setUnit v m 0)
        let d := if e.kind = 3 then d.each ([0, 1].filter (fun s => !(e.pending ++ e.acked ++ e.arrived).contains s)) (fun d s => d.setCopy e.plan s (if s = 0 then e.old.1 else e.old.2)) else d
        let again := e.arrived ++ e.acked
        let d := d.each again (fun d v => d.setUnit v n 1)
        if again.isEmpty then { d.setFld epo Fl.EP_STATUS_STATE 3 with epoch := none }
        else { d with epoch := some { e with pending := again, acked := [], arrived := [], since := d.tick } }) s

/-- EPOCH_STUCK: a rollback is not acknowledged within 25,000 ticks; the unit's side is contained with cause 9 (R324). -/
def execEpochStuck (u : Fin 6) (s : State) : Out :=
  onDev (fun d =>
    match d.epoch with
    | none => d
    | some e =>
      let late := e.pending.contains u.val || e.acked.contains u.val
      if d.fld epo Fl.EP_STATUS_STATE ≠ 2 ∨ late = false ∨ d.tick - e.since < 25000 then d
      else
        let d := (d.epochRecord 0x16 (d.fld epo Fl.EP_STATUS_EPOCH) (u.val + e.kind * 16)).setFld epo Fl.EP_STATUS_LATE u.val
        (d.setFld epo Fl.EP_STATUS_STATE 4).containNoted (unitSide u.val) 9) s

end Sys2Proof.Machine
end

