-- ==== Sys2Proof/Machine/Audio.lean ====
section
/-! DEFINITION. Audio ports, virtual ports and alignment groups: formats and dividers, starting and stopping, slips, playback and capture at each frame, pacing loops, non-audio payloads, the audio clock (R330–R361). -/

namespace Sys2Proof.Machine

/-! ### Rates, formats, dividers (R331–R334, R355) -/

/-- fs of a rate code, in Hz (R332). -/
def fsHz (code : Nat) : Nat :=
  [8000, 11025, 12000, 16000, 22050, 24000, 32000, 44100, 48000, 64000, 88200, 96000].getD code 48000

/-- Slot width in bits of a code (R358). -/
def slotBits (code : Nat) : Nat := [16, 24, 32].getD code 32
/-- Word width in bits of a code (R358). -/
def wordBits (code : Nat) : Nat := [16, 20, 24, 32].getD code 24

/-- A rational rounded to the nearest integer, halves up. -/
def roundDiv (a b : Nat) : Nat := (2 * a + b) / (2 * b)

/-- π in units of 10^-20. -/
def piE20 : Nat := 314159265358979323846

/-- Ten times the loop bandwidth in Hz of a LOOP_BW code (R334). -/
def loopBw (code : Nat) : Nat := [1, 5, 20].getD code 5

/-- DIV in units of 2^-24: rne(2^24 × 1.6 GHz / (2 × FRAME_BITS × fs)) (R334). -/
def divWord (bits fs : Nat) : Nat := (rneDiv ((2 ^ 24 * 1600000000 : Nat) : Int) (2 * bits * fs)).toNat

/-- KP: round(2^32 × 2π × BW / fs) (R334). -/
def loopKp (bw fs : Nat) : Nat := roundDiv (2 ^ 32 * 2 * piE20 * loopBw bw) (10 ^ 21 * fs)

/-- KI: round(2^32 × 0.001 s × (π × BW)^2 / fs) (R334). -/
def loopKi (bw fs : Nat) : Nat := roundDiv (2 ^ 32 * (piE20 * loopBw bw) ^ 2) (1000 * 10 ^ 42 * fs)

/-- FRAME_BITS of a value of AP_FMT (R331). -/
def frameBits (v : Word) : Nat :=
  (if Fl.AP_FMT_FORMAT.get v = 2 then Fl.AP_FMT_SLOTS_M1.get v + 1 else 2) * slotBits (Fl.AP_FMT_SLOT_W.get v)

/-- Whether a value of AP_FMT breaks none of R332's limits. -/
def fmtOk (v : Word) : Bool :=
  decide (wordBits (Fl.AP_FMT_WORD_W.get v) ≤ slotBits (Fl.AP_FMT_SLOT_W.get v))
    && decide (frameBits v * fsHz (Fl.AP_FMT_RATE.get v) ≤ 49152000)

/-- The rate code of a unit. -/
def Dev.rateOf (d : Dev) (u : Nat) : Nat :=
  if u < 8 then d.fld (ublk u + Off.AP_FMT) Fl.AP_FMT_RATE else d.fld (ublk u + Off.VP_CFG) Fl.VP_CFG_RATE
/-- LOOP_MODE of a unit. -/
def Dev.loopMode (d : Dev) (u : Nat) : Nat :=
  if u < 8 then d.fld (ublk u + Off.AP_FMT) Fl.AP_FMT_LOOP_MODE else d.fld (ublk u + Off.VP_CFG) Fl.VP_CFG_LOOP_MODE
/-- The word width of a unit: 24 bits on the floor link (R387). -/
def Dev.wordW (d : Dev) (u : Nat) : Nat := if u < 8 then wordBits (d.fld (ublk u + Off.AP_FMT) Fl.AP_FMT_WORD_W) else 24
/-- EN of a unit. -/
def Dev.unitEn (d : Dev) (u : Nat) : Bool := d.fld (ublk u + Off.AP_CTRL) Fl.AP_CTRL_EN == 1
/-- The frame counter of a unit. -/
def Dev.frameNo (d : Dev) (u : Nat) : Nat := d.reg64 (ublk u + Off.AP_FRAME_LO) (ublk u + Off.AP_FRAME_HI)
/-- Set the frame counter of a unit, modulo 2^48. -/
def Dev.setFrameNo (d : Dev) (u n : Nat) : Dev :=
  (d.setReg (ublk u + Off.AP_FRAME_LO) (lo32 n)).setReg (ublk u + Off.AP_FRAME_HI) (wd (n / 2 ^ 32 % 2 ^ 16))

/-- A format of a unit sets its divider and loop gains (R334). -/
def Dev.setLoop (d : Dev) (u bits rate bw : Nat) : Dev :=
  let b := ublk u
  let w := divWord bits (fsHz rate)
  let d := (d.setReg (b + Off.AP_DIV_INT) (wd (w / 2 ^ 24))).setReg (b + Off.AP_DIV_FRAC) (wd (w % 2 ^ 24))
  (d.setReg (b + Off.AP_KP) (wd (loopKp bw (fsHz rate) % 2 ^ 24))).setReg (b + Off.AP_KI) (wd (loopKi bw (fsHz rate) % 2 ^ 24))

/-! ### Units and groups (R336) -/

/-- A port's or a group's pacing state. -/
def Dev.aunit (d : Dev) (p : Nat) : AUnit := Tab.get AUnit.off d.aunits p
/-- Replace a pacing state. -/
def Dev.setAunit (d : Dev) (p : Nat) (a : AUnit) : Dev := { d with aunits := Tab.set AUnit.off d.aunits p a }
/-- The pacing unit of a port: its group, or itself. -/
def Dev.pacerOf (d : Dev) (u : Nat) : Nat := match d.groupOf u with
  | some g => 16 + g
  | none => u
/-- The ports of a pacing unit. -/
def Dev.portsOf (d : Dev) (p : Nat) : List Nat := if p < 16 then [p] else d.members (p - 16)
/-- The pacing slot of a pacing unit: port and slot; a unit in a group is none. -/
def Dev.pacingSlot (d : Dev) (p : Nat) : Option (Nat × Nat) :=
  let o := apg + Off.APG_MEMBERS (p - 16)
  let q := if p < 16 then p else d.fld o Fl.APG_MEMBERS_PACE_UNIT
  let en := if p < 16 then d.fld (ublk p + Off.AP_PACE) Fl.AP_PACE_PACE_EN else d.fld o Fl.APG_MEMBERS_PACE_EN
  if en = 1 ∧ ¬ (p < 16 ∧ (d.groupOf p).isSome) then some (q, d.fld (ublk q + Off.AP_PACE) Fl.AP_PACE_SLOT) else none
/-- The domain of a pacing unit. -/
def Dev.domainOf (d : Dev) (p : Nat) : Nat := match d.pacingSlot p with
  | some (q, s) => d.fld (ublk q + Off.SLOT_PB s) Fl.SLOT_PB_DOMAIN
  | none => 0
/-- The divider word of a pacing unit, in units of 2^-24. -/
def Dev.divOf (d : Dev) (p : Nat) : Nat :=
  if p < 16 then (d.reg (ublk p + Off.AP_DIV_INT)).toNat * 2 ^ 24 + (d.reg (ublk p + Off.AP_DIV_FRAC)).toNat
  else (d.reg (apg + Off.APG_DIV_INT (p - 16))).toNat * 2 ^ 24 + (d.reg (apg + Off.APG_DIV_FRAC (p - 16))).toNat
/-- Whether any unit runs. -/
def Dev.audioRuns (d : Dev) : Bool := (List.range 16).any (fun u => (d.aunit u).running)

/-- An AUDIO record of a pacing unit: of a port, or at the level of a group with the frame counter of its lowest member (R357). -/
def Dev.unitRecord (d : Dev) (code p reason : Nat) : Dev :=
  let low := if p < 16 then p else (d.members (p - 16)).headD 0
  d.emit { cls := kAUDIO, code := code, src := 0x0A, obj := if p < 16 then d.unitObj p else (p - 16) * 2 ^ 12 + 2 ^ 14,
           detail := d.frameNo low + reason * 2 ^ 48 }

/-- A counter of a port; a wrap records COUNTER_WRAP (R358). -/
def Dev.audioCount (d : Dev) (u o : Nat) : Dev :=
  d.bump (ublk u + o) 1 { cls := kAUDIO, code := 0x10, src := 0x0A, obj := d.unitObj u, detail := d.frameNo u }

/-! ### Mixed domains (R347) -/

/-- Whether a playback slot's domain differs from its unit's. -/
def Dev.isMixed (d : Dev) (u s : Nat) : Bool :=
  d.fld (ublk u + Off.SLOT_PB s) Fl.SLOT_PB_PB_EN == 1 && d.fld (ublk u + Off.SLOT_PB s) Fl.SLOT_PB_DOMAIN != d.domainOf (d.pacerOf u)

/-- MIXED_DOMAIN of one slot. -/
def Dev.noteMixed (d : Dev) (u s : Nat) : Dev := if d.isMixed u s then d.audioRecord 0x04 u s 1 (d.playStream u s) else d

/-- MIXED_DOMAIN of every mixed slot of a port. -/
def Dev.noteMixedPort (d : Dev) (u : Nat) : Dev := d.each (List.range (if u < 8 then 32 else 64)) (fun d s => d.noteMixed u s)

/-- MIXED_DOMAIN of every mixed slot of a pacing unit, when its pacing slot changes. -/
def Dev.noteMixedAll (d : Dev) (p : Nat) : Dev :=
  d.each (d.portsOf p) Dev.noteMixedPort

/-! ### Gains (R350) -/

/-- Entries 0 to 31 of the ramp table. -/
def rampTab0 : List Nat := [41395602, 165576173, 372523012, 662204954, 1034578374, 1489587194, 2027162891, 2647224507, 3349678665,
  4134419578, 5001329065, 5950276573, 6981119196, 8093701691, 9287856507, 10563403811, 11920151507, 13357895276, 14876418599, 16475492791,
  18154877038, 19914318431, 21753552004, 23672300775, 25670275789, 27747176156, 29902689105, 32136490022, 34448242505, 36837598413,
  39304197917, 41847669558]

/-- Entries 32 to 63 of the ramp table. -/
def rampTab1 : List Nat := [44467630296, 47163685577, 49935429383, 52782444301, 55704301580, 58700561200, 61770771934, 64914471421,
  68131186231, 71420431938, 74781713194, 78214523802, 81718346795, 85292654508, 88936908665, 92650560453, 96433050612, 100283809511,
  104202257241, 108187803698, 112239848673, 116357781942, 120540983362, 124788822956, 129100661015, 133475848194, 137913725604, 142413624917,
  146974868466, 151596769344, 156278631509, 161019749891]

/-- Entries 64 to 95 of the ramp table. -/
def rampTab2 : List Nat := [165819410494, 170676890507, 175591458412, 180562374092, 185588888947, 190670246000, 195805680020, 200994417628,
  206235677419, 211528670079, 216872598503, 222266657914, 227710035988, 233201912972, 238741461808, 244327848262, 249960231045, 255637761939,
  261359585930, 267124841332, 272932659919, 278782167055, 284672481825, 290602717170, 296571980018, 302579371420, 308623986686, 314704915517,
  320821242150, 326972045486, 333156399239, 339373372067]

/-- Entries 96 to 127 of the ramp table. -/
def rampTab3 : List Nat := [345622027716, 351901425163, 358210618754, 364548658346, 370914589454, 377307453393, 383726287421, 390170124885,
  396637995366, 403128924828, 409641935760, 416176047327, 422730275515, 429303633282, 435895130704, 442503775126, 449128571311, 455768521589,
  462422626007, 469089882482, 475769286949, 482459833515, 489160514609, 495870321131, 502588242611, 509313267353, 516044382594, 522780574653,
  529520829083, 536264130828, 543009464370, 549755813888]

/-- Entries 128 to 159 of the ramp table. -/
def rampTab4 : List Nat := [556502163406, 563247496948, 569990798693, 576731053123, 583467245182, 590198360423, 596923385165, 603641306645,
  610351113167, 617051794261, 623742340827, 630421745294, 637089001769, 643743106187, 650383056465, 657007852650, 663616497072, 670207994494,
  676781352261, 683335580449, 689869692016, 696382702948, 702873632410, 709341502891, 715785340355, 722204174383, 728597038322, 734962969430,
  741301009022, 747610202613, 753889600060, 760138255709]

/-- Entries 160 to 191 of the ramp table. -/
def rampTab5 : List Nat := [766355228537, 772539582290, 778690385626, 784806712259, 790887641090, 796932256356, 802939647758, 808908910606,
  814839145951, 820729460721, 826578967857, 832386786444, 838152041846, 843873865837, 849551396731, 855183779514, 860770165968, 866309714804,
  871801591788, 877244969862, 882639029273, 887982957697, 893275950357, 898517210148, 903705947756, 908841381776, 913922738829, 918949253684,
  923920169364, 928834737269, 933692217282, 938491877885]

/-- Entries 192 to 223 of the ramp table. -/
def rampTab6 : List Nat := [943232996267, 947914858432, 952536759310, 957098002859, 961597902172, 966035779582, 970410966761, 974722804820,
  978970644414, 983153845834, 987271779103, 991323824078, 995309370535, 999227818265, 1003078577164, 1006861067323, 1010574719111,
  1014218973268, 1017793280981, 1021297103974, 1024729914582, 1028091195838, 1031380441545, 1034597156355, 1037740855842, 1040811066576,
  1043807326196, 1046729183475, 1049576198393, 1052347942199, 1055043997480, 1057663958218]

/-- Entries 224 to 255 of the ramp table. -/
def rampTab7 : List Nat := [1060207429859, 1062674029363, 1065063385271, 1067375137754, 1069608938671, 1071764451620, 1073841351987,
  1075839327001, 1077758075772, 1079597309345, 1081356750738, 1083036134985, 1084635209177, 1086153732500, 1087591476269, 1088948223965,
  1090223771269, 1091417926085, 1092530508580, 1093561351203, 1094510298711, 1095377208198, 1096161949111, 1096864403269, 1097484464885,
  1098022040582, 1098477049402, 1098849422822, 1099139104764, 1099346051603, 1099470232174, 1099511627776]

/-- (1 − cos(π(k + 1) / 256)) / 2 in units of 2^-40. -/
def rampTab : List Nat := rampTab0 ++ rampTab1 ++ rampTab2 ++ rampTab3 ++ rampTab4 ++ rampTab5 ++ rampTab6 ++ rampTab7

/-- Gain 1. -/
def gainOne : Nat := 32768

/-- The gain over output sample `k` of a fade from `g0`. -/
def fadeGain (g0 k : Nat) : Nat :=
  if 64 ≤ k then 0 else (rneShift ((g0 * (2 ^ 40 - rampTab.getD (4 * k + 3) (2 ^ 40)) : Nat) : Int) 40).toNat

/-- The gain over output sample `k` of a ramp from `g0`. -/
def rampGain (g0 k : Nat) : Nat :=
  if 256 ≤ k then gainOne else g0 + (rneShift (((gainOne - g0) * rampTab.getD k (2 ^ 40) : Nat) : Int) 40).toNat

/-- A word, left-justified in 32 bits, as a signed number of `w` bits. -/
def wordVal (w : Nat) (x : Word) : Int := x.toInt / (2 ^ (32 - w) : Nat)
/-- A signed number of `w` bits as a left-justified word. -/
def valWord (w : Nat) (v : Int) : Word := wi (clampI (sMin w) (sMax w) v * (2 ^ (32 - w) : Nat))
/-- A word of width `w` under gain `g`. -/
def withGain (w g : Nat) (x : Word) : Word := if g = gainOne then x else valWord w (rneShift (wordVal w x * (g : Int)) 15)

/-! ### Slips (R344, R346, R347) -/

/-- A playback slot against the marks of a port: 1 at or above the high mark, 2 at or below the low mark, 0 between. -/
def Dev.against (d : Dev) (u s : Nat) : Nat :=
  let m := ublk u + Off.AP_MARKS
  let f := 256 * d.pbFill u s
  let c := d.pbCap u s
  if f ≥ ((d.fld m Fl.AP_MARKS_HI * c : Nat) : Int) then 1 else if f ≤ ((d.fld m Fl.AP_MARKS_LO * c : Nat) : Int) then 2 else 0

/-- The pacing state of a unit at the frame start of frame `n`: the mode, a loop that is lost, the time between the marks, and the slip of
this frame (R344, R346). -/
def Dev.frameStart (d : Dev) (p n : Nat) : Dev :=
  let a := d.aunit p
  let div := d.divOf p
  let eff (m : Nat) : Nat := if m = 0 then div else ((div : Int) - rneShift ((div : Int) * a.trim) 40).toNat
  match d.pacingSlot p with
  | none => d.setAunit p { a with mode := 0, inBand := 0, slipFrame := n + 1, slip := 0, divEff := eff 0 }
  | some (q, s) =>
    let at' := if d.fld (ublk q + Off.SLOT_PB s) Fl.SLOT_PB_PB_EN = 1 then d.against q s else 0
    let lost := a.mode = 2 ∧ at' ≠ 0
    let mode := if a.mode = 2 ∧ at' = 0 then 2 else 1
    let band := if at' = 0 ∧ (d.aslot q s).pb = 2 ∧ ¬ lost then a.inBand + 1 else 0
    let d := d.setAunit p { a with mode := mode, inBand := band, slipFrame := n + 1, slip := if mode = 1 then at' else 0, divEff := eff mode }
    if lost then d.unitRecord 0x08 p 0 else d

/-- A slip moves a slot's position: a drop advances it by one sample more than the frame does; slots that are OFF or IDLE stay (R346). -/
def Dev.dropSample (d : Dev) (u s : Nat) : Dev :=
  d.setFld (ublk u + Off.PB_RD s) Fl.PB_RD_POS ((d.pbRd u s + 1) % (2 * d.pbCap u s))

/-- The slip of a slot in this frame: its unit's, or its own where its domain differs (R346, R347). -/
def Dev.slotSlip (d : Dev) (u s unitSlip : Nat) : Nat := if d.isMixed u s then d.against u s else unitSlip

/-! ### Playback (R341, R342, R349) -/

/-- The next sample of a playback ring as a left-justified word; an uncorrectable error plays as 0 (R342, R514). -/
def Dev.fetchSample (d : Dev) (u s : Nat) : Word × Dev :=
  let w := d.pbWidth u s
  let a := d.pbBase u s + d.pbRd u s % d.pbCap u s * w
  if d.contained (a / hbmSize) then (0, d)
  else
    let (got, d) := d.hbmUnitRead a w
    match got with
    | none => (0, d.hbmRecord 0x0A 0x0A 0xFFFF 0 (a / 32 * 32))
    | some bs =>
      let k := d.wordW u
      (if w = 2 then wd (leNat bs * 2 ^ 16) else valWord k (rneShift (wd (leNat bs)).toInt (32 - k)), d)

/-- The fetch of one frame in RAMP or PLAYING: an empty ring starts a fade (R349). -/
def Dev.fetchPlay (d : Dev) (u s : Nat) : Dev :=
  let x := d.aslot u s
  if d.pbFill u s ≤ 0 then
    let d := (d.dropSample u s).setAslot u s { x with pb := 3, pbG0 := x.pbG, pbK := 0, last := 0 }
    (d.audioRecord 0x01 u s 1 (d.playStream u s)).audioCount u Off.AP_UNDERRUNS
  else
    let (v, d) := d.fetchSample u s
    (d.dropSample u s).setAslot u s { x with last := v }

/-- Steps 1 and 2 of a playback slot's frame (R349, R352): the slip, the state, the fetch. -/
def Dev.pbFetch (d : Dev) (u s slip : Nat) : Dev :=
  let x := d.aslot u s
  let mixed := d.isMixed u s
  let slip := if x.pb = 0 ∨ x.pb = 1 then 0 else slip
  let d := if mixed = true ∧ slip ≠ 0 then d.audioCount u Off.AP_MIX_SLIPS else d
  let d := if slip = 1 then d.dropSample u s else d
  if slip = 2 then d
  else match x.pb with
    | 0 => d
    | 1 =>
      if 256 * d.pbFill u s ≥ ((d.fld (ublk u + Off.AP_PACE) Fl.AP_PACE_TARGET * d.pbCap u s : Nat) : Int) then
        (d.setAslot u s { x with pb := 5, pbG0 := 0, pbG := 0, pbK := 0 }).fetchPlay u s
      else d.setAslot u s { x with last := 0 }
    | 4 =>
      if d.pbFill u s ≥ 8 then
        let d := d.setAslot u s { x with pb := 5, pbG0 := 0, pbG := 0, pbK := 0 }
        (d.audioRecord 0x03 u s 1 (d.playStream u s)).fetchPlay u s
      else (d.dropSample u s).setAslot u s { x with last := 0 }
    | 3 => (d.dropSample u s).setAslot u s { x with last := 0 }
    | _ => d.fetchPlay u s

/-- Whether the words of a slot's pair are the preambles Pa and Pb in one frame (R353). -/
def isPreamble (even odd : Word) : Bool := even.toNat / 2 ^ 16 == 0xF872 && odd.toNat / 2 ^ 16 == 0x4E1F

/-- The mute count of a slot after a frame: 0 with a preamble pair, else one more while muted (R353). -/
def muteStep (det pair : Bool) (m : Option Nat) : Option Nat := if det && pair then some 0 else m.map (· + 1)

/-- Step 3 of a playback slot's frame: detection on the fetched words of its pair. -/
def Dev.pbDetect (d : Dev) (u s : Nat) : Dev :=
  let x := d.aslot u s
  let e := s / 2 * 2
  let pair := isPreamble (d.aslot u e).last (d.aslot u (e + 1)).last
  let m := muteStep (d.fld (ublk u + Off.SLOT_PB s) Fl.SLOT_PB_IEC_DET == 1) pair x.pbMute
  if x.pb = 0 then d
  else
    let d := d.setAslot u s { x with pbMute := m }
    if m.isSome ∧ x.pbMute.isNone then d.audioRecord 0x05 u s 1 (d.playStream u s) else d

/-- The playback gain of this output sample. -/
def ASlot.pbGain (x : ASlot) : Nat :=
  if x.pb = 2 then gainOne else if x.pb = 3 then fadeGain x.pbG0 x.pbK else if x.pb = 5 then rampGain x.pbG0 x.pbK else 0

/-- Step 4 of a playback slot's frame: the delay line and the gain at its output (R342, R350). -/
def ASlot.output (w : Nat) (x : ASlot) : ASlot :=
  let line := x.delay ++ [x.last]
  let y := if 64 < line.length then line.headD 0 else 0
  let g := x.pbGain
  { x with
    delay := if 64 < line.length then line.drop 1 else line
    pbG := g, pbK := x.pbK + 1
    out := if x.pb = 0 ∨ x.pb = 1 ∨ x.pb = 4 ∨ x.pbMute.isSome = true then 0 else withGain w g y }

/-- The output of a playback slot; an IDLE slot outputs 0 and keeps its delay line empty. -/
def Dev.pbOutput (d : Dev) (u s : Nat) : Dev :=
  let x := d.aslot u s
  if x.pb = 0 ∨ x.pb = 1 then d.setAslot u s { x with out := 0, pbG := 0 } else d.setAslot u s (x.output (d.wordW u))

/-! ### Capture (R339, R340, R351, R355) -/

/-- Bytes of one captured sample. -/
def Dev.capWidth (d : Dev) (u s : Nat) : Nat := if d.fld (ublk u + Off.SLOT_CAP s) Fl.SLOT_CAP_MEM_W = 1 then 4 else 2

/-- The bytes of a captured word (R340). -/
def capBytes (w width : Nat) (x : Word) : List Byte :=
  if width = 4 then natLE 4 x.toNat
  else natLE 2 (BitVec.ofInt 16 (clampI (sMin 16) (sMax 16) (rneShift (wordVal w x) (w - 16)))).toNat

/-! The link counters (R396), in which a floor channel counts what its stream's ring does not take (R285). -/

/-- The base of the OPT block. -/
def opt : Nat := Block.opt.base
/-- The source number of a Pane's Casement (R510). -/
def srcCase (p : Nat) : Nat := 0x18 + p / 4
/-- Add to a counter of a Pane (R396). -/
def Dev.paneCount (d : Dev) (p o n : Nat) : Dev :=
  d.bump (opt + o) n { cls := kLINK, code := 0x08, src := srcCase p, obj := p }

/-- Samples that a virtual port's Pane drops, each counted once in DROPS (R285; log entry 60). -/
def Dev.floorDrop (d : Dev) (u n : Nat) : Dev := if 8 ≤ u ∧ 0 < n then d.paneCount (u - 8) (Off.DROPS (u - 8)) n else d

/-- Write what a slot has latched up to each piece's end: each 256 B boundary of the ring position and each chunk boundary (R340). -/
def Dev.capFlush (d : Dev) (u s i : Nat) : Dev :=
  let x := d.aslot u s
  let st := d.stream i
  let p := (st.inWr + st.unacked) % st.z
  let next := min (256 - p % 256) (st.chunkBytes - p % st.chunkBytes)
  if st.z = 0 ∨ x.buf.length < next then d
  else
    let d := d.setAslot u s { x with buf := x.buf.drop next }
    let (ok, d) := d.inputPut i (x.buf.take next)
    if ok then d else d.floorDrop u (next / d.capWidth u s)

/-- The state of a capture slot at a frame start (R351): `r` is the room in samples. -/
def Dev.capState (d : Dev) (u s i : Nat) : Dev :=
  let x := d.aslot u s
  let st := d.stream i
  let r := (st.room - x.buf.length) / d.capWidth u s
  let n := d.frameNo u
  let full (x : ASlot) : Dev :=
    if r ≤ 64 then
      ((d.setAslot u s { x with cap := 2, capG0 := x.capG, capK := 0 }).audioRecord 0x02 u s 0 (some i)).audioCount u Off.AP_OVERRUNS
    else d.setAslot u s x
  match x.cap with
  | 0 => full { x with cap := 1, capG := gainOne, buf := [], nextCap := n }
  | 3 =>
    if 72 ≤ r then (d.setAslot u s { x with cap := 4, capG0 := 0, capG := 0, capK := 0 }).audioRecord 0x03 u s 0 (some i) else d
  | 2 => d
  | _ => full x

/-- A slot writes one captured word under its gain, or zeros while muted (R350, R351, R353). -/
def Dev.capWrite (d : Dev) (u s i : Nat) (v : Word) (pair : Bool) : Dev :=
  let x := d.aslot u s
  let m := muteStep (d.fld (ublk u + Off.SLOT_CAP s) Fl.SLOT_CAP_IEC_DET == 1) pair x.capMute
  let g := if x.cap = 1 then gainOne else if x.cap = 2 then fadeGain x.capG0 x.capK else if x.cap = 4 then rampGain x.capG0 x.capK else 0
  let quiet := x.cap = 3 ∨ (x.cap = 2 ∧ 64 ≤ x.capK)
  let y := if m.isSome then 0 else withGain (d.wordW u) g v
  let buf := if quiet then x.buf else x.buf ++ capBytes (d.wordW u) (d.capWidth u s) y
  let d := d.setAslot u s { x with capMute := m, capG := g, capK := x.capK + 1, buf := buf }
  let d := if m.isSome ∧ x.capMute.isNone then d.audioRecord 0x05 u s 0 (some i) else d
  (d.floorDrop u (b2n (decide quiet))).capFlush u s i

/-- The word slot `s` of a port captured in frame `f`: the words of the frame on copper, cut to the word width; what has arrived on a floor
link (R340, R355). -/
def Dev.capWord (d : Dev) (u s f : Nat) (ws : List Word) : Option Word :=
  if u < 8 then some (valWord (d.wordW u) (wordVal (d.wordW u) (ws.getD s 0))) else Tab.get none (d.aslot u s).arrived f

/-- The frames a slot writes now, each with its word and whether it came too late: on copper the frame itself; on a floor link every frame whose
sample has arrived or is JITTER frames old (R355). -/
def Dev.capDue (d : Dev) (u s : Nat) (ws : List Word) : Nat → Nat → List (Nat × Word × Bool)
  | 0, _ => []
  | fuel + 1, f =>
    let n := d.frameNo u
    if n < f then []
    else match d.capWord u s f ws with
      | some v => (f, v, false) :: d.capDue u s ws fuel (f + 1)
      | none =>
        if f + d.fld (ublk u + Off.VP_CFG) Fl.VP_CFG_JITTER ≤ n then (f, 0, true) :: d.capDue u s ws fuel (f + 1) else []

/-- The stream that a capture slot feeds: bound, with CAP_EN at 1 (R339). -/
def Dev.capBound (d : Dev) (u s : Nat) : Option Nat :=
  if d.fld (ublk u + Off.SLOT_CAP s) Fl.SLOT_CAP_CAP_EN = 1 then d.captureStream u s else none

/-- A slot that feeds no stream still mutes with its pair and records it (R353). -/
def Dev.capMuted (d : Dev) (u s : Nat) (pair : Bool) : Dev :=
  let x := d.aslot u s
  let m := muteStep (d.fld (ublk u + Off.SLOT_CAP s) Fl.SLOT_CAP_IEC_DET == 1) pair x.capMute
  let d := d.setAslot u s { x with capMute := m }
  if m.isSome ∧ x.capMute.isNone then d.audioRecord 0x05 u s 0 (d.captureStream u s) else d

/-- One captured frame of a slot: the frame, its word and whether it came too late; `pair` tells of a preamble pair in it (R353, R355). -/
def Dev.capOne (d : Dev) (u s : Nat) (i : Option Nat) (f : Nat × Word × Bool) (pair : Bool) : Dev :=
  match i with
  | some i => (if f.2.2 then d.audioCount u Off.VP_LATE else d).capWrite u s i f.2.1 pair
  | none => d.capMuted u s pair

/-- The work of one capture slot in a frame; `d0` is the device before any capture slot's work, for the words of the pair. -/
def Dev.capFrame (d0 d : Dev) (u s : Nat) (ws : List Word) : Dev :=
  let i := d.capBound u s
  let d := match i with
    | none => d.setAslot u s { d.aslot u s with cap := 0, capG := 0, capG0 := 0, capK := 0, buf := [] }
    | some i => d.capState u s i
  let e := s / 2 * 2
  let due := d.capDue u s ws 66 (d.aslot u s).nextCap
  let d := d.each due (fun d f =>
    d.capOne u s i f (isPreamble ((d0.capWord u e f.1 ws).getD 0) ((d0.capWord u (e + 1) f.1 ws).getD 0)))
  let x := d.aslot u s
  let keep : Tab (Option Word) := x.arrived.filter (fun e => decide (d.frameNo u < e.1 + 64))
  d.setAslot u s { x with nextCap := x.nextCap + due.length, arrived := keep }

/-! ### Starting and stopping (R337, R338) -/

/-- The slots of a unit at its start: enabled playback slots are IDLE, captures begin with their first frame (R349). -/
def Dev.startSlots (d : Dev) (u : Nat) : Dev :=
  d.each (List.range (if u < 8 then 32 else 64)) (fun d s =>
    let en := d.fld (ublk u + Off.SLOT_PB s) Fl.SLOT_PB_PB_EN
    d.setAslot u s { ASlot.off with pb := if en = 1 then 1 else 0 })

/-- The pacing state of a unit that starts: the trim keeps its last value (R344). -/
def Dev.startPacing (d : Dev) (p : Nat) : Dev :=
  let a := d.aunit p
  d.setAunit p { AUnit.off with running := true, first := true, mode := if (d.pacingSlot p).isSome then 1 else 0, trim := a.trim,
                                divEff := d.divOf p, updated := d.tick }

/-- A port starts; its frame counter is zeroed at its first frame. -/
def Dev.startPort (d : Dev) (u : Nat) : Dev := (d.startPacing u).startSlots u

/-- The capture samples a slot has latched and not written reach its ring, in whole words; the slot is OFF (R338, R340). A virtual port's samples that
wait for one of an earlier frame are written after it, that one as 0 (DESIGN CHOICE, log entry 17). -/
def Dev.stopSlot (d : Dev) (u s : Nat) : Dev :=
  match d.capBound u s with
  | none => d.setAslot u s ASlot.off
  | some i =>
    let x := d.aslot u s
    let last := x.arrived.foldl (fun m e => if e.1 ≤ d.frameNo u then max m (e.1 + 1) else m) 0
    let late := if 8 ≤ u then (List.range (last - x.nextCap)).map (x.nextCap + ·) else []
    let d := d.each late (fun d f => d.capOne u s (some i) (f, (d.capWord u s f []).getD 0, (d.capWord u s f []).isNone) false)
    let buf := (d.aslot u s).buf
    let bs := buf.take (buf.length / 4 * 4)
    (if bs = [] then d else (d.inputPut i bs).2).setAslot u s ASlot.off

/-- A port stops: every slot is OFF and the frame counter keeps its value (R338). -/
def Dev.stopPort (d : Dev) (u : Nat) : Dev :=
  let d := d.each (List.range (if u < 8 then 32 else 64)) (fun d s => d.stopSlot u s)
  d.setAunit u { AUnit.off with trim := (d.aunit u).trim }

/-- The reason a START of a port is refused, 0 for none. -/
def Dev.portReason (d : Dev) (u : Nat) : Nat :=
  if (d.groupOf u).isSome then 5 else if (d.aunit u).running then 1 else if d.unitEn u = false then 4 else 0

/-- AP_CTRL.START of a port (R337). -/
def Dev.apStart (d : Dev) (u : Nat) : Dev :=
  let r := d.portReason u
  if r = 0 then d.startPort u else d.unitRecord 0x0D u r

/-- AP_CTRL.STOP of a port in no group (R338). -/
def Dev.apStop (d : Dev) (u : Nat) : Dev := if (d.groupOf u).isNone ∧ (d.aunit u).running = true then d.stopPort u else d

/-- Whether the members of a group agree (R336). -/
def Dev.groupAgrees (d : Dev) (g : Nat) : Bool :=
  let ms := d.members g
  let fmt (u : Nat) : Nat := frameBits (d.reg (ublk u + Off.AP_FMT))
  ms.all (fun u => d.rateOf u == d.rateOf (ms.headD 0)) && ((ms.filter (· < 8)).all (fun u => fmt u == fmt (ms.headD 0)))

/-- The reason a START of a group is refused, 0 for none. -/
def Dev.groupReason (d : Dev) (g : Nat) : Nat :=
  let ms := d.members g
  if (d.aunit (16 + g)).running then 1 else if ms = [] then 3 else if ms.all d.unitEn = false then 4
  else if d.groupAgrees g = false then 2 else 0

/-- APG_CTRL.START of one group (R337). The lowest member is copper where the group has one. -/
def Dev.apgStart (d : Dev) (g : Nat) : Dev :=
  let r := d.groupReason g
  if r ≠ 0 then (d.setFld (apg + Off.APG_STATUS g) Fl.APG_STATUS_REASON r).unitRecord 0x0D (16 + g) r
  else
    let w := d.divOf ((d.members g).headD 0)
    let d := (d.setReg (apg + Off.APG_DIV_INT g) (wd (w / 2 ^ 24))).setReg (apg + Off.APG_DIV_FRAC g) (wd (w % 2 ^ 24))
    (d.each (d.members g) Dev.startPort).startPacing (16 + g)

/-- APG_CTRL.STOP of one group (R338). -/
def Dev.apgStop (d : Dev) (g : Nat) : Dev :=
  if (d.aunit (16 + g)).running then
    let d := d.each (d.members g) Dev.stopPort
    d.setAunit (16 + g) { AUnit.off with trim := (d.aunit (16 + g)).trim }
  else d

/-- A write of APG_CTRL: a group named to start and to stop is stopped only (R338). -/
def Dev.apgCtrl (d : Dev) (v : Word) : Dev :=
  let on (f : Fld) (g : Nat) : Bool := (f.get v).testBit g
  d.each (List.range 4) (fun d g =>
    if on Fl.APG_CTRL_STOP g then d.apgStop g else if on Fl.APG_CTRL_START g then d.apgStart g else d)

/-- Every unit stops (R354). -/
def Dev.audioStopAll (d : Dev) : Dev :=
  let d := d.each (List.range 4) Dev.apgStop
  d.each ((List.range 16).filter (fun u => (d.aunit u).running)) Dev.stopPort

/-! ### The pins of a copper port (R330, R331, R334, R335) -/

/-- The BCLK cycle of its frame in which slot 0 of a port begins (R331). -/
def Dev.slotShift (d : Dev) (u : Nat) : Nat :=
  match d.fld (ublk u + Off.AP_FMT) Fl.AP_FMT_FORMAT with
  | 0 => 1
  | 1 => 0
  | _ => d.fld (ublk u + Off.AP_FMT) Fl.AP_FMT_TDM_DELAY

/-- S of a port. -/
def Dev.slotW (d : Dev) (u : Nat) : Nat := slotBits (d.fld (ublk u + Off.AP_FMT) Fl.AP_FMT_SLOT_W)

/-- The word of a slot in the levels that SDI has at the rising edges of BCLK from cycle 0 on: MSB first, and what is beyond the word is ignored
(R331). -/
def Dev.sdiWord (d : Dev) (u : Nat) (sdi : List Bool) (s : Nat) : Word :=
  let at_ := s * d.slotW u + d.slotShift u
  wd ((List.range (d.wordW u)).foldl (fun n i => n + b2n (sdi.getD (at_ + i) false) * 2 ^ (31 - i)) 0)

/-- The bits of a frame on SDO from slot 0 on: each word MSB first, and 0 beyond it (R331). -/
def Dev.sdoBits (d : Dev) (u : Nat) : List Bool :=
  (List.range (frameBits (d.reg (ublk u + Off.AP_FMT)))).map (fun i =>
    decide (i % d.slotW u < d.wordW u) && (d.aslot u (i / d.slotW u)).out.getLsbD (31 - i % d.slotW u))

/-- The frame that starts on a port's pins: the accumulator goes on from the end of the frame before it, and the divider is DIV_EFF of this frame
(R334). It begins at 0 with frame 0 (DESIGN CHOICE, log entry 17). -/
def Dev.nextWave (d : Dev) (u : Nat) (first : Bool) : Wave :=
  let w := (d.aunit u).wave
  let n := 2 * frameBits (d.reg (ublk u + Off.AP_FMT))
  ⟨if first then 0 else (w.phase + n * w.div) % 2 ^ 24, (d.aunit (d.pacerOf u)).divEff, d.sdoBits u, w.bits.getLastD false⟩

/-- The half periods that have begun by PLL cycle `t`, for half periods of `n / m` cycles from phase `p / m` on, each cut to whole cycles by an
accumulator (R334). -/
def halvesAt (p n m t : Nat) : Nat := ((t + 1) * m - 1 - p) / n

/-- Whether MCLK runs (R335). -/
def Dev.mclkRuns (d : Dev) (u : Nat) : Bool :=
  decide (u < 8) && d.fld (ublk u + Off.AP_CTRL) Fl.AP_CTRL_EN == 1 && d.fld (ublk u + Off.AP_CTRL) Fl.AP_CTRL_MCLK_EN == 1

/-- The levels that a copper port drives. -/
structure Pins where
  bclk : Bool
  fs : Bool
  sdo : Bool
  mclk : Bool
  deriving DecidableEq, Repr

/-- The pins of a copper port `t` PLL cycles after its frame began, or, before its first frame, after MCLK began to run: BCLK falls at the start of a
cycle; BCLK, FS and SDO are low while no frame runs (R330, R331). A period of MCLK begins low, and its word is kept as an exact fraction (DESIGN CHOICE,
log entry 17). -/
def Dev.pinsAt (d : Dev) (u t : Nat) : Pins :=
  let x := d.aunit u
  let live := x.running && !x.first
  let fmt := d.reg (ublk u + Off.AP_FMT)
  let h := halvesAt x.wave.phase x.wave.div (2 ^ 24) t
  let c := h / 2
  let s := d.slotW u
  let k := d.slotShift u
  let fs := match Fl.AP_FMT_FORMAT.get fmt with
    | 0 => decide (s ≤ c)
    | 1 => decide (c < s)
    | _ => decide (c = 0)
  let m := if d.fld (ublk u + Off.AP_CTRL) Fl.AP_CTRL_MCLK_RATIO = 1 then 512 else 256
  let div := if live then x.wave.div else d.divOf u
  { bclk := live && h % 2 == 1
    fs := live && fs
    sdo := live && (if c < k then x.wave.carry else x.wave.bits.getD (c - k) false)
    mclk := d.mclkRuns u && halvesAt 0 (div * frameBits fmt) (m * 2 ^ 24) t % 2 == 1 }

/-! ### The frame (R346, R352) -/

/-- PORT_FRAME: a frame of a running unit starts. `sdi` holds the levels of SDI at the rising edges of BCLK from cycle 0 of the frame on (R330, R331); a
virtual port's samples come by AUDIO frames instead, and its Pane owes an AUDIO frame (R386). -/
def execPortFrame (u : Fin 16) (sdi : List Bool) (s : State) : Out :=
  onDev (fun d =>
    let u := u.val
    let a := d.aunit u
    if a.running = false then d
    else
      let n := if a.first then 0 else (d.frameNo u + 1) % 2 ^ 48
      let d := (d.setAunit u { a with first := false }).setFrameNo u n
      let d := if u < 8 then d
        else { d with panes := Tab.set PaneSt.dark d.panes (u - 8) { Tab.get PaneSt.dark d.panes (u - 8) with audioAt := some n } }
      let p := d.pacerOf u
      let d := if (d.aunit p).slipFrame = n + 1 then d else d.frameStart p n
      let slip := (d.aunit p).slip
      let d := if slip = 1 then d.audioCount u Off.AP_SLIP_DROP else if slip = 2 then d.audioCount u Off.AP_SLIP_REP else d
      let slots := List.range (d.slotCount u)
      let ws := if u < 8 then slots.map (d.sdiWord u sdi) else []
      let d0 := d
      let d := d.each slots (fun d s => d.pbFetch u s (d0.slotSlip u s slip))
      let d1 := d
      let d := d.each slots (fun d s => Dev.capFrame d1 d u s ws)
      let d := d.each slots (fun d s => d.pbDetect u s)
      let d := d.each slots (fun d s => d.pbOutput u s)
      if u < 8 then d.setAunit u { d.aunit u with wave := d.nextWave u a.first } else d) s

/-- NONPCM_END: 8,192 frames have passed without a preamble pair; the mute of a slot ends with a ramp (R353). `dir` 0 capture, 1 playback. -/
def execNonpcmEnd (u : Fin 16) (sl : Fin 64) (dir : Fin 2) (s : State) : Out :=
  onDev (fun d =>
    let u := u.val
    let k := sl.val
    let x := d.aslot u k
    if dir = 0 then
      if 8192 ≤ x.capMute.getD 0 then
        let x := { x with capMute := none }
        let x := if x.cap = 1 ∨ x.cap = 4 then { x with cap := 4, capG0 := 0, capG := 0, capK := 0 } else x
        (d.setAslot u k x).audioRecord 0x06 u k 0 (d.captureStream u k)
      else d
    else if 8192 ≤ x.pbMute.getD 0 then
      let x := { x with pbMute := none }
      let x := if x.pb = 2 ∨ x.pb = 5 then { x with pb := 5, pbG0 := 0, pbG := 0, pbK := 0 } else x
      (d.setAslot u k x).audioRecord 0x06 u k 1 (d.playStream u k)
    else d) s

/-- FADE_COMPLETE: a slot whose fade has reached its 64th sample is SILENT (R349, R351). -/
def execFadeComplete (u : Fin 16) (sl : Fin 64) (dir : Fin 2) (s : State) : Out :=
  onDev (fun d =>
    let x := d.aslot u.val sl.val
    if dir = 0 then (if x.cap = 2 ∧ 64 ≤ x.capK then d.setAslot u.val sl.val { x with cap := 3, capG := 0 } else d)
    else (if x.pb = 3 ∧ 64 ≤ x.pbK then d.setAslot u.val sl.val { x with pb := 4, pbG := 0 } else d)) s

/-- RAMP_COMPLETE: a slot whose ramp has reached its 256th sample plays (R349, R351). -/
def execRampComplete (u : Fin 16) (sl : Fin 64) (dir : Fin 2) (s : State) : Out :=
  onDev (fun d =>
    let x := d.aslot u.val sl.val
    if dir = 0 then (if x.cap = 4 ∧ 256 ≤ x.capK then d.setAslot u.val sl.val { x with cap := 1, capG := gainOne } else d)
    else (if x.pb = 5 ∧ 256 ≤ x.pbK then d.setAslot u.val sl.val { x with pb := 2, pbG := gainOne } else d)) s

/-! ### The loop (R344, R345) -/

/-- LIM: 300 ppm in units of 2^-40 (R345). -/
def loopLim : Int := 329853488

/-- Whether AWCLK's rate change still waits to be stable. -/
def Dev.rateWait (d : Dev) : Bool := d.fld (apg + Off.APLL_STATUS) Fl.APLL_STATUS_RATE_WAIT == 1

/-- LOOP_LOCKED: after 1 s of its pacing slot playing between the marks a unit enters LOOP (R344). -/
def execLoopLocked (p : Fin 20) (s : State) : Out :=
  onDev (fun d =>
    let a := d.aunit p.val
    match d.pacingSlot p.val with
    | none => d
    | some (q, _) =>
      if a.running = true ∧ a.mode = 1 ∧ d.loopMode q = 0 ∧ d.rateWait = false ∧ fsHz (d.rateOf q) ≤ a.inBand then
        (d.setAunit p.val { a with mode := 2 }).unitRecord 0x07 p.val 0
      else d) s

/-- One update of a pacing unit: the history in every mode, the integrator and the trim in LOOP (R345). Errors are held in 1/256 sample. -/
def Dev.loopStep (d : Dev) (p q sl : Nat) : Dev :=
  let a := d.aunit p
  let b := ublk q
  let err := 256 * d.pbFill q sl - ((d.fld (b + Off.AP_PACE) Fl.AP_PACE_TARGET * d.pbCap q sl : Nat) : Int)
  let hist := (err :: a.hist).take 255
  let a := { a with hist := hist, updated := d.tick }
  if a.mode ≠ 2 then d.setAunit p a
  else
    let avg := d.fld (b + Off.AP_PACE) Fl.AP_PACE_AVG
    let e := rneDiv ((hist.take avg).foldl (· + ·) 0) avg
    let acc := clampI (-loopLim) loopLim (a.acc + (d.reg (b + Off.AP_KI)).toNat * e)
    let trim := clampI (-loopLim) loopLim ((d.reg (b + Off.AP_KP)).toNat * e + acc)
    d.setAunit p { a with acc := acc, trim := trim }

/-- LOOP_UPDATE: every 25,000 ticks of a running pacing unit with a pacing slot. -/
def execLoopUpdate (p : Fin 20) (s : State) : Out :=
  onDev (fun d =>
    let a := d.aunit p.val
    match d.pacingSlot p.val with
    | none => d
    | some (q, sl) => if a.running = true ∧ a.updated + 25000 ≤ d.tick then d.loopStep p.val q sl else d) s

/-! ### The audio clock (R333, R354) -/

/-- REF: whether AWCLK is the reference. -/
def Dev.awRef (d : Dev) : Bool := d.fld (apg + Off.APLL_CTRL) Fl.APLL_CTRL_REF == 1
/-- HOLDOVER. -/
def Dev.holdover (d : Dev) : Bool := d.fld (apg + Off.APLL_STATUS) Fl.APLL_STATUS_HOLDOVER == 1
/-- An event of the audio clock. -/
def Dev.clockRecord (d : Dev) (code : Nat) : Dev := d.emit { cls := kAUDIO, code := code, src := 0x0A }
/-- A counter of the group control block. -/
def Dev.apgCount (d : Dev) (o : Nat) : Dev := d.bump (apg + o) 1 { cls := kAUDIO, code := 0x10, src := 0x0A }
/-- Set a flag of APLL_STATUS. -/
def Dev.apllFlag (d : Dev) (f : Fld) (v : Nat) : Dev := d.setFld (apg + Off.APLL_STATUS) f v
/-- Update every running pacing unit that has a pacing slot. -/
def Dev.eachPacer (d : Dev) (f : AUnit → AUnit) : Dev :=
  d.each (List.range 20) (fun d p => if (d.aunit p).running = true ∧ (d.pacingSlot p).isSome = true then d.setAunit p (f (d.aunit p)) else d)

/-- AWCLK_GLITCH: an edge outside ±2 % is ignored and counted. -/
def execAwclkGlitch (s : State) : Out := onDev (fun d => if d.awRef then d.apgCount Off.AW_GLITCHES else d) s

/-- While AWCLK is the reference and its edges are valid, its mean follows it; otherwise AW_OFFSET keeps the last one (R354, R360). -/
def Dev.keepOffset (d : Dev) : Dev := if d.awRef = true ∧ d.holdover = false then d.setReg (apg + Off.AW_OFFSET) (Config.awMean d.tick) else d

/-- AWCLK_STOP: no valid edge for 4 expected periods: the PLL holds over. -/
def execAwclkStop (s : State) : Out :=
  onDev (fun d =>
    if d.awRef = true ∧ d.holdover = false then ((d.keepOffset.apllFlag Fl.APLL_STATUS_HOLDOVER 1).apgCount Off.AW_STOPS).clockRecord 0x09 else d) s

/-- AWCLK_RESTORED: valid edges resume near the held rate. -/
def execAwclkRestored (s : State) : Out :=
  onDev (fun d => if d.holdover then (d.apllFlag Fl.APLL_STATUS_HOLDOVER 0).clockRecord 0x0A else d) s

/-- AWCLK_RATE: the rate has changed: every pacing unit enters SLIP. -/
def execAwclkRate (s : State) : Out :=
  onDev (fun d =>
    if d.awRef then
      let d := (d.apllFlag Fl.APLL_STATUS_HOLDOVER 0).apllFlag Fl.APLL_STATUS_RATE_WAIT 1
      (d.eachPacer (fun a => { a with mode := 1, inBand := 0 })).clockRecord 0x0B
    else d) s

/-- AWCLK_STABLE: after 2 s of a stable rate the pacing units return to LOOP with their integrators at 0; entering LOOP is recorded
(R344, R354). -/
def execAwclkStable (s : State) : Out :=
  onDev (fun d =>
    if d.rateWait = true ∧ d.holdover = false then
      let d := d.apllFlag Fl.APLL_STATUS_RATE_WAIT 0
      let d := d.each (List.range 20) (fun d p =>
        match d.pacingSlot p with
        | some (q, _) =>
          if (d.aunit p).running = true ∧ d.loopMode q = 0 then (d.setAunit p { d.aunit p with mode := 2, acc := 0 }).unitRecord 0x07 p 0 else d
        | none => d)
      d.clockRecord 0x0C
    else d) s

/-- APLL_UNLOCK: the audio PLL loses lock for another reason: every unit stops. -/
def execApllUnlock (s : State) : Out :=
  onDev (fun d => ((d.apllFlag Fl.APLL_STATUS_LOCK 0).audioStopAll).clockRecord 0x0F) s

/-! ### Register rules (R358–R360) -/

/-- Whether a unit runs. -/
def Dev.unitRuns (d : Dev) (u : Nat) : Bool := (d.aunit u).running

/-- A write of AP_CTRL or VP_CTRL: EN and the MCLK bits, then STOP, then START (R358, R359). -/
def Dev.apCtrl (d : Dev) (u : Nat) (v : Word) : Dev :=
  let o := ublk u + Off.AP_CTRL
  let runs := d.unitRuns u
  let d := if runs = true ∧ Fl.AP_CTRL_EN.get v = 0 then d else d.setFld o Fl.AP_CTRL_EN (Fl.AP_CTRL_EN.get v)
  let d := if u < 8 then
      let d := d.setFld o Fl.AP_CTRL_MCLK_EN (Fl.AP_CTRL_MCLK_EN.get v)
      if runs then d else d.setFld o Fl.AP_CTRL_MCLK_RATIO (Fl.AP_CTRL_MCLK_RATIO.get v)
    else d
  if Fl.AP_CTRL_STOP.on v then d.apStop u else if Fl.AP_CTRL_START.on v then d.apStart u else d

/-- A write of AP_FMT: a field with a value outside its encodings keeps its value, and a combination that breaks a limit makes the whole write ignored
(R12, R332, R334, R358). -/
def Dev.apFmt (d : Dev) (u : Nat) (plain : Dev → Dev) : Dev :=
  let v := (plain d).reg (ublk u + Off.AP_FMT)
  if d.unitRuns u = true ∨ fmtOk v = false then d
  else (plain d).setLoop u (frameBits v) (Fl.AP_FMT_RATE.get v) (Fl.AP_FMT_LOOP_BW.get v)

/-- A write of VP_CFG (R355, R359). -/
def Dev.vpCfg (d : Dev) (u : Nat) (plain : Dev → Dev) : Dev :=
  if d.unitRuns u then d
  else
    let d := plain d
    d.setLoop u 256 (d.rateOf u) (d.fld (ublk u + Off.VP_CFG) Fl.VP_CFG_LOOP_BW)

/-- A write of AP_PACE (R358). -/
def Dev.apPace (d : Dev) (u : Nat) (v : Word) (plain : Dev → Dev) : Dev :=
  let en := d.fld (ublk u + Off.AP_PACE) Fl.AP_PACE_PACE_EN = 1
  let clears := en ∧ Fl.AP_PACE_PACE_EN.get v = 0
  if ((d.groupOf u).isSome = true ∨ (en ∧ d.unitRuns u = true)) ∧ ¬ clears then d
  else
    let old := d.pacingSlot u
    let d := plain d
    if d.pacingSlot u = old then d else d.noteMixedAll u

/-- Whether a slot's source is valid: a host ring below 64 that serves no other consumer (R456). -/
def Dev.pbSourceOk (d : Dev) (u s : Nat) : Bool :=
  let v := d.fld (ublk u + Off.SLOT_PB_SRC s) Fl.SLOT_PB_SRC_ID
  d.fld (ublk u + Off.SLOT_PB s) Fl.SLOT_PB_SRC != 1 || (decide (v % 256 < 64) && (d.consumerOf (v / 256 % 32) (v % 256)).isNone)

/-- A write of SLOT_PB: the enable, refused where the ring is outside HBM, SRC is 0 or the source is invalid, clears both positions
(R358, R456). -/
def Dev.slotPb (d : Dev) (u s : Nat) (v : Word) (plain : Dev → Dev) : Dev :=
  let o := ublk u + Off.SLOT_PB s
  let b := ublk u
  if d.fld o Fl.SLOT_PB_PB_EN = 1 then
    if Fl.SLOT_PB_PB_EN.get v = 1 then d
    else
      let x := d.aslot u s
      (d.setFld o Fl.SLOT_PB_PB_EN 0).setAslot u s { x with pb := 0, pbG := 0, pbG0 := 0, pbK := 0, pbMute := none, delay := [], last := 0, out := 0 }
  else
    let d := (plain d).setFld o Fl.SLOT_PB_PB_EN 0
    let fits := d.pbBase u s + 256 * d.fld (b + Off.PB_SIZE s) Fl.PB_SIZE_UNITS ≤ 2 * hbmSize
    if Fl.SLOT_PB_PB_EN.get v = 0 ∨ ¬ fits ∨ d.fld o Fl.SLOT_PB_SRC = 0 ∨ d.pbSourceOk u s = false then d
    else
      let d := ((d.setFld o Fl.SLOT_PB_PB_EN 1).setReg (b + Off.PB_WR s) 0).setReg (b + Off.PB_RD s) 0
      let x := d.aslot u s
      (d.setAslot u s { x with pb := 1, pbG := 0, pbG0 := 0, pbK := 0, pbMute := none, delay := [], last := 0, out := 0, refusing := false }).noteMixed u s

/-- A write to a register of a port's block. -/
def Dev.apWrite (d : Dev) (u l : Nat) (v : Word) (plain : Dev → Dev) : Dev :=
  let b := ublk u
  let running := match d.groupOf u with
    | some g => (d.aunit (16 + g)).running
    | none => false
  if l = Off.AP_CTRL then d.apCtrl u v
  else if l = Off.AP_FMT then (if u < 8 then d.apFmt u plain else d.vpCfg u plain)
  else if l = Off.AP_PACE then d.apPace u v plain
  else if l = Off.AP_CNT_CTRL then
    (if Fl.AP_CNT_CTRL_CNT_CLR.on v then
      d.zero ([Off.AP_SLIP_DROP, Off.AP_SLIP_REP, Off.AP_MIX_SLIPS, Off.AP_UNDERRUNS, Off.AP_OVERRUNS, Off.VP_LATE].map (b + ·))
    else d)
  else if l = Off.AP_DIV_INT ∨ l = Off.AP_DIV_FRAC ∨ l = Off.AP_KP ∨ l = Off.AP_KI then (if running then d else plain d)
  else if l = Off.AP_MARKS then
    let t := d.fld (b + Off.AP_PACE) Fl.AP_PACE_TARGET
    (if running = true ∨ t ≤ Fl.AP_MARKS_LO.get v ∨ Fl.AP_MARKS_HI.get v ≤ t then d else plain d)
  else if 0x400 ≤ l ∧ l < 0x8000 then
    let s := (l - 0x400) / 0x40
    let f := (l - 0x400) % 0x40
    if f = 0 then
      let o := b + Off.SLOT_CAP s
      let w := d.fld o Fl.SLOT_CAP_MEM_W
      (if d.fld o Fl.SLOT_CAP_CAP_EN = 1 then (plain d).setFld o Fl.SLOT_CAP_MEM_W w else plain d)
    else if f = 4 then d.slotPb u s v plain
    else if d.fld (b + Off.SLOT_PB s) Fl.SLOT_PB_PB_EN = 1 then d
    else plain d
  else plain d

/-- A write of APG_MEMBERS: a unit of another group may not join, and a running group keeps its members (R336, R360). -/
def Dev.apgMembers (d : Dev) (g : Nat) (v : Word) (plain : Dev → Dev) : Dev :=
  let taken := (List.range 4).any (fun h => h != g && (d.members h).any (fun u => v.toNat.testBit u))
  if (d.aunit (16 + g)).running = true ∨ taken = true then d
  else
    let old (u : Nat) : Option (Nat × Nat) := d.pacingSlot (d.pacerOf u)
    let d := plain d
    d.each ((List.range 16).filter (fun u => d.pacingSlot (d.pacerOf u) != old u)) Dev.noteMixedPort

/-- A write to a register of the group control block (R360). -/
def Dev.apgWrite (d : Dev) (l : Nat) (v : Word) (plain : Dev → Dev) : Dev :=
  if l = Off.APG_CTRL then d.apgCtrl v
  else if 0x10 ≤ l ∧ l < 0x20 then d.apgMembers ((l - 0x10) / 4) v plain
  else if l = Off.APLL_CTRL then
    (if d.audioRuns then d
    else
      let d := plain d.keepOffset
      if d.awRef then d else (d.apllFlag Fl.APLL_STATUS_HOLDOVER 0).apllFlag Fl.APLL_STATUS_RATE_WAIT 0)
  else if l = Off.APG_CNT_CTRL then
    (if Fl.APG_CNT_CTRL_CNT_CLR.on v then d.zero [apg + Off.AW_GLITCHES, apg + Off.AW_STOPS] else d)
  else plain d

/-- AP_STATUS as a read finds it (R358). -/
def Dev.apStatus (d : Dev) (u : Nat) : Word :=
  let a := d.aunit (d.pacerOf u)
  let g := (d.groupOf u).map (fun g => 16 + 32 * g)
  wd (b2n (d.unitRuns u) + (if d.unitRuns u then 2 * a.mode else 0) + g.getD 0
    + (if d.mclkRuns u then 128 else 0))

/-- SLOT_STATE as a read finds it (R358). -/
def Dev.slotState (d : Dev) (u s : Nat) : Word :=
  let x := d.aslot u s
  wd (x.cap + 16 * x.pb + 256 * b2n x.capMute.isSome + 512 * b2n x.pbMute.isSome + 1024 * b2n (d.isMixed u s) + 2 ^ 16 * x.pbG)

/-- A read of a register of a port's block whose bits the port holds. -/
def Dev.apView (d : Dev) (u l : Nat) : Option Word :=
  if l = Off.AP_STATUS then some (d.apStatus u)
  else if l = Off.AP_TRIM then some (wi ((d.aunit (d.pacerOf u)).trim / 256))
  else if 0x400 ≤ l ∧ l < 0x8000 then
    let s := (l - 0x400) / 0x40
    match (l - 0x400) % 0x40 with
    | 0 =>
      let w := d.reg (ublk u + l)
      some (match d.captureStream u s with
        | some i => Fl.SLOT_CAP_STREAM.put (Fl.SLOT_CAP_BOUND.put w 1) i
        | none => w)
    | 0x20 => some (d.slotState u s)
    | _ => none
  else none

/-- A read of a register of the group control block that shows a group's state, or the mean of AWCLK. -/
def Dev.apgView (d : Dev) (l : Nat) : Option Word :=
  if l = Off.AW_OFFSET then some (d.keepOffset.reg (apg + Off.AW_OFFSET))
  else if 0x20 ≤ l ∧ l < 0x30 then
    let a := d.aunit (16 + (l - 0x20) / 4)
    some (Fl.APG_STATUS_MODE.put (Fl.APG_STATUS_RUNNING.put (d.reg (apg + l)) (b2n a.running)) (if a.running then a.mode else 0))
  else none

end Sys2Proof.Machine
end

