-- ==== Sys2Proof/Machine/Crc.lean ====
section
/-! DEFINITION. The CRC-32 of IEEE 802.3, which guards Maelqua frames, flash regions and the Bolt's image (R383, R469, R473, R482, R484, R432). -/

namespace Sys2Proof.Machine

/-- Eight shifts of the reflected CRC register. -/
def crcShift : Nat → BitVec 32 → BitVec 32
  | 0, c => c
  | n + 1, c => crcShift n (if c.getLsbD 0 then (c >>> 1) ^^^ 0xEDB88320#32 else c >>> 1)

/-- One byte into the register. -/
def crcByte (c : BitVec 32) (b : Byte) : BitVec 32 := crcShift 8 (c ^^^ b.setWidth 32)

/-- The CRC-32 of bytes. -/
def crc32 (bs : List Byte) : BitVec 32 := ~~~ (bs.foldl crcByte 0xFFFFFFFF#32)

end Sys2Proof.Machine
end

