-- ==== Sys2Proof/Machine/Frame.lean ====
section
/-! DEFINITION. Frame intake: cameras and their bitstream rings, the decode engines, the scaler's arithmetic, and the delivery of its tensors (R362–R376). -/

namespace Sys2Proof.Machine

/-! ### Records and accessors -/

/-- The base of the FIN block. -/
def fin : Nat := Block.fin.base

/-- A camera beside its registers. -/
def Dev.cam (d : Dev) (c : Nat) : Cam := Tab.get Cam.fresh d.cams c
/-- Replace a camera. -/
def Dev.setCam (d : Dev) (c : Nat) (x : Cam) : Dev := { d with cams := Tab.set Cam.fresh d.cams c x }
/-- EN of a camera. -/
def Dev.camEn (d : Dev) (c : Nat) : Bool := d.fld (fin + Off.CAM_CFG c) Fl.CAM_CFG_EN == 1
/-- The engine of a camera. -/
def Dev.camEngine (d : Dev) (c : Nat) : Nat := d.fld (fin + Off.CAM_CFG c) Fl.CAM_CFG_ENGINE
/-- STATE of a camera: 0 OFF, 1 WAIT_RAP, 2 DECODING. -/
def Dev.camState (d : Dev) (c : Nat) : Nat := d.fld (fin + Off.CAM_STATUS c) Fl.CAM_STATUS_STATE
/-- Set STATE of a camera. -/
def Dev.setCamState (d : Dev) (c st : Nat) : Dev := d.setFld (fin + Off.CAM_STATUS c) Fl.CAM_STATUS_STATE st
/-- MAX_W. -/
def Dev.camW (d : Dev) (c : Nat) : Nat := d.fld (fin + Off.CAM_GEOM c) Fl.CAM_GEOM_MAX_W
/-- MAX_H. -/
def Dev.camH (d : Dev) (c : Nat) : Nat := d.fld (fin + Off.CAM_GEOM c) Fl.CAM_GEOM_MAX_H
/-- The declared load of a camera (R363). -/
def Dev.camLoad (d : Dev) (c : Nat) : Nat := d.camW c * d.camH c * d.fld (fin + Off.CAM_CFG c) Fl.CAM_CFG_MAX_FPS
/-- The declared load of an engine. -/
def Dev.engineLoad (d : Dev) (e : Nat) : Nat :=
  (((List.range 64).filter (fun c => d.camEn c && d.camEngine c == e)).map d.camLoad).foldl (· + ·) 0
/-- The base of a camera's frame pool. -/
def Dev.poolBase (d : Dev) (c : Nat) : Nat := d.reg64 (fin + Off.FB_BASE_LO c) (fin + Off.FB_BASE_HI c)
/-- The bytes of one frame slot (R366). -/
def Dev.slotBytes (d : Dev) (c : Nat) : Nat :=
  let n := d.camW c * d.camH c
  let b := if d.fld (fin + Off.FB_CFG c) Fl.FB_CFG_TEN = 1 then 3 * n else 3 * n / 2
  (b + 4095) / 4096 * 4096
/-- COUNT of a camera. -/
def Dev.camCount (d : Dev) (c : Nat) : Nat := d.fld (fin + Off.FB_CFG c) Fl.FB_CFG_COUNT
/-- The base and the bytes of a camera's bitstream ring (R364). -/
def Dev.bsBase (d : Dev) (c : Nat) : Nat := d.reg64 (fin + Off.BS_BASE_LO c) (fin + Off.BS_BASE_HI c)
/-- The bytes of a camera's bitstream ring. -/
def Dev.bsSize (d : Dev) (c : Nat) : Nat := 4096 * d.fld (fin + Off.BS_SIZE c) Fl.BS_SIZE_UNITS
/-- The bytes a bitstream ring holds. -/
def Dev.bsHeld (d : Dev) (c : Nat) : Nat := span (d.bsSize c) (d.cam c).bsWr (d.cam c).bsRd

/-- The fields of a VIDEO record: of a camera, or of output `o` with the stream bound to it (R374). -/
def Dev.videoFields (d : Dev) (code src c : Nat) (o : Option Nat) (num reason : Nat) : Ev :=
  let bound := match o with
    | some k => (d.outputStream (8 * c + k)).getD 0x3FF
    | none => 0x3FF
  { cls := kVIDEO, code := code, src := src, stream := c,
    obj := c + (match o with | some k => k * 2 ^ 8 + 2 ^ 11 | none => 0)
    detail := num % 2 ^ 32 + reason % 2 ^ 8 * 2 ^ 32 + bound * 2 ^ 40 }

/-- A VIDEO record. -/
def Dev.videoRecord (d : Dev) (code src c : Nat) (o : Option Nat) (num reason : Nat) : Dev := d.emit (d.videoFields code src c o num reason)

/-- CAM_DROPS of a camera, or OUT_DROPS of its output `o`, at frame `num`; a wrap is recorded (R373, R375). -/
def Dev.finCount (d : Dev) (src c : Nat) (o : Option Nat) (num : Nat) : Dev :=
  let at_ := match o with
    | some k => Off.OUT_DROPS (8 * c + k)
    | none => Off.CAM_DROPS c
  d.bump (fin + at_) 1 (d.videoFields 0x07 src c o num 0)

/-! ### The bitstream ring (R364) -/

/-- A refused write to a bitstream ring: each run of refusals records BS_OVERFLOW once (R364). -/
def Dev.bsRefused (d : Dev) (c : Nat) : Dev :=
  let x := d.cam c
  if x.refusing then d
  else (d.setCam c { x with refusing := true }).videoRecord 0x06 (0x10 + d.camEngine c) c none (d.reg (fin + Off.CAM_FRAME c)).toNat 0

/-- A producer's bytes for a camera; a write that would overfill the ring is not made, and each run of refusals records BS_OVERFLOW once. -/
def Dev.bsPut (d : Dev) (c : Nat) (bs : List Byte) : Bool × Dev :=
  let x := d.cam c
  let z := d.bsSize c
  if z < d.bsHeld c + bs.length then
    (false, d.bsRefused c)
  else
    let v := d.fld (fin + Off.CAM_SRC c) Fl.CAM_SRC_ID
    let d := d.ringWrite (if d.fld (fin + Off.CAM_SRC c) Fl.CAM_SRC_KIND = 0 then 0x09 else 0x18 + v / 4096 % 8 / 4) (d.bsBase c) z x.bsWr bs
    (true, d.setCam c { x with bsWr := (x.bsWr + bs.length) % (2 * z), refusing := false })

/-! ### Registration (R365) -/

/-- Whether a camera's source is valid and free (check 5). -/
def Dev.camSourceOk (d : Dev) (c : Nat) : Bool :=
  let o := fin + Off.CAM_SRC c
  let v := d.fld o Fl.CAM_SRC_ID
  let kind := d.fld o Fl.CAM_SRC_KIND
  if kind = 0 then decide (v % 256 < 64) && (d.consumerOf (v / 256 % 32) (v % 256)).isNone
  else (d.cameraOf 1 (v % 2 ^ 15)).isNone

/-- The first check of R365 that fails, 0 when none does. -/
def Dev.camReason (d : Dev) (c : Nat) : Nat :=
  let e := d.camEngine c
  let one (a n : Nat) : Bool := inHbm 0 a n || inHbm 1 a n
  if d.fld (fin + Off.FIN_EXP) Fl.FIN_EXP_LOAD_OVR = 0 ∧ d.engineLoad e + d.camLoad c > 746496000 then 1
  else if one (d.bsBase c) (d.bsSize c) = false ∨ one (d.poolBase c) (d.camCount c * d.slotBytes c) = false then 2
  else if d.domBarred (shEngine e) then 3
  else if d.camW c > 4096 ∨ d.camH c > 2304 ∨ d.camW c % 2 = 1 ∨ d.camH c % 2 = 1 then 4
  else if d.camSourceOk c = false then 5
  else 0

/-- CAMERA_REGISTER: the checks of an enable, once the engine's domain is ON or cannot come ON (R365). -/
def execCameraRegister (c : Fin 64) (s : State) : Out :=
  onDev (fun d =>
    let c := c.val
    let x := d.cam c
    let e := shEngine (d.camEngine c)
    if x.pendingEn = false ∨ (d.domOn e = false ∧ d.domBarred e = false) then d
    else
      let r := d.camReason c
      let d := d.setCam c { x with pendingEn := false }
      if r ≠ 0 then d.videoRecord 0x04 (0x10 + d.camEngine c) c none (d.reg (fin + Off.CAM_FRAME c)).toNat r
      else ((d.setFld (fin + Off.CAM_CFG c) Fl.CAM_CFG_EN 1).setCamState c 1).setCam c Cam.fresh) s

/-! ### Decoding (R363, R365–R367) -/

/-- The picture an engine takes: its cameras in round-robin order after the last one served. -/
def Dev.nextPic (d : Dev) (e : Nat) (pics : List Pic) : Option Pic :=
  let ok (p : Pic) : Bool := d.camEn p.cam.val && d.camEngine p.cam.val == e && decide (p.len ≤ d.bsHeld p.cam.val)
  let last := Tab.get 63 d.served e
  let key (p : Pic) : Nat := (p.cam.val + 63 - last) % 64
  (sortBy key (pics.filter ok)).head?

/-- Why a camera refuses a sequence, 0 when it does not (R365, R366, R373); the reason of a 10-bit sequence without TEN is a free value. -/
def Dev.seqReason (d : Dev) (c : Nat) (p : Pic) : Nat × Dev :=
  if p.listed = false then (1, d)
  else if p.width > d.camW c ∨ p.height > d.camH c then (2, d)
  else if p.dpb > d.camCount c - 2 then (3, d)
  else if p.codec.val ≠ d.fld (fin + Off.CAM_CFG c) Fl.CAM_CFG_CODEC then (4, d)
  else if p.ten = true ∧ d.fld (fin + Off.FB_CFG c) Fl.FB_CFG_TEN = 0 then
    let (x, d) := d.free
    (1 + x.toNat % 255, d)
  else (0, d)

/-- Take a picture's bytes from the ring: whether they met no uncorrectable error. -/
def Dev.takeBits (d : Dev) (c n : Nat) : Bool × Dev :=
  let x := d.cam c
  let z := d.bsSize c
  let a := x.bsRd % z
  let k := min n (z - a)
  let (p, d) := d.hbmUnitRead (d.bsBase c + a) k
  let (q, d) := d.hbmUnitRead (d.bsBase c) (n - k)
  (p.isSome && q.isSome, d.setCam c { x with bsRd := (x.bsRd + n) % (2 * z) })

/-- A picture takes its place in output order, `n` pictures still to come before it: its frame number, and CAM_FRAME moved past all that are known
(R367). -/
def Dev.numberPicture (d : Dev) (c n : Nat) : Nat × Dev :=
  let o := fin + Off.CAM_FRAME c
  let x := d.cam c
  let k := (((List.range (n + x.ahead.length + 1)).map (· + 1)).filter (fun i => !x.ahead.contains i)).getD n 0
  let used := x.ahead ++ [k]
  let m := ((List.range (used.length + 1)).find? (fun i => !used.contains (i + 1))).getD 0
  (((d.reg o).toNat + k) % 2 ^ 32,
    (d.setReg o (wd ((d.reg o).toNat + m))).setCam c { x with ahead := (used.filter (fun i => decide (m < i))).map (· - m) })

/-- A random access point closes the order before it: CAM_FRAME moves past the pictures decoded ahead of ones that never came (R367; DESIGN CHOICE, log
entry 68). -/
def Dev.closeOrder (d : Dev) (c : Nat) : Dev :=
  let o := fin + Off.CAM_FRAME c
  let x := d.cam c
  (d.setReg o (wd ((d.reg o).toNat + x.ahead.foldl max 0))).setCam c { x with ahead := [] }

/-- PICTURE_DECODE_START: an idle engine takes a picture. `pics` are the pictures whose last byte is in a ring. -/
def execPictureDecodeStart (e : Fin 4) (pics : List Pic) (s : State) : Out :=
  onDev (fun d =>
    if d.domOn (shEngine e.val) = false ∨ (Tab.get none d.engines e.val).isSome then d
    else match d.nextPic e.val pics with
      | none => d
      | some p =>
        let c := p.cam.val
        let st := d.camState c
        let (good, d) := d.takeBits c p.len
        let (r, d) := if p.rap then d.seqReason c p else (0, d)
        let d := if r ≠ 0 then
            (d.setCamState c 1).videoRecord 0x02 (0x10 + e.val) c none (d.reg (fin + Off.CAM_FRAME c)).toNat r
          else if p.rap then (d.setCamState c 2).setFld (fin + Off.CAM_STATUS c) Fl.CAM_STATUS_TEN_IN_USE (b2n p.ten)
          else d
        let x := d.cam c
        let d := if p.rap = true ∧ r = 0 then d.setCam c { x with width := p.width, height := p.height, ten := p.ten } else d
        let y := d.cam c
        let waits := r ≠ 0 ∨ (p.rap = false ∧ st ≠ 2)
        let d := if p.rap then d.closeOrder c else d
        let run : Dec := ⟨c, if waits then 2 else if good then 0 else 3, y.width, y.height, p.order.val, d.poolBase c, d.slotBytes c, d.camCount c,
          d.fld (fin + Off.FB_CFG c) Fl.FB_CFG_TEN == 1⟩
        { d with engines := Tab.set none d.engines e.val (some run), served := Tab.set 63 d.served e.val c }) s

/-- A picture that is not delivered: FRAME_DROPPED, and the wait for a random access point (R367). -/
def Dev.dropFrame (d : Dev) (e c num reason : Nat) : Dev :=
  let d := if reason ≠ 2 ∧ d.camState c = 2 then d.setCamState c 1 else d
  (d.videoRecord 0x01 (0x10 + e) c none num reason).finCount (0x10 + e) c none num

/-- Whether a frame slot is free of the scaler (R366, R371). -/
def Dev.slotFree (d : Dev) (a : Nat) : Bool :=
  d.frames.all (fun f => f.addr != a) && d.tensors.all (fun e => match e.2 with | some t => t.addr != a | none => true)

/-- The outputs of a camera that are enabled, in ascending order (R368). -/
def Dev.camOuts (d : Dev) (c : Nat) : List Nat := (List.range 8).filter (fun o => d.fld (fin + Off.OUT_CFG (8 * c + o)) Fl.OUT_CFG_EN == 1)

/-- Deliver a decoded frame into its slot and to the scaler (R366, R371). -/
def Dev.deliverFrame (d : Dev) (e : Nat) (x : Dec) (num a : Nat) (bytes : List Byte) : Dev :=
  let n := x.width * x.height * (if x.ten then 3 else 1)
  let n := if x.ten then n else n + n / 2
  let d := d.hbmUnitWrite (0x10 + e) a (bytes.take n)
  let outs := d.camOuts x.cam
  if outs = [] then d
  else { d with frames := d.frames ++ [⟨x.cam, num, a, x.width, x.height, x.ten, outs⟩] }

/-- PICTURE_DECODE_DONE: the picture of an engine ends: it takes its number, and the frame is delivered or dropped, also where EN was cleared meanwhile
(R367, R372). A frame slot is taken only when it is no reference and the scaler does not read it (R366). -/
def execPictureDecodeDone (e : Fin 4) (r : Decoded) (s : State) : Out :=
  onDev (fun d =>
    match Tab.get none d.engines e.val with
    | none => d
    | some x =>
      let idle (d : Dev) : Dev := { d with engines := Tab.set none d.engines e.val none }
      let next := d.numberPicture x.cam x.order
      let lost (reason : Nat) : Dev := idle (next.2.dropFrame e.val x.cam next.1 reason)
      if d.contained (x.pool / hbmSize) then idle d
      else if x.drop ≠ 0 then lost x.drop
      else match r with
        | .error => lost 1
        | .ecc => lost 3
        | .frame slot drops ref bytes =>
          let a := x.pool + slot.val * x.slotB
          let kept := (d.cam x.cam).refs.filter (fun i => !(drops.map (·.val)).contains i)
          if slot.val < x.slots ∧ kept.contains slot.val = false ∧ d.slotFree a = true then
            let d := next.2
            idle ((d.setCam x.cam { d.cam x.cam with refs := kept ++ (if ref then [slot.val] else []) }).deliverFrame e.val x next.1 a bytes)
          else d) s

/-! ### The scaler's arithmetic (R368, R369) -/

/-- A plane of 10-bit samples. -/
structure Plane where
  w : Nat
  h : Nat
  at' : Nat → Nat → Nat

/-- One sample, 10 bits: in NV12 an 8-bit one × 4, in P010 the upper bits of 16 (R366, R368). -/
def Dev.sample10 (d : Dev) (ten : Bool) (base i : Nat) : Nat :=
  if ten then leNat (d.hbm.read (base + 2 * i) 2) / 64 else 4 * (d.hbm.byte (base + i)).toNat

/-- The luma plane of a frame. -/
def Dev.luma (d : Dev) (f : Frame) : Plane := ⟨f.width, f.height, fun x y => d.sample10 f.ten f.addr (y * f.width + x)⟩

/-- A chroma plane of a frame: 0 Cb, 1 Cr, interleaved after the luma plane (R366). -/
def Dev.chroma (d : Dev) (f : Frame) (k : Nat) : Plane :=
  let base := f.addr + f.width * f.height * (if f.ten then 2 else 1)
  ⟨f.width / 2, f.height / 2, fun x y => d.sample10 f.ten base (y * f.width + 2 * x + k)⟩

/-- A sample of a plane; a position outside takes the nearest edge sample. -/
def Plane.edge (p : Plane) (x y : Int) : Nat := p.at' (min x.toNat (p.w - 1)) (min y.toNat (p.h - 1))

/-- Crop a plane to columns `[x, x + w)` and halve it by averaging pairs of columns. -/
def Plane.halveX (p : Plane) : Plane :=
  ⟨(p.w + 1) / 2, p.h, fun x y => (rneDiv ((p.edge (2 * x) y + p.edge (2 * x + 1) y : Nat) : Int) 2).toNat⟩

/-- Halve a plane by averaging pairs of rows. -/
def Plane.halveY (p : Plane) : Plane :=
  ⟨p.w, (p.h + 1) / 2, fun x y => (rneDiv ((p.edge x (2 * y) + p.edge x (2 * y + 1) : Nat) : Int) 2).toNat⟩

/-- How often a crop of `w` is halved for an output of `ow`: until the ratio is at most 2. -/
def halvings (w ow : Nat) : Nat := if w > 8 * ow then 3 else if w > 4 * ow then 2 else if w > 2 * ow then 1 else 0

/-- Apply a function `n` times. -/
def times {α : Type} (f : α → α) : Nat → α → α
  | 0, x => x
  | n + 1, x => times f n (f x)

/-- The crop of a plane in the directions that are halved, halved `kx` and `ky` times. -/
def Plane.reduce (p : Plane) (x y w h kx ky : Nat) : Plane :=
  let p := if kx = 0 then p else times Plane.halveX kx ⟨w, p.h, fun i j => p.edge ((x + i : Nat) : Int) j⟩
  if ky = 0 then p else times Plane.halveY ky ⟨p.w, h, fun i j => p.edge i ((y + j : Nat) : Int)⟩

/-- Bilinear interpolation at a position in 1/256 sample, with weights in 1/256. -/
def Plane.bilinear (p : Plane) (x y : Int) : Int :=
  let x0 := x / 256
  let y0 := y / 256
  let fx := x % 256
  let fy := y % 256
  rneShift (p.edge x0 y0 * (256 - fx) * (256 - fy) + p.edge (x0 + 1) y0 * fx * (256 - fy) + p.edge x0 (y0 + 1) * (256 - fx) * fy
    + p.edge (x0 + 1) (y0 + 1) * fx * fy) 16

/-- The position of output pixel `i` in one direction, in 1/256 of a sample of the reduced crop. -/
def scalePos (x w ow k i : Nat) : Int :=
  rneDiv ((256 * (2 * i + 1) * w : Nat) : Int) (2 * ow * 2 ^ k) - 128 + (if k = 0 then 256 * (x : Int) else 0)

/-- The coefficients in 1/4,096 of a limited-range conversion to full-range RGB at 10 bits: Y, Cr of R, Cb of G, Cr of G, Cb of B
(PRESUMED from the two recommendations). -/
def matrixOf (colour : Nat) : Int × Int × Int × Int × Int := if colour = 1 then (4783, 6557, 1609, 3340, 8287) else (4783, 7365, 876, 2189, 8678)

/-- R, G, B of one pixel, each clamped to 0–1,023. -/
def toRgb (colour : Nat) (y cb cr : Int) : List Int :=
  let (ky, rv, gu, gv, bu) := matrixOf colour
  let l := ky * (y - 64)
  [rneShift (l + rv * (cr - 512)) 12, rneShift (l - gu * (cb - 512) - gv * (cr - 512)) 12, rneShift (l + bu * (cb - 512)) 12].map (clampI 0 1023)

/-- The settings of an output. -/
structure OutCfg where
  x : Nat
  y : Nat
  w : Nat
  h : Nat
  ow : Nat
  oh : Nat
  colour : Nat
  tag : Bool
  shift : Nat
  offset : Nat

/-- The settings of output `n`. -/
def Dev.outCfg (d : Dev) (n : Nat) : OutCfg :=
  let c := fin + Off.OUT_CFG n
  ⟨d.fld (fin + Off.OUT_CROP n) Fl.OUT_CROP_X, d.fld (fin + Off.OUT_CROP n) Fl.OUT_CROP_Y, d.fld (fin + Off.OUT_CROP_SIZE n) Fl.OUT_CROP_SIZE_W,
    d.fld (fin + Off.OUT_CROP_SIZE n) Fl.OUT_CROP_SIZE_H, d.fld (fin + Off.OUT_SIZE n) Fl.OUT_SIZE_OW, d.fld (fin + Off.OUT_SIZE n) Fl.OUT_SIZE_OH,
    d.fld c Fl.OUT_CFG_COLOUR, d.fld c Fl.OUT_CFG_FRAME_TAG == 1, d.fld c Fl.OUT_CFG_SHIFT, d.fld c Fl.OUT_CFG_OFFSET⟩

/-- The channels of output pixel (i, j): chroma of location type 0 lies on even luma columns, between luma rows (R368). -/
def Dev.pixel (o : OutCfg) (y cb cr : Plane) (kx ky i j : Nat) : List Int :=
  let px := scalePos o.x o.w o.ow kx i
  let py := scalePos o.y o.h o.oh ky j
  let l := y.bilinear px py
  if o.colour = 0 then [l]
  else
    let cx := rneDiv px 2
    let cy := rneDiv (py - 128) 2
    toRgb o.colour l (cb.bilinear cx cy) (cr.bilinear cx cy)

/-- The tensor of an output: planes of rows, then the frame number with FRAME_TAG (R368, R369). -/
def Dev.tensorOf (d : Dev) (f : Frame) (o : OutCfg) : List Byte :=
  let kx := halvings o.w o.ow
  let ky := halvings o.h o.oh
  let y := (d.luma f).reduce o.x o.y o.w o.h kx ky
  let c (k : Nat) : Plane := (d.chroma f k).reduce (o.x / 2) (o.y / 2) (o.w / 2) (o.h / 2) kx ky
  let cb := c 0
  let cr := c 1
  let chans := if o.colour = 0 then 1 else 3
  let byte (k j i : Nat) : Byte :=
    BitVec.ofInt 8 (clampI (-128) 127 (rneShift ((Dev.pixel o y cb cr kx ky i j).getD k 0 - o.offset) o.shift))
  (List.range chans).flatMap (fun k => (List.range o.oh).flatMap (fun j => (List.range o.ow).map (byte k j)))
    ++ (if o.tag then natLE 4 f.num else [])

/-! ### Delivery (R370–R372) -/

/-- An output that writes nothing records CROP_DROPPED. -/
def Dev.cropDropped (d : Dev) (n num reason : Nat) : Dev :=
  (d.videoRecord 0x03 0x14 (n / 8) (some (n % 8)) num reason).finCount 0x14 (n / 8) (some (n % 8)) num

/-- A tensor has been written. -/
def Dev.outWritten (d : Dev) (n num : Nat) : Dev := d.setReg (fin + Off.OUT_LAST n) (wd num)

/-- Core and ring of an output's ring destination. -/
def Dev.outRing (d : Dev) (n : Nat) : Nat × Nat :=
  (d.fld (fin + Off.OUT_DEST n) Fl.OUT_DEST_CORE, d.fld (fin + Off.OUT_DEST n) Fl.OUT_DEST_RING)

/-- Whether a ring destination is usable for `len` bytes (reason 5 of R370). -/
def Dev.ringUsable (d : Dev) (n len : Nat) : Bool :=
  let (k, r) := d.outRing n
  let c := d.core k
  c.jobOf.isSome && !d.contained (sideOf k) && c.ringEn r && c.ringMode r == 1 && decide (len ≤ 256 * c.ringUnits r)

/-- Write a tensor at TAIL of a core's ring and publish it (R215, R370). -/
def Dev.ringDeliver (d : Dev) (n num : Nat) (bs : List Byte) : Dev :=
  let (k, r) := d.outRing n
  let c := d.core k
  let st := c.ringSt r
  let a := (c.reg (Off.RING_BASE_LO r)).toNat + 2 ^ 32 * (c.reg (Off.RING_BASE_HI r)).toNat + st.tail * 256 * c.ringUnits r
  let d := match targetOf a with
    | .hbm _ _ => d.hbmUnitWrite 0x14 a bs
    | .sram k' l => (d.baseToCluster (clusterOf k') bs.length).onCore k' (fun x => x.direct 0 l bs)
    | _ => d
  let c := d.core k
  (d.setCore k (c.setRingSt r { st with tail := (st.tail + 1) % c.ringSlots r, filled := st.filled + 1 })).outWritten n num

/-- A tensor waiting at an output. -/
def Dev.tensor (d : Dev) (n : Nat) : Option Tensor := Tab.get none d.tensors n
/-- Replace a waiting tensor. -/
def Dev.setTensor (d : Dev) (n : Nat) (t : Option Tensor) : Dev := { d with tensors := Tab.set none d.tensors n t }

/-- Deliver a tensor to its output's destination (R370). -/
def Dev.deliverTensor (d : Dev) (n num addr : Nat) (bs : List Byte) : Dev :=
  if d.fld (fin + Off.OUT_CFG n) Fl.OUT_CFG_DEST = 0 then
    match d.outputStream n with
    | none => d.cropDropped n num 4
    | some i =>
      if d.contained (d.stream i).side then d.cropDropped n num 5
      else
        let (ok, d) := d.inputPut i bs
        if ok then d.outWritten n num else d.cropDropped n num 3
  else if d.ringUsable n bs.length = false then d.cropDropped n num 5
  else if (d.tensor n).isSome then d.cropDropped n num 2
  else
    let (k, r) := d.outRing n
    if (d.core k).ringRoom r then d.ringDeliver n num bs else d.setTensor n (some ⟨num, addr, bs, d.tick⟩)

/-- The bytes a frame fills. -/
def Frame.size (f : Frame) : Nat := f.width * f.height * 3 / 2 * (if f.ten then 2 else 1)

/-- SCALER_OUTPUT_DONE: the scaler produces the next output of its oldest frame; an uncorrectable error ends the frame's remaining outputs
(R368–R372, R514). -/
def execScalerOutputDone (s : State) : Out :=
  onDev (fun d =>
    if d.domOn shScaler = false then d
    else match d.frames with
      | [] => d
      | f :: rest =>
        match f.outs with
        | [] => { d with frames := rest }
        | o :: os =>
          let n := 8 * f.cam + o
          let d0 := { d with frames := if os = [] then rest else { f with outs := os } :: rest }
          if d.fld (fin + Off.OUT_CFG n) Fl.OUT_CFG_EN = 0 then d0
          else
            let (got, d) := d.hbmUnitRead f.addr f.size
            match got with
            | some _ => ({ d with frames := d0.frames }).deliverTensor n f.num f.addr (d.tensorOf f (d.outCfg n))
            | none =>
              let bad := (d.hbmBad f.addr f.size).getD f.addr
              let d := { d with frames := rest }.hbmRecord 0x0A 0x14 0xFFFF 0 bad
              d.each ((o :: os).map (8 * f.cam + ·)) (fun d n => if d.fld (fin + Off.OUT_CFG n) Fl.OUT_CFG_EN = 1 then d.cropDropped n f.num 5 else d)) s

/-- A waiting tensor is written where a slot of its ring has drained; where the ring has become unusable it is dropped. -/
def Dev.drainTensor (d : Dev) (n : Nat) (t : Tensor) : Option Dev :=
  let (k, r) := d.outRing n
  if d.ringUsable n t.bytes.length = false then some ((d.setTensor n none).cropDropped n t.num 5)
  else if (d.core k).ringRoom r then some ((d.setTensor n none).ringDeliver n t.num t.bytes)
  else none

/-- SCALER_SLOT_DRAINED: a waiting output finds a drained slot (R370). -/
def execScalerSlotDrained (n : Fin 512) (s : State) : Out :=
  onDev (fun d =>
    match d.tensor n.val with
    | none => d
    | some t => (d.drainTensor n.val t).getD d) s

/-- OUT_WAIT_EXPIRY: a wait of OUT_WAIT ticks has passed; a slot that drains in the same tick is used (R370). -/
def execOutWaitExpiry (n : Fin 512) (s : State) : Out :=
  onDev (fun d =>
    match d.tensor n.val with
    | none => d
    | some t =>
      if d.tick - t.since < d.fld (fin + Off.OUT_WAIT) Fl.OUT_WAIT_TICKS then d
      else (d.drainTensor n.val t).getD ((d.setTensor n.val none).cropDropped n.val t.num 1)) s

/-! ### Register rules (R372, R375) -/

/-- A write of CAM_CFG: EN waits for the registration checks; while EN is 1 only its clearing counts. -/
def Dev.camCfg (d : Dev) (c : Nat) (v : Word) (plain : Dev → Dev) : Dev :=
  let o := fin + Off.CAM_CFG c
  let on := Fl.CAM_CFG_EN.get v = 1
  if d.camEn c then (if on then d else (d.setFld o Fl.CAM_CFG_EN 0).setCamState c 0)
  else
    let d := (plain d).setFld o Fl.CAM_CFG_EN 0
    let d := d.setCam c { d.cam c with pendingEn := decide on }
    if on then d.askOpen (shEngine (d.camEngine c)) else d

/-- Whether an output may be enabled (R375). -/
def Dev.outOk (d : Dev) (n : Nat) : Bool :=
  let o := d.outCfg n
  let c := n / 8
  decide (o.x + o.w ≤ d.camW c ∧ o.y + o.h ≤ d.camH c ∧ o.w ≤ 16 * o.ow ∧ o.ow ≤ 4 * o.w ∧ o.h ≤ 16 * o.oh ∧ o.oh ≤ 4 * o.h)
    && d.tensorSize n % 4 == 0 && !d.domBarred shScaler

/-- A write of OUT_CFG. -/
def Dev.outCfgWrite (d : Dev) (n : Nat) (v : Word) (plain : Dev → Dev) : Dev :=
  let o := fin + Off.OUT_CFG n
  let on := Fl.OUT_CFG_EN.get v = 1
  if d.fld o Fl.OUT_CFG_EN = 1 then (if on then d else (d.setFld o Fl.OUT_CFG_EN 0).setTensor n none)
  else
    let d := (plain d).setFld o Fl.OUT_CFG_EN 0
    if on ∧ d.outOk n = true then (d.setFld o Fl.OUT_CFG_EN 1).askOpen shScaler else d

/-- FIN_CTRL.CNT_CLR. -/
def Dev.finClear (d : Dev) : Dev :=
  d.zero ((List.range 64).map (fun c => fin + Off.CAM_DROPS c) ++ (List.range 512).map (fun n => fin + Off.OUT_DROPS n))

/-- A write to a register of the FIN block. -/
def Dev.finWrite (d : Dev) (l : Nat) (v : Word) (plain : Dev → Dev) : Dev :=
  if l = Off.FIN_CTRL then (if Fl.FIN_CTRL_CNT_CLR.on v then d.finClear else d)
  else if 0x1000 ≤ l ∧ l < 0x2000 then
    let c := (l - 0x1000) / 0x40
    (if (l - 0x1000) % 0x40 = 0 then d.camCfg c v plain else if d.camEn c then d else plain d)
  else if 0x4000 ≤ l ∧ l < 0x8000 then
    let n := (l - 0x4000) / 0x20
    (if (l - 0x4000) % 0x20 = 0 then d.outCfgWrite n v plain else if d.fld (fin + Off.OUT_CFG n) Fl.OUT_CFG_EN = 1 then d else plain d)
  else plain d

/-- A read of a register of the FIN block whose bits other state determines. -/
def Dev.finView (d : Dev) (l : Nat) : Option Word :=
  if l = Off.FIN_STATUS then
    some (wd (((List.range 4).map (fun e => b2n (d.domOn (shEngine e)) * 2 ^ e)).foldl (· + ·) 0 + 16 * b2n (d.domOn shScaler)
      + 256 * ((List.range 64).filter d.camEn).length))
  else if 0x10 ≤ l ∧ l < 0x20 then some (wd (d.engineLoad ((l - 0x10) / 4)))
  else if 0x4000 ≤ l ∧ l < 0x8000 ∧ (l - 0x4000) % 0x20 = 0x14 then
    some (match d.outputStream ((l - 0x4000) / 0x20) with | some i => wd (i + 2 ^ 16) | none => 0)
  else none

end Sys2Proof.Machine
end

