-- ==== Sys2Proof/Machine/Links.lean ====
section
/-! DEFINITION. Panes and their channels: accessors, serial numbers, records, what a Pane leaves behind when it goes down, the queries of dual-homed endpoints (R379–R392). -/

namespace Sys2Proof.Machine

/-- A Pane beside its registers. -/
def Dev.pane (d : Dev) (p : Nat) : PaneSt := Tab.get PaneSt.dark d.panes p
/-- Replace a Pane. -/
def Dev.setPane (d : Dev) (p : Nat) (x : PaneSt) : Dev := { d with panes := Tab.set PaneSt.dark d.panes p x }
/-- STATE of a Pane: 0 DARK, 1 LIT, 2 LOCK, 3 ALIGN, 4 UP (R380). -/
def Dev.paneState (d : Dev) (p : Nat) : Nat := d.fld (opt + Off.PANE_STATUS p) Fl.PANE_STATUS_STATE
/-- Whether a Pane is UP. -/
def Dev.paneUp (d : Dev) (p : Nat) : Bool := d.paneState p == 4
/-- EN of a Pane. -/
def Dev.paneEn (d : Dev) (p : Nat) : Bool := d.fld (opt + Off.PANE_CTRL p) Fl.PANE_CTRL_EN == 1
/-- Whether a Pane carries PRBS31 in place of frames (OPT_EXP). -/
def Dev.panePrbs (d : Dev) (p : Nat) : Bool := (d.fld (opt + Off.OPT_EXP) Fl.OPT_EXP_PRBS).testBit p
/-- Whether a Pane belongs to the mirror bond (R379). -/
def Dev.isBond (d : Dev) (p : Nat) : Bool := decide (p < 2) && d.fld (opt + Off.OPT_BOND) Fl.OPT_BOND_BOND_EN == 1

/-- CONTROL. -/
def tCONTROL : Nat := 0
/-- AUDIO. -/
def tAUDIO : Nat := 1
/-- VIDEO. -/
def tVIDEO : Nat := 2
/-- WEIGH. -/
def tWEIGH : Nat := 3
/-- MIRROR. -/
def tMIRROR : Nat := 4

/-- The number of a channel: its Pane, TYPE and CHANNEL; both bond Panes share the mirror channel (R393). -/
def Dev.chanKey (d : Dev) (p ty ch : Nat) : Nat := (if ty = tMIRROR ∧ d.isBond p = true then 0 else p) * 2 ^ 16 + ty * 2 ^ 12 + ch
/-- A channel. -/
def Dev.chan (d : Dev) (k : Nat) : Chan := Tab.get Chan.fresh d.chans k
/-- Replace a channel. -/
def Dev.setChan (d : Dev) (k : Nat) (x : Chan) : Dev := { d with chans := Tab.set Chan.fresh d.chans k x }

/-- Whether serial number `v` is at or past `t` (R385). -/
def seqPast (v t : Nat) : Bool := decide ((v + 65536 - t) % 65536 < 32768)

/-- The camera with a floor channel as its source, enabled (R384). -/
def Dev.chanCamera (d : Dev) (p ch : Nat) : Option Nat := (d.cameraOf 1 (p * 4096 + ch)).filter d.camEn

/-- Whether a channel is bound by a unit (R384); the bond of an unpaired device carries no MIRROR traffic (R399). -/
def Dev.chanBound (d : Dev) (p ty ch : Nat) : Bool :=
  if ty = tCONTROL then ch == 0
  else if ty = tAUDIO then decide (ch < 64) && !d.isBond p && d.unitEn (8 + p)
  else if ty = tVIDEO then (d.chanCamera p ch).isSome
  else if ty = tWEIGH then d.weighBind.contains (p, ch)
  else if ty = tMIRROR then ch == 0 && d.isBond p && d.role != 0 && !(d.pane p).conflict && d.fld (Block.mir.base + Off.MIR_CFG) Fl.MIR_CFG_EN == 1
  else false

/-- A LINK record (R395). -/
def Dev.linkRecord (d : Dev) (code p ty ch det : Nat) : Dev :=
  let bound := if ty = tVIDEO then (d.chanCamera p ch).getD 0xFFFF else 0xFFFF
  d.emit { cls := kLINK, code := code, src := srcCase p, obj := p % 8 + ty * 2 ^ 12 + ch * 2 ^ 16, stream := bound, detail := det }

/-- Set the state of a Pane. -/
def Dev.setPaneState (d : Dev) (p st : Nat) : Dev := d.setFld (opt + Off.PANE_STATUS p) Fl.PANE_STATUS_STATE st

/-- The state of the bond after a change: DEGRADED while one bond Pane alone is UP, recorded at its onset (R393). -/
def Dev.checkBond (d : Dev) (p : Nat) : Dev :=
  let o := opt + Off.OPT_BOND
  let one := d.isBond 0 && (d.paneUp 0 != d.paneUp 1)
  let was := d.fld o Fl.OPT_BOND_DEGRADED = 1
  let d := d.setFld o Fl.OPT_BOND_DEGRADED (b2n one)
  if one = true ∧ ¬ was then d.linkRecord 0x07 p 0 0 0 else d

/-- The channels a Pane discards when it leaves UP (R381): all of its own; the bond's mirror channel only where no other bond Pane is UP. -/
def Dev.dropChans (d : Dev) (p : Nat) : Dev :=
  let bondUp := d.isBond p && d.paneUp (1 - p)
  let own (k : Nat) : Bool :=
    if k / 2 ^ 12 % 16 = tMIRROR ∧ d.isBond p = true then !bondUp else k / 2 ^ 16 == p
  { d with chans := d.chans.filter (fun e => !own e.1) }

/-- The state that a REASON of R381 leads to. -/
def reasonState (reason : Nat) : Nat := [0, 0, 1, 2, 2, 1, 0, 2].getD reason 0

/-- Whether a Pane has left its state in this tick and stands where that event put it (R381). -/
def Dev.leftNow (d : Dev) (p : Nat) : Bool :=
  match (d.pane p).left with
  | some l => decide (l.1 = d.tick ∧ d.paneState p = reasonState l.2.1)
  | none => false

/-- A PANE_DOWN of this tick that still waits at its source takes another REASON. -/
def Dev.rereason (d : Dev) (p reason : Nat) : Dev :=
  let src := srcCase p
  let now := BitVec.ofNat 64 (d.tickOf src)
  d.setWaiting src ((d.waiting src).map (fun r =>
    if r.cls.toNat = kLINK ∧ r.code = 2 ∧ r.object.toNat = p % 8 ∧ r.stamp = now then { r with detail := BitVec.ofNat 64 reason } else r))

/-- Another event of R381 in the tick in which a Pane has left its state: the one with the lowest REASON applies, and a Pane whose EN is 0 or whose
Casement is not LIT is DARK all the same (R380, R381). -/
def Dev.paneAgain (d : Dev) (p st reason : Nat) : Dev :=
  match (d.pane p).left with
  | none => d
  | some (t, r, up) =>
    let shut := d.paneEn p = false ∨ d.fld (opt + Off.CASE_STATUS (p / 4)) Fl.CASE_STATUS_STATE ≠ 2
    let d := if st = 0 ∨ (reason < r ∧ ¬ shut) then d.setPaneState p st else d
    if r ≤ reason then d
    else
      let d := d.setPane p { d.pane p with left := some (t, reason, up) }
      if up then (d.setFld (opt + Off.PANE_STATUS p) Fl.PANE_STATUS_LAST_REASON reason).rereason p reason else d

/-- A Pane leaves its state for `st` by an event of R381; a query in progress still ends by its time limit (R392). -/
def Dev.paneLeave (d : Dev) (p st reason : Nat) : Dev :=
  let was := d.paneState p
  let x := d.pane p
  let y : PaneSt := { PaneSt.dark with nonce := x.nonce, since := d.tick, tx := x.tx, query := x.query, byMirror := x.byMirror
                                       left := some (d.tick, reason, was == 4), near := x.near }
  if d.leftNow p then d.paneAgain p st reason
  else
  let d := (d.setPaneState p st).setPane p y
  if was ≠ 4 then d
  else
    let d := d.setFld (opt + Off.PANE_STATUS p) Fl.PANE_STATUS_LAST_REASON reason
    let d := (d.dropChans p).paneCount p (Off.DOWNS p) 1
    (d.linkRecord 0x02 p 0 0 reason).checkBond p

/-- A PEER_QUERY with a fresh nonce (R391, R392); a query in progress gives way to it, and the mirror engine takes its answer. -/
def Dev.sendQuery (d : Dev) (p : Nat) (byMirror : Bool) : Dev :=
  let x := d.pane p
  let n := (x.nonce + 1) % 65536
  d.setPane p { x with nonce := n, query := some d.tick, byMirror := byMirror || (x.byMirror && x.query.isSome), ctl := x.ctl ++ [natLE 1 3 ++ natLE 2 n] }

/-- The outcome of a query (R392), and its answer to the mirror engine where that asked (R410). -/
def Dev.queryDone (d : Dev) (p : Nat) (heard : Bool) : Dev :=
  let x := d.pane p
  let o := opt + Off.PANE_STATUS p
  let d := (d.setFld o Fl.PANE_STATUS_QUERY_VALID 1).setFld o Fl.PANE_STATUS_PEER_HEARD (b2n heard)
  let d := d.setPane p { x with query := none, byMirror := false }
  if x.byMirror then
    { d with mir := { d.mir with queries := d.mir.queries.filter (· != p), answers := d.mir.answers ++ [heard] } }
  else d

end Sys2Proof.Machine
end

