-- ==== Sys2Proof/Machine/Mirror.lean ====
section
/-! DEFINITION. The mirror engine: snapshots, images, acknowledgements, heartbeats, adoption, restoring (R398–R417). -/

namespace Sys2Proof.Machine

/-! ### Accessors -/

/-- The base of the MIR block. -/
def mirb : Nat := Block.mir.base
/-- MIR_CFG.EN. -/
def Dev.mirEn (d : Dev) : Bool := d.fld (mirb + Off.MIR_CFG) Fl.MIR_CFG_EN == 1
/-- Whether the engine runs: an enable takes effect while its domain is ON (R35). -/
def Dev.mirOn (d : Dev) : Bool := d.mirEn && d.domOn shMirror
/-- PARTNER_STATE: 0 NONE, 1 ALIVE, 2 LOST. -/
def Dev.partner (d : Dev) : Nat := d.fld (mirb + Off.MIR_STATUS) Fl.MIR_STATUS_PARTNER_STATE
/-- Set PARTNER_STATE. -/
def Dev.setPartner (d : Dev) (v : Nat) : Dev := d.setFld (mirb + Off.MIR_STATUS) Fl.MIR_STATUS_PARTNER_STATE v
/-- A counter of the mirror engine. -/
def Dev.mirCount (d : Dev) (o n : Nat) : Dev := d.bump (mirb + o) n { cls := kMIRROR, code := 0x0C, src := 8, obj := d.partnerRole }
/-- Replace the mirror engine. -/
def Dev.setMir (d : Dev) (m : Mir) : Dev := { d with mir := m }
/-- A message to send. -/
def Dev.mirSend (d : Dev) (m : MirMsg) : Dev := d.setMir { d.mir with out := d.mir.out ++ [m] }

/-! ### Snapshots (R402, R403) -/

/-- The ranges of a context that a snapshot copies: the plan's, or the whole (R402). -/
def Dev.snapRanges (d : Dev) (x : Stream) : List (Nat × Nat) :=
  let whole := [(0, x.ctxSize)]
  match d.plan x.plan with
  | none => whole
  | some p =>
    let rs := ((List.range 4).map (fun i => (p.field (448 + 8 * i) 4, p.field (452 + 8 * i) 4))).takeWhile (fun r => r.2 != 0)
    if x.whole ∨ rs = [] then whole else rs

/-- Cut a range of a context into the pieces that CTX_DATA frames carry, at most 224 bytes each (R414). -/
def pieces : Nat → Nat → List Byte → List (Nat × List Byte)
  | 0, _, _ => []
  | n + 1, o, bs => if bs = [] then [] else (o, bs.take 224) :: pieces n (o + 224) (bs.drop 224)

/-- Copy ranges of a context: the pieces, or none where a granule fails. -/
def Dev.copyCtx (d : Dev) (x : Stream) (rs : List (Nat × Nat)) : Option (List (Nat × List Byte)) × Dev :=
  rs.foldl (fun acc r =>
    let (got, d) := acc.2.hbmUnitRead (x.ctxPtr + r.1) r.2
    match acc.1, got with
    | some ps, some bs => (some (ps ++ pieces (bs.length / 224 + 1) r.1 bs), d)
    | _, _ => (none, d)) (some [], d)

/-- The bytes of pieces. -/
def piecesLen (ps : List (Nat × List Byte)) : Nat := (ps.map (fun p => p.2.length)).foldl (· + ·) 0

/-- The first failing granule of ranges of a context. -/
def Dev.ctxBad (d : Dev) (x : Stream) (rs : List (Nat × Nat)) : Nat := ((rs.findSome? (fun r => d.hbmBad (x.ctxPtr + r.1) r.2)).getD x.ctxPtr)

/-- The bytes of staged snapshots that are still in the staging ring of a side. -/
def Dev.stagedBytes (d : Dev) (s : Nat) : Nat :=
  ((d.mir.staged.filter (fun x => x.side == s)).flatMap (fun x => x.parts.map (·.2))).foldl (· + ·) 0

/-- The base of the staging ring of a side. -/
def Dev.stageBase (d : Dev) (s : Nat) : Nat := d.reg64 (mirb + Off.MIR_STAGE_LO s) (mirb + Off.MIR_STAGE_HI s)
/-- The bytes of the staging ring of a side. -/
def Dev.stageSize (d : Dev) (s : Nat) : Nat := 4096 * d.fld (mirb + Off.MIR_STAGE_SIZE s) Fl.MIR_STAGE_SIZE_UNITS

/-- Read `n` bytes of a side's staging ring from position `p`, or the failing granule. -/
def Dev.stageRead (d : Dev) (s p n : Nat) : (List Byte ⊕ Nat) × Dev :=
  let k := min n (d.stageSize s - p)
  let bad := (d.hbmBad (d.stageBase s + p) k).orElse (fun _ => d.hbmBad (d.stageBase s) (n - k))
  let (a, d) := d.hbmUnitRead (d.stageBase s + p) k
  let (b, d) := d.hbmUnitRead (d.stageBase s) (n - k)
  match a, b with
  | some a, some b => (.inl (a ++ b), d)
  | _, _ => (.inr (bad.getD (d.stageBase s + p)), d)

/-- A snapshot is skipped (R403). -/
def Dev.snapSkip (d : Dev) : Dev := d.mirCount Off.MIR_SKIPS 1

/-- Take the snapshot of a stream for a step: its bytes are copied into the staging ring of the context's side (R402, R403). -/
def Dev.takeSnap (d : Dev) (i step : Nat) : Dev :=
  let x := d.stream i
  let rs := d.snapRanges x
  let n := (rs.map (·.2)).foldl (· + ·) 0
  let room := d.stageSize x.side
  if (x.mirror ≠ 1 ∧ x.mirror ≠ 2) ∨ d.mirOn = false ∨ d.contained x.side = true then d
  else if room < d.stagedBytes x.side + n then d.snapSkip
  else
    let (got, d) := d.copyCtx x rs
    match got with
    | none => (d.hbmRecord 0x0A 8 0xFFFF 0 (d.ctxBad x rs)).snapSkip
    | some ps =>
      let pos := Tab.get 0 d.mir.stageAt x.side % room
      let d := d.ringWrite 8 (d.stageBase x.side) room pos (ps.flatMap (·.2))
      let d := d.setStream i { d.stream i with whole := false }
      d.setMir { d.mir with
        staged := d.mir.staged ++ [⟨i, step, x.side, n, pos, ps.map (fun p => (p.1, p.2.length))⟩]
        stageAt := Tab.set 0 d.mir.stageAt x.side ((pos + n) % room) }

/-- SNAPSHOT_COMPLETE: the oldest pending snapshot is staged or skipped, and its stream is free for the batcher again (R402, R403); one of a stream that
has been released meanwhile is given up. -/
def execSnapshotComplete (s : State) : Out :=
  onDev (fun d =>
    match d.mir.snapQ with
    | [] => d
    | (i, step) :: rest =>
      let d := d.setMir { d.mir with snapQ := rest }
      if (d.stream i).snapPend = false then d
      else
        let d := d.takeSnap i step
        d.setStream i { d.stream i with snapPend := rest.any (fun e => e.1 == i) }) s

/-! ### Received snapshots and acknowledgements (R404, R405, R413) -/

/-- A rejected frame or snapshot. -/
def Dev.mirReject (d : Dev) : Dev := d.mirCount Off.MIR_REJECTS 1

/-- The snapshot of a stream received so far. -/
def Dev.rx (d : Dev) (i : Nat) : Option Rx := Tab.get none d.mir.rx i
/-- Replace it. -/
def Dev.setRx (d : Dev) (i : Nat) (r : Option Rx) : Dev := d.setMir { d.mir with rx := Tab.set none d.mir.rx i r }

/-- A piece of a snapshot joins those of its stream and step; pieces of another step are given up. -/
def Dev.ctxData (d : Dev) (restore : Bool) (i step off : Nat) (bs : List Byte) : Dev :=
  if bs.length % 4 ≠ 0 ∨ 224 < bs.length then d.mirReject
  else match d.rx i with
    | some r =>
      if r.step = step ∧ r.restore = restore then d.setRx i (some { r with parts := r.parts ++ [(off, bs)] })
      else (d.setRx i (some ⟨step, restore, [(off, bs)]⟩)).mirReject
    | none => d.setRx i (some ⟨step, restore, [(off, bs)]⟩)

/-- Write the pieces of a snapshot into a context. -/
def Dev.writeCtx (d : Dev) (x : Stream) (ps : List (Nat × List Byte)) : Dev := d.each ps (fun d p => d.hbmUnitWrite 8 (x.ctxPtr + p.1) p.2)

/-- The end of a snapshot: it is applied whole to an image at or behind its step, or to a suspect stream that waits for its restore, and otherwise
rejected whole (R404, R413). -/
def Dev.ctxEnd (d : Dev) (i step total : Nat) : Dev :=
  let x := d.stream i
  match d.rx i with
  | none => d.mirReject
  | some r =>
    let d := d.setRx i none
    let fits := r.parts.all (fun p => decide (p.1 + p.2.length ≤ x.ctxSize))
    if r.step ≠ step ∨ piecesLen r.parts ≠ total ∨ fits = false ∨ d.contained x.side = true then d.mirReject
    else if r.restore then
      if x.state = 4 ∧ x.restoring.isSome = true then
        if x.release then d.setStream i x.freed
        else
          let d := d.writeCtx x r.parts
          let y := { x with state := 1, step := (step + 1) % 2 ^ 32, ackStep := step, restoring := none }
          (d.setStream i y).mirRecord 0x0A (some i) y.steps
      else d.mirReject
    else if x.state ≠ 0 ∧ x.mirror = 3 ∧ serialGE (wd step) (wd x.step) = true then
      let d := d.writeCtx x r.parts
      (d.setStream i { x with step := (step + 1) % 2 ^ 32 }).mirSend (.ack i step)
    else d.mirReject

/-- An ACK of one step (R405). -/
def Dev.mirAck (d : Dev) (i step : Nat) : Dev :=
  let x := d.stream i
  if x.state = 0 ∨ (x.mirror ≠ 1 ∧ x.mirror ≠ 2) ∨ serialGE (wd step) (wd x.ackStep) = false then d
  else
    let y := { x with ackStep := step }
    if y.lag = 0 ∧ y.mirror = 2 then (d.setStream i { y with mirror := 1 }).mirRecord 0x02 (some i) y.steps else d.setStream i y

/-! ### The partner (R399, R406, R407) -/

/-- The first HELLO on a bond Pane: the pair is formed, or the roles conflict (R399). -/
def Dev.pairCheck (d : Dev) (p peer : Nat) : Dev :=
  let role := d.role
  if role = 0 then d
  else if peer = 3 - role then
    let d := if d.partner = 0 then d.setPartner 1 else d
    d.setMir { d.mir with formed := true, hbSeen := if d.mir.formed then d.mir.hbSeen else d.tick, hbSent := if d.mir.formed then d.mir.hbSent else d.tick }
  else
    let d := d.setPane p { d.pane p with conflict := true }
    (d.setFld (mirb + Off.MIR_STATUS) Fl.MIR_STATUS_CONFLICT 1).mirRecord 0x05 none 0

/-- HEARTBEAT_SEND: a HEARTBEAT every 25,000 ticks while a pair is formed (R406). -/
def execHeartbeatSend (s : State) : Out :=
  onDev (fun d =>
    if d.mirOn = true ∧ d.mir.formed = true ∧ d.mir.hbSent + 25000 ≤ d.tick then
      let n := (d.mir.hbCount + 1) % 2 ^ 32
      (d.setMir { d.mir with hbCount := n, hbSent := d.tick }).mirSend (.heartbeat n)
    else d) s

/-- A HEARTBEAT received: the partner is ALIVE; a partner that returns is told which streams were adopted (R406, R407, R411). -/
def Dev.heartbeat (d : Dev) : Dev :=
  let d := d.setMir { d.mir with hbSeen := d.tick, hbMissed := d.tick }
  if d.partner = 2 then
    let names := d.mir.adopted
    let d := ((d.setPartner 1).mirRecord 0x04 none 0).setMir { d.mir with adopted := [], asking := false, queries := [], withheld := none }
    if names = [] then d else d.mirSend (.adoptedList names)
  else d.setPartner 1

/-- The panes to ask in an autonomous adoption: floor Panes that are UP with DUAL (R410). -/
def Dev.dualPanes (d : Dev) : List Nat :=
  (List.range 8).filter (fun p => !d.isBond p && d.paneUp p && d.fld (opt + Off.PANE_STATUS p) Fl.PANE_STATUS_DUAL == 1)

/-- Ask every dual-homed endpoint (R410 step 1). -/
def Dev.askPeers (d : Dev) : Dev :=
  let ps := d.dualPanes
  let d := d.each ps (fun d p => d.sendQuery p true)
  d.setMir { d.mir with queries := ps, answers := [], asking := true, withheld := none }

/-- Whether autonomous adoption is enabled. -/
def Dev.autoAdopt (d : Dev) : Bool := d.fld (mirb + Off.MIR_EXP) Fl.MIR_EXP_AUTO_ADOPT == 1

/-- PARTNER_LOST: 201,000 ticks, the last of them too, have passed without a heartbeat (R406, R407). -/
def execPartnerLost (s : State) : Out :=
  onDev (fun d =>
    if d.mirOn = false ∨ d.partner ≠ 1 ∨ d.tick ≤ d.mir.hbSeen + 201000 then d
    else
      let d := (d.setPartner 2).mirRecord 0x03 none 0
      let cut (x : Stream) : Stream := if x.mirror = 1 then { x with mirror := 2 } else x
      let d := d.each (d.streams.map (·.1)) (fun d i => d.setStream i (cut (d.stream i)))
      let d := d.setMir { d.mir with staged := [] }
      if d.autoAdopt then d.askPeers else d) s

/-! ### Adoption (R408–R412) -/

/-- Adopt one image: the status of R294, 0 where it is adopted (R408). -/
def Dev.adoptOne (d : Dev) (i : Nat) : Nat × Dev :=
  let x := d.stream i
  let y := { x with home := d.role - 1, mirror := 0, inWr := 0, inRd := 0, unacked := 0, relinquished := false, whole := true }
  let d0 := d.setStream i Stream.free
  let st := if d.fieldsOk y.bytes y = false ∨ d0.sourceOk y = false then 1 else d0.admitChecks false i y Stream.free
  let lost := d.partner = 2
  let take (d : Dev) (y : Stream) : Dev :=
    let d := d.setStream i y
    let d := if lost then d.setMir { d.mir with adopted := d.mir.adopted ++ [i] } else d
    d.mirRecord 0x06 (some i) y.steps
  if st = 0 then (0, take d y)
  else if 8 ≤ st then (0, (take d { y with be := true }).mirRecord 0x07 (some i) st)
  else (st, d.mirRecord 0x08 (some i) st)

/-- Whether a stream is an image here. -/
def Dev.isImage (d : Dev) (i : Nat) : Bool := (d.stream i).state != 0 && (d.stream i).mirror == 3

/-- Adopt every image in ascending order (R409). -/
def Dev.adoptAll (d : Dev) : Dev :=
  let ids := ((d.streams.filter (fun e => e.2.state != 0 && e.2.mirror == 3)).map (·.1))
  d.each ids (fun d i => (d.adoptOne i).2)

/-- The status of a mirror command. -/
def Dev.mirResult (d : Dev) (st : Nat) : Dev := d.setFld (mirb + Off.MIR_RESULT) Fl.MIR_RESULT_STATUS st

/-- A write of MIR_CMD: an adoption that R409 does not accept is refused with PARTNER_ALIVE, before anything else (R409, R416). -/
def Dev.mirCmd (d : Dev) (v : Word) : Dev :=
  let i := Fl.MIR_CMD_STREAM.get v
  let op := Fl.MIR_CMD_OP.get v
  if op = 0 ∨ 3 < op then d
  else match op with
    | 1 =>
      if d.partner ≠ 2 ∧ (d.isImage i = false ∨ (d.stream i).relinquished = false) then d.mirResult 1
      else if d.isImage i = false then d.mirResult 2
      else
        let (st, d) := d.adoptOne i
        d.mirResult (if st = 0 then 0 else 0x80 + st)
    | 2 => if d.partner ≠ 2 then d.mirResult 1 else d.adoptAll.mirResult 0
    | _ =>
      let x := d.stream i
      if d.role = 0 then d.mirResult 4
      else if x.state = 0 ∨ x.mirror ≠ 0 then d.mirResult 3
      else (d.setStream i { x with mirror := 2, whole := true }).mirResult 0

/-- AUTO_ADOPT_DECISION: every query has completed: adopt, or withhold (R410 steps 2 and 3). -/
def execAutoAdoptDecision (s : State) : Out :=
  onDev (fun d =>
    let m := d.mir
    if d.partner ≠ 2 ∨ d.autoAdopt = false ∨ m.asking = false ∨ m.queries ≠ [] then d
    else
      let d := d.setMir { m with asking := false }
      if m.answers ≠ [] ∧ m.answers.all (fun h => !h) = true then d.adoptAll
      else (d.setMir { d.mir with withheld := some d.tick }).mirRecord 0x09 none 0) s

/-- AUTO_ADOPT_RETRY: the queries are repeated every 1 s while the partner stays LOST (R410 step 3). -/
def execAutoAdoptRetry (s : State) : Out :=
  onDev (fun d =>
    match d.mir.withheld with
    | none => d
    | some t => if d.partner = 2 ∧ d.autoAdopt = true ∧ t + 25000000 ≤ d.tick then d.askPeers else d) s

/-- The partner names streams it adopted: each one still homed here is released (R411). -/
def Dev.adoptedList (d : Dev) (ids : List Nat) : Dev :=
  d.each ids (fun d i =>
    let x := d.stream i
    if x.state = 0 ∨ x.mirror = 3 then d
    else ((d.release i).2).mirRecord 0x0B (some i) x.steps)

/-- The partner has relinquished its home streams (R412). -/
def Dev.relinquished (d : Dev) (ids : List Nat) : Dev :=
  d.each ids (fun d i => if d.isImage i then d.setStream i { d.stream i with relinquished := true } else d)

/-- A RESTORE_REQ: the image is returned with the RESTORE flag, labelled with its STEP − 1 (R413). -/
def Dev.restoreReq (d : Dev) (i : Nat) : Dev :=
  let x := d.stream i
  if d.isImage i = false ∨ d.contained x.side = true then d
  else
    let rs := [(0, x.ctxSize)]
    let (got, d) := d.copyCtx x rs
    match got with
    | none => d.hbmRecord 0x0A 8 0xFFFF 0 (d.ctxBad x rs)
    | some ps => d.mirSend (.snap ⟨i, (x.step + 2 ^ 32 - 1) % 2 ^ 32, x.side, true, x.ctxSize, ps⟩)

/-- RESTORE_TIMEOUT: no image within 100 ms: the stream stays SUSPECT, for the handling of R516. -/
def execRestoreTimeout (i : Fin 1024) (s : State) : Out :=
  onDev (fun d =>
    let x := d.stream i.val
    match x.restoring with
    | none => d
    | some t =>
      if d.tick < t + 2500000 then d
      else if x.release then d.setStream i.val x.freed
      else (d.setStream i.val { x with restoring := none }).autoReset i.val 2) s

/-! ### Frames of the mirror channel (R414) -/

/-- What a MIRROR frame does. -/
def Dev.applyMir (d : Dev) : MirFrame → Dev
  | .heartbeat _ _ _ => d.heartbeat
  | .ctxData r i step off bs => d.ctxData r i.val step.toNat off bs
  | .ctxEnd i step total => d.ctxEnd i.val step.toNat total
  | .ack items => if items = [] ∨ 39 < items.length then d.mirReject else d.each items (fun d e => d.mirAck e.1.val e.2.toNat)
  | .pairWord items => if items = [] ∨ 29 < items.length then d.mirReject else d.each items (fun d e => d.imageApply e.cl.val ((e.word.val + 1) % 4096) e.val)
  | .restoreReq i => d.restoreReq i.val
  | .relinquish ids => if ids = [] ∨ 117 < ids.length then d.mirReject else d.relinquished (ids.map (·.val))
  | .adoptedList ids => if ids = [] ∨ 117 < ids.length then d.mirReject else d.adoptedList (ids.map (·.val))
  | .unlisted => d.mirReject

/-- The payload of a list of streams. -/
def idsPayload (kind : Nat) (ids : List Nat) : List Byte := natLE 1 kind ++ natLE 1 ids.length ++ ids.flatMap (fun i => natLE 2 i)

/-- The payload of a CTX_DATA frame (R414). -/
def ctxDataPayload (restore : Bool) (stream step off : Nat) (bs : List Byte) : List Byte :=
  natLE 1 2 ++ natLE 1 (b2n restore) ++ natLE 2 stream ++ natLE 4 step ++ natLE 4 off ++ natLE 4 0 ++ bs
/-- The payload of a CTX_END frame. -/
def ctxEndPayload (stream step total : Nat) : List Byte := natLE 1 3 ++ natLE 1 0 ++ natLE 2 stream ++ natLE 4 step ++ natLE 4 total

/-- The payload of the first frame of an image that is returned, with its rest, none after its CTX_END. -/
def Snap.frame (x : Snap) : List Byte × Option Snap :=
  match x.parts with
  | p :: rest => (ctxDataPayload x.restore x.stream x.step p.1 p.2, some { x with parts := rest })
  | [] => (ctxEndPayload x.stream x.step x.total, none)

/-- The next frame of the staged snapshots, in staging order; one whose staged bytes fail is skipped, with UNIT_UE, and so is one that a
contained side holds (R21, R404, R514). -/
def Dev.nextStaged : List Staged → Dev → Option (List Byte) × Dev
  | [], d => (none, d.setMir { d.mir with staged := [] })
  | x :: rest, d =>
    match x.parts with
    | [] => (some (ctxEndPayload x.stream x.step x.total), (d.setMir { d.mir with staged := rest }).mirCount Off.MIR_SNAPS 1)
    | (o, n) :: more =>
      if d.contained x.side then Dev.nextStaged rest d.snapSkip
      else
      let (got, d) := d.stageRead x.side x.pos n
      match got with
      | .inl bs =>
        (some (ctxDataPayload false x.stream x.step o bs),
          d.setMir { d.mir with staged := { x with parts := more, pos := (x.pos + n) % d.stageSize x.side } :: rest })
      | .inr bad => Dev.nextStaged rest (d.hbmRecord 0x0A 8 0xFFFF 0 bad).snapSkip

/-- Whether anything waits to be sent on the mirror channel. -/
def Dev.mirWaits (d : Dev) : Bool := !d.mir.out.isEmpty || !d.pairOut.isEmpty || !d.mir.staged.isEmpty

/-- The acknowledgements at the front of the messages. -/
def MirMsg.ackOf : MirMsg → Option (Nat × Nat)
  | .ack i s => some (i, s)
  | _ => none

/-- The next MIRROR payload and the device without it: messages first, then copied PAIR words, then staged snapshots in staging order (R404, R414). -/
def Dev.nextMir (d : Dev) : Option (List Byte) × Dev :=
  let m := d.mir
  match m.out with
  | .ack i st :: rest =>
    let more := ((rest.take 38).map MirMsg.ackOf).takeWhile Option.isSome
    let items := (i, st) :: more.filterMap id
    (some (natLE 1 4 ++ natLE 1 items.length ++ items.flatMap (fun e => natLE 2 e.1 ++ natLE 4 e.2)),
      d.setMir { m with out := rest.drop more.length })
  | .heartbeat n :: rest =>
    (some (natLE 1 1 ++ natLE 1 d.role ++ natLE 1 (b2n (d.partner == 1)) ++ natLE 1 0 ++ natLE 4 n), d.setMir { m with out := rest })
  | .snap x :: rest =>
    let (bs, more) := x.frame
    (some bs, d.setMir { m with out := (match more with | some y => [.snap y] | none => []) ++ rest })
  | .pairWord c w v :: rest =>
    (some (natLE 1 5 ++ natLE 1 1 ++ natLE 2 0 ++ natLE 1 c ++ natLE 1 0 ++ natLE 2 w ++ natLE 4 v.toNat), d.setMir { m with out := rest })
  | .restoreReq i :: rest => (some (natLE 1 6 ++ natLE 1 0 ++ natLE 2 i), d.setMir { m with out := rest })
  | .relinquish ids :: rest =>
    (some (idsPayload 7 (ids.take 117)), d.setMir { m with out := (if 117 < ids.length then [.relinquish (ids.drop 117)] else []) ++ rest })
  | .adoptedList ids :: rest =>
    (some (idsPayload 8 (ids.take 117)), d.setMir { m with out := (if 117 < ids.length then [.adoptedList (ids.drop 117)] else []) ++ rest })
  | [] =>
    match d.pairOut with
    | _ :: _ =>
      let items := d.pairOut.take 29
      (some (natLE 1 5 ++ natLE 1 items.length ++ natLE 2 0 ++ items.flatMap (fun e => natLE 1 e.1 ++ natLE 1 0 ++ natLE 2 e.2.1 ++ natLE 4 e.2.2.toNat)),
        { d with pairOut := d.pairOut.drop 29 })
    | [] => Dev.nextStaged m.staged d

/-! ### Registers (R416) -/

/-- A write to a register of the MIR block. -/
def Dev.mirWrite (d : Dev) (l : Nat) (v : Word) (plain : Dev → Dev) : Dev :=
  if l = Off.MIR_CFG then
    let held := d.streams.any (fun e => e.2.state != 0 && e.2.mirror == 1)
    let d' := plain d
    if Fl.MIR_CFG_EN.get v = 1 then d'
    else if held then d'.setFld (mirb + Off.MIR_CFG) Fl.MIR_CFG_EN (b2n d.mirEn)
    else d'
  else if l = Off.MIR_CMD then d.mirCmd v
  else if l = Off.MIR_CNT_CTRL then
    (if Fl.MIR_CNT_CTRL_CNT_CLR.on v then d.zero ([Off.MIR_SNAPS, Off.MIR_SKIPS, Off.MIR_REJECTS, Off.MIR_HB_MISSED].map (mirb + ·)) else d)
  else if 0x10 ≤ l ∧ l < 0x28 then (if d.mirEn then d else plain d)
  else plain d

/-- A read of a register of the MIR block that other state determines. -/
def Dev.mirView (d : Dev) (l : Nat) : Option Word :=
  if l = Off.MIR_UNMIRRORED then some (wd (d.streams.filter (fun e => e.2.state != 0 && e.2.mirror == 2)).length)
  else if l = Off.MIR_STATUS then some (Fl.MIR_STATUS_ROLE.put (d.reg (mirb + l)) d.role)
  else none

end Sys2Proof.Machine
end

