-- ==== Sys2Proof/Machine/Sha.lean ====
section
/-! DEFINITION. SHA-256 and HMAC-SHA-256, which the specification names and other standards define (FIPS 180-4, FIPS 198-1): image, report, record and checkpoint hashes, the tags of weighing frames and price blocks (R425, R429, R431, R432, R476, R481). -/

namespace Sys2Proof.Machine

/-- The greatest number below `2 ^ n + r` from `r` upwards whose `p`-th power is at most `v`: the root's binary digits from the highest down. -/
def rootFrom (p v : Nat) : Nat → Nat → Nat
  | 0, r => r
  | n + 1, r => rootFrom p v n (if (r + 2 ^ n) ^ p ≤ v then r + 2 ^ n else r)

/-- The first 32 bits of the fractional part of the `p`-th root of `m`: the root of `m · 2 ^ (32 p)`, its whole part left out. -/
def rootFrac (p m : Nat) : Word := wd (rootFrom p (m * 2 ^ (32 * p)) 37 0)

/-- The primes up to 311, the first 64 of them: no number from 2 to 17 but itself divides one. -/
def shaPrimes : List Nat :=
  (List.range 310).map (· + 2) |>.filter (fun m => (List.range 16).all (fun q => m == q + 2 || m % (q + 2) != 0))

/-- The 64 round constants: the cube roots of the first 64 primes. -/
def shaK : List Word := shaPrimes.map (rootFrac 3)

/-- The eight working words. -/
structure Sha where
  a : Word
  b : Word
  c : Word
  d : Word
  e : Word
  f : Word
  g : Word
  h : Word
  deriving DecidableEq, Repr

/-- The initial hash value: the square roots of the first eight primes. -/
def Sha.init : Sha :=
  let h (n : Nat) : Word := rootFrac 2 (shaPrimes.getD n 0)
  ⟨h 0, h 1, h 2, h 3, h 4, h 5, h 6, h 7⟩

/-- One round with a message word and its constant. -/
def Sha.round (s : Sha) (w k : Word) : Sha :=
  let s1 := s.e.rotateRight 6 ^^^ s.e.rotateRight 11 ^^^ s.e.rotateRight 25
  let ch := (s.e &&& s.f) ^^^ (~~~ s.e &&& s.g)
  let t1 := s.h + s1 + ch + k + w
  let s0 := s.a.rotateRight 2 ^^^ s.a.rotateRight 13 ^^^ s.a.rotateRight 22
  let t2 := s0 + ((s.a &&& s.b) ^^^ (s.a &&& s.c) ^^^ (s.b &&& s.c))
  ⟨t1 + t2, s.a, s.b, s.c, s.d + t1, s.e, s.f, s.g⟩

/-- The message schedule: the 16 words in force slide by one each round. -/
def shaNext (w : List Word) : List Word :=
  let x := w.getD 1 0
  let y := w.getD 14 0
  let s0 := x.rotateRight 7 ^^^ x.rotateRight 18 ^^^ (x >>> 3)
  let s1 := y.rotateRight 17 ^^^ y.rotateRight 19 ^^^ (y >>> 10)
  w.drop 1 ++ [w.getD 0 0 + s0 + w.getD 9 0 + s1]

/-- The 64 rounds of one block. -/
def Sha.rounds (s : Sha) (w : List Word) : List Word → Sha
  | [] => s
  | k :: ks => (s.round (w.getD 0 0) k).rounds (shaNext w) ks

/-- The big-endian number of bytes. -/
def beNat (bs : List Byte) : Nat := bs.foldl (fun n b => 256 * n + b.toNat) 0
/-- The `n` big-endian bytes of a number. -/
def natBE (n v : Nat) : List Byte := (natLE n v).reverse

/-- One block into the hash value. -/
def Sha.block (s : Sha) (bs : List Byte) : Sha :=
  let w := (List.range 16).map (fun i => wd (beNat ((bs.drop (4 * i)).take 4)))
  let r := s.rounds w shaK
  ⟨s.a + r.a, s.b + r.b, s.c + r.c, s.d + r.d, s.e + r.e, s.f + r.f, s.g + r.g, s.h + r.h⟩

/-- All blocks of a padded message. -/
def Sha.blocks : Nat → Sha → List Byte → Sha
  | 0, s, _ => s
  | n + 1, s, bs => if bs = [] then s else Sha.blocks n (s.block (bs.take 64)) (bs.drop 64)

/-- The padding of a message of `n` bytes. -/
def shaPad (n : Nat) : List Byte := 0x80 :: List.replicate ((119 - n % 64) % 64) 0 ++ natBE 8 (8 * n)

/-- The 32 bytes of SHA-256. -/
def sha256 (bs : List Byte) : List Byte :=
  let p := bs ++ shaPad bs.length
  let s := Sha.blocks (p.length / 64) Sha.init p
  [s.a, s.b, s.c, s.d, s.e, s.f, s.g, s.h].flatMap (fun w => natBE 4 w.toNat)

/-- The 32 bytes of HMAC-SHA-256 under a key. -/
def hmac256 (key bs : List Byte) : List Byte :=
  let k := if 64 < key.length then sha256 key else key
  let k := k ++ List.replicate (64 - k.length) 0
  sha256 (k.map (· ^^^ 0x5C) ++ sha256 (k.map (· ^^^ 0x36) ++ bs))

end Sys2Proof.Machine
end

