-- ==== Sys2Proof/Machine/BootBase.lean ====
section
/-! DEFINITION. What start-up shares with the host's commands: the boot flash, restarts, the step log, images and their checks, the calibration set, attestation (R468–R488). -/

namespace Sys2Proof.Machine

/-- The base of the BOOT block. -/
def bootb : Nat := Block.boot.base
/-- The base of the SEC block. -/
def secb : Nat := Block.sec.base
/-- The base of the PWR block. -/
def pwrb : Nat := Block.pwr.base
/-- The base of the SCH block. -/
def schb : Nat := Block.sch.base

/-! ### The flash (R468) -/

/-- The 16 bytes of a record of the step log (R473). -/
def StepRec.bytes (r : StepRec) : List Byte :=
  let b := natLE 4 r.seq ++ natLE 4 r.count ++ natLE 1 r.step ++ natLE 1 r.kind ++ natLE 1 (r.sides + 16 * r.reason) ++ natLE 1 0
  b ++ natLE 4 (crc32 b).toNat

/-- Byte `o` of the step log's region: the record with sequence number n lies in place n of the 61,440, and a place without a record is erased (R473). -/
def stepLogByte (log : List StepRec) (o : Nat) : Byte :=
  match log.find? (fun r => r.seq % 61440 == o / 16) with
  | some r => r.bytes.getD (o % 16) 0
  | none => 0xFF

/-- One byte of the flash: the regions that the Hinge writes hold the repair list, the saved training values of each side once a fresh training has
rewritten them, and the step log; the others what was programmed last (R468). -/
def Dev.flashByte (d : Dev) (a : Nat) : Byte :=
  let side := (a - 0x1470000) / 0x80000
  if 0x1460000 ≤ a ∧ a < 0x1470000 then Config.repairByte d.repair (a - 0x1460000)
  else if 0x1470000 ≤ a ∧ a < 0x1570000 ∧ Tab.get 0 d.boot.trained side ≠ 0 then Config.trainByte (Tab.get 0 d.boot.trained side) ((a - 0x1470000) % 0x80000)
  else if 0x1580000 ≤ a ∧ a < 0x1670000 then stepLogByte d.boot.log (a - 0x1580000)
  else (Tab.get none d.flash a).getD (Config.flashByte a)
/-- `n` bytes of the flash from `a`. -/
def Dev.flashRead (d : Dev) (a : Nat) : Nat → List Byte
  | 0 => []
  | n + 1 => d.flashByte a :: d.flashRead (a + 1) n
/-- Program bytes. -/
def Dev.flashWrite (d : Dev) (a : Nat) : List Byte → Dev
  | [] => d
  | b :: bs => Dev.flashWrite { d with flash := Tab.set none d.flash a (some b) } (a + 1) bs
/-- A little-endian number of the flash. -/
def Dev.flashAt (d : Dev) (a n : Nat) : Nat := leNat (d.flashRead a n)

/-- The first byte of an image slot. -/
def slotBase (slot : Nat) : Nat := 0x20000 + slot * 0x800000
/-- Erase an image slot: an erased byte reads 0xFF. -/
def Dev.slotErase (d : Dev) (slot : Nat) : Dev := d.flashWrite (slotBase slot) (List.replicate 0x800000 0xFF)

/-- Whether a copy of the NVM header is good (R469). -/
def Dev.nvmOk (d : Dev) (copy : Nat) : Bool :=
  let a := copy * 0x10000
  d.flashRead a 4 == [0x4E, 0x56, 0x4D, 0x31] && crc32 (d.flashRead a 60) == BitVec.ofNat 32 (d.flashAt (a + 60) 4)

/-- Make both copies of the header name a slot (R479). -/
def Dev.nameSlot (d : Dev) (slot : Nat) : Dev :=
  d.each [0, 1] (fun d copy =>
    let a := copy * 0x10000
    let d := d.flashWrite (a + 5) (natLE 1 slot)
    d.flashWrite (a + 60) (natLE 4 (crc32 (d.flashRead a 60)).toNat))

/-! ### Images (R476, R477) -/

/-- F, the blown anti-rollback fuses. -/
def Dev.fuses (d : Dev) : Nat := d.fld (secb + Off.SEC_STATUS) Fl.SEC_STATUS_FUSES
/-- The running slot. -/
def Dev.bootSlot (d : Dev) : Nat := d.fld (bootb + Off.BOOT_STATUS) Fl.BOOT_STATUS_SLOT

/-- The first check of R477 that the image of a slot fails, 0 for none. -/
def Dev.imageCheck (d : Dev) (slot : Nat) : Nat :=
  let a := slotBase slot
  let f (o n : Nat) : List Byte := d.flashRead (a + o) n
  let len := d.flashAt (a + 20) 4
  if f 0 4 ≠ [0x48, 0x4E, 0x47, 0x31] ∨ 8372224 < len then 1
  else if BitVec.ofNat 256 (beNat (sha256 (f 56 384))) ≠ Config.rsaKeyHash then 2
  else if BitVec.ofNat 256 (beNat (sha256 (f 440 32))) ≠ Config.slhKeyHash then 3
  else if Config.rsaVerify (f 56 384) (f 0 472) (f 472 384) = false then 4
  else if Config.slhVerify (f 440 32) (f 0 472) (f 856 7856) = false then 5
  else if sha256 (f 16384 len) ≠ f 24 32 then 6
  else if d.flashAt (a + 8) 1 < d.fuses then 7
  else 0

/-- A record of class BOOT or SEC (R487). -/
def Dev.bootRecord (d : Dev) (cls code step sides det : Nat) : Dev := d.emit { cls := cls, code := code, src := 0, obj := step + sides * 16, detail := det }

/-- The record of a refused image. -/
def Dev.imageRefused (d : Dev) (c : Nat) : Dev := d.bootRecord kSEC (if c = 7 then 0x04 else 0x03) 0 0 c

/-! ### The step log (R473) -/

/-- Add a record; the log keeps 239 sectors of 256 records, since the sector ahead is erased. -/
def Dev.logStep (d : Dev) (step kind sides reason : Nat) : Dev :=
  let seq := match d.boot.log with
    | r :: _ => (r.seq + 1) % 2 ^ 32
    | [] => 0
  let r : StepRec := ⟨seq, (d.reg (bootb + Off.BOOT_COUNT)).toNat, step, kind, sides, reason⟩
  { d with boot := { d.boot with log := (r :: d.boot.log).take 61184 } }

/-! ### Restarts (R29, R471, R475, R488, R512) -/

/-- The registers that outlive a restart: the mailbox window, the log's positions, the start count, the marks, BOOT_EXP. -/
def outlives (o : Nat) : Bool :=
  (decide (Block.bolt.base ≤ o) && decide (o < Block.bolt.base + 0x1000))
    || [Block.tel.base + Off.TEL_LOG_HEAD, Block.tel.base + Off.TEL_LOG_TAIL, bootb + Off.BOOT_COUNT, bootb + Off.BOOT_MARKS, bootb + Off.BOOT_EXP].contains o

/-- The device at BS01: every register and every table is as after reset, but for what lives in the flash, in the fuses, in the Bolt, in the host and
in the record log, and for the light on the fibres. The ticks of the always-on domain go on, for its power has not failed (R491). -/
def Dev.restarted (d : Dev) : Dev :=
  let r : Dev := { Dev.atReset with
    tick := d.tick
    regs := d.regs.filter (fun e => outlives e.1), host := d.host, flash := d.flash, repair := d.repair, weighQ := d.weighQ, weighBind := d.weighBind, lit := d.lit,
    answer := d.answer, fresh := d.fresh, tel := { Tel.fresh with log := d.tel.log }, boot := { Boot.fresh with log := d.boot.log, cleared := d.boot.cleared, trained := d.boot.trained } }
  let r := r.setFld (secb + Off.SEC_STATUS) Fl.SEC_STATUS_FUSES d.fuses
  r.setDom shBolt (d.dom shBolt)

/-- A set of sides as bits. -/
def sideMask (sides : List Nat) : Nat := (sides.map (2 ^ ·)).foldl (· + ·) 0

/-- A reset by PERST_N or DEV_RESET: the step in progress ends INTERRUPTED, for the sides that have not ended it (R475). -/
def Dev.restart (d : Dev) : Dev :=
  (match d.boot.begun with
    | some n => d.logStep n 6 (sideMask d.boot.left) 0
    | none => d).restarted

/-- A loss of power: the step in progress has no END, the log is cleared, and every count begins again (R475, R491, R512). -/
def Dev.powerCycle (d : Dev) : Dev :=
  let r := d.restarted
  let r := { r with tel := Tel.fresh, tick := 0 }
  (r.setReg (Block.tel.base + Off.TEL_LOG_HEAD) 0).setReg (Block.tel.base + Off.TEL_LOG_TAIL) 0

/-- Clear marks: those in force, and those that this start's log would set at the next one (R474, R479). -/
def Dev.clearMarks (d : Dev) (m : Word) : Dev :=
  let o := bootb + Off.BOOT_MARKS
  { d with boot := { d.boot with cleared := d.boot.cleared ||| m } }.setReg o (d.reg o &&& ~~~ m)

/-- BOOT_CTRL.RETRY clears every mark (R474, R489). -/
def Dev.bootRetry (d : Dev) : Dev := d.clearMarks 0xFFFFFFFF

/-! ### The calibration set (R484, R485) -/

/-- The first byte of a function's entry. -/
def calBase (f : Nat) : Nat := 0x1420000 + 4096 * f

/-- The check of an entry's 4 KiB for a function: 0 OK, 1 function mismatch, 2 CRC; a length beyond its data counts with the function field. -/
def calCheck (f : Nat) (bs : List Byte) : Nat :=
  if leAt bs 0 4 ≠ f ∨ 4084 < leAt bs 4 4 then 1
  else if crc32 (bs.take 4092) ≠ BitVec.ofNat 32 (leAt bs 4092 4) then 2
  else 0

/-- The bytes of CAL_BUF. -/
def Dev.calBuf (d : Dev) : List Byte := (List.range 1024).flatMap (fun i => natLE 4 (d.reg (bootb + Off.CAL_BUF i)).toNat)

/-- Set CAL_STATUS.RESULT. -/
def Dev.calResult (d : Dev) (r : Nat) : Dev := d.setFld (bootb + Off.CAL_STATUS) Fl.CAL_STATUS_RESULT r

/-- CAL_CMD READ; `ok` is whether the flash answered. -/
def Dev.calRead (d : Dev) (f : Nat) (ok : Bool) : Dev :=
  if ok = false then d.calResult 3
  else
    let bs := d.flashRead (calBase f) 4096
    (d.each (List.range 1024) (fun d i => d.setReg (bootb + Off.CAL_BUF i) (wd (leAt bs (4 * i) 4)))).calResult 0

/-- CAL_CMD WRITE: the buffer is checked and committed (R485). -/
def Dev.calWrite (d : Dev) (f : Nat) (ok : Bool) : Dev :=
  let bs := d.calBuf
  let c := calCheck f bs
  if c ≠ 0 then d.calResult c
  else if ok = false then d.calResult 3
  else ((d.flashWrite (calBase f) bs).calResult 0).bootRecord kBOOT 0x09 0 0 f

/-- A write of CAL_CMD: function 7 and operations 0 and 3 are ignored (R489). -/
def Dev.calCmd (d : Dev) (v : Word) (ok : Bool) : Dev :=
  let f := Fl.CAL_CMD_FUNC.get v
  if f = 7 then d
  else match Fl.CAL_CMD_OP.get v with
    | 1 => d.calRead f ok
    | 2 => d.calWrite f ok
    | _ => d

/-! ### Attestation (R481) -/

/-- Whether some block has EXPERT_EN set. -/
def Dev.anyExpert (d : Dev) : Bool :=
  let bs := [Block.pwr, .boot, .hif, .apg, .fin, .opt, .mir, .sch, .tel] ++ (List.range 8).flatMap (fun n => [Block.apt n, Block.vpt n])
    ++ (List.range 2).flatMap (fun s => [Block.hbm s, Block.mesh s, Block.sc s]) ++ (List.range 32).flatMap (fun c => [Block.latch c, Block.seq c])
  bs.any (fun b => (d.reg (b.base + 0x8000)).getLsbD 0) || (List.range 512).any (fun k => ((d.core k).reg Off.EXPERT_EN).getLsbD 0)

/-- Whether a configuration record is skipped (R482). -/
def cfgBarred (o : Nat) : Bool :=
  decide (0x300000 ≤ o ∧ o < 0x400000) || decide (0xE00000 ≤ o ∧ o < 0xE01000)
    || [schb + Off.ST_CMD, schb + Off.JOB_CMD, Block.gctl.base + Off.EP_CTRL, mirb + Off.MIR_CMD].contains o
    || (List.range 32).any (fun c => o == (Block.latch c).base + Off.LH_CMD)

/-- The first 192 bytes of a report: the regions of the flash are as this start found them, and the configuration records those that it applied (R481,
R482, R483). -/
def Dev.reportHead (d : Dev) : List Byte :=
  let f : Dev := { d with flash := d.boot.flash0 }
  let a := slotBase d.bootSlot
  let applied := (List.range (f.flashAt 0x1020000 4)).filter (fun i => !cfgBarred (f.flashAt (0x1020008 + 8 * i) 4))
  let cfg := if (d.reg (bootb + Off.BOOT_OUTCOME)).getLsbD 13 then [] else applied.flatMap (fun i => f.flashRead (0x1020008 + 8 * i) 8)
  natLE 4 1 ++ natLE 8 Config.deviceId.toNat ++ natLE 4 (d.reg (bootb + Off.BOOT_COUNT)).toNat
    ++ natLE 1 d.bootSlot ++ natLE 1 (d.fld (secb + Off.SEC_STATUS) Fl.SEC_STATUS_SVN) ++ natLE 1 d.fuses ++ natLE 1 d.role
    ++ natLE 4 (d.reg (bootb + Off.BOOT_OUTCOME)).toNat ++ natLE 4 (d.reg (secb + Off.SEC_LOCK0)).toNat ++ natLE 4 (d.reg (secb + Off.SEC_LOCK1)).toNat
    ++ sha256 (f.flashRead a (16384 + f.flashAt (a + 20) 4)) ++ sha256 cfg ++ sha256 (f.flashRead 0x1420000 0x40000)
    ++ (List.range 8).flatMap (fun i => natLE 4 (d.reg (secb + Off.SEC_NONCE i)).toNat) ++ natLE 1 (b2n d.anyExpert) ++ List.replicate 31 0

/-- The whole report, signed with both identity keys. -/
def Dev.report (d : Dev) : List Byte :=
  let h := d.reportHead
  h ++ natBE 384 (Config.rsaSign h).toNat ++ natBE 7856 (Config.slhSign h).toNat

/-- An operation of SEC_CTRL begins (R481, R490). -/
def Dev.secStart (d : Dev) (op : Nat) : Dev :=
  if d.fld (secb + Off.SEC_STATUS) Fl.SEC_STATUS_BUSY = 1 ∨ d.fld (secb + Off.SEC_STATUS) Fl.SEC_STATUS_ID_DOWN = 1 ∨ op = 0 ∨ op = 3 then d
  else { d.setFld (secb + Off.SEC_STATUS) Fl.SEC_STATUS_BUSY 1 with secOp := op }

/-- ATTEST_DONE: the report, or the certificate chain, stands in SEC_REPORT (R481). -/
def execAttestDone (s : State) : Out :=
  onDev (fun d =>
    if d.secOp = 0 then d
    else
      let bs := (if d.secOp = 1 then d.report else Config.certChain).take 16384
      let d := d.each (List.range ((bs.length + 3) / 4)) (fun d i => d.setReg (secb + Off.SEC_REPORT i) (wd (leAt bs (4 * i) 4)))
      let d := d.setFld (secb + Off.SEC_STATUS) Fl.SEC_STATUS_BUSY 0
      ({ d with secOp := 0 }.setReg (secb + Off.SEC_REPORT_LEN) (wd bs.length)).bootRecord kSEC 0x06 0 0 0) s

end Sys2Proof.Machine
end

