-- ==== Sys2Proof/Machine/Optics.lean ====
section
/-! DEFINITION. Casements, Panes and the Maelqua link format (R377–R397). -/

namespace Sys2Proof.Machine

/-! ### Casements (R380–R382) -/

/-- STATE of a Casement: 0 DARK, 1 TUNING, 2 LIT. -/
def Dev.caseState (d : Dev) (k : Nat) : Nat := d.fld (opt + Off.CASE_STATUS k) Fl.CASE_STATUS_STATE
/-- Set a field of CASE_STATUS. -/
def Dev.setCase (d : Dev) (k : Nat) (f : Fld) (v : Nat) : Dev := d.setFld (opt + Off.CASE_STATUS k) f v
/-- The Panes of a Casement. -/
def casePanes (k : Nat) : List Nat := [4 * k, 4 * k + 1, 4 * k + 2, 4 * k + 3]

/-- A DARK Pane of a LIT Casement with EN becomes LIT (R380). -/
def Dev.paneLight (d : Dev) (p : Nat) : Dev :=
  if d.paneState p = 0 ∧ d.paneEn p = true ∧ d.caseState (p / 4) = 2 then (d.setPaneState p 1).setPane p { d.pane p with since := d.tick } else d

/-- The Casement goes DARK with its Panes (R380, R381). -/
def Dev.caseDark (d : Dev) (k : Nat) : Dev :=
  let d := d.setCase k Fl.CASE_STATUS_STATE 0
  d.each (casePanes k) (fun d p => if d.paneState p = 0 ∧ d.leftNow p = false then d else d.paneLeave p 0 1)

/-- The Casement begins to tune where its Shutter is ON and light arrives. -/
def Dev.caseTune (d : Dev) (k : Nat) : Dev :=
  if d.caseState k = 0 ∧ d.boot.down.contains (3 + k) = false ∧ d.domOn (shCase k) = true ∧ d.fld (opt + Off.CASE_STATUS k) Fl.CASE_STATUS_LIGHT = 1 then d.setCase k Fl.CASE_STATUS_STATE 1 else d

/-- A Casement whose Shutter is ON shows whether light arrives on fibre 9; with light it tunes every ring (R35, R380). -/
def Dev.caseLight (d : Dev) (k : Nat) : Dev := (d.setCase k Fl.CASE_STATUS_LIGHT (b2n (d.lit.contains k))).caseTune k

/-- LIGHT_ARRIVE: light arrives on fibre 9; a Casement whose Shutter is not ON shows it once it is (R35, R380). -/
def execLightArrive (k : Fin 2) (s : State) : Out :=
  onDev (fun d =>
    let d := { d with lit := k.val :: d.lit.filter (· != k.val) }
    if d.domOn (shCase k) then d.caseLight k else d) s

/-- CASEMENT_LIT: tuning has completed (R380). `margin` is the smallest heater margin of any ring, in % of range. -/
def execCasementLit (k : Fin 2) (margin : BitVec 8) (s : State) : Out :=
  onDev (fun d =>
    if d.caseState k.val ≠ 1 then d
    else
      let d := (d.setCase k.val Fl.CASE_STATUS_STATE 2).setCase k.val Fl.CASE_STATUS_MARGIN margin.toNat
      d.each (casePanes k.val) Dev.paneLight) s

/-- LASER_LOSS: light is lost on fibre 9, and all four Panes go DARK in the same tick (R381 reason 1). -/
def execLaserLoss (k : Fin 2) (s : State) : Out :=
  onDev (fun d =>
    let d := { d with lit := d.lit.filter (· != k.val) }
    if d.domOn (shCase k) = false ∨ d.fld (opt + Off.CASE_STATUS k.val) Fl.CASE_STATUS_LIGHT = 0 then d
    else ((d.setCase k.val Fl.CASE_STATUS_LIGHT 0).caseDark k.val).linkRecord 0x03 (4 * k.val) 0 0 0) s

/-- RING_TUNE_STEP: the heater of the ring of Pane `4 k + i` has moved by at most one step (R382). `margin` is its distance from the nearer end of
its range, `least` the smallest of the Casement, both in % of range; RING_LIMIT is recorded as the heater comes within 2 %. -/
def execRingTuneStep (k : Fin 2) (i : Fin 4) (margin least : BitVec 8) (s : State) : Out :=
  onDev (fun d =>
    let p := 4 * k.val + i.val
    if d.caseState k.val ≠ 2 ∨ (d.fld (opt + Off.OPT_EXP) Fl.OPT_EXP_TUNE_HOLD).testBit k.val = true then d
    else
      let was := (d.pane p).near
      let d := (d.setCase k.val Fl.CASE_STATUS_MARGIN least.toNat).setPane p { d.pane p with near := decide (margin.toNat ≤ 2) }
      if 2 < margin.toNat ∨ was = true then d
      else (if 2 ≤ d.paneState p ∨ d.leftNow p = true then d.paneLeave p 1 5 else d).linkRecord 0x04 p 0 0 0) s

/-! ### Bring-up (R380, R381) -/

/-- PANE_RX_LOCK: the receiver has locked with a low error ratio (R380). -/
def execPaneRxLock (p : Fin 8) (s : State) : Out :=
  onDev (fun d => if d.paneState p.val = 1 then (d.setPaneState p.val 2).setPane p.val { d.pane p.val with good := 0, bad := 0, uncors := [], since := d.tick } else d) s

/-- RECEIVER_LOCK_LOSS (R381 reason 2). -/
def execReceiverLockLoss (p : Fin 8) (s : State) : Out := onDev (fun d => if 2 ≤ d.paneState p.val ∨ d.leftNow p.val = true then d.paneLeave p.val 1 2 else d) s

/-- The device ID (R391). -/
def ownId : Nat := Config.deviceId.toNat

/-- The HELLO of this device: its ID, its role, DUAL 0, and 64 audio channels each way. -/
def Dev.helloBytes (d : Dev) : List Byte :=
  natLE 1 1 ++ natLE 8 ownId ++ natLE 1 (if d.role = 0 then 3 else d.role) ++ natLE 1 0 ++ natLE 1 64 ++ natLE 1 64

/-- HELLO_SEND: in ALIGN a HELLO is due every 100 µs (R380). -/
def execHelloSend (p : Fin 8) (s : State) : Out :=
  onDev (fun d =>
    let x := d.pane p.val
    let due := match x.helloAt with
      | none => true
      | some t => decide (t + 2500 ≤ d.tick)
    if d.paneState p.val = 3 ∧ due = true then d.setPane p.val { x with helloAt := some d.tick, ctl := x.ctl ++ [d.helloBytes] } else d) s

/-- HELLO_TIMEOUT: no valid HELLO within 10 ms of ALIGN (R381 reason 4). -/
def execHelloTimeout (p : Fin 8) (s : State) : Out :=
  onDev (fun d =>
    let x := d.pane p.val
    if d.paneState p.val = 3 ∧ x.gotHello = false ∧ x.since + 250000 ≤ d.tick then d.paneLeave p.val 2 4 else d) s

/-- The credited channels of a Pane that some unit binds (R390). -/
def Dev.credited (d : Dev) (p : Nat) : List (Nat × Nat) :=
  (tCONTROL, 0) :: (d.weighBind.filter (fun e => e.1 == p)).map (fun e => (tWEIGH, e.2))
    ++ ((List.range 64).filterMap (fun c =>
        let v := d.fld (Block.fin.base + Off.CAM_SRC c) Fl.CAM_SRC_ID % 2 ^ 15
        if v / 4096 = p ∧ d.chanCamera p (v % 4096) = some c then some (tVIDEO, v % 4096) else none))
    ++ (if d.chanBound p tMIRROR 0 then [(tMIRROR, 0)] else [])

/-- Update a channel. -/
def Dev.onChan (d : Dev) (k : Nat) (f : Chan → Chan) : Dev := d.setChan k (f (d.chan k))

/-- A Pane in ALIGN comes UP once both HELLOs are known (R380). -/
def Dev.paneRise (d : Dev) (p : Nat) : Dev :=
  let x := d.pane p
  if d.paneState p = 3 ∧ x.gotHello = true ∧ x.acked = true then
    let d := (d.setPaneState p 4).setPane p { x with since := d.tick, helloAt := none, audioAt := none, ctl := x.ctl.filter (fun b => b.head? != some 1) }
    let d := d.each (d.credited p) (fun d e => d.onChan (d.chanKey p e.1 e.2) (fun c => { c with credOwed := true }))
    let id := d.reg64 (opt + Off.PANE_PEER_LO p) (opt + Off.PANE_PEER_HI p)
    (d.linkRecord 0x01 p 0 0 id).checkBond p
  else d

/-! ### Receiving (R383–R390) -/

/-- Whether a Pane receives frames. -/
def Dev.receives (d : Dev) (p : Nat) : Bool := decide (2 ≤ d.paneState p) && !d.panePrbs p

/-- A frame with a good CRC has arrived: eight in a row at one alignment reach ALIGN (R380, R396). -/
def Dev.frameIn (d : Dev) (p corr : Nat) : Dev :=
  let d := (d.paneCount p (Off.FRAMES_RX p) 1).paneCount p (Off.FEC_CORR p) corr
  let x := d.pane p
  if d.paneState p = 2 ∧ 8 ≤ x.good + 1 then
    (d.setPaneState p 3).setPane p { x with good := x.good + 1, bad := 0, since := d.tick, helloAt := none, gotHello := false, acked := false }
  else d.setPane p { x with good := x.good + 1, bad := 0 }

/-- FRAME_CRC_FAIL: a received frame fails its CRC and is discarded (R384); `uncor` uncorrectable codewords and `corr` corrected symbols came with it.
Eight in a row, or more than 64 uncorrectable codewords within 1 ms, take the Pane to LOCK (R381 reason 3). A Pane in LOCK under PRBS31 counts symbol errors only. -/
def execFrameCrcFail (p : Fin 8) (uncor corr : Nat) (s : State) : Out :=
  onDev (fun d =>
    let p := p.val
    if d.paneState p < 2 then d
    else if d.panePrbs p = true ∧ d.paneState p = 2 then d.paneCount p (Off.FEC_CORR p) corr
    else
      let d := (((d.paneCount p (Off.FRAMES_RX p) 1).paneCount p (Off.CRC_ERR p) 1).paneCount p (Off.FEC_CORR p) corr).paneCount p (Off.FEC_UNCORR p) uncor
      let x := d.pane p
      let us := (x.uncors.filter (fun t => decide (d.tick < t + 25000)) ++ List.replicate uncor d.tick)
      let d := d.setPane p { x with good := 0, bad := x.bad + 1, uncors := us.drop (us.length - 65) }
      if 8 ≤ x.bad + 1 ∨ 64 < us.length then (if d.paneState p = 2 ∧ d.leftNow p = false then d.setPane p { d.pane p with bad := 0, uncors := [] } else d.paneLeave p 2 3) else d) s

/-- Count a discarded frame (R384). -/
def Dev.dropped (d : Dev) (p : Nat) : Dev := d.paneCount p (Off.DROPS p) 1

/-- The acknowledgement and credit fields of a frame act on its channel (R389, R390). -/
def Dev.fieldsIn (d : Dev) (p ty ch : Nat) (h : Hdr) : Dev :=
  let c := d.chan (d.chanKey p ty ch)
  let after := c.kept.filter (fun k => !(seqPast h.ack.toNat k.seq))
  let c := if h.ackV then
      { c with kept := after, resend := if h.nak then after.map (·.seq) else c.resend.filter (fun q => after.any (fun k => k.seq == q)) }
    else c
  let c := if h.credV then
      { c with credIn := some h.cred.toNat, starved := if seqPast h.cred.toNat c.next then none else c.starved,
               noted := if seqPast h.cred.toNat c.next then false else c.noted }
    else c
  d.setChan (d.chanKey p ty ch) c

/-- One frame accepted on a channel; a credited one's limit has advanced (R390). -/
def Chan.took (c : Chan) (credited : Bool) (seq : Nat) : Chan :=
  let n := c.credN + b2n credited
  { c with expect := (seq + 1) % 65536, nakAt := none, credN := n, credOwed := c.credOwed || decide (8 ≤ n) }

/-- A frame of an unreliable channel: whether it is accepted (R388). -/
def Dev.acceptLoose (d : Dev) (p ty ch seq : Nat) : Bool × Dev :=
  let k := d.chanKey p ty ch
  let c := d.chan k
  if seqPast seq c.expect then
    let d := d.paneCount p (Off.SEQ_GAP p) ((seq + 65536 - c.expect) % 65536)
    (true, d.setChan k (c.took (ty == tVIDEO) seq))
  else (false, d)

/-- A frame of a reliable channel: whether it is accepted (R389). -/
def Dev.acceptStrict (d : Dev) (p ty ch seq : Nat) : Bool × Dev :=
  let k := d.chanKey p ty ch
  let c := d.chan k
  if seq = c.expect then (true, d.setChan k { c.took true seq with ackOwed := true })
  else if seqPast seq c.expect then
    (false, if c.nakAt.isNone then d.setChan k { c with nakOwed := true, nakAt := some d.tick } else d)
  else (false, d.setChan k { c with ackOwed := true })

/-- The common course of a frame with content for a channel: it is counted, and dropped where no unit binds its channel; in UP, where its sequence number
is accepted, its fields act and its content does `f`; the fields of a discarded frame are not used (R384, R388, R389). -/
def Dev.contentIn (d : Dev) (p ty ch : Nat) (h : Hdr) (f : Dev → Dev) : Dev :=
  if d.receives p = false then d
  else
    let d := d.frameIn p h.corr
    if d.chanBound p ty ch = false then d.dropped p
    else if d.paneUp p = false then d
    else
      let (ok, d) := if ty = tAUDIO ∨ ty = tVIDEO then d.acceptLoose p ty ch h.seq.toNat else d.acceptStrict p ty ch h.seq.toNat
      if ok then f (d.fieldsIn p ty ch h) else d

/-- The playback slots that play an audio channel of a Pane (R341, SRC 2). -/
def Dev.floorPlayers (d : Dev) (p ch : Nat) : List (Nat × Nat) :=
  ((List.range 16).flatMap (fun u => (List.range (if u < 8 then 32 else 64)).map (fun s => (u, s)))).filter (fun e => d.playsFrom e.1 e.2 2 (p * 64 + ch))

/-- A sample of a floor channel joins the playback rings that it feeds; what finds no room is dropped and counted (R341, R343). -/
def Dev.floorPlay (d : Dev) (p ch : Nat) (x : BitVec 24) : Dev :=
  d.each (d.floorPlayers p ch) (fun d e =>
    let r := d.playPut e.1 e.2 (capBytes 24 (d.pbWidth e.1 e.2) (x.setWidth 32 <<< 8))
    if r.1 then r.2 else r.2.dropped p)

/-- AUDIO_FRAME_RX: each sample joins the playback rings that its channel feeds, and enters the frame of the Pane's virtual port that the counter
names, unless that frame is written already (R341, R355, R387). -/
def execAudioFrameRx (p : Fin 8) (ch : Fin 4096) (h : Hdr) (count : BitVec 48) (f : Fin 64) (xs : List (BitVec 24)) (s : State) : Out :=
  onDev (fun d =>
    d.contentIn p.val tAUDIO ch.val h (fun d =>
      let u := 8 + p.val
      let samples := (List.range xs.length).map (fun j => (f.val + j, xs.getD j 0))
      if xs = [] ∨ 64 < f.val + xs.length then d
      else
        let d := d.each samples (fun d e => d.floorPlay p.val e.1 e.2)
        if d.unitRuns u = false then d
        else d.each samples (fun d e =>
          let a := d.aslot u e.1
          if count.toNat < a.nextCap then d
          else d.setAslot u e.1 { a with arrived := Tab.set none a.arrived count.toNat (some (e.2.setWidth 32 <<< 8)) }))) s

/-- VIDEO_FRAME_RX: the bytes enter the bitstream ring of the channel's camera, or are dropped and counted (R364, R388). -/
def execVideoFrameRx (p : Fin 8) (ch : Fin 4096) (h : Hdr) (bytes : List Byte) (s : State) : Out :=
  onDev (fun d =>
    d.contentIn p.val tVIDEO ch.val h (fun d =>
      match d.chanCamera p.val ch.val with
      | some c =>
        let r := d.bsPut c bytes
        if r.1 then r.2 else r.2.dropped p.val
      | none => d)) s

/-- WEIGH_FRAME_RX: the payload joins the Bolt's queue whole (R387, R28). -/
def execWeighFrameRx (p : Fin 8) (ch : Fin 4096) (h : Hdr) (bytes : List Byte) (s : State) : Out :=
  onDev (fun d => d.contentIn p.val tWEIGH ch.val h (fun d => { d with weighQ := d.weighQ ++ [⟨p.val, ch.val, bytes⟩] })) s

/-- IDLE_FRAME_RX: the fields of an IDLE frame act on the channel that its CHANNEL field names (R383). -/
def execIdleFrameRx (p : Fin 8) (ty : Fin 8) (ch : Fin 4096) (h : Hdr) (s : State) : Out :=
  onDev (fun d =>
    if d.receives p.val = false then d
    else
      let d := d.frameIn p.val h.corr
      if d.paneUp p.val = true ∧ (h.ackV = true ∨ h.credV = true) ∧ d.chanBound p.val ty.val ch.val = true then d.fieldsIn p.val ty.val ch.val h else d) s

/-- NAK_REPEAT: 20 µs without the expected SEQ allow another NAK (R389). -/
def execNakRepeat (p : Fin 8) (ty : Fin 8) (ch : Fin 4096) (s : State) : Out :=
  onDev (fun d =>
    let k := d.chanKey p.val ty.val ch.val
    let c := d.chan k
    match c.nakAt with
    | none => d
    | some t => if t + 500 ≤ d.tick then d.setChan k { c with nakAt := none } else d) s

/-- REPLAY_TIMEOUT: frames kept for 50 µs without an acknowledgement are resent (R389). -/
def execReplayTimeout (p : Fin 8) (ty : Fin 8) (ch : Fin 4096) (s : State) : Out :=
  onDev (fun d =>
    let k := d.chanKey p.val ty.val ch.val
    let c := d.chan k
    let due (x : Kept) : Bool := c.resend.contains x.seq || decide (x.sent + 1250 ≤ d.tick)
    d.setChan k { c with resend := (c.kept.filter due).map (·.seq) }) s

/-- CREDIT_REFRESH: a receiver sends CRED at least every 100 µs (R390). -/
def execCreditRefresh (p : Fin 8) (ty : Fin 8) (ch : Fin 4096) (s : State) : Out :=
  onDev (fun d =>
    let k := d.chanKey p.val ty.val ch.val
    if d.paneUp p.val = true ∧ (d.credited p.val).contains (ty.val, ch.val) = true ∧ (d.chan k).credAt + 2500 ≤ d.tick then d.onChan k (fun c => { c with credOwed := true }) else d) s

/-- LINK_CREDIT_TIMEOUT: a channel has waited OPT_CREDIT_LIMIT ticks for credit; recorded once per run, when the tick in which the limit expires has
passed without a CRED (R390). -/
def execLinkCreditTimeout (p : Fin 8) (ty : Fin 8) (ch : Fin 4096) (s : State) : Out :=
  onDev (fun d =>
    let k := d.chanKey p.val ty.val ch.val
    let c := d.chan k
    match c.starved with
    | none => d
    | some t =>
      if c.noted = false ∧ t + d.fld (opt + Off.OPT_CREDIT_LIMIT) Fl.OPT_CREDIT_LIMIT_TICKS < d.tick then
        (d.setChan k { c with noted := true }).linkRecord 0x05 p.val ty.val ch.val 0
      else d) s

/-! ### Control messages (R391, R392) -/

/-- HELLO: in ALIGN it records the peer and is acknowledged; in UP another ID takes the Pane to LOCK (R391). HELLO and HELLO_ACK stand outside the
sequence and the credits of the control channel. -/
def execHello (p : Fin 8) (corr : Nat) (id : BitVec 64) (role : Fin 4) (dual : Bool) (ain aout : Byte) (s : State) : Out :=
  onDev (fun d =>
    let p := p.val
    if d.receives p = false then d
    else
      let d := d.frameIn p corr
      let st := d.paneState p
      if st < 3 then d
      else
        let held := d.reg64 (opt + Off.PANE_PEER_LO p) (opt + Off.PANE_PEER_HI p)
        let info := Fl.PANE_PEER_INFO_AOUT.put (Fl.PANE_PEER_INFO_AIN.put (Fl.PANE_PEER_INFO_ROLE.put 0 role.val) ain.toNat) aout.toNat
        let d := (d.setReg (opt + Off.PANE_PEER_LO p) (lo32 id.toNat)).setReg (opt + Off.PANE_PEER_HI p) (hi32 id.toNat)
        let d := (d.setReg (opt + Off.PANE_PEER_INFO p) info).setFld (opt + Off.PANE_STATUS p) Fl.PANE_STATUS_DUAL (b2n dual)
        if st = 4 ∧ id.toNat ≠ held then (d.linkRecord 0x06 p 0 0 id.toNat).paneLeave p 2 3
        else
          let x := d.pane p
          let first := x.gotHello = false
          let d := d.setPane p { x with gotHello := true, ctl := x.ctl ++ [natLE 1 2 ++ natLE 8 id.toNat] }
          let d := if first ∧ d.isBond p = true then d.pairCheck p role.val else d
          d.paneRise p) s

/-- HELLO_ACK: the peer acknowledges this side's HELLO (R391). -/
def execHelloAck (p : Fin 8) (corr : Nat) (id : BitVec 64) (s : State) : Out :=
  onDev (fun d =>
    let p := p.val
    if d.receives p = false then d
    else
      let d := d.frameIn p corr
      if d.paneState p = 3 ∧ id.toNat = ownId then (d.setPane p { d.pane p with acked := true }).paneRise p else d) s

/-- PEER_STATUS: the reply to a query (R392). -/
def execPeerStatus (p : Fin 8) (h : Hdr) (nonce : BitVec 16) (own seen : Bool) (s : State) : Out :=
  onDev (fun d =>
    d.contentIn p.val tCONTROL 0 h (fun d =>
      let x := d.pane p.val
      if x.query.isSome = true ∧ nonce.toNat = x.nonce then d.queryDone p.val (own || seen) else d)) s

/-- PEER_QUERY_TIMEOUT: no matching reply within 2 ms (R392). -/
def execPeerQueryTimeout (p : Fin 8) (s : State) : Out :=
  onDev (fun d =>
    match (d.pane p.val).query with
    | none => d
    | some t => if t + 50000 ≤ d.tick then d.queryDone p.val true else d) s

/-! ### MIRROR frames on the bond (R393, R414) -/

/-- Apply the frames of the window that are now in order. -/
def Dev.drainWindow (k : Nat) : Nat → Dev → Dev
  | 0, d => d
  | n + 1, d =>
    let c := d.chan k
    match c.window.find? (fun e => e.1 == c.expect) with
    | none => d
    | some e => Dev.drainWindow k n ((d.setChan k { c.took true e.1 with window := c.window.filter (fun y => y.1 != e.1), ackOwed := true }).applyMir e.2)

/-- A MIRROR frame: in order it acts, and with it those that came ahead of it; within 64 frames ahead it waits, and the
first one past the expected frame owes a NAK (R389, R393). -/
def Dev.mirrorIn (d : Dev) (p : Nat) (h : Hdr) (m : MirFrame) : Dev :=
  if d.receives p = false then d
  else
    let d := d.frameIn p h.corr
    if d.chanBound p tMIRROR 0 = false then d.dropped p
    else if d.paneUp p = false then d
    else
      let k := d.chanKey p tMIRROR 0
      let c := d.chan k
      let seq := h.seq.toNat
      if seq ≠ c.expect ∧ seqPast seq c.expect = true ∧ (seq + 65536 - c.expect) % 65536 < 64 then
        let c := { c with nakOwed := c.nakOwed || c.nakAt.isNone, nakAt := c.nakAt.or (some d.tick) }
        (if c.window.any (fun e => e.1 == seq) then d.setChan k c else (d.setChan k { c with window := c.window ++ [(seq, m)] }).fieldsIn p tMIRROR 0 h)
      else
        let (ok, d) := d.acceptStrict p tMIRROR 0 seq
        if ok then Dev.drainWindow k 64 ((d.fieldsIn p tMIRROR 0 h).applyMir m) else d

/-- FRAME_DISCARDED: a good CRC, but VER, TYPE, LEN or an unbound channel (R384); or, with `op`, a CONTROL frame of an opcode that R391 does not list, or
a MIRROR frame (`op` true) of a KIND that R414 does not list. -/
def execFrameDiscarded (p : Fin 8) (corr : Nat) (op : Option (Bool × Hdr)) (s : State) : Out :=
  onDev (fun d =>
    match op with
    | some (true, h) => d.mirrorIn p.val h .unlisted
    | some (false, h) => if d.receives p.val then (d.contentIn p.val tCONTROL 0 h id).dropped p.val else d
    | none => if d.receives p.val then (d.frameIn p.val corr).dropped p.val else d) s

/-- CTX_DATA (R404). -/
def execCtxData (p : Fin 8) (h : Hdr) (restore : Bool) (i : Fin 1024) (step : Word) (off : Nat) (bytes : List Byte) (s : State) : Out :=
  onDev (fun d => d.mirrorIn p.val h (.ctxData restore i step off bytes)) s
/-- CTX_END (R404). -/
def execCtxEnd (p : Fin 8) (h : Hdr) (i : Fin 1024) (step : Word) (total : Nat) (s : State) : Out := onDev (fun d => d.mirrorIn p.val h (.ctxEnd i step total)) s
/-- ACK (R405). -/
def execAck (p : Fin 8) (h : Hdr) (items : List (Fin 1024 × Word)) (s : State) : Out := onDev (fun d => d.mirrorIn p.val h (.ack items)) s
/-- PAIR_WORD (R271). -/
def execPairWord (p : Fin 8) (h : Hdr) (items : List PairItem) (s : State) : Out := onDev (fun d => d.mirrorIn p.val h (.pairWord items)) s
/-- HEARTBEAT (R406). -/
def execHeartbeat (p : Fin 8) (h : Hdr) (role : Fin 4) (alive : Bool) (count : Word) (s : State) : Out :=
  onDev (fun d => d.mirrorIn p.val h (.heartbeat role alive count)) s
/-- RESTORE_REQ (R413). -/
def execRestoreReq (p : Fin 8) (h : Hdr) (i : Fin 1024) (s : State) : Out := onDev (fun d => d.mirrorIn p.val h (.restoreReq i)) s
/-- RELINQUISH (R412). -/
def execRelinquish (p : Fin 8) (h : Hdr) (ids : List (Fin 1024)) (s : State) : Out := onDev (fun d => d.mirrorIn p.val h (.relinquish ids)) s
/-- ADOPTED_LIST (R411). -/
def execAdoptedList (p : Fin 8) (h : Hdr) (ids : List (Fin 1024)) (s : State) : Out := onDev (fun d => d.mirrorIn p.val h (.adoptedList ids)) s

/-! ### Sending (R386, R389, R390) -/

/-- A frame's 256 bytes (R383). -/
def maelqua (ty chField : Nat) (h : Hdr) (payload : List Byte) : List Byte :=
  let body := natLE 1 (ty + 16) ++ natLE 1 (b2n h.ackV + 2 * b2n h.nak + 4 * b2n h.credV) ++ natLE 2 chField ++ natLE 2 h.seq.toNat ++ natLE 2 h.ack.toNat
    ++ natLE 2 h.cred.toNat ++ natLE 1 payload.length ++ natLE 1 0 ++ payload ++ List.replicate (240 - payload.length) 0
  body ++ natLE 4 (crc32 body).toNat

/-- Take what a channel owes its peer: the fields to send, and the channel without the debt. The limit CRED is a free value (R390). -/
def Dev.owed (d : Dev) (k : Nat) : Hdr × Dev :=
  let c := d.chan k
  let (x, d) := if c.credOwed then d.free else (0, d)
  let c' := { c with ackOwed := false, nakOwed := false, credOwed := false, credAt := if c.credOwed then d.tick else c.credAt, credN := if c.credOwed then 0 else c.credN }
  (⟨c.ackOwed || c.nakOwed, c.nakOwed, c.credOwed, 0, if c.ackOwed || c.nakOwed then BitVec.ofNat 16 (c.expect + 65535) else 0,
    if c.credOwed then x.setWidth 16 else 0, 0⟩, d.setChan k c')

/-- Put a frame of a channel on the fibre. -/
def Dev.putFrame (d : Dev) (p ty ch seq : Nat) (payload : List Byte) : Dev :=
  let (h, d) := d.owed (d.chanKey p ty ch)
  (d.setPane p { d.pane p with tx := maelqua ty ch { h with seq := BitVec.ofNat 16 seq } payload }).paneCount p (Off.FRAMES_TX p) 1

/-- Whether a channel has credit for its next frame and room to keep it (R389, R390). -/
def Chan.open (c : Chan) : Bool := (match c.credIn with | some v => seqPast v c.next | none => false) && decide (c.kept.length < 32)

/-- Resend the oldest frame due for it; the eighth resending of one frame takes the Pane out of UP (R389, R381 reason 7). -/
def Dev.resendOne (d : Dev) (p ty ch : Nat) : Option Dev :=
  let k := d.chanKey p ty ch
  let c := d.chan k
  match c.resend with
  | [] => none
  | q :: rest => match c.kept.find? (fun x => x.seq == q) with
    | none => some (d.setChan k { c with resend := rest })
    | some x =>
      let n := x.again + 1
      let kept := c.kept.map (fun y => if y.seq = q then { y with again := n, sent := d.tick } else y)
      let d := ((d.setChan k { c with resend := rest, kept := kept }).paneCount p (Off.REPLAYS p) 1).putFrame p ty ch q x.payload
      some (if 8 ≤ n then d.paneLeave p 2 7 else d)

/-- Send a new frame of a reliable channel and keep it. -/
def Dev.sendKept (d : Dev) (p ty ch : Nat) (payload : List Byte) : Dev :=
  let k := d.chanKey p ty ch
  let c := d.chan k
  let d := d.putFrame p ty ch c.next payload
  d.onChan k (fun y => { y with next := (c.next + 1) % 65536, kept := y.kept ++ [⟨c.next, payload, 0, d.tick⟩], starved := none, noted := false })

/-- An AUDIO frame of the Pane's virtual port (R387). -/
def Dev.audioPayload (d : Dev) (p n : Nat) : List Byte :=
  natLE 6 n ++ natLE 1 0 ++ natLE 1 64 ++ (List.range 64).flatMap (fun s => natLE 3 ((d.aslot (8 + p) s).out.toNat / 2 ^ 8))

/-- The channels of a Pane that owe their peer an acknowledgement, a NAK or credit. -/
def Dev.debtors (d : Dev) (p : Nat) : List Nat :=
  (d.chans.filter (fun e => (e.2.ackOwed || e.2.nakOwed || e.2.credOwed) &&
    (e.1 / 2 ^ 16 == p || (e.1 / 2 ^ 12 % 16 == tMIRROR && d.isBond p)))).map (·.1)

/-- An IDLE frame; where a channel owes something, it carries that channel's fields, and the channels take turns (R383, R386). -/
def Dev.sendIdle (d : Dev) (p : Nat) : Dev :=
  let ks := if d.paneUp p then d.debtors p else []
  let x := d.pane p
  let (h, field, turn, d) := match ((ks.find? (fun k => decide (x.turn ≤ k))).orElse (fun _ => ks.head?)) with
    | none => ((⟨false, false, false, 0, 0, 0, 0⟩ : Hdr), 0, x.turn, d)
    | some k => let (h, d) := d.owed k
                (h, k % 2 ^ 16, k + 1, d)
  (d.setPane p { d.pane p with tx := maelqua 7 field h [], turn := turn }).paneCount p (Off.FRAMES_TX p) 1

/-- Send one control payload. HELLO and HELLO_ACK carry SEQ 0 and are not kept. -/
def Dev.sendCtl (d : Dev) (p : Nat) : Option Dev :=
  let x := d.pane p
  match x.ctl with
  | [] => none
  | b :: rest =>
    let loose := b.head? == some 1 || b.head? == some 2
    let d' := d.setPane p { x with ctl := rest }
    if loose then some (d'.putFrame p tCONTROL 0 0 b)
    else if d.paneUp p = true ∧ (d.chan (d.chanKey p tCONTROL 0)).open = true then some (d'.sendKept p tCONTROL 0 b)
    else none

/-- Send one MIRROR frame of the bond, or an IDLE frame where there is none to send (R386, R393). -/
def Dev.sendMir (d : Dev) (p : Nat) : Dev :=
  if d.chanBound p tMIRROR 0 = false then d.sendIdle p
  else match d.resendOne p tMIRROR 0 with
    | some d => d
    | none =>
      if (d.chan (d.chanKey p tMIRROR 0)).open = false then d.sendIdle p
      else match d.nextMir with
        | (some bs, d) => d.sendKept p tMIRROR 0 bs
        | (none, d) => d.sendIdle p

/-- FRAME_SEND: the Pane sends its next frame in the order of R386: AUDIO, CONTROL, MIRROR, IDLE. The device has no WEIGH or VIDEO to send. -/
def execFrameSend (p : Fin 8) (s : State) : Out :=
  onDev (fun d =>
    let p := p.val
    let st := d.paneState p
    if st = 0 ∨ d.panePrbs p = true then d
    else if st < 3 then d.sendIdle p
    else if st = 3 then (d.sendCtl p).getD (d.sendIdle p)
    else
      let x := d.pane p
      match (if d.isBond p then none else x.audioAt) with
      | some n =>
        let k := d.chanKey p tAUDIO 0
        let q := (d.chan k).next
        let d := (d.setPane p { x with audioAt := none }).putFrame p tAUDIO 0 q (d.audioPayload p n)
        d.onChan k (fun c => { c with next := (q + 1) % 65536 })
      | none =>
        ((d.resendOne p tCONTROL 0).orElse (fun _ => d.sendCtl p)).getD (d.sendMir p)) s

/-! ### Each tick -/

/-- Whether a Pane has a credited frame waiting on CONTROL or MIRROR, as the channel's key. -/
def Dev.waitingKeys (d : Dev) (p : Nat) : List Nat :=
  if d.paneUp p = false then []
  else
    let ctl := match (d.pane p).ctl with
      | b :: _ => b.head? != some 1 && b.head? != some 2
      | [] => false
    (if ctl then [d.chanKey p tCONTROL 0] else []) ++ (if d.chanBound p tMIRROR 0 && d.mirWaits then [d.chanKey p tMIRROR 0] else [])

/-- One tick of a Pane: CREDIT_STALL counts while a credited frame waits without credit (R390, R396). -/
def Dev.paneTick (d : Dev) (p : Nat) : Dev :=
  let short := (d.waitingKeys p).filter (fun k => let c := d.chan k
                                                  !(match c.credIn with | some v => seqPast v c.next | none => false))
  let d := if short = [] then d else d.paneCount p (Off.CREDIT_STALL p) 1
  d.each short (fun d k => d.onChan k (fun c => if c.starved.isSome then c else { c with starved := some d.tick }))

/-! ### Registers (R396) -/

/-- Zero a Pane's ten counters. -/
def Dev.paneClear (d : Dev) (p : Nat) : Dev :=
  d.zero ([Off.FRAMES_TX p, Off.FRAMES_RX p, Off.CRC_ERR p, Off.FEC_CORR p, Off.FEC_UNCORR p, Off.SEQ_GAP p, Off.REPLAYS p, Off.DROPS p, Off.CREDIT_STALL p, Off.DOWNS p].map (opt + ·))

/-- A write to PANE_CTRL. -/
def Dev.paneCtrl (d : Dev) (p : Nat) (v : Word) (plain : Dev → Dev) : Dev :=
  let d := plain d
  let d := if Fl.PANE_CTRL_EN.get v = 0 then (if d.paneState p = 0 then d else d.paneLeave p 0 6) else d.paneLight p
  if Fl.PANE_CTRL_QUERY.on v ∧ d.paneUp p = true ∧ d.fld (opt + Off.PANE_STATUS p) Fl.PANE_STATUS_DUAL = 1 then d.sendQuery p false else d

/-- A write to a register of the OPT block. -/
def Dev.optWrite (d : Dev) (l : Nat) (v : Word) (plain : Dev → Dev) : Dev :=
  if l = Off.OPT_BOND then (if d.paneState 0 = 0 ∧ d.paneState 1 = 0 then plain d else d)
  else if 0x100 ≤ l ∧ l < 0x500 then
    let p := (l - 0x100) / 0x80
    if l = Off.PANE_CTRL p then d.paneCtrl p v plain
    else if l = Off.PANE_CNT_CTRL p then (if Fl.PANE_CNT_CTRL_CNT_CLR.on v then d.paneClear p else d)
    else plain d
  else plain d

end Sys2Proof.Machine
end

