-- ==== Sys2Proof/Machine/PlanLoad.lean ====
section
/-! DEFINITION. The checks of a plan image: header, live-range table, adaptation section (R164, R307–R310). -/

namespace Sys2Proof.Machine

/-- Whether bytes `a` to `b - 1` are all 0. -/
def zeros (bs : List Byte) (a b : Nat) : Bool := ((bs.take b).drop a).all (· == 0)

/-- Whether a register value that a header carries is in range: reserved bits and fields the sequencer does not load are 0, and every loaded
field takes a legal value (R310). -/
def regValOk (off : Nat) (v : Word) : Bool :=
  match findReg Map.core off with
  | none => false
  | some r =>
    let used := r.fields.filter (fun f => f.acc == .rw)
    used.all (fun f => f.legal.ok (f.fld.get v)) && used.foldl (fun w f => f.fld.put w 0) v == 0

/-- The carried register values of a header: a window's base lies in a memory, and a ring's is a multiple of 256, as the registers take them (R182, R188,
R222, R307, R310). -/
def carriedOk (p : Plan) : Bool :=
  let word (o : Nat) : Word := wd (p.field o 4)
  (List.range 8).all (fun n => regValOk (Off.STAT_CFG n) (word (64 + 8 * n)) && regValOk (Off.STAT_DRIFT n) (word (68 + 8 * n))
      && regValOk (Off.CW_CFG n) (word (128 + 8 * n)) && regValOk (Off.CW_BASE n) (word (132 + 8 * n))
      && memOf (Fl.CW_BASE_BASE.get (word (132 + 8 * n))) != 0)
    && (List.range 16).all (fun r => regValOk (Off.RING_CFG r) (word (192 + 16 * r)) && regValOk (Off.RING_HELD r) (word (196 + 16 * r))
      && p.field (198 + 16 * r + 8) 2 % 2 ^ 15 == 0 && p.field (200 + 16 * r) 1 == 0)

/-- The mirrored ranges and overlays of a header (R307). -/
def listsOk (p : Plan) : Bool :=
  (List.range 4).all (fun i =>
      let o := p.field (448 + 8 * i) 4
      let n := p.field (452 + 8 * i) 4
      o % 256 == 0 && n % 256 == 0 && (n == 0 || decide (o + n ≤ p.field 32 4)))
    && (List.range 16).all (fun j =>
      let o := 480 + 8 * j
      p.field o 4 % 16 == 0 && p.field (o + 5) 3 == 0 && (p.field o 4 == 0 || decide (p.field (o + 4) 1 % 16 + p.field (o + 4) 1 / 16 < 16)))

/-- Whether every field of a header lies in its range, and the tables within the image (R307, R310). -/
def headerFields (p : Plan) : Bool :=
  let f := p.field
  let len := f 8 4
  decide (f 6 1 < 16 ∧ 1 ≤ f 7 1)
    && decide (f 12 2 % 4 = 0 ∧ 4 ≤ f 12 2 ∧ f 12 2 ≤ 512 ∧ f 14 2 % 4 = 0 ∧ f 12 2 ≤ f 14 2 ∧ f 14 2 ≤ 512)
    && decide (f 24 4 % 256 = 0 ∧ f 30 2 = 0 ∧ f 32 4 % 256 = 0 ∧ 256 ≤ f 32 4 ∧ f 32 4 ≤ 524288 ∧ f 36 4 % 4 = 0 ∧ f 42 2 = 0)
    && decide (f 44 1 ≤ 3 ∧ 3 ≤ f 45 1 ∧ f 45 1 ≤ 64 ∧ f 46 2 = 0 ∧ f 48 4 % 4 = 0 ∧ 4 ≤ f 48 4 ∧ f 48 4 ≤ 16777212)
    && decide (f 52 1 < 64 ∧ f 53 1 = 0 ∧ f 54 2 < 4096 ∧ f 56 2 < 1024 ∧ f 58 2 < 4096 ∧ f 60 4 < 256)
    && decide (f 608 4 % 64 = 0 ∧ 1 ≤ f 612 2 ∧ f 612 2 ≤ 1024 ∧ f 608 4 + 64 * f 612 2 ≤ len ∧ f 614 2 = 0)
    && decide (f 616 4 % 8 = 0 ∧ (f 616 4 = 0 ∨ f 616 4 + 8 ≤ len))
    && zeros p.header 620 4092 && carriedOk p && listsOk p

/-- The check of a header for a plan ID and a length: the DETAIL of the refusal, 0 for none (R310). -/
def headerCheck (bs : List Byte) (plan len : Nat) : Nat :=
  let p : Plan := ⟨bs, [], [], 0, 0, 0, 0⟩
  if bs.take 4 ≠ [0x50, 0x4C, 0x4E, 0x31] ∨ crc32 (bs.take 4092) ≠ BitVec.ofNat 32 (leAt bs 4092 4) then 1
  else if p.field 4 2 ≠ plan then 2
  else if p.field 8 4 ≠ len then 3
  else if headerFields p = false then 4
  else 0

/-- Whether one live-range entry keeps to R308. -/
def liveEntryOk (bs : List Byte) : Bool :=
  let n := leAt bs 1 1
  decide (leAt bs 0 1 < 2 ∧ n ≤ 7) && zeros bs 2 8 && zeros bs (8 + 8 * n) 64
    && (List.range n).all (fun i =>
      let a := leAt bs (8 + 8 * i) 4
      let l := leAt bs (12 + 8 * i) 4
      a % 16 == 0 && l % 16 == 0 && (if l = 0 then memOf a != 0 else inMem a l))

/-- Whether the live-range entries that lie within the first `n` bytes of the image, copied to `dest`, keep to R308. -/
def Dev.liveOk (d : Dev) (bs : List Byte) (dest n : Nat) : Bool :=
  let off := leAt bs 608 4
  (List.range (leAt bs 612 2)).all (fun e => decide (n < off + 64 * e + 64) || liveEntryOk (d.hbmBytes (dest + off + 64 * e) 64))

/-- The adaptation section of a copied image: its head and entries; none where it does not lie within the image (R309, R310). -/
def Dev.adaptBytes (d : Dev) (bs : List Byte) (dest : Nat) : Option (List Byte) :=
  let off := leAt bs 616 4
  if off = 0 then some []
  else
    let n := leAt (d.hbmBytes (dest + off) 1) 0 1
    if off + 8 + 96 * n ≤ leAt bs 8 4 then some (d.hbmBytes (dest + off) (8 + 96 * n)) else none

/-- The plan of a copied image. -/
def Dev.planOf (d : Dev) (bs : List Byte) (dest client : Nat) : Option Plan :=
  (d.adaptBytes bs dest).map (fun a => ⟨bs, d.hbmBytes (dest + leAt bs 608 4) (64 * leAt bs 612 2), a, dest, client, 0, 0⟩)

/-! ### Adaptation rounds (R164) -/

/-- The reason for which layer entry `i` of an adaptation section refuses a round, 0 for none. `first` is the layer of entry 0, `n` the count. -/
def layerReason (p : Plan) (n i : Nat) : Nat :=
  let o := 8 + 96 * i
  let g (k len : Nat) : Nat := leAt p.adapt (o + k) len
  let s (k : Nat) : Int := sgn 8 (g k 1)
  let fc := g 0 1 = 0
  if 1 < g 0 1 ∨ g 1 1 < 1 ∨ 16 < g 1 1 ∨ g 2 1 < 1 ∨ 4 < g 2 1 ∨ g 3 1 ≠ 1 ∨ (fc ∧ (g 1 1 ≠ 1 ∨ g 2 1 ≠ 1)) then 1
  else if 4096 < g 12 2 ∨ 4096 < g 14 2 then 2
  else if g 5 1 < 1 ∨ 15 < g 5 1 ∨ s 8 < s 7 ∨ s 9 + (g 6 1 : Nat) < s 8 ∨ s 10 < s 9 ∨ s 9 + 31 < s 10 then 3
  else if g 4 1 + n ≠ p.field 7 1 + i then 5
  else 0

/-- The refusal of a round: the first failing layer and the reason, 4 for a count outside 1–8. -/
def Plan.adaptRefusal (p : Plan) : Option (Nat × Nat) :=
  let n := leAt p.adapt 0 1
  if p.adapt = [] ∨ n < 1 ∨ 8 < n then some (if 8 < n then 8 else 0, 4)
  else ((List.range n).map (fun i => (i, layerReason p n i))).find? (fun e => e.2 != 0)

end Sys2Proof.Machine
end

