-- ==== Sys2Proof/Machine/HostIf.lean ====
section
/-! DEFINITION. The PCI Express host interface: ring registers, commands, long commands, stream rings, host reads, BAR2, function level resets, the SMBus sideband (R438–R467). -/

namespace Sys2Proof.Machine

/-- The base of the HIF block. -/
def hifb : Nat := Block.hif.base

/-! ### Ring registers (R445, R465) -/

/-- The ring set of a client ring block's offset, with the offset within the set. -/
def setOf (l : Nat) : Option (RSet × Nat) :=
  if l < 0x20 then some (.sq, l)
  else if l < 0x40 then some (.cq, l - 0x20)
  else if l < 0x60 then some (.eq, l - 0x40)
  else if 0x1000 ≤ l ∧ l < 0x1800 then some (.sr ((l - 0x1000) / 0x20), l % 0x20)
  else if 0x1800 ≤ l ∧ l < 0x1A00 then some (.rr ((l - 0x1800) / 0x20), l % 0x20)
  else none

/-- The ring sets of a function. -/
def setsOf (f : Nat) : List RSet :=
  [.sq, .cq, .eq] ++ (if f = 0 then [] else (List.range 64).map .sr ++ (List.range 16).map .rr)

/-- Whether the device produces a ring. -/
def RSet.produced : RSet → Bool
  | .sq => false
  | .sr _ => false
  | _ => true

/-- Whether SIZE of a ring is in range. -/
def RSet.sizeOk (x : RSet) (n : Nat) : Bool :=
  match x with
  | .sr _ => decide (1 ≤ n ∧ n ≤ 4096)
  | _ => decide (16 ≤ n ∧ n ≤ 32768)

/-- A write of X_CFG. -/
def Dev.ringCfg (d : Dev) (f : Nat) (x : RSet) (v : Word) (plain : Dev → Dev) : Dev :=
  let o := rbase f x + Off.X_CFG
  if d.ringOn f x then (if Fl.X_CFG_EN.get v = 0 then d.setFld o Fl.X_CFG_EN 0 else d)
  else
    let old := d.reg o
    let d := (plain d).setFld o Fl.X_CFG_EN 0
    let d := if x.produced then d else d.setFld o Fl.X_CFG_VECTOR (Fl.X_CFG_VECTOR.get old)
    let d := match x with
      | .rr _ => d
      | _ => d.setFld o Fl.X_CFG_ESZ (Fl.X_CFG_ESZ.get old)
    if Fl.X_CFG_EN.get v = 0 then d
    else if x.sizeOk (d.fld o Fl.X_CFG_SIZE) = false ∨ d.reg64 (rbase f x + Off.X_BASE_LO) (rbase f x + Off.X_BASE_HI) = 0
        ∨ d.reg64 (fnBase f + Off.WB_LO) (fnBase f + Off.WB_HI) = 0 then
      d.ringFlag f x Fl.X_STATUS_BAD
    else (((d.setFld o Fl.X_CFG_EN 1).setReg (rbase f x + Off.X_HPOS) 0).setReg (rbase f x + Off.X_DPOS) 0).setReg (rbase f x + Off.X_COUNT) 0

/-- The free room of a stream ring's consumer, in bytes (R457). -/
def Dev.consumerRoom (d : Dev) : Consumer → Nat
  | .stream i => (d.stream i).room
  | .slot u s => ((d.pbCap u s : Int) - d.pbFill u s).toNat * d.pbWidth u s
  | .camera c => d.bsSize c - d.bsHeld c

/-- A refusal for room is recorded by its consumer's rule, once a run (R285, R343, R364). -/
def Dev.refuse (d : Dev) : Consumer → Dev
  | .stream i => d.inputRefused i
  | .slot u s => d.playRefused u s
  | .camera c => d.bsRefused c

/-- A doorbell of a stream ring: accepted where the consumer has room, less what is accepted and not yet copied (R456, R457). -/
def Dev.srDoorbell (d : Dev) (c r pos : Nat) : Dev :=
  let f := c + 1
  let x : RSet := .sr r
  let n := d.ringN f x
  if d.ringOn f x = false then d
  else match d.consumerOf c r with
    | none => d.ringFlag f x Fl.X_STATUS_BAD_DB
    | some k =>
      let more := span n pos (d.hpos f x)
      if 2 * n ≤ pos ∨ n < span n pos (d.dpos f x) ∨ pos % 4 ≠ 0 then d.ringFlag f x Fl.X_STATUS_BAD_DB
      else if d.consumerRoom k < more + d.offered f x then ((d.ringFlag f x Fl.X_STATUS_REFUSED).ringCount f x).refuse k
      else d.setFld (rbase f x + Off.X_HPOS) Fl.X_HPOS_POS pos

/-- A write of X_HPOS. -/
def Dev.ringHpos (d : Dev) (f : Nat) (x : RSet) (v : Word) : Dev :=
  let pos := Fl.X_HPOS_POS.get v
  let n := d.ringN f x
  match x with
  | .sr r => d.srDoorbell (f - 1) r pos
  | _ =>
    if d.ringOn f x = false then d
    else
      let held := if x.produced then span n (d.dpos f x) pos else span n pos (d.dpos f x)
      if 2 * n ≤ pos ∨ n < held then d.ringFlag f x Fl.X_STATUS_BAD_DB else d.setFld (rbase f x + Off.X_HPOS) Fl.X_HPOS_POS pos

/-- Whether translation window `w` may be enabled (R443, R465). -/
def Dev.twOk (d : Dev) (f w : Nat) : Bool :=
  let b := fnBase f
  let lo (w : Nat) : Nat := d.reg64 (b + Off.TW_DEV_LO w) (b + Off.TW_DEV_HI w)
  let hi (w : Nat) : Nat := lo w + 4096 * d.fld (b + Off.TW_CFG w) Fl.TW_CFG_SIZE
  decide (0x800000000000 ≤ lo w ∧ hi w ≤ 0x1000000000000)
    && (List.range 16).all (fun o => o == w || d.fld (b + Off.TW_CFG o) Fl.TW_CFG_EN == 0 || decide (hi w ≤ lo o) || decide (hi o ≤ lo w))

/-- A write of TW_CFG. -/
def Dev.twCfg (d : Dev) (f w : Nat) (v : Word) (plain : Dev → Dev) : Dev :=
  let o := fnBase f + Off.TW_CFG w
  if d.fld o Fl.TW_CFG_EN = 1 then (if Fl.TW_CFG_EN.get v = 0 then d.setFld o Fl.TW_CFG_EN 0 else d)
  else
    let d := (plain d).setFld o Fl.TW_CFG_EN 0
    if Fl.TW_CFG_EN.get v = 1 ∧ d.twOk f w = true then d.setFld o Fl.TW_CFG_EN 1 else d

/-- An unmasked vector sends its pending message (R461). -/
def Dev.msixFlush (d : Dev) (f v : Nat) : Dev :=
  let b := fnBase f
  let o := b + Off.MSIX_PBA (v / 32)
  if d.msixOff.contains f ∨ d.fld (b + Off.MSIX_CTRL v) Fl.MSIX_CTRL_MASK = 1 ∨ (d.reg o).toNat.testBit (v % 32) = false then d
  else (d.setReg o (d.reg o &&& ~~~ wd (2 ^ (v % 32)))).sendVector f v

/-- A write to a register of a function's ring block (R465). -/
def Dev.ringBlockWrite (d : Dev) (f l : Nat) (v : Word) (plain : Dev → Dev) : Dev :=
  match setOf l with
  | some (x, o) =>
    if o = Off.X_BASE_LO ∨ o = Off.X_BASE_HI then (if d.ringOn f x then d else plain d)
    else if o = Off.X_CFG then d.ringCfg f x v plain
    else if o = Off.X_HPOS then d.ringHpos f x v
    else plain d
  | none =>
    if l = Off.WB_LO ∨ l = Off.WB_HI then (if (setsOf f).any (fun x => d.ringOn f x) then d else plain d)
    else if 0x100 ≤ l ∧ l < 0x300 then
      let w := (l - 0x100) / 0x20
      let on := d.fld (fnBase f + Off.TW_CFG w) Fl.TW_CFG_EN = 1
      if l = Off.TW_CFG w then d.twCfg f w v plain
      else if on ∨ (l = Off.TW_DEV_HI w ∧ Fl.TW_DEV_HI_DEV.get v < 0x8000) then d
      else plain d
    else if 0x3000 ≤ l ∧ l < 0x3400 ∧ l % 0x10 = 0xC then (plain d).msixFlush f ((l - 0x3000) / 0x10)
    else plain d

/-- A read of a register of a ring block that other state determines: BOUND of a stream ring (R465). -/
def Dev.ringView (d : Dev) (f l : Nat) : Option Word :=
  match setOf l with
  | some (.sr r, o) => if o = Off.X_STATUS ∧ f ≠ 0 then some (Fl.X_STATUS_BOUND.put (d.reg (fnBase f + l)) (b2n (d.consumerOf (f - 1) r).isSome)) else none
  | _ => none

/-! ### The HIF block (R466) -/

/-- Whether a client has a job that is not FREE or an admitted stream. -/
def Dev.clientBusy (d : Dev) (c : Nat) : Bool :=
  d.jobs.any (fun e => e.2.state != .free && e.2.client == c) || d.streams.any (fun e => e.2.state != 0 && e.2.client == c)

/-- A write of ALLOT(c). -/
def Dev.allotWrite (d : Dev) (c : Nat) (v : Word) (plain : Dev → Dev) : Dev :=
  let part (w : Word) (s : Nat) : Nat × Nat := if s = 0 then (Fl.ALLOT_BASE0.get w, Fl.ALLOT_SIZE0.get w) else (Fl.ALLOT_BASE1.get w, Fl.ALLOT_SIZE1.get w)
  let clash (s o : Nat) : Bool :=
    let a := part v s
    let b := part (d.reg (hifb + Off.ALLOT o)) s
    o != c && decide (a.2 ≠ 0 ∧ b.2 ≠ 0 ∧ a.1 < b.1 + b.2 ∧ b.1 < a.1 + a.2)
  let bad := [0, 1].any (fun s => decide (63 < (part v s).1 + (part v s).2) || (List.range 32).any (clash s))
  if bad = true ∨ d.clientBusy c = true then d.setFld (hifb + Off.ALLOT_STATUS) Fl.ALLOT_STATUS_BAD 1 else plain d

/-- A write to a register of the HIF block. -/
def Dev.hifWrite (d : Dev) (l : Nat) (v : Word) (plain : Dev → Dev) : Dev :=
  if 0x100 ≤ l ∧ l < 0x180 then d.allotWrite ((l - 0x100) / 4) v plain else plain d

/-- A read of a register of the HIF block that other state determines. -/
def Dev.hifView (d : Dev) (l : Nat) : Option Word := if l = Off.HIF_STEPPED then some (wd d.longs.length) else none

/-! ### Taking commands (R448–R451, R453–R455) -/

/-- A submission entry (R448). -/
def sqEntry (op : Nat) (fence : Bool) (arg : Nat) (cid : Word) (params : List Byte) : List Byte :=
  natLE 1 op ++ natLE 1 (b2n fence) ++ natLE 2 arg ++ natLE 4 cid.toNat ++ (params ++ List.replicate 56 0).take 56

/-- FINAL of a command that ends in its turn. -/
def Dev.final (d : Dev) (f : Nat) (e : List Byte) (status detail : Nat) : Dev :=
  d.complete f (cqEntry (leAt e 4 4) status 0 (leAt e 0 1) detail 0 0 [])

/-- A long command begins, where fewer than 4 of a client's and 16 in all are in progress (R452). -/
def Dev.longBegin (d : Dev) (f : Nat) (e : List Byte) (total : Nat) : Dev :=
  if 16 ≤ d.longs.length ∨ (f ≠ 0 ∧ 4 ≤ (d.longs.filter (fun x => x.fn == f)).length) then d.final f e 5 0
  else
    let t := (List.range 17).foldl (fun n _ => if n = 0 ∨ d.longs.any (fun x => x.token == n) then (n + 1) % 2 ^ 32 else n) ((d.tokens + 1) % 2 ^ 32)
    { d with tokens := t, longs := d.longs ++ [⟨f, t, leAt e 0 1, leAt e 2 2, leAt e 4 4, e, 0, total, 0, false, false, [], []⟩] }

/-- The unused bytes of a command's entry, which must be 0 (R448, R454). -/
def unusedOk (e : List Byte) : Bool :=
  let op := leAt e 0 1
  match op with
  | 0x01 => zeros e 57 64 && decide (leAt e 56 1 < 2)
  | 0x02 => zeros e 57 64 && decide (leAt e 56 1 < 2)
  | 0x04 => zeros e 16 64
  | 0x10 => zeros e 28 64
  | 0x20 => zeros e 9 16 && zeros e 28 64
  | 0x30 => zeros e 12 64
  | 0x40 => zeros e 20 64
  | 0x41 => zeros e 9 64
  | _ => zeros e 8 64

/-- Whether `n` bytes from `a` lie in the client's allotment; PF0 is not restricted (R455). -/
def Dev.within (d : Dev) (f a n : Nat) : Bool := if f = 0 then inHbm 0 a n || inHbm 1 a n else d.allotHas (f - 1) 0 a n || d.allotHas (f - 1) 1 a n

/-- Whether a stream's entry lets a function's commands act on it (R455). -/
def Dev.owns (d : Dev) (f i : Nat) : Bool := f == 0 || (d.stream i).client + 1 == f

/-- The entry bytes of STREAM_ADMIT and STREAM_MODIFY. -/
def admitBytes (e : List Byte) : List Byte := (e.drop 8).take 48 ++ List.replicate 16 0

/-- Whether an entry names the issuing client, and no other client's ring (R455). -/
def namesIssuer (f : Nat) (b : List Byte) : Bool :=
  let x := Stream.ofBytes b
  f == 0 || (x.client + 1 == f && (!(x.srcKind == 3 || x.srcKind == 4) || x.srcId / 256 % 32 + 1 == f))

/-- An answer of a stream command. -/
def Dev.refusal (d : Dev) (f : Nat) (e : List Byte) (st : Nat) : Dev := if st = 0 then d.final f e 0 0 else d.final f e 4 st

/-- PLAN_LOAD as it is taken (R455). -/
def Dev.planLoad (d : Dev) (f : Nat) (e : List Byte) : Dev :=
  if leAt e 16 4 < 4096 ∨ d.within f (leAt e 20 8) (leAt e 16 4) = false then d.final f e 2 0
  else if (d.plan (leAt e 2 2)).isSome ∨ d.longs.any (fun x => x.op == 0x10 && x.arg == leAt e 2 2) = true then d.final f e 10 0
  else d.longBegin f e (leAt e 16 4)

/-- PLAN_UNLOAD: not while a job names the plan, nor another client's plan. -/
def Dev.planUnload (d : Dev) (f : Nat) (e : List Byte) : Dev :=
  let p := leAt e 2 2
  match d.plan p with
  | none => d.final f e 2 0
  | some x =>
    if d.jobs.any (fun j => j.2.state != .free && j.2.plan == p) = true ∨ (f ≠ 0 ∧ x.client + 1 ≠ f) then d.final f e 10 0
    else { d with plans := Tab.set none d.plans p none }.final f e 0 0

/-- ADAPT_ROUND as it is taken: the Hinge's checks, then the start of the job (R164, R454). -/
def Dev.adaptRound (d : Dev) (f : Nat) (e : List Byte) : Dev :=
  let j := leAt e 8 1
  let x := d.job j
  match d.plan (leAt e 2 2) with
  | none => d.final f e 2 0
  | some p =>
    if x.state = .free ∨ x.plan ≠ leAt e 2 2 ∨ x.cls ≠ 1 ∨ (f ≠ 0 ∧ x.client + 1 ≠ f) ∨ d.within f (leAt e 16 8) (leAt e 24 4) = false then d.final f e 2 0
    else match p.adaptRefusal with
      | some (i, r) =>
        (d.emit { cls := kFORMAT, code := 0x06, src := 0, obj := leAt e 2 2, issuer := j, detail := i + r * 2 ^ 8 }).final f e 4 r
      | none =>
        if x.state ≠ .loaded ∨ d.batNamed j = true then d.final f e 5 0
        else
          let n := d.longs.length
          let d' := d.longBegin f e 100
          if d'.longs.length = n then d' else d'.jobStart j

/-- ABORT: the token's command ends at its current step's end, where it is the same function's and in progress (R453). -/
def Dev.abortLong (d : Dev) (f : Nat) (e : List Byte) : Dev :=
  let t := leAt e 8 4
  if d.longs.any (fun x => x.fn == f && x.token == t && x.begun) then
    { d with longs := d.longs.map (fun x => if x.fn = f ∧ x.token = t then { x with aborts := x.aborts ++ [leAt e 4 4] } else x) }
  else d.final f e 9 0

/-- A command that has been taken: its checks, and its effect or its beginning (R454, R455). FW_UPDATE uses the crypto domain, and one refused for its length
leaves its slot erased (R479, R493). -/
def Dev.runEntry (d : Dev) (f : Nat) (e : List Byte) : Dev :=
  let op := leAt e 0 1
  let arg := leAt e 2 2
  let failed := d.fld (bootb + Off.BOOT_STATUS) Fl.BOOT_STATUS_STATE = 2
  let known := [0x00, 0x01, 0x02, 0x03, 0x04, 0x10, 0x11, 0x20, 0x30].contains op || (decide (f = 0) && [0x40, 0x41].contains op)
  if known = false ∨ (failed ∧ op ≠ 0x00 ∧ op ≠ 0x40) then d.final f e 1 0
  else if 1 < leAt e 1 1 ∨ unusedOk e = false ∨ (1 ≤ op ∧ op ≤ 4 ∧ 1024 ≤ arg) then d.final f e 2 0
  else match op with
    | 0x00 => d.final f e 0 0
    | 0x01 =>
      if namesIssuer f (admitBytes e) = false then d.final f e 3 0
      else
        let r := d.callSide.admitStream arg (admitBytes e) (leAt e 56 1 == 1)
        r.2.refusal f e r.1
    | 0x02 =>
      if d.owns f arg = false then d.final f e 3 0
      else
        let r := d.callSide.modify arg (admitBytes e)
        r.2.refusal f e r.1
    | 0x03 =>
      if d.owns f arg = false then d.final f e 3 0
      else
        let r := d.callSide.release arg
        r.2.refusal f e r.1
    | 0x04 =>
      if d.owns f arg = false then d.final f e 3 0
      else if leAt e 8 8 % 64 ≠ 0 then d.final f e 2 0
      else (d.callSide.hostWrite f (leAt e 8 8) (d.entryView arg).bytes).final f e 0 0
    | 0x10 => d.planLoad f e
    | 0x11 => d.planUnload f e
    | 0x20 => d.adaptRound f e
    | 0x30 => d.abortLong f e
    | 0x40 =>
      if 0x800000 < leAt e 16 4 then (d.slotErase (1 - d.bootSlot)).final f e 4 3 else (d.longBegin f e (leAt e 16 4)).askOpen shCrypto
    | _ => if 1 < leAt e 8 1 then d.final f e 2 0 else d.longBegin f e (2 ^ 26)

/-- Whether a function's submission ring holds a command that may be taken: no completion of it waits for room (R451). -/
def Dev.ready (d : Dev) (f : Nat) : Bool := d.ringOn f .sq && decide (0 < d.offered f .sq) && decide (d.waitingCq f = [])

/-- Whether a ring's head entry is known to be a FENCE that waits for a command of the ring still in progress (R450). -/
def Dev.fenceHeld (d : Dev) (f : Nat) : Bool := d.fenced.contains f && d.longs.any (fun x => x.fn == f)

/-- Whether a ring holds a command that can be taken. -/
def Dev.takes (d : Dev) (f : Nat) : Bool := d.ready f && !d.fenceHeld f

/-- Whether it is a function's turn: no ring between the last one served and it holds a command that can be taken (R450). -/
def Dev.hasTurn (d : Dev) (f : Nat) : Bool :=
  let n := (f + 33 - d.turn) % 33
  d.ready f && (List.range n).all (fun i => !d.takes ((d.turn + i) % 33))

/-- A ring has had its turn: no long command owes it one, and its head entry is another (R450, R452). -/
def Dev.served_ (d : Dev) (f : Nat) : Dev :=
  { d with turn := (f + 1) % 33, fenced := d.fenced.filter (· != f)
           longs := d.longs.map (fun x => { x with owed := x.owed.filter (· != f) }) }

/-- The Hinge takes entry `e` from function `f`'s submission ring. A FENCE waits for every earlier command's FINAL, and the ring has no turn meanwhile; an
entry whose host read failed stops the ring (R450). -/
def Dev.take (d : Dev) (f : Nat) (e : List Byte) (good : Bool) : Dev :=
  if d.hasTurn f = false then d
  else if good = false then (d.setFld (rbase f .sq + Off.X_CFG) Fl.X_CFG_EN 0).ringFlag f .sq Fl.X_STATUS_FETCH_ERR |>.hostErr
  else if leAt e 1 1 % 2 = 1 ∧ d.longs.any (fun x => x.fn == f) = true then { d with fenced := d.fenced.filter (· != f) ++ [f] }
  else
    let d := d.served_ f
    (((d.ringAdvance f .sq 1).ringCount f .sq).writeBack f .sq).runEntry f e

/-- COMMAND_TAKE: `e` is the 64 bytes that the host holds for the entry, `good` whether the host read completed (R450). -/
def execCommandTake (f : Fin 33) (e : List Byte) (good : Bool) (s : State) : Out := onDev (fun d => d.take f.val e good) s

/-- NOP. -/
def execNop (f : Fin 33) (fence : Bool) (cid : Word) (s : State) : Out := onDev (fun d => d.take f.val (sqEntry 0x00 fence 0 cid []) true) s
/-- STREAM_ADMIT. -/
def execStreamAdmit (f : Fin 33) (fence : Bool) (cid : Word) (i : Fin 1024) (entry : List Byte) (zeroCtx : Bool) (s : State) : Out :=
  onDev (fun d => d.take f.val (sqEntry 0x01 fence i.val cid ((entry ++ List.replicate 48 0).take 48 ++ natLE 1 (b2n zeroCtx))) true) s
/-- STREAM_MODIFY. -/
def execStreamModify (f : Fin 33) (fence : Bool) (cid : Word) (i : Fin 1024) (entry : List Byte) (s : State) : Out :=
  onDev (fun d => d.take f.val (sqEntry 0x02 fence i.val cid ((entry ++ List.replicate 48 0).take 48)) true) s
/-- STREAM_RELEASE. -/
def execStreamRelease (f : Fin 33) (fence : Bool) (cid : Word) (i : Fin 1024) (s : State) : Out :=
  onDev (fun d => d.take f.val (sqEntry 0x03 fence i.val cid []) true) s
/-- STREAM_READ. -/
def execStreamRead (f : Fin 33) (fence : Bool) (cid : Word) (i : Fin 1024) (a : BitVec 64) (s : State) : Out :=
  onDev (fun d => d.take f.val (sqEntry 0x04 fence i.val cid (natLE 8 a.toNat)) true) s
/-- PLAN_LOAD. -/
def execPlanLoad (f : Fin 33) (fence : Bool) (cid : Word) (plan : BitVec 16) (a : BitVec 64) (len : Word) (dest : BitVec 64) (s : State) : Out :=
  onDev (fun d => d.take f.val (sqEntry 0x10 fence plan.toNat cid (natLE 8 a.toNat ++ natLE 4 len.toNat ++ natLE 8 dest.toNat)) true) s
/-- PLAN_UNLOAD. -/
def execPlanUnload (f : Fin 33) (fence : Bool) (cid : Word) (plan : BitVec 16) (s : State) : Out :=
  onDev (fun d => d.take f.val (sqEntry 0x11 fence plan.toNat cid []) true) s
/-- ADAPT_ROUND. -/
def execAdaptRound (f : Fin 33) (fence : Bool) (cid : Word) (plan : BitVec 16) (j : Fin 256) (a : BitVec 64) (len : Word) (s : State) : Out :=
  onDev (fun d => d.take f.val (sqEntry 0x20 fence plan.toNat cid (natLE 1 j.val ++ natLE 7 0 ++ natLE 8 a.toNat ++ natLE 4 len.toNat)) true) s
/-- ABORT. -/
def execAbort (f : Fin 33) (fence : Bool) (cid token : Word) (s : State) : Out :=
  onDev (fun d => d.take f.val (sqEntry 0x30 fence 0 cid (natLE 4 token.toNat)) true) s
/-- FW_UPDATE. -/
def execFwUpdate (f : Fin 33) (fence : Bool) (cid : Word) (a : BitVec 64) (len : Word) (s : State) : Out :=
  onDev (fun d => d.take f.val (sqEntry 0x40 fence 0 cid (natLE 8 a.toNat ++ natLE 4 len.toNat)) true) s
/-- SCRUB_SWEEP. -/
def execScrubSweep (f : Fin 33) (fence : Bool) (cid : Word) (side : Fin 2) (s : State) : Out :=
  onDev (fun d => d.take f.val (sqEntry 0x41 fence 0 cid (natLE 1 side.val)) true) s

/-! ### Long commands (R452, R453, R479) -/

/-- Replace the long command with a token. -/
def Dev.setLong (d : Dev) (x : Long) : Dev := { d with longs := d.longs.map (fun (y : Long) => if y.token = x.token then x else y) }

/-- STEPPED, as the first step of a long command ends (R452). -/
def Dev.stepped (d : Dev) (x : Long) : Dev := if x.begun then d else d.complete x.fn (cqEntry x.cid 0 1 x.op 0 x.token 0 [])

/-- A long command ends with its FINAL, after its STEPPED where the first step is the last; ABORTs that waited for it end with `st` (R452, R453). -/
def Dev.longEnd (d : Dev) (x : Long) (status detail st : Nat) : Dev :=
  let d := { d.stepped x with longs := d.longs.filter (fun y => y.token != x.token) }
  let d := d.complete x.fn (cqEntry x.cid status 0 x.op detail x.token 0 [])
  d.each x.aborts (fun d cid => d.complete x.fn (cqEntry cid st 0 0x30 0 0 0 []))

/-- Undo what an aborted or refused long command leaves: an adaptation round's job is reset, an image slot stays erased (R165, R454, R479). -/
def Dev.longUndo (d : Dev) (x : Long) : Dev :=
  if x.op = 0x20 then d.resetJob (leAt x.entry 8 1)
  else if x.op = 0x40 then d.slotErase (1 - d.bootSlot)
  else d

/-- After a step: an abort takes the command; else it reports STEPPED on its first step and PROGRESS where a multiple of 10 % is passed (R452). -/
def Dev.longGo (d : Dev) (x : Long) : Dev :=
  if x.aborts ≠ [] then (d.longUndo x).longEnd x 6 0 0
  else
    let p := if x.total = 0 then 0 else 10 * (10 * x.done / x.total)
    let y := if x.pct < p ∧ p < 100 then { x with pct := p } else x
    let d := (d.setLong { y with begun := true }).stepped x
    if x.pct < p ∧ p < 100 then d.progress x.fn (cqEntry x.cid 0 2 x.op 0 x.token p []) else d

/-- A step of PLAN_LOAD: the header first, with the COUNT of an adaptation section past it, the byte that follows the header in `data`; then 1 MiB at a
time; the plan is registered at the end (R309, R310). -/
def Dev.planStep (d : Dev) (x : Long) (data : List Byte) : Dev :=
  let dest := leAt x.entry 20 8
  if x.begun = false then
    let h := data.take 4096
    let r := headerCheck h x.arg x.total
    let off := leAt h 616 4
    let count := if off + 8 ≤ 4096 then leAt h off 1 else leAt data 4096 1
    if r ≠ 0 then d.longEnd x 4 r 9
    else if off ≠ 0 ∧ x.total < off + 8 + 96 * count then d.longEnd x 4 4 9
    else d.longGo { x with entry := x.entry ++ h }
  else
    let hd := x.entry.drop 64
    let n := min 1048576 (x.total - x.done)
    let d := d.hbmUnitWrite 0x00 (dest + x.done) ((data ++ List.replicate n 0).take n)
    let y := { x with done := x.done + n }
    if d.liveOk hd dest y.done = false then d.longEnd y 4 4 9
    else if y.done < y.total then d.longGo y
    else match d.planOf hd dest (if x.fn = 0 then 32 else x.fn - 1) with
      | some p => { d with plans := Tab.set none d.plans x.arg (some p) }.longEnd y 0 0 9
      | none => d.longEnd y 4 4 9

/-- A step of ADAPT_ROUND: `n` is the progress in %. When the job's work has ended, the round asks for the epoch that switches the plan's weight
copy, once the epoch mechanism is free, and ends; when the job failed, so has the round, with the class of the record that failed it, and one whose job was
reset never completes (R164, R165, R321, R449; log entry 60). -/
def Dev.adaptStep (d : Dev) (x : Long) (n : Nat) : Dev :=
  let j := d.job (leAt x.entry 8 1)
  let idle := d.fld epo Fl.EP_STATUS_STATE = 0 ∨ d.fld epo Fl.EP_STATUS_STATE = 3
  if j.state = .failed then d.longEnd x 7 j.failCls 9
  else if x.broken then d.longEnd x 7 0 9
  else if x.begun = true ∧ j.started = false ∧ idle then (d.epochStage 3 0 0 x.arg false).longEnd x 0 0 9
  else d.longGo { x with done := min n 99 }

/-- A step of FW_UPDATE: 1 MiB into the slot that is not running; the whole image is then checked (R479). -/
def Dev.fwStep (d : Dev) (x : Long) (data : List Byte) : Dev :=
  let slot := 1 - d.bootSlot
  let n := min 1048576 (x.total - x.done)
  let d := if x.done = 0 then d.slotErase slot else d
  let d := d.flashWrite (slotBase slot + x.done) ((data ++ List.replicate n 0).take n)
  let y := { x with done := x.done + n }
  if y.done < y.total then d.longGo y
  else
    let c := d.imageCheck slot
    if c ≠ 0 then ((d.imageRefused c).slotErase slot).longEnd y 4 (if c = 7 then 2 else 1) 9
    else
      let d := (d.nameSlot slot).clearMarks 16
      (d.bootRecord kBOOT 0x0A 0 0 slot).longEnd y 0 0 9

/-- A step of SCRUB_SWEEP: `n` units of the side. -/
def Dev.sweepStep (d : Dev) (x : Long) (n : Nat) : Dev :=
  let side := leAt x.entry 8 1
  let n := min n (x.total - x.done)
  let d := if d.contained side then d else d.each (List.range n) (fun d _ => d.scrubUnit side)
  let y := { x with done := x.done + n }
  if y.done < y.total then d.longGo y else d.longEnd y 0 0 9

/-- The functions whose rings have a turn between two steps of a command of function `f`: every other one whose ring holds a command (R452). -/
def Dev.owedBy (d : Dev) (f : Nat) : List Nat := (List.range 33).filter (fun g => g != f && d.takes g)

/-- LONG_COMMAND_STEP: the `i`-th long command in progress runs its next step; `data` is what its host reads return, `good` whether they completed,
`n` its work in the step where the specification gives no measure of it. Nothing while a ring is owed the turn that lies between two steps (R452). A failed
host read ends it with HOST_FAULT (R455). -/
def execLongCommandStep (i : Fin 16) (data : List Byte) (good : Bool) (n : Nat) (s : State) : Out :=
  onDev (fun d =>
    match d.longs[i.val]? with
    | none => d
    | some x =>
      if x.owed.any d.takes then d
      else
      let d := { d with longs := d.longs.map (fun (y : Long) => if y.token = x.token then { y with owed := d.owedBy y.fn } else y) }
      let x := { x with owed := d.owedBy x.fn }
      if good = false ∧ (x.op = 0x10 ∨ x.op = 0x40) then (d.hostErr.longUndo x).longEnd x 8 0 9
      else match x.op with
        | 0x10 => d.planStep x data
        | 0x20 => d.adaptStep x n
        | 0x40 => d.fwStep x data
        | _ => d.sweepStep x n) s

/-! ### Reads of host memory (R444, R457) -/

/-- Bytes of a stream ring reach its consumer (R457). -/
def Dev.consume (d : Dev) (k : Consumer) (bs : List Byte) : Dev :=
  match k with
  | .stream i => (d.inputPut i bs).2
  | .slot u s => (d.playPut u s bs).2
  | .camera c => (d.bsPut c bs).2

/-- The copy of a stream ring: the next bytes offered, or the end of the ring's service (R457). -/
def Dev.srCopy (d : Dev) (c r : Nat) (data : List Byte) (good : Bool) : Dev :=
  let f := c + 1
  let x : RSet := .sr r
  let bs := data.take (min (d.offered f x) (data.length / 4 * 4))
  if d.ringOn f x = false ∨ d.offered f x = 0 then d
  else if good = false then ((d.setFld (rbase f x + Off.X_CFG) Fl.X_CFG_EN 0).ringFlag f x Fl.X_STATUS_FETCH_ERR).hostErr
  else match d.consumerOf c r with
    | none => d
    | some k => ((d.consume k bs).ringAdvance f x bs.length).writeBack f x

/-- Whether a host read has been outstanding for the shortest completion timeout of any range, 50 µs; of a stream ring's read the model keeps no start
(R438, R444). -/
def Dev.mayTimeOut (d : Dev) (r : HostRd) : Bool :=
  match r with
  | .unit k x i =>
    match ((d.core k.val).xfer x).bind (fun t => t.flights[i]?) with
    | some f => decide (f.hostAt + 1250 ≤ d.tick)
    | none => false
  | .ring _ _ => true

/-- A unit's host read ends: with its bytes, or failed. -/
def Dev.unitRead (d : Dev) (k x i : Nat) (data : List Byte) (good : Bool) : Dev :=
  match (d.core k).xfer x with
  | none => d
  | some t => match t.flights[i]? with
    | none => d
    | some f =>
      if f.host ≠ 1 then d
      else
        let n := (f.hostSrc.map (·.2)).foldl (· + ·) 0
        let f' := if good then { f with data := f.data ++ (data ++ List.replicate n 0).take n, hostSrc := [], host := 0 } else { f with host := 2 }
        d.setXfer k { t with flights := t.flights.set i f' }

/-- A host read ends. -/
def Dev.hostRead (d : Dev) (r : HostRd) (data : List Byte) (good : Bool) : Dev :=
  match r with
  | .unit k x i => d.unitRead k.val x i data good
  | .ring c r => d.srCopy c.val r.val data good

/-- HOST_READ_COMPLETE: `good` is whether the completion is successful and not poisoned (R444). -/
def execHostReadComplete (r : HostRd) (data : List Byte) (good : Bool) (s : State) : Out := onDev (fun d => d.hostRead r data good) s

/-- HOST_COMPLETION_TIMEOUT: the read fails (R444). -/
def execHostCompletionTimeout (r : HostRd) (s : State) : Out := onDev (fun d => if d.mayTimeOut r then d.hostRead r [] false else d) s

/-! ### BAR2 (R441, R442, R242) -/

/-- The bytes of a client's BAR2: 256 MiB to 32 GiB in powers of two, one size for PF1 and one for every VF (R440). -/
def Dev.bar2Size (d : Dev) (c : Nat) : Nat := 0x10000000 * 2 ^ min 7 (d.pciField (min c 1 + 1) pciBar)

/-- The device address of a BAR2 offset, none beyond the allotment or the BAR. -/
def Dev.bar2 (d : Dev) (c o : Nat) : Option Nat :=
  let a := hifb + Off.ALLOT c
  let n0 := d.fld a Fl.ALLOT_SIZE0 * 0x10000000
  let n1 := d.fld a Fl.ALLOT_SIZE1 * 0x10000000
  if d.bar2Size c ≤ o then none
  else if o < n0 then some (d.fld a Fl.ALLOT_BASE0 * 0x10000000 + o)
  else if o < n0 + n1 then some (hbmSize + d.fld a Fl.ALLOT_BASE1 * 0x10000000 + (o - n0))
  else none

/-- One byte through BAR2. -/
def Dev.bar2Byte (d : Dev) (c o : Nat) : Byte :=
  match d.bar2 c o with
  | none => 0
  | some a => d.hbm.byte a

/-- Whether a BAR2 offset of a client lies on a contained side. -/
def Dev.bar2Dead (d : Dev) (c o : Nat) : Bool :=
  match d.bar2 c o with
  | none => false
  | some a => d.contained (a / hbmSize)

/-- The parts of an access of `n` bytes at BAR2 offset `o` that lie in the allotment and the BAR: the offset, device address and length of each (R441). -/
def Dev.bar2Parts (d : Dev) (c o n : Nat) : List (Nat × Nat × Nat) :=
  let a := hifb + Off.ALLOT c
  let n0 := d.fld a Fl.ALLOT_SIZE0 * 0x10000000
  let top := min (min (o + n) (d.bar2Size c)) (n0 + d.fld a Fl.ALLOT_SIZE1 * 0x10000000)
  [(o, min top n0), (max o n0, top)].filterMap (fun e =>
    if e.2 ≤ e.1 then none else (d.bar2 c e.1).map (fun x => (e.1, x, e.2 - e.1)))

/-- BAR2_READ: `n` words (R441). At a contained side's part the read completes with Completer Abort, so the words before it are the answer, and the
function logs it through AER (R242). An offset past the BAR is none of the function's, and no word answers (R440). -/
def execBar2Read (c : Fin 32) (o n : Nat) (s : State) : Out :=
  onDev (fun d =>
    let n := min n ((d.bar2Size c.val - o + 3) / 4)
    let at_ (i : Nat) : Word := wd (leNat ((List.range 4).map (fun b => d.bar2Byte c.val (o + 4 * i + b))))
    let got := (List.range n).takeWhile (fun i => !d.bar2Dead c.val (o + 4 * i))
    let ans := got.map at_
    let aer := if got.length < n ∧ d.aer.contains (c.val + 1) = false then d.aer ++ [c.val + 1] else d.aer
    let ask (d : Dev) (e : Nat × Nat × Nat) : Dev := (d.baseTraffic (e.2.1 / hbmSize) 0 e.2.2).hbmCheck e.2.1 e.2.2
    { d.each (d.bar2Parts c.val o (4 * got.length)) ask with answer := ans, aer := aer }) s

/-- BAR2_WRITE: each part's bytes reach its side's HBM; those beyond the allotment or the BAR, or to a contained side, are dropped (R440, R441, R242). -/
def execBar2Write (c : Fin 32) (o : Nat) (bytes : List Byte) (s : State) : Out :=
  onDev (fun d => d.each (d.bar2Parts c.val o bytes.length) (fun d e => d.hbmUnitWrite 0x09 e.2.1 ((bytes.drop (e.1 - o)).take e.2.2))) s

/-! ### Configuration space and the link (R438–R440, R443, R461; log entry 61) -/

/-- A write to field `o` of a function's configuration space, or what its link reports: 0 Bus Master Enable, 1 MSI-X Enable, 2 the size of BAR2, 3 the payload
size, 4 the enable of 10-bit tags, 5 the completion timeout's range, and for PF0 6 the link's power state. An MSI-X Enable of 1 sends what is pending and
not masked. -/
def Dev.configWrite (d : Dev) (f o : Nat) (v : Word) : Dev :=
  let off (l : List Nat) : List Nat := l.filter (· != f) ++ (if v.getLsbD 0 then [] else [f])
  match o with
  | 0 => { d with bmeOff := off d.bmeOff }
  | 1 => { d with msixOff := off d.msixOff }.each (List.range 64) (fun d v => d.msixFlush f v)
  | 2 => if f ≠ 0 ∧ v.toNat ≤ 7 then d.setPci (min f 2) pciBar v.toNat else d
  | 3 => if v.toNat ≤ 2 then d.setPci f 3 v.toNat else d
  | 4 => d.setPci f pciTags (v.toNat % 2)
  | 5 => d.setPci f 5 (v.toNat % 16)
  | 6 => if f = 0 ∧ d.fld (hifb + Off.HIF_STATUS) Fl.HIF_STATUS_SPEED ≠ 0 then d.setFld (hifb + Off.HIF_STATUS) Fl.HIF_STATUS_PM (v.toNat % 4) else d
  | _ => d

/-- A read of a field of a function's configuration space. -/
def Dev.configRead (d : Dev) (f o : Nat) : Word :=
  match o with
  | 0 => wd (b2n (!d.bmeOff.contains f))
  | 1 => wd (b2n (!d.msixOff.contains f))
  | 2 => wd (d.pciField (min f 2) pciBar)
  | 6 => wd (d.fld (hifb + Off.HIF_STATUS) Fl.HIF_STATUS_PM)
  | _ => wd (d.pciField f o)

/-! ### Function Level Reset (R462) -/

/-- Every register of a function's ring block at its reset value, its waiting completions and its shadows gone. -/
def Dev.blockReset (d : Dev) (f : Nat) : Dev :=
  let b := fnBase f
  { d with
    regs := d.regs.filter (fun e => !(decide (b ≤ e.1) && decide (e.1 < b + 0x4000)))
    shadows := d.shadows.filter (fun e => e.1 / 2 ^ 32 != f)
    tel := { d.tel with shadow := Tab.set none d.tel.shadow f none }
    cqWait := Tab.set [] d.cqWait f []
    longs := d.longs.filter (fun x => x.fn != f)
    fenced := d.fenced.filter (· != f)
    rrLost := d.rrLost.filter (fun e => e.1 / 16 != f) }

/-- FUNCTION_LEVEL_RESET of a client, or of PF0. -/
def execFunctionLevelReset (f : Fin 33) (s : State) : Out :=
  onDev (fun d =>
    if f.val = 0 then d.blockReset 0
    else
      let c := f.val - 1
      let d := d.each (d.jobs.filter (fun e => e.2.state != .free && e.2.client == c)) (fun d e => d.resetJob e.1)
      let d := d.each (d.longs.filter (fun x => x.fn == f.val)) (fun d x => d.longUndo x)
      d.blockReset f.val) s

/-! ### SMBus (R463, R464) -/

/-- The device ID bytes, order code and revision of IDENTITY. -/
def execIdentity (s : State) : Out :=
  onDev (fun d => { d with answer := (natLE 4 Config.pciId.toNat ++ natLE 2 (Config.deviceInfo.toNat % 2) ++ natLE 2 (Config.deviceInfo.toNat / 256)
    ++ natLE 8 Config.deviceId.toNat).map (fun b => b.setWidth 32) }) s

/-- DEVICE_STATE. -/
def execDeviceState (s : State) : Out :=
  onDev (fun d =>
    let v := d.fld (pwrb + Off.PWR_DEVSTATE) Fl.PWR_DEVSTATE_DSTATE + 4 * b2n (d.contained 0) + 8 * b2n (d.contained 1)
      + 16 * d.fld (hifb + Off.HIF_STATUS) Fl.HIF_STATUS_READY + 32 * b2n (d.fld (bootb + Off.BOOT_STATUS) Fl.BOOT_STATUS_STATE == 2)
    { d with answer := [wd v] }) s

/-- TEMP_MAX. -/
def execTempMax (s : State) : Out := onDev (fun d => { d with answer := [wd (d.fld (Block.tel.base + Off.TEL_TEMP_MAX) Fl.TEL_TEMP_MAX_TEMP)] }) s

/-- POWER_IN. -/
def execPowerIn (s : State) : Out := onDev (fun d => { d with answer := [wd (d.fld (pwrb + Off.PWR_VIN) Fl.PWR_VIN_AVG)] }) s

/-- Whether an SMBus write is taken: its PEC is right, or none is asked for (R463). -/
def Dev.pecOk (d : Dev) (pec : Bool) : Bool := pec || d.fld (hifb + Off.SMB_CFG) Fl.SMB_CFG_PEC_REQ == 0

/-- POWER_LIMIT: a read, or a write of 150–750. -/
def execPowerLimit (w : Option (BitVec 16)) (pec : Bool) (s : State) : Out :=
  onDev (fun d =>
    let o := pwrb + Off.PWR_GOV_CFG
    match w with
    | none => { d with answer := [wd (d.fld o Fl.PWR_GOV_CFG_LIMIT)] }
    | some v => if d.pecOk pec = true ∧ 150 ≤ v.toNat ∧ v.toNat ≤ 750 then d.setFld o Fl.PWR_GOV_CFG_LIMIT v.toNat else d) s

/-- ALERT_STATUS: a read, or a write of 1 to the bits to clear. -/
def execAlertStatus (w : Option Byte) (pec : Bool) (s : State) : Out :=
  onDev (fun d =>
    match w with
    | none => { d with answer := [wd d.alerts] }
    | some v => if d.pecOk pec then { d with alerts := (wd d.alerts &&& ~~~ v.setWidth 32).toNat } else d) s

/-- ALERT_RESPONSE: while ALERT_N is low the device answers with its address. -/
def execAlertResponse (s : State) : Out :=
  onDev (fun d => if d.alerts = 0 then { d with answer := [] } else { d with answer := [wd (2 * d.fld (hifb + Off.SMB_CFG) Fl.SMB_CFG_ADDR)] }) s

end Sys2Proof.Machine
end

