-- ==== Sys2Proof/Machine/Power.lean ====
section
/-! DEFINITION. Power: the Sill and its Shutters, the device states, the governor, clocks and rails, junction sensors (R491–R508, R520–R523, R535). -/

namespace Sys2Proof.Machine

/-! ### Events (R505, R506) -/

/-- The Sill's source number. -/
def srcSill : Nat := 1
/-- A POWER record of the Hinge. -/
def Dev.powerRecord (d : Dev) (code obj det : Nat) : Dev := d.emit { cls := kPOWER, code := code, src := 0, obj := obj, detail := det }
/-- OFF_ACCESS: a write that met a domain not ON, by its register's offset (R34, R35). -/
def Dev.offAccess (d : Dev) (o : Nat) : Dev := d.emit { cls := kPOWER, code := 0x05, src := srcSill, obj := o }
/-- DSTATE: the state with the waiting bit. -/
def Dev.stateRecord (d : Dev) (st wait : Nat) : Dev := d.powerRecord 0x06 0 (st + 4 * wait)

/-- PWR_DEVSTATE.DSTATE: 0 D0-active, 1 D0-doze, 2 D3hot. -/
def Dev.dstate (d : Dev) : Nat := d.fld (pwrb + Off.PWR_DEVSTATE) Fl.PWR_DEVSTATE_DSTATE
/-- Set DSTATE. -/
def Dev.setDstate (d : Dev) (st : Nat) : Dev := d.setFld (pwrb + Off.PWR_DEVSTATE) Fl.PWR_DEVSTATE_DSTATE st
/-- Whether Casements and the mirror engine close in the present state (R498). -/
def Dev.dark (d : Dev) : Bool := d.dstate == 2 && d.fld (pwrb + Off.PWR_DOZE) Fl.PWR_DOZE_D3_DARK == 1

/-! ### Closing conditions (R493) -/

/-- The cores of a cluster. -/
def coresIn (c : Nat) : List Nat := (List.range 16).map (16 * c + ·)
/-- The units of audio group `g` of four ports and four virtual ports. -/
def unitsIn (g : Nat) : List Nat := (List.range 16).filter (fun u => u % 8 / 4 == g)

/-- Whether the closing condition of a domain holds; a picture in progress completes, and its engine stays open for it (R372, R493, R498). -/
def Dev.closable (d : Dev) (n : Nat) : Bool :=
  if n < 32 then (coresIn n).all (fun k => (d.core k).state == .idle || (d.core k).state == .reset)
  else if n < 34 then d.dstate == 2
  else if n < 36 then d.dstate != 0
  else if n < 40 then
    (List.range 64).all (fun c => !(d.camEngine c == n - 36 && (d.camEn c || (d.cam c).pendingEn))) && (Tab.get none d.engines (n - 36)).isNone
  else if n = 40 then (List.range 512).all (fun o => d.fld (fin + Off.OUT_CFG o) Fl.OUT_CFG_EN == 0)
  else if n < 43 then
    (unitsIn (n - 41)).all (fun u => !(d.aunit u).running && !(decide (u < 8) && d.fld (ublk u + Off.AP_CTRL) Fl.AP_CTRL_MCLK_EN == 1))
  else if n < 45 then (casePanes (n - 43)).all (fun p => !d.paneEn p) || d.dark
  else if n = shCrypto then d.secOp == 0 && d.longs.all (fun x => x.op != 0x40)
  else if n = shDebug then true
  else if n = shMirror then !d.mirEn || d.dark
  else false

/-- The state an AUTO policy closes a domain to: side fabrics and HBM controllers are held in RET, clusters by their policy (R493, R498). -/
def Dev.closeTarget (d : Dev) (n : Nat) : Nat := if (32 ≤ n ∧ n < 36) ∨ (n < 32 ∧ d.domPolicy n = 1) then 1 else 0

/-! ### Writes that wait for a domain (R35) -/

/-- Whether a unit's enable waits for a domain. -/
def Dev.awaited (d : Dev) (n : Nat) : Bool := d.held.any (fun h => h.2.2.contains n)

/-- The writes that wait for a domain that will not open are dropped, and so are the enables of cameras that wait for their engine, which fail
check 3; OFF_ACCESS names each (R35, R365, R496, R507). -/
def Dev.dropHeld (d : Dev) (n : Nat) : Dev :=
  let gone := d.held.filter (fun h => h.2.2.contains n)
  let d := { d with held := d.held.filter (fun h => !h.2.2.contains n) }.each gone (fun d h => d.offAccess h.1)
  let cams := (List.range 64).filter (fun c => (d.cam c).pendingEn && shEngine (d.camEngine c) == n)
  d.each cams (fun d c => ((d.setCam c { d.cam c with pendingEn := false }).offAccess (fin + Off.CAM_CFG c)).videoRecord 0x04 (0x10 + d.camEngine c) c none
    (d.reg (fin + Off.CAM_FRAME c)).toNat 3)

/-! ### The Sill (R494–R497) -/

/-- Whether a queued request has nothing to do: its state is reached, its domain is barred from opening, or its closing condition is false. -/
def Dev.pointless (d : Dev) (e : Nat × Nat) : Bool :=
  d.dom e.1 == e.2 || (if e.2 = 2 then d.domBarred e.1 else !d.closable e.1 || d.awaited e.1)

/-- Whether a request waits: its domain is being switched, or its side fabric is not ON. -/
def Dev.waitsFor (d : Dev) (e : Nat × Nat) : Bool :=
  (d.switching e.1).isSome || (e.2 == 2 && ((decide (e.1 < 32) && !d.domOn (shFabric (e.1 / 16))) || (decide (34 ≤ e.1 ∧ e.1 < 36) && !d.domOn (shFabric (e.1 - 34)))))

/-- The request to serve next, and the queue without it and without pointless requests ahead of it. -/
def Dev.nextSwitch (d : Dev) : List (Nat × Nat) → Option (Nat × Nat) × List (Nat × Nat)
  | [] => (none, [])
  | e :: q =>
    if d.waitsFor e then ((d.nextSwitch q).1, e :: (d.nextSwitch q).2)
    else if d.pointless e then d.nextSwitch q
    else (some e, q)

/-- A core whose cluster has left ON: RET keeps its registers, which reads show as they stood, and no memory is kept (R34, R493). -/
def Dev.coreDark (d : Dev) (ret : Bool) (k : Nat) : Dev :=
  let c := d.core k
  let x : Core := if ret then { c with
      imem := [], imemBad := [], mem := [], ue := [], ce := [], gb := [], luts := []
      cyc := c.cyc + (Tab.get 0 d.sideCyc (sideOf k) - c.cycMark) } else Core.atReset
  (d.setStage k []).setCore k x

/-- What a domain that leaves ON for RET or OFF gives up (R248, R493). -/
def Dev.leaveOn (d : Dev) (n target : Nat) : Dev :=
  if n < 32 then
    let d := d.latchClose n
    let d := d.each (coresIn n) (fun d k => d.coreDark (target == 1) k)
    let a := 0x2000000 + n * 0x200000
    if target = 1 then d.setFld ((Block.seq n).base + Off.CS_STATUS) Fl.CS_STATUS_READY 0
    else { d with regs := d.regs.filter (fun e => !(decide (a ≤ e.1) && decide (e.1 < a + 0x200000))) }
  else if n < 34 then d.setFld ((Block.sc (n - 32)).base + Off.SC_STATUS) Fl.SC_STATUS_RUNNING 0
  else if n < 36 then d.setFld ((Block.hbm (n - 34)).base + Off.HBM_STATUS) Fl.HBM_STATUS_SELF_REFRESH 1
  else if n < 40 then { d with engines := Tab.set none d.engines (n - 36) none }
  else if n = 40 then { d with frames := [] }
  else if 43 ≤ n ∧ n < 45 then d.caseDark (n - 43)
  else d

/-- SHUTTER_SWITCH_START: the Sill begins the next switch, STAGGER µs after the previous one began (R494). -/
def execShutterSwitchStart (s : State) : Out :=
  onDev (fun d =>
    if d.tick < d.sill.next then d
    else
      let r := d.nextSwitch d.sill.queue
      let d := { d with sill := { d.sill with queue := r.2 } }
      match r.1 with
      | none => d
      | some (n, t) =>
        let d := if t = 2 then d else d.leaveOn n t
        let gap := 25 * d.fld (pwrb + Off.PWR_EXP) Fl.PWR_EXP_STAGGER
        { d with sill := { d.sill with busy := Tab.set none d.sill.busy n (some (t, d.tick)), next := d.tick + gap } }.setDom n 3) s

/-- The sources whose units power on with a domain, by their numbers (R491, R510). A side's own units keep their counts in RET and begin them at
start-up. -/
def domainSources (n : Nat) : List Nat :=
  if n < 32 then [srcSeq n, srcLatch n] ++ (coresIn n).map srcDma
  else if n < 36 then []
  else if n < 40 then [0x10 + (n - 36)]
  else if n = shScaler then [0x14]
  else if 43 ≤ n ∧ n < 45 then [0x18 + (n - 43)]
  else if n = shPcie then [0x09]
  else if n = shMirror then [0x08]
  else []

/-- What a domain that reaches ON brings up, with the tick counts of its units; every core of a cluster enters RESET, from OFF and from RET
(R4, R71, R248, R273, R380, R497). -/
def Dev.reachOn (d : Dev) (n : Nat) : Dev :=
  let d := d.each (domainSources n) (fun d x => { d with tickBase := Tab.set 0 d.tickBase x d.tick })
  if n < 32 then
    let d := d.each (coresIn n) (fun d k => d.setCore k { Core.atReset with cycMark := Tab.get 0 d.sideCyc (sideOf k) })
    (d.setLu n Latch.fresh).setFld ((Block.seq n).base + Off.CS_STATUS) Fl.CS_STATUS_READY 1
  else if n < 34 then d.setFld ((Block.sc (n - 32)).base + Off.SC_STATUS) Fl.SC_STATUS_RUNNING 1
  else if n < 36 then d.setFld ((Block.hbm (n - 34)).base + Off.HBM_STATUS) Fl.HBM_STATUS_SELF_REFRESH 0
  else if 43 ≤ n ∧ n < 45 then d.caseLight (n - 43)
  else if n = shMirror then d.setMir { d.mir with hbSeen := d.tick }
  else d

/-- Whether a sensor's domain is not OFF: the side's fabric, its HBM controller, PCIe, a decode engine, the Casement (R521, R542). -/
def Dev.sensorOn (d : Dev) (n : Nat) : Bool :=
  if n < 16 then d.dom (shFabric (n / 8)) != 0
  else if n < 18 then d.dom (shHbm (n - 16)) != 0
  else if n = 18 then d.dom shPcie != 0
  else if n = 19 then (List.range 4).any (fun e => d.dom (shEngine e) != 0)
  else d.dom (shCase ((n - 20) / 2)) != 0

/-- TEL_TEMP_MAX over the valid sensors. -/
def Dev.tempMax (d : Dev) : Dev :=
  let o (n : Nat) : Nat := Block.tel.base + Off.TEL_TEMP n
  let temp (n : Nat) : Int := sgn 16 (d.fld (o n) Fl.TEL_TEMP_TEMP)
  let valid := (List.range 24).filter (fun n => d.fld (o n) Fl.TEL_TEMP_VALID == 1)
  match valid with
  | [] => d
  | n :: ns =>
    let m := ns.foldl (fun m n => if temp m < temp n then n else m) n
    let x := Block.tel.base + Off.TEL_TEMP_MAX
    (d.setFld x Fl.TEL_TEMP_MAX_TEMP (d.fld (o m) Fl.TEL_TEMP_TEMP)).setFld x Fl.TEL_TEMP_MAX_SENSOR m

/-- As a domain reaches OFF, the sensors that it powers read VALID 0 and leave the maximum (R521). -/
def Dev.sensorsDark (d : Dev) : Dev :=
  (d.each ((List.range 24).filter (fun n => !d.sensorOn n)) (fun d n =>
    { d with hot := Tab.set 0 d.hot n 0 }.setFld (Block.tel.base + Off.TEL_TEMP n) Fl.TEL_TEMP_VALID 0)).tempMax

/-- SHUTTER_REACH_ON: a domain reaches its new state and its units become ready; one whose policy became KEEP_OFF is closed again (R495, R507). -/
def execShutterReachOn (n : Fin 50) (s : State) : Out :=
  onDev (fun d =>
    match d.switching n.val with
    | none => d
    | some (t, _) =>
      let d := { d with sill := { d.sill with busy := Tab.set none d.sill.busy n.val none } }.setDom n.val t
      if t = 0 then d.sensorsDark
      else if t ≠ 2 then d
      else
        let d := d.reachOn n.val
        if d.domPolicy n.val = 3 then d.shutRequest n.val 0 else d) s

/-- SHUTTER_FAULT: a domain has not reached ON 20 µs after its switch began, 60 µs for a side fabric; it returns to OFF and is DOWN (R496). -/
def execShutterFault (n : Fin 50) (s : State) : Out :=
  onDev (fun d =>
    match d.switching n.val with
    | none => d
    | some (t, since) =>
      let bound := if n.val = 32 ∨ n.val = 33 then 1500 else 500
      if t ≠ 2 ∨ d.tick < since + bound then d
      else
        let d := { d with sill := { d.sill with busy := Tab.set none d.sill.busy n.val none } }.setDom n.val 0
        let d := d.setFld (domOff n.val) Fl.PWR_DOM_DOWN 1
        (d.sensorsDark.emit { cls := kPOWER, code := 0x08, src := srcSill, obj := n.val }).dropHeld n.val) s

/-- SHUTTER_IDLE_CLOSE: an AUTO domain whose closing condition has held for 2,500 ticks is queued for closing (R493). -/
def execShutterIdleClose (n : Fin 50) (s : State) : Out :=
  onDev (fun d =>
    let since := Tab.get 0 d.sill.idle n.val
    if since = 0 ∨ d.tick < since - 1 + 2500 ∨ d.domOn n.val = false ∨ d.closable n.val = false ∨ 2 ≤ d.domPolicy n.val then d
    else d.shutRequest n.val (d.closeTarget n.val)) s

/-- One tick of the closing conditions: the tick since which each has held, and for an HBM controller the tick since which no unit has come (R498). -/
def Dev.idleMarks (d : Dev) : Dev :=
  d.each (List.range 50) (fun d n =>
    let was := Tab.get 0 d.sill.idle n
    let now := if d.domOn n = true ∧ (d.closable n = true ∨ n = 34 ∨ n = 35) then (if was = 0 then d.tick + 1 else was) else 0
    { d with sill := { d.sill with idle := Tab.set 0 d.sill.idle n now } })

/-! ### Device states (R498) -/

/-- The doze conditions. -/
def Dev.dozeOk (d : Dev) : Bool :=
  d.jobs.all (fun e => !(e.2.state == .resident || e.2.state == .saving || e.2.state == .restoring))
    && d.streams.all (fun e => !(e.2.state == 2 || e.2.state == 3))
    && (List.range 64).all (fun c => !d.camEn c) && !d.audioRuns && d.longs.isEmpty

/-- The D3 conditions. -/
def Dev.d3Ok (d : Dev) : Bool := d.dozeOk && d.streams.all (fun e => e.2.state == 0)

/-- Whether work waits that wakes the device: a dispatch, a START, a host command that needs a side, a camera enable or an audio start. -/
def Dev.waking (d : Dev) : Bool :=
  !d.dozeOk || d.gov.called || d.jobs.any (fun e => e.2.started || e.2.wants.isSome) || (List.range 64).any (fun c => (d.cam c).pendingEn) || !d.held.isEmpty

/-- The AUTO domains among `ns` that are ON and may close are queued for closing. -/
def Dev.closeAll (d : Dev) (ns : List Nat) : Dev :=
  d.each ns (fun d n => if d.domOn n = true ∧ d.closable n = true ∧ d.domPolicy n < 2 then d.shutRequest n (d.closeTarget n) else d)

/-- DOZE_ENTRY: the doze conditions have held for DOZE_IDLE ticks. -/
def execDozeEntry (s : State) : Out :=
  onDev (fun d =>
    match d.gov.dozeSince with
    | none => d
    | some t =>
      if d.dstate ≠ 0 ∨ d.fld (pwrb + Off.PWR_DOZE) Fl.PWR_DOZE_DOZE_EN = 0 ∨ d.waking = true
          ∨ d.tick < t + d.fld (pwrb + Off.PWR_DOZE_IDLE) Fl.PWR_DOZE_IDLE_TICKS then d
      else ((d.setDstate 1).stateRecord 1 0).closeAll (List.range 32 ++ [36, 37, 38, 39, 40])) s

/-- The device follows PF0 into D3hot. -/
def Dev.enterD3 (d : Dev) : Dev :=
  let d := (d.setFld (pwrb + Off.PWR_DEVSTATE) Fl.PWR_DEVSTATE_D3_WAIT 0).setDstate 2
  (d.stateRecord 2 0).closeAll (List.range 32 ++ [36, 37, 38, 39, 40, 49, 43, 44, 34, 35, 32, 33])

/-- D3HOT_ENTRY: PF0 enters D3hot; while the D3 conditions do not hold the device records that it waits. -/
def execD3hotEntry (s : State) : Out :=
  onDev (fun d =>
    if d.gov.d3hot then d
    else
      let d := { d with gov := { d.gov with d3hot := true } }
      if d.d3Ok then d.enterD3 else (d.setFld (pwrb + Off.PWR_DEVSTATE) Fl.PWR_DEVSTATE_D3_WAIT 1).stateRecord d.dstate 1) s

/-- The device returns to D0-active: HBM controllers wake, and after D3hot the side fabrics, the Casements and the mirror engine that are in use. -/
def Dev.wake (d : Dev) : Dev :=
  let was := d.dstate
  let d := (d.setDstate 0).stateRecord 0 0
  let links := [43, 44].filter (fun n => (casePanes (n - 43)).any (fun p => d.paneEn p)) ++ (if d.mirEn then [shMirror] else [])
  d.each ((if was = 2 then [32, 33] else []) ++ [34, 35] ++ (if was = 2 then links else [])) Dev.askOpen

/-- D3HOT_EXIT: PF0 returns to D0. -/
def execD3hotExit (s : State) : Out :=
  onDev (fun d =>
    let d := { d with gov := { d.gov with d3hot := false } }.setFld (pwrb + Off.PWR_DEVSTATE) Fl.PWR_DEVSTATE_D3_WAIT 0
    if d.dstate = 2 then d.wake else d) s

/-- One tick of the device states: how long the doze conditions have held, a D3hot entry that waited, a waking event. -/
def Dev.stateTick (d : Dev) : Dev :=
  let since := if d.dozeOk then some (d.gov.dozeSince.getD d.tick) else none
  let wake := decide (d.dstate = 1) && d.waking
  let d := { d with gov := { d.gov with dozeSince := since, called := false } }
  if d.fld (pwrb + Off.PWR_DEVSTATE) Fl.PWR_DEVSTATE_D3_WAIT = 1 ∧ d.d3Ok = true then d.enterD3
  else if wake then d.wake
  else d

/-! ### The governor (R499–R501) -/

/-- VIN_SAMPLE: board input power, in 10 mW units, is sampled. -/
def execVinSample (v : BitVec 16) (s : State) : Out :=
  onDev (fun d => { d with gov := { d.gov with sum := d.gov.sum + v.toNat, n := d.gov.n + 1 } }) s

/-- The clock point in force on a side. -/
def Dev.clkOf (d : Dev) (s : Nat) : Nat := d.fld (pwrb + Off.PWR_GOV_STATUS) (govClk s)
/-- The ceiling of a side. -/
def ceilFld (s : Nat) : Fld := if s = 0 then Fl.PWR_CEIL_CEIL0 else Fl.PWR_CEIL_CEIL1
/-- The ceiling in force on a side. -/
def Dev.ceil (d : Dev) (s : Nat) : Nat := d.fld (pwrb + Off.PWR_CEIL) (ceilFld s)

/-- Whether the epoch mechanism can take a change (R321). -/
def Dev.epochFree (d : Dev) : Bool := d.fld epo Fl.EP_STATUS_STATE == 0 || d.fld epo Fl.EP_STATUS_STATE == 3

/-- A governor step: an epoch of KIND 1 with its record and, below the top point, its alert (R464); a decision that finds the epoch mechanism busy is dropped (R499). -/
def Dev.govStep (d : Dev) (s new avg : Nat) : Dev :=
  if d.epochFree = false then d
  else
    let old := d.clkOf s
    let d := d.epochStage 1 s new 0 true
    let d := if new < 17 then { d with alerts := d.alerts ||| 2 } else d
    (d.powerRecord 0x01 s (old + new * 2 ^ 8 + avg % 2 ^ 16 * 2 ^ 32)).bump (pwrb + Off.PWR_STEPS) 1 { cls := kPOWER, code := 0x09, src := 0 }

/-- The governor's decision at the end of a window of average `avg` (10 mW units). -/
def Dev.govern (d : Dev) (avg : Nat) : Dev :=
  let g := pwrb + Off.PWR_GOV_CFG
  let limit := 10 * d.fld g Fl.PWR_GOV_CFG_LIMIT
  let c0 := d.clkOf 0
  let c1 := d.clkOf 1
  let down := decide (limit < avg) || d.gov.hot
  let floor := decide (down = true ∧ c0 ≤ 4 ∧ c1 ≤ 4)
  let noted := d.gov.floorNoted
  let d := { d with gov := { d.gov with floorNoted := floor } }.setFld (pwrb + Off.PWR_GOV_STATUS) Fl.PWR_GOV_STATUS_FLOOR (b2n floor)
  if floor then (if noted then d else d.powerRecord 0x02 0 0)
  else if down then
    let s := if c0 < c1 then 1 else 0
    d.govStep s ((if s = 0 then c0 else c1) - 1) avg
  else if d.ceil 0 < c0 then d.govStep 0 (c0 - 1) avg
  else if d.ceil 1 < c1 then d.govStep 1 (c1 - 1) avg
  else if d.fld g Fl.PWR_GOV_CFG_UP_WINDOWS ≤ d.gov.calm then
    let s := if c1 < c0 then 1 else 0
    let c := if s = 0 then c0 else c1
    if c < d.ceil s ∧ d.epochFree = true then { d with gov := { d.gov with calm := 0 } }.govStep s (c + 1) avg else d
  else d

/-- The consecutive windows at or below LIMIT − HYST with every sensor at or below 97 °C, the one that ends with average `avg` among them (R499). -/
def Dev.calmWindows (d : Dev) (avg : Nat) : Nat :=
  let g := pwrb + Off.PWR_GOV_CFG
  if avg ≤ 10 * d.fld g Fl.PWR_GOV_CFG_LIMIT - 10 * d.fld g Fl.PWR_GOV_CFG_HYST ∧ d.gov.warm = false then d.gov.calm + 1 else 0

/-- GOV_WINDOW: a window of 1 ms ends; `rails` are the rail powers of TEL_RAIL averaged over it (R499, R523). The window's figures are taken in
every case; no step is taken under GOV_DIS, nor while calibration function 5 or 6 is down (R501, R508). -/
def execGovWindow (rails : List (BitVec 16)) (s : State) : Out :=
  onDev (fun d =>
    let d := d.each (List.range 8) (fun d r => d.setReg (Block.tel.base + Off.TEL_RAIL r) (((rails[r]?).getD 0).setWidth 32))
    if d.gov.n = 0 then { d with gov := { d.gov with hot := false, warm := false } }
    else
      let avg := d.gov.sum / d.gov.n
      let o := pwrb + Off.PWR_VIN
      let d := (d.setFld o Fl.PWR_VIN_AVG avg).setFld o Fl.PWR_VIN_PEAK (max avg (d.fld o Fl.PWR_VIN_PEAK))
      let d := { d with gov := { d.gov with calm := d.calmWindows avg } }
      let still := d.fld (pwrb + Off.PWR_EXP) Fl.PWR_EXP_GOV_DIS = 1 ∨ d.fld (pwrb + Off.PWR_GOV_STATUS) Fl.PWR_GOV_STATUS_CAL_HOLD = 1
      let d := if still then d else d.govern avg
      { d with gov := { d.gov with sum := 0, n := 0, hot := false, warm := false } }) s

/-- PWR_CNT_CTRL.CNT_CLR. -/
def Dev.pwrClear (d : Dev) : Dev := (d.setReg (pwrb + Off.PWR_STEPS) 0).setFld (pwrb + Off.PWR_VIN) Fl.PWR_VIN_PEAK 0

/-! ### Clocks and rails (R492, R504, R535) -/

/-- PLL_UNLOCK: a side PLL loses lock, and the side is contained. -/
def execPllUnlock (side : Fin 2) (s : State) : Out :=
  onDev (fun d => if d.domOn (shFabric side.val) then (d.powerRecord 0x04 side.val 0).contain side.val 1 else d) s

/-- RAIL_FAULT: VDD_CORE s has stayed below 0.50 V for 1 µs. -/
def execRailFault (side : Fin 2) (s : State) : Out := onDev (fun d => (d.powerRecord 0x03 side.val 0).contain side.val 5) s

/-- HBM_RAIL_FAULT: an HBM rail of the side has been below range for 1 µs (R535, R21). -/
def execHbmRailFault (side : Fin 2) (s : State) : Out := onDev (fun d => (d.powerRecord 0x03 side.val 0).contain side.val 5) s

/-- OPT_RAIL_FAULT: both Casements go DARK as for light lost (R535, R381). -/
def execOptRailFault (s : State) : Out :=
  onDev (fun d => d.each [0, 1] (fun d k => if d.caseState k = 0 then d else (d.caseDark k).linkRecord 0x03 (4 * k) 0 0 0)) s

/-- SOC_RAIL_FAULT: an always-on, SoC or I/O rail leaves its range; the device is held in reset and starts as from power-on (R535). -/
def execSocRailFault (s : State) : Out := onDev Dev.powerCycle s

/-- RAIL_MONITOR_SAMPLE: VDD_CORE of a side is sampled, in mV; a rail low but at or above 0.50 V is recorded once, and once when it is back (R504). -/
def execRailMonitorSample (side : Fin 2) (mv : BitVec 16) (s : State) : Out :=
  onDev (fun d =>
    let v := mv.toNat
    let base := if side.val = 0 then d.boot.mv0 else d.boot.mv1
    let low := decide (500 ≤ v) && (decide (v < 550) || decide (v + 20 < base))
    let was := d.railLow.contains side.val
    if low = true ∧ was = false then { d with railLow := side.val :: d.railLow }.powerRecord 0x0A side.val v
    else if low = false ∧ was = true ∧ 550 ≤ v then { d with railLow := d.railLow.filter (· != side.val) }.powerRecord 0x0A side.val (v + 2 ^ 16)
    else d) s

/-! ### Junction sensors (R521, R522) -/

/-- What a valid reading of `t` sixteenths of a degree does: the governor's and the alert's view, THERMAL at 100 °C and back at 97 °C, and the
containment of both sides at 105 °C in two consecutive samples, once a run and again after a side's reset (R499, R505, R522, R464). -/
def Dev.thermal (d : Dev) (n : Nat) (t : Int) : Dev :=
  let det := (t % 65536).toNat
  let high := decide (1600 < t)
  let d := { d with gov := { d.gov with hot := d.gov.hot || high, warm := d.gov.warm || decide (1552 < t) } }
  let d := if high then { d with alerts := d.alerts ||| 1 } else d
  let noted := d.warned.contains n
  let d := if high = true ∧ noted = false then { d with warned := n :: d.warned }.powerRecord 0x07 n det
    else if t ≤ 1552 ∧ noted = true then { d with warned := d.warned.filter (· != n) }.powerRecord 0x07 n det
    else d
  let k := if 1680 ≤ t then min 2 (Tab.get 0 d.hot n + 1) else 0
  let due := decide (k = 2) && (decide (Tab.get 0 d.hot n < 2) || !(d.contained 0 && d.contained 1))
  let d := { d with hot := Tab.set 0 d.hot n k }
  if due then ((d.contain 0 8).contain 1 8).powerRecord 0x07 n det else d

/-- SENSOR_SAMPLE: a junction sensor is sampled, in 1/16 °C with its calibration offset applied (R521). -/
def execSensorSample (n : Fin 24) (temp : BitVec 16) (s : State) : Out :=
  onDev (fun d =>
    let o := Block.tel.base + Off.TEL_TEMP n.val
    if d.sensorOn n.val = false then
      { d with hot := Tab.set 0 d.hot n.val 0 }.setFld o Fl.TEL_TEMP_VALID 0 |>.tempMax
    else
      let d := (d.setFld o Fl.TEL_TEMP_TEMP temp.toNat).setFld o Fl.TEL_TEMP_VALID 1
      d.tempMax.thermal n.val temp.toInt) s

/-- APLL_BIAS_TRIM: the audio PLL's bias is trimmed by less than 0.01 ppm, with no relock; no register shows it (R520). -/
def execApllBiasTrim (s : State) : Out := onDev (fun d => d) s

/-! ### Registers (R507, R533) -/

/-- A write of PWR_DOM: KEEP_OFF is taken by some Shutters alone, and only while their closing condition holds. -/
def Dev.domWrite (d : Dev) (n : Nat) (v : Word) : Dev :=
  let p := Fl.PWR_DOM_POLICY.get v
  if p ≠ 3 then d.setFld (domOff n) Fl.PWR_DOM_POLICY p
  else if ((36 ≤ n ∧ n ≤ 44) ∨ n = 46 ∨ n = 48 ∨ n = 49) ∧ d.closable n = true then
    let d := (d.setFld (domOff n) Fl.PWR_DOM_POLICY 3).dropHeld n
    if d.domOn n then d.shutRequest n 0 else d
  else d

/-- A write of PWR_CEIL: each ceiling from 4 up to the point that R533 allows. -/
def Dev.ceilWrite (d : Dev) (v : Word) : Dev :=
  d.each [0, 1] (fun d s =>
    let c := (ceilFld s).get v
    if 4 ≤ c ∧ c ≤ (if s = 0 then d.boot.cap0 else d.boot.cap1) then d.setFld (pwrb + Off.PWR_CEIL) (ceilFld s) c else d)

/-- A write to a register of the PWR block. -/
def Dev.pwrWrite (d : Dev) (l : Nat) (v : Word) (plain : Dev → Dev) : Dev :=
  if 0x100 ≤ l ∧ l < 0x100 + 200 then d.domWrite ((l - 0x100) / 4) v
  else if l = Off.PWR_CEIL then d.ceilWrite v
  else if l = Off.PWR_CNT_CTRL then (if Fl.PWR_CNT_CTRL_CNT_CLR.on v then d.pwrClear else d)
  else plain d

end Sys2Proof.Machine
end

