-- ==== Sys2Proof/Machine/Telemetry.lean ====
section
/-! DEFINITION. The telemetry block: the record log and its shadows, the HBM repair list, a fault of the Hinge's memory (R512–R515, R525). -/

namespace Sys2Proof.Machine

/-- The base of the TEL block. -/
def telb : Nat := Block.tel.base

/-! ### The log (R513, R514) -/

/-- Word `w` of a record. -/
def Record.word (r : Record) (w : Nat) : Word := wd (leAt r.bytes (4 * w) 4)

/-- A record from its 32 bytes. -/
def Record.ofBytes (b : List Byte) : Record :=
  ⟨BitVec.ofNat 8 (leAt b 0 1), BitVec.ofNat 8 (leAt b 1 1), BitVec.ofNat 16 (leAt b 2 2), BitVec.ofNat 64 (leAt b 4 8), BitVec.ofNat 16 (leAt b 12 2),
    BitVec.ofNat 16 (leAt b 14 2), BitVec.ofNat 64 (leAt b 16 8), BitVec.ofNat 64 (leAt b 24 8)⟩

/-- The record of slot `s`. -/
def Dev.logRec (d : Dev) (s : Nat) : Record := Tab.get Record.zero d.tel.log s

/-- What a slot with an uncorrectable error reads as: byte 0 is 0x00, the other bytes are free values (R514, log entry 4). -/
def Dev.damaged (d : Dev) : Record × Dev :=
  let r := (List.range 8).foldl (fun (a : List Byte × Dev) _ => (a.1 ++ natLE 4 a.2.free.1.toNat, a.2.free.2)) ([], d)
  ({ Record.ofBytes r.1 with cls := 0 }, r.2)

/-- The contents of a slot as a read of the host finds them; `bad` is an uncorrectable error of the log's memory, which counts in TEL_LOG_LOST. -/
def Dev.slotNow (d : Dev) (s : Nat) (bad : Bool) : Record × Dev :=
  if bad then
    let r := d.damaged
    (r.1, r.2.telCount Off.TEL_LOG_LOST)
  else (d.logRec s, d)

/-- A read of word `i` of TEL_LOG: word 0 takes the slot into the reader's shadow, and words 1–7 of that slot come from it. -/
def Dev.logRead (d : Dev) (who : Nat) (i : Nat) (bad : Bool) : Word × Dev :=
  let s := i / 8
  let w := i % 8
  if w = 0 then
    let r := d.slotNow s bad
    (r.1.word 0, { r.2 with tel := { r.2.tel with shadow := Tab.set none r.2.tel.shadow who (some (s, r.1)) } })
  else match Tab.get none d.tel.shadow who with
    | some (t, r) =>
      if t = s then (r.word w, d)
      else
        let r := d.slotNow s bad
        (r.1.word w, r.2)
    | none =>
      let r := d.slotNow s bad
      (r.1.word w, r.2)

/-- LOG_SLOT_READ: a read of a word of the record log (R513). -/
def execLogSlotRead (who : Who) (i : Fin 8192) (bad : Bool) (s : State) : Out :=
  onDev (fun d =>
    let r := d.logRead (whoKey who) i.val bad
    { r.2 with answer := [r.1] }) s

/-- The word of the record log that a register of the TEL block shows. -/
def logWord (b : Block) (l : Nat) : Option Nat :=
  if b = .tel ∧ 0x10000 ≤ l ∧ l < 0x18000 then some ((l - 0x10000) / 4) else none

/-! ### The repair list (R515, R238) -/

/-- REPAIR_LIST_ADD: the oldest row of a side that waits enters the repair list, at most one a side in each millisecond. -/
def execRepairListAdd (side : Fin 2) (s : State) : Out :=
  onDev (fun d =>
    let t := Tab.get 0 d.repairAt side.val
    if t ≠ 0 ∧ d.tick < t - 1 + 25000 then d
    else match d.repairPend.find? (fun g => g * 32 / hbmSize == side.val) with
      | none => d
      | some g =>
        { d with repairPend := d.repairPend.filter (· != g), repair := if d.repair.any (sameRow g) then d.repair else d.repair ++ [g]
                 repairAt := Tab.set 0 d.repairAt side.val (d.tick + 1) }) s

/-! ### The Hinge's memory (R514) -/

/-- HINGE_UE: an uncorrectable error of Hinge or Sill memory is logged, and the device restarts at BS01. -/
def execHingeUe (s : State) : Out :=
  onDev (fun d =>
    let (x, d) := d.free
    let r := d.record { cls := kECC, code := 0x0C, src := 0, detail := 8 + x.toNat * 2 ^ 32 }
    ((d.logPut r).eventPut 0 r).restart) s

/-! ### Registers (R525) -/

/-- A write of TEL_LOG_HEAD: only forward, by no more than the records held. -/
def Dev.headWrite (d : Dev) (v : Word) : Dev :=
  let o := telb + Off.TEL_LOG_HEAD
  let head := d.fld o Fl.TEL_LOG_HEAD_POS
  let p := Fl.TEL_LOG_HEAD_POS.get v
  if (p + 2048 - head) % 2048 ≤ d.logCount then d.setFld o Fl.TEL_LOG_HEAD_POS p else d

/-- A write to a register of the TEL block. -/
def Dev.telWrite (d : Dev) (l : Nat) (v : Word) (plain : Dev → Dev) : Dev :=
  if l = Off.TEL_LOG_HEAD then d.headWrite v
  else if l = Off.TEL_SUSPECT_CMD then (if Fl.TEL_SUSPECT_CMD_RESET.on v then d.suspectCmd (Fl.TEL_SUSPECT_CMD_STREAM.get v) else d)
  else if l = Off.TEL_CNT_CTRL then (if Fl.TEL_CNT_CTRL_CNT_CLR.on v then d.zero [telb + Off.TEL_LOG_LOST, telb + Off.TEL_SRC_DROPS] else d)
  else plain d

/-- A read of a register of the TEL block that the log determines. -/
def Dev.telView (d : Dev) (l : Nat) : Option Word :=
  if l = Off.TEL_STATUS then some (Fl.TEL_STATUS_COUNT.put (d.reg (telb + l)) d.logCount)
  else if 0x10000 ≤ l ∧ l < 0x18000 then some ((d.logRec ((l - 0x10000) / 32)).word ((l - 0x10000) / 4 % 8))
  else none

end Sys2Proof.Machine
end

