-- ==== Sys2Proof/Machine/HostWrite.lean ====
section
/-! DEFINITION. Register accesses: the checks of every write in their order, the rules of each block, reads with their shadows, the enables that wait for a domain, and the commands that are register writes (R5–R16, R29, R31–R36, R513, R524, R543). -/

namespace Sys2Proof.Machine

/-! ### Who reaches what (R31, R36, R225) -/

/-- The absolute offset an access names: a client's offsets lie in its own BAR0. -/
def absOff (who : Who) (o : Nat) : Nat :=
  match who with
  | .client c => if o < 0x4000 then (Block.ring c.val).base + o else 0x20000000
  | .config _ => 0x20000000
  | _ => if o < 0x8000000 then o else 0x20000000

/-- Whether an access comes from the host, so that a firmware lock stops it (R33, R524). -/
def isHost : Who → Bool
  | .core _ => false
  | .hinge => false
  | _ => true

/-- Whether an access may name a block at all: a core window reaches the register blocks of cores alone, and configuration space none. -/
def mayName (who : Who) (b : Block) : Bool :=
  match who, b with
  | .core _, .core _ => true
  | .core _, _ => false
  | .config _, _ => false
  | _, _ => true

/-- The domain whose state governs a block's registers, none for the always-on blocks and those of R35. -/
def domainFor : Block → Option Nat
  | .hif => some shPcie
  | .pf0ring => some shPcie
  | .ring _ => some shPcie
  | .bolt => some shBolt
  | .hbm s => some (shHbm s)
  | .mesh s => some (shFabric s)
  | .sc s => some (shFabric s)
  | .core k => some (clusterOf k)
  | .latch c => some c
  | .seq c => some c
  | _ => none

/-- Whether running firmware holds a block locked (R486, R490). -/
def Dev.locked (d : Dev) (b : Block) : Bool :=
  let l0 (n : Nat) : Bool := (d.reg (secb + Off.SEC_LOCK0)).toNat.testBit n
  let l1 (c : Nat) : Bool := (d.reg (secb + Off.SEC_LOCK1)).toNat.testBit c
  match b with
  | .pwr => l0 0
  | .boot => l0 1
  | .hif => l0 2
  | .pf0ring => l0 2
  | .apt _ => l0 3
  | .vpt _ => l0 3
  | .apg => l0 3
  | .fin => l0 4
  | .opt => l0 5
  | .mir => l0 6
  | .sch => l0 7
  | .hbm s => l0 (8 + s)
  | .mesh s => l0 (8 + s)
  | .sc s => l0 (8 + s)
  | .core k => l1 (clusterOf k)
  | .latch c => l1 c
  | .seq c => l1 c
  | _ => false

/-- Whether a block answers: while boot is FAILED only GCTL, BOOT, SEC and TEL do, and PF0's rings, which the ROM serves (R472); the mailbox window
answers while the host interface is ready (R29). -/
def Dev.answers (d : Dev) (b : Block) : Bool :=
  let failed := d.fld (bootb + Off.BOOT_STATUS) Fl.BOOT_STATUS_STATE == 2
  match b with
  | .gctl => true
  | .boot => true
  | .sec => true
  | .tel => true
  | .pf0ring => true
  | .bolt => !failed && d.fld (hifb + Off.HIF_STATUS) Fl.HIF_STATUS_READY == 1
  | _ => !failed

/-- EXPERT_EN of a block. -/
def Dev.expertOn (d : Dev) (b : Block) : Bool :=
  match b with
  | .core k => ((d.core k).reg Off.EXPERT_EN).getLsbD 0
  | _ => (d.reg (b.base + 0x8000)).getLsbD 0

/-- A write by the field tables alone (R8, R9, R12). -/
def Dev.plainWrite (d : Dev) (o : Nat) (r : RegSpec) (en : Bool) (v : Word) : Dev := d.setReg o (r.write en v (d.reg o))

/-! ### The rules of the remaining blocks -/

/-- A write to a register of the GCTL block (R329, R488). -/
def Dev.gctlWrite (d : Dev) (l : Nat) (v : Word) (plain : Dev → Dev) : Dev :=
  if l = Off.DEV_RESET then (if Fl.DEV_RESET_RESTART.on v then d.restart else d)
  else if l = Off.EP_CTRL then d.epCtrl v
  else plain d

/-- A write to a register of the BOOT block (R485, R489). -/
def Dev.bootWrite (d : Dev) (l : Nat) (v : Word) (plain : Dev → Dev) : Dev :=
  if l = Off.BOOT_CTRL then (if Fl.BOOT_CTRL_RETRY.on v then d.bootRetry else d)
  else if l = Off.CAL_CMD then d.calCmd v true
  else plain d

/-- A write to a register of the SEC block (R481, R490). -/
def Dev.secWrite (d : Dev) (l : Nat) (v : Word) (plain : Dev → Dev) : Dev :=
  if l = Off.SEC_CTRL then d.secStart (Fl.SEC_CTRL_OP.get v)
  else if 0x20 ≤ l ∧ l < 0x40 ∧ d.fld (secb + Off.SEC_STATUS) Fl.SEC_STATUS_BUSY = 1 then d
  else plain d

/-- Whether batcher `b` may be enabled for JOB and PLAN (R299). -/
def Dev.batOk (d : Dev) (b : Nat) : Bool :=
  let j := d.batJob b
  let x := d.job j
  let area := d.reg64 (schb + Off.BAT_AREA_LO b) (schb + Off.BAT_AREA_HI b)
  let cl := d.firstCluster j
  let side := b / 16
  let others := ((List.range 16).map (· + 16 * side)).all (fun o => o == b || !(d.batOn o && d.batPlan o == d.batPlan b))
  match d.plan (d.batPlan b) with
  | none => false
  | some p => x.state != .free && x.plan == d.batPlan b && others && area % 16384 == 0 && inHbm side area 16384
      && !d.inPairRange cl (p.field 58 2 % 4096) && decide (d.slotsUsed cl < 256)

/-- A write of BAT_CFG (R299): EN set is checked, EN cleared waits for the batcher's streams. -/
def Dev.batCfgWrite (d : Dev) (b : Nat) (v : Word) : Dev :=
  let o := schb + Off.BAT_CFG b
  let en := Fl.BAT_CFG_EN.get v
  if d.batOn b then (if en = 0 ∧ d.batStreams b = [] then d.setFld o Fl.BAT_CFG_EN 0 else d)
  else
    let d := (d.setFld o Fl.BAT_CFG_JOB (Fl.BAT_CFG_JOB.get v)).setFld o Fl.BAT_CFG_PLAN (Fl.BAT_CFG_PLAN.get v)
    if en = 0 then d
    else if d.batOk b then d.setFld o Fl.BAT_CFG_EN 1
    else d.setFld (schb + Off.BAT_STATUS b) Fl.BAT_STATUS_BAD 1

/-- A write of BAT_SIZE: each field within the cap, CATCHUP not past check 7 of R294 for the admitted LC streams. -/
def Dev.batSizeWrite (d : Dev) (b : Nat) (v : Word) : Dev :=
  let o := schb + Off.BAT_SIZE b
  let top := min (d.batCap b) 1024
  let t := Fl.BAT_SIZE_TARGET.get v
  let c := Fl.BAT_SIZE_CATCHUP.get v
  let d := if t % 16 = 0 ∧ 16 ≤ t ∧ t ≤ top then d.setFld o Fl.BAT_SIZE_TARGET t else d
  if c ≤ top ∧ (d.batLc b = 0 ∨ d.batLc b + c ≤ d.batCap b) then d.setFld o Fl.BAT_SIZE_CATCHUP c else d

/-- A write to a register of the SCH block (R282, R299, R305, R327). -/
def Dev.schWrite (d : Dev) (l : Nat) (v : Word) (plain : Dev → Dev) : Dev :=
  if l = Off.ST_CMD then d.callSide.stCmd v
  else if l = Off.JOB_CMD then d.callSide.jobCmd v
  else if l = Off.ADMIT_CLK then
    (if d.streams.any (fun e => e.2.live && !e.2.be) then d
     else (plain d).each ([0, 1].filter d.scRuns) (fun d s => d.checkAdmitClk s (d.scClk s)))
  else if l = Off.ACC_CTRL then d.accClear v.toNat
  else if 0x1000 ≤ l ∧ l < 0x1400 then
    let b := (l - 0x1000) / 0x20
    if l = Off.BAT_CFG b then d.batCfgWrite b v
    else if l = Off.BAT_SIZE b then d.batSizeWrite b v
    else if (l = Off.BAT_AREA_LO b ∨ l = Off.BAT_AREA_HI b) ∧ d.batOn b = true then d
    else plain d
  else plain d

/-- HBM_CTRL.CNT_CLR (R243). -/
def Dev.hbmClear (d : Dev) (s : Nat) : Dev :=
  let b := (Block.hbm s).base
  let d := d.zero ([Off.HBM_CE, Off.HBM_UE, Off.HBM_ODECC, Off.HBM_RMW, Off.HBM_RFM].map (b + ·))
  (d.setFld (b + Off.HBM_TEMP) Fl.HBM_TEMP_PEAK 0).setFld (b + Off.HBM_LAST_UE_HI) Fl.HBM_LAST_UE_HI_VALID 0

/-- MESH_CTRL.CNT_CLR (R245). -/
def Dev.meshClear (d : Dev) (s : Nat) : Dev :=
  d.zero ([Off.MESH_CE, Off.MESH_BR_OUT, Off.MESH_BR_IN, Off.MESH_BR_REPLAY, Off.MESH_LINK_FLITS].map ((Block.mesh s).base + ·))

/-- SC_CTRL.CNT_CLR (R301). -/
def Dev.scClear (d : Dev) (s : Nat) : Dev := d.zero ([Off.SC_DISPATCHES, Off.SC_COMPLETIONS, Off.SC_FAILED].map ((Block.sc s).base + ·))

/-- LU_CTRL.CNT_CLR (R276). -/
def Dev.luClear (d : Dev) (c : Nat) : Dev := d.zero ([Off.LU_OPS, Off.LU_REFUSED, Off.LU_TIMEOUTS].map ((Block.latch c).base + ·))

/-- CS_CTRL.CNT_CLR (R78). -/
def Dev.csClear (d : Dev) (c : Nat) : Dev := d.zero ([Off.CS_RECORDS, Off.CS_OVL_LOADS, Off.CS_PLACEMENTS].map ((Block.seq c).base + ·))

/-- A write to a register of a Latch unit's block (R276). -/
def Dev.latchWrite (d : Dev) (c l : Nat) (v : Word) (plain : Dev → Dev) : Dev :=
  if l = Off.LU_CTRL then (if Fl.LU_CTRL_CNT_CLR.on v then d.luClear c else d)
  else if l = Off.LH_CMD then d.latchHost c v
  else if l = Off.LU_PAIR then d.luPairWrite c v
  else if 0x1000 ≤ l ∧ l < 0x1400 then
    let e := (l - 0x1000) / 0x10
    if l = Off.FWD_CFG e then d.fwdCfgWrite c e v
    else if d.fld ((Block.latch c).base + Off.FWD_CFG e) Fl.FWD_CFG_EN = 1 then d
    else plain d
  else plain d

/-- A write to a mailbox register: a doorbell starts a request, or is lost while one is being taken or served (R433, R437). -/
def Dev.mailWrite (d : Dev) (l : Nat) (plain : Dev → Dev) : Dev :=
  let c := l / 0x800
  let o := Block.bolt.base + Off.MB_STATUS c
  let idle := d.fld o Fl.MB_STATUS_STATE = 0 ∨ d.fld o Fl.MB_STATUS_STATE = 3
  if l = Off.MB_DOORBELL c then (if idle then d.setFld o Fl.MB_STATUS_STATE 1 else d.setFld o Fl.MB_STATUS_RING_LOST 1)
  else if l = Off.MB_STATUS c ∨ idle then plain d
  else d

/-- A write to a register by its block's rules, after the checks of access. -/
def Dev.blockWrite (d : Dev) (b : Block) (l : Nat) (r : RegSpec) (v : Word) : Dev :=
  let en := d.expertOn b
  let plain (d : Dev) : Dev := d.plainWrite (b.base + l) r en v
  match b with
  | .gctl => d.gctlWrite l v plain
  | .pwr => d.pwrWrite l v plain
  | .boot => d.bootWrite l v plain
  | .sec => d.secWrite l v plain
  | .hif => d.hifWrite l v plain
  | .pf0ring => d.ringBlockWrite 0 l v plain
  | .ring c => d.ringBlockWrite (c + 1) l v plain
  | .apg => d.apgWrite l v plain
  | .apt n => d.apWrite n l v plain
  | .vpt n => d.apWrite (8 + n) l v plain
  | .fin => d.finWrite l v plain
  | .opt => d.optWrite l v plain
  | .mir => d.mirWrite l v plain
  | .sch => d.schWrite l v plain
  | .tel => d.telWrite l v plain
  | .bolt => d.mailWrite l plain
  | .hbm s => if l = Off.HBM_CTRL then (if Fl.HBM_CTRL_CNT_CLR.on v then d.hbmClear s else d) else plain d
  | .mesh s =>
    if l = Off.MESH_CTRL then (if Fl.MESH_CTRL_CNT_CLR.on v then d.meshClear s else d)
    else if l = Off.MESH_LINK_SEL then (plain d).setReg ((Block.mesh s).base + Off.MESH_LINK_FLITS) 0
    else plain d
  | .sc s => if l = Off.SC_CTRL then (if Fl.SC_CTRL_CNT_CLR.on v then d.scClear s else d) else plain d
  | .seq c => if l = Off.CS_CTRL then (if Fl.CS_CTRL_CNT_CLR.on v then d.csClear c else d) else plain d
  | .latch c => d.latchWrite c l v plain
  | .core k => d.coreRegWrite k l v

/-! ### Enables that need a domain (R35, R507) -/

/-- Calibration function 2 is down, or BS10 failed: the ports stay disabled (R470, R484). -/
def Dev.audioDown (d : Dev) : Bool := d.boot.down.contains 2

/-- The bits of a write that start something behind a Shutter, and the Shutters they need. Nothing for a write without them. -/
def Dev.wants (d : Dev) (b : Block) (l : Nat) (v : Word) : Word × List Nat :=
  let port (u : Nat) : Word × List Nat :=
    if l = Off.AP_CTRL then
      let en := if d.unitEn u then 0 else Fl.AP_CTRL_EN.get v
      let w := Fl.AP_CTRL_START.put (Fl.AP_CTRL_EN.put 0 en) (Fl.AP_CTRL_START.get v)
      (w, if w = 0 then [] else [shAudio u])
    else (0, [])
  match b with
  | .apt n => port n
  | .vpt n => port (8 + n)
  | .fin =>
    if 0x4000 ≤ l ∧ l < 0x8000 ∧ (l - 0x4000) % 0x20 = 0 ∧ d.fld (fin + l) Fl.OUT_CFG_EN = 0 ∧ Fl.OUT_CFG_EN.get v = 1 then (Fl.OUT_CFG_EN.put 0 1, [shScaler])
    else (0, [])
  | .opt =>
    let p := (l - 0x100) / 0x80
    if 0x100 ≤ l ∧ l < 0x500 ∧ l = Off.PANE_CTRL p ∧ d.paneEn p = false ∧ Fl.PANE_CTRL_EN.get v = 1 then (Fl.PANE_CTRL_EN.put 0 1, [shCase (p / 4)])
    else (0, [])
  | .mir => if l = Off.MIR_CFG ∧ d.mirEn = false ∧ Fl.MIR_CFG_EN.get v = 1 then (Fl.MIR_CFG_EN.put 0 1, [shMirror]) else (0, [])
  | .sec => if l = Off.SEC_CTRL ∧ (Fl.SEC_CTRL_OP.get v = 1 ∨ Fl.SEC_CTRL_OP.get v = 2) then (Fl.SEC_CTRL_OP.put 0 (Fl.SEC_CTRL_OP.get v), [shCrypto]) else (0, [])
  | _ => (0, [])

/-- The Shutter of a camera's enable, which FIN itself holds pending; none where the write sets none. -/
def Dev.opens (d : Dev) (b : Block) (l : Nat) (v : Word) : Option Nat :=
  if b = .fin ∧ 0x1000 ≤ l ∧ l < 0x2000 ∧ (l - 0x1000) % 0x40 = 0 ∧ d.fld (fin + l) Fl.CAM_CFG_EN = 0 ∧ Fl.CAM_CFG_EN.get v = 1 then
    some (shEngine (Fl.CAM_CFG_ENGINE.get v))
  else none

/-- A write of APG_CTRL: each group named to start has its own domains, and a group named by a later write waits no more for an earlier one; a group
without members needs none and is refused by its own checks (R35, R337). -/
def Dev.apgEnables (d : Dev) (l : Nat) (r : RegSpec) (v : Word) : Dev :=
  let o := Block.apg.base + l
  let named (g : Nat) : Bool := (Fl.APG_CTRL_START.get v).testBit g || (Fl.APG_CTRL_STOP.get v).testBit g
  let d := { d with held := d.held.filter (fun h => !(h.1 == o && (List.range 4).any (fun g => named g && (Fl.APG_CTRL_START.get h.2.1).testBit g))) }
  let needs (g : Nat) : List Nat := ((d.members g).map shAudio).eraseDups
  let gs := (List.range 4).filter (fun g => (Fl.APG_CTRL_START.get v).testBit g && !(Fl.APG_CTRL_STOP.get v).testBit g && !d.audioDown)
  let barred (g : Nat) : Bool := (needs g).any d.domBarred
  let ready (g : Nat) : Bool := !barred g && (needs g).all d.domOn
  let mask (p : Nat → Bool) : Word := Fl.APG_CTRL_START.put 0 (((gs.filter p).map (fun g => 2 ^ g)).foldl (· + ·) 0)
  let d := d.blockWrite .apg l r (Fl.APG_CTRL_START.put v 0 ||| mask ready)
  let d := if gs.any barred then d.offAccess o else d
  d.each (gs.filter (fun g => !barred g && !ready g)) (fun d g =>
    { d.each (needs g) Dev.askOpen with held := d.held ++ [(o, Fl.APG_CTRL_START.put 0 (2 ^ g), needs g)] })

/-- A write with its enables: not made, with OFF_ACCESS, where a domain is KEEP_OFF or DOWN, whatever its state; at once where the domains are ON; else they
wait while the Sill opens the domains (R35, R507). -/
def Dev.enableWrite (d : Dev) (b : Block) (l : Nat) (r : RegSpec) (v : Word) : Dev :=
  if b = .apg ∧ l = Off.APG_CTRL then d.apgEnables l r v
  else
    let o := b.base + l
    let d := { d with held := d.held.filter (fun h => h.1 != o) }
    let w := d.wants b l v
    let rest := v &&& ~~~ w.1
    if w.2 = [] then
      match d.opens b l v with
      | none => d.blockWrite b l r v
      | some n => if d.domBarred n then (d.blockWrite b l r v).offAccess o else d.blockWrite b l r v
    else if w.2.all (fun n => decide (n = 41 ∨ n = 42)) = true ∧ d.audioDown = true then d.blockWrite b l r rest
    else if w.2.any d.domBarred then (d.blockWrite b l r rest).offAccess o
    else if w.2.all d.domOn then d.blockWrite b l r v
    else
      let d := d.blockWrite b l r rest
      { d.each w.2 Dev.askOpen with held := d.held ++ [(o, w.1, w.2)] }

/-! ### The write (R5, R7, R14, R33–R35) -/

/-- A 32-bit write to a register, with its checks in order: a register lies there, its block answers, no lock holds it, its domain is ON. -/
def Dev.regWrite (d : Dev) (who : Who) (off : Nat) (v : Word) : Dev :=
  let o := absOff who off
  match locate o with
  | none => d
  | some (b, l) => match regOf b l with
    | none => d
    | some r =>
      if mayName who b = false ∨ d.answers b = false then d
      else if isHost who = true ∧ d.locked b = true then d.bootRecord kSEC 0x02 o 0 0
      else if (match domainFor b with | some n => !d.domOn n | none => false) then d.offAccess o
      else
        let d := if r.expert = true ∧ d.expertOn b = false then d.bootRecord kSEC 0x01 o 0 0 else d
        d.enableWrite b l r v

/-- REGISTER_WRITE (R9): `off` is the offset in the accessing function's BAR0, or the field of its configuration space; `2 ^ w` the bytes of the access; a
write narrower than 32 bits is dropped (R5). -/
def execRegisterWrite (who : Who) (off : Nat) (val : Word) (w : Fin 3) (s : State) : Out :=
  onDev (fun d =>
    if w ≠ 2 then d
    else match who with
      | .config f => d.configWrite f.val (off / 4) val
      | _ => d.regWrite who off val) s

/-- A PF0 write of a register of a block. -/
def pf0Write (b : Block) (l : Nat) (v : Word) (s : State) : Out := onDev (fun d => d.regWrite .pf0 (b.base + l) v) s

/-- ENABLE_TAKES_EFFECT: the oldest held write of a register whose domains are all ON is made; its block's checks run now (R35). -/
def execEnableTakesEffect (off : Nat) (s : State) : Out :=
  onDev (fun d =>
    match d.held.find? (fun h => h.1 == off && h.2.2.all d.domOn) with
    | none => d
    | some h =>
      let d := { d with held := d.held.filter (fun x => x != h) }
      match locate off with
      | none => d
      | some (b, l) => match regOf b l with
        | none => d
        | some r => d.blockWrite b l r (d.reg off ||| h.2.1)) s

/-! ### Reads (R5, R6, R8, R9, R34) -/

/-- A 16-core status word: the states of eight cores, three bits each. -/
def Dev.coreStates (d : Dev) (k : Nat) : Nat := ((List.range 8).map (fun j => (d.core (k + j)).state.code * 2 ^ (3 * j))).foldl (· + ·) 0

/-- One flag of each of a cluster's cores, as a bit mask. -/
def Dev.coreFlags (d : Dev) (c : Nat) (f : Fld) : Nat :=
  ((List.range 16).map (fun k => (d.core (16 * c + k)).fld Off.CORE_STATUS f * 2 ^ k)).foldl (· + ·) 0

/-- Whether the save of core `k` runs, or its restore (R313, R315). -/
def Dev.coreSwitching (d : Dev) (k : Nat) : Bool :=
  let c := d.core k
  match c.jobOf with
  | some j => let x := d.job j
              (x.state == .saving && !x.savedCores.contains k && (c.pptEntry.isSome || c.state == .parked)) || x.state == .restoring
  | none => false

/-- A read of a sequencer register that other state determines (R78). The cores of a failed job stop within the event that fails it, for each stands
at a bundle boundary between two commands, so STOPPING reads 0 (R72; log entry 56); CS_QJOB(q) shows the job of core 4q (log entry 55). -/
def Dev.seqView (d : Dev) (c l : Nat) : Option Word :=
  let any (p : Nat → Bool) : Nat := b2n ((List.range 16).any (fun k => p (16 * c + k)))
  if l = Off.CS_STATUS then
    some (Fl.CS_STATUS_SWITCHING.put (Fl.CS_STATUS_ZEROING.put (d.reg ((Block.seq c).base + l)) (any d.coreZeroing)) (any d.coreSwitching))
  else if l = Off.CS_CORE_STATE 0 then some (wd (d.coreStates (16 * c)))
  else if l = Off.CS_CORE_STATE 1 then some (wd (d.coreStates (16 * c + 8)))
  else if 0x10 ≤ l ∧ l < 0x20 then
    let k := d.core (16 * c + 4 * ((l - 0x10) / 4))
    some (match k.jobOf with
      | some j => wd (j + 2 ^ 8 + k.fld Off.CORE_JOB Fl.CORE_JOB_PLAN * 2 ^ 16)
      | none => 0)
  else if l = Off.CS_PREEMPT then some (wd (d.coreFlags c Fl.CORE_STATUS_PREEMPT_PEND + d.coreFlags c Fl.CORE_STATUS_FORCED * 2 ^ 16))
  else if l = Off.CS_TICK_LO then some (lo32 (d.tickOf (srcSeq c)))
  else if l = Off.CS_TICK_HI then some (hi32 (d.tickOf (srcSeq c)))
  else if l = Off.CS_REC_QUEUE then some (wd (d.waiting (srcSeq c)).length)
  else none

/-- A read of a side controller register that other state determines (R301). -/
def Dev.scView (d : Dev) (s l : Nat) : Option Word :=
  let n (st : Nat) : Nat := (d.streams.filter (fun e => e.2.side == s && e.2.state == st)).length
  if l = Off.SC_TICK_LO then some (lo32 (d.scTick s))
  else if l = Off.SC_TICK_HI then some (hi32 (d.scTick s))
  else if l = Off.SC_STREAMS then some (wd (n 2 + n 3 * 2 ^ 16))
  else if l = Off.SC_SUSPECT then some (wd (n 4))
  else if l = Off.SC_INFLIGHT then some (wd (((List.range 16).map (· + 16 * s)).filter (fun b => (d.bat b).inflight.isSome)).length)
  else none

/-- A read of a SCH register that other state determines (R299, R327). -/
def Dev.schView (d : Dev) (l : Nat) : Option Word :=
  if l = Off.ST_STATUS then
    some (wd ((d.streams.filter (fun e => e.2.state != 0)).length + (d.streams.filter (fun e => e.2.state != 0 && !e.2.be)).length * 2 ^ 16))
  else if 0x1000 ≤ l ∧ l < 0x1400 ∧ (l - 0x1000) % 0x20 = 0x14 then
    let b := (l - 0x1000) / 0x20
    let w := Fl.BAT_STATUS_READY.put (d.reg (schb + l)) ((d.batStreams b).filter (fun e => e.2.state == 2)).length
    some (Fl.BAT_STATUS_BATCH.put (Fl.BAT_STATUS_INFLIGHT.put w (b2n (d.bat b).inflight.isSome)) ((d.bat b).seq % 2 ^ 16))
  else if 0x3000 ≤ l ∧ l < 0x3400 then
    let x := d.job ((l - 0x3000) / 4)
    let st := match x.state with
      | .free => 0
      | .loaded => 1
      | .resident => 2
      | .saving => 3
      | .suspended => 4
      | .restoring => 5
      | .failed => 6
    some (wd (st + (if x.runs = 1 ∧ x.state = .resident then 8 else 0) + 16 * b2n x.forced + x.client * 2 ^ 8 + x.plan * 2 ^ 16))
  else none

/-- A read of a Latch unit register that other state determines (R276). -/
def Dev.latchView (d : Dev) (c l : Nat) : Option Word :=
  if l = Off.LU_STATUS then some (Fl.LU_STATUS_WATCHES.put (d.reg ((Block.latch c).base + l)) (d.slotsUsed c))
  else if l = Off.LU_NOTIFY_WAIT then some (wd ((d.lu c).waiting.length % 512))
  else none

/-- A read of a GCTL register that the part determines (R488). -/
def Dev.gctlView (d : Dev) (l : Nat) : Option Word :=
  if l = Off.DEV_ID_LO then some (lo32 Config.deviceId.toNat)
  else if l = Off.DEV_ID_HI then some (hi32 Config.deviceId.toNat)
  else if l = Off.DEV_INFO then
    some (Fl.DEV_INFO_REV.put (Fl.DEV_INFO_ORDER.put (d.reg l) (Config.deviceInfo.toNat % 2)) (Config.deviceInfo.toNat / 256))
  else none

/-- The registers of an HBM controller that its state determines: ZEROING shows while a reset of the side clears its stack, and may while the side trains;
PAUSE may while a change of the pin rate waits for its switch. The cycles of the training and of the pause are not modelled, so when they show is a free value
(R240, R241, R243; log entry 59). -/
def Dev.hbmView (d : Dev) (s l : Nat) : Option Word :=
  let stored := d.reg ((Block.hbm s).base + l)
  if l = Off.HBM_ID then some (Fl.HBM_ID_MAKER.put stored (Config.hbmMaker s).toNat)
  else if l = Off.HBM_STATUS then
    let z := Tab.get 0 d.zeroTo s != 0
      || d.boot.begun == some 8 && !d.contained s && !Fl.HBM_STATUS_READY.on stored && Config.zeroing (512 + s) d.tick
    let p := (match d.epoch with
      | some e => e.kind == 2 && e.pending.contains (2 + s)
      | none => false) && Config.hbmPause s d.tick
    some (Fl.HBM_STATUS_PAUSE.put (Fl.HBM_STATUS_ZEROING.put stored (b2n z)) (b2n p))
  else none

/-- The word of a register as its block holds it. -/
def Dev.blockView (d : Dev) (b : Block) (l : Nat) : Word :=
  let stored := d.reg (b.base + l)
  match b with
  | .core k => d.coreReg k l
  | .gctl => (d.gctlView l).getD stored
  | .hif => (d.hifView l).getD stored
  | .pf0ring => (d.ringView 0 l).getD stored
  | .ring c => (d.ringView (c + 1) l).getD stored
  | .apg => (d.apgView l).getD stored
  | .apt n => (d.apView n l).getD stored
  | .vpt n => (d.apView (8 + n) l).getD stored
  | .fin => (d.finView l).getD stored
  | .mir => (d.mirView l).getD stored
  | .sch => (d.schView l).getD stored
  | .tel => (d.telView l).getD stored
  | .sc s => (d.scView s l).getD stored
  | .seq c => (d.seqView c l).getD stored
  | .latch c => (d.latchView c l).getD stored
  | .hbm s => (d.hbmView s l).getD stored
  | _ => stored

/-- A word with the fields that read 0: those of access WO (R9). -/
def RegSpec.readable (r : RegSpec) (w : Word) : Word := r.fields.foldl (fun w f => if f.acc = .wo then f.fld.put w 0 else w) w

/-- Whether a block's registers can be read now: its domain is ON or in RET, and while boot is FAILED the block is one that answers; PF0's rings take
doorbells then, and read 0 (R34, R472). -/
def Dev.readsOn (d : Dev) (b : Block) : Bool :=
  d.answers b && !(b == .pf0ring && d.fld (bootb + Off.BOOT_STATUS) Fl.BOOT_STATUS_STATE == 2) && (match domainFor b with
    | some n => d.dom n == 1 || d.dom n == 2
    | none => true)

/-- The word that a read of an absolute offset finds, its shadow apart. -/
def Dev.regView (d : Dev) (o : Nat) : Word :=
  match locate o with
  | none => 0
  | some (b, l) => match regOf b l with
    | none => 0
    | some r => if d.readsOn b then r.readable (d.blockView b l) else 0

/-- Whether a register is the low half of a 64-bit pair, whose read holds the other half for the next read of it (R6). The staged words of JOB_STAGE and the
MSI-X pending bits are none: their words are read as they stand (DESIGN CHOICE, log entry 61). -/
def isLow (b : Block) (l : Nat) : Bool :=
  match b with
  | .core _ => coreLow l
  | .seq _ => l == Off.CS_TICK_LO
  | .hbm _ => l == Off.HBM_LAST_UE_LO
  | .latch _ => l == Off.LH_RESULT_LO
  | .sch => l == Off.ST_BASE_LO 0 || l == Off.ST_BASE_LO 1
      || (List.range 32).any (fun c => l == Off.BAT_AREA_LO c || l == Off.ACC_WAIT_SUM_LO c || l == Off.ACC_PREEMPT_TIME_LO c)
  | .sc _ => l == Off.SC_TICK_LO
  | .gctl => l == Off.DEV_ID_LO
  | .apt _ => l == Off.AP_FRAME_LO || (List.range 64).any (fun s => l == Off.PB_BASE_LO s)
  | .vpt _ => l == Off.AP_FRAME_LO || (List.range 64).any (fun s => l == Off.PB_BASE_LO s)
  | .fin => (List.range 64).any (fun c => l == Off.BS_BASE_LO c || l == Off.FB_BASE_LO c)
  | .opt => (List.range 8).any (fun p => l == Off.PANE_PEER_LO p)
  | .mir => l == Off.MIR_STAGE_LO 0 || l == Off.MIR_STAGE_LO 1
  | .pf0ring => ringLow l
  | .ring _ => ringLow l
  | _ => false
where
  /-- The pairs of a ring block. -/
  ringLow (l : Nat) : Bool :=
    l == Off.WB_LO || (match setOf l with | some (_, o) => o == Off.X_BASE_LO | none => false)
      || (List.range 16).any (fun w => l == Off.TW_DEV_LO w || l == Off.TW_HOST_LO w) || (List.range 64).any (fun v => l == Off.MSIX_ADDR_LO v)

/-- Whether a register can be read now by a reader that reaches its block. -/
def Dev.readable (d : Dev) (who : Who) (o : Nat) : Bool :=
  match locate o with
  | some (b, _) => mayName who b && d.readsOn b
  | none => false

/-- The clearing of a register's RC fields by its read (R9, R11). -/
def Dev.clearRc (d : Dev) (o : Nat) : Dev :=
  match (locate o).bind (fun e => regOf e.1 e.2) with
  | some r => d.each (r.fields.filter (fun f => f.acc == .rc)) (fun d f => d.setFld o f.fld 0)
  | none => d

/-- A read of a register, whoever reads: the low half of a pair copies the high half into the reader's shadow, and the high half comes from there; an RC
field is cleared (R6, R9). A register whose domain does not answer reads 0 and takes no shadow (R34). A word of the record log is read through the
reader's log shadow (R513). -/
def Dev.regRead (d : Dev) (who : Who) (off : Nat) : Word × Dev :=
  let o := absOff who off
  let low (o : Nat) : Bool := match locate o with
    | some (b, l) => isLow b l
    | none => false
  if d.readable who o = false then (0, d)
  else if low o then (d.regView o, { d with shadows := Tab.set none d.shadows (shadowKey (whoKey who) (o + 4)) (some (d.regView (o + 4))) })
  else if 4 ≤ o ∧ low (o - 4) = true then ((Tab.get none d.shadows (shadowKey (whoKey who) o)).getD (d.regView o), d)
  else match (locate o).bind (fun e => logWord e.1 e.2) with
    | some i => d.logRead (whoKey who) i false
    | none => (d.regView o, d.clearRc o)

/-- What a read of `2 ^ w` bytes at an offset returns: those bytes of the whole register (R5). -/
def bytesOf (x : Word) (off : Nat) (w : Fin 3) : Word := wd (x.toNat / 2 ^ (8 * (off % 4)) % 2 ^ (8 * 2 ^ w.val))

/-- A read command: its answer, and what the read leaves. -/
def Dev.hostReadReg (d : Dev) (who : Who) (off : Nat) (w : Fin 3) : Dev :=
  match who with
  | .config f => { d with answer := [d.configRead f.val (off / 4)] }
  | _ =>
    let r := d.regRead who (off / 4 * 4)
    { r.2 with answer := [bytesOf r.1 off w] }

/-! ### The reset of a side (R21, R240, R266) -/

/-- The ticks that the zeroing of a stack takes: 21.0 ms (R240). -/
def zeroTicks : Nat := 525000

/-- SIDE_RESET: the Hinge resets a contained side: its jobs are reset, its cores and Latch units are as their Shutters leave them, its registers are at
reset, its stack is zeroed for 21.0 ms, its streams are gone, and the side is no longer contained. A rollback that was stuck on the side ends with the old
settings in force there (R240, R322, R324). -/
def execSideReset (side : Fin 2) (s : State) : Out :=
  onDev (fun d =>
    let s := side.val
    if d.contained s = false then d
    else
      let onSide (x : Job) : Bool := (coresOf x.mask).any (fun k => sideOf k == s)
      let d := d.each (d.jobs.filter (fun e => onSide e.2)) (fun d e => d.resetJob e.1)
      let cls := (List.range 16).map (· + 16 * s)
      let d := d.each cls Dev.latchClose
      let d := d.each (cls.flatMap coresIn) Dev.resetCore
      let d := d.each cls (fun d b => d.setBat b { d.bat b with inflight := none })
      let hs := d.reg ((Block.hbm s).base + Off.HBM_STATUS)
      let sc := d.reg ((Block.sc s).base + Off.SC_STATUS)
      let a := 0x1000000 + s * 0x800000
      let c := 0x2000000 + s * 0x2000000
      let keep (o : Nat) : Bool := !(decide (a ≤ o ∧ o < a + 0x800000) || decide (c ≤ o ∧ o < c + 0x2000000))
      let d := { d with regs := d.regs.filter (fun e => keep e.1), streams := d.streams.filter (fun e => e.2.side != s), scDone := d.scDone.filter (fun e => e.1 / 16 != s) }
      let d := (d.hbmZero (s * hbmSize) hbmSize).setReg ((Block.sc s).base + Off.SC_STATUS) sc
      let d := d.setReg ((Block.hbm s).base + Off.HBM_STATUS) (Fl.HBM_STATUS_READY.put (Fl.HBM_STATUS_CONTAINED.put hs 0) 0)
      let d := { d with zeroTo := Tab.set 0 d.zeroTo s (d.tick + zeroTicks) }
      let d := d.each (cls.filter d.clusterOn) (fun d c => d.setFld ((Block.seq c).base + Off.CS_STATUS) Fl.CS_STATUS_READY 1)
      match d.epoch with
      | some e =>
        if d.fld epo Fl.EP_STATUS_STATE = 4 ∧ unitSide (d.fld epo Fl.EP_STATUS_LATE) = s then
          ({ d with epoch := none }.each e.pending (fun d u =>
            (d.applySetting e u (if unitSide u = 0 then e.old.1 else e.old.2)).setUnit u (d.fld epo Fl.EP_STATUS_EPOCH) 0)).setFld epo Fl.EP_STATUS_STATE 0
        else d
      | none => d) s

/-! ### Commands that are register writes -/

/-- A PF0 write that sets a field of a register and leaves its other fields as they are. -/
def pf0Set (b : Block) (l : Nat) (f : Fld) (v : Nat) (s : State) : Out := pf0Write b l (f.put (s.dev.reg (b.base + l)) v) s

/-- A PF0 write of CORE_CTRL with START_PC as it stands. -/
def coreCtrlWrite (k : Nat) (f : Fld) (s : State) : Out := pf0Write (.core k) Off.CORE_CTRL (f.put ((s.dev.core k).reg Off.CORE_CTRL) 1) s

/-- CORE_CTRL.START. -/
def execCoreStart (k : Fin 512) (s : State) : Out := coreCtrlWrite k.val Fl.CORE_CTRL_START s
/-- CORE_CTRL.HALT_REQ. -/
def execCoreHaltReq (k : Fin 512) (s : State) : Out := coreCtrlWrite k.val Fl.CORE_CTRL_HALT_REQ s
/-- CORE_CTRL.RESET. -/
def execCoreReset (k : Fin 512) (s : State) : Out := coreCtrlWrite k.val Fl.CORE_CTRL_RESET s
/-- MBX_IN3. -/
def execMbxIn3Write (k : Fin 512) (val : Word) (s : State) : Out := pf0Write (.core k.val) (Off.MBX_IN 3) val s
/-- CS_CTRL.CNT_CLR. -/
def execCsCntClr (cl : Fin 32) (s : State) : Out := pf0Write (.seq cl.val) Off.CS_CTRL 1 s
/-- MU_CTRL.CNT_CLR. -/
def execMuCntClr (k : Fin 512) (s : State) : Out := pf0Write (.core k.val) Off.MU_CTRL 1 s
/-- VE_CTRL.CNT_CLR. -/
def execVeCntClr (k : Fin 512) (s : State) : Out := pf0Write (.core k.val) Off.VE_CTRL 1 s
/-- STAT_CTRL.CLR of the slots named. -/
def execStatClr (k : Fin 512) (slots : BitVec 8) (s : State) : Out := pf0Write (.core k.val) Off.STAT_CTRL (Fl.STAT_CTRL_CLR.put 0 slots.toNat) s
/-- SP_CTRL.CNT_CLR. -/
def execSpCntClr (k : Fin 512) (s : State) : Out := pf0Write (.core k.val) Off.SP_CTRL 1 s
/-- CW_RETURN of a credit window. -/
def execCwReturnWrite (who : Who) (k : Fin 512) (w : Fin 8) (n : BitVec 11) (s : State) : Out :=
  onDev (fun d => d.regWrite who ((Block.core k.val).base + Off.CW_RETURN w.val) (Fl.CW_RETURN_COUNT.put 0 n.toNat)) s
/-- DMA_CTRL.CNT_CLR. -/
def execDmaCntClr (k : Fin 512) (s : State) : Out := pf0Write (.core k.val) Off.DMA_CTRL 1 s
/-- MESH_LINK_SEL. -/
def execMeshLinkSelWrite (side : Fin 2) (val : Word) (s : State) : Out := pf0Write (.mesh side.val) Off.MESH_LINK_SEL val s
/-- HBM_CTRL.CNT_CLR. -/
def execHbmCntClr (side : Fin 2) (s : State) : Out := pf0Write (.hbm side.val) Off.HBM_CTRL 1 s
/-- MESH_CTRL.CNT_CLR. -/
def execMeshCntClr (side : Fin 2) (s : State) : Out := pf0Write (.mesh side.val) Off.MESH_CTRL 1 s
/-- LH_CMD with an operation and its fields. -/
def lhCmd (cl op kind owned job : Nat) (s : State) : Out :=
  pf0Write (.latch cl) Off.LH_CMD (Fl.LH_CMD_JOB.put (Fl.LH_CMD_OWNED.put (Fl.LH_CMD_KIND.put (Fl.LH_CMD_OP.put 0 op) kind) owned) job) s
/-- LH_CMD ADD. -/
def execLhAdd (cl : Fin 32) (s : State) : Out := lhCmd cl.val 1 0 0 0 s
/-- LH_CMD SUB. -/
def execLhSub (cl : Fin 32) (s : State) : Out := lhCmd cl.val 2 0 0 0 s
/-- LH_CMD SET. -/
def execLhSet (cl : Fin 32) (kind : Fin 4) (s : State) : Out := lhCmd cl.val 3 kind.val 0 0 s
/-- LH_CMD CAS. -/
def execLhCas (cl : Fin 32) (s : State) : Out := lhCmd cl.val 4 0 0 0 s
/-- LH_CMD SEQ_ADV. -/
def execLhSeqAdv (cl : Fin 32) (s : State) : Out := lhCmd cl.val 5 0 0 0 s
/-- LH_CMD READ. -/
def execLhRead (cl : Fin 32) (s : State) : Out := lhCmd cl.val 6 0 0 0 s
/-- LH_CMD OWNER. -/
def execLhOwner (cl : Fin 32) (owned : Bool) (job : Fin 256) (s : State) : Out := lhCmd cl.val 7 0 (b2n owned) job.val s
/-- LU_CTRL.CNT_CLR. -/
def execLuCntClr (cl : Fin 32) (s : State) : Out := pf0Write (.latch cl.val) Off.LU_CTRL 1 s
/-- A stream command. -/
def stCmdWrite (op i : Nat) (zero : Bool) (s : State) : Out :=
  pf0Write .sch Off.ST_CMD (Fl.ST_CMD_ZERO_CTX.put (Fl.ST_CMD_OP.put (wd i) op) (b2n zero)) s
/-- ST_CMD ADMIT. -/
def execStAdmit (i : Fin 1024) (zero : Bool) (s : State) : Out := stCmdWrite 1 i.val zero s
/-- ST_CMD MODIFY. -/
def execModify (i : Fin 1024) (s : State) : Out := stCmdWrite 2 i.val false s
/-- ST_CMD RELEASE. -/
def execRelease (i : Fin 1024) (s : State) : Out := stCmdWrite 3 i.val false s
/-- ST_CMD READ. -/
def execStRead (i : Fin 1024) (s : State) : Out := stCmdWrite 4 i.val false s
/-- SC_CTRL.CNT_CLR. -/
def execScCntClr (side : Fin 2) (s : State) : Out := pf0Write (.sc side.val) Off.SC_CTRL 1 s
/-- A job command. -/
def jobCmdWrite (op j : Nat) (s : State) : Out := pf0Write .sch Off.JOB_CMD (Fl.JOB_CMD_OP.put (wd j) op) s
/-- JOB_CMD CREATE. -/
def execJobCreate (j : Fin 256) (s : State) : Out := jobCmdWrite 1 j.val s
/-- JOB_CMD START. -/
def execJobStart (j : Fin 256) (s : State) : Out := jobCmdWrite 2 j.val s
/-- JOB_CMD RESET. -/
def execJobReset (j : Fin 256) (s : State) : Out := jobCmdWrite 3 j.val s
/-- JOB_CMD DESTROY. -/
def execJobDestroy (j : Fin 256) (s : State) : Out := jobCmdWrite 4 j.val s
/-- JOB_CMD READ. -/
def execJobRead (j : Fin 256) (s : State) : Out := jobCmdWrite 5 j.val s
/-- ACC_CTRL.CLR. -/
def execAccClr (mask : Word) (s : State) : Out := pf0Write .sch Off.ACC_CTRL mask s
/-- EP_CTRL. -/
def epCtrlWrite (kind side : Nat) (s : State) : Out := pf0Write .gctl Off.EP_CTRL (Fl.EP_CTRL_SIDE.put (Fl.EP_CTRL_KIND.put 0 kind) side) s
/-- EP_CTRL KIND 1. -/
def execEpochStageClock (side : Fin 2) (s : State) : Out := epCtrlWrite 1 side.val s
/-- EP_CTRL KIND 2. -/
def execEpochStagePinRate (side : Fin 2) (s : State) : Out := epCtrlWrite 2 side.val s
/-- EP_CTRL KIND 3. -/
def execEpochStageWeightCopy (s : State) : Out := epCtrlWrite 3 0 s
/-- AP_CTRL.START. -/
def execApStart (u : Fin 8) (s : State) : Out := pf0Set (.apt u.val) Off.AP_CTRL Fl.AP_CTRL_START 1 s
/-- AP_CTRL.STOP. -/
def execApStop (u : Fin 8) (s : State) : Out := pf0Set (.apt u.val) Off.AP_CTRL Fl.AP_CTRL_STOP 1 s
/-- VP_CTRL.START. -/
def execVpStart (u : Fin 8) (s : State) : Out := pf0Set (.vpt u.val) Off.AP_CTRL Fl.AP_CTRL_START 1 s
/-- VP_CTRL.STOP. -/
def execVpStop (u : Fin 8) (s : State) : Out := pf0Set (.vpt u.val) Off.AP_CTRL Fl.AP_CTRL_STOP 1 s
/-- APG_CTRL.START of the groups named. -/
def execApgStart (groups : Fin 16) (s : State) : Out := pf0Write .apg Off.APG_CTRL (Fl.APG_CTRL_START.put 0 groups.val) s
/-- APG_CTRL.STOP of the groups named. -/
def execApgStop (groups : Fin 16) (s : State) : Out := pf0Write .apg Off.APG_CTRL (Fl.APG_CTRL_STOP.put 0 groups.val) s
/-- AP_FMT. -/
def execApFmtWrite (u : Fin 8) (val : Word) (s : State) : Out := pf0Write (.apt u.val) Off.AP_FMT val s
/-- CNT_CLR of a port or a virtual port. -/
def execApCntClr (u : Fin 16) (s : State) : Out := pf0Write (if u.val < 8 then .apt u.val else .vpt (u.val - 8)) Off.AP_CNT_CTRL 1 s
/-- CNT_CLR of the group control block. -/
def execApgCntClr (s : State) : Out := pf0Write .apg Off.APG_CNT_CTRL 1 s
/-- FIN_CTRL.CNT_CLR. -/
def execFinCntClr (s : State) : Out := pf0Write .fin Off.FIN_CTRL 1 s
/-- PANE_CTRL.QUERY. -/
def execPaneQuery (p : Fin 8) (s : State) : Out := pf0Set .opt (Off.PANE_CTRL p.val) Fl.PANE_CTRL_QUERY 1 s
/-- PANE_CNT_CTRL.CNT_CLR. -/
def execPaneCntClr (p : Fin 8) (s : State) : Out := pf0Write .opt (Off.PANE_CNT_CTRL p.val) 1 s
/-- MIR_CMD. -/
def mirCmdWrite (op i : Nat) (s : State) : Out := pf0Write .mir Off.MIR_CMD (Fl.MIR_CMD_OP.put (Fl.MIR_CMD_STREAM.put 0 i) op) s
/-- MIR_CMD ADOPT. -/
def execAdopt (i : Fin 1024) (s : State) : Out := mirCmdWrite 1 i.val s
/-- MIR_CMD ADOPT_ALL. -/
def execAdoptAll (s : State) : Out := mirCmdWrite 2 0 s
/-- MIR_CMD MIRROR_ON. -/
def execMirrorOn (i : Fin 1024) (s : State) : Out := mirCmdWrite 3 i.val s
/-- MIR_CNT_CTRL.CNT_CLR. -/
def execMirCntClr (s : State) : Out := pf0Write .mir Off.MIR_CNT_CTRL 1 s
/-- PWR_CNT_CTRL.CNT_CLR. -/
def execPwrCntClr (s : State) : Out := pf0Write .pwr Off.PWR_CNT_CTRL 1 s
/-- TEL_CNT_CTRL.CNT_CLR. -/
def execTelCntClr (s : State) : Out := pf0Write .tel Off.TEL_CNT_CTRL 1 s
/-- TEL_SUSPECT_CMD.RESET. -/
def execTelSuspectReset (i : Fin 1024) (s : State) : Out :=
  pf0Write .tel Off.TEL_SUSPECT_CMD (Fl.TEL_SUSPECT_CMD_RESET.put (Fl.TEL_SUSPECT_CMD_STREAM.put 0 i.val) 1) s
/-- MB_DOORBELL of a mailbox channel. -/
def execMbDoorbell (c : Fin 2) (tag : Word) (s : State) : Out := pf0Write .bolt (Off.MB_DOORBELL c.val) tag s
/-- A write of HPOS of a ring by its own function. -/
def hposWrite (f : Nat) (x : RSet) (pos : Word) (s : State) : Out :=
  onDev (fun d => if h : 0 < f ∧ f - 1 < 32 then d.regWrite (.client ⟨f - 1, h.2⟩) (x.off + Off.X_HPOS) pos else d.regWrite .pf0 (rbase 0 x + Off.X_HPOS) pos) s
/-- MSIX_UNMASK: the host's write that clears a vector's mask bit, by the function that holds the vector, whose pending message then leaves; a lock or a
domain that is not ON drops it as any other write (R33, R34, R461). -/
def execMsixUnmask (f : Fin 33) (v : Fin 64) (s : State) : Out :=
  onDev (fun d =>
    let off := fnBase f.val + Off.MSIX_CTRL v.val
    let w := Fl.MSIX_CTRL_MASK.put (d.reg off) 0
    if h : 0 < f.val ∧ f.val - 1 < 32 then d.regWrite (.client ⟨f.val - 1, h.2⟩) (Off.MSIX_CTRL v.val) w else d.regWrite .pf0 off w) s
/-- The doorbell of a submission ring. -/
def execSqDoorbell (f : Fin 33) (pos : Word) (s : State) : Out := hposWrite f.val .sq pos s
/-- The doorbell of a stream ring. -/
def execSrDoorbell (c : Fin 32) (r : Fin 64) (pos : Word) (s : State) : Out := hposWrite (c.val + 1) (.sr r.val) pos s

end Sys2Proof.Machine
end

