-- ==== Sys2Proof/Machine/Boot.lean ====
section
/-! DEFINITION. The start of the device: the fourteen boot steps, their marks, records and outcomes, resets, the calibration and attestation commands (R468–R490, R533, R537). -/

namespace Sys2Proof.Machine

/-! ### The step log's marks (R473, R474) -/

/-- The kind of the newest record of a step at start `c`, for a side where the step is per side; 0 for none. -/
def lastKind (log : List StepRec) (c n side : Nat) : Nat :=
  match log.find? (fun r => r.count == c && r.step == n && (decide (n < 7 ∨ 9 < n) || r.sides.testBit side)) with
  | some r => r.kind
  | none => 0

/-- Whether a kind marks its step: a BEGIN without an END, or an END other than OK and INTERRUPTED. -/
def marksIt (k : Nat) : Bool := k == 1 || k == 3 || k == 4 || k == 5

/-- Whether a step is judged per side. -/
def perSide (n : Nat) : Bool := decide (7 ≤ n ∧ n ≤ 9)

/-- The bit of a side of a per-side step in the SIDES field. -/
def sideBit (n side : Nat) : Nat := 2 * (n - 7) + side

/-- The word of BOOT_MARKS or BOOT_OUTCOME with a step, and the side of a per-side step, set. -/
def markWord (w : Word) (n side : Nat) : Word :=
  let w := w ||| wd (2 ^ n)
  if perSide n then w ||| wd (2 ^ (16 + sideBit n side)) else w

/-- Whether a step, or a side of it, is marked. -/
def Dev.marked (d : Dev) (n side : Nat) : Bool :=
  (d.reg (bootb + Off.BOOT_MARKS)).toNat.testBit (if perSide n then 16 + sideBit n side else n)

/-- A torn newest record is the BEGIN of the step after the last good END of start `c`. -/
def tornBegin (log : List StepRec) (c : Nat) : Option StepRec :=
  match log.find? (fun r => r.count == c && r.kind != 1) with
  | some r => if r.step < 14 then some ⟨0, c, r.step + 1, 1, 3, 0⟩ else none
  | none => some ⟨0, c, 1, 1, 0, 0⟩

/-- The marks that the log of start `c` adds, but for those that RETRY or a completed FW_UPDATE cleared since (R474, R479). -/
def Dev.readMarks (d : Dev) (log : List StepRec) (c : Nat) : Dev :=
  let new := (List.range 14).foldl (fun w i =>
    (if perSide (i + 1) then [0, 1] else [0]).foldl (fun w s => if marksIt (lastKind log c (i + 1) s) then markWord w (i + 1) s else w) w) (0 : Word)
  { d with boot := { d.boot with cleared := 0 } }.setReg (bootb + Off.BOOT_MARKS) (d.reg (bootb + Off.BOOT_MARKS) ||| (new &&& ~~~ d.boot.cleared))

/-! ### Begin and end of a step (R470, R473) -/

/-- BEGIN of a step. -/
def Dev.stepBegin (d : Dev) (n : Nat) (sides : List Nat) : Dev :=
  let d := d.logStep n 1 (sideMask sides) 0
  { d with boot := { d.boot with begun := some n, left := sides } }.setFld (bootb + Off.BOOT_STATUS) Fl.BOOT_STATUS_STEP n

/-- END of a step, or of sides of it; an END other than OK shows in BOOT_OUTCOME. -/
def Dev.stepEnd (d : Dev) (n kind sides reason : Nat) : Dev :=
  let d := d.logStep n kind sides reason
  if kind = 2 ∨ kind = 6 then d
  else
    let o := bootb + Off.BOOT_OUTCOME
    d.each (if perSide n then [0, 1].filter (fun s => sides.testBit s) else [0]) (fun d s => d.setReg o (markWord (d.reg o) n s))

/-- The work of the step is over. -/
def Dev.stepOver (d : Dev) : Dev := { d with boot := { d.boot with begun := none, left := [] } }

/-- A required step has failed: boot is FAILED at it (R472). -/
def Dev.bootFail (d : Dev) (n : Nat) : Dev :=
  let o := bootb + Off.BOOT_STATUS
  let d := (d.stepEnd n 5 0 0).stepOver
  let d := (d.bootRecord kBOOT 0x01 n 0 0).bootRecord kBOOT 0x05 n 0 0
  let d := (d.setFld o Fl.BOOT_STATUS_STATE 2).setFld o Fl.BOOT_STATUS_FAILED_STEP n
  { d with alerts := d.alerts ||| 8 }

/-- An optional step is skipped; `tried` is whether it failed rather than was marked. -/
def Dev.stepSkip (d : Dev) (n sides reason : Nat) (tried : Bool) : Dev :=
  let d := d.stepEnd n 3 sides reason
  (if tried then d.bootRecord kBOOT 0x01 n sides reason else d).bootRecord kBOOT 0x02 n sides reason

/-- A step takes its alternative. -/
def Dev.stepAlt (d : Dev) (n sides : Nat) (tried : Bool) : Dev :=
  let d := d.stepEnd n 4 sides 0
  (if tried then d.bootRecord kBOOT 0x01 n sides 0 else d).bootRecord kBOOT 0x03 n sides 0

/-- The Hinge's records reach the log as the steps go on (R512). -/
def Dev.flushHinge (d : Dev) : Dev := (d.setWaiting 0 []).each (d.waiting 0) (fun d r => (d.logPut r).eventPut 0 r)

/-! ### The work of the steps (R470) -/

/-- A function is marked down for this start. -/
def Dev.markDown (d : Dev) (f : Nat) : Dev := { d with boot := { d.boot with down := d.boot.down ++ [f] } }

/-- A torn newest record of the last start is taken as a BEGIN, and stands in the log as one (R474). -/
def Dev.tornNoted (d : Dev) (torn : Bool) : Dev :=
  match (if torn then tornBegin d.boot.log (d.reg (bootb + Off.BOOT_COUNT)).toNat else none) with
  | some r =>
    let seq := match d.boot.log with
      | x :: _ => (x.seq + 1) % 2 ^ 32
      | [] => 0
    { d with boot := { d.boot with log := { r with seq := seq } :: d.boot.log } }
  | none => d

/-- BS01: the log is read. -/
def Dev.bs01 (d : Dev) (torn : Bool) : Dev :=
  let d := d.readMarks d.boot.log ((d.reg (bootb + Off.BOOT_COUNT)).toNat - 1)
  if torn then d.bootRecord kBOOT 0x07 1 0 0 else d

/-- The ticks of units begin as they power on (R491). -/
def Dev.unitsStart (d : Dev) (src : List Nat) : Dev := d.each src (fun d x => { d with tickBase := Tab.set 0 d.tickBase x d.tick })

/-- BS02: the endpoint is enabled with the link that trained. -/
def Dev.bs02 (d : Dev) (f : BootFacts) : Dev :=
  let o := hifb + Off.HIF_STATUS
  (((d.setFld o Fl.HIF_STATUS_SPEED f.speed.val).setFld o Fl.HIF_STATUS_WIDTH (2 ^ f.lanes.val)).setFld o Fl.HIF_STATUS_FLIT (b2n f.flit)).setDom shPcie 2 |>.unitsStart [0x09]

/-- BS03: the copy of the NVM header to use, with the role it gives (R469). -/
def Dev.useHeader (d : Dev) (copy : Nat) : Dev :=
  let r := d.flashAt (copy * 0x10000 + 4) 1
  (d.setFld (bootb + Off.BOOT_STATUS) Fl.BOOT_STATUS_HDR_COPY copy).setFld (Block.gctl.base + Off.DEV_INFO) Fl.DEV_INFO_ROLE (if 3 ≤ r then 0 else r)

/-- The slot that the header in use names first. -/
def Dev.firstSlot (d : Dev) : Nat := d.flashAt (d.fld (bootb + Off.BOOT_STATUS) Fl.BOOT_STATUS_HDR_COPY * 0x10000 + 5) 1 % 2

/-- BS03. -/
def Dev.bs03 (d : Dev) (ok : Bool) : Dev :=
  let skip := d.marked 3 0
  if ok = true ∧ skip = false ∧ d.nvmOk 0 = true then (d.useHeader 0).stepEnd 3 2 0 0
  else if d.nvmOk 1 then (d.useHeader 1).stepAlt 3 0 (!skip)
  else d.bootFail 3

/-- The image of a slot is accepted (R477). -/
def Dev.useSlot (d : Dev) (slot : Nat) : Dev :=
  (d.setFld (bootb + Off.BOOT_STATUS) Fl.BOOT_STATUS_SLOT slot).setFld (secb + Off.SEC_STATUS) Fl.SEC_STATUS_SVN (d.flashAt (slotBase slot + 8) 1)

/-- BS04: the image of FIRST_SLOT, or of the other slot; `ok` and `other` tell whether each is read within its 40 ms. -/
def Dev.bs04 (d : Dev) (ok other : Bool) : Dev :=
  let a := d.firstSlot
  let skip := d.marked 4 0
  let c := d.imageCheck a
  if ok = true ∧ skip = false ∧ c = 0 then (d.useSlot a).stepEnd 4 2 0 0
  else
    let d := if skip = false ∧ ok = true ∧ c ≠ 0 then d.imageRefused c else d
    let c' := d.imageCheck (1 - a)
    if other = false then d.bootFail 4
    else if c' = 0 then (d.useSlot (1 - a)).stepAlt 4 0 (!skip) else (d.imageRefused c').bootFail 4

/-- BS05: the identity keys are unsealed, or attestation is down (R480). -/
def Dev.bs05 (d : Dev) (idOk : Bool) : Dev :=
  if idOk then d else (d.setFld (secb + Off.SEC_STATUS) Fl.SEC_STATUS_ID_DOWN 1).bootRecord kSEC 0x07 0 0 0

/-- What a calibration function's failed entry does (R484). -/
def Dev.calDown (d : Dev) (f : Nat) : Dev :=
  let d := d.markDown f
  let g := pwrb + Off.PWR_GOV_STATUS
  match f with
  | 0 => d.containNoted 0 1
  | 1 => d.containNoted 1 1
  | 5 => ((d.setFld g Fl.PWR_GOV_STATUS_CAL_HOLD 1).setFld g Fl.PWR_GOV_STATUS_CLK0 10).setFld g Fl.PWR_GOV_STATUS_CLK1 10
  | 6 => ((d.setFld g Fl.PWR_GOV_STATUS_CAL_HOLD 1).setFld g Fl.PWR_GOV_STATUS_CLK0 10).setFld g Fl.PWR_GOV_STATUS_CLK1 10
  | _ => d

/-- BS06: each entry on its own, and the step ends OK whatever they hold; a step that is marked, or reaches its bound, is skipped and every function is
down (R470, R474, R484). -/
def Dev.bs06 (d : Dev) (ok : Bool) : Dev :=
  let skip := d.marked 6 0
  let run := ok && !skip
  let d := if run || skip then d else d.bootRecord kBOOT 0x01 6 0 0
  let d := d.each (List.range 7) (fun d f =>
    if run = true ∧ calCheck f (d.flashRead (calBase f) 4096) = 0 then d
    else (d.calDown f).bootRecord kBOOT 0x02 6 0 f)
  d.stepEnd 6 (if run then 2 else 3) 0 0

/-- The highest clock point for a voltage in mV (R533). -/
def capOf (mv : Nat) : Nat := if 720 ≤ mv then 17 else if 680 ≤ mv then 15 else if 630 ≤ mv then 12 else if 590 ≤ mv then 9 else 7

/-- A side starts: its PLL is locked, its Shutters are open, its controller runs, its ceiling is set. -/
def Dev.sideStart (d : Dev) (s mv : Nat) : Dev :=
  let cap := capOf mv
  let clk := min (d.fld (pwrb + Off.PWR_GOV_STATUS) (govClk s)) cap
  let d : Dev := { d with boot := if s = 0 then { d.boot with cap0 := cap, mv0 := mv } else { d.boot with cap1 := cap, mv1 := mv } }
  let d := (d.setFld (pwrb + Off.PWR_CEIL) (ceilFld s) cap).setFld (pwrb + Off.PWR_GOV_STATUS) (govClk s) clk
  let d := (d.setDom (shFabric s) 2).setDom (shHbm s) 2
  let d := d.unitsStart [srcSc s, srcHbm s, srcMesh s]
  let o := (Block.sc s).base + Off.SC_STATUS
  (d.setFld o Fl.SC_STATUS_RUNNING 1).setFld o Fl.SC_STATUS_CLK clk

/-- BS07 of a side. -/
def Dev.bs07 (d : Dev) (f : BootFacts) (ok : Bool) (s : Nat) : Dev :=
  let mv := if s = 0 then f.mv0 else f.mv1
  if d.marked 7 s then (d.stepSkip 7 (2 ^ s) 0 false).containNoted s 1
  else if ok = true ∧ f.pll.getLsbD s = true ∧ 550 ≤ mv then (d.sideStart s mv).stepEnd 7 2 (2 ^ s) 0
  else (d.stepSkip 7 (2 ^ s) 0 true).containNoted s (if mv < 550 then 5 else 1)

/-- The rows of a repair list that a boot applies, in the order of the list: a row listed twice is one row, and a bank takes one row (R239). -/
def rowsApplied (rows : List (Nat × Nat)) : List (Nat × Nat) :=
  rows.foldl (fun a r => if a.any (fun x => hbmBank x == hbmBank r) then a else a ++ [r]) []

/-- A trained stack: repairs are applied, the stack is zero, and the side's half of the stream table lies where no allotment reaches (R239, R240, R278).
Which rows and banks the addresses lie in is the stack's, and the half's place a free value. -/
def Dev.hbmReady (d : Dev) (s : Nat) : Dev :=
  let rows := ((d.repair.filter (fun g => g * 32 / hbmSize == s)).map rowOf).eraseDups
  let (y, d) := d.free
  let applied := (rowsApplied rows).length
  let b := (Block.hbm s).base
  let d := (d.setFld (b + Off.HBM_REPAIR) Fl.HBM_REPAIR_APPLIED applied).setFld (b + Off.HBM_REPAIR) Fl.HBM_REPAIR_REFUSED (rows.length - applied)
  let base := s * hbmSize + 63 * 0x10000000 + 0x10000 * (y.toNat % 4096)
  let d := (d.setReg (schb + Off.ST_BASE_LO s) (lo32 base)).setReg (schb + Off.ST_BASE_HI s) (hi32 base)
  (d.hbmZero (s * hbmSize) hbmSize).setFld (b + Off.HBM_STATUS) Fl.HBM_STATUS_READY 1

/-- Fresh training rewrites the side's saved values (R468, R470). -/
def Dev.saveTraining (d : Dev) (s : Nat) : Dev :=
  { d with boot := { d.boot with trained := Tab.set 0 d.boot.trained s (d.fresh + 1) }, fresh := d.fresh + 1 }

/-- BS08 of a side. -/
def Dev.bs08 (d : Dev) (f : BootFacts) (ok : Bool) (s : Nat) : Dev :=
  let skip := d.marked 8 s
  let always := d.fld (bootb + Off.BOOT_EXP) Fl.BOOT_EXP_TRAIN_FRESH = 1
  if ok = true ∧ skip = false ∧ ¬ always ∧ f.saved.getLsbD s = true then (d.hbmReady s).stepEnd 8 2 (2 ^ s) 0
  else if f.fresh.getLsbD s = true then
    let d := (d.hbmReady s).saveTraining s
    if skip = false ∧ always then d.stepEnd 8 2 (2 ^ s) 0 else d.stepAlt 8 (2 ^ s) (!skip)
  else ((d.stepEnd 8 5 (2 ^ s) 0).bootRecord kBOOT 0x01 8 (2 ^ s) 0).containNoted s 4

/-- BS09 of a side. -/
def Dev.bs09 (d : Dev) (f : BootFacts) (ok : Bool) (s : Nat) : Dev :=
  if d.marked 9 s then (d.stepSkip 9 (2 ^ s) 0 false).containNoted s 2
  else if ok = true ∧ f.mesh.getLsbD s = true then d.stepEnd 9 2 (2 ^ s) 0
  else (d.stepSkip 9 (2 ^ s) 0 true).containNoted s 2

/-- BS10: the audio PLL is calibrated, or the ports stay disabled. -/
def Dev.bs10 (d : Dev) (ok : Bool) : Dev :=
  if ok = true ∧ d.marked 10 0 = false then (d.apllFlag Fl.APLL_STATUS_LOCK 1).stepEnd 10 2 0 0
  else (d.markDown 2).stepSkip 10 0 0 (!d.marked 10 0)

/-- BS11: the Casements are lit and the Panes enabled, or every EN reads 0. -/
def Dev.bs11 (d : Dev) (ok : Bool) : Dev :=
  let skip := d.marked 11 0
  if ok = true ∧ skip = false then
    let d := d.each [0, 1] (fun d k =>
      let d := d.each (casePanes k) (fun d p => d.setFld (opt + Off.PANE_CTRL p) Fl.PANE_CTRL_EN 1)
      (d.setDom (shCase k) 2).caseLight k)
    d.stepEnd 11 2 0 0
  else
    let d := d.each (List.range 8) (fun d p => d.setFld (opt + Off.PANE_CTRL p) Fl.PANE_CTRL_EN 0)
    d.stepAlt 11 0 (!skip)

/-- BS12: IDENTIFY on channel 1, which a Bolt that is ON answers, or the channel stays unused. -/
def Dev.bs12 (d : Dev) (ok : Bool) : Dev :=
  if ok = true ∧ d.marked 12 0 = false ∧ d.domOn shBolt = true then d.stepEnd 12 2 0 0 else (d.markDown 12).stepSkip 12 0 0 (!d.marked 12 0)

/-- One configuration record. -/
def Dev.cfgRecord (d : Dev) (i : Nat) : Dev :=
  let o := d.flashAt (0x1020008 + 8 * i) 4
  if d.boot.begun ≠ some 13 then d
  else if cfgBarred o then (d.bootRecord kBOOT 0x08 13 0 0).flushHinge
  else
    let d := d.regWrite .hinge o (wd (d.flashAt (0x102000C + 8 * i) 4))
    d.setFld (bootb + Off.CFG_APPLIED) Fl.CFG_APPLIED_COUNT (d.fld (bootb + Off.CFG_APPLIED) Fl.CFG_APPLIED_COUNT + 1)

/-- BS13: the configuration records are applied in order. -/
def Dev.bs13 (d : Dev) (ok : Bool) : Dev :=
  let n := d.flashAt 0x1020000 4
  let good := decide (n ≤ 524287) && crc32 (d.flashRead 0x1020008 (8 * n)) == BitVec.ofNat 32 (d.flashAt 0x1020004 4)
  if d.marked 13 0 then d.stepSkip 13 0 0 false
  else if ok = false ∨ good = false then d.stepSkip 13 0 0 true
  else
    let d := d.each (List.range n) Dev.cfgRecord
    if d.boot.begun = some 13 then d.stepEnd 13 2 0 0 else d

/-- Fuse bits are blown in ascending order, `n` of them at most, until F equals the running image's SVN (R478). -/
def Dev.blowFuses (d : Dev) (n : Nat) : Dev :=
  let svn := d.fld (secb + Off.SEC_STATUS) Fl.SEC_STATUS_SVN
  if d.fuses < svn then d.setFld (secb + Off.SEC_STATUS) Fl.SEC_STATUS_FUSES (min svn (d.fuses + n)) else d

/-- BS14: fuses, locks, and the host interface is ready (R478, R486, R433). -/
def Dev.bs14 (d : Dev) (ticks : Nat) : Dev :=
  let svn := d.fld (secb + Off.SEC_STATUS) Fl.SEC_STATUS_SVN
  let d := if d.fuses < svn then (d.blowFuses svn).bootRecord kSEC 0x05 0 0 0 else d
  let a := slotBase d.bootSlot
  let d := (d.setFld (secb + Off.SEC_LOCK0) Fl.SEC_LOCK0_BLOCKS (d.flashAt (a + 12) 4)).setReg (secb + Off.SEC_LOCK1) (wd (d.flashAt (a + 16) 4))
  let d := d.each [0, 1] (fun d c =>
    let o := Block.bolt.base + Off.MB_STATUS c
    if d.fld o Fl.MB_STATUS_STATE = 3 then d.setFld o Fl.MB_STATUS_STATE 0 else d)
  let d := (d.setFld (hifb + Off.HIF_STATUS) Fl.HIF_STATUS_READY 1).setReg (bootb + Off.BOOT_TIME) (wd ticks)
  ((d.stepEnd 14 2 0 0).setFld (bootb + Off.BOOT_STATUS) Fl.BOOT_STATUS_STATE 1).bootRecord kBOOT 0x04 14 0 0

/-- Whether a required step was left unfinished at the two starts before this one (R474). -/
def Dev.twice (d : Dev) (n : Nat) : Bool :=
  let c := (d.reg (bootb + Off.BOOT_COUNT)).toNat
  [1, 2, 5, 14].contains n && decide (2 ≤ c) && lastKind d.boot.log (c - 1) n 0 == 1 && lastKind d.boot.log (c - 2) n 0 == 1

/-- The sides that a per-side step concerns: those that are not contained. -/
def Dev.stepSides (d : Dev) (n : Nat) : List Nat := if perSide n then [0, 1].filter (fun s => !d.contained s) else []

/-- The work of a per-side step on a side. -/
def Dev.sideWork (f : BootFacts) (n : Nat) (ok : Bool) (d : Dev) (s : Nat) : Dev :=
  match n with
  | 7 => d.bs07 f ok s
  | 8 => d.bs08 f ok s
  | _ => d.bs09 f ok s

/-- The work of a step that has begun; `ok` is whether it succeeds where the flash does not decide it. A per-side step that concerns no side ends OK. -/
def Dev.stepWork (d : Dev) (f : BootFacts) (n : Nat) (ok : Bool) : Dev :=
  let required (d' : Dev) : Dev := if ok then d'.stepEnd n 2 0 0 else d.bootFail n
  let d := match n with
    | 1 => if ok then (d.bs01 f.torn).stepEnd 1 2 0 0 else d.bootFail 1
    | 2 => required (d.bs02 f)
    | 3 => d.bs03 ok
    | 4 => d.bs04 ok (f.ok.getLsbD 15)
    | 5 => required (d.bs05 f.idOk)
    | 6 => d.bs06 ok
    | 10 => d.bs10 ok
    | 11 => d.bs11 ok
    | 12 => d.bs12 ok
    | 13 => d.bs13 ok
    | 14 => if ok then d.bs14 f.ticks else d.bootFail 14
    | _ => if d.boot.left = [] then d.stepEnd n 2 0 0 else d.each d.boot.left (Dev.sideWork f n ok)
  d.stepOver.flushHinge

/-- What has been done of the step left running: the sides that have ended, the fuse bits blown (R474, R478). -/
def Dev.stepPart (d : Dev) (f : BootFacts) (n : Nat) : Dev :=
  if n = 14 then d.blowFuses f.blown
  else
    let d := d.each (d.boot.left.filter (fun s => f.done.getLsbD s)) (Dev.sideWork f n true)
    { d with boot := { d.boot with left := d.boot.left.filter (fun s => !f.done.getLsbD s) } }

/-- One step: BEGIN, then its work, unless it is the step left running. Nothing once boot has FAILED, stopped or waits. -/
def Dev.bootStep (f : BootFacts) (d : Dev) (n : Nat) : Dev :=
  if d.fld (bootb + Off.BOOT_STATUS) Fl.BOOT_STATUS_STATE ≠ 0 ∨ d.boot.begun.isSome ∨ d.boot.waiting then d
  else
    let d := d.stepBegin n (d.stepSides n)
    if d.twice n then (d.bootFail n).flushHinge
    else if f.upTo.val = n then d.stepPart f n
    else d.stepWork f n (f.ok.getLsbD n)

/-! ### The commands -/

/-- A start: the flash and the step log are as it finds them, the count rises, and the steps run. -/
def Dev.bootRun (d : Dev) (f : BootFacts) : Dev :=
  let o := bootb + Off.BOOT_COUNT
  let d := d.tornNoted f.torn
  let d : Dev := { d with boot := { d.boot with waiting := false, flash0 := d.flash } }
  let d := d.setReg o (d.reg o + 1)
  d.each ((List.range 14).map (· + 1)) (Dev.bootStep f)

/-- A start from power-on with `cold`, or from the release of PERST_N for which the device waits (R470, R537). -/
def Dev.bootStart (d : Dev) (cold : Bool) (f : BootFacts) : Dev := if cold then d.powerCycle.bootRun f else if d.boot.waiting then d.bootRun f else d

/-- The step left running reaches its bound and fails; the later steps run (R470). -/
def Dev.bootTimeout (d : Dev) (f : BootFacts) : Dev :=
  match d.boot.begun with
  | none => d
  | some n => (d.stepWork f n false).each (((List.range 14).map (· + 1)).filter (fun m => decide (n < m))) (Dev.bootStep f)

/-- RRS_LIMIT: 1 s after release with BS14 not ended, boot running or FAILED (R471). -/
def execRrsLimit (s : State) : Out :=
  onDev (fun d =>
    if d.fld (bootb + Off.BOOT_STATUS) Fl.BOOT_STATUS_STATE ≠ 1 ∧ d.boot.waiting = false ∧ d.boot.rrs = false then
      { d with boot := { d.boot with rrs := true } }.bootRecord kBOOT 0x06 (d.fld (bootb + Off.BOOT_STATUS) Fl.BOOT_STATUS_STEP) 0 0
    else d) s

/-- PERST_ASSERT: PERST_N has been low for 1 µs (R475, R537). -/
def execPerstAssert (s : State) : Out := onDev Dev.restart s

/-- DEV_RESET.RESTART. -/
def execDevRestart (s : State) : Out := pf0Write .gctl Off.DEV_RESET 1 s

/-- BOOT_CTRL.RETRY. -/
def execBootRetry (s : State) : Out := pf0Write .boot Off.BOOT_CTRL 1 s

/-- CAL_CMD; `ok` is whether the flash answers. -/
def calWriteCmd (op f : Nat) (ok : Bool) (s : State) : Out :=
  let v := Fl.CAL_CMD_OP.put (wd f) op
  if ok then pf0Write .boot Off.CAL_CMD v s
  else onDev (fun d => if d.locked .boot then d.bootRecord kSEC 0x02 (bootb + Off.CAL_CMD) 0 0 else d.calCmd v false) s

/-- CAL_CMD READ. -/
def execCalRead (f : Fin 7) (ok : Bool) (s : State) : Out := calWriteCmd 1 f.val ok s
/-- CAL_CMD WRITE. -/
def execCalWrite (f : Fin 7) (ok : Bool) (s : State) : Out := calWriteCmd 2 f.val ok s
/-- SEC_CTRL.OP ATTEST. -/
def execAttest (s : State) : Out := pf0Write .sec Off.SEC_CTRL 1 s
/-- SEC_CTRL.OP CERTS. -/
def execCerts (s : State) : Out := pf0Write .sec Off.SEC_CTRL 2 s

end Sys2Proof.Machine
end

