-- ==== Sys2Proof/Machine/Bolt.lean ====
section
/-! DEFINITION. The Bolt: its mailbox, seal, legal event counter and audit trail, weighing inputs, weight, tare and price, records, checkpoints and serial port (R418–R437). No command of another file reaches its state. -/

namespace Sys2Proof.Machine

/-- A command that acts on the Bolt and on what it shares with the device: the mailbox window and the weighing queue. -/
def onBolt (f : Dev × Bolt → Dev × Bolt) (s : State) : Out :=
  let r := f (s.dev, s.bolt)
  .next { s with dev := r.1, bolt := r.2 }

/-- The base of the mailbox window. -/
def boltb : Nat := Block.bolt.base

/-! ### Time: steps of 40 ns since the Bolt's boot -/

/-- Steps of Bolt time in a second. -/
def boltSec : Nat := 25000000
/-- Steps of Bolt time in a millisecond. -/
def boltMs : Nat := 25000
/-- Bolt seconds since the boot. -/
def Bolt.secs (b : Bolt) : Nat := b.time / boltSec

/-! ### Events (R436, R437) -/

/-- An event joins the queue of 32, or is lost. -/
def Bolt.event (b : Bolt) (code scale : Nat) : Bolt :=
  if b.events.length < 32 then { b with events := b.events ++ [(code, scale)] } else { b with lost := true }

/-- The word of MB_EVENT: the oldest event, or CODE 0 and SCALE 0xFF. -/
def Bolt.eventWord (b : Bolt) : Word :=
  match b.events with
  | [] => 0xFF00
  | (c, n) :: _ => wd (c + 256 * n)

/-- MB_EVENT and the SEAL bits show what the Bolt holds. -/
def showBolt (p : Dev × Bolt) : Dev × Bolt :=
  let d := p.1.setReg (boltb + Off.MB_EVENT) p.2.eventWord
  (d.each [0, 1] (fun d c => d.setFld (boltb + Off.MB_STATUS c) Fl.MB_STATUS_SEAL (b2n (p.2.power && p.2.sealOpen))), p.2)

/-- Take the oldest event; EVENT_LOST takes the place of those that found the queue full. -/
def Bolt.popEvent (b : Bolt) : Bolt :=
  let b : Bolt := { b with events := b.events.drop 1 }
  if b.lost then { b with events := b.events ++ [(0x09, 0xFF)], lost := false } else b

/-! ### Requests and responses (R433–R435) -/

/-- A response status. -/
inductive BStat where
  | ok | badReq | sealed | sealOpen | offline | unstable | range | noItem | authFail | locked | tareInvalid | gone | pending
  deriving DecidableEq, Repr

/-- The number of a status (R434). -/
def statNum : BStat → Nat
  | .ok => 0
  | .badReq => 1
  | .sealed => 2
  | .sealOpen => 3
  | .offline => 4
  | .unstable => 5
  | .range => 6
  | .noItem => 7
  | .authFail => 8
  | .locked => 9
  | .tareInvalid => 10
  | .gone => 11
  | .pending => 12

/-- The opcodes of the command table (R435). -/
def boltOps : List Nat := [0x01, 0x02, 0x10, 0x11, 0x12, 0x13, 0x14, 0x20, 0x21, 0x22, 0x23, 0x24, 0x30, 0x31, 0x40, 0x41, 0x42]

/-- What serving a request answers: the Bolt, the status, and the response bytes from byte 8 on. -/
structure Served where
  bolt : Bolt
  stat : BStat
  body : List Byte := []

/-- A status alone. -/
def Bolt.only (b : Bolt) (s : BStat) : Served := ⟨b, s, []⟩

/-- A figure outside the range: the side stands in response byte 8. -/
def Bolt.rangeStat (b : Bolt) (overload : Bool) : Served := ⟨b, .range, [Config.rangeSide overload]⟩

/-- Write MB_RSP of a channel: the header, the tag, and the bytes. -/
def Dev.putResponse (d : Dev) (r : BReq) (s : BStat) (body : List Byte) : Dev :=
  let bs := body.take 1016
  let hdr := wd (statNum s + 256 * r.op + 2 ^ 16 * bs.length)
  let d := d.setReg (boltb + Off.MB_RSP r.chan 0) hdr
  let d := d.setReg (boltb + Off.MB_RSP r.chan 1) (wd r.tag)
  d.each (List.range ((bs.length + 3) / 4)) (fun d i => d.setReg (boltb + Off.MB_RSP r.chan (i + 2)) (wd (leAt bs (4 * i) 4)))

/-- The response of a request is written and STATE becomes DONE. -/
def finish (p : Dev × Bolt) (r : BReq) (s : BStat) (body : List Byte) : Dev × Bolt :=
  let d := p.1.putResponse r s body
  (d.setFld (boltb + Off.MB_STATUS r.chan) Fl.MB_STATUS_STATE 3, { p.2 with req := none })

/-- Serve the request in hand when it has opcode `op`; a command with another request, or with none, changes nothing. -/
def serve (op : Nat) (f : Bolt → BReq → Served) (p : Dev × Bolt) : Dev × Bolt :=
  match p.2.req with
  | none => p
  | some r =>
    if p.2.power = false ∨ r.op ≠ op then p
    else
      let v := f p.2 r
      showBolt (finish (p.1, v.bolt) r v.stat v.body)

/-- Whether a channel's request waits to be taken. -/
def Dev.rung (d : Dev) (c : Nat) : Bool := d.fld (boltb + Off.MB_STATUS c) Fl.MB_STATUS_STATE == 1

/-- BOLT_REQUEST_TAKE: the Bolt copies a request and STATE becomes BUSY; with both channels waiting it takes the one it did not serve last. A header
whose opcode the table does not list, or that claims more than 952 bytes, is answered BAD_REQ. -/
def execBoltRequestTake (c : Fin 2) (s : State) : Out :=
  onBolt (fun p =>
    let d := p.1
    let b := p.2
    if b.power = false ∨ b.req.isSome = true ∨ d.rung c.val = false ∨ (d.rung (1 - c.val) = true ∧ b.served = c.val) then p
    else
      let ws := (List.range 240).map (fun i => d.reg (boltb + Off.MB_REQ c.val i))
      let h := (ws.headD 0).toNat
      let r : BReq := ⟨c.val, h % 256, h / 256 % 256, (ws.getD 1 0).toNat, ws, b.time, b.sealOpen⟩
      let q : Dev × Bolt := (d.setFld (boltb + Off.MB_STATUS c.val) Fl.MB_STATUS_STATE 2, { b with req := some r, served := c.val })
      if boltOps.contains r.op = true ∧ h / 2 ^ 16 ≤ 952 then q else finish q r .badReq []) s

/-! ### Scales -/

/-- A scale's state. -/
def Bolt.scale (b : Bolt) (n : Nat) : Scale := Tab.get Scale.fresh b.scales n
/-- Replace a scale. -/
def Bolt.setScale (b : Bolt) (n : Nat) (x : Scale) : Bolt := { b with scales := Tab.set Scale.fresh b.scales n x }

/-- Run `f` on the scale that a request names; there are 48. -/
def withScale (f : Bolt → Scale → Served) (b : Bolt) (r : BReq) : Served :=
  if r.scale < 48 then f b (b.scale r.scale) else b.only .badReq

/-- The last FILT samples. -/
def Scale.window (x : Scale) : List Int := (x.samples.take x.filt).map (·.2)

/-- The weight figure about a zero point: the average of the last FILT samples less the zero point, times the span factor, in milligrams, rounded
once (R142, R426). -/
def Scale.about (x : Scale) (zero : Int) : Int :=
  let w := x.window
  rneDiv ((w.foldl (· + ·) 0 - zero * w.length) * x.spanNum) (w.length * x.spanDen)

/-- The weight figure. -/
def Scale.figure (x : Scale) : Int := x.about x.zero

/-- The samples of the last STAB_MS. -/
def Scale.recent (x : Scale) (now : Nat) : List Int := (x.samples.filter (fun s => decide (now ≤ s.1 + x.stabMs * boltMs))).map (·.2)

/-- The figure is stable: FILT samples have come, and those of the last STAB_MS spread no more than e (R426). -/
def Scale.stable (x : Scale) (now : Nat) : Bool :=
  let w := x.recent now
  let spread := w.foldl max (w.headD 0) - w.foldl min (w.headD 0)
  decide (x.filt ≤ x.samples.length) && decide (spread * x.spanNum.natAbs ≤ x.e * x.spanDen)

/-- Whether the figure is above Max + 9e. -/
def Scale.overload (x : Scale) : Bool := decide ((x.maxMg + 9 * x.e : Nat) < x.figure)
/-- Whether the figure is below −20e. -/
def Scale.underload (x : Scale) : Bool := decide (x.figure < -((20 * x.e : Nat) : Int))
/-- The gross figure rounded to a multiple of e, ties to even (R426). -/
def Scale.gross (x : Scale) : Int := x.e * rneDiv x.figure x.e

/-- A tare in milligrams is admissible: a multiple of e, not above Max (R427). -/
def Scale.tareOk (x : Scale) (t : Nat) : Bool := decide (x.e ∣ t) && decide (t ≤ x.maxMg)

/-- A sample joins, the newest first; those that neither the average nor the stability needs are dropped. -/
def Scale.sample (x : Scale) (now : Nat) (v : Int) : Scale :=
  let old := x.samples.filter (fun s => decide (now ≤ s.1 + x.stabMs * boltMs))
  { x with samples := (now, v) :: x.samples.take (max old.length (x.filt - 1)), seen := now }

/-- A scale that gives samples again is ONLINE (R425). -/
def Bolt.online (b : Bolt) (n : Nat) : Bolt :=
  let x := b.scale n
  if x.online then b else (b.setScale n { x with online := true }).event 0x06 n

/-! ### The legal event counter and the audit trail (R422, R423) -/

/-- The largest value of the counter. -/
def legalMax : Nat := 2 ^ 32 - 1

/-- An S command runs with the seal open and the counter below its maximum (R421, R422). -/
def sealedCmd (f : Bolt → BReq → Served) (b : Bolt) (r : BReq) : Served :=
  if r.sealOpen = false then b.only .sealed
  else if b.legal = legalMax then b.only .locked
  else f b r

/-- A command that runs with the seal closed (R421, R435). -/
def closedCmd (f : Bolt → BReq → Served) (b : Bolt) (r : BReq) : Served :=
  if r.sealOpen = true then b.only .sealOpen else f b r

/-- An accepted change: the counter, its audit entry, LEGAL_EVENT, and COUNTER_LOCKED at the maximum; `b` already holds the new values. -/
def Bolt.legalEvent (b : Bolt) (op scale : Nat) (old new : List Byte) : Bolt :=
  let n := b.legal + 1
  let a : Audit := ⟨n, Config.boltParam op, scale, old.take 16, new.take 16, b.boots, b.secs⟩
  let b : Bolt := { b with legal := n, audit := (a :: b.audit).take 1024 }
  let b := b.event 0x03 scale
  if n = legalMax then b.event 0x08 0xFF else b

/-- The configuration values of a scale, in the order of the command table. -/
def Scale.cfg (x : Scale) : List Int := [x.maxMg, x.e, x.filt, x.stabMs, x.rate]

/-- SCALE_CFG: Max, e, FILT, STAB_MS and the sample rate, 10 to 1,000 samples/s (R424, R435). -/
def execScaleCfg (maxMg e filt stabMs rate : Nat) (s : State) : Out :=
  onBolt (serve 0x10 (sealedCmd (fun b r => withScale (fun b x =>
    if e = 0 ∨ filt = 0 ∨ rate < 10 ∨ 1000 < rate then b.only .badReq
    else
      let y : Scale := { x with maxMg := maxMg, e := e, filt := filt, stabMs := stabMs, rate := rate }
      ((b.setScale r.scale y).legalEvent 0x10 r.scale (Config.boltPack 0x10 x.cfg) (Config.boltPack 0x10 y.cfg)).only .ok) b r))) s

/-- CALIBRATE: the zero, or the span against a test load in milligrams (R435). -/
def execCalibrate (load : Option Nat) (s : State) : Out :=
  onBolt (serve 0x11 (sealedCmd (fun b r => withScale (fun b x =>
    let w := x.window
    let sum := w.foldl (· + ·) 0
    let accept (y : Scale) : Served :=
      ((b.setScale r.scale y).legalEvent 0x11 r.scale (Config.boltPack 0x11 [x.calZero, x.spanNum, x.spanDen])
        (Config.boltPack 0x11 [y.calZero, y.spanNum, y.spanDen])).only .ok
    if x.online = false ∨ w = [] then b.only .offline
    else match load with
      | none =>
        let z := rneDiv sum w.length
        accept { x with zero := z, calZero := z }
      | some l =>
        let d := sum - x.zero * w.length
        if l = 0 ∨ d = 0 then b.only .badReq
        else accept { x with spanNum := (if d < 0 then -1 else 1) * (l * w.length : Nat), spanDen := d.natAbs }) b r))) s

/-- KEY_SET: the indicator, price or link key (R435). -/
def execKeySet (key : BoltKey) (bytes : List Byte) (s : State) : Out :=
  let pack (l : List Byte) : List Byte := Config.boltPack 0x12 (l.map (fun x => (x.toNat : Int)))
  onBolt (serve 0x12 (sealedCmd (fun b r =>
    match key with
    | .indicator => (Bolt.legalEvent { b with keyInd := bytes } 0x12 0xFF (pack b.keyInd) (pack bytes)).only .ok
    | .price => (Bolt.legalEvent { b with keyPrice := bytes } 0x12 0xFF (pack b.keyPrice) (pack bytes)).only .ok
    | .link =>
      if r.scale < 4 ∨ 48 ≤ r.scale ∨ bytes.length ≠ 32 then b.only .badReq
      else
        let x := b.scale r.scale
        ((b.setScale r.scale { x with key := bytes }).legalEvent 0x12 r.scale (pack x.key) (pack bytes)).only .ok))) s

/-- The WEIGH channels that scales are bound to: what the links take as bound (R384, R425). -/
def Bolt.bound (b : Bolt) : List (Nat × Nat) := b.scales.filterMap (fun e => e.2.bind)

/-- CHANNEL_BIND: a floor scale takes a WEIGH channel and a link key of 32 bytes (R425). -/
def execChannelBind (pane : Fin 8) (chan : Fin 4096) (key : List Byte) (s : State) : Out :=
  let pack (x : Scale) : List Byte := Config.boltPack 0x13 (match x.bind with
    | some (p, c) => [(p : Int), (c : Int)]
    | none => [])
  onBolt (fun p =>
    let q := serve 0x13 (sealedCmd (fun b r =>
      if r.scale < 4 ∨ 48 ≤ r.scale ∨ key.length ≠ 32 then b.only .badReq
      else
        let x := b.scale r.scale
        let y : Scale := { x with bind := some (pane.val, chan.val), key := key, counter := none }
        ((b.setScale r.scale y).legalEvent 0x13 r.scale (pack x) (pack y)).only .ok)) p
    ({ q.1 with weighBind := q.2.bound }, q.2)) s

/-- BOLT_FW_LOAD: one piece of an image; the last piece has the image verified and, where it verifies, run (R419). -/
def execBoltFwLoad (piece : List Byte) (last : Bool) (s : State) : Out :=
  onBolt (serve 0x14 (sealedCmd (fun b _ =>
    let img := b.loading ++ piece
    if last = false then Bolt.only { b with loading := img } .ok
    else if Config.boltImageOk img = false ∨ Config.boltVersion img < b.anti then Bolt.only { b with loading := [] } .authFail
    else
      let v (i : List Byte) : List Byte := Config.boltPack 0x14 [Config.boltVersion i]
      (Bolt.legalEvent { b with image := img, loading := [], anti := Config.boltVersion img } 0x14 0xFF (v b.image) (v img)).only .ok))) s

/-! ### Identification and states -/

/-- The checksum of the running image: the CRC-32 of its legally relevant part (R432). -/
def Bolt.checksum (b : Bolt) : Word := crc32 (Config.boltLegalPart b.image)

/-- The identifier and the checksum (R432). -/
def Bolt.identity (b : Bolt) : List Byte :=
  Config.boltPack 0x01 ((b.checksum.toNat : Int) :: (Config.boltIdent b.image).map (fun x => (x.toNat : Int)))

/-- IDENTIFY: the identifier and the checksum (R432). -/
def execIdentify (s : State) : Out := onBolt (serve 0x01 (fun b _ => ⟨b, .ok, b.identity⟩)) s

/-- STATUS: seal, counter, last record, last checkpoint and scale states (R435). -/
def execStatus (s : State) : Out :=
  onBolt (serve 0x02 (fun b _ => ⟨b, .ok, Config.boltPack 0x02
    ([(b2n b.sealOpen : Int), b.legal, (b.nextRec : Int) - 1, (b.checks.length : Int) - 1] ++ (List.range 48).map (fun n => (b2n (b.scale n).online : Int)))⟩)) s

/-! ### Zero and tare (R427) -/

/-- ZERO: the zero point, while the figure is stable and within 2 % of Max of the calibrated zero. -/
def execZero (s : State) : Out :=
  onBolt (serve 0x20 (closedCmd (fun b r => withScale (fun b x =>
    let w := x.about x.calZero
    if x.online = false then b.only .offline
    else if x.stable b.time = false then b.only .unstable
    else if (x.maxMg : Int) < 50 * w.natAbs then b.rangeStat (decide (0 < w))
    else (b.setScale r.scale { x with zero := rneDiv (x.window.foldl (· + ·) 0) x.window.length }).only .ok) b r))) s

/-- TARE: the stable gross figure rounded to e, or a preset in grams. -/
def execTare (preset : Option Nat) (s : State) : Out :=
  onBolt (serve 0x21 (closedCmd (fun b r => withScale (fun b x =>
    match preset with
    | some g =>
      if x.tareOk (1000 * g) then (b.setScale r.scale { x with tare := 1000 * g, tareKind := 1 }).only .ok else b.only .tareInvalid
    | none =>
      if x.online = false then b.only .offline
      else if x.stable b.time = false then b.only .unstable
      else if x.overload then b.rangeStat true
      else if x.gross < 0 then b.rangeStat false
      else (b.setScale r.scale { x with tare := x.gross.toNat, tareKind := 2 }).only .ok) b r))) s

/-- No tare in force. -/
def Scale.noTare (x : Scale) : Scale := { x with tare := 0, tareKind := 0 }

/-- CLEAR_TARE. -/
def execClearTare (s : State) : Out :=
  onBolt (serve 0x22 (fun b r => withScale (fun b x => (b.setScale r.scale x.noTare).only .ok) b r)) s

/-- READ_WEIGHT: the current figure, rounded to e for display, and its stability, without a record (R426, R435). -/
def execReadWeight (s : State) : Out :=
  onBolt (serve 0x24 (fun b r => withScale (fun b x =>
    if x.online = false then b.only .offline
    else ⟨b, .ok, Config.boltPack 0x24 [x.gross, (b2n (x.stable b.time) : Int)]⟩) b r)) s

/-! ### Records, checkpoints and the price (R428–R431) -/

/-- A value in four bytes of a record: in range it is stated, outside it the specification states none (log entry 4). -/
def Dev.four (d : Dev) (lo hi v : Int) : List Byte × Dev :=
  if lo ≤ v ∧ v < hi then (natLE 4 (wi v).toNat, d) else (natLE 4 d.free.1.toNat, d.free.2)

/-- The price of a net in milligrams: per kg, or per 100 g (R428). -/
def priceOf (net : Int) (unit : Nat) (per100 : Bool) : Int := rneDiv (net * unit) (if per100 then 10 ^ 5 else 10 ^ 6)

/-- What a weighing found. -/
structure Weighed where
  scale : Nat
  flags : Nat
  item : Nat
  net : Int
  tare : Nat
  unit : Nat
  price : Int
  ver : Nat
  ref : Nat

/-- The 128 bytes of a record (R430). -/
def record (d : Dev) (b : Bolt) (w : Weighed) : List Byte × Dev :=
  let net := d.four (-(2 ^ 31)) (2 ^ 31) w.net
  let tare := net.2.four 0 (2 ^ 32) w.tare
  let price := tare.2.four 0 (2 ^ 32) w.price
  let chain := match b.recs with
    | [] => List.replicate 32 0
    | r :: _ => sha256 r
  let body := natLE 4 b.nextRec ++ natLE 4 b.legal ++ [BitVec.ofNat 8 w.scale, BitVec.ofNat 8 w.flags] ++ natLE 2 0 ++ natLE 4 w.item
    ++ net.1 ++ tare.1 ++ natLE 4 w.unit ++ price.1 ++ natLE 4 w.ver ++ natLE 4 b.boots ++ natLE 4 b.secs ++ natLE 8 w.ref ++ natLE 12 0 ++ chain
  (body ++ hmac256 b.keyInd body, price.2)

/-- An ASCII letter. -/
def ascii (c : Char) : Byte := BitVec.ofNat 8 c.toNat

/-- A line on the serial port: ended by CR LF (R432). -/
def Bolt.send (b : Bolt) (line : List Byte) : Bolt := { b with msp := b.msp ++ [line ++ [0x0D, 0x0A]] }

/-- The W line of a record: number, scale, item code, net and tare in grams, unit price and price (R432). -/
def Bolt.lineW (b : Bolt) (w : Weighed) : Bolt :=
  b.send (ascii 'W' :: Config.boltPack 0x57 [(b.nextRec : Int), w.scale, w.item, rneDiv w.net 1000, rneDiv w.tare 1000, w.unit, w.price])

/-- The hash of the newest record. -/
def Bolt.lastHash (b : Bolt) : BitVec 256 := BitVec.ofNat 256 (beNat (sha256 (b.recs.headD [])))

/-- A checkpoint over the records since the last; its signing starts (R431). -/
def Bolt.checkpoint (b : Bolt) : Bolt :=
  let c : Check := ⟨b.checks.length, b.nextRec - b.sinceCheck, b.nextRec - 1, b.lastHash, b.legal, false⟩
  Bolt.event { b with checks := c :: b.checks, sinceCheck := 0, checkAt := b.time } 0x04 0xFF

/-- Commit a record: flash, the serial port, and the checkpoint that it makes due (R428, R430, R431). -/
def Bolt.commit (b : Bolt) (w : Weighed) (bytes : List Byte) : Bolt :=
  let b := b.lineW w
  let b : Bolt := { b with recs := (bytes :: b.recs).take 65536, nextRec := b.nextRec + 1, sinceCheck := b.sinceCheck + 1 }
  if b.sinceCheck = 1024 then b.checkpoint else b

/-- A price entry. -/
def Bolt.priceAt (b : Bolt) (item : Nat) : Option Price := Tab.get none b.prices item

/-- What WEIGH decides (R428): a status, or the weighing. -/
inductive Decided where
  | refuse (s : BStat) (side : Bool)
  | weighed (w : Weighed)

/-- The refusals of WEIGH in their order, then net and price; the stability has been seen. -/
def Bolt.decide (b : Bolt) (n item ref : Nat) : Decided :=
  let x := b.scale n
  if x.overload then .refuse .range true
  else if x.underload then .refuse .range false
  else match b.priceAt item with
    | none => .refuse .noItem false
    | some e =>
      let tare := match e.preset with
        | some g => 1000 * g
        | none => x.tare
      if e.preset.isSome = true ∧ x.tareOk tare = false then .refuse .tareInvalid false
      else
        let net := x.gross - tare
        let kind := if e.preset.isSome then 1 else x.tareKind
        if net ≤ 0 then .refuse .range false
        else .weighed ⟨n, kind + (if e.per100 then 4 else 0), item, net, tare, e.price, priceOf net e.price e.per100, b.priceVer, ref⟩

/-- Serve a WEIGH whose figure is stable. -/
def weighNow (p : Dev × Bolt) (r : BReq) (item ref : Nat) (clear : Bool) : Dev × Bolt :=
  match p.2.decide r.scale item ref with
  | .refuse .range side => finish p r .range [Config.rangeSide side]
  | .refuse s _ => finish p r s []
  | .weighed w =>
    let rec' := record p.1 p.2 w
    let b := p.2.commit w rec'.1
    let b := if clear then b.setScale r.scale (b.scale r.scale).noTare else b
    finish (rec'.2, b) r .ok rec'.1

/-- WEIGH: refused, waiting for a stable figure within 3 s, or recorded, sent and returned (R421, R428). It begins with the seal closed, and while the
seal is open nothing is recorded: a WEIGH that still waits then is answered SEAL_OPEN (DEDUCED, log entry 42). -/
def execWeigh (item : Word) (ref : DWord) (clear : Bool) (s : State) : Out :=
  onBolt (fun p =>
    let b := p.2
    match b.req with
    | none => p
    | some r =>
      if b.power = false ∨ r.op ≠ 0x23 then p
      else if r.sealOpen = true ∨ b.sealOpen = true then finish p r .sealOpen []
      else if 48 ≤ r.scale then finish p r .badReq []
      else if (b.scale r.scale).online = false then finish p r .offline []
      else if (b.scale r.scale).stable b.time = false then
        (if b.time < r.took + 3 * boltSec then p else finish p r .unstable [])
      else showBolt (weighNow p r item.toNat ref.toNat clear)) s

/-- UNSTABLE: a WEIGH whose figure has not become stable within 3 s is refused (R428). -/
def execUnstable (s : State) : Out :=
  onBolt (fun p =>
    let b := p.2
    match b.req with
    | none => p
    | some r =>
      let x := b.scale r.scale
      if b.power = false ∨ r.op ≠ 0x23 ∨ r.sealOpen = true ∨ b.sealOpen = true ∨ 48 ≤ r.scale ∨ x.online = false ∨ x.stable b.time = true ∨ b.time < r.took + 3 * boltSec then p
      else finish p r .unstable []) s

/-- The values of a price block, for its tag (R429). -/
def blockValues (ver : Word) (rows : List PriceRow) : List Int :=
  (ver.toNat : Int) :: rows.flatMap (fun r => [(r.item.toNat : Int), (r.price.toNat : Int), (b2n r.per100 : Int), match r.preset with
    | some g => (g : Int)
    | none => -1])

/-- PRICE_LOAD: up to 48 entries under a tag and a version past the current one (R429). -/
def execPriceLoad (ver : Word) (rows : List PriceRow) (tag : List Byte) (s : State) : Out :=
  onBolt (serve 0x30 (fun b _ =>
    let t := rows.foldl (fun t r => Tab.set none t r.item.toNat (some ⟨r.price.toNat, r.per100, r.preset⟩)) b.prices
    if 48 < rows.length then b.only .badReq
    else if hmac256 b.keyPrice (Config.boltPack 0x30 (blockValues ver rows)) ≠ tag ∨ ver.toNat ≤ b.priceVer then b.only .authFail
    else if 16384 < t.length then b.only .badReq
    else Bolt.only { b with prices := t, priceVer := ver.toNat } .ok)) s

/-- PRICE_READ: one entry (R435). -/
def execPriceRead (item : Word) (s : State) : Out :=
  onBolt (serve 0x31 (fun b _ =>
    match b.priceAt item.toNat with
    | none => b.only .noItem
    | some e => ⟨b, .ok, Config.boltPack 0x31 [(item.toNat : Int), (e.price : Int), (b2n e.per100 : Int), match e.preset with
        | some g => (g : Int)
        | none => -1]⟩)) s

/-- RECORD_READ: one of the last 65,536 records by its number (R430, R435). -/
def execRecordRead (num : Word) (s : State) : Out :=
  onBolt (serve 0x40 (fun b _ =>
    match (if num.toNat < b.nextRec then b.recs[b.nextRec - 1 - num.toNat]? else none) with
    | some r => ⟨b, .ok, r⟩
    | none => b.only .gone)) s

/-- What a checkpoint holds, as signed. -/
def Check.content (c : Check) : List Byte := Config.boltPack 0x41 [(c.num : Int), c.first, c.last, c.hash.toNat, c.legal]

/-- A signed checkpoint: its content and both signatures, 384 and 7,856 bytes (R431). -/
def Check.bytes (c : Check) : List Byte :=
  let m := c.content
  m ++ natBE 384 (Config.boltRsaSign m).toNat ++ natBE 7856 (Config.boltSlhSign m).toNat

/-- CHECKPOINT_READ: a piece of up to 1,016 bytes (R431). -/
def execCheckpointRead (num piece : Nat) (s : State) : Out :=
  onBolt (serve 0x41 (fun b _ =>
    match b.checks.find? (fun c => c.num == num) with
    | none => b.only .gone
    | some c =>
      if c.signed = false then b.only .pending
      else ⟨b, .ok, (c.bytes.drop (1016 * piece)).take 1016⟩)) s

/-- AUDIT_READ: the entry of a counter value (R423). -/
def execAuditRead (value : Word) (s : State) : Out :=
  onBolt (serve 0x42 (fun b _ =>
    match b.audit.find? (fun a => a.value == value.toNat) with
    | none => b.only .gone
    | some a => ⟨b, .ok, Config.boltPack 0x42 ([(a.value : Int), a.param, a.scale, a.boots, a.secs] ++ (a.old ++ a.new).map (fun x => (x.toNat : Int)))⟩)) s

/-! ### What comes from the pins, the links and time -/

/-- SEAL_CHANGE: SEAL_OPEN_N has held a new level for 10 ms (R420, R432, R436). -/
def execSealChange (isOpen : Bool) (s : State) : Out :=
  onBolt (fun p =>
    let b := p.2
    if b.power = false ∨ b.sealOpen = isOpen then p
    else
      let b : Bolt := { b with sealOpen := isOpen }
      let b := b.event (if isOpen then 0x01 else 0x02) 0xFF
      showBolt (p.1, b.send [ascii 'S', ascii (if isOpen then '1' else '0')])) s

/-- ADC_SAMPLE: a configured local port gives a sample (R424). -/
def execAdcSample (port : Fin 4) (value : BitVec 24) (s : State) : Out :=
  onBolt (fun p =>
    let b := p.2
    let x := b.scale port.val
    if b.power = false ∨ x.e = 0 then p
    else showBolt (p.1, (b.setScale port.val (x.sample b.time value.toInt)).online port.val)) s

/-- Whether a frame counter is past the last accepted one (R250, R425). -/
def pastCounter (last : Option Nat) (v : Nat) : Bool :=
  match last with
  | none => true
  | some t => decide (v ≠ t) && decide ((v + 2 ^ 32 - t) % 2 ^ 32 < 2 ^ 31)

/-- The samples of a frame, when its tag, counter and form are good (R425). -/
def Scale.accept (x : Scale) (bs : List Byte) : Option (List Int) :=
  let n := leAt bs 4 1
  let body := bs.take (bs.length - 32)
  if 1 ≤ n ∧ n ≤ 66 ∧ bs.length = 8 + 3 * n + 32 ∧ hmac256 x.key body = bs.drop (bs.length - 32) ∧ pastCounter x.counter (leAt bs 0 4) = true then
    some ((List.range n).map (fun i => sgn 24 (leAt bs (8 + 3 * i) 3)))
  else none

/-- BOLT_WEIGH_FRAME: the Bolt takes the oldest weighing frame (R425). -/
def execBoltWeighFrame (s : State) : Out :=
  onBolt (fun p =>
    let b := p.2
    match p.1.weighQ with
    | [] => p
    | f :: q =>
      if b.power = false then p
      else
        let d : Dev := { p.1 with weighQ := q }
        match b.scales.find? (fun e => e.2.bind == some (f.pane, f.chan)) with
        | none => (d, b)
        | some (n, x) => match x.accept f.bytes with
          | none => (d, b.setScale n { x with rejects := x.rejects + 1 })
          | some vs =>
            let y := vs.foldl (fun y v => y.sample b.time v) x
            showBolt (d, (b.setScale n { y with counter := some (leAt f.bytes 0 4) }).online n)) s

/-- The steps without data after which a scale is OFFLINE: 10 sample periods of a local port, or 500 ms of a floor scale (R424, R425). -/
def Scale.silence (x : Scale) (n : Nat) : Nat := if n < 4 then 10 * boltSec / x.rate else 500 * boltMs

/-- SCALE_OFFLINE. -/
def execScaleOffline (scale : Fin 48) (s : State) : Out :=
  onBolt (fun p =>
    let b := p.2
    let x := b.scale scale.val
    if b.power = false ∨ x.online = false ∨ b.time < x.seen + x.silence scale.val then p
    else showBolt (p.1, (b.setScale scale.val { x with online := false }).event 0x05 scale.val)) s

/-- CHECKPOINT_TIMER: 60 Bolt seconds after the last checkpoint, with a record since (R431). -/
def execCheckpointTimer (s : State) : Out :=
  onBolt (fun p =>
    let b := p.2
    if b.power = false ∨ b.sinceCheck = 0 ∨ b.time < b.checkAt + 60 * boltSec then p
    else showBolt (p.1, b.checkpoint)) s

/-- CHECKPOINT_SIGNED: the oldest unsigned checkpoint has its signatures (R431). -/
def execCheckpointSigned (s : State) : Out :=
  onBolt (fun p =>
    let b := p.2
    match b.checks.reverse.find? (fun c => !c.signed) with
    | none => p
    | some c =>
      if b.power = false then p
      else (p.1, { b with checks := b.checks.map (fun x => if x.num = c.num then { x with signed := true } else x) })) s

/-- The eight hexadecimal digits of a word. -/
def hex8 (w : Word) : List Byte :=
  (List.range 8).reverse.map (fun i =>
    let v := w.toNat / 16 ^ i % 16
    BitVec.ofNat 8 (if v < 10 then 48 + v else 55 + v))

/-- MSP_IDENTIFY_LINE: the line I is answered with I, the identifier and its checksum (R432). -/
def execMspIdentifyLine (s : State) : Out :=
  onBolt (fun p =>
    if p.2.power = false then p
    else (p.1, p.2.send (ascii 'I' :: (Config.boltIdent p.2.image ++ hex8 p.2.checksum)))) s

/-- A read of MB_EVENT while CODE is nonzero takes the event, whoever reads it; the Hinge turns its own reads into records (R436, R437). -/
def takeEvent (hinge : Bool) (p : Dev × Bolt) : Dev × Bolt :=
  match p.2.events with
  | [] => p
  | (code, scale) :: _ =>
    if p.1.readsOn .bolt = false then p
    else
      let d := if hinge = true ∧ p.1.boot.down.contains 12 = false then p.1.emit { cls := kBOLT, code := code, src := 0x0B, obj := scale } else p.1
      showBolt (d, p.2.popEvent)

/-- A read command at an offset: what the device answers, and the event taken where the register is MB_EVENT. -/
def readCmd (who : Who) (off : Nat) (f : Dev → Dev) : State → Out :=
  onBolt (fun p => if absOff who (off / 4 * 4) = boltb + Off.MB_EVENT ∧ mayName who .bolt = true then takeEvent (who == .hinge) (f p.1, p.2) else (f p.1, p.2))

/-- MB_EVENT_READ: PF0, the debug port or the Hinge reads MB_EVENT; no other reader reaches it (R31, R36, R437). -/
def execMbEventRead (who : Who) (s : State) : Out :=
  let e := boltb + Off.MB_EVENT
  readCmd who e (fun d => { d with answer := [if absOff who e = e ∧ mayName who .bolt = true then d.regView e else 0] }) s

/-- SHADOW_LOW_READ: a read, of the low half of a pair or of any other register (R6). -/
def execShadowLowRead (who : Who) (off : Nat) (w : Fin 3) (s : State) : Out := readCmd who off (fun d => d.hostReadReg who off w) s

/-- RC_FIELD_READ: the value, then the clearing of the register's RC fields (R9, R11). -/
def execRcFieldRead (who : Who) (off : Nat) (w : Fin 3) (s : State) : Out := readCmd who off (fun d => d.hostReadReg who off w) s

/-! ### The debug port (R524) -/

/-- TAP_INSTRUCTION: BYPASS, IDCODE, SAMPLE/PRELOAD and EXTEST leave the device as it is; a debug access opens Shutter 48 and reaches PF0 BAR0 as a
host access does, while DBG_EN is 1. -/
def execTapInstruction (t : Tap) (s : State) : Out :=
  let on := s.dev.fld (telb + Off.TEL_EXP) Fl.TEL_EXP_DBG_EN = 1
  let none_ : Out := onDev (fun d => { d with answer := [] }) s
  match t with
  | .bypass => none_
  | .idcode => onDev (fun d => { d with answer := [0x0C512A6B] }) s
  | .sample => none_
  | .extest => none_
  | .debugRead o =>
    if on then readCmd .debug o (fun d =>
      let r := (d.useDomain shDebug).regRead .debug o
      { r.2 with answer := [r.1] }) s
    else none_
  | .debugWrite o v => if on then onDev (fun d => { (d.useDomain shDebug).regWrite .debug o v with answer := [] }) s else none_

/-! ### The handoff at start-up (R470) -/

/-- Whether BS12 of the present start has ended OK. -/
def Dev.handedOff (d : Dev) : Bool :=
  d.boot.log.any (fun r => r.step == 12 && r.kind == 2 && r.count == (d.reg (bootb + Off.BOOT_COUNT)).toNat)

/-- The Hinge's IDENTIFY on channel 1 at BS12, with scale 0 and tag 0: the request words, the Bolt's response, and the channel IDLE again once BS14 has
ended. A request of channel 0 that the Bolt has in hand stays in hand (R433, R470; log entry 63). -/
def handoff (p : Dev × Bolt) : Dev × Bolt :=
  let d := (p.1.setReg (boltb + Off.MB_REQ 1 0) 1).setReg (boltb + Off.MB_REQ 1 1) 0
  let ws := (List.range 240).map (fun i => d.reg (boltb + Off.MB_REQ 1 i))
  let r : BReq := ⟨1, 1, 0, 0, ws, p.2.time, p.2.sealOpen⟩
  let q := finish (d, p.2) r .ok p.2.identity
  let idle := q.1.fld (bootb + Off.BOOT_STATUS) Fl.BOOT_STATUS_STATE = 1
  let d := if idle then q.1.setFld (boltb + Off.MB_STATUS 1) Fl.MB_STATUS_STATE 0 else q.1
  showBolt (d, { p.2 with served := 1 })

/-- A command that runs boot steps: where BS12 ends OK in it, the Bolt has answered the Hinge. -/
def bootCmd (f : Dev → Dev) : State → Out :=
  onBolt (fun p =>
    let d := f p.1
    let before := p.1.handedOff && p.1.reg (bootb + Off.BOOT_COUNT) == d.reg (bootb + Off.BOOT_COUNT)
    if d.handedOff = true ∧ before = false then handoff (d, p.2) else (d, p.2))

/-- BOOT_START: PERST_N is released, or with `cold` power comes on with PERST_N high (R470, R537). -/
def execBootStart (cold : Bool) (f : BootFacts) (s : State) : Out := bootCmd (fun d => d.bootStart cold f) s

/-- BOOT_STEP_TIMEOUT: the step left running reaches its bound and fails; the later steps run (R470). -/
def execBootStepTimeout (f : BootFacts) (s : State) : Out := bootCmd (fun d => d.bootTimeout f) s

/-! ### Power and the watchdog (R27, R29, R418) -/

/-- The mailbox registers at reset. -/
def Dev.mailReset (d : Dev) : Dev := { d with regs := d.regs.filter (fun e => !(decide (boltb ≤ e.1) && decide (e.1 < boltb + 0x1000))) }

/-- What a scale keeps in Bolt flash over a reset: its configuration, calibration, binding and last accepted counter. -/
def Scale.kept (x : Scale) : Scale := { x with zero := x.calZero, samples := [], tare := 0, tareKind := 0, online := false, seen := 0, rejects := 0 }

/-- The Bolt starts: what its flash holds stands, its boot count rises, its time starts again. -/
def Bolt.boot (b : Bolt) (isOpen : Bool) : Bolt :=
  { b with
    power := true
    time := 0
    boots := b.boots + 1
    sealOpen := isOpen
    loading := []
    checkAt := 0
    req := none
    served := 1
    events := []
    lost := false
    scales := b.scales.foldl (fun t e => Tab.set Scale.fresh t e.1 e.2.kept) [] }

/-- BOLT_POWER_ON: VDD_BOLT rises; `isOpen` is the level of the seal then. -/
def execBoltPowerOn (isOpen : Bool) (s : State) : Out :=
  onBolt (fun p =>
    if p.2.power then p
    else showBolt ((p.1.mailReset).setDom shBolt 2, p.2.boot isOpen)) s

/-- BOLT_POWER_DOWN: VDD_BOLT leaves its range and the Bolt alone powers down (R535). -/
def execBoltPowerDown (s : State) : Out :=
  onBolt (fun p =>
    if p.2.power then ((p.1.mailReset).setDom shBolt 0, { p.2 with power := false, req := none, events := [], lost := false })
    else p) s

/-- WATCHDOG_RESET: the Bolt's own watchdog resets it, and the event tells of it (R29, R436). -/
def execWatchdogReset (s : State) : Out :=
  onBolt (fun p =>
    if p.2.power then showBolt (p.1.mailReset, (p.2.boot p.2.sealOpen).event 0x07 0xFF)
    else p) s

end Sys2Proof.Machine
end

