-- ==== Sys2Proof/Machine/Dispatch.lean ====
section
/-! DEFINITION. The commands of the device: one arm per constructor of `Instr`, each one direct call of that command's meaning. -/

namespace Sys2Proof.Machine

def exec (i : Instr) (s : State) : Host.Outcome State Fault Refusal :=
  match i with
  | .registerWrite who off val w => Sys2Proof.Machine.execRegisterWrite who off val w s
  | .shadowLowRead who off w => Sys2Proof.Machine.execShadowLowRead who off w s
  | .rcFieldRead who off w => Sys2Proof.Machine.execRcFieldRead who off w s
  | .enableTakesEffect off => Sys2Proof.Machine.execEnableTakesEffect off s
  | .sideReset side => Sys2Proof.Machine.execSideReset side s
  | .snop b => Sys2Proof.Machine.execSnop b s
  | .add b rd ra rb => Sys2Proof.Machine.execAdd b rd ra rb s
  | .sub b rd ra rb => Sys2Proof.Machine.execSub b rd ra rb s
  | .and b rd ra rb => Sys2Proof.Machine.execAnd b rd ra rb s
  | .or b rd ra rb => Sys2Proof.Machine.execOr b rd ra rb s
  | .xor b rd ra rb => Sys2Proof.Machine.execXor b rd ra rb s
  | .sll b rd ra rb => Sys2Proof.Machine.execSll b rd ra rb s
  | .srl b rd ra rb => Sys2Proof.Machine.execSrl b rd ra rb s
  | .sra b rd ra rb => Sys2Proof.Machine.execSra b rd ra rb s
  | .slt b rd ra rb => Sys2Proof.Machine.execSlt b rd ra rb s
  | .sltu b rd ra rb => Sys2Proof.Machine.execSltu b rd ra rb s
  | .min b rd ra rb => Sys2Proof.Machine.execMin b rd ra rb s
  | .max b rd ra rb => Sys2Proof.Machine.execMax b rd ra rb s
  | .mul b rd ra rb => Sys2Proof.Machine.execMul b rd ra rb s
  | .mulh b rd ra rb => Sys2Proof.Machine.execMulh b rd ra rb s
  | .addi b rd ra imm => Sys2Proof.Machine.execAddi b rd ra imm s
  | .andi b rd ra imm => Sys2Proof.Machine.execAndi b rd ra imm s
  | .ori b rd ra imm => Sys2Proof.Machine.execOri b rd ra imm s
  | .xori b rd ra imm => Sys2Proof.Machine.execXori b rd ra imm s
  | .slli b rd ra imm => Sys2Proof.Machine.execSlli b rd ra imm s
  | .srli b rd ra imm => Sys2Proof.Machine.execSrli b rd ra imm s
  | .srai b rd ra imm => Sys2Proof.Machine.execSrai b rd ra imm s
  | .slti b rd ra imm => Sys2Proof.Machine.execSlti b rd ra imm s
  | .lui b rd imm => Sys2Proof.Machine.execLui b rd imm s
  | .ldw b rd ra imm => Sys2Proof.Machine.execLdw b rd ra imm s
  | .stw b rd ra imm => Sys2Proof.Machine.execStw b rd ra imm s
  | .rdcr b rd imm => Sys2Proof.Machine.execRdcr b rd imm s
  | .rdcyc b rd => Sys2Proof.Machine.execRdcyc b rd s
  | .rdcych b rd => Sys2Proof.Machine.execRdcych b rd s
  | .beq b ra rb off => Sys2Proof.Machine.execBeq b ra rb off s
  | .bne b ra rb off => Sys2Proof.Machine.execBne b ra rb off s
  | .blt b ra rb off => Sys2Proof.Machine.execBlt b ra rb off s
  | .bge b ra rb off => Sys2Proof.Machine.execBge b ra rb off s
  | .bltu b ra rb off => Sys2Proof.Machine.execBltu b ra rb off s
  | .bgeu b ra rb off => Sys2Proof.Machine.execBgeu b ra rb off s
  | .jmp b off => Sys2Proof.Machine.execJmp b off s
  | .recv b rd nw => Sys2Proof.Machine.execRecv b rd nw s
  | .racq b rd ring dir nw => Sys2Proof.Machine.execRacq b rd ring dir nw s
  | .rrel b ring dir => Sys2Proof.Machine.execRrel b ring dir s
  | .qwait b mask => Sys2Proof.Machine.execQwait b mask s
  | .ppt b entry => Sys2Proof.Machine.execPpt b entry s
  | .trap b code => Sys2Proof.Machine.execTrap b code s
  | .endBatch b => Sys2Proof.Machine.execEndBatch b s
  | .vnop b => Sys2Proof.Machine.execVnop b s
  | .vadd b g vd va vb => Sys2Proof.Machine.execVadd b g vd va vb s
  | .vsub b g vd va vb => Sys2Proof.Machine.execVsub b g vd va vb s
  | .vadds b g vd va vb => Sys2Proof.Machine.execVadds b g vd va vb s
  | .vsubs b g vd va vb => Sys2Proof.Machine.execVsubs b g vd va vb s
  | .vmul b g vd va vb => Sys2Proof.Machine.execVmul b g vd va vb s
  | .vmulh b g vd va vb => Sys2Proof.Machine.execVmulh b g vd va vb s
  | .vmac b g vd va vb vc => Sys2Proof.Machine.execVmac b g vd va vb vc s
  | .vmacs b g vd va vb vc => Sys2Proof.Machine.execVmacs b g vd va vb vc s
  | .vmin b g vd va vb => Sys2Proof.Machine.execVmin b g vd va vb s
  | .vmax b g vd va vb => Sys2Proof.Machine.execVmax b g vd va vb s
  | .vand b g vd va vb => Sys2Proof.Machine.execVand b g vd va vb s
  | .vor b g vd va vb => Sys2Proof.Machine.execVor b g vd va vb s
  | .vxor b g vd va vb => Sys2Proof.Machine.execVxor b g vd va vb s
  | .vsll b g vd va vb => Sys2Proof.Machine.execVsll b g vd va vb s
  | .vsrl b g vd va vb => Sys2Proof.Machine.execVsrl b g vd va vb s
  | .vsra b g vd va vb => Sys2Proof.Machine.execVsra b g vd va vb s
  | .vsrar b g vd va vb => Sys2Proof.Machine.execVsrar b g vd va vb s
  | .vcmpeq b g md va vb => Sys2Proof.Machine.execVcmpeq b g md va vb s
  | .vcmpne b g md va vb => Sys2Proof.Machine.execVcmpne b g md va vb s
  | .vcmplt b g md va vb => Sys2Proof.Machine.execVcmplt b g md va vb s
  | .vcmple b g md va vb => Sys2Proof.Machine.execVcmple b g md va vb s
  | .vcmpgt b g md va vb => Sys2Proof.Machine.execVcmpgt b g md va vb s
  | .vcmpge b g md va vb => Sys2Proof.Machine.execVcmpge b g md va vb s
  | .vclamp b g vd va vb vc => Sys2Proof.Machine.execVclamp b g vd va vb vc s
  | .vsel b g vd va vb mc => Sys2Proof.Machine.execVsel b g vd va vb mc s
  | .vmov b g vd va => Sys2Proof.Machine.execVmov b g vd va s
  | .vneg b g vd va => Sys2Proof.Machine.execVneg b g vd va s
  | .vabs b g vd va => Sys2Proof.Machine.execVabs b g vd va s
  | .vnot b g vd va => Sys2Proof.Machine.execVnot b g vd va s
  | .vslli b g vd va n => Sys2Proof.Machine.execVslli b g vd va n s
  | .vsrli b g vd va n => Sys2Proof.Machine.execVsrli b g vd va n s
  | .vsrai b g vd va n => Sys2Proof.Machine.execVsrai b g vd va n s
  | .vsrari b g vd va n => Sys2Proof.Machine.execVsrari b g vd va n s
  | .vaddi b g vd va imm => Sys2Proof.Machine.execVaddi b g vd va imm s
  | .vperm b g vd va vb => Sys2Proof.Machine.execVperm b g vd va vb s
  | .vpermi b g vd va pat n => Sys2Proof.Machine.execVpermi b g vd va pat n s
  | .viota b g vd => Sys2Proof.Machine.execViota b g vd s
  | .vmtov b g vd ma => Sys2Proof.Machine.execVmtov b g vd ma s
  | .mand b g md ma mb => Sys2Proof.Machine.execMand b g md ma mb s
  | .mor b g md ma mb => Sys2Proof.Machine.execMor b g md ma mb s
  | .mxor b g md ma mb => Sys2Proof.Machine.execMxor b g md ma mb s
  | .mandn b g md ma mb => Sys2Proof.Machine.execMandn b g md ma mb s
  | .mnot b g md ma => Sys2Proof.Machine.execMnot b g md ma s
  | .mset b g md ss => Sys2Proof.Machine.execMset b g md ss s
  | .mlow b g md n => Sys2Proof.Machine.execMlow b g md n s
  | .vrrow b m vd va fn => Sys2Proof.Machine.execVrrow b m vd va fn s
  | .vrcol b m vd va fn => Sys2Proof.Machine.execVrcol b m vd va fn s
  | .vrall b m vd va fn => Sys2Proof.Machine.execVrall b m vd va fn s
  | .vlut b g vd va t h => Sys2Proof.Machine.execVlut b g vd va t h s
  | .vlutst b m va t j => Sys2Proof.Machine.execVlutst b m va t j s
  | .req b g vd va vb vc ss f => Sys2Proof.Machine.execReq b g vd va vb vc ss f s
  | .vld b g vd ss vb vc w zx => Sys2Proof.Machine.execVld b g vd ss vb vc w zx s
  | .vst b m va ss vb vc w => Sys2Proof.Machine.execVst b m va ss vb vc w s
  | .vldx b g vd ss vb w zx => Sys2Proof.Machine.execVldx b g vd ss vb w zx s
  | .vstx b m va ss vb w => Sys2Proof.Machine.execVstx b m va ss vb w s
  | .accLd b g vd ss imm => Sys2Proof.Machine.execAccLd b g vd ss imm s
  | .vsumAny b m rd ma => Sys2Proof.Machine.execVsumAny b m rd ma s
  | .vsumAll b m rd ma => Sys2Proof.Machine.execVsumAll b m rd ma s
  | .vsumCount b m rd ma => Sys2Proof.Machine.execVsumCount b m rd ma s
  | .vsumFirst b m rd ma => Sys2Proof.Machine.execVsumFirst b m rd ma s
  | .vsumMax b m rd va => Sys2Proof.Machine.execVsumMax b m rd va s
  | .vsumMin b m rd va => Sys2Proof.Machine.execVsumMin b m rd va s
  | .vsumLane0 b m rd va => Sys2Proof.Machine.execVsumLane0 b m rd va s
  | .xnop b => Sys2Proof.Machine.execXnop b s
  | .mm b sa sb sc fmt m1 n41 k41 => Sys2Proof.Machine.execMm b sa sb sc fmt m1 n41 k41 s
  | .mmz b sa sb sc fmt m1 n41 k41 => Sys2Proof.Machine.execMmz b sa sb sc fmt m1 n41 k41 s
  | .mmew b sa sb sc fmt m1 n41 k41 => Sys2Proof.Machine.execMmew b sa sb sc fmt m1 n41 k41 s
  | .dma b sa => Sys2Proof.Machine.execDma b sa s
  | .ovl b sa sb seg cnt1 => Sys2Proof.Machine.execOvl b sa sb seg cnt1 s
  | .ladd b sa sb sc ximm => Sys2Proof.Machine.execLadd b sa sb sc ximm s
  | .lsub b sa sb sc ximm => Sys2Proof.Machine.execLsub b sa sb sc ximm s
  | .lset b sa sb sc ximm => Sys2Proof.Machine.execLset b sa sb sc ximm s
  | .lcas b sa sb sc ximm => Sys2Proof.Machine.execLcas b sa sb sc ximm s
  | .lseqadv b sa sb sc ximm => Sys2Proof.Machine.execLseqadv b sa sb sc ximm s
  | .lread b sa sb sc ximm => Sys2Proof.Machine.execLread b sa sb sc ximm s
  | .lwatch b sa sb sc ximm => Sys2Proof.Machine.execLwatch b sa sb sc ximm s
  | .send b sa sb => Sys2Proof.Machine.execSend b sa sb s
  | .stallTimeout k => Sys2Proof.Machine.execStallTimeout k s
  | .parityRefetch k retryBad host => Sys2Proof.Machine.execParityRefetch k retryBad host s
  | .overlaySegmentLanded k host => Sys2Proof.Machine.execOverlaySegmentLanded k host s
  | .messageDeliver k => Sys2Proof.Machine.execMessageDeliver k s
  | .latchReply k => Sys2Proof.Machine.execLatchReply k s
  | .corePark k => Sys2Proof.Machine.execCorePark k s
  | .coreStart k => Sys2Proof.Machine.execCoreStart k s
  | .coreHaltReq k => Sys2Proof.Machine.execCoreHaltReq k s
  | .coreReset k => Sys2Proof.Machine.execCoreReset k s
  | .coreResetDone k => Sys2Proof.Machine.execCoreResetDone k s
  | .mbxIn3Write k val => Sys2Proof.Machine.execMbxIn3Write k val s
  | .csCntClr cl => Sys2Proof.Machine.execCsCntClr cl s
  | .matrixCommandAccept k => Sys2Proof.Machine.execMatrixCommandAccept k s
  | .matrixCommandDone k stalls => Sys2Proof.Machine.execMatrixCommandDone k stalls s
  | .rampStepEnd k cycs => Sys2Proof.Machine.execRampStepEnd k cycs s
  | .muCntClr k => Sys2Proof.Machine.execMuCntClr k s
  | .veCntClr k => Sys2Proof.Machine.execVeCntClr k s
  | .statClr k slots => Sys2Proof.Machine.execStatClr k slots s
  | .sramCeWriteback k gran => Sys2Proof.Machine.execSramCeWriteback k gran s
  | .gatherLineAgeFlush k => Sys2Proof.Machine.execGatherLineAgeFlush k s
  | .spCntClr k => Sys2Proof.Machine.execSpCntClr k s
  | .cwReturnWrite who k w n => Sys2Proof.Machine.execCwReturnWrite who k w n s
  | .creditGrant k w => Sys2Proof.Machine.execCreditGrant k w s
  | .creditTimeout k w ix => Sys2Proof.Machine.execCreditTimeout k w ix s
  | .dmaTransferStart k => Sys2Proof.Machine.execDmaTransferStart k s
  | .dmaUnitIssue k x => Sys2Proof.Machine.execDmaUnitIssue k x s
  | .dmaUnitComplete k x f meet => Sys2Proof.Machine.execDmaUnitComplete k x f meet s
  | .chainUnitForward k x hop lands meet => Sys2Proof.Machine.execChainUnitForward k x hop lands meet s
  | .dmaTransferComplete k x => Sys2Proof.Machine.execDmaTransferComplete k x s
  | .dmaCntClr k => Sys2Proof.Machine.execDmaCntClr k s
  | .hbmCeWriteback a => Sys2Proof.Machine.execHbmCeWriteback a s
  | .patrolScrubUnit side => Sys2Proof.Machine.execPatrolScrubUnit side s
  | .refresh side temp od ue => Sys2Proof.Machine.execRefresh side temp od ue s
  | .rfm side => Sys2Proof.Machine.execRfm side s
  | .caParityAlarm side again => Sys2Proof.Machine.execCaParityAlarm side again s
  | .hbmCntClr side => Sys2Proof.Machine.execHbmCntClr side s
  | .meshFlitError side router port ue => Sys2Proof.Machine.execMeshFlitError side router port ue s
  | .bridgeFlitError side router again => Sys2Proof.Machine.execBridgeFlitError side router again s
  | .meshLinkSelWrite side val => Sys2Proof.Machine.execMeshLinkSelWrite side val s
  | .meshCntClr side => Sys2Proof.Machine.execMeshCntClr side s
  | .latchOpApply cl k => Sys2Proof.Machine.execLatchOpApply cl k s
  | .watchTimeout cl ix => Sys2Proof.Machine.execWatchTimeout cl ix s
  | .notificationDeliver cl ix => Sys2Proof.Machine.execNotificationDeliver cl ix s
  | .lhAdd cl => Sys2Proof.Machine.execLhAdd cl s
  | .lhSub cl => Sys2Proof.Machine.execLhSub cl s
  | .lhSet cl kind => Sys2Proof.Machine.execLhSet cl kind s
  | .lhCas cl => Sys2Proof.Machine.execLhCas cl s
  | .lhSeqAdv cl => Sys2Proof.Machine.execLhSeqAdv cl s
  | .lhRead cl => Sys2Proof.Machine.execLhRead cl s
  | .lhOwner cl owned job => Sys2Proof.Machine.execLhOwner cl owned job s
  | .luCntClr cl => Sys2Proof.Machine.execLuCntClr cl s
  | .stAdmit ix zero => Sys2Proof.Machine.execStAdmit ix zero s
  | .modify ix => Sys2Proof.Machine.execModify ix s
  | .release ix => Sys2Proof.Machine.execRelease ix s
  | .stRead ix => Sys2Proof.Machine.execStRead ix s
  | .inputWriteAck ix n => Sys2Proof.Machine.execInputWriteAck ix n s
  | .sideControllerTick side res ue bad => Sys2Proof.Machine.execSideControllerTick side res ue bad s
  | .dispatchMessage k => Sys2Proof.Machine.execDispatchMessage k s
  | .batchComplete b res => Sys2Proof.Machine.execBatchComplete b res s
  | .scCntClr side => Sys2Proof.Machine.execScCntClr side s
  | .jobCreate j => Sys2Proof.Machine.execJobCreate j s
  | .jobStart j => Sys2Proof.Machine.execJobStart j s
  | .jobReset j => Sys2Proof.Machine.execJobReset j s
  | .jobDestroy j => Sys2Proof.Machine.execJobDestroy j s
  | .jobRead j => Sys2Proof.Machine.execJobRead j s
  | .jobPlacement k j => Sys2Proof.Machine.execJobPlacement k j s
  | .preemptRequest cl j => Sys2Proof.Machine.execPreemptRequest cl j s
  | .forcedPreempt k => Sys2Proof.Machine.execForcedPreempt k s
  | .saveComplete j bad => Sys2Proof.Machine.execSaveComplete j bad s
  | .restoreStart j => Sys2Proof.Machine.execRestoreStart j s
  | .restoreComplete j bad => Sys2Proof.Machine.execRestoreComplete j bad s
  | .beSliceExpiry h => Sys2Proof.Machine.execBeSliceExpiry h s
  | .accClr mask => Sys2Proof.Machine.execAccClr mask s
  | .epochStageClock side => Sys2Proof.Machine.execEpochStageClock side s
  | .epochStagePinRate side => Sys2Proof.Machine.execEpochStagePinRate side s
  | .epochStageWeightCopy => Sys2Proof.Machine.execEpochStageWeightCopy s
  | .unitBoundarySwitch u => Sys2Proof.Machine.execUnitBoundarySwitch u s
  | .epochAck u => Sys2Proof.Machine.execEpochAck u s
  | .epochTimeout u => Sys2Proof.Machine.execEpochTimeout u s
  | .epochStuck u => Sys2Proof.Machine.execEpochStuck u s
  | .apStart u => Sys2Proof.Machine.execApStart u s
  | .apStop u => Sys2Proof.Machine.execApStop u s
  | .vpStart u => Sys2Proof.Machine.execVpStart u s
  | .vpStop u => Sys2Proof.Machine.execVpStop u s
  | .apgStart groups => Sys2Proof.Machine.execApgStart groups s
  | .apgStop groups => Sys2Proof.Machine.execApgStop groups s
  | .apFmtWrite u val => Sys2Proof.Machine.execApFmtWrite u val s
  | .portFrame u sdi => Sys2Proof.Machine.execPortFrame u sdi s
  | .nonpcmEnd u sl dir => Sys2Proof.Machine.execNonpcmEnd u sl dir s
  | .fadeComplete u sl dir => Sys2Proof.Machine.execFadeComplete u sl dir s
  | .rampComplete u sl dir => Sys2Proof.Machine.execRampComplete u sl dir s
  | .loopLocked p => Sys2Proof.Machine.execLoopLocked p s
  | .loopUpdate p => Sys2Proof.Machine.execLoopUpdate p s
  | .awclkGlitch => Sys2Proof.Machine.execAwclkGlitch s
  | .awclkStop => Sys2Proof.Machine.execAwclkStop s
  | .awclkRestored => Sys2Proof.Machine.execAwclkRestored s
  | .awclkRate => Sys2Proof.Machine.execAwclkRate s
  | .awclkStable => Sys2Proof.Machine.execAwclkStable s
  | .apllUnlock => Sys2Proof.Machine.execApllUnlock s
  | .apCntClr u => Sys2Proof.Machine.execApCntClr u s
  | .apgCntClr => Sys2Proof.Machine.execApgCntClr s
  | .cameraRegister c => Sys2Proof.Machine.execCameraRegister c s
  | .pictureDecodeStart e pics => Sys2Proof.Machine.execPictureDecodeStart e pics s
  | .pictureDecodeDone e r => Sys2Proof.Machine.execPictureDecodeDone e r s
  | .scalerOutputDone => Sys2Proof.Machine.execScalerOutputDone s
  | .scalerSlotDrained n => Sys2Proof.Machine.execScalerSlotDrained n s
  | .outWaitExpiry n => Sys2Proof.Machine.execOutWaitExpiry n s
  | .finCntClr => Sys2Proof.Machine.execFinCntClr s
  | .lightArrive k => Sys2Proof.Machine.execLightArrive k s
  | .casementLit k margin => Sys2Proof.Machine.execCasementLit k margin s
  | .paneRxLock p => Sys2Proof.Machine.execPaneRxLock p s
  | .receiverLockLoss p => Sys2Proof.Machine.execReceiverLockLoss p s
  | .laserLoss k => Sys2Proof.Machine.execLaserLoss k s
  | .helloSend p => Sys2Proof.Machine.execHelloSend p s
  | .helloTimeout p => Sys2Proof.Machine.execHelloTimeout p s
  | .ringTuneStep k ix margin least => Sys2Proof.Machine.execRingTuneStep k ix margin least s
  | .frameSend p => Sys2Proof.Machine.execFrameSend p s
  | .frameCrcFail p uncor corr => Sys2Proof.Machine.execFrameCrcFail p uncor corr s
  | .audioFrameRx p ch h count f xs => Sys2Proof.Machine.execAudioFrameRx p ch h count f xs s
  | .videoFrameRx p ch h bytes => Sys2Proof.Machine.execVideoFrameRx p ch h bytes s
  | .weighFrameRx p ch h bytes => Sys2Proof.Machine.execWeighFrameRx p ch h bytes s
  | .idleFrameRx p ty ch h => Sys2Proof.Machine.execIdleFrameRx p ty ch h s
  | .nakRepeat p ty ch => Sys2Proof.Machine.execNakRepeat p ty ch s
  | .replayTimeout p ty ch => Sys2Proof.Machine.execReplayTimeout p ty ch s
  | .creditRefresh p ty ch => Sys2Proof.Machine.execCreditRefresh p ty ch s
  | .linkCreditTimeout p ty ch => Sys2Proof.Machine.execLinkCreditTimeout p ty ch s
  | .hello p corr id role dual ain aout => Sys2Proof.Machine.execHello p corr id role dual ain aout s
  | .helloAck p corr id => Sys2Proof.Machine.execHelloAck p corr id s
  | .paneQuery p => Sys2Proof.Machine.execPaneQuery p s
  | .peerStatus p h nonce own seen => Sys2Proof.Machine.execPeerStatus p h nonce own seen s
  | .peerQueryTimeout p => Sys2Proof.Machine.execPeerQueryTimeout p s
  | .paneCntClr p => Sys2Proof.Machine.execPaneCntClr p s
  | .snapshotComplete => Sys2Proof.Machine.execSnapshotComplete s
  | .ctxData p h restore ix step off bytes => Sys2Proof.Machine.execCtxData p h restore ix step off bytes s
  | .ctxEnd p h ix step total => Sys2Proof.Machine.execCtxEnd p h ix step total s
  | .ack p h items => Sys2Proof.Machine.execAck p h items s
  | .pairWord p h items => Sys2Proof.Machine.execPairWord p h items s
  | .heartbeatSend => Sys2Proof.Machine.execHeartbeatSend s
  | .heartbeat p h role alive count => Sys2Proof.Machine.execHeartbeat p h role alive count s
  | .partnerLost => Sys2Proof.Machine.execPartnerLost s
  | .restoreReq p h ix => Sys2Proof.Machine.execRestoreReq p h ix s
  | .restoreTimeout ix => Sys2Proof.Machine.execRestoreTimeout ix s
  | .relinquish p h ids => Sys2Proof.Machine.execRelinquish p h ids s
  | .adoptedList p h ids => Sys2Proof.Machine.execAdoptedList p h ids s
  | .adopt ix => Sys2Proof.Machine.execAdopt ix s
  | .adoptAll => Sys2Proof.Machine.execAdoptAll s
  | .mirrorOn ix => Sys2Proof.Machine.execMirrorOn ix s
  | .autoAdoptDecision => Sys2Proof.Machine.execAutoAdoptDecision s
  | .autoAdoptRetry => Sys2Proof.Machine.execAutoAdoptRetry s
  | .mirCntClr => Sys2Proof.Machine.execMirCntClr s
  | .mbDoorbell c tag => Sys2Proof.Machine.execMbDoorbell c tag s
  | .boltRequestTake c => Sys2Proof.Machine.execBoltRequestTake c s
  | .identify => Sys2Proof.Machine.execIdentify s
  | .status => Sys2Proof.Machine.execStatus s
  | .scaleCfg maxMg e filt stabMs rate => Sys2Proof.Machine.execScaleCfg maxMg e filt stabMs rate s
  | .calibrate load => Sys2Proof.Machine.execCalibrate load s
  | .keySet key bytes => Sys2Proof.Machine.execKeySet key bytes s
  | .channelBind pane chan key => Sys2Proof.Machine.execChannelBind pane chan key s
  | .boltFwLoad piece last => Sys2Proof.Machine.execBoltFwLoad piece last s
  | .zero => Sys2Proof.Machine.execZero s
  | .tare preset => Sys2Proof.Machine.execTare preset s
  | .clearTare => Sys2Proof.Machine.execClearTare s
  | .weigh item ref clear => Sys2Proof.Machine.execWeigh item ref clear s
  | .readWeight => Sys2Proof.Machine.execReadWeight s
  | .priceLoad ver rows tag => Sys2Proof.Machine.execPriceLoad ver rows tag s
  | .priceRead item => Sys2Proof.Machine.execPriceRead item s
  | .recordRead num => Sys2Proof.Machine.execRecordRead num s
  | .checkpointRead num piece => Sys2Proof.Machine.execCheckpointRead num piece s
  | .auditRead value => Sys2Proof.Machine.execAuditRead value s
  | .sealChange isOpen => Sys2Proof.Machine.execSealChange isOpen s
  | .adcSample port value => Sys2Proof.Machine.execAdcSample port value s
  | .boltWeighFrame => Sys2Proof.Machine.execBoltWeighFrame s
  | .scaleOffline scale => Sys2Proof.Machine.execScaleOffline scale s
  | .checkpointTimer => Sys2Proof.Machine.execCheckpointTimer s
  | .checkpointSigned => Sys2Proof.Machine.execCheckpointSigned s
  | .mspIdentifyLine => Sys2Proof.Machine.execMspIdentifyLine s
  | .mbEventRead who => Sys2Proof.Machine.execMbEventRead who s
  | .watchdogReset => Sys2Proof.Machine.execWatchdogReset s
  | .boltPowerOn isOpen => Sys2Proof.Machine.execBoltPowerOn isOpen s
  | .boltPowerDown => Sys2Proof.Machine.execBoltPowerDown s
  | .sqDoorbell f pos => Sys2Proof.Machine.execSqDoorbell f pos s
  | .commandTake f e good => Sys2Proof.Machine.execCommandTake f e good s
  | .nop f fence cid => Sys2Proof.Machine.execNop f fence cid s
  | .streamAdmit f fence cid ix entry zeroCtx => Sys2Proof.Machine.execStreamAdmit f fence cid ix entry zeroCtx s
  | .streamModify f fence cid ix entry => Sys2Proof.Machine.execStreamModify f fence cid ix entry s
  | .streamRelease f fence cid ix => Sys2Proof.Machine.execStreamRelease f fence cid ix s
  | .streamRead f fence cid ix a => Sys2Proof.Machine.execStreamRead f fence cid ix a s
  | .planLoad f fence cid plan a len dest => Sys2Proof.Machine.execPlanLoad f fence cid plan a len dest s
  | .planUnload f fence cid plan => Sys2Proof.Machine.execPlanUnload f fence cid plan s
  | .adaptRound f fence cid plan j a len => Sys2Proof.Machine.execAdaptRound f fence cid plan j a len s
  | .abort f fence cid token => Sys2Proof.Machine.execAbort f fence cid token s
  | .fwUpdate f fence cid a len => Sys2Proof.Machine.execFwUpdate f fence cid a len s
  | .scrubSweep f fence cid side => Sys2Proof.Machine.execScrubSweep f fence cid side s
  | .longCommandStep ix data good n => Sys2Proof.Machine.execLongCommandStep ix data good n s
  | .cqEntryWrite f => Sys2Proof.Machine.execCqEntryWrite f s
  | .srDoorbell c r pos => Sys2Proof.Machine.execSrDoorbell c r pos s
  | .hostReadComplete r data good => Sys2Proof.Machine.execHostReadComplete r data good s
  | .hostCompletionTimeout r => Sys2Proof.Machine.execHostCompletionTimeout r s
  | .bar2Read c o n => Sys2Proof.Machine.execBar2Read c o n s
  | .bar2Write c o bytes => Sys2Proof.Machine.execBar2Write c o bytes s
  | .msixUnmask f v => Sys2Proof.Machine.execMsixUnmask f v s
  | .functionLevelReset f => Sys2Proof.Machine.execFunctionLevelReset f s
  | .identity => Sys2Proof.Machine.execIdentity s
  | .deviceState => Sys2Proof.Machine.execDeviceState s
  | .tempMax => Sys2Proof.Machine.execTempMax s
  | .powerIn => Sys2Proof.Machine.execPowerIn s
  | .powerLimit w pec => Sys2Proof.Machine.execPowerLimit w pec s
  | .alertStatus w pec => Sys2Proof.Machine.execAlertStatus w pec s
  | .alertResponse => Sys2Proof.Machine.execAlertResponse s
  | .bootStart cold f => Sys2Proof.Machine.execBootStart cold f s
  | .bootStepTimeout f => Sys2Proof.Machine.execBootStepTimeout f s
  | .rrsLimit => Sys2Proof.Machine.execRrsLimit s
  | .perstAssert => Sys2Proof.Machine.execPerstAssert s
  | .devRestart => Sys2Proof.Machine.execDevRestart s
  | .bootRetry => Sys2Proof.Machine.execBootRetry s
  | .calRead f ok => Sys2Proof.Machine.execCalRead f ok s
  | .calWrite f ok => Sys2Proof.Machine.execCalWrite f ok s
  | .attest => Sys2Proof.Machine.execAttest s
  | .certs => Sys2Proof.Machine.execCerts s
  | .attestDone => Sys2Proof.Machine.execAttestDone s
  | .shutterSwitchStart => Sys2Proof.Machine.execShutterSwitchStart s
  | .shutterReachOn n => Sys2Proof.Machine.execShutterReachOn n s
  | .shutterFault n => Sys2Proof.Machine.execShutterFault n s
  | .shutterIdleClose n => Sys2Proof.Machine.execShutterIdleClose n s
  | .dozeEntry => Sys2Proof.Machine.execDozeEntry s
  | .d3hotEntry => Sys2Proof.Machine.execD3hotEntry s
  | .d3hotExit => Sys2Proof.Machine.execD3hotExit s
  | .vinSample v => Sys2Proof.Machine.execVinSample v s
  | .govWindow rails => Sys2Proof.Machine.execGovWindow rails s
  | .pllUnlock side => Sys2Proof.Machine.execPllUnlock side s
  | .railFault side => Sys2Proof.Machine.execRailFault side s
  | .hbmRailFault side => Sys2Proof.Machine.execHbmRailFault side s
  | .optRailFault => Sys2Proof.Machine.execOptRailFault s
  | .socRailFault => Sys2Proof.Machine.execSocRailFault s
  | .railMonitorSample side mv => Sys2Proof.Machine.execRailMonitorSample side mv s
  | .sensorSample n temp => Sys2Proof.Machine.execSensorSample n temp s
  | .apllBiasTrim => Sys2Proof.Machine.execApllBiasTrim s
  | .pwrCntClr => Sys2Proof.Machine.execPwrCntClr s
  | .recordArrive src => Sys2Proof.Machine.execRecordArrive src s
  | .logSlotRead who ix bad => Sys2Proof.Machine.execLogSlotRead who ix bad s
  | .repairListAdd side => Sys2Proof.Machine.execRepairListAdd side s
  | .hingeUe => Sys2Proof.Machine.execHingeUe s
  | .telSuspectReset ix => Sys2Proof.Machine.execTelSuspectReset ix s
  | .streamResetDone ix => Sys2Proof.Machine.execStreamResetDone ix s
  | .telCntClr => Sys2Proof.Machine.execTelCntClr s
  | .tapInstruction t => Sys2Proof.Machine.execTapInstruction t s
  | .frameDiscarded p corr op => Sys2Proof.Machine.execFrameDiscarded p corr op s
  | .unstable => Sys2Proof.Machine.execUnstable s

end Sys2Proof.Machine
end

