-- ==== Sys2Proof/Machine/Tick.lean ====
section
/-! DEFINITION. What passes with time alone: one tick of the always-on clock, 40 ns, which the block takes when no command waits (R2, R4, R73, R390, R406, R493, R498). -/

namespace Sys2Proof.Machine

/-- The core cycles of a tick: point n is n × 100 MHz, so a tick of 40 ns holds 4n cycles, while the side's fabric is ON (R4, R492). -/
def Dev.cycleTick (d : Dev) (s : Nat) : Dev :=
  if d.domOn (shFabric s) then { d with sideCyc := Tab.set 0 d.sideCyc s (Tab.get 0 d.sideCyc s + 4 * d.clkOf s) } else d

/-- A period of 1 ms without a heartbeat from a formed pair's partner counts in MIR_HB_MISSED (R406). -/
def Dev.heartTick (d : Dev) : Dev :=
  if d.mirOn = true ∧ d.mir.formed = true ∧ max d.mir.hbSeen d.mir.hbMissed + 25000 ≤ d.tick then
    (d.setMir { d.mir with hbMissed := d.tick }).mirCount Off.MIR_HB_MISSED 1
  else d

/-- The zeroing of a side's stack after its reset ends, and the controller is ready (R240, R243). -/
def Dev.zeroTick (d : Dev) (s : Nat) : Dev :=
  let t := Tab.get 0 d.zeroTo s
  if t = 0 ∨ d.tick < t then d
  else { d with zeroTo := Tab.set 0 d.zeroTo s 0 }.setFld ((Block.hbm s).base + Off.HBM_STATUS) Fl.HBM_STATUS_READY 1

/-- The Panes' tick: credit stalls. -/
def Dev.panesTick (d : Dev) : Dev := d.each (List.range 8) Dev.paneTick

/-- One tick of the device. -/
def Dev.tickOnce (d : Dev) : Dev :=
  let d : Dev := { d with tick := d.tick + 1 }
  ((d.each [0, 1] Dev.cycleTick).each [0, 1] Dev.zeroTick).idleMarks.stateTick.panesTick.heartTick

/-- One tick of the Bolt's time, while it is powered. -/
def Bolt.tickOnce (b : Bolt) : Bolt := if b.power then { b with time := b.time + 1 } else b

/-- What the block does when no command waits: one tick passes. -/
def idleTick (s : State) : Out := .next { s with dev := s.dev.tickOnce, bolt := s.bolt.tickOnce }

end Sys2Proof.Machine
end

