-- ==== Sys2Proof/Safety.lean ====
section
/-! DEFINITION. What counts as a safe answer of the block, which commands the Bolt serves, and the invariants that a run keeps. -/

namespace Sys2Proof.Machine

/-- A safe answer: the block goes on. Neither a fault nor a refusal is safe. -/
def Safe (o : Out) : Prop := ∃ t, o = .next t

/-- The commands that act on the Bolt: its mailbox side, its pins, its links and its power. Every other command is a command of the device (R28, R29, R418). -/
def boltRow : Instr → Bool
  | .boltRequestTake _ | .identify | .status | .scaleCfg _ _ _ _ _ | .calibrate _ | .keySet _ _ | .channelBind _ _ _ | .boltFwLoad _ _
  | .zero | .tare _ | .clearTare | .weigh _ _ _ | .readWeight | .unstable | .priceLoad _ _ _ | .priceRead _ | .recordRead _
  | .checkpointRead _ _ | .auditRead _ | .sealChange _ | .adcSample _ _ | .boltWeighFrame | .scaleOffline _ | .checkpointTimer
  | .checkpointSigned | .mspIdentifyLine | .mbEventRead _ | .watchdogReset | .boltPowerOn _ | .boltPowerDown => true
  | _ => false

/-- The commands of the device that may also take an event of the Bolt, by a read of MB_EVENT, or have it serve the Hinge's request at start-up (R437, R470). -/
def touchesBolt : Instr → Bool
  | .shadowLowRead _ _ _ | .rcFieldRead _ _ _ | .tapInstruction _ | .bootStart _ _ | .bootStepTimeout _ => true
  | _ => false

/-- What every run keeps of the Bolt: the counter stays within 32 bits (R422), the audit ring, the event queue and the record store within their sizes
(R423, R430, R436), the scales are 48 in canonical form (R424, R425), and the request in hand is of one of the two channels (R433). -/
structure Bolt.Inv (b : Bolt) : Prop where
  legal : b.legal ≤ legalMax
  audit : b.audit.length ≤ 1024
  events : b.events.length ≤ 32
  recs : b.recs.length ≤ 65536
  count : b.recs.length ≤ b.nextRec
  since : b.sinceCheck ≤ b.nextRec
  scales : ∀ e ∈ b.scales, e.1 < 48
  form : Tab.wf Scale.fresh b.scales = true
  chan : ∀ r, b.req = some r → r.chan < 2

end Sys2Proof.Machine
end

