-- ==== Sys2Proof/Certificates/Slice0/Obligations.lean ====
section
/-! DEFINITION. The statements about the model that the provers are to prove, from the rules of the specification. -/

/-! ### The words of the statements -/

namespace Sys2Proof.Claims

open Sys2Proof Sys2Proof.Machine

/-- The command answers a next state, and that state satisfies `p`. -/
def Gives (i : Instr) (s : State) (p : State → Prop) : Prop := ∃ t, exec i s = .next t ∧ p t

/-- The command answers exactly the state with the device `d`: the queue and the Bolt are as they were. -/
def GivesDev (i : Instr) (s : State) (d : Dev) : Prop := exec i s = .next { s with dev := d }

/-- Core `k` can begin a bundle: it runs, no bundle is begun, and neither single step nor parity injection is on. -/
structure Open (d : Dev) (k : Nat) : Prop where
  fresh : d.stage k = []
  running : (d.core k).state = .running
  noPpt : (d.core k).pptEntry = none
  open' : (d.core k).ending = false
  noInject : (d.core k).fld Off.DBG_CTRL Fl.DBG_CTRL_PAR_INJECT ≠ 1
  noStep : (d.core k).fld Off.DBG_CTRL Fl.DBG_CTRL_SSTEP ≠ 1
  quiet : (d.core k).out = []

/-- No register of the command has a pending write on core `k` (R40). -/
def Ready (d : Dev) (k : Nat) (i : Instr) : Prop :=
  ∀ op, opOf i = some op → (op.reads ++ op.dest.toList).any ((d.core k).pendingAt (d.cycles k)) = false

/-- Core `k` can issue the bundle at its PC, which holds `i` and no other slot: none of its registers is pending. -/
structure CanIssue (d : Dev) (k : Nat) (i : Instr) : Prop extends Open d k where
  fetched : ∃ w, (d.core k).fetch = .bundle w ∧ spells w 1 [i] = true
  ready : Ready d k i

/-- What the command `i` leaves of core `k` once its bundle has issued: WAIT is 0, the PC is at `next`, `n` cycles have passed, its result is pending
by its latency, no write of an earlier cycle is remembered, and the granules in error are those of before. -/
def retire (s : State) (k : Nat) (i : Instr) (c : Core) (next n : Nat) : Core :=
  { c.setFld Off.CORE_STATUS Fl.CORE_STATUS_WAIT 0 with
    waitSince := none
    waitParty := 0
    wrote := []
    ueWas := (s.dev.core k).ue
    ceWas := (s.dev.core k).ce
    arrWrote := []
    met := false
    ready := (s.dev.core k).noteReady (s.dev.cycles k) (opOf i).toList
    pc := next
    cyc := c.cyc + n }

/-- From `s` to `t` nothing but core `k` changed. -/
structure OnlyCore (s t : State) (k : Nat) : Prop where
  queue : t.pending = s.pending
  bolt : t.bolt = s.bolt
  others : ∀ j, j ≠ k → t.dev.core j = s.dev.core j
  device : { t.dev with cores := s.dev.cores, stages := s.dev.stages } = s.dev
  bundle : t.dev.stage k = []
  bundles : ∀ j, j ≠ k → t.dev.stage j = s.dev.stage j

/-- Where the command is the whole bundle of core `k` and can issue, it answers a next state that satisfies `p`. -/
def Runs (i : Instr) (s : State) (k : Nat) (p : State → Prop) : Prop := CanIssue s.dev k i → Gives i s p

/-- The command is the whole bundle of core `k`: it issues, `c` is what its slot makes of the core, and the PC moves on. -/
def Issues (i : Instr) (s : State) (k : Nat) (c : Core) : Prop :=
  Runs i s k (fun t => OnlyCore s t k ∧ t.dev.core k = retire s k i c ((s.dev.core k).pc + 1) 1)

/-- The command stops core `k` with a code in a slot: no register is written, and the PC stays (R72, R74). -/
def Stops (i : Instr) (s : State) (k code slot : Nat) : Prop :=
  Gives i s (fun t => (t.dev.core k).state = .stopped ∧ (t.dev.core k).fld Off.CORE_CAUSE Fl.CORE_CAUSE_CAUSE = code
    ∧ (t.dev.core k).fld Off.CORE_CAUSE Fl.CORE_CAUSE_SLOT = slot ∧ (t.dev.core k).pc = (s.dev.core k).pc
    ∧ (t.dev.core k).sregs = (s.dev.core k).sregs ∧ (t.dev.core k).vregs = (s.dev.core k).vregs ∧ (t.dev.core k).mregs = (s.dev.core k).mregs)

/-- The bundle of the command waits: `kind` is the first unmet condition, its counter advances, and the PC stays (R38, R70, R76). -/
def Waits (i : Instr) (s : State) (k kind counter : Nat) : Prop :=
  ((s.dev.core k).reg counter).toNat + 1 < 2 ^ 32 → Gives i s (fun t => OnlyCore s t k ∧ (t.dev.core k).pc = (s.dev.core k).pc
    ∧ (t.dev.core k).sregs = (s.dev.core k).sregs ∧ (t.dev.core k).fld Off.CORE_STATUS Fl.CORE_STATUS_WAIT = kind
    ∧ ((t.dev.core k).reg counter).toNat = ((s.dev.core k).reg counter).toNat + 1)

/-- 1 for true, 0 for false. -/
def bit (b : Bool) : Word := if b then 1 else 0

/-- An immediate of 16 bits, sign-extended. -/
def sext (x : BitVec 16) : Word := BitVec.ofInt 32 x.toInt

/-- An immediate of 16 bits, zero-extended. -/
def zext (x : BitVec 16) : Word := BitVec.ofNat 32 x.toNat

/-- The scalar operations that compute one register: the bundle, the destination, and the value by R43 and R44. -/
def scalarResult : Instr → Option (Bun × Nat × (Core → Word))
  | .add b rd ra rb => some (b, rd, fun c => c.s ra + c.s rb)
  | .sub b rd ra rb => some (b, rd, fun c => c.s ra - c.s rb)
  | .and b rd ra rb => some (b, rd, fun c => c.s ra &&& c.s rb)
  | .or b rd ra rb => some (b, rd, fun c => c.s ra ||| c.s rb)
  | .xor b rd ra rb => some (b, rd, fun c => c.s ra ^^^ c.s rb)
  | .sll b rd ra rb => some (b, rd, fun c => c.s ra <<< ((c.s rb).toNat % 32))
  | .srl b rd ra rb => some (b, rd, fun c => c.s ra >>> ((c.s rb).toNat % 32))
  | .sra b rd ra rb => some (b, rd, fun c => (c.s ra).sshiftRight ((c.s rb).toNat % 32))
  | .slt b rd ra rb => some (b, rd, fun c => bit (decide ((c.s ra).toInt < (c.s rb).toInt)))
  | .sltu b rd ra rb => some (b, rd, fun c => bit (decide (c.s ra < c.s rb)))
  | .min b rd ra rb => some (b, rd, fun c => if (c.s ra).sle (c.s rb) then c.s ra else c.s rb)
  | .max b rd ra rb => some (b, rd, fun c => if (c.s ra).sle (c.s rb) then c.s rb else c.s ra)
  | .mul b rd ra rb => some (b, rd, fun c => c.s ra * c.s rb)
  | .mulh b rd ra rb => some (b, rd, fun c => BitVec.ofInt 32 ((c.s ra).toInt * (c.s rb).toInt / 4294967296))
  | .addi b rd ra imm => some (b, rd, fun c => c.s ra + sext imm)
  | .andi b rd ra imm => some (b, rd, fun c => c.s ra &&& zext imm)
  | .ori b rd ra imm => some (b, rd, fun c => c.s ra ||| zext imm)
  | .xori b rd ra imm => some (b, rd, fun c => c.s ra ^^^ zext imm)
  | .slli b rd ra imm => some (b, rd, fun c => c.s ra <<< (imm.toNat % 32))
  | .srli b rd ra imm => some (b, rd, fun c => c.s ra >>> (imm.toNat % 32))
  | .srai b rd ra imm => some (b, rd, fun c => (c.s ra).sshiftRight (imm.toNat % 32))
  | .slti b rd ra imm => some (b, rd, fun c => bit (decide ((c.s ra).toInt < imm.toInt)))
  | .lui b rd imm => some (b, rd, fun _ => BitVec.ofNat 32 (imm.toNat * 2048))
  | .rdcych b rd => some (b, rd, fun c => c.cycShadow)
  | _ => none

end Sys2Proof.Claims

/-! ### The slots of a bundle -/

namespace Sys2Proof.Claims

open Sys2Proof Sys2Proof.Machine

/-- Lane `l` of a second source: a vector register, or an s register for every lane (R115). -/
def second (c : Core) (v : VSrc) (l : Nat) : Word :=
  match v with
  | .vec r => c.v r l
  | .scal r => c.s r

/-- The V-slot operations of R115, R117, R119: the bundle, M and Z, the destination, and the value of an enabled lane. -/
def laneResult : Instr → Option (Bun × VM × Nat × (Core → Nat → Word))
  | .vadd b g vd va vb => some (b, g, vd, fun c l => c.v va l + second c vb l)
  | .vsub b g vd va vb => some (b, g, vd, fun c l => c.v va l - second c vb l)
  | .vmul b g vd va vb => some (b, g, vd, fun c l => c.v va l * second c vb l)
  | .vmulh b g vd va vb => some (b, g, vd, fun c l => BitVec.ofInt 32 ((c.v va l).toInt * (second c vb l).toInt / 4294967296))
  | .vmin b g vd va vb => some (b, g, vd, fun c l => if (c.v va l).sle (second c vb l) then c.v va l else second c vb l)
  | .vmax b g vd va vb => some (b, g, vd, fun c l => if (c.v va l).sle (second c vb l) then second c vb l else c.v va l)
  | .vand b g vd va vb => some (b, g, vd, fun c l => c.v va l &&& second c vb l)
  | .vor b g vd va vb => some (b, g, vd, fun c l => c.v va l ||| second c vb l)
  | .vxor b g vd va vb => some (b, g, vd, fun c l => c.v va l ^^^ second c vb l)
  | .vsll b g vd va vb => some (b, g, vd, fun c l => c.v va l <<< ((second c vb l).toNat % 32))
  | .vsrl b g vd va vb => some (b, g, vd, fun c l => c.v va l >>> ((second c vb l).toNat % 32))
  | .vsra b g vd va vb => some (b, g, vd, fun c l => (c.v va l).sshiftRight ((second c vb l).toNat % 32))
  | .vsrar b g vd va vb => some (b, g, vd, fun c l => BitVec.ofInt 32 (rneShift (c.v va l).toInt ((second c vb l).toNat % 32)))
  | .vmac b g vd va vb vc => some (b, g, vd, fun c l => c.v vc l + c.v va l * second c vb l)
  | .vclamp b g vd va (.vec vb) vc => some (b, g, vd, fun c l =>
      BitVec.ofInt 32 (min (max (c.v va l).toInt (c.v vb l).toInt) (c.v vc l).toInt))
  | .vclamp b g vd va (.scal ss) 0 => some (b, g, vd, fun c l =>
      let k : Int := min (c.s ss).toInt.natAbs 2147483647
      BitVec.ofInt 32 (min (max (c.v va l).toInt (-k)) k))
  | .vsel b g vd va vb mc => some (b, g, vd, fun c l => if (c.m mc).getLsbD l then c.v va l else second c vb l)
  | .vmov b g vd va => some (b, g, vd, fun c l => c.v va l)
  | .vnot b g vd va => some (b, g, vd, fun c l => ~~~ c.v va l)
  | .vslli b g vd va n => some (b, g, vd, fun c l => c.v va l <<< n.val)
  | .vsrli b g vd va n => some (b, g, vd, fun c l => c.v va l >>> n.val)
  | .vsrai b g vd va n => some (b, g, vd, fun c l => (c.v va l).sshiftRight n.val)
  | .vsrari b g vd va n => some (b, g, vd, fun c l => BitVec.ofInt 32 (rneShift (c.v va l).toInt n.val))
  | .vaddi b g vd va imm => some (b, g, vd, fun c l => c.v va l + BitVec.ofInt 32 imm.toInt)
  | .vperm b g vd va vb => some (b, g, vd, fun c l =>
      let from' (j : Nat) : Nat := (c.v vb j).toNat % 16
      if (List.range l).any (fun j => (c.m g.m).getLsbD j && from' j == from' l) then 0 else c.v va (from' l))
  | .vpermi b g vd va 0 0 => some (b, g, vd, fun c l => c.v va (4 * (l % 4) + l / 4))
  | .vpermi b g vd va 1 n => some (b, g, vd, fun c l => c.v va ((l + n.val) % 16))
  | .vpermi b g vd va 2 0 => some (b, g, vd, fun c l => c.v va (15 - l))
  | .vpermi b g vd va 3 n => some (b, g, vd, fun c l => c.v va (4 * (l / 4) + (l % 4 + n.val) % 4))
  | .vpermi b g vd va 4 0 => some (b, g, vd, fun c l => c.v va (l ^^^ 1))
  | .viota b g vd => some (b, g, vd, fun _ l => BitVec.ofNat 32 l)
  | .vmtov b g vd ma => some (b, g, vd, fun c l => bit ((c.m ma).getLsbD l))
  | _ => none

/-- The forms that set a field that their operation does not use, or name a pattern that is none (R115, R119). -/
def unusedField : Instr → Option Bun
  | .vclamp b _ _ _ (.scal _) vc => if vc = 0 then none else some b
  | .vpermi b _ _ _ pat n => if 5 ≤ pat.val ∨ (n ≠ 0 ∧ pat ≠ 1 ∧ pat ≠ 3) then some b else none
  | _ => none

/-- The saturating operations of R116: the exact value of a lane. -/
def exactResult : Instr → Option (Bun × VM × Nat × (Core → Nat → Int))
  | .vadds b g vd va vb => some (b, g, vd, fun c l => (c.v va l).toInt + (second c vb l).toInt)
  | .vsubs b g vd va vb => some (b, g, vd, fun c l => (c.v va l).toInt - (second c vb l).toInt)
  | .vmacs b g vd va vb vc => some (b, g, vd, fun c l => (c.v vc l).toInt + (c.v va l).toInt * (second c vb l).toInt)
  | .vneg b g vd va => some (b, g, vd, fun c l => -(c.v va l).toInt)
  | .vabs b g vd va => some (b, g, vd, fun c l => |(c.v va l).toInt|)
  | _ => none

/-- The compares and mask operations of R115: the mask bit of an enabled lane. -/
def maskResult : Instr → Option (Bun × VM × Nat × (Core → Nat → Bool))
  | .vcmpeq b g md va vb => some (b, g, md, fun c l => c.v va l == second c vb l)
  | .vcmpne b g md va vb => some (b, g, md, fun c l => c.v va l != second c vb l)
  | .vcmplt b g md va vb => some (b, g, md, fun c l => (c.v va l).slt (second c vb l))
  | .vcmple b g md va vb => some (b, g, md, fun c l => (c.v va l).sle (second c vb l))
  | .vcmpgt b g md va vb => some (b, g, md, fun c l => (second c vb l).slt (c.v va l))
  | .vcmpge b g md va vb => some (b, g, md, fun c l => (second c vb l).sle (c.v va l))
  | .mand b g md ma mb => some (b, g, md, fun c l => (c.m ma).getLsbD l && (c.m mb).getLsbD l)
  | .mor b g md ma mb => some (b, g, md, fun c l => (c.m ma).getLsbD l || (c.m mb).getLsbD l)
  | .mxor b g md ma mb => some (b, g, md, fun c l => (c.m ma).getLsbD l ^^ (c.m mb).getLsbD l)
  | .mandn b g md ma mb => some (b, g, md, fun c l => (c.m ma).getLsbD l && !(c.m mb).getLsbD l)
  | .mnot b g md ma => some (b, g, md, fun c l => !(c.m ma).getLsbD l)
  | .mset b g md ss => some (b, g, md, fun c l => (c.s ss).getLsbD l)
  | _ => none

/-- What a masked lane keeps: its old value, or 0 with Z (R113). -/
def masked (g : VM) (old : Word) : Word := if g.z then 0 else old

/-- The lane sums, maxima and minima of a reduction: the groups that the destination lanes take, by R120. -/
def reduction : Instr → Option (Bun × Nat × Nat × Nat × Nat × (Nat → List Nat))
  | .vrrow b m vd va fn => some (b, m, vd, va, fn, fun d => if d % 4 = 0 then [d, d + 1, d + 2, d + 3] else [])
  | .vrcol b m vd va fn => some (b, m, vd, va, fn, fun d => if d < 4 then [d, d + 4, d + 8, d + 12] else [])
  | .vrall b m vd va fn => some (b, m, vd, va, fn, fun d => if d = 0 then List.range 16 else [])
  | _ => none

/-- The clamp to ±(2^31 − 1) (R116). -/
def sat (x : Int) : Int := max (-2147483647) (min 2147483647 x)

/-- The summaries of R49: the bundle, the destination, and the value. -/
def summary : Instr → Option (Bun × Nat × (Core → Word))
  | .vsumAny b m rd ma => some (b, rd, fun c => bit (c.m m &&& c.m ma != 0))
  | .vsumAll b m rd ma => some (b, rd, fun c => bit (c.m m &&& ~~~ c.m ma == 0))
  | .vsumCount b m rd ma => some (b, rd, fun c =>
      BitVec.ofNat 32 (((List.range 16).filter (fun l => (c.m m).getLsbD l && (c.m ma).getLsbD l)).length))
  | .vsumFirst b m rd ma => some (b, rd, fun c =>
      BitVec.ofNat 32 (((List.range 16).find? (fun l => (c.m m).getLsbD l && (c.m ma).getLsbD l)).getD 16))
  | .vsumMax b m rd va => some (b, rd, fun c =>
      BitVec.ofInt 32 ((((List.range 16).filter (fun l => (c.m m).getLsbD l)).map (fun l => (c.v va l).toInt)).foldl max (-2147483648)))
  | .vsumMin b m rd va => some (b, rd, fun c =>
      BitVec.ofInt 32 ((((List.range 16).filter (fun l => (c.m m).getLsbD l)).map (fun l => (c.v va l).toInt)).foldl min 2147483647))
  | .vsumLane0 b _ rd va => some (b, rd, fun c => c.v va 0)
  | _ => none

/-- The branches of R47: the bundle, the condition, and the offset. -/
def branch : Instr → Option (Bun × (Core → Bool) × BitVec 16)
  | .beq b ra rb off => some (b, fun c => c.s ra == c.s rb, off)
  | .bne b ra rb off => some (b, fun c => c.s ra != c.s rb, off)
  | .blt b ra rb off => some (b, fun c => (c.s ra).slt (c.s rb), off)
  | .bge b ra rb off => some (b, fun c => !(c.s ra).slt (c.s rb), off)
  | .bltu b ra rb off => some (b, fun c => (c.s ra).ult (c.s rb), off)
  | .bgeu b ra rb off => some (b, fun c => !(c.s ra).ult (c.s rb), off)
  | .jmp b off => some (b, fun _ => true, off)
  | _ => none

/-- The Latch operations of the X slot (R55, R251, R259). -/
def latchOp : Instr → Option (Bun × LOp × Nat × Nat × Nat × BitVec 27)
  | .ladd b sa sb sc x => some (b, .add, sa, sb, sc, x)
  | .lsub b sa sb sc x => some (b, .sub, sa, sb, sc, x)
  | .lset b sa sb sc x => some (b, .set, sa, sb, sc, x)
  | .lcas b sa sb sc x => some (b, .cas, sa, sb, sc, x)
  | .lseqadv b sa sb sc x => some (b, .seqAdv, sa, sb, sc, x)
  | .lread b sa sb sc x => some (b, .read, sa, sb, sc, x)
  | .lwatch b sa sb sc x => some (b, .watch, sa, sb, sc, x)
  | _ => none

end Sys2Proof.Claims

open Sys2Proof Sys2Proof.Machine Sys2Proof.Claims

/-- R43, R44: a scalar operation that is its core's whole bundle issues, its destination takes the value of its row, and nothing else of the core or
of the device changes; a write to s0 is discarded (R39). -/
def Obligations.ScalarResult : Prop :=
  ∀ (i : Instr) (s : State) (b : Bun) (rd : Nat) (f : Core → Word), scalarResult i = some (b, rd, f) → b.more = false → CanIssue s.dev b.core i →
    Gives i s (fun t => OnlyCore s t b.core ∧ (∀ r, (t.dev.core b.core).s r = if r = rd ∧ rd ≠ 0 then f (s.dev.core b.core) else (s.dev.core b.core).s r)
      ∧ { t.dev.core b.core with sregs := (s.dev.core b.core).sregs } = retire s b.core i (s.dev.core b.core) ((s.dev.core b.core).pc + 1) 1)

/-- R113, R115, R117–R119: an enabled lane of the destination takes the value of its row, a masked lane keeps its old value or becomes 0 with Z, and
nothing else of the core or of the device changes; a field that the operation does not use and that is not 0, and a VPERMI pattern of 5 to 7, stop the core with ILLEGAL_OP and no register written. -/
def Obligations.LaneResult : Prop :=
  (∀ (i : Instr) (s : State) (b : Bun) (g : VM) (vd : Nat) (f : Core → Nat → Word), laneResult i = some (b, g, vd, f) → b.more = false → CanIssue s.dev b.core i →
    Gives i s (fun t => OnlyCore s t b.core
      ∧ (∀ l, l < 16 → (t.dev.core b.core).v vd l = if ((s.dev.core b.core).m g.m).getLsbD l then f (s.dev.core b.core) l else masked g ((s.dev.core b.core).v vd l))
      ∧ (∀ r l, l < 16 → r ≠ vd → (t.dev.core b.core).v r l = (s.dev.core b.core).v r l)
      ∧ { t.dev.core b.core with vregs := (s.dev.core b.core).vregs } = retire s b.core i (s.dev.core b.core) ((s.dev.core b.core).pc + 1) 1))
  ∧ (∀ (i : Instr) (s : State) (b : Bun), unusedField i = some b → b.more = false → CanIssue s.dev b.core i →
    Gives i s (fun t => (t.dev.core b.core).state = .stopped ∧ (t.dev.core b.core).vregs = (s.dev.core b.core).vregs
      ∧ (t.dev.core b.core).fld Off.CORE_CAUSE Fl.CORE_CAUSE_CAUSE = 0x01 ∧ (t.dev.core b.core).fld Off.CORE_CAUSE Fl.CORE_CAUSE_SLOT = 2))

/-- R113, R115, R116: the saturating operations clamp each enabled lane's exact value to ±(2^31 − 1), and VE_SAT counts the clamped lanes; the compares and mask operations write an enabled lane's bit, a masked lane keeps
its bit or clears it with Z, a write to m0 is discarded, and nothing else changes; MLOW sets the bits below its count of at most 16. -/
def Obligations.SaturationAndMasks : Prop :=
  (∀ (i : Instr) (s : State) (b : Bun) (g : VM) (vd : Nat) (f : Core → Nat → Int), exactResult i = some (b, g, vd, f) → b.more = false → CanIssue s.dev b.core i →
      ((s.dev.core b.core).reg Off.VE_SAT).toNat + 16 < 2 ^ 32 →
      Gives i s (fun t => OnlyCore s t b.core
        ∧ (∀ l, l < 16 → (t.dev.core b.core).v vd l =
            if ((s.dev.core b.core).m g.m).getLsbD l then BitVec.ofInt 32 (sat (f (s.dev.core b.core) l)) else masked g ((s.dev.core b.core).v vd l))
        ∧ (∀ r l, l < 16 → r ≠ vd → (t.dev.core b.core).v r l = (s.dev.core b.core).v r l)
        ∧ ((t.dev.core b.core).reg Off.VE_SAT).toNat = ((s.dev.core b.core).reg Off.VE_SAT).toNat
            + ((List.range 16).filter (fun l => ((s.dev.core b.core).m g.m).getLsbD l && f (s.dev.core b.core) l != sat (f (s.dev.core b.core) l))).length
        ∧ (∀ o, o ≠ Off.VE_SAT → o ≠ Off.CORE_STATUS → (t.dev.core b.core).reg o = (s.dev.core b.core).reg o)
        ∧ (t.dev.core b.core).sregs = (s.dev.core b.core).sregs ∧ (t.dev.core b.core).mregs = (s.dev.core b.core).mregs
        ∧ (t.dev.core b.core).mem = (s.dev.core b.core).mem ∧ (t.dev.core b.core).pc = (s.dev.core b.core).pc + 1))
  ∧ ((∀ (i : Instr) (s : State) (b : Bun) (g : VM) (md : Nat) (f : Core → Nat → Bool), maskResult i = some (b, g, md, f) → b.more = false → CanIssue s.dev b.core i →
      Gives i s (fun t => OnlyCore s t b.core
        ∧ (∀ l, l < 16 → md ≠ 0 → ((t.dev.core b.core).m md).getLsbD l =
            if ((s.dev.core b.core).m g.m).getLsbD l then f (s.dev.core b.core) l else !g.z && ((s.dev.core b.core).m md).getLsbD l)
        ∧ (∀ r, r ≠ md → (t.dev.core b.core).m r = (s.dev.core b.core).m r) ∧ (t.dev.core b.core).m 0 = 0xFFFF
        ∧ { t.dev.core b.core with mregs := (s.dev.core b.core).mregs } = retire s b.core i (s.dev.core b.core) ((s.dev.core b.core).pc + 1) 1))
    ∧ (∀ (s : State) (b : Bun) (g : VM) (md : Fin 8) (n : Fin 32), n.val ≤ 16 → b.more = false →
      Runs (.mlow b g md n) s b.core (fun t => OnlyCore s t b.core
        ∧ (∀ l, l < 16 → md ≠ 0 → ((t.dev.core b.core).m md).getLsbD l =
            if ((s.dev.core b.core).m g.m).getLsbD l then decide (l < n) else !g.z && ((s.dev.core b.core).m md).getLsbD l))))

/-- R49, R120: a reduction writes each group's clamped sum, maximum or minimum over its enabled lanes into the group's lane, and 0 into every other lane; function 3 is ILLEGAL_OP; a summary writes one s register from the enabled lanes of a mask
or of a vector, and nothing else. -/
def Obligations.ReductionsAndSummaries : Prop :=
  (∀ (i : Instr) (s : State) (b : Bun) (m vd va fn : Nat) (grp : Nat → List Nat), reduction i = some (b, m, vd, va, fn, grp) → fn < 3 → b.more = false →
      CanIssue s.dev b.core i → ((s.dev.core b.core).reg Off.VE_SAT).toNat + 16 < 2 ^ 32 →
      Gives i s (fun t => OnlyCore s t b.core ∧ (t.dev.core b.core).pc = (s.dev.core b.core).pc + 1
        ∧ (∀ d, d < 16 → (t.dev.core b.core).v vd d =
            let xs := ((grp d).filter (fun l => ((s.dev.core b.core).m m).getLsbD l)).map (fun l => ((s.dev.core b.core).v va l).toInt)
            if grp d = [] then 0 else if fn = 0 then BitVec.ofInt 32 (sat xs.sum)
            else if fn = 1 then BitVec.ofInt 32 (xs.foldl max (-2147483648)) else BitVec.ofInt 32 (xs.foldl min 2147483647))
        ∧ (∀ r l, l < 16 → r ≠ vd → (t.dev.core b.core).v r l = (s.dev.core b.core).v r l)
        ∧ (∀ o, o ≠ Off.VE_SAT → o ≠ Off.CORE_STATUS → (t.dev.core b.core).reg o = (s.dev.core b.core).reg o)
        ∧ (t.dev.core b.core).sregs = (s.dev.core b.core).sregs ∧ (t.dev.core b.core).mregs = (s.dev.core b.core).mregs
        ∧ (t.dev.core b.core).mem = (s.dev.core b.core).mem))
  ∧ (∀ (i : Instr) (s : State) (b : Bun) (m vd va fn : Nat) (grp : Nat → List Nat), reduction i = some (b, m, vd, va, fn, grp) → fn = 3 → b.more = false →
      CanIssue s.dev b.core i → Gives i s (fun t => (t.dev.core b.core).state = .stopped ∧ (t.dev.core b.core).fld Off.CORE_CAUSE Fl.CORE_CAUSE_CAUSE = 0x01
        ∧ (t.dev.core b.core).vregs = (s.dev.core b.core).vregs ∧ (t.dev.core b.core).pc = (s.dev.core b.core).pc))
  ∧ (∀ (i : Instr) (s : State) (b : Bun) (rd : Nat) (f : Core → Word), summary i = some (b, rd, f) → b.more = false → CanIssue s.dev b.core i →
      Gives i s (fun t => OnlyCore s t b.core ∧ (∀ r, (t.dev.core b.core).s r = if r = rd ∧ rd ≠ 0 then f (s.dev.core b.core) else (s.dev.core b.core).s r)
        ∧ { t.dev.core b.core with sregs := (s.dev.core b.core).sregs } = retire s b.core i (s.dev.core b.core) ((s.dev.core b.core).pc + 1) 1))

/-- R47, R48: a taken branch moves the PC by its offset in bundles and costs two more cycles; one that is not taken moves on; a target outside bundles
0–4095 stops the core with PC_RANGE. -/
def Obligations.Branches : Prop :=
  ∀ (i : Instr) (s : State) (b : Bun) (p : Core → Bool) (off : BitVec 16), branch i = some (b, p, off) → b.more = false → CanIssue s.dev b.core i →
    let c := s.dev.core b.core
    let x : Int := c.pc + off.toInt
    (p c = true → 0 ≤ x → x < 4096 → Gives i s (fun t => OnlyCore s t b.core ∧ t.dev.core b.core = retire s b.core i c x.toNat 3))
    ∧ (p c = false → Gives i s (fun t => OnlyCore s t b.core ∧ t.dev.core b.core = retire s b.core i c (c.pc + 1) 1))
    ∧ (p c = true → (x < 0 ∨ 4096 ≤ x) → Gives i s (fun t => (t.dev.core b.core).state = .stopped
        ∧ (t.dev.core b.core).fld Off.CORE_CAUSE Fl.CORE_CAUSE_CAUSE = 0x03 ∧ (t.dev.core b.core).fld Off.CORE_CAUSE Fl.CORE_CAUSE_SLOT = 1
        ∧ (t.dev.core b.core).pc = c.pc ∧ (t.dev.core b.core).sregs = c.sregs))

/-- R45, R174, R176: LDW loads the word that the core's gather buffer and banks show at RA + IMM16, STW puts the word's bytes into the gather buffer; an
address outside the memories stops the core with ADDR_RANGE, one that is no multiple of 4 with MISALIGNED. -/
def Obligations.ScalarMemory : Prop :=
  ∀ (s : State) (b : Bun) (rd ra : Fin 32) (imm : BitVec 16), b.more = false →
    let c := s.dev.core b.core
    let a := (c.s ra + sext imm).toNat
    (memOf a ≠ 0 → a % 4 = 0 → c.ueIn a 4 = none → c.ce = [] → c.isOn a = true →
      Runs (.ldw b rd ra imm) s b.core (fun t => OnlyCore s t b.core ∧ t.dev.core b.core = retire s b.core (.ldw b rd ra imm) (c.setS rd (c.seeWord a)) (c.pc + 1) 1))
    ∧ (memOf a ≠ 0 → a % 4 = 0 → c.gb.all (fun l => l.base != a / 64 * 64) = true → c.gb.length < 8 →
      Runs (.stw b rd ra imm) s b.core (fun t => OnlyCore s t b.core ∧ t.dev.core b.core = retire s b.core (.stw b rd ra imm) { c with gb := (t.dev.core b.core).gb } (c.pc + 1) 1
        ∧ ∀ j, j < 4 → (t.dev.core b.core).see (a + j) = BitVec.ofNat 8 ((c.s rd).toNat / 256 ^ j)))
    ∧ (memOf a = 0 → Runs (.ldw b rd ra imm) s b.core (fun t => (t.dev.core b.core).state = .stopped ∧ (t.dev.core b.core).fld Off.CORE_CAUSE Fl.CORE_CAUSE_CAUSE = 0x04)
        ∧ Runs (.stw b rd ra imm) s b.core (fun t => (t.dev.core b.core).state = .stopped ∧ (t.dev.core b.core).fld Off.CORE_CAUSE Fl.CORE_CAUSE_CAUSE = 0x04))
    ∧ (memOf a ≠ 0 → a % 4 ≠ 0 → Runs (.ldw b rd ra imm) s b.core (fun t => (t.dev.core b.core).state = .stopped ∧ (t.dev.core b.core).fld Off.CORE_CAUSE Fl.CORE_CAUSE_CAUSE = 0x05)
        ∧ Runs (.stw b rd ra imm) s b.core (fun t => (t.dev.core b.core).state = .stopped ∧ (t.dev.core b.core).fld Off.CORE_CAUSE Fl.CORE_CAUSE_CAUSE = 0x05))


/-- R43, R46, R50, R57: the no-operations of the three slots issue and change nothing else; RDCYC reads the cycle count and keeps its high half in the
shadow; RDCR reads 0 where no basic register stands, and the register where one stands. -/
def Obligations.NopsAndCoreReads : Prop :=
  ∀ (s : State) (b : Bun) (rd : Fin 32) (imm : BitVec 16), b.more = false →
    let c := s.dev.core b.core
    Issues (.snop b) s b.core c ∧ Issues (.vnop b) s b.core c ∧ Issues (.xnop b) s b.core c
    ∧ Issues (.rdcyc b rd) s b.core { c.setS rd (lo32 (s.dev.cycles b.core)) with cycShadow := hi32 (s.dev.cycles b.core) }
    ∧ ((0x8000 ≤ imm.toNat * 4 ∨ regOf (.core b.core) (imm.toNat * 4) = none) → Issues (.rdcr b rd imm) s b.core (c.setS rd 0))
    ∧ (imm.toNat * 4 = Off.CORE_PC → Issues (.rdcr b rd imm) s b.core (c.setS rd (BitVec.ofNat 32 (c.pc % 4096))))
    ∧ (imm.toNat * 4 = Off.STALL_LIMIT → Issues (.rdcr b rd imm) s b.core (c.setS rd (c.reg Off.STALL_LIMIT)))

/-- R132–R135: VLUT takes SH, clamps to 16 bits, and interpolates between table entries 256 apart, the last entry standing for the one after it, and the clamped inputs count; VLUTST stores the low halves of the enabled lanes into
entries 16j and on; REQ rounds each enabled lane right by its shift, ties to even, and clamps it to the output format, and VE_SAT counts the clamped lanes; a reserved source or format, a statistics slot that STAT does not allow, and a SHIFT, SS or VB that SRC does not use and that is not 0, are ILLEGAL_OP. -/
def Obligations.TablesAndRequantise : Prop :=
  (∀ (s : State) (b : Bun) (g : VM) (vd va h : Fin 32) (tb : Fin 4) (j : Fin 16), b.more = false →
      let c := s.dev.core b.core
      let y (l : Nat) : Int := (c.v va l).toInt / (2 ^ h.val : Nat)
      let k (l : Nat) : Int := max (-32768) (min 32767 (y l))
      let u (l : Nat) : Nat := (k l + 32768).toNat
      let e (n : Nat) : Int := (c.lut tb (min n 255)).toInt
      ((c.reg Off.VE_LUT_CLAMP).toNat + 16 < 2 ^ 32 → Runs (.vlut b g vd va tb h) s b.core (fun t => OnlyCore s t b.core
        ∧ (∀ l, l < 16 → (t.dev.core b.core).v vd l = if (c.m g.m).getLsbD l then
              BitVec.ofInt 32 (e (u l / 256) + rneDiv ((e (u l / 256 + 1) - e (u l / 256)) * (u l % 256 : Nat)) 256) else masked g (c.v vd l))
        ∧ ((t.dev.core b.core).reg Off.VE_LUT_CLAMP).toNat = (c.reg Off.VE_LUT_CLAMP).toNat
            + ((List.range 16).filter (fun l => (c.m g.m).getLsbD l && y l != k l)).length
        ∧ (t.dev.core b.core).luts = c.luts ∧ (t.dev.core b.core).sregs = c.sregs ∧ (t.dev.core b.core).pc = c.pc + 1))
      ∧ Runs (.vlutst b g.m va tb j) s b.core (fun t => OnlyCore s t b.core
        ∧ (∀ l, l < 16 → (c.m g.m).getLsbD l = true → (t.dev.core b.core).lut tb (16 * j + l) = BitVec.ofNat 16 (c.v va l).toNat)
        ∧ (∀ n q, n < 256 → q < 4 → (q ≠ tb.val ∨ n < 16 * j ∨ 16 * j + 16 ≤ n) → (t.dev.core b.core).lut q n = c.lut q n)
        ∧ { t.dev.core b.core with luts := c.luts } = retire s b.core (.vlutst b g.m va tb j) c (c.pc + 1) 1))
  ∧ (∀ (s : State) (b : Bun) (g : VM) (vd va vb ss : Fin 32) (f : ReqF), b.more = false →
      let c := s.dev.core b.core
      let n (l : Nat) : Nat := if f.src.val = 0 then f.shift else if f.src.val = 1 then (c.s ss).toNat % 32 else (c.v vb l).toNat % 32
      let lo : Int := if f.out.val = 0 then -128 else if f.out.val = 1 then -8 else -32768
      let q (l : Nat) : Int := rneShift (c.v va l).toInt (n l)
      let r (l : Nat) : Int := max lo (min (-lo - 1) (q l))
      (f.src ≠ 3 → f.out ≠ 3 → f.stat = false → (f.src = 0 ∨ f.shift = 0) → (f.src = 1 ∨ ss = 0) → (f.src = 2 ∨ vb = 0) → (c.reg Off.VE_SAT).toNat + 16 < 2 ^ 32 →
        Runs (.req b g vd va vb 0 ss f) s b.core (fun t => OnlyCore s t b.core
          ∧ (∀ l, l < 16 → (t.dev.core b.core).v vd l = if (c.m g.m).getLsbD l then BitVec.ofInt 32 (r l) else masked g (c.v vd l))
          ∧ ((t.dev.core b.core).reg Off.VE_SAT).toNat = (c.reg Off.VE_SAT).toNat + ((List.range 16).filter (fun l => (c.m g.m).getLsbD l && q l != r l)).length
          ∧ (t.dev.core b.core).sregs = c.sregs ∧ (t.dev.core b.core).mem = c.mem ∧ (t.dev.core b.core).pc = c.pc + 1))
      ∧ (∀ vc : Fin 32, (f.src = 3 ∨ f.out = 3 ∨ (f.stat = true ∧ 8 ≤ vc.val) ∨ (f.stat = false ∧ vc ≠ 0)
            ∨ (f.src ≠ 0 ∧ f.shift ≠ 0) ∨ (f.src ≠ 1 ∧ ss ≠ 0) ∨ (f.src ≠ 2 ∧ vb ≠ 0)) →
          Runs (.req b g vd va vb vc ss f) s b.core (fun t => (t.dev.core b.core).state = .stopped
            ∧ (t.dev.core b.core).fld Off.CORE_CAUSE Fl.CORE_CAUSE_CAUSE = 0x01 ∧ (t.dev.core b.core).fld Off.CORE_CAUSE Fl.CORE_CAUSE_SLOT = 2)))

namespace Sys2Proof.Claims

/-- The bytes of an element of width code `w`: 1, 2 or 4 (R121). -/
def width (w : Fin 4) : Nat := if w = 0 then 1 else if w = 1 then 2 else 4

/-- An element of `n` bytes at an address that the core can read without a fault or a count: in one memory, aligned, powered, without errors. -/
structure Readable (c : Core) (a : Int) (n : Nat) : Prop where
  nonneg : 0 ≤ a
  mem : inMem a.toNat n = true
  aligned : a.toNat % n = 0
  on : ∀ j, c.isOn j = true
  clean : c.ue = []
  sound : c.ce = []

/-- An element extended to 32 bits (R121). -/
def widen (w : Fin 4) (zx : Bool) (v : Nat) : Word :=
  if zx then BitVec.ofNat 32 v
  else BitVec.ofInt 32 (if v < 2 ^ (8 * width w - 1) then (v : Int) else (v : Int) - (2 : Int) ^ (8 * width w))

end Sys2Proof.Claims

/-- R121, R123–R125, R128, R177: the strided, indexed and accumulator loads give every enabled lane the element its address shows, extended as asked, and masked lanes follow M and Z; the stores write the low bytes of the one
enabled lane at its address, into powered banks, and every byte outside the stored elements stays; with more enabled lanes the same holds of all bytes outside their elements. -/
def Obligations.VectorMemory : Prop :=
  (∀ (s : State) (b : Bun) (g : VM) (vd ss vb vc : Fin 32) (w : Fin 4) (zx : Bool) (imm : Fin 1024), b.more = false →
      let c := s.dev.core b.core
      let at' (l : Nat) : Int := (c.s ss).toNat + (l / 4 : Nat) * (c.s vb).toInt + (l % 4 : Nat) * (c.s vc).toInt
      let ix (l : Nat) : Int := (c.s ss).toNat + (c.v vb l).toNat * width w
      let tile : Nat := (c.s ss).toNat + 64 * imm.val
      let acc (l : Nat) : Nat := tile + 16 * (l / 4) + 4 * (l % 4)
      let kept (t : State) : Prop := OnlyCore s t b.core ∧ (t.dev.core b.core).sregs = c.sregs ∧ (t.dev.core b.core).mregs = c.mregs
        ∧ (t.dev.core b.core).mem = c.mem ∧ (t.dev.core b.core).gb = c.gb ∧ (t.dev.core b.core).pc = c.pc + 1
      (w ≠ 3 → (c.reg Off.VE_BANK_EXTRA).toNat + 64 < 2 ^ 32 → (∀ l, l < 16 → (c.m g.m).getLsbD l = true → Readable c (at' l) (width w)) →
        Runs (.vld b g vd ss vb vc w zx) s b.core (fun t => kept t ∧ ∀ l, l < 16 → (t.dev.core b.core).v vd l =
          if (c.m g.m).getLsbD l then widen w zx (leNat (c.seeN (at' l).toNat (width w))) else masked g (c.v vd l)))
      ∧ (w ≠ 3 → (c.reg Off.VE_BANK_EXTRA).toNat + 64 < 2 ^ 32 → (∀ l, l < 16 → (c.m g.m).getLsbD l = true → Readable c (ix l) (width w)) →
        Runs (.vldx b g vd ss vb w zx) s b.core (fun t => kept t ∧ ∀ l, l < 16 → (t.dev.core b.core).v vd l =
          if (c.m g.m).getLsbD l then widen w zx (leNat (c.seeN (ix l).toNat (width w))) else masked g (c.v vd l)))
      ∧ (0x800000 ≤ tile → tile + 64 ≤ 0x810000 → tile % 64 = 0 → c.ue = [] → c.ce = [] → (c.reg Off.VE_ACC_LD).toNat + 1 < 2 ^ 32 →
        Runs (.accLd b g vd ss imm) s b.core (fun t => kept t ∧ (∀ l, l < 16 → (t.dev.core b.core).v vd l =
          if (c.m g.m).getLsbD l then c.seeWord (acc l) else masked g (c.v vd l))
          ∧ ((t.dev.core b.core).reg Off.VE_ACC_LD).toNat = (c.reg Off.VE_ACC_LD).toNat + 1)))
  ∧ (∀ (s : State) (b : Bun) (m : Fin 8) (va ss vb vc : Fin 32) (w : Fin 4), b.more = false → w ≠ 3 →
      let c := s.dev.core b.core
      let at' (l : Nat) : Int := (c.s ss).toNat + (l / 4 : Nat) * (c.s vb).toInt + (l % 4 : Nat) * (c.s vc).toInt
      let ix (l : Nat) : Int := (c.s ss).toNat + (c.v vb l).toNat * width w
      let stores (i : Instr) (adr : Nat → Int) : Prop :=
        (∀ l, l < 16 → (c.m m).getLsbD l = true → Readable c (adr l) (width w)) → c.fld Off.SP_EXP Fl.SP_EXP_ECC_INJ = 0 →
          Runs i s b.core (fun t => OnlyCore s t b.core ∧ (t.dev.core b.core).pc = c.pc + 1 ∧ (t.dev.core b.core).vregs = c.vregs ∧ (t.dev.core b.core).sregs = c.sregs
            ∧ (∀ a : Nat, (∀ l, l < 16 → (c.m m).getLsbD l = true → (a : Int) < adr l ∨ adr l + width w ≤ a) → (t.dev.core b.core).mem.byte a = c.mem.byte a)
            ∧ (∀ l j, l < 16 → j < width w → (∀ n, n < 16 → ((c.m m).getLsbD n = true ↔ n = l)) →
                (t.dev.core b.core).mem.byte ((adr l).toNat + j) = BitVec.ofNat 8 ((c.v va l).toNat / 256 ^ j)))
      stores (.vst b m va ss vb vc w) at' ∧ stores (.vstx b m va ss vb w) ix)

/-- R64, R215–R217: RECV takes the oldest message into its buffer and its source word into RD, or answers 0x8000_0000 from an empty mailbox with NW;
RACQ takes the slot at HEAD or TAIL of a ring that allows it; RREL gives one back; on a ring that is not enabled RACQ answers 0x8000_0002. -/
def Obligations.MessagesAndRings : Prop :=
  ∀ (s : State) (b : Bun) (rd : Fin 32) (ring : Fin 16), b.more = false →
    let c := s.dev.core b.core
    let x := c.ringSt ring
    let a := (c.s rd).toNat
    (∀ m rest, c.mbx = m :: rest → memOf a = 2 → a % 16 = 0 → m.payload.length = 16 → c.isOn a = true → c.ue = [] → c.ce = [] →
        c.fld Off.SP_EXP Fl.SP_EXP_ECC_INJ = 0 → ∀ nw,
      Runs (.recv b rd nw) s b.core (fun t => OnlyCore s t b.core ∧ (t.dev.core b.core).mbx = rest ∧ (rd ≠ 0 → (t.dev.core b.core).s rd = m.sourceWord)
        ∧ (∀ j : Fin 16, (t.dev.core b.core).mem.byte (a + j) = m.payload[j]?.getD 0) ∧ (∀ j, j < a ∨ a + 16 ≤ j → (t.dev.core b.core).mem.byte j = c.mem.byte j)))
    ∧ (c.mbx = [] → Issues (.recv b rd true) s b.core (c.setS rd 0x80000000))
    ∧ (∀ dir nw, c.fld (Off.RING_CFG ring) Fl.RING_CFG_EN = 0 → Issues (.racq b rd ring dir nw) s b.core (c.setS rd 0x80000002))
    ∧ (∀ nw, c.fld (Off.RING_CFG ring) Fl.RING_CFG_EN = 1 → c.fld (Off.RING_CFG ring) Fl.RING_CFG_MODE ≤ 1 → 0 < x.filled → 0 < c.ringSlots ring → c.ringSlots ring ≤ 64 →
        x.head < 64 → x.filled < 128 → x.cheld < 127 →
      Runs (.racq b rd ring true nw) s b.core (fun t => OnlyCore s t b.core
        ∧ (t.dev.core b.core).ringSt ring = { x with head := (x.head + 1) % c.ringSlots ring, filled := x.filled - 1, cheld := x.cheld + 1 }
        ∧ (rd ≠ 0 → (t.dev.core b.core).s rd = BitVec.ofNat 32 (x.head * 256 * c.ringUnits ring))))
    ∧ (c.fld (Off.RING_CFG ring) Fl.RING_CFG_EN = 1 → c.fld (Off.RING_CFG ring) Fl.RING_CFG_MODE = 0 → 0 < x.pheld → x.filled < 127 →
      Runs (.rrel b ring false) s b.core (fun t => OnlyCore s t b.core
        ∧ (t.dev.core b.core).ringSt ring = { x with pheld := x.pheld - 1, filled := x.filled + 1 }))

/-- R60, R61, R67, R68, R71, R73, R308: QWAIT issues once the named queues are empty and complete; PPT passes without a request, is taken with one, and
stops the core with PPT_HOLD while it holds anything; TRAP stops the core; END waits as QWAIT of every queue, then marks the batch as ending and discards an unread dispatch message. -/
def Obligations.WaitsAndStops : Prop :=
  ∀ (s : State) (b : Bun) (mask : BitVec 4) (entry : Fin 1024) (code : BitVec 16), b.more = false →
    let c := s.dev.core b.core
    let free := c.fld Off.HOLD_STATUS Fl.HOLD_STATUS_SEM_HOLD = 0 ∧ c.grants = []
    (c.drained mask.toNat = true → c.gb = [] → Issues (.qwait b mask) s b.core c)
    ∧ (c.drained mask.toNat = false → (c.reg Off.STALL_WAIT).toNat + 1 < 2 ^ 32 →
        Runs (.qwait b mask) s b.core (fun t => OnlyCore s t b.core ∧ (t.dev.core b.core).pc = c.pc ∧ (t.dev.core b.core).fld Off.CORE_STATUS Fl.CORE_STATUS_WAIT = 5))
    ∧ (entry.val < s.dev.liveCount b.core → free → c.fld Off.CORE_STATUS Fl.CORE_STATUS_PREEMPT_PEND = 0 → Issues (.ppt b entry) s b.core c)
    ∧ (entry.val < s.dev.liveCount b.core → free → c.fld Off.CORE_STATUS Fl.CORE_STATUS_PREEMPT_PEND = 1 → ∀ j, c.jobOf = some j → (s.dev.job j).state = .resident →
        Runs (.ppt b entry) s b.core (fun t => (t.dev.core b.core).pptEntry = some entry.val ∧ (t.dev.core b.core).pc = c.pc + 1 ∧ (t.dev.job j).state = .saving))
    ∧ (entry.val < s.dev.liveCount b.core → ¬ free → Runs (.ppt b entry) s b.core (fun t => (t.dev.core b.core).state = .stopped
        ∧ (t.dev.core b.core).fld Off.CORE_CAUSE Fl.CORE_CAUSE_CAUSE = 0x06))
    ∧ Runs (.trap b code) s b.core (fun t => (t.dev.core b.core).state = .stopped ∧ (t.dev.core b.core).fld Off.CORE_CAUSE Fl.CORE_CAUSE_CAUSE = 0x0A
        ∧ (t.dev.core b.core).pc = c.pc ∧ (t.dev.core b.core).sregs = c.sregs ∧ (t.dev.core b.core).vregs = c.vregs)
    ∧ (c.drained 0xF = false → (c.reg Off.STALL_WAIT).toNat + 1 < 2 ^ 32 →
        Runs (.endBatch b) s b.core (fun t => OnlyCore s t b.core ∧ (t.dev.core b.core).pc = c.pc ∧ (t.dev.core b.core).fld Off.CORE_STATUS Fl.CORE_STATUS_WAIT = 5))
    ∧ (c.drained 0xF = true → Runs (.endBatch b) s b.core (fun t => OnlyCore s t b.core ∧ t.dev.core b.core = retire s b.core (.endBatch b) { c with ending := true, mbx := c.mbx.filter (fun m => m.kind != 2) } (c.pc + 1) 1))

namespace Sys2Proof.Claims

/-- The matrix commands of R57: the bundle, the operation, the operand registers, FMT, and M, N and K/4 as issued. -/
def matrixOp : Instr → Option (Bun × MOp × Nat × Nat × Nat × Nat × Nat × Nat × Nat)
  | .mm b sa sb sc fmt m1 n41 k41 => some (b, .mm, sa, sb, sc, fmt, m1, n41, k41)
  | .mmz b sa sb sc fmt m1 n41 k41 => some (b, .mmz, sa, sb, sc, fmt, m1, n41, k41)
  | .mmew b sa sb sc fmt m1 n41 k41 => some (b, .mmew, sa, sb, sc, fmt, m1, n41, k41)
  | _ => none

end Sys2Proof.Claims

/-- R51, R54–R59, R62, R87, R251, R259: a Latch operation whose hold count can follow it joins the Latch queue of 8 with its operands and XIMM, and a full queue makes the bundle wait; the X slot copies a descriptor, an overlay,
a message or a matrix command into its queue at issue; a command of reserved format, and a message to a core of another job, stop the core. -/
def Obligations.QueueIssue : Prop :=
  (∀ (i : Instr) (s : State) (b : Bun) (op : LOp) (sa sb sc : Nat) (x : BitVec 27), latchOp i = some (b, op, sa, sb, sc, x) → b.more = false →
      let c := s.dev.core b.core
      (c.lq.length < 8 →
        ¬((op = .sub ∨ op = .cas) ∧ x.toNat % 4 = 1 ∧ c.fld Off.HOLD_STATUS Fl.HOLD_STATUS_SEM_HOLD = 255) →
        ¬(op = .add ∧ x.toNat % 4 = 2 ∧ c.fld Off.HOLD_STATUS Fl.HOLD_STATUS_SEM_HOLD = 0) →
        Issues i s b.core { c with lq := c.lq ++ [⟨op, c.s sa, c.s sb, c.s sc, sc, x⟩] })
      ∧ (8 ≤ c.lq.length → (c.reg Off.STALL_QFULL).toNat + 1 < 2 ^ 32 →
          Runs i s b.core (fun t => OnlyCore s t b.core ∧ (t.dev.core b.core).pc = c.pc ∧ (t.dev.core b.core).lq = c.lq
            ∧ (t.dev.core b.core).fld Off.CORE_STATUS Fl.CORE_STATUS_WAIT = 2
            ∧ ((t.dev.core b.core).reg Off.STALL_QFULL).toNat = (c.reg Off.STALL_QFULL).toNat + 1)))
  ∧ (∀ (s : State) (b : Bun) (sa sb : Fin 32) (seg cnt1 : Fin 16), b.more = false →
      let c := s.dev.core b.core
      let a := (c.s sa).toNat
      let m := (c.s sb).toNat
      let clean := c.ue = [] ∧ c.ce = [] ∧ ∀ j, c.isOn j = true
      (c.dq.length < 16 → 0x400000 ≤ a → a + 64 ≤ 0x420000 → a % 64 = 0 → clean →
        Issues (.dma b sa) s b.core { c with dq := c.dq ++ [.desc (c.seeN a 64) (0x400000000000 + b.core.val * 0x1000000 + a)] })
      ∧ (c.dq.length < 16 → seg.val + cnt1.val < 16 →
        Issues (.ovl b sa sb seg cnt1) s b.core { c with dq := c.dq ++ [.ovl (a + m % 2 ^ 16 * 2 ^ 32) seg (cnt1.val + 1)] })
      ∧ (c.dq.length < 16 → 16 ≤ seg.val + cnt1.val →
        Runs (.ovl b sa sb seg cnt1) s b.core (fun t => (t.dev.core b.core).state = .stopped ∧ (t.dev.core b.core).fld Off.CORE_CAUSE Fl.CORE_CAUSE_CAUSE = 0x01))
      ∧ (c.sq.length < 4 → s.dev.sameJob b.core a = true → 0x400000 ≤ m → m + 16 ≤ 0x420000 → m % 16 = 0 → clean →
        Issues (.send b sa sb) s b.core { c with sq := c.sq ++ [⟨0, b.core, a, c.seeN m 16⟩] })
      ∧ (c.sq.length < 4 → s.dev.sameJob b.core a = false →
        Runs (.send b sa sb) s b.core (fun t => (t.dev.core b.core).state = .stopped ∧ (t.dev.core b.core).fld Off.CORE_CAUSE Fl.CORE_CAUSE_CAUSE = 0x08)))

/-- R54–R57, R79, R80, R87, R88: a matrix command that passes the checks of issue joins the matrix queue of 8 with M, N/4 and K/4 one above their fields; FMT 5
and above stops the core with ILLEGAL_OP. -/
def Obligations.MatrixIssue : Prop :=
  ∀ (i : Instr) (s : State) (b : Bun) (op : MOp) (sa sb sc fmt m1 n41 k41 : Nat), matrixOp i = some (b, op, sa, sb, sc, fmt, m1, n41, k41) → b.more = false →
    let c := s.dev.core b.core
    let m : MCmd := ⟨op, fmt, m1 + 1, n41 + 1, k41 + 1, (c.s sa).toNat, (c.s sb).toNat, (c.s sc).toNat⟩
    c.mq.length < 8 →
      (fmt < 5 → (op = .mmew → fmt = 0 ∧ k41 = 0) → m.sc ≤ 255 → m.sc + m.nb ≤ 256 * (if m1 < 4 then 4 else if m1 < 8 then 2 else 1) →
        m.sa + m.weightLen ≤ 0x40000 → 0 < m.weightLen → m.sa % (if op = .mmew then 4 else if fmt = 2 then 8 else if fmt = 4 then 32 else 16) = 0 → 0x400000 ≤ m.sb → m.sb + m.actLen ≤ 0x420000 → m.sb % 64 = 0 →
        Issues i s b.core { c with mq := c.mq ++ [m] })
      ∧ (5 ≤ fmt → Runs i s b.core (fun t => (t.dev.core b.core).state = .stopped
          ∧ (t.dev.core b.core).fld Off.CORE_CAUSE Fl.CORE_CAUSE_CAUSE = 0x01 ∧ (t.dev.core b.core).fld Off.CORE_CAUSE Fl.CORE_CAUSE_SLOT = 3))

namespace Sys2Proof.Claims

/-- The latency of a scalar result in cycles (R41). -/
def latency : Instr → Nat
  | .mul _ _ _ _ => 3
  | .mulh _ _ _ _ => 3
  | _ => 1

end Sys2Proof.Claims

/-- R37–R42, R47, R48: a slot that later slots follow changes nothing until the bundle's last slot; then all take effect together, each reading the core before the bundle. A register with a pending write holds the
bundle; a result is pending for its latency. A word that is no encoding stops the core with ILLEGAL_OP, a PC past bundle 4095 with PC_RANGE. -/
def Obligations.SlotsReadTheCoreBefore : Prop :=
  (∀ (i : Instr) (s : State) (b : Bun) (rd w : Nat) (f : Core → Word), scalarResult i = some (b, rd, f) → b.more = true → Open s.dev b.core →
      (s.dev.core b.core).fetch = .bundle w → spells w 1 [i] = true → emptySlots w 2 4 = false →
      Gives i s (fun t => t.pending = s.pending ∧ t.bolt = s.bolt ∧ t.dev.cores = s.dev.cores ∧ t.dev.stage b.core = [i]
        ∧ { t.dev with stages := s.dev.stages } = s.dev ∧ ∀ j, j ≠ b.core.val → t.dev.stage j = s.dev.stage j))
  ∧ (∀ (i i' : Instr) (s : State) (b b' : Bun) (rd w vd : Nat) (f : Core → Word) (g : VM) (h : Core → Nat → Word), scalarResult i = some (b, rd, f) →
      laneResult i' = some (b', g, vd, h) → b'.core = b.core → b'.more = false → Open { s.dev with stages := [] } b.core → s.dev.stage b.core = [i] →
      (s.dev.core b.core).fetch = .bundle w → spells w 1 [i, i'] = true → Ready s.dev b.core i → Ready s.dev b.core i' →
      let c := s.dev.core b.core
      Gives i' s (fun t => OnlyCore s t b.core ∧ (t.dev.core b.core).pc = c.pc + 1
        ∧ (∀ r, (t.dev.core b.core).s r = if r = rd ∧ rd ≠ 0 then f c else c.s r)
        ∧ (∀ r l, l < 16 → (t.dev.core b.core).v r l = if r ≠ vd then c.v r l else if (c.m g.m).getLsbD l then h c l else masked g (c.v vd l))))
  ∧ (∀ (i : Instr) (s : State) (b : Bun) (rd w : Nat) (f : Core → Word), scalarResult i = some (b, rd, f) → b.more = false → Open s.dev b.core →
      (s.dev.core b.core).fetch = .bundle w → spells w 1 [i] = true → ¬ Ready s.dev b.core i → Waits i s b.core 1 Off.STALL_DEP)
  ∧ (∀ (i : Instr) (s : State) (b : Bun) (rd : Nat) (f : Core → Word), scalarResult i = some (b, rd, f) → b.more = false → rd ≠ 0 → CanIssue s.dev b.core i →
      Gives i s (fun t => ∀ x, s.dev.cycles b.core < x → (t.dev.core b.core).pendingAt x rd = decide (x < s.dev.cycles b.core + latency i)))
  ∧ (∀ (i : Instr) (s : State) (c : Code), slotCode i = some c → Open s.dev c.bun.core →
      (∀ slot, (s.dev.core c.bun.core).fetch = .illegal slot → slot < 4 → Stops i s c.bun.core 0x01 slot)
      ∧ ((s.dev.core c.bun.core).pc = 4096 → Stops i s c.bun.core 0x03 0)
      ∧ ((s.dev.core c.bun.core).fetch = .invalid → Waits i s c.bun.core 6 Off.STALL_FETCH))

/-! ### Cores, rings, transfers, memory and Latch units between bundles -/

namespace Sys2Proof.Claims

open Sys2Proof Sys2Proof.Machine

/-- The command leaves the state as it is. -/
def Stays (i : Instr) (s : State) : Prop := exec i s = .next s

/-- A counter of the device `n` higher. -/
def up (d : Dev) (o n : Nat) : Dev := d.setReg o (wd ((d.reg o).toNat + n))

/-- A counter of a core `n` higher. -/
def upCore (c : Core) (o n : Nat) : Core := c.setReg o (wd ((c.reg o).toNat + n))

/-- A counter of the device that `n` more does not wrap. -/
def below (d : Dev) (o n : Nat) : Prop := (d.reg o).toNat + n < 2 ^ 32

/-- A record whose source sends to the telemetry block: it is the last of those waiting there. -/
def Recorded (d : Dev) (src cls code : Nat) : Prop := ∃ r q, d.waiting src = q ++ [r] ∧ r.cls.toNat = cls ∧ r.code.toNat = code

/-- A DMA transfer that is a plain one: no shift blocks, no grant ahead, no ring operation, no SIGNAL. -/
structure PlainXfer (x : Desc) : Prop where
  sb : x.sb = false
  grantOnly : x.grantOnly = false
  useGrant : x.useGrant = false
  ringEn : x.ringEn = false
  sigOp : x.sigOp = 0
  perHop : x.sigPerHop = false

/-- No error is to be injected into the mesh (MESH_EXP). -/
def Calm (d : Dev) : Prop := ∀ side : Fin 2, d.fld ((Block.mesh side).base + Off.MESH_EXP) Fl.MESH_EXP_ECC_INJ = 0

/-- The counters that packets move: those of the routers and bridges, and that of the records a source could not hold (R228, R245, R512). -/
def trafficRegs : List Nat :=
  (Block.tel.base + Off.TEL_SRC_DROPS) :: [0, 1].flatMap (fun side =>
    [Off.MESH_LINK_FLITS, Off.MESH_BR_OUT, Off.MESH_BR_IN].map (fun o => (Block.mesh side).base + o))

/-- From `d` to `e` packets passed, and nothing else happened: their counters moved, and a counter that wrapped left its record (R228, R245). -/
structure Traffic (d e : Dev) : Prop where
  rest : { e with regs := d.regs, tel := d.tel } = d
  log : { e.tel with waiting := d.tel.waiting, last := d.tel.last } = d.tel
  records : ∀ src, src ∉ [srcMesh 0, srcMesh 1, 0x0C] → e.waiting src = d.waiting src
  others : ∀ o, o ∉ trafficRegs → e.reg o = d.reg o

/-- The command answers what `f` makes of the device after the packets of the command have passed through the mesh. -/
def GivesAfterTraffic (i : Instr) (s : State) (d : Dev) (f : Dev → Dev) : Prop := ∃ e, Traffic d e ∧ GivesDev i s (f e)

/-- A message joins a mailbox. -/
def intoMailbox (k : Nat) (m : Msg) (d : Dev) : Dev := d.setCore k { d.core k with mbx := (d.core k).mbx ++ [m] }

end Sys2Proof.Claims

/-- R61, R63, R65, R71, R325: a reset core of an ON cluster becomes IDLE; a drained core at its END parks; the last core of a started job to park ends
the job, which is LOADED with its cores IDLE; the oldest message reaches a mailbox with room, of its own core's cluster or of another, is discarded by a
target in RESET or STOPPED, and else waits; a reply writes its register and moves SEM_HOLD, and stops the core where the count would leave 0 to 255 (the
model's reading of R59 with several operations under way, log entry 9). -/
def Obligations.CoreLifeEvents : Prop :=
  ∀ (s : State) (k : Fin 512),
    let d := s.dev
    let c := d.core k
    (c.state = .reset → d.clusterOn (clusterOf k) = true → GivesDev (.coreResetDone k) s (d.setCore k { c with state := .idle }))
    ∧ (c.state ≠ .reset → Stays (.coreResetDone k) s)
    ∧ (c.state = .running → c.ending = true → c.drained 0xF = true → c.gb = [] → c.out = [] → (∀ j, c.jobOf = some j → (d.job j).started = false) →
        GivesDev (.corePark k) s (d.setCore k { c with state := .parked, ending := false }))
    ∧ (∀ j, c.state = .running → c.ending = true → c.drained 0xF = true → c.gb = [] → c.out = [] → c.jobOf = some j → (d.job j).started = true →
        (d.job j).state = .resident → (∀ q ∈ coresOf (d.job j).mask, d.holds j q = true ∧ (q ≠ k.val → (d.core q).state = .parked)) →
        Gives (.corePark k) s (fun t => t.dev.job j = { d.job j with state := .loaded, runs := 2, started := false, wants := none, request := none }
          ∧ ∀ q ∈ coresOf (d.job j).mask, (t.dev.core q).state = .idle))
    ∧ (∀ m rest, c.sq = m :: rest → c.queuesHeld = false →
        let u := d.core m.target
        let sent := d.setCore k { c with sq := rest }
        (u.state ≠ .reset → u.state ≠ .stopped → u.state ≠ .suspended → u.mbxCount [0, 3] < 12 →
          (clusterOf m.target = clusterOf k → GivesDev (.messageDeliver k) s (intoMailbox m.target m sent))
          ∧ (Calm d → GivesAfterTraffic (.messageDeliver k) s sent (intoMailbox m.target m)))
        ∧ ((u.state = .reset ∨ u.state = .stopped) → GivesDev (.messageDeliver k) s sent)
        ∧ (u.state = .suspended ∨ (u.state ≠ .reset ∧ u.state ≠ .stopped ∧ 12 ≤ u.mbxCount [0, 3]) → Stays (.messageDeliver k) s))
    ∧ (∀ r rest, c.replies = r :: rest →
        let n := (c.fld Off.HOLD_STATUS Fl.HOLD_STATUS_SEM_HOLD : Int) + r.hold
        let written := { c with replies := rest }.setS r.dest r.val
        (0 ≤ n → n ≤ 255 → GivesDev (.latchReply k) s (d.setCore k (written.setFld Off.HOLD_STATUS Fl.HOLD_STATUS_SEM_HOLD n.toNat)))
        ∧ ((n < 0 ∨ 255 < n) → c.state = .running → Gives (.latchReply k) s (fun t => (t.dev.core k).state = .stopped
            ∧ (t.dev.core k).fld Off.CORE_CAUSE Fl.CORE_CAUSE_CAUSE = 0x07 ∧ (t.dev.core k).fld Off.CORE_CAUSE Fl.CORE_CAUSE_SLOT = 3)))

/-- R52, R70, R75, R172, R175: a bundle that waited longer than STALL_LIMIT stops its core with STALL_TIMEOUT; a bundle with bad parity is reread from its
clean HBM source, and a retry that fails stops the core with IMEM_PARITY; a corrected granule is written back; the oldest line of the gather buffer is written once its age limit has come. -/
def Obligations.CoreRecoveries : Prop :=
  ∀ (s : State) (k : Fin 512),
    let d := s.dev
    let c := d.core k
    (∀ since, c.waitSince = some since → c.state = .running → d.tick - since > c.fld Off.STALL_LIMIT Fl.STALL_LIMIT_TICKS →
        Gives (.stallTimeout k) s (fun t => (t.dev.core k).state = .stopped ∧ (t.dev.core k).fld Off.CORE_CAUSE Fl.CORE_CAUSE_CAUSE = 0x09
          ∧ (t.dev.core k).fld Off.CORE_CAUSE Fl.CORE_CAUSE_SLOT = (let w := c.fld Off.CORE_STATUS Fl.CORE_STATUS_WAIT; if w = 6 then 0 else if w = 2 then 3 else 1)
          ∧ (t.dev.core k).pc = c.pc ∧ (t.dev.core k).sregs = c.sregs ∧ t.dev.hbm = d.hbm))
    ∧ (∀ since, c.waitSince = some since → d.tick - since ≤ c.fld Off.STALL_LIMIT Fl.STALL_LIMIT_TICKS → Stays (.stallTimeout k) s)
    ∧ (let seg := c.pc / 256
       let a := (c.reg (Off.OVL_SRC_LO seg)).toNat + 2 ^ 32 * (c.reg (Off.OVL_SRC_HI seg)).toNat + 16 * (c.pc - 256 * seg)
       c.issues = true → c.pc < 4096 → (c.reg Off.IMEM_VALID).getLsbD seg = true →
        (∀ side o host, targetOf a = .hbm side o → d.dmaReach k false 0 a 16 = none → d.hbmUe = [] → d.hbmCe = [] → c.out = [] →
          (c.reg Off.PARITY_REFETCH).toNat + 1 < 2 ^ 32 →
          GivesDev (.parityRefetch k false host) s (((d.setStage k []).hbmUse a).setCore k
            { upCore c Off.PARITY_REFETCH 1 with imem := c.imem.write (16 * c.pc) (d.hbm.read a 16), imemBad := c.imemBad.filter (· != c.pc) }))
        ∧ (∀ host, Gives (.parityRefetch k true host) s (fun t => (t.dev.core k).state = .stopped
            ∧ (t.dev.core k).fld Off.CORE_CAUSE Fl.CORE_CAUSE_CAUSE = 0x02 ∧ (t.dev.core k).pc = c.pc)))
    ∧ (∀ g, GivesDev (.sramCeWriteback k g) s (d.setCore k { c with ce := c.ce.filter (· != g) }))
    ∧ (∀ l rest, c.gb = l :: rest → c.out = [] → c.ue = [] → c.fld Off.SP_EXP Fl.SP_EXP_ECC_INJ = 0 → (∀ a, c.isOn a = true) → (∀ e ∈ l.bytes, e.2.isSome = true) →
        (Tab.wf none l.bytes = true) → (∀ e ∈ l.bytes, l.base ≤ e.1 ∧ e.1 < l.base + 64) → l.base % 64 = 0 →
        l.taken + c.fld Off.SP_EXP Fl.SP_EXP_GB_AGE ≤ d.cycles k → Gives (.gatherLineAgeFlush k) s (fun t => (t.dev.core k).gb = rest
          ∧ ∀ a, (t.dev.core k).mem.byte a = (match Tab.get none l.bytes a with | some x => x | none => c.mem.byte a)))

/-- R83, R89–R91, R96, R97, R101, R105–R107, R109: the unit takes the oldest queued command once the last weight tile of the one in progress has been read,
with none behind it; an MMZ of one tile leaves the four products of its row in PM, counts itself and its array cycle; in a cycle with a tile ready the array
cycle takes place or is withheld and counted as the level allows, in one without the level falls to the ceiling of its number and a command in progress at
full level stalls, and at the end of an 8-cycle step the level rises one quarter; RAMP_DIS shows 100 % during work and 0 % when idle. -/
def Obligations.MatrixUnit : Prop :=
  ∀ (s : State) (k : Fin 512),
    let d := s.dev
    let c := d.core k
    let shows (t : State) (f : Fld) : Nat := f.get (t.dev.coreReg k Off.MU_STATUS)
    let cycle (meet : Bool) : Instr := .rampStepEnd k [⟨0, false, meet⟩]
    (∀ m rest, c.mq = m :: rest → (c.mu = [] ∨ ∃ x, c.mu = [x] ∧ x.tiles ≤ c.muTile + c.muFed.length) → c.state ≠ .reset → c.queuesHeld = false → c.out = [] →
        GivesDev (.matrixCommandAccept k) s (d.setCore k { c with mq := rest, mu := c.mu ++ [m], muFill := c.muFill || c.mu.isEmpty })
        ∧ (c.muLevel ≤ 4 → Gives (.matrixCommandAccept k) s (fun t => shows t Fl.MU_STATUS_BUSY = 1 ∧ shows t Fl.MU_STATUS_PEND = c.mu.length)))
    ∧ (∀ sa sb sc rest, c.mu = ⟨.mmz, 0, 1, 1, 1, sa, sb, sc⟩ :: rest → c.muFin = [] → c.muTile = 0 → c.muSub = 0 → c.muFed = [] → c.muLines = [] →
        sc < 256 → sa % 16 = 0 → sa + 16 ≤ 0x40000 → sb % 64 = 0 → 0x400000 ≤ sb →
        sb + 64 ≤ 0x420000 → c.ue = [] → c.ce = [] → (∀ a, c.isOn a = true) → c.out = [] → c.fld Off.SP_EXP Fl.SP_EXP_ECC_INJ = 0 →
        (c.reg Off.MU_DONE).toNat + 1 < 2 ^ 32 → (c.reg Off.MU_ARRAY_CYC).toNat + 1 < 2 ^ 32 →
        let p := 0x800000 + 64 * sc
        Gives (.matrixCommandDone k 0) s (fun t => (t.dev.core k).mu = rest
          ∧ (∀ cc, cc < 4 → (t.dev.core k).bankWord (p + 4 * cc) = BitVec.ofInt 32
              (((List.range 4).map (fun j => (c.bank (sb + j)).toInt * (c.bank (sa + 4 * j + cc)).toInt)).foldl (· + ·) 0))
          ∧ (∀ a, (a < p ∨ p + 16 ≤ a) → (t.dev.core k).mem.byte a = c.mem.byte a)
          ∧ ((t.dev.core k).reg Off.MU_DONE).toNat = (c.reg Off.MU_DONE).toNat + 1
          ∧ ((t.dev.core k).reg Off.MU_ARRAY_CYC).toNat = (c.reg Off.MU_ARRAY_CYC).toNat + 1))
    ∧ (∀ x rest meet, c.mu = x :: rest → c.muFed ≠ [] → c.rampDis = false → c.muIdle = 0 → 1 ≤ c.muLevel → c.muLevel ≤ 4 →
        c.muSub + 1 < x.cycles → c.out = [] → (c.reg Off.MU_ARRAY_CYC).toNat + 1 < 2 ^ 32 → (c.reg Off.MU_RAMP_LOST).toNat + 1 < 2 ^ 32 →
        let p := c.muStep
        let n := if c.muLevel = 4 ∨ (c.muLevel = 3 ∧ p % 4 ≠ 3) ∨ (c.muLevel = 2 ∧ p % 2 = 0) ∨ (c.muLevel = 1 ∧ p % 4 = 0) then 1 else 0
        Gives (cycle meet) s (fun t => (t.dev.core k).muSub = c.muSub + n ∧ ((t.dev.core k).reg Off.MU_ARRAY_CYC).toNat = (c.reg Off.MU_ARRAY_CYC).toNat + n
          ∧ ((t.dev.core k).reg Off.MU_RAMP_LOST).toNat = (c.reg Off.MU_RAMP_LOST).toNat + (1 - n)
          ∧ (t.dev.core k).muStep = (if p < 7 then p + 1 else 0) ∧ (t.dev.core k).muLevel = (if p < 7 then c.muLevel else min 4 (c.muLevel + 1))
          ∧ (t.dev.core k).mu = c.mu ∧ (t.dev.core k).mem = c.mem))
    ∧ (∀ meet, (c.mu = [] ∨ c.muFed = []) → c.rampDis = false → c.muLevel ≤ 4 → c.out = [] → (c.reg Off.MU_STALL_FEED).toNat + 1 < 2 ^ 32 →
        let n := c.muIdle + 1
        let top := if n ≤ 40 then 4 else if n ≤ 48 then 3 else if n ≤ 56 then 2 else if n ≤ 64 then 1 else 0
        let level := min top c.muLevel
        Gives (cycle meet) s (fun t => (t.dev.core k).muIdle = min 64 n ∧ (t.dev.core k).muStep = (if c.muStep < 7 then c.muStep + 1 else 0)
          ∧ (t.dev.core k).muLevel = (if c.muStep < 7 then level else min top (level + 1)) ∧ (t.dev.core k).mem = c.mem
          ∧ ((t.dev.core k).reg Off.MU_STALL_FEED).toNat = (c.reg Off.MU_STALL_FEED).toNat + (if c.mu ≠ [] ∧ c.muFill = false ∧ c.muLevel = 4 then 1 else 0)))
    ∧ (c.rampDis = true → Fl.MU_STATUS_LEVEL.get (d.coreReg k Off.MU_STATUS) = if c.mu = [] then 0 else 4)

/-- R22, R446, R449, R451, R512, R513: the oldest waiting completion enters its CQ with its write-back when there is room; a record that arrives leaves its
source, whose station must not be bypassed, enters the log at TAIL, and overwrites the oldest of 1,024 with LOG_LOST counted. -/
def Obligations.RecordsAndCompletions : Prop :=
  ∀ (s : State),
    let d := s.dev
    let head := d.fld (Block.tel.base + Off.TEL_LOG_HEAD) Fl.TEL_LOG_HEAD_POS
    let tail := d.fld (Block.tel.base + Off.TEL_LOG_TAIL) Fl.TEL_LOG_TAIL_POS
    let logged (src : BitVec 16) (r : Record) (rest : List Record) (t : State) : Prop := t.dev.waiting src.toNat = rest
      ∧ Tab.get Record.zero t.dev.tel.log (tail % 1024) = r ∧ t.dev.fld (Block.tel.base + Off.TEL_LOG_TAIL) Fl.TEL_LOG_TAIL_POS = (tail + 1) % 2048
      ∧ (∀ n, n ≠ tail % 1024 → Tab.get Record.zero t.dev.tel.log n = Tab.get Record.zero d.tel.log n) ∧ t.dev.cores = d.cores ∧ t.dev.host = d.host
    (∀ (src : BitVec 16) r rest, d.waiting src.toNat = r :: rest → (src.toNat < 0x20 ∨ 0x40 ≤ src.toNat) → src.toNat ≠ 0x0C → (∀ f, d.ringOn f .eq = false) → d.bypassed src.toNat = false →
        (d.logCount < 1024 → Gives (.recordArrive src) s (fun t => logged src r rest t ∧ t.dev.regs = (d.setFld (Block.tel.base + Off.TEL_LOG_TAIL) Fl.TEL_LOG_TAIL_POS ((tail + 1) % 2048)).regs))
        ∧ (1024 ≤ d.logCount → below d (Block.tel.base + Off.TEL_LOG_LOST) 1 → Gives (.recordArrive src) s (fun t => logged src r rest t
            ∧ t.dev.fld (Block.tel.base + Off.TEL_LOG_HEAD) Fl.TEL_LOG_HEAD_POS = (head + 1) % 2048
            ∧ t.dev.fld (Block.tel.base + Off.TEL_STATUS) Fl.TEL_STATUS_LOST = 1
            ∧ (t.dev.reg (Block.tel.base + Off.TEL_LOG_LOST)).toNat = (d.reg (Block.tel.base + Off.TEL_LOG_LOST)).toNat + 1)))
    ∧ (∀ src, (d.waiting (BitVec.toNat src) = [] ∨ d.bypassed src.toNat = true) → Stays (.recordArrive src) s)
    ∧ (∀ (f : Fin 33) e rest, d.waitingCq f = e :: rest → d.ringOpen f .cq = true → d.bmeOff.contains f.val = false →
        d.fld (rbase f .cq + Off.X_CFG) Fl.X_CFG_IRQ_EN = 0 → (d.reg (rbase f .cq + Off.X_COUNT)).toNat + 1 < 2 ^ 32 →
        Gives (.cqEntryWrite f) s (fun t => t.dev.waitingCq f = rest ∧ t.dev.dpos f .cq = (d.dpos f .cq + 1) % (2 * d.ringN f .cq)
          ∧ (t.dev.reg (rbase f .cq + Off.X_COUNT)).toNat = (d.reg (rbase f .cq + Off.X_COUNT)).toNat + 1
          ∧ t.dev.host = (d.host.write (d.unitAddr f .cq (d.dpos f .cq)) e).write (d.reg64 (fnBase f + Off.WB_LO) (fnBase f + Off.WB_HI) + 4) (natLE 4 ((d.dpos f .cq + 1) % (2 * d.ringN f .cq)))))
    ∧ (∀ f : Fin 33, d.waitingCq f = [] → Stays (.cqEntryWrite f) s)

/-- R51, R190, R191, R194, R203, R208, R211, R212: the head of the DMA queue starts behind at most three others; a landed overlay segment is valid with its
source in OVL_SRC; a FILL unit, whose turn it is, ends at the next 256 B boundary; units land in HBM and free their tag; without a tag the unit waits; a chain
unit goes on to the next core with a tag, and lands there; a transfer with every unit landed leaves the engine and DMA_DONE counts it. -/
def Obligations.DmaTransfers : Prop :=
  ∀ (s : State) (k : Fin 512),
    let d := s.dev
    let c := d.core k
    let n := c.nextXfer + 1
    let started (t : Xfer) (rest : List DCmd) : Dev := d.setCore k { c with dq := rest, nextXfer := n, xfers := c.xfers ++ [t] }
    (∀ src seg cnt rest, c.dq = .ovl src seg cnt :: rest → c.xfers.length < 4 → c.queuesHeld = false → c.state ≠ .reset → d.contained (sideOf k) = false → src % 4 = 0 →
        let t := Xfer.new n 0 [] (Desc.parse []) (some (src, seg, cnt)) [] []
        (started t rest).dmaReach k false 0 src (4096 * cnt) = none → GivesDev (.dmaTransferStart k) s (started t rest))
    ∧ (∀ b a rest, c.dq = .desc b a :: rest → c.xfers.length < 4 → c.queuesHeld = false → c.state ≠ .reset → d.contained (sideOf k) = false → (Desc.parse b).invalid k b = none →
        (Desc.parse b).misaligned = none → PlainXfer (Desc.parse b) → (Desc.parse b).ty ≠ 4 → (∀ u ∈ c.xfers, u.id ≠ n) →
        let t := Xfer.new n a b (Desc.parse b) none [] []
        (started t rest).descRanges k (Desc.parse b) none = none →
        GivesDev (.dmaTransferStart k) s (started { t with recv := if (Desc.parse b).ty = 2 then none else remoteOf k (Desc.parse b).dst } rest))
    ∧ ((4 ≤ c.xfers.length ∨ d.contained (sideOf k) = true) → Stays (.dmaTransferStart k) s)
    ∧ (∀ t src seg cnt host bs, c.xfers.find? (fun t => t.ovl.isSome && !t.failed) = some t → t.ovl = some (src, seg, cnt) → t.piece + 1 = cnt →
        let a := src + 4096 * t.piece
        let g := seg + t.piece
        g < 16 → d.underWay k c.sentN (destNode k a) = false → d.dmaReach k false 0 a 4096 = none → d.hbmUe = [] → d.hbmCe = [] → c.out = [] → Calm d →
        (((∃ side o, targetOf a = .hbm side o) ∧ bs = d.hbm.read a 4096) ∨ (targetOf a = .host ∧ host.length = 4096 ∧ bs = host)) →
        Gives (.overlaySegmentLanded k host) s (fun u => (u.dev.core k).imem = c.imem.write (4096 * g) bs
          ∧ (u.dev.core k).reg Off.IMEM_VALID = c.reg Off.IMEM_VALID ||| wd (2 ^ g) ∧ (u.dev.core k).imemBad = c.imemBad.filter (fun b => b / 256 != g)
          ∧ (u.dev.core k).reg (Off.OVL_SRC_LO g) = lo32 a ∧ (u.dev.core k).reg (Off.OVL_SRC_HI g) = hi32 a
          ∧ (u.dev.core k).xfers.any (fun v => v.id == t.id) = false ∧ u.dev.hbm = d.hbm))
    ∧ (∀ x t, c.xfer x = some t → d.unitTurn k x = true →
        (∀ u, t.nextTags = some u → u ≠ 0 → d.noTag k = true →
          GivesDev (.dmaUnitIssue k x) s (d.setCore k { c with tagSince := c.tagSince.or (some (d.cycles k)) }))
        ∧ (t.failed = false → t.ovl = none → t.desc.grantOnly = false → t.issued = false → t.desc.sb = false → t.desc.ty = 5 →
            c.tagSince = none → d.noTag k = false →
            let a := t.desc.dst + t.off
            let m := min (t.desc.len - t.off) (256 - a % 256)
            a + m ≤ 2 ^ 48 → d.dmaReach k true t.desc.cw a m = none →
            GivesDev (.dmaUnitIssue k x) s ((d.setCore k { c with turn := x, sentN := c.sentN + 1 }).setXfer k { t.advance m with
              flights := t.flights ++ [⟨t.piece, 0, a, m, (List.range m).map (fun j => (natLE 4 t.desc.src).getD (j % 4) 0), [], 0, d.tick, 0, 0, false, c.sentN,
                (remoteOf k a).isNone || t.credit == .granted, if targetOf a = .host then d.hostAddr (d.clientOf k) a m true else none⟩] })))
    ∧ (∀ x t, c.xfer x = some t → (t.nextTags = none ∨ d.unitTurn k x = false) → Stays (.dmaUnitIssue k x) s)
    ∧ (∀ x i meet t f side o, c.xfer x = some t → t.flights[i]? = some f → f.host = 0 → f.list = false → t.failed = false → t.ovl = none → PlainXfer t.desc →
        t.desc.ty ≠ 3 → t.desc.ty ≠ 4 → t.recv = none → t.hops = [] →
        d.underWay k (if f.sent then f.seq else c.sentN) (destNode k f.dst) = false → (∀ side : Fin 2, d.contained side = false) → c.out = [] → targetOf f.dst = .hbm side o →
        d.dmaReach k true t.desc.cw f.dst f.data.length = none → Calm d → d.hbmUe = [] →
        (∀ side : Fin 2, d.fld ((Block.hbm side).base + Off.HBM_EXP) Fl.HBM_EXP_ECC_INJ = 0) → (c.reg Off.DMA_UNITS).toNat + 1 < 2 ^ 32 →
        Gives (.dmaUnitComplete k x i meet) s (fun u => u.dev.hbm = d.hbm.write f.dst f.data
          ∧ (u.dev.core k).xfer x = some { t with flights := t.flights.eraseIdx i, half := [] }
          ∧ ((u.dev.core k).reg Off.DMA_UNITS).toNat = (c.reg Off.DMA_UNITS).toNat + 1
          ∧ (u.dev.core k).mem = c.mem ∧ ∀ j, j ≠ k.val → u.dev.core j = d.core j))
    ∧ (∀ x t h a bs meet, c.xfer x = some t → t.hops[0]? = some h → h.credit = .granted → t.landed[h.forwarded + h.flying.length]? = some (a, bs) → t.failed = false →
        (c.fwdQ.take 4).contains (k.val, x, 1) = true → c.tagSince = none → d.noTag k = false →
        d.dmaReach k true t.desc.cw (coreAddr h.core (a % 2 ^ 24)) bs.length = none →
        GivesDev (.chainUnitForward k x 1 false meet) s
          ((d.setCore k { c with sentN := c.sentN + 1, fwdTags := c.fwdTags + 1 }).setXfer k (t.setHop 1 { h with flying := h.flying ++ [c.sentN] })))
    ∧ (∀ x t h n later a bs meet, c.xfer x = some t → t.hops[0]? = some h → h.flying = n :: later → t.landed[h.forwarded]? = some (a, bs) → t.failed = false →
        t.desc.sigPerHop = false → clusterOf h.core = clusterOf k → d.contained (sideOf k) = false →
        let dst := coreAddr h.core (a % 2 ^ 24)
        d.underWay k n (destNode k dst) = false →
        let all := t.issued && t.flights.isEmpty && h.forwarded + 1 == t.landed.length
        let counted := d.setXfer k { t.setHop 1 { h with forwarded := h.forwarded + 1, flying := later, signalled := all } with
            bufCores := (bufCore (dst, bs)).foldl addNum t.bufCores }
        let freed := counted.setCore k { counted.core k with fwdTags := (counted.core k).fwdTags - 1 }
        let landed := (freed.dmaLand k meet none dst bs).onCore k (fun c => c.bump Off.DMA_FWD_UNITS 1)
        let done := if all then landed.setCore k { landed.core k with fwdQ := (landed.core k).fwdQ.erase (k.val, x, 1) } else landed
        GivesDev (.chainUnitForward k x 1 true meet) s (if h.forwarded = 0 ∧ 1 < t.hops.length then
          done.setCore h.core { done.core h.core with fwdQ := (done.core h.core).fwdQ ++ [(k.val, x, 2)] } else done))
    ∧ (∀ x t, c.xfer x = some t → t.failed = false → t.ovl = none → PlainXfer t.desc → t.issued = true → t.flights = [] → t.hops = [] → t.bufCores = [] → c.out = [] →
        (c.reg Off.DMA_DONE).toNat + 1 < 2 ^ 32 →
        let e := (d.dropXfer k x).dropChain k x
        GivesDev (.dmaTransferComplete k x) s (e.setCore k (upCore (e.core k) Off.DMA_DONE 1)))

/-- R183, R186, R204, R205, R211, R222: the head request of an enabled window is granted in full when it fits, AVAIL falls by it and its transfer may write; a request that
has waited longer than its sender's STALL_LIMIT leaves the queue and its job fails. -/
def Obligations.Credits : Prop :=
  ∀ (s : State) (k : Fin 512) (w : Fin 8),
    let d := s.dev
    let c := d.core k
    (∀ r rest x, Tab.get [] c.cwq w.val = r :: rest → c.state ≠ .suspended → c.fld (Off.CW_CFG w) Fl.CW_CFG_EN = 1 → r.credits ≤ Tab.get 0 c.cwAvail w.val → r.hop = 0 →
        r.xfer ≠ 0 → r.sender ≠ k.val → (d.core r.sender).out = [] → (d.core r.sender).xfer r.xfer = some x → x.desc.grantOnly = false →
        Gives (.creditGrant k w) s (fun t => Tab.get 0 (t.dev.core k).cwAvail w.val = Tab.get 0 c.cwAvail w.val - r.credits ∧ Tab.get [] (t.dev.core k).cwq w.val = rest
          ∧ (t.dev.core r.sender).xfer r.xfer = some { x with credit := .granted } ∧ (t.dev.core k).mem = c.mem))
    ∧ (∀ r rest, Tab.get [] c.cwq w.val = r :: rest → Tab.get 0 c.cwAvail w.val < r.credits → Stays (.creditGrant k w) s)
    ∧ (∀ i r j, (Tab.get [] c.cwq w.val)[i]? = some r → d.tick - r.since > (d.core r.sender).fld Off.STALL_LIMIT Fl.STALL_LIMIT_TICKS →
        (d.core r.sender).out = [] → (d.core r.sender).jobOf = some j → (d.job j).state ≠ .free →
        Gives (.creditTimeout k w i) s (fun t => Tab.get [] (t.dev.core k).cwq w.val = (Tab.get [] c.cwq w.val).eraseIdx i ∧ (t.dev.job j).state = .failed))

/-- R21, R26, R227, R231, R232, R234, R238, R243, R245: a corrected granule is written back; the scrub reads the next unit; a refresh takes the stack's
temperature, its peak and its corrections and halves the interval above 85 °C; RFM and correctable mesh errors count; an uncorrectable mesh error, a repeated
bridge error of row 3, a repeated parity alarm and the controller's own error contain the side with their causes, and its jobs and the SHARDED ones fail. -/
def Obligations.MemoryAndMesh : Prop :=
  ∀ (s : State) (side : Fin 2),
    let d := s.dev
    let b := (Block.hbm side).base
    let m := (Block.mesh side).base
    let contained (i : Instr) (cause : Nat) : Prop := Gives i s (fun t => t.dev.contained side = true
      ∧ t.dev.fld (m + Off.MESH_STATUS) Fl.MESH_STATUS_CAUSE = cause ∧ t.dev.fld (b + Off.HBM_STATUS) Fl.HBM_STATUS_CONTAINED = 1
      ∧ (∀ j, ((coresOf (d.job j).mask).any (fun k => sideOf k == side) = true ∨ d.sharded (d.job j).plan = true) → (d.job j).state ≠ .free →
          (t.dev.job j).state = .failed))
    (∀ a, GivesDev (.hbmCeWriteback a) s { d with hbmCe := d.hbmCe.filter (· != a / 32) })
    ∧ (d.fld (b + Off.HBM_SCRUB_CFG) Fl.HBM_SCRUB_CFG_EN = 1 → d.contained side = false → d.hbmUe = [] → d.hbmCe = [] →
        d.fld (b + Off.HBM_SCRUB_POS) Fl.HBM_SCRUB_POS_UNIT + 1 < 2 ^ 26 →
        GivesDev (.patrolScrubUnit side) s (d.setReg (b + Off.HBM_SCRUB_POS) (wd (d.fld (b + Off.HBM_SCRUB_POS) Fl.HBM_SCRUB_POS_UNIT + 1))))
    ∧ (∀ (temp : BitVec 8) (od : Fin 256), below d (b + Off.HBM_ODECC) od → Gives (.refresh side temp od false) s (fun t =>
        t.dev.fld (b + Off.HBM_TEMP) Fl.HBM_TEMP_NOW = temp.toNat
        ∧ t.dev.fld (b + Off.HBM_TEMP) Fl.HBM_TEMP_PEAK = (if (BitVec.ofNat 8 (d.fld (b + Off.HBM_TEMP) Fl.HBM_TEMP_PEAK)).slt temp then temp.toNat else d.fld (b + Off.HBM_TEMP) Fl.HBM_TEMP_PEAK)
        ∧ t.dev.fld (b + Off.HBM_STATUS) Fl.HBM_STATUS_TCR_ACTIVE = (if 85 < temp.toInt ∧ d.fld (b + Off.HBM_EXP) Fl.HBM_EXP_TCR_DIS = 0 then 1 else 0)
        ∧ (t.dev.reg (b + Off.HBM_ODECC)).toNat = (d.reg (b + Off.HBM_ODECC)).toNat + od))
    ∧ (∀ temp od, d.contained side = false → contained (.refresh side temp od true) 4)
    ∧ (below d (b + Off.HBM_RFM) 1 → GivesDev (.rfm side) s (up d (b + Off.HBM_RFM) 1))
    ∧ Stays (.caParityAlarm side false) s
    ∧ (d.contained side = false → contained (.caParityAlarm side true) 7)
    ∧ (∀ r p, if meshPort r.val p.val = true then
        (below d (m + Off.MESH_CE) 1 → GivesDev (.meshFlitError side r p false) s (up d (m + Off.MESH_CE) 1))
        ∧ (d.contained side = false → contained (.meshFlitError side r p true) 2)
      else ∀ ue, Stays (.meshFlitError side r p ue) s)
    ∧ (∀ r, if 12 ≤ r.val then
        (below d (m + Off.MESH_BR_REPLAY) 1 → GivesDev (.bridgeFlitError side r false) s (up d (m + Off.MESH_BR_REPLAY) 1))
        ∧ (d.contained side = false → contained (.bridgeFlitError side r true) 6)
      else ∀ again, Stays (.bridgeFlitError side r again) s)

/-- R234, R235: a write to HBM over no uncorrectable granule and outside the stream table stores exactly its bytes, whatever pieces it is cut into, and leaves no uncorrectable granule. -/
def Obligations.HbmWriteStoresItsBytes : Prop :=
  ∀ (d : Dev) (src a : Nat) (core : Option Nat) (bs : List Byte), a + bs.length ≤ 2 * hbmSize → d.inTable a bs.length = false → d.hbmUe = [] →
    (∀ side : Fin 2, d.fld ((Block.hbm side).base + Off.HBM_EXP) Fl.HBM_EXP_ECC_INJ = 0) →
    (d.hbmWrite src core a bs).hbm = d.hbm.write a bs ∧ (d.hbmWrite src core a bs).hbmUe = [] ∧ (d.hbmWrite src core a bs).cores = d.cores
      ∧ ∀ g ∈ (d.hbmWrite src core a bs).hbmCe, g ∈ d.hbmCe

/-- R55, R60, R61, R63, R249, R253, R260, R261, R263: an LADD that passes the checks adds to its word and replies 0; a watch that reaches its expiry leaves the unit, and its
notification with status TIMEOUT waits for its core; the first notification of a core reaches a mailbox with room. -/
def Obligations.LatchEvents : Prop :=
  ∀ (s : State) (cl : Fin 32),
    let d := s.dev
    let l := d.lu cl
    let b := (Block.latch cl).base
    (∀ (k : Fin 512) a x y dest rest, (d.core k).lq = ⟨.add, BitVec.ofNat 32 (cl * 4096 + a), x, y, dest, 0⟩ :: rest → a < 4096 → (d.core k).queuesHeld = false → d.reachable cl = true → l.ue = [] →
        (l.word a).kind = 0 → (l.word a).owned = false → l.watches = [] → d.fwdOf cl a = none → Calm d → (l.val a).toNat + x.toNat < 2 ^ 32 → below d (b + Off.LU_OPS) 1 →
        Gives (.latchOpApply cl (some k)) s (fun t => (t.dev.lu cl).word a = { l.word a with value := l.val a + x }
          ∧ (∀ w, w ≠ a → (t.dev.lu cl).word w = l.word w)
          ∧ t.dev.core k = { d.core k with lq := rest, replies := (d.core k).replies ++ [⟨dest, 0, 0⟩] }
          ∧ (t.dev.reg (b + Off.LU_OPS)).toNat = (d.reg (b + Off.LU_OPS)).toNat + 1 ∧ ∀ q, q ≠ cl.val → t.dev.lu q = d.lu q))
    ∧ (l.inbox = [] → Stays (.latchOpApply cl none) s)
    ∧ (∀ i w, l.watches[i]? = some w → w.expires ≤ d.tick → w.batch = none → w.core ≠ 0x200 → below d (b + Off.LU_TIMEOUTS) 1 →
        Gives (.watchTimeout cl i) s (fun t => (t.dev.lu cl).watches = l.watches.eraseIdx i
          ∧ (t.dev.lu cl).waiting = l.waiting ++ [⟨w.core, w.job, natLE 2 1 ++ natLE 2 (w.cookie % 256) ++ natLE 4 (l.val w.word).toNat ++ natLE 4 (cl * 4096 + w.word)
              ++ natLE 4 (if w.cond = 4 then (l.val (w.word + 1)).toNat else 0), true⟩]
          ∧ (t.dev.lu cl).words = l.words))
    ∧ (∀ i w, l.watches[i]? = some w → d.tick < w.expires → Stays (.watchTimeout cl i) s)
    ∧ (∀ i n, l.waiting[i]? = some n → (∀ m ∈ l.waiting.take i, m.core ≠ n.core) → (d.core n.core).state = .running → (d.core n.core).mbxCount [1] < 3 →
        (d.job n.job).state ≠ .suspended → (d.job n.job).state ≠ .restoring →
        let gone := d.setLu cl { l with waiting := l.waiting.eraseIdx i }
        let into := intoMailbox n.core ⟨1, 0x3FF, n.core, n.payload⟩
        (clusterOf n.core = cl → GivesDev (.notificationDeliver cl i) s (into gone))
        ∧ (Calm d → GivesAfterTraffic (.notificationDeliver cl i) s gone into))

/-! ### Streams, jobs, batches, mode epochs -/

/-- R283, R517: acknowledged input advances IN_WR within its ring; a stream reset zeroes the context and nothing else of HBM, and the stream is IDLE, UNMIRRORED where it was mirrored. -/
def Obligations.StreamEvents : Prop :=
  ∀ (s : State) (i : Fin 1024),
    let d := s.dev
    let x := d.stream i
    (∀ n, x.state ≠ 0 → x.mirror ≠ 3 → GivesDev (.inputWriteAck i n) s (d.setStream i
        { x with inWr := (x.inWr + min n x.unacked) % (2 * (x.inChunks * x.chunkBytes)), unacked := x.unacked - min n x.unacked }))
    ∧ (∀ c, x.resetting = some c → x.release = false → d.contained x.side = false → Gives (.streamResetDone i) s (fun t =>
        t.dev.stream i = { x with state := 1, resetting := none, mirror := (if x.mirror = 1 ∨ x.mirror = 2 then 2 else x.mirror), whole := x.whole || decide (x.mirror = 1 ∨ x.mirror = 2) }
        ∧ (∀ j, j ≠ i.val → t.dev.stream j = d.stream j)
        ∧ (∀ a, t.dev.hbm.byte a = if x.ctxPtr ≤ a ∧ a < x.ctxPtr + x.ctxSize then 0 else d.hbm.byte a)))
    ∧ ((x.resetting = none ∨ d.contained x.side = true) → Stays (.streamResetDone i) s)

/-- R68, R304, R305, R307, R312, R313, R315, R320: a LOADED job that may take its cores is placed on an IDLE core of its patch, zeroed and PARKED; a request reaches the running cores of its
cluster; a core past FORCE_LIMIT is stopped for its save and the job is SAVING; each core whose save can end is SUSPENDED with its image,
and with the last one the job is; a restore loads every image and the slots' bytes, then the cores resume or are PARKED; a BE holder past BE_SLICE is asked to leave for a waiting BE job. -/
def Obligations.JobEvents : Prop :=
  ∀ (s : State) (j : Fin 256),
    let d := s.dev
    let x := d.job j
    let sch := Block.sch.base
    (∀ (k : Fin 512) p, d.plan x.plan = some p → x.state = .loaded → inPatch x.mask k = true → (d.core k).state = .idle → (d.core k).jobOf = none → d.mayTake j = true →
        d.clusterOn (clusterOf k) = true → d.bypassed (srcSeq (clusterOf k)) = false → p.overlays = [] → (∃ q ∈ coresOf x.mask, q ≠ k.val ∧ d.holds j q = false) →
        below d ((Block.seq (clusterOf k)).base + Off.CS_PLACEMENTS) 1 →
        Gives (.jobPlacement k j) s (fun t => (t.dev.core k).state = .parked ∧ (t.dev.core k).jobOf = some j.val ∧ (t.dev.core k).mem = []
          ∧ (t.dev.core k).reg Off.SP_GATE = wd (p.field 52 1 % 64) ∧ t.dev.job j = x ∧ (∀ q, q ≠ k.val → t.dev.core q = d.core q)
          ∧ (t.dev.reg ((Block.seq (clusterOf k)).base + Off.CS_PLACEMENTS)).toNat = (d.reg ((Block.seq (clusterOf k)).base + Off.CS_PLACEMENTS)).toNat + 1))
    ∧ (∀ (cl : Fin 32), x.request.isSome = true → x.state = .resident → d.bypassed (srcSeq cl) = false → Gives (.preemptRequest cl j) s (fun t => ∀ q, t.dev.core q =
        if q ∈ coresOf x.mask ∧ clusterOf q = cl.val ∧ d.holds j q = true ∧ (d.core q).state = .running ∧ (d.core q).pptEntry = none
        then (d.core q).setFld Off.CORE_STATUS Fl.CORE_STATUS_PREEMPT_PEND 1 else d.core q))
    ∧ (∀ cl : Fin 32, (x.request = none ∨ d.bypassed (srcSeq cl) = true) → Stays (.preemptRequest cl j) s)
    ∧ (∀ (k : Fin 512) since, (d.core k).jobOf = some j.val → x.request = some since → x.state = .resident → (d.core k).state = .running → (d.core k).pptEntry = none → (d.core k).gb = [] → (∀ q, (d.core q).out = []) →
        d.fld (sch + Off.SCH_EXP2) Fl.SCH_EXP2_FORCE_LIMIT ≤ d.tick - since →
        Gives (.forcedPreempt k) s (fun t => (t.dev.core k).pptEntry.isSome = true ∧ (t.dev.core k).fld Off.CORE_STATUS Fl.CORE_STATUS_FORCED = 1
          ∧ (t.dev.job j).state = .saving ∧ (t.dev.job j).forced = true ∧ (t.dev.core k).mem = (d.core k).mem))
    ∧ (∀ p, d.plan x.plan = some p → x.state = .saving → Calm d → (∀ q, (d.core q).out = []) →
        let ready := (d.coresHolding j).filter (fun k => (d.core k).saveReady)
        (∀ k ∈ ready, d.saveBad x p k = false) →
        Gives (.saveComplete j none) s (fun t => (∀ k ∈ ready, (t.dev.core k).state = .suspended ∧ (t.dev.image k j).isSome = true)
          ∧ (∀ k ∈ d.coresHolding j, k ∉ ready → (t.dev.core k).state = (d.core k).state)
          ∧ (ready = d.coresHolding j → (t.dev.job j).state = .suspended ∧ (t.dev.job j).request = none
            ∧ (t.dev.job j).wants = (if x.parkedOut then (if d.batchUnderWay j then some (x.wants.getD d.tick) else x.wants) else some d.tick)
            ∧ ∀ k ∈ ready, (t.dev.core k).jobOf = none)))
    ∧ (x.state = .suspended → d.mayTake j = true → (∀ k ∈ coresOf x.mask, d.clusterOn (clusterOf k) = true) → Calm d → d.hbmUe = [] →
        (∀ k ∈ coresOf x.mask, ∀ im, d.image k j = some im → d.contained (x.slot k / hbmSize) = false ∧ d.hbm.read (x.slot k) 6144 = im.fixed
          ∧ d.inTable (x.slot k) (6144 + (if im.tables then 2048 else 0) + (im.parts.map (·.2)).foldl (· + ·) 0) = false) →
        Gives (.restoreStart j) s (fun t => t.dev.job j = { x with state := .restoring }
          ∧ ∀ k ∈ coresOf x.mask, ∀ im, d.image k j = some im → (t.dev.core k).state = .suspended ∧ (t.dev.core k).sregs = im.core.sregs
              ∧ (t.dev.core k).vregs = im.core.vregs ∧ (t.dev.core k).pc = im.core.pc ∧ (t.dev.core k).cyc = (d.core k).cyc
              ∧ ∀ a n, im.parts = [(a, n)] → ∀ i, i < n → (t.dev.core k).isOn (a + i) = true →
                  (t.dev.core k).mem.byte (a + i) = d.hbm.byte (x.slot k + 6144 + (if im.tables then 2048 else 0) + i)))
    ∧ (x.state = .restoring → ¬(x.started = true ∧ x.runs = 2) →
        Gives (.restoreComplete j none) s (fun t => (t.dev.job j).state = .resident ∧ (t.dev.job j).residentAt = d.tick
          ∧ ∀ k ∈ coresOf x.mask, ∀ im, d.image k j = some im → (t.dev.core k).state = (if im.parked then .parked else .running)))
    ∧ (x.state = .resident → x.runs = 1 → d.fld (sch + Off.BE_SLICE) Fl.BE_SLICE_TICKS ≤ d.tick - x.residentAt → x.request = none →
        (∃ e ∈ d.jobs, d.waits e.1 = true ∧ d.wantClass e.1 = 1 ∧ j.val ∈ d.holders e.1) →
        GivesDev (.beSliceExpiry j) s (d.setJob j { x with request := some d.tick, forcedNoted := false }))

/-- R21, R22, R284, R289, R291–R293: a running side controller makes an IDLE stream with a full chunk READY, with its deadline, and its own uncorrectable
error contains its side; a stream whose entry it finds in error becomes SUSPECT, and its H fields stay; a dispatch message starts a PARKED core at START_PC; a
batch that met advances its stream by one step and one chunk; a batch that timed out resets its job and its streams are SUSPECT. -/
def Obligations.BatchEvents : Prop :=
  ∀ (s : State),
    let d := s.dev
    (∀ side res ue bad, d.scRuns (Fin.val (n := 2) side) = false → Stays (.sideControllerTick side res ue bad) s)
    ∧ (∀ (side : Fin 2) res bad, d.scRuns side = true → Gives (.sideControllerTick side res true bad) s (fun t => t.dev.contained side = true
        ∧ t.dev.fld ((Block.mesh side).base + Off.MESH_STATUS) Fl.MESH_STATUS_CAUSE = 3))
    ∧ (∀ (side : Fin 2) res, d.scRuns side = true → d.scDone = [] → d.jobs = [] → (∀ b, b < 32 → (d.bat b).inflight = none ∧ d.batOn b = false) →
        (∀ i : Fin 1024, let x := d.stream i
          x.live = true → x.side = side.val → x.release = false → Gives (.sideControllerTick side res false (some i)) s (fun t =>
            let y := t.dev.stream i
            y.state = 4 ∧ y = { x with
              state := 4, backlog := false, inWr := y.inWr, inRd := y.inRd, unacked := 0, step := y.step, ackStep := y.ackStep, readyTick := y.readyTick, deadline := y.deadline
              resetting := y.resetting, restoring := y.restoring }))
        ∧ Gives (.sideControllerTick side res false none) s (fun t => ∀ i,
          let x := d.stream i
          let now := d.tickOf (srcSc side) % 2 ^ 32
          x.state = 1 → x.mirror ≠ 3 → x.side = side.val → x.chunkBytes ≤ x.held →
          t.dev.stream i = { x with state := 2, readyTick := now, deadline := (now + 250 * x.bound) % 2 ^ 32, backlog := d.inBacklog x }))
    ∧ (∀ (k : Fin 512) (b : Fin 32) x, (d.bat b).inflight = some x → x.placed = true → x.cores.contains k.val = true → x.sent.contains k.val = false → d.holds (d.batJob b) k = true → d.bypassed (srcSeq (clusterOf k)) = false →
        (∀ q, q ≠ b.val → q < 32 → (d.bat q).inflight = none) → (d.core k).state = .parked → x.sent.length + 1 < x.cores.length →
        let c := d.core k
        let n := x.cores.idxOf k.val
        let rows := (x.rows.drop (16 * n)).take 16
        GivesDev (.dispatchMessage k) s ((d.setCore k { c.enterRunning (c.fld Off.CORE_CTRL Fl.CORE_CTRL_START_PC) with
            mbx := c.mbx ++ [⟨2, 0x3FF, k, natLE 6 (d.listArea b x + 64 * n) ++ natLE 1 (rows.length + b2n (rows.any (fun r => r.2)) * 32 + x.cls * 64) ++ natLE 1 x.copy ++ natLE 2 n
              ++ natLE 2 x.cores.length ++ natLE 4 x.seq⟩] }).setBat b { d.bat b with inflight := some { x with sent := x.sent ++ [k.val] } }))
    ∧ (∀ (b : Fin 32) x p i payload, d.scRuns (b.val / 16) = true → d.doneStatus b = some 0 → (d.bat b).inflight = some x → d.plan (d.batPlan b) = some p → x.rows = [(i, false)] →
        let y := d.stream i
        y.be = true → y.mirror = 0 → y.release = false → (p.field 6 1).testBit 3 = false →
        Gives (.batchComplete b [⟨payload, none⟩]) s (fun t => (t.dev.bat b).inflight = none ∧ (t.dev.stream i).step = (y.step + 1) % 2 ^ 32
          ∧ (t.dev.stream i).inRd = (y.inRd + y.chunkBytes) % (2 * (y.inChunks * y.chunkBytes)) ∧ (t.dev.job (d.batJob b)).runs = 2 ∧ d.hbm = t.dev.hbm))
    ∧ (∀ (b : Fin 32) x p res, d.scRuns (b.val / 16) = true → d.doneStatus b = some 1 → (d.bat b).inflight = some x → d.plan (d.batPlan b) = some p → (d.job (d.batJob b)).state ≠ .free →
        Gives (.batchComplete b res) s (fun t => (t.dev.bat b).inflight = none ∧ (t.dev.job (d.batJob b)).state = .loaded
          ∧ ∀ r ∈ x.rows, (d.stream r.1).release = false → (t.dev.stream r.1).state = 4))
    ∧ (∀ (b : Fin 32) res, (d.scRuns (b.val / 16) = false ∨ d.doneStatus b = none) → Stays (.batchComplete b res) s)

/-- R22, R321, R323, R324: a unit of a staged change switches at its boundary and acknowledges; the last acknowledgement completes the change; a late unit rolls it back under the next epoch
number; a rollback that is not acknowledged is STUCK, the unit's side is contained, and a late acknowledgement changes nothing. -/
def Obligations.EpochEvents : Prop :=
  ∀ (s : State) (u : Fin 6) (e : Epoch), s.dev.epoch = some e →
    let d := s.dev
    let n := d.fld epo Fl.EP_STATUS_EPOCH
    (e.kind = 2 → u.val < 2 → d.scRuns u.val = true → e.pending.contains u.val = true → d.fld epo Fl.EP_STATUS_STATE = 1 →
        GivesDev (.unitBoundarySwitch u) s { (d.setFld ((Block.sc (unitSide u)).base + Off.SC_STATUS) Fl.SC_STATUS_QUIET (if u.val = 0 then e.new.1 else e.new.2)).setReg (Block.gctl.base + Off.EP_UNIT u) (wd n) with
          epoch := some { e with pending := e.pending.filter (· != u.val), acked := e.acked ++ [u.val] } })
    ∧ (e.pending.contains u.val = false → Stays (.unitBoundarySwitch u) s)
    ∧ (e.acked = [u.val] → e.pending = [] → d.fld epo Fl.EP_STATUS_STATE = 1 → d.unitBypassed u = false → Gives (.epochAck u) s (fun t => t.dev.epoch = none
        ∧ t.dev.fld epo Fl.EP_STATUS_STATE = 0 ∧ t.dev.fld epo Fl.EP_STATUS_EPOCH = n ∧ t.dev.fld epo Fl.EP_STATUS_ACKED = d.fld epo Fl.EP_STATUS_ACKED ||| 2 ^ u.val))
    ∧ ((d.fld epo Fl.EP_STATUS_STATE = 4 ∨ d.unitBypassed u = true) → Stays (.epochAck u) s)
    ∧ (d.fld epo Fl.EP_STATUS_STATE = 1 → e.pending.contains u.val = true → 25000 ≤ d.tick - e.since → e.arrived = [] → e.acked = [] →
        Gives (.epochTimeout u) s (fun t => t.dev.epoch = none ∧ t.dev.fld epo Fl.EP_STATUS_STATE = 3 ∧ t.dev.fld epo Fl.EP_STATUS_EPOCH = (n + 1) % 2 ^ 16
          ∧ t.dev.fld epo Fl.EP_STATUS_LATE = u.val))
    ∧ (d.tick - e.since < 25000 → Stays (.epochTimeout u) s ∧ Stays (.epochStuck u) s)
    ∧ (d.fld epo Fl.EP_STATUS_STATE = 2 → e.pending.contains u.val = true → 25000 ≤ d.tick - e.since → d.contained (u.val % 2) = false →
        Gives (.epochStuck u) s (fun t => t.dev.fld epo Fl.EP_STATUS_STATE = 4 ∧ t.dev.fld epo Fl.EP_STATUS_LATE = u.val ∧ t.dev.contained (u.val % 2) = true
          ∧ t.dev.fld ((Block.mesh (u.val % 2)).base + Off.MESH_STATUS) Fl.MESH_STATUS_CAUSE = 9))

/-! ### Audio and frames -/

/-- R334, R337, R346, R349–R353: a frame of a unit counts its frames from 0, and the accumulator of its BCLK goes on from the frame before; a playing slot fetches the sample at RD and moves on; an empty ring starts a fade and counts the underrun; a fade of 64 samples
ends SILENT, a ramp of 256 plays; a mute of 8,192 frames ends with a ramp. -/
def Obligations.AudioSlots : Prop :=
  ∀ (s : State) (u : Fin 16) (k : Fin 64),
    let d := s.dev
    let x := d.aslot u k
    let a := d.aunit u
    (∀ sdi, a.running = false → Stays (.portFrame u sdi) s)
    ∧ (∀ sdi, u.val < 8 → a.running = true → d.groupOf u = none → d.pacingSlot u = none → (∀ j, j < 64 → d.aslot u j = ASlot.off) →
        (∀ j, j < 64 → d.fld (ublk u + Off.SLOT_CAP j) Fl.SLOT_CAP_CAP_EN = 0) →
        let n := if a.first then 0 else (d.frameNo u + 1) % 2 ^ 48
        a.slipFrame ≠ n + 1 →
        Gives (.portFrame u sdi) s (fun t => t.dev.frameNo u = n ∧ (t.dev.aunit u).running = true ∧ (t.dev.aunit u).first = false ∧ (t.dev.aunit u).slip = 0
          ∧ (t.dev.aunit u).divEff = d.divOf u ∧ (t.dev.aunit u).wave.div = d.divOf u
          ∧ (t.dev.aunit u).wave.phase = (if a.first then 0 else (a.wave.phase + 2 * frameBits (d.reg (ublk u + Off.AP_FMT)) * a.wave.div) % 2 ^ 24)
          ∧ (∀ j, j < 64 → (t.dev.aslot u j).pb = 0 ∧ (t.dev.aslot u j).out = 0 ∧ (t.dev.aslot u j).cap = 0 ∧ (t.dev.aslot u j).buf = []) ∧ t.dev.hbm = d.hbm ∧ t.dev.streams = d.streams))
    ∧ (x.pb = 2 → 0 < d.pbFill u k → d.pbWidth u k = 4 → d.hbmUe = [] → d.hbmCe = [] →
        let b := d.pbBase u k + d.pbRd u k % d.pbCap u k * 4
        let w := d.wordW u
        d.contained (b / hbmSize) = false → d.inTable b 4 = false → Calm d →
        ∃ e, Traffic d e ∧ d.pbFetch u k 0 = ((e.hbmUse b).dropSample u k).setAslot u k { x with last := valWord w (rneShift (wd (leNat (d.hbm.read b 4))).toInt (32 - w)) })
    ∧ (x.pb = 2 → d.pbFill u k ≤ 0 → below d (ublk u + Off.AP_UNDERRUNS) 1 →
        ((d.pbFetch u k 0).aslot u k).pb = 3 ∧ ((d.pbFetch u k 0).aslot u k).pbG0 = x.pbG ∧ ((d.pbFetch u k 0).aslot u k).last = 0
          ∧ ((d.pbFetch u k 0).reg (ublk u + Off.AP_UNDERRUNS)).toNat = (d.reg (ublk u + Off.AP_UNDERRUNS)).toNat + 1)
    ∧ (8192 ≤ x.pbMute.getD 0 → Gives (.nonpcmEnd u k 1) s (fun t => (t.dev.aslot u k).pbMute = none ∧ (t.dev.aslot u k).pb = (if x.pb = 2 ∨ x.pb = 5 then 5 else x.pb)
        ∧ (t.dev.aslot u k).delay = x.delay ∧ t.dev.aunits = d.aunits))
    ∧ (8192 ≤ x.capMute.getD 0 → Gives (.nonpcmEnd u k 0) s (fun t => (t.dev.aslot u k).capMute = none ∧ (t.dev.aslot u k).cap = (if x.cap = 1 ∨ x.cap = 4 then 4 else x.cap)))
    ∧ (x.pb = 3 → 64 ≤ x.pbK → GivesDev (.fadeComplete u k 1) s (d.setAslot u k { x with pb := 4, pbG := 0 }))
    ∧ (x.cap = 2 → 64 ≤ x.capK → GivesDev (.fadeComplete u k 0) s (d.setAslot u k { x with cap := 3, capG := 0 }))
    ∧ (x.pb = 5 → 256 ≤ x.pbK → GivesDev (.rampComplete u k 1) s (d.setAslot u k { x with pb := 2, pbG := 32768 }))
    ∧ (x.cap = 4 → 256 ≤ x.capK → GivesDev (.rampComplete u k 0) s (d.setAslot u k { x with cap := 1, capG := 32768 }))
    ∧ (x.pb ≠ 3 → Stays (.fadeComplete u k 1) s) ∧ (x.pb ≠ 5 → Stays (.rampComplete u k 1) s)

/-- R333, R344, R345, R354: a unit in SLIP whose pacing slot played for 1 s between the marks enters LOOP; the loop integrates its average error within ±300 ppm; AWCLK's glitches are counted, its stop
holds over with its last mean kept, its return ends the holdover, its change sends every pacing unit to SLIP, its stability returns them to LOOP; a PLL that loses lock stops every unit. -/
def Obligations.AudioClock : Prop :=
  ∀ (s : State),
    let d := s.dev
    let st := apg + Off.APLL_STATUS
    (∀ (p : Fin 20) q k, d.pacingSlot p = some (q, k) → (d.aunit p).running = true → (d.aunit p).mode = 1 → d.loopMode q = 0 → d.rateWait = false → fsHz (d.rateOf q) ≤ (d.aunit p).inBand →
        Gives (.loopLocked p) s (fun t => t.dev.aunit p = { d.aunit p with mode := 2 } ∧ t.dev.aslots = d.aslots))
    ∧ (∀ (p : Fin 20) q k, d.pacingSlot p = some (q, k) → (d.aunit p).running = true → (d.aunit p).mode = 2 → (d.aunit p).updated + 25000 ≤ d.tick →
        let a := d.aunit p
        let b := ublk q
        let err := 256 * d.pbFill q k - ((d.fld (b + Off.AP_PACE) Fl.AP_PACE_TARGET * d.pbCap q k : Nat) : Int)
        let avg := d.fld (b + Off.AP_PACE) Fl.AP_PACE_AVG
        let hist := (err :: a.hist).take 255
        let e := rneDiv ((hist.take avg).foldl (· + ·) 0) avg
        let acc := max (-loopLim) (min loopLim (a.acc + (d.reg (b + Off.AP_KI)).toNat * e))
        GivesDev (.loopUpdate p) s (d.setAunit p { a with hist := hist, updated := d.tick, acc := acc, trim := max (-loopLim) (min loopLim ((d.reg (b + Off.AP_KP)).toNat * e + acc)) }))
    ∧ (∀ p : Fin 20, d.pacingSlot p = none → Stays (.loopUpdate p) s ∧ Stays (.loopLocked p) s)
    ∧ (d.awRef = true → below d (apg + Off.AW_GLITCHES) 1 → GivesDev .awclkGlitch s (up d (apg + Off.AW_GLITCHES) 1))
    ∧ (d.awRef = false → Stays .awclkGlitch s ∧ Stays .awclkStop s ∧ Stays .awclkRate s)
    ∧ (d.awRef = true → d.holdover = false → below d (apg + Off.AW_STOPS) 1 → Gives .awclkStop s (fun t => t.dev.holdover = true
        ∧ (t.dev.reg (apg + Off.AW_STOPS)).toNat = (d.reg (apg + Off.AW_STOPS)).toNat + 1
        ∧ t.dev.reg (apg + Off.AW_OFFSET) = Config.awMean d.tick ∧ t.dev.aunits = d.aunits))
    ∧ (d.awRef = true → d.holdover = false → d.apgView Off.AW_OFFSET = some (Config.awMean d.tick))
    ∧ (d.holdover = true → Gives .awclkRestored s (fun t => t.dev.holdover = false ∧ t.dev.reg (apg + Off.AW_OFFSET) = d.reg (apg + Off.AW_OFFSET) ∧ t.dev.aunits = d.aunits))
    ∧ (d.awRef = true → Gives .awclkRate s (fun t => t.dev.holdover = false ∧ t.dev.rateWait = true
        ∧ ∀ p, p < 20 → (d.aunit p).running = true → (d.pacingSlot p).isSome = true → t.dev.aunit p = { d.aunit p with mode := 1, inBand := 0 }))
    ∧ (d.rateWait = true → d.holdover = false → Gives .awclkStable s (fun t => t.dev.rateWait = false
        ∧ ∀ p q k, p < 20 → d.pacingSlot p = some (q, k) → (d.aunit p).running = true → d.loopMode q = 0 → t.dev.aunit p = { d.aunit p with mode := 2, acc := 0 }))
    ∧ Gives .apllUnlock s (fun t => t.dev.fld st Fl.APLL_STATUS_LOCK = 0 ∧ ∀ p, p < 16 → (t.dev.aunit p).running = false)

/-- R365–R368, R370–R372: an enable that passes its checks waits for a random access point; a random access picture that the camera admits is decoded; a decoded frame takes its number in output order and a free slot that is no
reference, and goes to the scaler, a failed one is dropped and counted; the scaler produces its oldest frame's outputs in turn; a waiting tensor is written when a slot drains and dropped when OUT_WAIT has passed. -/
def Obligations.FrameIntake : Prop :=
  ∀ (s : State),
    let d := s.dev
    let eng (e : Fin 4) (t : State) : Option Dec := Tab.get none t.dev.engines e.val
    let num (c : Nat) (t : State) : Nat := (t.dev.reg (fin + Off.CAM_FRAME c)).toNat
    (∀ c : Fin 64, (d.cam c).pendingEn = true → d.domOn (shEngine (d.camEngine c)) = true →
        (d.camReason c = 0 → Gives (.cameraRegister c) s (fun t => t.dev.camEn c = true ∧ t.dev.camState c = 1 ∧ t.dev.cam c = Cam.fresh ∧ ∀ q, q ≠ c.val → t.dev.cam q = d.cam q))
        ∧ (d.camReason c ≠ 0 → Gives (.cameraRegister c) s (fun t => t.dev.camEn c = d.camEn c ∧ t.dev.cam c = { d.cam c with pendingEn := false })))
    ∧ (∀ (e : Fin 4) (p : Pic), d.domOn (shEngine e) = true → eng e s = none → d.camEn p.cam = true → d.camEngine p.cam = e.val → p.len ≤ d.bsHeld p.cam → p.rap = true → p.listed = true →
        p.width ≤ d.camW p.cam → p.height ≤ d.camH p.cam → p.dpb ≤ d.camCount p.cam - 2 → p.codec.val = d.fld (fin + Off.CAM_CFG p.cam) Fl.CAM_CFG_CODEC →
        (p.ten = true → d.fld (fin + Off.FB_CFG p.cam) Fl.FB_CFG_TEN = 1) → d.hbmUe = [] → d.hbmCe = [] → Calm d →
        d.contained (d.bsBase p.cam / hbmSize) = false → d.contained ((d.bsBase p.cam + (d.cam p.cam).bsRd % d.bsSize p.cam) / hbmSize) = false →
        Gives (.pictureDecodeStart e [p]) s (fun t => eng e t = some ⟨p.cam, 0, p.width, p.height, p.order, d.poolBase p.cam, d.slotBytes p.cam, d.camCount p.cam,
            d.fld (fin + Off.FB_CFG p.cam) Fl.FB_CFG_TEN == 1⟩ ∧ t.dev.camState p.cam = 2
          ∧ (t.dev.cam p.cam).bsRd = ((d.cam p.cam).bsRd + p.len) % (2 * d.bsSize p.cam) ∧ Tab.get 63 t.dev.served e.val = p.cam.val))
    ∧ (∀ (e : Fin 4) x (slot : Fin 20) drops ref bytes, eng e s = some x → x.cam < 64 → x.drop = 0 → d.contained (x.pool / hbmSize) = false → (d.cam x.cam).ahead = [] →
        let a := x.pool + slot * x.slotB
        let pixels := x.width * x.height
        let kept := (d.cam x.cam).refs.filter (fun i => !(drops.map (fun (j : Fin 20) => j.val)).contains i)
        slot.val < x.slots → slot.val ∉ kept → d.slotFree a = true → num x.cam s + x.order + 1 < 2 ^ 32 → d.hbmUe = [] →
        (∀ side : Fin 2, d.fld ((Block.hbm side).base + Off.HBM_EXP) Fl.HBM_EXP_ECC_INJ = 0) →
        a + bytes.length ≤ 2 * hbmSize → d.inTable a bytes.length = false → d.contained (a / hbmSize) = false → Calm d → bytes.length = (if x.ten then pixels * 3 else pixels + pixels / 2) →
        Gives (.pictureDecodeDone e (.frame slot drops ref bytes)) s (fun t => eng e t = none ∧ num x.cam t = num x.cam s + (if x.order = 0 then 1 else 0) ∧ t.dev.hbm = d.hbm.write a bytes
          ∧ (t.dev.cam x.cam).ahead = (if x.order = 0 then [] else [x.order + 1]) ∧ (t.dev.cam x.cam).refs = kept ++ (if ref then [slot.val] else [])
          ∧ t.dev.frames = (if d.camOuts x.cam = [] then d.frames else d.frames ++ [⟨x.cam, num x.cam s + x.order + 1, a, x.width, x.height, x.ten, d.camOuts x.cam⟩])))
    ∧ (∀ (e : Fin 4) x, eng e s = some x → x.cam < 64 → x.drop = 0 → d.contained (x.pool / hbmSize) = false → (d.cam x.cam).ahead = [] → num x.cam s + 1 < 2 ^ 32 → below d (fin + Off.CAM_DROPS x.cam) 1 →
        Gives (.pictureDecodeDone e .error) s (fun t => eng e t = none ∧ num x.cam t = num x.cam s + (if x.order = 0 then 1 else 0) ∧ t.dev.frames = d.frames
          ∧ (t.dev.reg (fin + Off.CAM_DROPS x.cam)).toNat = (d.reg (fin + Off.CAM_DROPS x.cam)).toNat + 1 ∧ (d.camState x.cam = 2 → t.dev.camState x.cam = 1)))
    ∧ (∀ f rest o os, d.domOn shScaler = true → d.frames = f :: rest → f.outs = o :: os →
        let n := 8 * f.cam + o
        let left := if os = [] then rest else { f with outs := os } :: rest
        (d.fld (fin + Off.OUT_CFG n) Fl.OUT_CFG_EN = 0 → GivesDev .scalerOutputDone s { d with frames := left })
        ∧ (d.fld (fin + Off.OUT_CFG n) Fl.OUT_CFG_EN = 1 → d.hbmUe = [] → d.hbmCe = [] → d.contained (f.addr / hbmSize) = false → Calm d →
            GivesAfterTraffic .scalerOutputDone s d (fun e => { e.hbmUse f.addr with frames := left }.deliverTensor n f.num f.addr (d.tensorOf f (d.outCfg n)))))
    ∧ (∀ (n : Fin 512) x, d.tensor n = some x → d.ringUsable n x.bytes.length = true →
        ((d.core (d.outRing n).1).ringRoom (d.outRing n).2 = true → GivesDev (.scalerSlotDrained n) s ((d.setTensor n none).ringDeliver n x.num x.bytes)
          ∧ (d.fld (fin + Off.OUT_WAIT) Fl.OUT_WAIT_TICKS ≤ d.tick - x.since → GivesDev (.outWaitExpiry n) s ((d.setTensor n none).ringDeliver n x.num x.bytes)))
        ∧ ((d.core (d.outRing n).1).ringRoom (d.outRing n).2 = false → Stays (.scalerSlotDrained n) s
          ∧ (d.fld (fin + Off.OUT_WAIT) Fl.OUT_WAIT_TICKS ≤ d.tick - x.since → below d (fin + Off.OUT_DROPS n) 1 → Gives (.outWaitExpiry n) s (fun t => t.dev.tensor n = none
              ∧ (t.dev.reg (fin + Off.OUT_DROPS n)).toNat = (d.reg (fin + Off.OUT_DROPS n)).toNat + 1))))

/-! ### Casements, Panes, the mirror engine -/

namespace Sys2Proof.Claims

open Sys2Proof Sys2Proof.Machine

/-- The expected frame of a bound channel reaches an UP Pane, with no acknowledgement and no credit in its fields. -/
structure Arrives (d : Dev) (p : Fin 8) (ty ch : Nat) (h : Hdr) : Prop where
  up : d.paneUp p = true
  frames : d.panePrbs p = false
  bound : d.chanBound p ty ch = true
  next : (d.chan (d.chanKey p ty ch)).expect = h.seq.toNat
  noAck : h.ackV = false
  noCred : h.credV = false
  counted : below d (opt + Off.FRAMES_RX p) 1

/-- The frame was counted and its channel expects the next one. -/
def Accepted (d d' : Dev) (p : Fin 8) (ty ch : Nat) (h : Hdr) : Prop :=
  (d'.reg (opt + Off.FRAMES_RX p)).toNat = (d.reg (opt + Off.FRAMES_RX p)).toNat + 1
    ∧ (d'.chan (d.chanKey p ty ch)).expect = (h.seq.toNat + 1) % 65536 ∧ d'.paneUp p = true

end Sys2Proof.Claims

/-- R35, R380–R382: light begins the tuning of a DARK Casement whose Shutter is ON, and changes nothing else while it is not; a tuned one is LIT with its enabled Panes, lost light darkens it with all four; a ring that comes to its limit is recorded and takes its Pane back to LIT; a locked receiver
reaches LOCK and a lost lock leaves UP with reason 2; a HELLO is sent in ALIGN, and 10 ms without one falls back to LOCK. -/
def Obligations.LinkBringUp : Prop :=
  ∀ (s : State) (k : Fin 2) (p : Fin 8),
    let d := s.dev
    let cs := opt + Off.CASE_STATUS k
    let x := d.pane p
    (d.caseState k = 0 → d.boot.down.contains (3 + k.val) = false → d.domOn (shCase k) = true →
        Gives (.lightArrive k) s (fun t => t.dev.fld cs Fl.CASE_STATUS_LIGHT = 1 ∧ t.dev.caseState k = 1 ∧ t.dev.panes = d.panes))
    ∧ (d.domOn (shCase k) = false → GivesDev (.lightArrive k) s { d with lit := k.val :: d.lit.filter (· != k.val) }
        ∧ GivesDev (.laserLoss k) s { d with lit := d.lit.filter (· != k.val) })
    ∧ (∀ m, d.caseState k = 1 → Gives (.casementLit k m) s (fun t => t.dev.caseState k = 2 ∧ t.dev.fld cs Fl.CASE_STATUS_MARGIN = m.toNat
        ∧ ∀ q ∈ casePanes k, t.dev.paneState q = if d.paneState q = 0 ∧ d.paneEn q = true then 1 else d.paneState q))
    ∧ (∀ m, d.caseState k ≠ 1 → Stays (.casementLit k m) s)
    ∧ (d.domOn (shCase k) = true → d.fld cs Fl.CASE_STATUS_LIGHT = 1 → Gives (.laserLoss k) s (fun t => t.dev.fld cs Fl.CASE_STATUS_LIGHT = 0 ∧ t.dev.caseState k = 0
        ∧ ∀ q ∈ casePanes k, t.dev.paneState q = 0))
    ∧ (∀ (i : Fin 4) (m least : BitVec 8), d.caseState k = 2 → (d.fld (opt + Off.OPT_EXP) Fl.OPT_EXP_TUNE_HOLD).testBit k = false →
        let q := 4 * k.val + i.val
        ((2 < m.toNat ∨ (d.pane q).near = true) → GivesDev (.ringTuneStep k i m least) s
          ((d.setFld cs Fl.CASE_STATUS_MARGIN least.toNat).setPane q { d.pane q with near := decide (m.toNat ≤ 2) }))
        ∧ (m.toNat ≤ 2 → (d.pane q).near = false → d.leftNow q = false →
            (2 ≤ d.paneState q → Gives (.ringTuneStep k i m least) s (fun t => t.dev.paneState q = 1
              ∧ t.dev.caseState k = 2 ∧ t.dev.fld cs Fl.CASE_STATUS_MARGIN = least.toNat))
            ∧ (d.paneState q < 2 → (d.waiting (srcCase q)).length < 8 → Gives (.ringTuneStep k i m least) s (fun t => t.dev.paneState q = d.paneState q
              ∧ Recorded t.dev (srcCase q) kLINK 0x04))))
    ∧ (d.paneState p = 1 → GivesDev (.paneRxLock p) s ((d.setPaneState p 2).setPane p { x with good := 0, bad := 0, uncors := [], since := d.tick }))
    ∧ (d.paneState p = 4 → below d (opt + Off.DOWNS p) 1 → Gives (.receiverLockLoss p) s (fun t => t.dev.paneState p = 1
        ∧ t.dev.fld (opt + Off.PANE_STATUS p) Fl.PANE_STATUS_LAST_REASON = 2 ∧ (t.dev.reg (opt + Off.DOWNS p)).toNat = (d.reg (opt + Off.DOWNS p)).toNat + 1
        ∧ (d.isBond p = false → ∀ ty ch, ty < 16 → ch < 4096 → t.dev.chan (d.chanKey p ty ch) = Chan.fresh)))
    ∧ (d.paneState p < 2 → d.leftNow p = false → Stays (.receiverLockLoss p) s)
    ∧ (d.paneState p = 3 → x.helloAt = none → GivesDev (.helloSend p) s (d.setPane p { x with
        helloAt := some d.tick
        ctl := x.ctl ++ [natLE 1 1 ++ natLE 8 Config.deviceId.toNat ++ natLE 1 (if d.role = 0 then 3 else d.role) ++ natLE 1 0 ++ natLE 1 64 ++ natLE 1 64] }))
    ∧ (d.paneState p = 3 → x.gotHello = false → x.since + 250000 ≤ d.tick → Gives (.helloTimeout p) s (fun t => t.dev.paneState p = 2 ∧ (t.dev.pane p).since = d.tick))
    ∧ (x.gotHello = true → Stays (.helloTimeout p) s)

/-- R355, R364, R383–R390: a frame with a bad CRC counts and the eighth in a row leaves UP; a discarded frame counts in DROPS, one of an unlisted opcode too; the expected AUDIO, VIDEO and WEIGH frames reach their units, and a WEIGH frame ahead of its
place is answered by a NAK; an acknowledgement frees the frames it covers; the timers of NAK, replay and credit. -/
def Obligations.LinkFrames : Prop :=
  ∀ (s : State) (p : Fin 8) (h : Hdr),
    let d := s.dev
    let x := d.pane p
    let count (o : Nat) (t : State) (n : Nat) : Prop := (t.dev.reg (opt + o)).toNat = (d.reg (opt + o)).toNat + n
    (d.paneUp p = true → d.panePrbs p = false → x.uncors = [] → below d (opt + Off.FRAMES_RX p) 1 → below d (opt + Off.CRC_ERR p) 1 →
        Gives (.frameCrcFail p 0 0) s (fun t => count (Off.FRAMES_RX p) t 1 ∧ count (Off.CRC_ERR p) t 1 ∧ t.dev.paneState p = if x.bad < 7 then 4 else 2))
    ∧ (d.paneUp p = true → d.panePrbs p = false → below d (opt + Off.FRAMES_RX p) 1 → below d (opt + Off.DROPS p) 1 →
        Gives (.frameDiscarded p 0 none) s (fun t => count (Off.FRAMES_RX p) t 1 ∧ count (Off.DROPS p) t 1 ∧ t.dev.chans = d.chans))
    ∧ (d.receives p = true → below d (opt + Off.FRAMES_RX p) 1 → below d (opt + Off.DROPS p) 1 →
        Gives (.frameDiscarded p 0 (some (false, h))) s (fun t => count (Off.FRAMES_RX p) t 1 ∧ count (Off.DROPS p) t 1))
    ∧ (d.paneState p < 2 → Stays (.frameCrcFail p 0 0) s ∧ Stays (.frameDiscarded p 0 none) s)
    ∧ (∀ (n : BitVec 48) (f : Fin 64) v, Arrives d p tAUDIO 0 h → d.unitRuns (8 + p) = true → (d.aslot (8 + p) f).nextCap ≤ n.toNat →
        Gives (.audioFrameRx p 0 h n f [v]) s (fun t => Accepted d t.dev p tAUDIO 0 h
          ∧ Tab.get none (t.dev.aslot (8 + p) f).arrived n.toNat = some (v.setWidth 32 <<< 8) ∧ ∀ j, j ≠ f.val → (t.dev.aslot (8 + p) j).arrived = (d.aslot (8 + p) j).arrived))
    ∧ (∀ (ch : Fin 4096) bytes c, Arrives d p tVIDEO ch h → d.chanCamera p ch = some c → d.bsHeld c + bytes.length ≤ d.bsSize c → Calm d →
        Gives (.videoFrameRx p ch h bytes) s (fun t => Accepted d t.dev p tVIDEO ch h ∧ (t.dev.cam c).bsWr = ((d.cam c).bsWr + bytes.length) % (2 * d.bsSize c)
          ∧ (t.dev.cam c).refusing = false))
    ∧ (∀ (ch : Fin 4096) bytes, Arrives d p tWEIGH ch h → Gives (.weighFrameRx p ch h bytes) s (fun t => Accepted d t.dev p tWEIGH ch h
          ∧ t.dev.weighQ = d.weighQ ++ [⟨p, ch, bytes⟩] ∧ (t.dev.chan (d.chanKey p tWEIGH ch)).ackOwed = true))
    ∧ (∀ (ch : Fin 4096) bytes, d.paneUp p = true → d.panePrbs p = false → d.chanBound p tWEIGH ch = true → h.ackV = false → h.credV = false →
        let c := d.chan (d.chanKey p tWEIGH ch)
        c.expect ≠ h.seq.toNat → seqPast h.seq.toNat c.expect = true → c.nakAt = none →
        Gives (.weighFrameRx p ch h bytes) s (fun t => t.dev.weighQ = d.weighQ ∧ t.dev.chan (d.chanKey p tWEIGH ch) = { c with nakOwed := true, nakAt := some d.tick }))
    ∧ (∀ (ty : Fin 8) (ch : Fin 4096), d.paneUp p = true → d.panePrbs p = false → d.chanBound p ty ch = true → h.ackV = true → h.nak = false → h.credV = false →
        let c := d.chan (d.chanKey p ty ch)
        Gives (.idleFrameRx p ty ch h) s (fun t => (t.dev.chan (d.chanKey p ty ch)).kept = c.kept.filter (fun k => !(seqPast h.ack.toNat k.seq))
          ∧ (t.dev.chan (d.chanKey p ty ch)).expect = c.expect))
    ∧ (∀ (ty : Fin 8) (ch : Fin 4096),
        let key := d.chanKey p ty ch
        let c := d.chan key
        (∀ a, c.nakAt = some a → (a + 500 ≤ d.tick → GivesDev (.nakRepeat p ty ch) s (d.setChan key { c with nakAt := none })) ∧ (d.tick < a + 500 → Stays (.nakRepeat p ty ch) s))
        ∧ GivesDev (.replayTimeout p ty ch) s (d.setChan key { c with
            resend := (c.kept.filter (fun k => c.resend.contains k.seq || decide (k.sent + 1250 ≤ d.tick))).map (·.seq) })
        ∧ (d.paneUp p = true → (d.credited p).contains (ty.val, ch.val) = true → c.credAt + 2500 ≤ d.tick → GivesDev (.creditRefresh p ty ch) s (d.setChan key { c with credOwed := true }))
        ∧ (∀ a, c.starved = some a → c.noted = false → let last := a + d.fld (opt + Off.OPT_CREDIT_LIMIT) Fl.OPT_CREDIT_LIMIT_TICKS
            (last < d.tick → Gives (.linkCreditTimeout p ty ch) s (fun t => t.dev.chan key = { c with noted := true } ∧ t.dev.panes = d.panes))
            ∧ (d.tick ≤ last → Stays (.linkCreditTimeout p ty ch) s))
        ∧ (c.starved = none → Stays (.linkCreditTimeout p ty ch) s))

/-- R380, R383, R386, R391, R392: a HELLO in ALIGN records its sender and is answered by a HELLO_ACK; with both known the Pane is UP, and in UP another ID takes it to LOCK; a matching PEER_STATUS and a query's 2 ms
bound settle PEER_HEARD; a Pane below ALIGN sends IDLE frames, and AUDIO goes first. -/
def Obligations.LinkControl : Prop :=
  ∀ (s : State) (p : Fin 8),
    let d := s.dev
    let x := d.pane p
    let st := opt + Off.PANE_STATUS p
    let sent (t : State) : Prop := (t.dev.reg (opt + Off.FRAMES_TX p)).toNat = (d.reg (opt + Off.FRAMES_TX p)).toNat + 1
    (∀ corr (id : BitVec 64) role dual (ain aout : Byte), d.paneState p = 3 → d.panePrbs p = false → x.gotHello = false → x.acked = false → d.isBond p = false →
        Gives (.hello p corr id role dual ain aout) s (fun t => t.dev.reg64 (opt + Off.PANE_PEER_LO p) (opt + Off.PANE_PEER_HI p) = id.toNat
          ∧ t.dev.fld (opt + Off.PANE_PEER_INFO p) Fl.PANE_PEER_INFO_ROLE = role.val ∧ t.dev.fld (opt + Off.PANE_PEER_INFO p) Fl.PANE_PEER_INFO_AIN = ain.toNat
          ∧ t.dev.fld (opt + Off.PANE_PEER_INFO p) Fl.PANE_PEER_INFO_AOUT = aout.toNat ∧ t.dev.fld st Fl.PANE_STATUS_DUAL = b2n dual
          ∧ (t.dev.pane p).gotHello = true ∧ (t.dev.pane p).ctl = x.ctl ++ [natLE 1 2 ++ natLE 8 id.toNat] ∧ t.dev.paneState p = 3))
    ∧ (∀ corr (id : BitVec 64) role dual ain aout, d.paneState p = 4 → d.panePrbs p = false → d.reg64 (opt + Off.PANE_PEER_LO p) (opt + Off.PANE_PEER_HI p) ≠ id.toNat →
        Gives (.hello p corr id role dual ain aout) s (fun t => t.dev.paneState p = 2 ∧ t.dev.fld st Fl.PANE_STATUS_LAST_REASON = 3))
    ∧ (∀ corr, d.paneState p = 3 → d.panePrbs p = false → x.gotHello = true →
        Gives (.helloAck p corr Config.deviceId) s (fun t => t.dev.paneState p = 4 ∧ (t.dev.pane p).acked = true ∧ (t.dev.pane p).since = d.tick))
    ∧ (∀ h own seen a, Arrives d p tCONTROL 0 h → x.query = some a → x.nonce < 65536 →
        Gives (.peerStatus p h (BitVec.ofNat 16 x.nonce) own seen) s (fun t => Accepted d t.dev p tCONTROL 0 h ∧ (t.dev.pane p).query = none
          ∧ t.dev.fld st Fl.PANE_STATUS_QUERY_VALID = 1 ∧ t.dev.fld st Fl.PANE_STATUS_PEER_HEARD = b2n (own || seen)))
    ∧ (∀ a, x.query = some a → a + 50000 ≤ d.tick → Gives (.peerQueryTimeout p) s (fun t => (t.dev.pane p).query = none
          ∧ t.dev.fld st Fl.PANE_STATUS_QUERY_VALID = 1 ∧ t.dev.fld st Fl.PANE_STATUS_PEER_HEARD = 1))
    ∧ (x.query = none → Stays (.peerQueryTimeout p) s)
    ∧ (d.paneState p = 0 → Stays (.frameSend p) s)
    ∧ ((d.paneState p = 1 ∨ d.paneState p = 2) → d.panePrbs p = false → below d (opt + Off.FRAMES_TX p) 1 →
        Gives (.frameSend p) s (fun t => sent t ∧ t.dev.pane p = { x with tx := maelqua 7 0 ⟨false, false, false, 0, 0, 0, 0⟩ [] }))
    ∧ (∀ n, d.paneState p = 4 → d.panePrbs p = false → d.isBond p = false → x.audioAt = some n → below d (opt + Off.FRAMES_TX p) 1 →
        let c := d.chan (d.chanKey p tAUDIO 0)
        c.ackOwed = false → c.nakOwed = false → c.credOwed = false →
        Gives (.frameSend p) s (fun t => sent t ∧ (t.dev.pane p).audioAt = none ∧ (t.dev.chan (d.chanKey p tAUDIO 0)).next = (c.next + 1) % 65536
          ∧ (t.dev.pane p).tx = maelqua 1 0 ⟨false, false, false, BitVec.ofNat 16 c.next, 0, 0, 0⟩
              (natLE 6 n ++ natLE 1 0 ++ natLE 1 64 ++ (List.range 64).flatMap (fun j => natLE 3 ((d.aslot (8 + p) j).out.toNat / 2 ^ 8)))))

/-- R271, R393, R404, R405, R411–R414: what each MIRROR frame does that arrives in its place on the bond: it gathers a snapshot, applies a whole one to its image, acknowledges, sets an IMAGE word, refreshes the partner, returns an image,
marks relinquished streams, releases adopted ones; one of an unlisted KIND is counted. -/
def Obligations.MirrorFrames : Prop :=
  ∀ (s : State) (p : Fin 8) (h : Hdr) (i : Fin 1024), Arrives s.dev p tMIRROR 0 h → (s.dev.chan (s.dev.chanKey p tMIRROR 0)).window = [] →
    let d := s.dev
    let x := d.stream i
    let ok (c : Instr) (q : Dev → Prop) : Prop := Gives c s (fun t => Accepted d t.dev p tMIRROR 0 h ∧ (t.dev.chan (d.chanKey p tMIRROR 0)).ackOwed = true ∧ q t.dev)
    (∀ r (step : Word) off bs, bs.length % 4 = 0 → bs.length ≤ 224 → d.rx i = none → ok (.ctxData p h r i step off bs) (fun e => e.rx i = some ⟨step.toNat, r, [(off, bs)]⟩))
    ∧ (∀ (step : Word) off bs, d.rx i = some ⟨step.toNat, false, [(off, bs)]⟩ → off + bs.length ≤ x.ctxSize → d.contained x.side = false → x.state ≠ 0 → x.mirror = 3 → serialGE step (wd x.step) = true →
        x.ctxPtr + x.ctxSize ≤ 2 * hbmSize → d.contained ((x.ctxPtr + off) / hbmSize) = false → d.inTable (x.ctxPtr + off) bs.length = false → Calm d → d.hbmUe = [] → (∀ side : Fin 2, d.fld ((Block.hbm side).base + Off.HBM_EXP) Fl.HBM_EXP_ECC_INJ = 0) →
        ok (.ctxEnd p h i step bs.length) (fun e => e.rx i = none ∧ (e.stream i).step = (step.toNat + 1) % 2 ^ 32 ∧ e.hbm = d.hbm.write (x.ctxPtr + off) bs
          ∧ e.mir.out = d.mir.out ++ [.ack i step.toNat]))
    ∧ (∀ (step : Word), x.state ≠ 0 → x.mirror = 1 → serialGE step (wd x.ackStep) = true → ok (.ack p h [(i, step)]) (fun e => e.stream i = { x with ackStep := step.toNat }))
    ∧ (∀ (cl : Fin 32) (w : Fin 4096) (v : Word), w.val + 1 < 4096 → d.reachable cl = true → ((d.lu cl).word (w + 1)).kind = 3 → serialGE v ((d.lu cl).val (w + 1)) = true → d.fwdOf cl w = none → (d.lu cl).watches = [] → w.val + 1 ∉ (d.lu cl).ue →
        ok (.pairWord p h [⟨cl, w, v⟩]) (fun e => (e.lu cl).val (w + 1) = v ∧ ∀ j, j ≠ w.val + 1 → (e.lu cl).word j = (d.lu cl).word j))
    ∧ (∀ role alive n, d.partner ≤ 1 → ok (.heartbeat p h role alive n) (fun e => e.partner = 1 ∧ e.mir.hbSeen = d.tick))
    ∧ (d.isImage i = true → d.contained x.side = false → d.contained (x.ctxPtr / hbmSize) = false → Calm d → d.hbmUe = [] → d.hbmCe = [] → ok (.restoreReq p h i) (fun e => ∃ y ps, e.mir.out = d.mir.out ++ [.snap y]
          ∧ y = ⟨i, (x.step + 2 ^ 32 - 1) % 2 ^ 32, x.side, true, x.ctxSize, ps⟩))
    ∧ (d.isImage i = true → ok (.relinquish p h [i]) (fun e => e.stream i = { x with relinquished := true }))
    ∧ (x.state = 1 → x.mirror ≠ 3 → x.resetting = none → ok (.adoptedList p h [i]) (fun e => (e.stream i).state = 0))
    ∧ (below d (mirb + Off.MIR_REJECTS) 1 → ok (.frameDiscarded p 0 (some (true, h))) (fun e => (e.reg (mirb + Off.MIR_REJECTS)).toNat = (d.reg (mirb + Off.MIR_REJECTS)).toNat + 1))

/-- R402, R403, R406, R407, R410, R413: the oldest pending snapshot is copied into its side's staging ring and its stream is free again; a HEARTBEAT each 25,000 ticks; a partner lost after 201,000 ticks leaves its streams UNMIRRORED; an autonomous adoption is decided by the
peers' answers and asked again each second; a restore that did not come in 100 ms is given up. -/
def Obligations.MirrorEngine : Prop :=
  ∀ (s : State),
    let d := s.dev
    let m := d.mir
    (∀ i step rest, m.snapQ = (i, step) :: rest →
        let x := d.stream i
        let rs := d.snapRanges x
        let n := (rs.map (·.2)).foldl (· + ·) 0
        let room := 4096 * d.fld (mirb + Off.MIR_STAGE_SIZE x.side) Fl.MIR_STAGE_SIZE_UNITS
        let pos := Tab.get 0 m.stageAt x.side % room
        let at_ := d.reg64 (mirb + Off.MIR_STAGE_LO x.side) (mirb + Off.MIR_STAGE_HI x.side) + pos
        (x.snapPend = false → GivesDev .snapshotComplete s { d with mir := { m with snapQ := rest } })
        ∧ (x.snapPend = true → x.mirror = 0 → GivesDev .snapshotComplete s ({ d with mir := { m with snapQ := rest } }.setStream i { x with snapPend := rest.any (fun e => e.1 == i) }))
        ∧ (x.snapPend = true → (x.mirror = 1 ∨ x.mirror = 2) → d.mirOn = true → d.contained x.side = false → (∀ r ∈ rs, d.contained ((x.ctxPtr + r.1) / hbmSize) = false) → Calm d → d.hbmUe = [] → d.hbmCe = [] →
            d.stagedBytes x.side + n ≤ room →
            Gives .snapshotComplete s (fun t => t.dev.mir.snapQ = rest ∧ t.dev.stream i = { x with whole := false, snapPend := rest.any (fun e => e.1 == i) }
              ∧ Tab.get 0 t.dev.mir.stageAt x.side = (pos + n) % room ∧ (∃ parts, t.dev.mir.staged = m.staged ++ [⟨i, step, x.side, n, pos, parts⟩])
              ∧ ((∀ r ∈ rs, d.inTable (x.ctxPtr + r.1) r.2 = false) → pos + n ≤ room → at_ + n ≤ 2 * hbmSize → d.inTable at_ n = false → d.contained (at_ / hbmSize) = false →
                (∀ side : Fin 2, d.fld ((Block.hbm side).base + Off.HBM_EXP) Fl.HBM_EXP_ECC_INJ = 0) →
                t.dev.hbm = d.hbm.write at_ (rs.flatMap (fun r => d.hbm.read (x.ctxPtr + r.1) r.2))))))
    ∧ (m.snapQ = [] → Stays .snapshotComplete s)
    ∧ (d.mirOn = true → m.formed = true → m.hbSent + 25000 ≤ d.tick → GivesDev .heartbeatSend s { d with mir := { m with
        hbCount := (m.hbCount + 1) % 2 ^ 32, hbSent := d.tick, out := m.out ++ [.heartbeat ((m.hbCount + 1) % 2 ^ 32)] } })
    ∧ (d.tick < m.hbSent + 25000 → Stays .heartbeatSend s)
    ∧ (d.mirOn = true → d.partner = 1 → m.hbSeen + 201000 < d.tick → d.autoAdopt = false → Gives .partnerLost s (fun t => t.dev.partner = 2 ∧ t.dev.mir.staged = []
        ∧ ∀ i, t.dev.stream i = if (d.stream i).mirror = 1 then { d.stream i with mirror := 2 } else d.stream i))
    ∧ (d.tick ≤ m.hbSeen + 201000 → Stays .partnerLost s)
    ∧ (d.partner = 2 → d.autoAdopt = true → m.asking = true → m.queries = [] →
        ((∃ a ∈ m.answers, a = true) → Gives .autoAdoptDecision s (fun t => t.dev.mir.withheld = some d.tick ∧ t.dev.mir.asking = false ∧ t.dev.streams = d.streams))
        ∧ (m.answers ≠ [] → (∀ a ∈ m.answers, a = false) → GivesDev .autoAdoptDecision s ({ d with mir := { m with asking := false } }.adoptAll)))
    ∧ (∀ a, m.withheld = some a → d.partner = 2 → d.autoAdopt = true → a + 25000000 ≤ d.tick → Gives .autoAdoptRetry s (fun t => t.dev.mir.asking = true
        ∧ t.dev.mir.answers = [] ∧ t.dev.mir.withheld = none ∧ t.dev.mir.queries = d.dualPanes ∧ ∀ p ∈ d.dualPanes, (t.dev.pane p).query = some d.tick))
    ∧ (m.withheld = none → Stays .autoAdoptRetry s)
    ∧ (∀ (i : Fin 1024) a, (d.stream i).restoring = some a → (d.stream i).release = false → a + 2500000 ≤ d.tick →
        Gives (.restoreTimeout i) s (fun t => (t.dev.stream i).restoring = none ∧ (t.dev.stream i).state = (d.stream i).state))
    ∧ (∀ i : Fin 1024, (d.stream i).restoring = none → Stays (.restoreTimeout i) s)

/-! ### The host interface -/

namespace Sys2Proof.Claims

open Sys2Proof Sys2Proof.Machine

/-- A host write reaches a block's registers: the block answers, no lock holds it, its domain is ON, and no write waits for a domain. -/
structure Takes (d : Dev) (b : Block) : Prop where
  answers : d.answers b = true
  unlocked : d.locked b = false
  lit : ∀ n, domainFor b = some n → d.domOn n = true
  held : d.held = []

/-- Function `f` has had its turn: no long command owes it one, and no entry of its ring is known to be a FENCE (R450, R452). -/
def served (d : Dev) (f : Nat) : Dev :=
  { d with turn := (f + 1) % 33, fenced := d.fenced.filter (· != f), longs := d.longs.map (fun x => { x with owed := x.owed.filter (· != f) }) }

/-- Function `f`'s entry leaves its submission ring: its turn ends, DPOS moves on and is written back, and the entry is counted. -/
def taken (d : Dev) (f : Nat) : Dev := (((served d f).ringAdvance f .sq 1).ringCount f .sq).writeBack f .sq

/-- The FINAL of a command without a token. -/
def done (d : Dev) (f : Nat) (cid : Word) (op status detail : Nat) : Dev := d.complete f (cqEntry cid.toNat status 0 op detail 0 0 [])

/-- A long command leaves the list, with its FINAL, which follows its STEPPED where its first step is the last (R452). -/
def ended (d : Dev) (x : Long) (status detail : Nat) : Dev :=
  let e := if x.begun then d else d.complete x.fn (cqEntry x.cid 0 1 x.op 0 x.token 0 [])
  ({ e with longs := d.longs.filter (fun y => y.token != x.token) } : Dev).complete x.fn (cqEntry x.cid status 0 x.op detail x.token 0 [])

/-- Before the next step of its command every other ring that holds a command is owed a turn (R452). -/
def owes (d : Dev) (x : Long) : Dev := { d with longs := d.longs.map (fun y => if y.token = x.token then { y with owed := d.owedBy y.fn } else y) }

/-- A long command in progress takes new values. -/
def relong (d : Dev) (x y : Long) : Dev := { d with longs := d.longs.map (fun z => if z.token = x.token then y else z) }

/-- The long command is the last one begun, and the others owe function `f` no turn any more. -/
def Begun (d t : Dev) (f op arg total : Nat) (cid : Word) : Prop :=
  ∃ x, t.longs = (served d f).longs ++ [x] ∧ x.owed = [] ∧ x.fn = f ∧ x.op = op ∧ x.arg = arg ∧ x.cid = cid.toNat ∧ x.done = 0 ∧ x.total = total ∧ x.begun = false ∧ x.broken = false ∧ x.aborts = []

end Sys2Proof.Claims

/-- R448–R451, R454, R455: in its turn a function's command is taken from its ring and answered: NOP, the stream commands with the checks of ownership, PLAN_UNLOAD, ABORT, the refusals of PLAN_LOAD and FW_UPDATE; without its turn it stays; a FENCE waits
for its ring's commands in progress, and the ring has no turn meanwhile; an unknown opcode is answered BAD_OP, and a failed read of an entry stops the ring. -/
def Obligations.HostCommands : Prop :=
  ∀ (s : State) (f : Fin 33) (cid : Word),
    let d := s.dev
    let t := taken d f
    (d.hasTurn f = false → Stays (.nop f false cid) s ∧ ∀ e good, Stays (.commandTake f e good) s)
    ∧ (d.longs.any (fun x => x.fn == f.val) = true → d.hasTurn f = true → ∀ e,
        GivesDev (.nop f true cid) s { d with fenced := d.fenced.filter (· != f.val) ++ [f.val] }
        ∧ (leAt e 1 1 % 2 = 1 → GivesDev (.commandTake f e true) s { d with fenced := d.fenced.filter (· != f.val) ++ [f.val] }))
    ∧ (∀ g : Fin 33, d.longs.any (fun x => x.fn == g.val) = true → g.val ∈ d.fenced → d.takes g = false)
    ∧ (d.hasTurn f = true → below d (Block.hif.base + Off.HIF_HOST_ERR) 1 → ∀ e, GivesDev (.commandTake f e false) s
        (up ((d.setFld (rbase f .sq + Off.X_CFG) Fl.X_CFG_EN 0).setFld (rbase f .sq + Off.X_STATUS) Fl.X_STATUS_FETCH_ERR 1) (Block.hif.base + Off.HIF_HOST_ERR) 1))
    ∧ (d.hasTurn f = true → d.fld (Block.boot.base + Off.BOOT_STATUS) Fl.BOOT_STATUS_STATE ≠ 2 →
        GivesDev (.nop f false cid) s (done t f cid 0x00 0 0)
        ∧ GivesDev (.commandTake f (0x05 :: 0 :: 0 :: 0 :: natLE 4 cid.toNat ++ List.replicate 56 0) true) s (done t f cid 0x05 1 0)
        ∧ GivesDev (.commandTake f (0x00 :: 0 :: 0 :: 0 :: natLE 4 cid.toNat ++ List.replicate 56 0) true) s (done t f cid 0x00 0 0)
        ∧ (∀ (i : Fin 1024) entry z, entry.length = 64 →
            let b := entry.take 48 ++ List.replicate 16 0
            let y := Stream.ofBytes b
            let own : Bool := f.val == 0 || (y.client + 1 == f.val && (!(y.srcKind == 3 || y.srcKind == 4) || y.srcId / 256 % 32 + 1 == f.val))
            (own = false → GivesDev (.streamAdmit f false cid i entry z) s (done t f cid 0x01 3 0))
            ∧ (own = true → (t.callSide.admitStream i b z).1 = 0 → GivesDev (.streamAdmit f false cid i entry z) s (done (t.callSide.admitStream i b z).2 f cid 0x01 0 0))
            ∧ (own = true → (t.callSide.admitStream i b z).1 ≠ 0 → GivesDev (.streamAdmit f false cid i entry z) s (done (t.callSide.admitStream i b z).2 f cid 0x01 4 (t.callSide.admitStream i b z).1)))
        ∧ (∀ (i : Fin 1024) entry (a : BitVec 64), entry.length = 64 →
            let b := entry.take 48 ++ List.replicate 16 0
            let own : Bool := f.val == 0 || (d.stream i).client + 1 == f.val
            (own = false → GivesDev (.streamModify f false cid i entry) s (done t f cid 0x02 3 0) ∧ GivesDev (.streamRelease f false cid i) s (done t f cid 0x03 3 0)
              ∧ GivesDev (.streamRead f false cid i a) s (done t f cid 0x04 3 0))
            ∧ (own = true → (t.callSide.modify i b).1 = 0 → GivesDev (.streamModify f false cid i entry) s (done (t.callSide.modify i b).2 f cid 0x02 0 0))
            ∧ (own = true → (d.stream i).state = 2 → GivesDev (.streamModify f false cid i entry) s (done (t.callSide.modify i b).2 f cid 0x02 4 (t.callSide.modify i b).1) ∧ (t.callSide.modify i b).1 ≠ 0)
            ∧ (own = true → (d.stream i).state = 0 → GivesDev (.streamRelease f false cid i) s (done t.callSide f cid 0x03 4 3))
            ∧ (own = true → (d.stream i).state = 1 → (d.stream i).resetting = none → GivesDev (.streamRelease f false cid i) s (done (t.callSide.setStream i (d.stream i).freed) f cid 0x03 0 0))
            ∧ (own = true → a.toNat % 64 = 0 → d.bmeOff = [] → GivesDev (.streamRead f false cid i a) s (done { t.callSide with host := t.host.write a.toNat (d.entryView i).bytes } f cid 0x04 0 0))
            ∧ (own = true → a.toNat % 64 ≠ 0 → GivesDev (.streamRead f false cid i a) s (done t f cid 0x04 2 0)))
        ∧ (∀ (plan : BitVec 16) a len dest, (len.toNat < 4096 → GivesDev (.planLoad f false cid plan a len dest) s (done t f cid 0x10 2 0))
            ∧ (4096 ≤ len.toNat → f.val = 0 → dest.toNat + len.toNat ≤ 0x100000000 → (d.plan plan.toNat).isSome = true →
                GivesDev (.planLoad f false cid plan a len dest) s (done t f cid 0x10 10 0)))
        ∧ (∀ plan : BitVec 16, (d.plan plan.toNat = none → GivesDev (.planUnload f false cid plan) s (done t f cid 0x11 2 0))
            ∧ (∀ p, d.plan plan.toNat = some p → (∀ e ∈ d.jobs, e.2.state = .free ∨ e.2.plan ≠ plan.toNat) → (f.val = 0 ∨ p.client + 1 = f.val) →
                GivesDev (.planUnload f false cid plan) s (done { t with plans := Tab.set none t.plans plan.toNat none } f cid 0x11 0 0))
            ∧ (∀ p, d.plan plan.toNat = some p → f.val ≠ 0 → p.client + 1 ≠ f.val → GivesDev (.planUnload f false cid plan) s (done t f cid 0x11 10 0)))
        ∧ (∀ (plan : BitVec 16) (j : Fin 256) a len, d.plan plan.toNat = none → GivesDev (.adaptRound f false cid plan j a len) s (done t f cid 0x20 2 0))
        ∧ (∀ token : Word, ((∀ x ∈ d.longs, x.fn = f.val → x.token ≠ token.toNat) → GivesDev (.abort f false cid token) s (done t f cid 0x30 9 0))
            ∧ ((∃ x ∈ d.longs, x.fn = f.val ∧ x.token = token.toNat ∧ x.begun = true) → GivesDev (.abort f false cid token) s
                { t with longs := t.longs.map (fun x => if x.fn = f.val ∧ x.token = token.toNat then { x with aborts := x.aborts ++ [cid.toNat] } else x) }))
        ∧ (∀ a len (side : Fin 2), (f.val ≠ 0 → GivesDev (.fwUpdate f false cid a len) s (done t f cid 0x40 1 0) ∧ GivesDev (.scrubSweep f false cid side) s (done t f cid 0x41 1 0))
            ∧ (f.val = 0 → 0x800000 < len.toNat → GivesDev (.fwUpdate f false cid a len) s (done (t.slotErase (1 - t.bootSlot)) f cid 0x40 4 3))))

/-- R452, R454: PLAN_LOAD, ADAPT_ROUND, FW_UPDATE and SCRUB_SWEEP begin a long command with a token that is not 0 and that no other command in progress has; a sixteenth at most, and a fourth of a client. -/
def Obligations.LongCommandsBegin : Prop :=
  ∀ (s : State) (f : Fin 33) (cid : Word),
    let d := s.dev
    d.hasTurn f = true → d.fld (Block.boot.base + Off.BOOT_STATUS) Fl.BOOT_STATUS_STATE ≠ 2 →
      (d.longs.length < 16 → (f.val = 0 ∨ (d.longs.filter (fun x => x.fn == f.val)).length < 4) →
        let fresh (t : State) : Prop := ∃ x, t.dev.longs = (served d f).longs ++ [x] ∧ x.token ≠ 0 ∧ x.token < 2 ^ 32 ∧ ∀ y ∈ d.longs, y.token ≠ x.token
        (∀ (plan : BitVec 16) a len dest, 4096 ≤ len.toNat → (if f.val = 0 then dest.toNat + len.toNat ≤ 0x100000000
            else d.allotHas (f - 1) 0 dest.toNat len.toNat = true) → d.plan plan.toNat = none → (∀ x ∈ d.longs, x.op ≠ 0x10) →
            Gives (.planLoad f false cid plan a len dest) s (fun t => fresh t ∧ Begun d t.dev f 0x10 plan.toNat len.toNat cid ∧ t.dev.plans = d.plans ∧ t.dev.hbm = d.hbm))
        ∧ (∀ (plan : BitVec 16) (j : Fin 256) a len p, d.plan plan.toNat = some p → p.adaptRefusal = none → (d.job j).state = .loaded → (d.job j).plan = plan.toNat →
            (d.job j).cls = 1 → (f.val = 0 ∨ (d.job j).client + 1 = f.val) → d.batNamed j = false → (if f.val = 0 then a.toNat + len.toNat ≤ 0x100000000
            else d.allotHas (f - 1) 0 a.toNat len.toNat = true) →
            Gives (.adaptRound f false cid plan j a len) s (fun t => fresh t ∧ Begun d t.dev f 0x20 plan.toNat 100 cid
              ∧ t.dev.job j = { d.job j with started := true, wants := some d.tick }))
        ∧ (∀ a len, f.val = 0 → len.toNat ≤ 0x800000 → Gives (.fwUpdate f false cid a len) s (fun t => fresh t ∧ Begun d t.dev 0 0x40 0 len.toNat cid ∧ t.dev.flash = d.flash))
        ∧ (∀ side : Fin 2, f.val = 0 → Gives (.scrubSweep f false cid side) s (fun t => fresh t ∧ Begun d t.dev 0 0x41 0 (2 ^ 26) cid)))
      ∧ (16 ≤ d.longs.length → f.val = 0 → ∀ side : Fin 2, GivesDev (.scrubSweep f false cid side) s (done (taken d f) f cid 0x41 5 0))

/-- R164, R310, R321, R452, R453, R455, R479: a step of each long command: STEPPED after the header of a plan, its pieces in HBM with PROGRESS, its registration at the end; the image pieces in the flash and the check at the end; a sweep's units; the epoch
that ends a round; an abort, and a failed host read; no step while a ring is owed the turn between two steps. -/
def Obligations.LongCommandSteps : Prop :=
  ∀ (s : State) (i : Fin 16) (n : Nat) (data : List Byte) (good : Bool),
    (s.dev.longs[i.val]? = none → Stays (.longCommandStep i data good n) s)
    ∧ (∀ x, s.dev.longs[i.val]? = some x → x.owed.any s.dev.takes = true → Stays (.longCommandStep i data good n) s)
    ∧ (∀ x0, s.dev.longs[i.val]? = some x0 → x0.aborts = [] → x0.owed.any s.dev.takes = false →
        let d := owes s.dev x0
        let x := { x0 with owed := s.dev.owedBy x0.fn }
        let dest := leAt x.entry 20 8
        let m := min 1048576 (x.total - x.done)
        let y := { x with done := x.done + m }
        let bytes := (data ++ List.replicate m 0).take m
        let pct (z : Long) : Nat := 10 * (10 * z.done / z.total)
        let goes (e : Dev) (z : Long) : Dev := if x.pct < pct z ∧ pct z < 100 then (relong e x { z with pct := pct z }).progress x.fn (cqEntry x.cid 0 2 x.op 0 x.token (pct z) [])
          else relong e x z
        (x.op = 0x10 → below d (Block.hif.base + Off.HIF_HOST_ERR) 1 → GivesDev (.longCommandStep i data false n) s (ended (up d (Block.hif.base + Off.HIF_HOST_ERR) 1) x 8 0))
        ∧ (x.op = 0x10 → x.begun = false → headerCheck (data.take 4096) x.arg x.total ≠ 0 →
            GivesDev (.longCommandStep i data true n) s (ended d x 4 (headerCheck (data.take 4096) x.arg x.total)))
        ∧ (x.op = 0x10 → x.begun = false → headerCheck (data.take 4096) x.arg x.total = 0 → x.done = 0 →
            let off := leAt (data.take 4096) 616 4
            let count := if off + 8 ≤ 4096 then leAt (data.take 4096) off 1 else leAt data 4096 1
            (off ≠ 0 → x.total < off + 8 + 96 * count → GivesDev (.longCommandStep i data true n) s (ended d x 4 4))
            ∧ ((off = 0 ∨ off + 8 + 96 * count ≤ x.total) → GivesDev (.longCommandStep i data true n) s
                ((relong d x { x with entry := x.entry ++ data.take 4096, begun := true }).complete x.fn (cqEntry x.cid 0 1 0x10 0 x.token 0 []))))
        ∧ (x.op = 0x10 → x.begun = true → 0 < x.total → Calm d → ∃ h, (if d.contained ((dest + x.done) / hbmSize) = true then h = d
              else ∃ e, Traffic d e ∧ h = e.hbmWrite 0 none (dest + x.done) bytes) ∧
            let hd := x.entry.drop 64
            (h.liveOk hd dest y.done = false → GivesDev (.longCommandStep i data true n) s (ended h y 4 4))
            ∧ (h.liveOk hd dest y.done = true → y.done < y.total → GivesDev (.longCommandStep i data true n) s (goes h y))
            ∧ (∀ p, h.liveOk hd dest y.done = true → x.total ≤ y.done → h.planOf hd dest (if x.fn = 0 then 32 else x.fn - 1) = some p →
                GivesDev (.longCommandStep i data true n) s (ended { h with plans := Tab.set none h.plans x.arg (some p) } y 0 0)))
        ∧ (x.op = 0x20 → let j := d.job (leAt x.entry 8 1)
            (j.state = .failed → GivesDev (.longCommandStep i data true n) s (ended d x 7 j.failCls))
            ∧ (j.state ≠ .failed → x.broken = true → GivesDev (.longCommandStep i data true n) s (ended d x 7 0))
            ∧ (j.state = .loaded → x.broken = false → j.started = false → x.begun = true → d.fld (Block.gctl.base + Off.EP_STATUS) Fl.EP_STATUS_STATE = 0 →
                GivesDev (.longCommandStep i data true n) s (ended (d.epochStage 3 0 0 x.arg false) x 0 0))
            ∧ (j.started = true → j.state ≠ .failed → x.broken = false → x.begun = true → x.total = 100 → GivesDev (.longCommandStep i data true n) s (goes d { x with done := min n 99 })))
        ∧ (x.op = 0x40 → x.begun = true → x.done ≠ 0 →
            let h := d.flashWrite (0x20000 + (1 - d.bootSlot) * 0x800000 + x.done) bytes
            (y.done < x.total → GivesDev (.longCommandStep i data true n) s (goes h y))
            ∧ (x.total ≤ y.done → h.imageCheck (1 - d.bootSlot) = 0 → Gives (.longCommandStep i data true n) s (fun t => t.dev.flash = (h.nameSlot (1 - d.bootSlot)).flash
                ∧ t.dev.longs = d.longs.filter (fun z => z.token != x.token) ∧ (t.dev.reg (Block.boot.base + Off.BOOT_MARKS)).toNat.testBit 4 = false)))
        ∧ (x.op = 0x41 → x.begun = true →
            (∀ side : Fin 2, leAt x.entry 8 1 = side.val → d.contained side = false → x.done + 1 = x.total → GivesDev (.longCommandStep i data true 1) s (ended (d.scrubUnit side) { x with done := x.total } 0 0))
            ∧ (x.done < x.total → GivesDev (.longCommandStep i data true 0) s (goes d x))))
    ∧ (∀ x cid, s.dev.longs[i.val]? = some x → x.op = 0x41 → x.aborts = [cid] → x.done < x.total → x.owed.any s.dev.takes = false →
        GivesDev (.longCommandStep i data true 0) s ((ended (owes s.dev x) x 6 0).complete x.fn (cqEntry cid 0 0 0x30 0 0 0 [])))

/-- R440–R444, R457, R461–R464, R242: BAR2 reads and writes the allotment within its size and not a contained side; a host read's bytes reach its unit or its stream, and a failed one stops the ring; a vector's message leaves when it is unmasked; a client's reset clears its ring
block and resets its jobs; what the SMBus answers, and which writes it takes. -/
def Obligations.HostInterface : Prop :=
  ∀ (s : State),
    let d := s.dev
    let hif := Block.hif.base
    let pec : Bool := d.fld (hif + Off.SMB_CFG) Fl.SMB_CFG_PEC_REQ == 0
    let lim := Block.pwr.base + Off.PWR_GOV_CFG
    (∀ (c : Fin 32) (o : Nat) (bytes : List Byte),
        let n0 := d.fld (hif + Off.ALLOT c) Fl.ALLOT_SIZE0 * 0x10000000
        let n1 := d.fld (hif + Off.ALLOT c) Fl.ALLOT_SIZE1 * 0x10000000
        let a := d.fld (hif + Off.ALLOT c) Fl.ALLOT_BASE0 * 0x10000000 + o
        o % 4 = 0 → (d.bar2Size c ≤ o → GivesDev (.bar2Read c o 1) s { d with answer := [] } ∧ Stays (.bar2Write c o bytes) s)
        ∧ (n0 + n1 ≤ o → o < d.bar2Size c → GivesDev (.bar2Read c o 1) s { d with answer := [0] } ∧ Stays (.bar2Write c o bytes) s)
        ∧ (o + 4 ≤ n0 → o + 4 ≤ d.bar2Size c → a < 0x400000000 →
            (d.contained 0 = true → GivesDev (.bar2Read c o 1) s { d with answer := [], aer := if d.aer.contains (c.val + 1) then d.aer else d.aer ++ [c.val + 1] })
            ∧ (d.contained 0 = false → d.hbmUe = [] → d.hbmCe = [] → Calm d → GivesAfterTraffic (.bar2Read c o 1) s d (fun e =>
                { e.hbmUse a with answer := [wd (leNat ((List.range 4).map (fun b => d.hbm.byte (a + b))))] })))
        ∧ (o + bytes.length ≤ n0 → o + bytes.length ≤ d.bar2Size c → bytes ≠ [] → a < 0x400000000 →
            (d.contained 0 = true → Stays (.bar2Write c o bytes) s) ∧ (d.contained 0 = false → Calm d → GivesAfterTraffic (.bar2Write c o bytes) s d (fun e => e.hbmWrite 0x09 none a bytes))))
    ∧ (∀ (k : Fin 512) x i t f data, (d.core k).xfer x = some t → t.flights[i]? = some f → f.host = 1 → data.length = (f.hostSrc.map (·.2)).foldl (· + ·) 0 →
        GivesDev (.hostReadComplete (.unit k x i) data true) s (d.setXfer k { t with flights := t.flights.set i { f with data := f.data ++ data, hostSrc := [], host := 0 } })
        ∧ (f.hostAt + 1250 ≤ d.tick → GivesDev (.hostCompletionTimeout (.unit k x i)) s (d.setXfer k { t with flights := t.flights.set i { f with host := 2 } }))
        ∧ (d.tick < f.hostAt + 1250 → Stays (.hostCompletionTimeout (.unit k x i)) s))
    ∧ (∀ (c : Fin 32) (r : Fin 64) data, d.ringOn (c.val + 1) (.sr r) = true → 0 < d.offered (c.val + 1) (.sr r) →
        (∀ i, data.length ≤ d.offered (c.val + 1) (.sr r) → data.length % 4 = 0 → d.consumerOf c r = some (.stream i) → GivesDev (.hostReadComplete (.ring c r) data true) s
            (((d.inputPut i data).2.ringAdvance (c.val + 1) (.sr r) data.length).writeBack (c.val + 1) (.sr r)))
        ∧ (below d (hif + Off.HIF_HOST_ERR) 1 → GivesDev (.hostCompletionTimeout (.ring c r)) s (up ((d.setFld (rbase (c.val + 1) (.sr r) + Off.X_CFG) Fl.X_CFG_EN 0).setFld
            (rbase (c.val + 1) (.sr r) + Off.X_STATUS) Fl.X_STATUS_FETCH_ERR 1) (hif + Off.HIF_HOST_ERR) 1)))
    ∧ (∀ (f : Fin 33) (v : Fin 64),
        let b := fnBase f
        let pba := b + Off.MSIX_PBA (v / 32)
        let blk : Block := if f.val = 0 then .pf0ring else .ring (f.val - 1)
        (d.locked blk = true → (d.waiting 0).length < 8 → d.answers blk = true → Gives (.msixUnmask f v) s (fun t => t.dev.regs = d.regs ∧ Recorded t.dev 0 kSEC 0x02))
        ∧ (Takes d blk → (d.reg pba).toNat.testBit (v % 32) = false → GivesDev (.msixUnmask f v) s (d.setFld (b + Off.MSIX_CTRL v) Fl.MSIX_CTRL_MASK 0))
        ∧ (Takes d blk → (d.reg pba).toNat.testBit (v % 32) = true → d.msixOff = [] → d.bmeOff = [] → Gives (.msixUnmask f v) s (fun t => t.dev.fld (b + Off.MSIX_CTRL v) Fl.MSIX_CTRL_MASK = 0
            ∧ (t.dev.reg pba).toNat.testBit (v % 32) = false
            ∧ t.dev.host = d.host.write (d.reg64 (b + Off.MSIX_ADDR_LO v) (b + Off.MSIX_ADDR_HI v)) (natLE 4 (d.reg (b + Off.MSIX_DATA v)).toNat))))
    ∧ (∀ c : Fin 32, (∀ x ∈ d.longs, x.fn ≠ c.val + 1) →
        let b := (Block.ring c).base
        ((∀ e ∈ d.jobs, e.2.client ≠ c.val) → ∀ f : Fin 33, f.val = c.val + 1 → Gives (.functionLevelReset f) s (fun t => (∀ o, t.dev.reg o = if b ≤ o ∧ o < b + 0x4000 then regReset o else d.reg o)
          ∧ (∀ e, e ∈ t.dev.shadows ↔ e ∈ d.shadows ∧ e.1 / 2 ^ 32 ≠ f) ∧ t.dev.waitingCq f = [] ∧ t.dev.jobs = d.jobs ∧ t.dev.longs = d.longs ∧ t.dev.plans = d.plans ∧ t.dev.streams = d.streams ∧ t.dev.host = d.host ∧ t.dev.hbm = d.hbm))
        ∧ (∀ j x, d.jobs.filter (fun e => e.2.state != .free && e.2.client == c.val) = [(j, x)] → Tab.get Job.free d.jobs j = x → ∀ f : Fin 33, f.val = c.val + 1 →
            Gives (.functionLevelReset f) s (fun t => (t.dev.job j).state = .loaded ∧ (t.dev.job j).started = false)))
    ∧ GivesDev .identity s { d with answer := (natLE 4 Config.pciId.toNat ++ natLE 2 (Config.deviceInfo.toNat % 2) ++ natLE 2 (Config.deviceInfo.toNat / 256)
        ++ natLE 8 Config.deviceId.toNat).map (fun b => b.setWidth 32) }
    ∧ (d.contained 0 = false → d.contained 1 = true → d.fld (hif + Off.HIF_STATUS) Fl.HIF_STATUS_READY = 1 → d.fld (Block.boot.base + Off.BOOT_STATUS) Fl.BOOT_STATUS_STATE = 1 →
        GivesDev .deviceState s { d with answer := [wd (d.fld (Block.pwr.base + Off.PWR_DEVSTATE) Fl.PWR_DEVSTATE_DSTATE + 24)] })
    ∧ GivesDev .tempMax s { d with answer := [wd (d.fld (Block.tel.base + Off.TEL_TEMP_MAX) Fl.TEL_TEMP_MAX_TEMP)] }
    ∧ GivesDev .powerIn s { d with answer := [wd (d.fld (Block.pwr.base + Off.PWR_VIN) Fl.PWR_VIN_AVG)] }
    ∧ (∀ p, GivesDev (.powerLimit none p) s { d with answer := [wd (d.fld lim Fl.PWR_GOV_CFG_LIMIT)] })
    ∧ (∀ (v : BitVec 16) p, ((p = true ∨ pec = true) → 150 ≤ v.toNat → v.toNat ≤ 750 → GivesDev (.powerLimit (some v) p) s (d.setFld lim Fl.PWR_GOV_CFG_LIMIT v.toNat))
        ∧ ((v.toNat < 150 ∨ 750 < v.toNat) → Stays (.powerLimit (some v) p) s) ∧ (pec = false → Stays (.powerLimit (some v) false) s))
    ∧ (∀ p, GivesDev (.alertStatus none p) s { d with answer := [wd d.alerts] })
    ∧ (∀ (v : Byte) p, ((p = true ∨ pec = true) → d.alerts < 2 ^ 32 → Gives (.alertStatus (some v) p) s (fun t => t.dev = { d with alerts := t.dev.alerts }
            ∧ ∀ n, t.dev.alerts.testBit n = (d.alerts.testBit n && !(v.toNat.testBit n)))) ∧ (pec = false → Stays (.alertStatus (some v) false) s))
    ∧ (d.alerts = 0 → GivesDev .alertResponse s { d with answer := [] })
    ∧ (d.alerts ≠ 0 → GivesDev .alertResponse s { d with answer := [wd (2 * d.fld (hif + Off.SMB_CFG) Fl.SMB_CFG_ADDR)] })

/-! ### Power, clocks, rails, sensors, the record log -/

/-- R71, R248, R273, R493–R497, R507: the Sill starts one switch each STAGGER, drops a request that has nothing to do, and keeps a cluster's until its side fabric is ON; RET keeps a core's registers until it opens; a domain that reaches ON brings up its units, one that does not is DOWN; an AUTO domain
is queued for closing after 2,500 ticks of its closing condition. -/
def Obligations.Shutters : Prop :=
  ∀ (s : State) (n : Fin 50),
    let d := s.dev
    let start := Instr.shutterSwitchStart
    (d.tick < d.sill.next → Stays start s)
    ∧ (d.sill.next ≤ d.tick →
        (d.sill.queue = [] → Stays start s)
        ∧ (∀ q, 36 ≤ n.val → d.sill.queue = (n.val, 2) :: q → d.switching n = none → d.dom n ≠ 2 → d.domBarred n = false →
            Gives start s (fun t => t.dev.dom n = 3 ∧ (∀ m : Fin 50, m ≠ n → t.dev.dom m = d.dom m) ∧ t.dev.sill.queue = q ∧ t.dev.switching n = some (2, d.tick)
              ∧ t.dev.sill.next = d.tick + 25 * d.fld (Block.pwr.base + Off.PWR_EXP) Fl.PWR_EXP_STAGGER ∧ t.dev.cores = d.cores))
        ∧ (36 ≤ n.val → d.sill.queue = [(n.val, 2)] → d.switching n = none → d.dom n = 2 → GivesDev start s { d with sill := { d.sill with queue := [] } })
        ∧ (n.val < 32 → d.sill.queue = [(n.val, 2)] → d.domOn (32 + n / 16) = false → Stays start s)
        ∧ (n.val < 32 → d.sill.queue = [(n.val, 1)] → d.switching n = none → d.dom n = 2 → d.closable n = true → d.awaited n = false → (d.lu n).watches = [] → (d.lu n).waiting = [] →
            Gives start s (fun t => t.dev.dom n = 3 ∧ t.dev.fld ((Block.seq n).base + Off.CS_STATUS) Fl.CS_STATUS_READY = 0
              ∧ ∀ k ∈ coresIn n, (t.dev.core k).sregs = (d.core k).sregs ∧ (t.dev.core k).vregs = (d.core k).vregs ∧ (t.dev.core k).mregs = (d.core k).mregs
                ∧ (t.dev.core k).regs = (d.core k).regs ∧ (t.dev.core k).mem = [])))
    ∧ (d.switching n = none → Stays (.shutterReachOn n) s ∧ Stays (.shutterFault n) s)
    ∧ (∀ target since, d.switching n = some (target, since) →
        let freed : Dev := { d with sill := { d.sill with busy := Tab.set none d.sill.busy n none } }
        (target ≠ 2 → GivesDev (.shutterReachOn n) s (if target = 0 then (freed.setDom n 0).sensorsDark else freed.setDom n target) ∧ Stays (.shutterFault n) s)
        ∧ (target = 0 → ∀ m : Fin 24, (freed.setDom n 0).sensorOn m = false → Gives (.shutterReachOn n) s (fun t => t.dev.fld (Block.tel.base + Off.TEL_TEMP m) Fl.TEL_TEMP_VALID = 0))
        ∧ (target = 2 → d.domPolicy n ≠ 3 → Gives (.shutterReachOn n) s (fun t => t.dev.dom n = 2 ∧ t.dev.switching n = none
            ∧ (n.val < 32 → t.dev.fld ((Block.seq n).base + Off.CS_STATUS) Fl.CS_STATUS_READY = 1 ∧ t.dev.lu n = Latch.fresh
                ∧ ∀ k ∈ coresIn n, t.dev.core k = { Core.atReset with cycMark := Tab.get 0 d.sideCyc (k / 256) })
            ∧ (n.val = 32 ∨ n.val = 33 → t.dev.fld ((Block.sc (n - 32)).base + Off.SC_STATUS) Fl.SC_STATUS_RUNNING = 1)
            ∧ (n.val = 34 ∨ n.val = 35 → t.dev.fld ((Block.hbm (n - 34)).base + Off.HBM_STATUS) Fl.HBM_STATUS_SELF_REFRESH = 0)))
        ∧ (target = 2 → n.val = 46 → d.domPolicy n = 3 → Gives (.shutterReachOn n) s (fun t => t.dev.dom n = 2 ∧ (n.val, 0) ∈ t.dev.sill.queue))
        ∧ (target = 2 →
            let bound := if n.val = 32 ∨ n.val = 33 then 1500 else 500
            (d.tick < since + bound → Stays (.shutterFault n) s)
            ∧ (since + bound ≤ d.tick → d.held = [] → Gives (.shutterFault n) s (fun t => t.dev.dom n = 0 ∧ t.dev.domDown n = true ∧ t.dev.switching n = none))))
    ∧ (let since := Tab.get 0 d.sill.idle n
       (since = 0 ∨ 2 ≤ d.domPolicy n → Stays (.shutterIdleClose n) s)
       ∧ (0 < since → since - 1 + 2500 ≤ d.tick → d.domOn n = true → d.closable n = true → d.domPolicy n < 2 → d.sill.queue.all (fun e => e.1 != n.val) = true →
            GivesDev (.shutterIdleClose n) s { d with sill := { d.sill with
              queue := d.sill.queue ++ [(n.val, if (32 ≤ n.val ∧ n.val < 36) ∨ (n.val < 32 ∧ d.domPolicy n = 1) then 1 else 0)] } }))

/-- R464, R498–R501: the device dozes after DOZE_IDLE, enters D3hot or waits for it, and wakes; a governor window takes its figures, steps the faster side down over the limit, holds at the floor, in the band and under GOV_DIS, and steps the slower side up after UP_WINDOWS calm windows, which a busy epoch mechanism does not lengthen. -/
def Obligations.DeviceStatesAndGovernor : Prop :=
  ∀ (s : State),
    let d := s.dev
    let pwr := Block.pwr.base
    let wait := d.setFld (pwr + Off.PWR_DEVSTATE) Fl.PWR_DEVSTATE_D3_WAIT 0
    let mayClose (n : Nat) : Prop := d.domOn n = true ∧ d.domPolicy n < 2
    let asked (t : State) (n : Nat) : Prop := (n, 2) ∈ t.dev.sill.queue
    (d.gov.dozeSince = none ∨ d.dstate ≠ 0 ∨ d.waking = true → Stays .dozeEntry s)
    ∧ (∀ t, d.gov.dozeSince = some t → d.dstate = 0 → d.fld (pwr + Off.PWR_DOZE) Fl.PWR_DOZE_DOZE_EN = 1 → d.waking = false →
        (d.tick < t + d.fld (pwr + Off.PWR_DOZE_IDLE) Fl.PWR_DOZE_IDLE_TICKS → Stays .dozeEntry s)
        ∧ (t + d.fld (pwr + Off.PWR_DOZE_IDLE) Fl.PWR_DOZE_IDLE_TICKS ≤ d.tick → Gives .dozeEntry s (fun u => u.dev.dstate = 1
            ∧ ∀ n, n < 32 ∨ (36 ≤ n ∧ n ≤ 40) → mayClose n → d.closable n = true → (n, d.closeTarget n) ∈ u.dev.sill.queue)))
    ∧ (d.gov.d3hot = true → Stays .d3hotEntry s)
    ∧ (d.gov.d3hot = false → (d.d3Ok = true → Gives .d3hotEntry s (fun t => t.dev.dstate = 2 ∧ t.dev.gov.d3hot = true ∧ ∀ n, 32 ≤ n → n < 36 → mayClose n → (n, 1) ∈ t.dev.sill.queue))
        ∧ (d.d3Ok = false → Gives .d3hotEntry s (fun t => t.dev.dstate = d.dstate ∧ t.dev.fld (pwr + Off.PWR_DEVSTATE) Fl.PWR_DEVSTATE_D3_WAIT = 1 ∧ t.dev.gov.d3hot = true
            ∧ t.dev.sill = d.sill)))
    ∧ (d.dstate ≠ 2 → GivesDev .d3hotExit s { wait with gov := { d.gov with d3hot := false } })
    ∧ (d.dstate = 2 → Gives .d3hotExit s (fun t => t.dev.dstate = 0 ∧ t.dev.gov.d3hot = false
        ∧ ∀ n, 32 ≤ n → n < 36 → d.domOn n = false → d.switching n = none → d.domBarred n = false → asked t n))
    ∧ (∀ v : BitVec 16, GivesDev (.vinSample v) s { d with gov := { d.gov with sum := d.gov.sum + v.toNat, n := d.gov.n + 1 } })
    ∧ (∀ rails : List (BitVec 16),
        let avg := d.gov.sum / d.gov.n
        let limit := 10 * d.fld (pwr + Off.PWR_GOV_CFG) Fl.PWR_GOV_CFG_LIMIT
        let low := limit - 10 * d.fld (pwr + Off.PWR_GOV_CFG) Fl.PWR_GOV_CFG_HYST
        let c0 := d.clkOf 0
        let c1 := d.clkOf 1
        let gw := Instr.govWindow rails
        let steps (t : State) (side new : Nat) : Prop := ∃ e, t.dev.epoch = some e ∧ e.kind = 1 ∧ e.side = side ∧ e.new = (new, new) ∧ e.byGovernor = true
        let still : Bool := d.fld (pwr + Off.PWR_EXP) Fl.PWR_EXP_GOV_DIS == 1 || d.fld (pwr + Off.PWR_GOV_STATUS) Fl.PWR_GOV_STATUS_CAL_HOLD == 1
        (d.gov.n = 0 → Gives gw s (fun t => t.dev.epoch = d.epoch ∧ t.dev.gov = { d.gov with hot := false, warm := false }
            ∧ ∀ r : Fin 8, t.dev.reg (Block.tel.base + Off.TEL_RAIL r) = ((rails[r.val]?).getD 0).setWidth 32))
        ∧ (0 < d.gov.n → d.gov.sum < 65536 * d.gov.n →
            Gives gw s (fun t => t.dev.fld (pwr + Off.PWR_VIN) Fl.PWR_VIN_AVG = avg ∧ t.dev.fld (pwr + Off.PWR_VIN) Fl.PWR_VIN_PEAK = max avg (d.fld (pwr + Off.PWR_VIN) Fl.PWR_VIN_PEAK)
              ∧ t.dev.gov.sum = 0 ∧ t.dev.gov.n = 0 ∧ t.dev.gov.hot = false ∧ t.dev.gov.warm = false
              ∧ ∀ r : Fin 8, t.dev.reg (Block.tel.base + Off.TEL_RAIL r) = ((rails[r.val]?).getD 0).setWidth 32)
            ∧ (still = true → Gives gw s (fun t => t.dev.epoch = d.epoch ∧ t.dev.alerts = d.alerts ∧ (low < avg → t.dev.gov.calm = 0)))
            ∧ (avg ≤ low → d.gov.warm = false → d.gov.hot = false → c0 ≤ d.ceil 0 → c1 ≤ d.ceil 1 → d.fld (Block.gctl.base + Off.EP_STATUS) Fl.EP_STATUS_STATE = 1 →
                Gives gw s (fun t => t.dev.epoch = d.epoch ∧ t.dev.gov.calm = d.gov.calm + 1))
            ∧ (still = false → limit < avg → c0 ≤ 4 → c1 ≤ 4 → Gives gw s (fun t => t.dev.fld (pwr + Off.PWR_GOV_STATUS) Fl.PWR_GOV_STATUS_FLOOR = 1 ∧ t.dev.epoch = d.epoch))
            ∧ (still = false → d.fld (Block.gctl.base + Off.EP_STATUS) Fl.EP_STATUS_STATE = 0 → limit < avg → c0 ≤ 17 → c1 ≤ 17 →
                (4 < c0 → c1 ≤ c0 → Gives gw s (fun t => steps t 0 (c0 - 1) ∧ t.dev.alerts = d.alerts ||| 2 ∧ t.dev.gov.calm = 0))
                ∧ (4 < c1 → c0 < c1 → Gives gw s (fun t => steps t 1 (c1 - 1) ∧ t.dev.alerts = d.alerts ||| 2 ∧ t.dev.gov.calm = 0)))
            ∧ (still = false → d.gov.hot = false → c0 ≤ d.ceil 0 → c1 ≤ d.ceil 1 →
                (low < avg → avg ≤ limit → 0 < d.fld (pwr + Off.PWR_GOV_CFG) Fl.PWR_GOV_CFG_UP_WINDOWS → Gives gw s (fun t => t.dev.epoch = d.epoch ∧ t.dev.gov.calm = 0
                    ∧ t.dev.fld (pwr + Off.PWR_GOV_STATUS) Fl.PWR_GOV_STATUS_FLOOR = 0))
                ∧ (avg ≤ low → d.gov.warm = false → d.fld (pwr + Off.PWR_GOV_CFG) Fl.PWR_GOV_CFG_UP_WINDOWS ≤ d.gov.calm + 1 → c0 ≤ c1 → c0 < d.ceil 0 → 4 ≤ c0 → d.ceil 0 ≤ 17 →
                    d.fld (Block.gctl.base + Off.EP_STATUS) Fl.EP_STATUS_STATE = 0 → Gives gw s (fun t => steps t 0 (c0 + 1) ∧ t.dev.gov.calm = 0)))))

/-- R238, R381, R492, R504, R513–R515, R521, R522, R535: an unlocked PLL and a failed rail contain their side, the optical rail darkens both Casements, a low core rail is recorded once; a sensor is read, and 105 °C twice in a row contains both sides; a log slot is read through the
reader's shadow; the repair list grows; a fault of the Hinge's memory is logged before the restart, and a failed SoC rail loses the log. -/
def Obligations.RailsSensorsLog : Prop :=
  ∀ (s : State) (side : Fin 2),
    let d := s.dev
    let contains (i : Instr) (x cause : Nat) : Prop := Gives i s (fun t => t.dev.contained x = true
      ∧ t.dev.fld ((Block.mesh x).base + Off.MESH_STATUS) Fl.MESH_STATUS_CAUSE = cause)
    let tel := Block.tel.base
    (d.contained side = false → (d.domOn (32 + side) = true → contains (.pllUnlock side) side 1) ∧ contains (.railFault side) side 5 ∧ contains (.hbmRailFault side) side 5)
    ∧ (d.domOn (32 + side) = false → Stays (.pllUnlock side) s)
    ∧ Gives .optRailFault s (fun t => (∀ k : Fin 2, t.dev.caseState k = 0) ∧ (∀ k : Fin 2, t.dev.fld (opt + Off.CASE_STATUS k) Fl.CASE_STATUS_LIGHT = d.fld (opt + Off.CASE_STATUS k) Fl.CASE_STATUS_LIGHT)
        ∧ t.dev.lit = d.lit ∧ ∀ p : Fin 8, d.caseState (p / 4) ≠ 0 → t.dev.paneState p = 0)
    ∧ (∀ mv : BitVec 16, (d.waiting 0).length < 8 →
        (d.railLow = [] → 500 ≤ mv.toNat → mv.toNat < 550 → Gives (.railMonitorSample side mv) s (fun t => t.dev.railLow = [side.val] ∧ Recorded t.dev 0 kPOWER 0x0A ∧ t.dev.regs = d.regs))
        ∧ (d.railLow = [side.val] → 550 ≤ mv.toNat → (if side.val = 0 then d.boot.mv0 else d.boot.mv1) ≤ mv.toNat + 20 →
            Gives (.railMonitorSample side mv) s (fun t => t.dev.railLow = [] ∧ Recorded t.dev 0 kPOWER 0x0A ∧ t.dev.regs = d.regs))
        ∧ (d.railLow = [side.val] → 500 ≤ mv.toNat → mv.toNat < 550 → Stays (.railMonitorSample side mv) s))
    ∧ (∀ (n : Fin 24) (temp : BitVec 16),
        let o := tel + Off.TEL_TEMP n
        (d.sensorOn n = false → Gives (.sensorSample n temp) s (fun t => t.dev.fld o Fl.TEL_TEMP_VALID = 0 ∧ Tab.get 0 t.dev.hot n = 0 ∧ t.dev.gov = d.gov))
        ∧ (d.sensorOn n = true →
            Gives (.sensorSample n temp) s (fun t => t.dev.fld o Fl.TEL_TEMP_TEMP = temp.toNat ∧ t.dev.fld o Fl.TEL_TEMP_VALID = 1
              ∧ ((∀ m : Fin 24, m ≠ n → d.fld (tel + Off.TEL_TEMP m) Fl.TEL_TEMP_VALID = 0) → t.dev.fld (tel + Off.TEL_TEMP_MAX) Fl.TEL_TEMP_MAX_TEMP = temp.toNat
                  ∧ t.dev.fld (tel + Off.TEL_TEMP_MAX) Fl.TEL_TEMP_MAX_SENSOR = n.val))
            ∧ (1600 < temp.toInt → Gives (.sensorSample n temp) s (fun t => t.dev.alerts.testBit 0 = true ∧ t.dev.gov.hot = true))
            ∧ (temp.toInt < 1680 → Gives (.sensorSample n temp) s (fun t => t.dev.jobs = d.jobs ∧ t.dev.cores = d.cores ∧ Tab.get 0 t.dev.hot n = 0))
            ∧ (1680 ≤ temp.toInt → Tab.get 0 d.hot n = 0 → Gives (.sensorSample n temp) s (fun t => t.dev.jobs = d.jobs ∧ t.dev.cores = d.cores ∧ Tab.get 0 t.dev.hot n = 1))
            ∧ (1680 ≤ temp.toInt → Tab.get 0 d.hot n = 1 → Gives (.sensorSample n temp) s (fun t => t.dev.contained 0 = true ∧ t.dev.contained 1 = true))))
    ∧ Stays .apllBiasTrim s
    ∧ (∀ who (i : Fin 8192),
        let r := Tab.get Record.zero d.tel.log (i / 8)
        (i.val % 8 = 0 → GivesDev (.logSlotRead who i false) s { d with
          tel := { d.tel with shadow := Tab.set none d.tel.shadow (whoKey who) (some (i.val / 8, r)) }
          answer := [r.word 0] })
        ∧ (∀ q, i.val % 8 ≠ 0 → Tab.get none d.tel.shadow (whoKey who) = some (i.val / 8, q) → GivesDev (.logSlotRead who i false) s { d with answer := [q.word (i % 8)] })
        ∧ (i.val % 8 ≠ 0 → Tab.get none d.tel.shadow (whoKey who) = none → GivesDev (.logSlotRead who i false) s { d with answer := [r.word (i % 8)] })
        ∧ (i.val % 8 = 0 → below d (tel + Off.TEL_LOG_LOST) 1 → Gives (.logSlotRead who i true) s (fun t => (∃ w, t.dev.answer = [w] ∧ w.toNat % 256 = 0)
            ∧ (t.dev.reg (tel + Off.TEL_LOG_LOST)).toNat = (d.reg (tel + Off.TEL_LOG_LOST)).toNat + 1 ∧ t.dev.tel.log = d.tel.log)))
    ∧ (let at' := Tab.get 0 d.repairAt side
       (0 < at' → d.tick < at' - 1 + 25000 → Stays (.repairListAdd side) s)
       ∧ ((at' = 0 ∨ at' - 1 + 25000 ≤ d.tick) → (∀ g ∈ d.repairPend, g * 32 / hbmSize ≠ side.val) → Stays (.repairListAdd side) s)
       ∧ (∀ g rest, (at' = 0 ∨ at' - 1 + 25000 ≤ d.tick) → d.repairPend = g :: rest → g * 32 / hbmSize = side.val → g ∉ rest → d.repair.any (sameRow g) = false →
            GivesDev (.repairListAdd side) s { d with repairPend := rest, repair := d.repair ++ [g], repairAt := Tab.set 0 d.repairAt side (d.tick + 1) }))
    ∧ (let tail := d.fld (tel + Off.TEL_LOG_TAIL) Fl.TEL_LOG_TAIL_POS
       d.boot.begun = none → d.logCount < 1024 →
        Gives .hingeUe s (fun t => (∀ k, t.dev.core k = Core.atReset) ∧ t.dev.hbm = [] ∧ t.dev.flash = d.flash ∧ t.dev.repair = d.repair
          ∧ (Tab.get Record.zero t.dev.tel.log (tail % 1024)).cls.toNat = kECC ∧ (Tab.get Record.zero t.dev.tel.log (tail % 1024)).code.toNat = 0x0C
          ∧ t.dev.fld (tel + Off.TEL_LOG_TAIL) Fl.TEL_LOG_TAIL_POS = (tail + 1) % 2048))
    ∧ Gives .socRailFault s (fun t => (∀ k, t.dev.core k = Core.atReset) ∧ t.dev.hbm = [] ∧ t.dev.flash = d.flash ∧ t.dev.repair = d.repair ∧ t.dev.tel.log = [] ∧ t.dev.logCount = 0)

/-! ### Registers, and the commands that are register writes -/

namespace Sys2Proof.Claims

open Sys2Proof Sys2Proof.Machine

/-- Registers of a block at 0. -/
def cleared (d : Dev) (b : Block) (os : List Nat) : Dev := os.foldl (fun d o => d.setReg (b.base + o) 0) d

/-- Registers of a core at 0. -/
def coreCleared (d : Dev) (k : Nat) (os : List Nat) : Dev := d.setCore k (os.foldl (fun c o => c.setReg o 0) (d.core k))

/-- An audio unit's block. -/
def audioBlock (u : Nat) : Block := if u < 8 then .apt u else .vpt (u - 8)

end Sys2Proof.Claims

/-- R5–R16, R33–R36, R524: a narrow write is dropped; the checks of a write in their order, and what a write of a register without a rule of its own stores;
an enable waits for its domain, takes effect when it is ON, and is not made where the domain is KEEP_OFF or DOWN; a field of configuration space; a read gives its bytes of the register, 0 where none lies or none can be read; a read of a
low half fills the reader's shadow of the high half, whose read gives it; a read clears RC fields, and one of MB_EVENT takes its event; the debug port answers while DBG_EN is 1. -/
def Obligations.RegisterAccess : Prop :=
  ∀ (s : State) (who : Who) (off : Nat) (v : Word),
    let d := s.dev
    let o := absOff who off
    let write := Instr.registerWrite who off v 2
    let event := Block.bolt.base + Off.MB_EVENT
    (∀ w : Fin 3, w ≠ 2 → Stays (.registerWrite who off v w) s)
    ∧ ((∀ f, who ≠ .config f) → locate o = none → Stays write s)
    ∧ (∀ f : Fin 33,
        GivesDev (.registerWrite (.config f) 0 v 2) s { d with bmeOff := d.bmeOff.filter (· != f.val) ++ (if v.getLsbD 0 then [] else [f.val]) }
        ∧ (v.getLsbD 0 = false → GivesDev (.registerWrite (.config f) 4 v 2) s { d with msixOff := d.msixOff.filter (· != f.val) ++ [f.val] })
        ∧ (0 < f.val → v.toNat ≤ 7 → GivesDev (.registerWrite (.config f) 8 v 2) s (d.setPci (min f.val 2) 2 v.toNat))
        ∧ GivesDev (.shadowLowRead (.config f) 0 2) s { d with answer := [if d.bmeOff.contains f.val then 0 else 1] })
    ∧ (∀ b l, locate o = some (b, l) →
        (regOf b l = none → Stays write s)
        ∧ (mayName who b = false ∨ d.answers b = false → Stays write s)
        ∧ (∀ r, regOf b l = some r → mayName who b = true → d.answers b = true →
            (isHost who = true → d.locked b = true → (d.waiting 0).length < 8 →
                Gives write s (fun t => Recorded t.dev 0 kSEC 0x02 ∧ t.dev.regs = d.regs ∧ t.dev.cores = d.cores ∧ t.dev.held = d.held))
            ∧ (∀ n, (isHost who = false ∨ d.locked b = false) → domainFor b = some n → d.domOn n = false → (d.waiting 1).length < 8 →
                Gives write s (fun t => Recorded t.dev 1 kPOWER 0x05 ∧ t.dev.regs = d.regs ∧ t.dev.cores = d.cores ∧ t.dev.held = d.held))
            ∧ ((isHost who = false ∨ d.locked b = false) → (∀ n, domainFor b = some n → d.domOn n = true) → d.held = [] →
                (∃ side, b = .hbm side) → l ≠ Off.HBM_CTRL →
                (r.expert = false ∨ d.expertOn b = true → GivesDev write s (d.setReg (b.base + l) (r.write (d.expertOn b) v (d.reg (b.base + l)))))
                ∧ (r.expert = true → d.expertOn b = false → (d.waiting 0).length < 8 → Gives write s (fun t => Recorded t.dev 0 kSEC 0x01)))))
    ∧ (∀ (q : Fin 4) (w : Fin 3) (read : Instr), (∀ f, who ≠ .config f) → (o = event → s.bolt.events = []) → off % 4 = 0 → (read = .shadowLowRead who (off + q) w ∨ read = .rcFieldRead who (off + q) w) →
        let part (x : Word) : List Word := [wd (x.toNat / 2 ^ (8 * q.val) % 2 ^ (8 * 2 ^ w.val))]
        let key (a : Nat) : Nat := whoKey who * 2 ^ 32 + a
        let high : Prop := ∃ b' l', 4 ≤ o ∧ locate (o - 4) = some (b', l') ∧ isLow b' l' = true
        ((∀ b l, locate o = some (b, l) → mayName who b = false ∨ d.readsOn b = false) → GivesDev read s { d with answer := [0] })
        ∧ (∀ b l, locate o = some (b, l) → mayName who b = true → d.readsOn b = true →
            (isLow b l = true → GivesDev read s { d with answer := part (d.regView o), shadows := Tab.set none d.shadows (key (o + 4)) (some (d.regView (o + 4))) })
            ∧ (isLow b l = false → high → ∀ x, (Tab.get none d.shadows (key o) = some x → GivesDev read s { d with answer := part x })
                ∧ (Tab.get none d.shadows (key o) = none → GivesDev read s { d with answer := part (d.regView o) }))
            ∧ (isLow b l = false → ¬high →
                (logWord b l = none → regOf b l = none → GivesDev read s { d with answer := part 0 })
                ∧ (∀ r, logWord b l = none → regOf b l = some r → (∀ f ∈ r.fields, f.acc ≠ .rc) → GivesDev read s { d with answer := part (d.regView o) })
                ∧ (∀ r, logWord b l = none → regOf b l = some r → Gives read s (fun t => t.dev.answer = part (d.regView o) ∧ (∀ f ∈ r.fields, f.acc = .rc → t.dev.fld o f.fld = 0)
                    ∧ ∀ a, a ≠ o → t.dev.reg a = d.reg a))
                ∧ (∀ i : Fin 8192, logWord b l = some i.val → Gives read s (fun t => ∃ x, exec (.logSlotRead who i false) s = .next { t with dev := { t.dev with answer := [x] } }
                    ∧ t.dev.answer = part x)))))
    ∧ (∀ code scale rest, o = event → mayName who .bolt = true → d.readsOn .bolt = true → s.bolt.events = (code, scale) :: rest → s.bolt.lost = false →
        Gives (.shadowLowRead who off 2) s (fun t => t.bolt = { s.bolt with events := rest } ∧ (off % 4 = 0 → t.dev.answer = [d.regView event])))
    ∧ (let ctl := secb + Off.SEC_CTRL
       ((∀ h ∈ d.held, h.1 ≠ off ∨ h.2.2.all d.domOn = false) → Stays (.enableTakesEffect off) s)
       ∧ (∀ w, d.held = [(ctl, w, [46])] → d.domOn 46 = true → Fl.SEC_CTRL_OP.get (d.reg ctl ||| w) = 1 → d.fld (secb + Off.SEC_STATUS) Fl.SEC_STATUS_BUSY = 0
            → d.fld (secb + Off.SEC_STATUS) Fl.SEC_STATUS_ID_DOWN = 0 →
            Gives (.enableTakesEffect ctl) s (fun t => t.dev.secOp = 1 ∧ t.dev.held = [] ∧ t.dev.fld (secb + Off.SEC_STATUS) Fl.SEC_STATUS_BUSY = 1))
       ∧ (Takes d .sec → d.domBarred 46 = true → (d.waiting 1).length < 8 →
            Gives (.registerWrite .pf0 ctl 1 2) s (fun t => Recorded t.dev 1 kPOWER 0x05 ∧ t.dev.held = [] ∧ t.dev.secOp = d.secOp))
       ∧ (Takes d .sec → d.domOn 46 = false → d.domBarred 46 = false → d.switching 46 = none → d.fld (secb + Off.SEC_STATUS) Fl.SEC_STATUS_BUSY = 0 →
            Gives (.registerWrite .pf0 ctl 1 2) s (fun t => t.dev.held = [(ctl, Fl.SEC_CTRL_OP.put 0 1, [46])] ∧ (46, 2) ∈ t.dev.sill.queue ∧ t.dev.secOp = d.secOp)))
    ∧ GivesDev (.tapInstruction .idcode) s { d with answer := [0x0C512A6B] }
    ∧ (∀ i ∈ [Tap.bypass, .sample, .extest], GivesDev (.tapInstruction i) s { d with answer := [] })
    ∧ (d.fld (Block.tel.base + Off.TEL_EXP) Fl.TEL_EXP_DBG_EN = 0 → GivesDev (.tapInstruction (.debugRead off)) s { d with answer := [] }
        ∧ GivesDev (.tapInstruction (.debugWrite off v)) s { d with answer := [] })
    ∧ (d.fld (Block.tel.base + Off.TEL_EXP) Fl.TEL_EXP_DBG_EN = 1 → d.domOn 48 = false → d.switching 48 = none → d.domBarred 48 = false →
        Gives (.tapInstruction (.debugWrite 0x20000000 v)) s (fun t => (48, 2) ∈ t.dev.sill.queue ∧ t.dev.answer = []))

/-- R78, R107, R150, R188, R222, R243, R245, R276, R301, R358, R360, R396, R409, R507, R525: CNT_CLR of each block zeroes the counters that the block names and nothing else; ACC_CTRL zeroes the accounting of the clients of its mask; a new link selection restarts its counter. -/
def Obligations.CounterClears : Prop :=
  ∀ (s : State) (k : Fin 512) (c : Fin 32) (side : Fin 2),
    let d := s.dev
    let clears (i : Instr) (b : Block) (os : List Nat) : Prop := Takes d b → GivesDev i s (cleared d b os)
    let coreClears (i : Instr) (os : List Nat) : Prop := Takes d (.core k) → (d.core k).out = [] → GivesDev i s (coreCleared d k os)
    clears (.csCntClr c) (.seq c) [Off.CS_RECORDS, Off.CS_OVL_LOADS, Off.CS_PLACEMENTS]
    ∧ coreClears (.muCntClr k) [Off.MU_ARRAY_CYC, Off.MU_STALL_FEED, Off.MU_RAMP_LOST, Off.MU_SAT]
    ∧ coreClears (.veCntClr k) [Off.VE_SAT, Off.VE_LUT_CLAMP, Off.VE_BANK_EXTRA, Off.VE_ACC_LD]
    ∧ coreClears (.spCntClr k) [Off.SP_PD_READS, Off.SP_CONFLICTS, Off.SP_ECC_CE, Off.SP_GB_FLUSH, Off.SP_DMA_WAIT]
    ∧ (Takes d (.core k) → (d.core k).out = [] → GivesDev (.dmaCntClr k) s (coreCleared ((d.creditRemark k).tagRemark k) k [Off.DMA_UNITS, Off.DMA_TAG_WAIT, Off.DMA_CREDIT_WAIT, Off.DMA_FWD_UNITS]))
    ∧ (Takes d (.hbm side) → GivesDev (.hbmCntClr side) s (((cleared d (.hbm side) [Off.HBM_CE, Off.HBM_UE, Off.HBM_ODECC, Off.HBM_RMW, Off.HBM_RFM]).setFld
        ((Block.hbm side).base + Off.HBM_TEMP) Fl.HBM_TEMP_PEAK 0).setFld ((Block.hbm side).base + Off.HBM_LAST_UE_HI) Fl.HBM_LAST_UE_HI_VALID 0))
    ∧ clears (.meshCntClr side) (.mesh side) [Off.MESH_CE, Off.MESH_BR_OUT, Off.MESH_BR_IN, Off.MESH_BR_REPLAY, Off.MESH_LINK_FLITS]
    ∧ (∀ v, Takes d (.mesh side) → Gives (.meshLinkSelWrite side v) s (fun t => t.dev.reg ((Block.mesh side).base + Off.MESH_LINK_FLITS) = 0
        ∧ ∀ o, o ≠ (Block.mesh side).base + Off.MESH_LINK_FLITS → o ≠ (Block.mesh side).base + Off.MESH_LINK_SEL → t.dev.reg o = d.reg o))
    ∧ clears (.luCntClr c) (.latch c) [Off.LU_OPS, Off.LU_REFUSED, Off.LU_TIMEOUTS]
    ∧ clears (.scCntClr side) (.sc side) [Off.SC_DISPATCHES, Off.SC_COMPLETIONS, Off.SC_FAILED]
    ∧ (∀ u : Fin 16, clears (.apCntClr u) (audioBlock u) [Off.AP_SLIP_DROP, Off.AP_SLIP_REP, Off.AP_MIX_SLIPS, Off.AP_UNDERRUNS, Off.AP_OVERRUNS, Off.VP_LATE])
    ∧ clears .apgCntClr .apg [Off.AW_GLITCHES, Off.AW_STOPS]
    ∧ clears .finCntClr .fin ((List.range 64).map Off.CAM_DROPS ++ (List.range 512).map Off.OUT_DROPS)
    ∧ (∀ p : Fin 8, clears (.paneCntClr p) .opt [Off.FRAMES_TX p, Off.FRAMES_RX p, Off.CRC_ERR p, Off.FEC_CORR p, Off.FEC_UNCORR p, Off.SEQ_GAP p, Off.REPLAYS p, Off.DROPS p,
        Off.CREDIT_STALL p, Off.DOWNS p])
    ∧ clears .mirCntClr .mir [Off.MIR_SNAPS, Off.MIR_SKIPS, Off.MIR_REJECTS, Off.MIR_HB_MISSED]
    ∧ (Takes d .pwr → GivesDev .pwrCntClr s ((cleared d .pwr [Off.PWR_STEPS]).setFld (Block.pwr.base + Off.PWR_VIN) Fl.PWR_VIN_PEAK 0))
    ∧ clears .telCntClr .tel [Off.TEL_LOG_LOST, Off.TEL_SRC_DROPS]
    ∧ (∀ (mask : Word) (e : Fin 32), Takes d .sch → Gives (.accClr mask) s (fun t =>
        (mask.toNat.testBit e = true → ∀ o ∈ [Off.ACC_WAITS e, Off.ACC_WAIT_SUM_LO e, Off.ACC_WAIT_SUM_HI e, Off.ACC_WAIT_MAX e, Off.ACC_PREEMPTS e, Off.ACC_PREEMPT_TIME_LO e,
            Off.ACC_PREEMPT_TIME_HI e, Off.ACC_HIST e 0, Off.ACC_HIST e 7], t.dev.reg (Block.sch.base + o) = 0)
        ∧ (mask.toNat.testBit e = false → ∀ o ∈ [Off.ACC_WAITS e, Off.ACC_WAIT_MAX e, Off.ACC_PREEMPTS e], t.dev.reg (Block.sch.base + o) = d.reg (Block.sch.base + o))))

/-- R21, R71, R76, R129, R178, R240, R254–R264, R276: START runs a PARKED core at START_PC and is refused elsewhere, HALT_REQ stops a running one, RESET leaves its memories; MBX_IN3 sends a message, CW_RETURN returns credits, STAT_CTRL clears the statistics named; the host operates on a Latch word with its result;
the reset of a side clears its cores, its stack and its streams. -/
def Obligations.CoreAndLatchCommands : Prop :=
  ∀ (s : State) (k : Fin 512) (cl : Fin 32),
    let d := s.dev
    let c := d.core k
    let ctrl (f : Fld) : Nat := f.get (c.reg Off.CORE_CTRL)
    (Takes d (.core k) → c.out = [] →
      (c.state = .parked → ctrl Fl.CORE_CTRL_RESET = 0 → ctrl Fl.CORE_CTRL_HALT_REQ = 0 → Gives (.coreStart k) s (fun t => (t.dev.core k).state = .running
          ∧ (t.dev.core k).pc = ctrl Fl.CORE_CTRL_START_PC ∧ (t.dev.core k).reg Off.CORE_CAUSE = 0 ∧ (t.dev.core k).sregs = c.sregs ∧ (t.dev.core k).mem = c.mem
          ∧ ∀ j, j ≠ k.val → t.dev.core j = d.core j))
      ∧ (c.state = .idle → ctrl Fl.CORE_CTRL_RESET = 0 → ctrl Fl.CORE_CTRL_HALT_REQ = 0 → Gives (.coreStart k) s (fun t => (t.dev.core k).state = .idle ∧ (t.dev.core k).pc = c.pc))
      ∧ (c.state = .running → ctrl Fl.CORE_CTRL_RESET = 0 → ctrl Fl.CORE_CTRL_START = 0 → c.jobOf = none → d.stage k = [] → Gives (.coreHaltReq k) s (fun t =>
          (t.dev.core k).state = .stopped ∧ (t.dev.core k).fld Off.CORE_CAUSE Fl.CORE_CAUSE_CAUSE = 0x0C ∧ (t.dev.core k).pc = c.pc ∧ (t.dev.core k).sregs = c.sregs ∧ (t.dev.core k).mem = c.mem))
      ∧ (c.state = .parked → ctrl Fl.CORE_CTRL_RESET = 0 → ctrl Fl.CORE_CTRL_START = 0 → Gives (.coreHaltReq k) s (fun t => (t.dev.core k).state = .parked))
      ∧ (c.jobOf = none → Gives (.coreReset k) s (fun t => (t.dev.core k).state = .reset ∧ (t.dev.core k).mem = c.mem ∧ (t.dev.core k).imem = c.imem ∧ (t.dev.core k).sregs = []
          ∧ (t.dev.core k).reg Off.IMEM_VALID = 0))
      ∧ (∀ v, c.mbxCount [0, 3] < 12 → Gives (.mbxIn3Write k v) s (fun t => (t.dev.core k).mbx = c.mbx
          ++ [⟨3, 0x200, k, natLE 4 (c.reg (Off.MBX_IN 0)).toNat ++ natLE 4 (c.reg (Off.MBX_IN 1)).toNat ++ natLE 4 (c.reg (Off.MBX_IN 2)).toNat ++ natLE 4 v.toNat⟩]))
      ∧ (∀ v, 12 ≤ c.mbxCount [0, 3] → Gives (.mbxIn3Write k v) s (fun t => (t.dev.core k).mbx = c.mbx ∧ (t.dev.core k).fld Off.MBX_STATUS Fl.MBX_STATUS_INJ_DROP = 1))
      ∧ (∀ (slots : BitVec 8) (n : Fin 8), Gives (.statClr k slots) s (fun t =>
          (slots.toNat.testBit n = true → (t.dev.core k).reg (Off.STAT_MAXABS n) = 0 ∧ (t.dev.core k).reg (Off.STAT_SATS n) = 0 ∧ (t.dev.core k).reg (Off.STAT_ELEMS n) = 0)
          ∧ (slots.toNat.testBit n = false → (t.dev.core k).reg (Off.STAT_MAXABS n) = c.reg (Off.STAT_MAXABS n) ∧ (t.dev.core k).reg (Off.STAT_SATS n) = c.reg (Off.STAT_SATS n))))
      ∧ (∀ (w : Fin 8) (n : BitVec 11), c.fld (Off.CW_CFG w) Fl.CW_CFG_EN = 1 →
          (Tab.get 0 c.cwAvail w + n.toNat ≤ c.fld (Off.CW_CFG w) Fl.CW_CFG_SIZE → GivesDev (.cwReturnWrite .pf0 k w n) s
            (d.setCore k { c with cwAvail := Tab.set 0 c.cwAvail w (Tab.get 0 c.cwAvail w + n.toNat) }))
          ∧ (c.fld (Off.CW_CFG w) Fl.CW_CFG_SIZE < Tab.get 0 c.cwAvail w + n.toNat → GivesDev (.cwReturnWrite .pf0 k w n) s (d.setCore k (c.setFld Off.SP_STATUS Fl.SP_STATUS_CW_OVER 1))))
      ∧ (∀ (w : Fin 8) n, c.fld (Off.CW_CFG w) Fl.CW_CFG_EN = 0 → GivesDev (.cwReturnWrite .pf0 k w n) s (d.setCore k c)))
    ∧ (let b := (Block.latch cl).base
       let l := d.lu cl
       let w := d.fld (b + Off.LH_WORD) Fl.LH_WORD_VALUE
       let x := d.reg (b + Off.LH_OPND)
       let y := l.word w
       let res (t : State) : Nat := (t.dev.reg (b + Off.LH_RESULT_LO)).toNat + 2 ^ 32 * (t.dev.reg (b + Off.LH_RESULT_HI)).toNat
       let holds (i : Instr) (z : LWord) (n : Nat) : Prop := Gives i s (fun t => (t.dev.lu cl).word w = z ∧ (∀ q, q ≠ w → (t.dev.lu cl).word q = l.word q) ∧ res t = n ∧ t.dev.cores = d.cores)
       Takes d (.latch cl) → d.reachable cl = true → l.ue = [] → l.watches = [] → d.fwdOf cl w = none →
        (y.kind = 0 → y.value.toNat + x.toNat < 2 ^ 32 → holds (.lhAdd cl) { y with value := y.value + x } 0)
        ∧ (y.kind = 0 → 2 ^ 32 ≤ y.value.toNat + x.toNat → holds (.lhAdd cl) y 0x80000003)
        ∧ (y.kind = 0 → x.toNat ≤ y.value.toNat → holds (.lhSub cl) { y with value := y.value - x } 0)
        ∧ (y.kind = 0 → y.value.toNat < x.toNat → holds (.lhSub cl) y 0x80000002)
        ∧ (∀ kind : Fin 4, kind.val < 2 → y.kind < 2 → d.inPairRange cl w = false → holds (.lhSet cl kind) { y with value := x, kind := kind.val } 0)
        ∧ (y.kind < 2 → y.value = x → holds (.lhCas cl) { y with value := d.reg (b + Off.LH_OPND2) } 0)
        ∧ (y.kind < 2 → y.value ≠ x → holds (.lhCas cl) y 0x80000001)
        ∧ (y.kind = 1 → 0 < x.toNat → x.toNat < 2 ^ 31 → holds (.lhSeqAdv cl) { y with value := y.value + x } 0)
        ∧ (y.kind = 0 → 0 < x.toNat → x.toNat < 2 ^ 31 → holds (.lhSeqAdv cl) y 0x80000004)
        ∧ (y.owner < 256 → y.kind < 4 → y.hjob < 256 → y.hcnt < 256 → holds (.lhRead cl) y (y.value.toNat + y.owner * 2 ^ 32 + (if y.owned then 2 ^ 40 else 0) + y.kind * 2 ^ 41
            + (if y.susp then 2 ^ 43 else 0) + y.hjob * 2 ^ 44 + y.hcnt * 2 ^ 52))
        ∧ (∀ j : Fin 256, holds (.lhOwner cl true j) { y with owned := true, owner := j } 0)
        ∧ holds (.lhOwner cl false 0) { y with owned := false } 0)
    ∧ (∀ side : Fin 2, (d.contained side = false → Stays (.sideReset side) s)
        ∧ (d.contained side = true → Gives (.sideReset side) s (fun t => t.dev.contained side = false
            ∧ (∀ a, t.dev.hbm.byte a = if a / hbmSize = side.val then 0 else d.hbm.byte a)
            ∧ (∀ q : Fin 512, q / 256 = side.val → (t.dev.core q).state = .reset ∧ (t.dev.core q).jobOf = none)
            ∧ ∀ e ∈ t.dev.streams, e.2.side ≠ side.val)))

/-- R281, R282, R293–R299, R303, R305, R306, R321, R327, R329, R409, R416, R501, R517: ADMIT, MODIFY, RELEASE and READ of a stream entry, and CREATE, START, RESET, DESTROY and READ of a job, with their results; the three epochs; ADOPT, ADOPT_ALL and MIRROR_ON; a suspect stream's reset. -/
def Obligations.ScheduleCommands : Prop :=
  ∀ (s : State) (i : Fin 1024) (j : Fin 256) (side : Fin 2),
    let d := s.dev
    let c := d.callSide
    let sch := Block.sch.base
    let x := d.stream i
    let y := d.job j
    let result (t : State) (st : Nat) : Prop := t.dev.fld (sch + Off.ST_RESULT) Fl.ST_RESULT_STATUS = st
    let answer (t : State) (st : Nat) : Prop := t.dev.fld (sch + Off.JOB_RESULT) Fl.JOB_RESULT_STATUS = st
    let staged := Stream.ofBytes d.staged
    (Takes d .sch →
      (∀ z, (c.admitStream i d.staged z).1 = 0 → Gives (.stAdmit i z) s (fun t => t.dev.stream i = staged ∧ result t 0 ∧ ∀ n, n ≠ i.val → t.dev.stream n = d.stream n))
      ∧ (∀ z, d.fieldsOk d.staged staged = false → Gives (.stAdmit i z) s (fun t => result t 1 ∧ t.dev.streams = d.streams ∧ t.dev.hbm = d.hbm))
      ∧ (∀ z, d.fieldsOk d.staged staged = true → staged.mirror = 3 → x.state ≠ 0 → Gives (.stAdmit i z) s (fun t => result t 2 ∧ t.dev.streams = d.streams ∧ t.dev.hbm = d.hbm))
      ∧ ((c.modify i d.staged).1 = 0 → Gives (.modify i) s (fun t => result t 0 ∧ t.dev.stream i
            = { x with be := staged.be, chunk := staged.chunk, bound := staged.bound, client := staged.client, resultRing := staged.resultRing }))
      ∧ (x.state ≠ 1 → Gives (.modify i) s (fun t => t.dev.streams = d.streams ∧ (result t 1 ∨ result t 3)))
      ∧ (x.state = 0 → GivesDev (.release i) s (c.setFld (sch + Off.ST_RESULT) Fl.ST_RESULT_STATUS 3))
      ∧ (x.state = 1 → x.resetting = none → GivesDev (.release i) s ((c.setStream i x.freed).setFld (sch + Off.ST_RESULT) Fl.ST_RESULT_STATUS 0))
      ∧ (x.state = 3 → GivesDev (.release i) s ((c.setStream i { x with release := true }).setFld (sch + Off.ST_RESULT) Fl.ST_RESULT_STATUS 0))
      ∧ (∀ n : Fin 16, Gives (.stRead i) s (fun t => t.dev.reg (sch + Off.ST_STAGE n) = wd (leAt (d.entryView i).bytes (4 * n) 4) ∧ result t 0 ∧ t.dev.streams = d.streams))
      ∧ (c.createStatus j d.stagedJob = 0 → Gives (.jobCreate j) s (fun t => t.dev.job j = d.stagedJob ∧ answer t 0 ∧ ∀ q, q ≠ j.val → t.dev.job q = d.job q))
      ∧ (c.createStatus j d.stagedJob ≠ 0 → Gives (.jobCreate j) s (fun t => t.dev.jobs = d.jobs ∧ answer t (c.createStatus j d.stagedJob)))
      ∧ (y.state = .loaded → d.batNamed j = false → Gives (.jobStart j) s (fun t => t.dev.job j = { y with started := true, wants := some d.tick } ∧ answer t 0))
      ∧ (y.state ≠ .loaded → Gives (.jobStart j) s (fun t => t.dev.jobs = d.jobs ∧ answer t 8))
      ∧ (y.state = .free → Gives (.jobReset j) s (fun t => t.dev.jobs = d.jobs ∧ answer t 8))
      ∧ (y.state ≠ .free → Gives (.jobReset j) s (fun t => (t.dev.job j).state = .loaded ∧ (t.dev.job j).started = false ∧ answer t 0))
      ∧ ((y.state = .free ∨ d.batNamed j = true) → Gives (.jobDestroy j) s (fun t => t.dev.jobs = d.jobs ∧ answer t 8))
      ∧ (y.state ≠ .free → d.batNamed j = false → Gives (.jobDestroy j) s (fun t => t.dev.job j = Job.free ∧ answer t 0))
      ∧ Gives (.jobRead j) s (fun t => t.dev.reg (sch + Off.JOB_STAGE 0) = wd (y.plan + y.client * 2 ^ 16 + y.cls * 2 ^ 24)
          ∧ t.dev.reg (sch + Off.JOB_STAGE 1) = wd (y.mask % 2 ^ 32) ∧ t.dev.reg (sch + Off.JOB_STAGE 9) = wd y.stride ∧ t.dev.jobs = d.jobs ∧ answer t 0))
    ∧ (Takes d .gctl → d.fld epo Fl.EP_STATUS_STATE = 0 →
        let arg (f : Fld) : Nat := d.fld (Block.gctl.base + Off.EP_ARG) f
        let staged (i : Instr) (kind : Nat) (new : Nat × Nat) (p : State → Prop) : Prop := Gives i s (fun t => (∃ e, t.dev.epoch = some e ∧ e.kind = kind ∧ e.new = new ∧ e.byGovernor = false)
          ∧ t.dev.fld epo Fl.EP_STATUS_STATE = 1 ∧ p t)
        let cap := if side.val = 0 then d.boot.cap0 else d.boot.cap1
        let held := d.fld (Block.pwr.base + Off.PWR_GOV_STATUS) Fl.PWR_GOV_STATUS_CAL_HOLD
        (arg Fl.EP_ARG_CLK ≤ cap → held = 0 → 4 ≤ arg Fl.EP_ARG_CLK → arg Fl.EP_ARG_CLK ≤ 17 →
            staged (.epochStageClock side) 1 (arg Fl.EP_ARG_CLK, arg Fl.EP_ARG_CLK) (fun t => t.dev.ceil side = arg Fl.EP_ARG_CLK))
        ∧ (4 ≤ arg Fl.EP_ARG_CLK → arg Fl.EP_ARG_CLK ≤ 17 → (cap < arg Fl.EP_ARG_CLK ∨ held = 1) → Stays (.epochStageClock side) s)
        ∧ ((arg Fl.EP_ARG_CLK < 4 ∨ 17 < arg Fl.EP_ARG_CLK) → GivesDev (.epochStageClock side) s (d.setFld epo Fl.EP_STATUS_REFUSED 1))
        ∧ staged (.epochStagePinRate side) 2 (arg Fl.EP_ARG_QUIET, arg Fl.EP_ARG_QUIET) (fun t => t.dev.plans = d.plans)
        ∧ (∀ p, d.plan (arg Fl.EP_ARG_PLAN) = some p → (d.batcherFor (arg Fl.EP_ARG_PLAN) 0).isSome = true → staged .epochStageWeightCopy 3 (1 - p.copy0, 1 - p.copy1) (fun t =>
            t.dev.plan (arg Fl.EP_ARG_PLAN) = some (if (d.batcherFor (arg Fl.EP_ARG_PLAN) 1).isSome then p else { p with copy1 := 1 - p.copy1 })
              ∧ ∀ n, n ≠ arg Fl.EP_ARG_PLAN → t.dev.plan n = d.plan n))
        ∧ (d.plan (arg Fl.EP_ARG_PLAN) = none → GivesDev .epochStageWeightCopy s (d.setFld epo Fl.EP_STATUS_REFUSED 1)))
    ∧ (Takes d .mir →
        let res (d : Dev) (st : Nat) : Dev := d.setFld (Block.mir.base + Off.MIR_RESULT) Fl.MIR_RESULT_STATUS st
        (d.role = 0 → GivesDev (.mirrorOn i) s (res d 4))
        ∧ (d.partner ≠ 2 → (d.isImage i = false ∨ x.relinquished = false) → GivesDev (.adopt i) s (res d 1))
        ∧ (d.partner = 2 → d.isImage i = false → GivesDev (.adopt i) s (res d 2))
        ∧ (d.isImage i = true → (d.partner = 2 ∨ x.relinquished = true) → (d.adoptOne i).1 = 0 → Gives (.adopt i) s (fun t => (t.dev.stream i).mirror = 0 ∧ (t.dev.stream i).home = d.role - 1
            ∧ (t.dev.stream i).ctxPtr = x.ctxPtr ∧ (t.dev.stream i).step = x.step ∧ t.dev.fld (Block.mir.base + Off.MIR_RESULT) Fl.MIR_RESULT_STATUS = 0))
        ∧ (d.partner ≠ 2 → GivesDev .adoptAll s (res d 1))
        ∧ (d.partner = 2 → (∀ e ∈ d.streams, e.2.mirror ≠ 3) → GivesDev .adoptAll s (res d 0))
        ∧ (d.partner = 2 → d.streams = [(i.val, x)] → x.state ≠ 0 → x.mirror = 3 → (d.adoptOne i).1 = 0 → Gives .adoptAll s (fun t => (t.dev.stream i).mirror = 0 ∧ (t.dev.stream i).ctxPtr = x.ctxPtr))
        ∧ (d.role ≠ 0 → (x.state = 0 ∨ x.mirror ≠ 0) → GivesDev (.mirrorOn i) s (res d 3))
        ∧ (d.role ≠ 0 → x.state ≠ 0 → x.mirror = 0 → GivesDev (.mirrorOn i) s (res (d.setStream i { x with mirror := 2, whole := true }) 0)))
    ∧ (Takes d .tel → (x.state = 4 → d.contained x.side = true → Stays (.telSuspectReset i) s)
        ∧ (x.state = 4 → d.contained x.side = false → GivesDev (.telSuspectReset i) s (d.setStream i { x with resetting := some 3, restoring := none }))
        ∧ (x.state ≠ 4 → GivesDev (.telSuspectReset i) s (d.setFld (Block.tel.base + Off.TEL_STATUS) Fl.TEL_STATUS_CMD_BAD 1)))

/-- R337, R338, R340, R344, R360, R392, R433, R437, R445, R457, R465: START and STOP of audio units and groups with the reason of a refused start; AP_FMT sets the divider; QUERY sends a PEER_QUERY; a mailbox doorbell starts a request or is lost; a ring's doorbell moves HPOS or is bad, and a stream ring's is refused for room. -/
def Obligations.UnitCommands : Prop :=
  ∀ (s : State),
    let d := s.dev
    (∀ (u : Fin 16) (start stop : Instr), ((u.val < 8 ∧ ∃ n : Fin 8, n.val = u.val ∧ start = .apStart n ∧ stop = .apStop n)
          ∨ (8 ≤ u.val ∧ ∃ n : Fin 8, n.val + 8 = u.val ∧ start = .vpStart n ∧ stop = .vpStop n)) → Takes d (audioBlock u) → d.domOn (shAudio u) = true → d.domBarred (shAudio u) = false → d.audioDown = false →
        let o := ublk u + Off.AP_CTRL
        (d.groupOf u = none → d.unitRuns u = false → d.unitEn u = true → d.fld o Fl.AP_CTRL_STOP = 0 → Gives start s (fun t => t.dev.unitRuns u = true ∧ ∀ v : Fin 16, v ≠ u → t.dev.unitRuns v = d.unitRuns v))
        ∧ ((d.groupOf u).isSome = true ∨ d.unitEn u = false → d.fld o Fl.AP_CTRL_STOP = 0 → Gives start s (fun t => t.dev.aunits = d.aunits))
        ∧ (d.groupOf u = none → d.unitRuns u = true → d.unitEn u = true → d.fld o Fl.AP_CTRL_START = 0 → Gives stop s (fun t => t.dev.unitRuns u = false ∧ ∀ v : Fin 16, v ≠ u → t.dev.unitRuns v = d.unitRuns v)))
    ∧ (∀ (g : Fin 4) (m : Fin 16), m.val = 2 ^ g.val → Takes d .apg → d.audioDown = false → d.domOn 41 = true → d.domOn 42 = true → d.domBarred 41 = false → d.domBarred 42 = false →
        (d.groupReason g = 0 → Gives (.apgStart m) s (fun t => (t.dev.aunit (16 + g)).running = true ∧ ∀ u ∈ d.members g, t.dev.unitRuns u = true))
        ∧ (d.groupReason g ≠ 0 → Gives (.apgStart m) s (fun t => t.dev.aunits = d.aunits ∧ t.dev.fld (Block.apg.base + Off.APG_STATUS g) Fl.APG_STATUS_REASON = d.groupReason g))
        ∧ ((d.aunit (16 + g)).running = true → Gives (.apgStop m) s (fun t => (t.dev.aunit (16 + g)).running = false ∧ ∀ u ∈ d.members g, t.dev.unitRuns u = false))
        ∧ ((d.aunit (16 + g)).running = false → Stays (.apgStop m) s))
    ∧ (Takes d .apg → d.audioDown = false → d.members 0 = [0] → d.members 1 = [4] → d.domOn 41 = true → d.domBarred 41 = false → d.groupReason 0 = 0 →
        (d.domOn 42 = false → d.domBarred 42 = false → Gives (.apgStart 3) s (fun t => (t.dev.aunit 16).running = true ∧ t.dev.aunit 17 = d.aunit 17
            ∧ t.dev.held = [(Block.apg.base + Off.APG_CTRL, Fl.APG_CTRL_START.put 0 2, [42])]))
        ∧ (d.domBarred 42 = true → (d.waiting 1).length < 8 → Gives (.apgStart 3) s (fun t => (t.dev.aunit 16).running = true ∧ t.dev.aunit 17 = d.aunit 17 ∧ t.dev.held = []
            ∧ Recorded t.dev 1 kPOWER 0x05)))
    ∧ (∀ (u : Fin 8) v, Takes d (.apt u) →
        (d.unitRuns u = true → Stays (.apFmtWrite u v) s)
        ∧ (Fl.AP_FMT_FORMAT.get v < 3 → Fl.AP_FMT_SLOT_W.get v < 3 → Fl.AP_FMT_RATE.get v < 12 → Fl.AP_FMT_LOOP_BW.get v < 3 → fmtOk v = false → Stays (.apFmtWrite u v) s)
        ∧ (d.unitRuns u = false → Fl.AP_FMT_FORMAT.get v = 3 → Fl.AP_FMT_SLOT_W.get v < 3 → Fl.AP_FMT_RATE.get v < 12 → Fl.AP_FMT_LOOP_BW.get v < 3 → fmtOk v = true →
            d.fld (ublk u + Off.AP_FMT) Fl.AP_FMT_FORMAT < 2 → Gives (.apFmtWrite u v) s (fun t => t.dev.fld (ublk u + Off.AP_FMT) Fl.AP_FMT_FORMAT = d.fld (ublk u + Off.AP_FMT) Fl.AP_FMT_FORMAT
              ∧ t.dev.fld (ublk u + Off.AP_FMT) Fl.AP_FMT_RATE = Fl.AP_FMT_RATE.get v))
        ∧ (d.unitRuns u = false → Fl.AP_FMT_FORMAT.get v < 3 → Fl.AP_FMT_SLOT_W.get v < 3 → Fl.AP_FMT_RATE.get v < 12 → Fl.AP_FMT_LOOP_BW.get v < 3 → fmtOk v = true → Gives (.apFmtWrite u v) s (fun t =>
            let w := divWord (frameBits v) (fsHz (Fl.AP_FMT_RATE.get v))
            t.dev.fld (ublk u + Off.AP_FMT) Fl.AP_FMT_RATE = Fl.AP_FMT_RATE.get v ∧ t.dev.reg (ublk u + Off.AP_DIV_INT) = wd (w / 2 ^ 24) ∧ t.dev.reg (ublk u + Off.AP_DIV_FRAC) = wd (w % 2 ^ 24))))
    ∧ (∀ p : Fin 8, Takes d .opt → d.paneEn p = true → d.paneUp p = true → d.fld (opt + Off.PANE_STATUS p) Fl.PANE_STATUS_DUAL = 1 → (d.pane p).query = none →
        let n := ((d.pane p).nonce + 1) % 65536
        Gives (.paneQuery p) s (fun t => t.dev.pane p = { d.pane p with nonce := n, query := some d.tick, byMirror := false, ctl := (d.pane p).ctl ++ [natLE 1 3 ++ natLE 2 n] }))
    ∧ (∀ p : Fin 8, Takes d .opt → d.paneEn p = true → d.paneState p = 2 → Gives (.paneQuery p) s (fun t => t.dev.panes = d.panes))
    ∧ (∀ (c : Fin 2) tag, Takes d .bolt →
        let o := Block.bolt.base + Off.MB_STATUS c
        ((d.fld o Fl.MB_STATUS_STATE = 0 ∨ d.fld o Fl.MB_STATUS_STATE = 3) → GivesDev (.mbDoorbell c tag) s (d.setFld o Fl.MB_STATUS_STATE 1))
        ∧ ((d.fld o Fl.MB_STATUS_STATE = 1 ∨ d.fld o Fl.MB_STATUS_STATE = 2) → GivesDev (.mbDoorbell c tag) s (d.setFld o Fl.MB_STATUS_RING_LOST 1)))
    ∧ (∀ (f : Fin 33) pos, (if f.val = 0 then Takes d .pf0ring else Takes d (.ring (f.val - 1))) → d.ringOn f .sq = true →
        let n := d.ringN f .sq
        let p := Fl.X_HPOS_POS.get pos
        (p < 2 * n → span n p (d.dpos f .sq) ≤ n → GivesDev (.sqDoorbell f pos) s (d.setFld (rbase f .sq + Off.X_HPOS) Fl.X_HPOS_POS p))
        ∧ ((2 * n ≤ p ∨ n < span n p (d.dpos f .sq)) → GivesDev (.sqDoorbell f pos) s (d.setFld (rbase f .sq + Off.X_STATUS) Fl.X_STATUS_BAD_DB 1)))
    ∧ (∀ (c : Fin 32) (r : Fin 64) pos i, Takes d (.ring c) →
        let f := c.val + 1
        let q := RSet.sr r
        let n := d.ringN f q
        let p := Fl.X_HPOS_POS.get pos
        d.ringOn f q = true → d.consumerOf c r = some (.stream i) → p % 4 = 0 → p < 2 * n → span n p (d.dpos f q) ≤ n →
        let more := span n p (d.hpos f q)
        (more + d.offered f q ≤ (d.stream i).room → GivesDev (.srDoorbell c r pos) s (d.setFld (rbase f q + Off.X_HPOS) Fl.X_HPOS_POS p))
        ∧ ((d.stream i).room < more + d.offered f q → (d.reg (rbase f q + Off.X_COUNT)).toNat + 1 < 2 ^ 32 → Gives (.srDoorbell c r pos) s (fun t =>
            t.dev.hpos f q = d.hpos f q ∧ t.dev.fld (rbase f q + Off.X_STATUS) Fl.X_STATUS_REFUSED = 1 ∧ (t.dev.reg (rbase f q + Off.X_COUNT)).toNat = (d.reg (rbase f q + Off.X_COUNT)).toNat + 1)))

/-! ### The start of the device -/

/-- R470–R476, R484, R512, R533: a start counts and begins BS01; a required step that fails or reaches its bound leaves boot FAILED at it with ALERT_N; a failed optional step marks its function down and the later steps run to READY; a side with a low rail or without its PLL is contained; RRS_LIMIT is recorded once, boot running or FAILED; a reset keeps
the tick count and what lives in the flash, the host and the mailbox, and ends a running step INTERRUPTED. -/
def Obligations.BootSteps : Prop :=
  ∀ (s : State) (f : BootFacts),
    let d := s.dev
    let boot := Block.boot.base
    let status (x : Dev) (g : Fld) : Nat := x.fld (boot + Off.BOOT_STATUS) g
    let failedAt (t : State) (n : Nat) : Prop := status t.dev Fl.BOOT_STATUS_STATE = 2 ∧ status t.dev Fl.BOOT_STATUS_FAILED_STEP = n ∧ t.dev.alerts.testBit 3 = true
    let counted (t : State) : Prop := t.dev.reg (boot + Off.BOOT_COUNT) = d.reg (boot + Off.BOOT_COUNT) + 1
    (d.boot.waiting = false → Stays (.bootStart false f) s)
    ∧ (d.boot.waiting = true → d.boot.begun = none → d.boot.log = [] → f.torn = false → status d Fl.BOOT_STATUS_STATE = 0 →
        (f.upTo = 1 → Gives (.bootStart false f) s (fun t => counted t ∧ t.dev.boot.begun = some 1 ∧ t.dev.boot.waiting = false ∧ status t.dev Fl.BOOT_STATUS_STEP = 1 ∧ status t.dev Fl.BOOT_STATUS_STATE = 0
            ∧ t.dev.boot.log = [⟨0, (d.reg (boot + Off.BOOT_COUNT) + 1).toNat, 1, 1, 0, 0⟩]))
        ∧ (f.upTo = 15 → f.ok.getLsbD 1 = false → Gives (.bootStart false f) s (fun t => counted t ∧ failedAt t 1 ∧ t.dev.boot.begun = none ∧ t.dev.boot.log.map (fun r => (r.step, r.kind)) = [(1, 5), (1, 1)])))
    ∧ (f.upTo = 1 → d.boot.log = [] → Gives (.bootStart true f) s (fun t => counted t ∧ t.dev.boot.begun = some 1 ∧ (∀ k, t.dev.core k = Core.atReset) ∧ t.dev.flash = d.flash ∧ t.dev.tel.log = []))
    ∧ (d.boot.begun = none → Stays (.bootStepTimeout f) s)
    ∧ (∀ n ∈ [1, 2, 5, 14], d.boot.begun = some n → Gives (.bootStepTimeout f) s (fun t => failedAt t n ∧ t.dev.boot.begun = none ∧ t.dev.cores = d.cores))
    ∧ (d.boot.begun = some 10 → status d Fl.BOOT_STATUS_STATE = 0 → d.boot.waiting = false → d.boot.log = [] →
        (f.upTo = 11 → Gives (.bootStepTimeout f) s (fun t => t.dev.audioDown = true ∧ t.dev.boot.begun = some 11 ∧ status t.dev Fl.BOOT_STATUS_STATE = 0))
        ∧ (f.upTo = 15 → f.ok.getLsbD 13 = false → f.ok.getLsbD 14 = true → Gives (.bootStepTimeout f) s (fun t => t.dev.audioDown = true ∧ t.dev.boot.begun = none ∧ status t.dev Fl.BOOT_STATUS_STATE = 1
            ∧ t.dev.fld (Block.hif.base + Off.HIF_STATUS) Fl.HIF_STATUS_READY = 1 ∧ t.dev.reg (boot + Off.BOOT_TIME) = wd f.ticks
            ∧ t.dev.reg (secb + Off.SEC_LOCK1) = wd (d.flashAt (0x20000 + status d Fl.BOOT_STATUS_SLOT * 0x800000 + 16) 4))))
    ∧ (d.boot.begun = some 7 → d.boot.left = [0, 1] → status d Fl.BOOT_STATUS_STATE = 0 → d.boot.waiting = false → f.upTo = 8 → d.contained 0 = false → d.marked 7 0 = false → f.mv0 < 550 →
        Gives (.bootStepTimeout f) s (fun t => t.dev.contained 0 = true ∧ t.dev.contained 1 = true ∧ t.dev.fld ((Block.mesh 0).base + Off.MESH_STATUS) Fl.MESH_STATUS_CAUSE = 5 ∧ t.dev.boot.begun = some 8))
    ∧ ((status d Fl.BOOT_STATUS_STATE = 1 ∨ d.boot.waiting = true ∨ d.boot.rrs = true) → Stays .rrsLimit s)
    ∧ (status d Fl.BOOT_STATUS_STATE ≠ 1 → d.boot.waiting = false → d.boot.rrs = false → (d.waiting 0).length < 8 →
        Gives .rrsLimit s (fun t => t.dev.boot.rrs = true ∧ Recorded t.dev 0 kBOOT 0x06 ∧ t.dev.regs = d.regs))
    ∧ (let kept (t : State) : Prop := t.dev.tick = d.tick ∧ (∀ k, t.dev.core k = Core.atReset) ∧ t.dev.hbm = [] ∧ t.dev.jobs = [] ∧ t.dev.streams = [] ∧ t.dev.flash = d.flash ∧ t.dev.host = d.host ∧ t.dev.repair = d.repair
          ∧ t.dev.tel.log = d.tel.log ∧ t.dev.boot.waiting = true ∧ t.dev.boot.begun = none
          ∧ t.dev.fld (secb + Off.SEC_STATUS) Fl.SEC_STATUS_FUSES = d.fld (secb + Off.SEC_STATUS) Fl.SEC_STATUS_FUSES
          ∧ (∀ o, Block.bolt.base ≤ o → o < Block.bolt.base + 0x1000 → t.dev.reg o = d.reg o)
          ∧ t.dev.reg (boot + Off.BOOT_COUNT) = d.reg (boot + Off.BOOT_COUNT) ∧ t.dev.reg (boot + Off.BOOT_MARKS) = d.reg (boot + Off.BOOT_MARKS)
          ∧ t.dev.lit = d.lit ∧ ∀ o, 0x400000 ≤ o → o < 0xB00000 → t.dev.reg o = regReset o
       (d.boot.begun = none → Gives .perstAssert s (fun t => kept t ∧ t.dev.boot.log = d.boot.log))
       ∧ (∀ n, d.boot.begun = some n → Gives .perstAssert s (fun t => kept t ∧ ∃ r rest, t.dev.boot.log = r :: rest ∧ r.step = n ∧ r.kind = 6 ∧ r.sides = sideMask d.boot.left))
       ∧ (Takes d .gctl → exec .devRestart s = exec .perstAssert s ∧ Gives .devRestart s kept))

/-- R474, R481, R485, R489, R490: RETRY clears the marks; CAL_CMD reads a function's entry and commits a good buffer, and refuses one with another function or a bad CRC; ATTEST and CERTS begin where the keys are there, and ATTEST_DONE leaves the report or the chain. -/
def Obligations.BootCommands : Prop :=
  ∀ (s : State) (f : Fin 7),
    let d := s.dev
    let boot := Block.boot.base
    let result (n : Nat) : Dev := d.setFld (boot + Off.CAL_STATUS) Fl.CAL_STATUS_RESULT n
    (Takes d .boot → GivesDev .bootRetry s (({ d with boot := { d.boot with cleared := 0xFFFFFFFF } } : Dev).setReg (boot + Off.BOOT_MARKS) 0))
    ∧ (d.locked .boot = false → GivesDev (.calRead f false) s (result 3))
    ∧ (Takes d .boot → ∀ i : Fin 1024, Gives (.calRead f true) s (fun t => t.dev.reg (boot + Off.CAL_BUF i) = wd (leAt (d.flashRead (0x1420000 + 4096 * f) 4096) (4 * i) 4)
        ∧ t.dev.fld (boot + Off.CAL_STATUS) Fl.CAL_STATUS_RESULT = 0 ∧ t.dev.flash = d.flash))
    ∧ (Takes d .boot → calCheck f d.calBuf ≠ 0 → GivesDev (.calWrite f true) s (result (calCheck f d.calBuf)))
    ∧ (d.locked .boot = false → calCheck f d.calBuf = 0 → GivesDev (.calWrite f false) s (result 3))
    ∧ (Takes d .boot → calCheck f d.calBuf = 0 → Gives (.calWrite f true) s (fun t => t.dev.flash = (d.flashWrite (0x1420000 + 4096 * f) d.calBuf).flash
        ∧ t.dev.fld (boot + Off.CAL_STATUS) Fl.CAL_STATUS_RESULT = 0))
    ∧ (∀ bs, leAt bs 0 4 = f.val → leAt bs 4 4 ≤ 4084 → crc32 (bs.take 4092) ≠ BitVec.ofNat 32 (leAt bs 4092 4) → calCheck f bs = 2)
    ∧ (∀ bs, leAt bs 0 4 ≠ f.val → calCheck f bs = 1)
    ∧ (Takes d .sec → d.domOn 46 = true → d.domBarred 46 = false → d.fld (secb + Off.SEC_STATUS) Fl.SEC_STATUS_BUSY = 0 → d.fld (secb + Off.SEC_STATUS) Fl.SEC_STATUS_ID_DOWN = 0 →
        GivesDev .attest s { d.setFld (secb + Off.SEC_STATUS) Fl.SEC_STATUS_BUSY 1 with secOp := 1 } ∧ GivesDev .certs s { d.setFld (secb + Off.SEC_STATUS) Fl.SEC_STATUS_BUSY 1 with secOp := 2 })
    ∧ (Takes d .sec → d.domOn 46 = true → d.domBarred 46 = false → d.fld (secb + Off.SEC_STATUS) Fl.SEC_STATUS_ID_DOWN = 1 → Stays .attest s ∧ Stays .certs s)
    ∧ (d.secOp = 0 → Stays .attestDone s)
    ∧ (let stands (t : State) (bs : List Byte) : Prop := t.dev.secOp = 0 ∧ t.dev.fld (secb + Off.SEC_STATUS) Fl.SEC_STATUS_BUSY = 0 ∧ t.dev.reg (secb + Off.SEC_REPORT_LEN) = wd bs.length
          ∧ ∀ i, 4 * i < bs.length → t.dev.reg (secb + Off.SEC_REPORT i) = wd (leAt bs (4 * i) 4)
       (d.secOp = 2 → Gives .attestDone s (fun t => stands t (Config.certChain.take 16384)))
       ∧ (d.secOp = 1 → Gives .attestDone s (fun t => stands t (d.report.take 16384) ∧ t.dev.reg (secb + Off.SEC_REPORT 0) = 1
            ∧ t.dev.reg (secb + Off.SEC_REPORT 3) = d.reg (boot + Off.BOOT_COUNT))))

/-! ### The Bolt -/

namespace Sys2Proof.Claims

open Sys2Proof Sys2Proof.Machine

/-- The Bolt has power and holds the request `r` of opcode `op`. -/
structure Asked (b : Bolt) (r : BReq) (op : Nat) : Prop where
  power : b.power = true
  req : b.req = some r
  opcode : r.op = op
  chan : r.chan < 2

/-- The request is answered on its channel: status, tag and the bytes from byte 8 on, and STATE is DONE. -/
def Answered (t : State) (r : BReq) (status : Nat) (body : List Byte) : Prop :=
  let m := Block.bolt.base
  t.dev.reg (m + Off.MB_RSP r.chan 0) = wd (status + 256 * r.op + 2 ^ 16 * body.length) ∧ t.dev.reg (m + Off.MB_RSP r.chan 1) = wd r.tag
    ∧ (∀ i, 4 * i < body.length → t.dev.reg (m + Off.MB_RSP r.chan (i + 2)) = wd (leAt body (4 * i) 4))
    ∧ t.dev.fld (m + Off.MB_STATUS r.chan) Fl.MB_STATUS_STATE = 3 ∧ t.bolt.req = none

/-- The command answers the request and leaves the Bolt as `b` without a request. -/
def Serves (i : Instr) (s : State) (r : BReq) (status : Nat) (body : List Byte) (b : Bolt) : Prop :=
  Gives i s (fun t => Answered t r status (body.take 1016) ∧ t.bolt = { b with req := none })

/-- The commands marked S in the command table, with their opcodes (R421, R435). -/
def sealedOp : Instr → Option Nat
  | .scaleCfg _ _ _ _ _ => some 0x10
  | .calibrate _ => some 0x11
  | .keySet _ _ => some 0x12
  | .channelBind _ _ _ => some 0x13
  | .boltFwLoad _ _ => some 0x14
  | _ => none

/-- The commands that need the closed seal, with their opcodes (R421, R435). -/
def closedOp : Instr → Option Nat
  | .zero => some 0x20
  | .tare _ => some 0x21
  | .weigh _ _ _ => some 0x23
  | _ => none

/-- The accepted change of a legal parameter: the counter is one higher, the newest audit entry names the change, and the oldest of 1,024 is gone. -/
def Counted (b b' : Bolt) (op scale : Nat) : Prop :=
  b'.legal = b.legal + 1 ∧ b'.audit.tail = b.audit.take 1023 ∧ ∃ a, b'.audit.head? = some a ∧ a.value = b.legal + 1 ∧ a.param = Config.boltParam op ∧ a.scale = scale
    ∧ a.boots = b.boots ∧ a.secs = b.time / 25000000

end Sys2Proof.Claims

/-- R423, R429–R436: the Bolt copies a request that is rung and answers an unlisted one BAD_REQ; without its request a command changes nothing; IDENTIFY and STATUS; a price block needs its tag and a newer version; the reads of prices, records, checkpoints and audit entries, with GONE and PENDING; a read of MB_EVENT takes the oldest event. -/
def Obligations.BoltMailbox : Prop :=
  ∀ (s : State) (r : BReq),
    let d := s.dev
    let b := s.bolt
    let m := Block.bolt.base
    (∀ c : Fin 2,
        let h := (d.reg (m + Off.MB_REQ c 0)).toNat
        let q : BReq := ⟨c, h % 256, h / 256 % 256, (d.reg (m + Off.MB_REQ c 1)).toNat, (List.range 240).map (fun i => d.reg (m + Off.MB_REQ c i)), b.time, b.sealOpen⟩
        (d.rung c = false ∨ b.power = false ∨ b.req.isSome = true → Stays (.boltRequestTake c) s)
        ∧ (d.rung 0 = true → d.rung 1 = true → b.served = c.val → Stays (.boltRequestTake c) s)
        ∧ (d.rung c = true → d.rung (1 - c.val) = false → b.power = true → b.req = none →
            (h % 256 ∈ [0x01, 0x02, 0x10, 0x11, 0x12, 0x13, 0x14, 0x20, 0x21, 0x22, 0x23, 0x24, 0x30, 0x31, 0x40, 0x41, 0x42] → h / 65536 ≤ 952 →
                exec (.boltRequestTake c) s = .next { s with dev := d.setFld (m + Off.MB_STATUS c) Fl.MB_STATUS_STATE 2, bolt := { b with req := some q, served := c } })
            ∧ (952 < h / 65536 → Gives (.boltRequestTake c) s (fun t => Answered t q 1 [] ∧ t.bolt = { b with served := c, req := none }))
            ∧ (h % 256 = 0x50 → Gives (.boltRequestTake c) s (fun t => Answered t q 1 [] ∧ t.bolt = { b with served := c, req := none }))))
    ∧ (b.req = none → ∀ i ∈ [Instr.identify, .status, .zero, .tare none, .clearTare, .weigh 0 0 false, .readWeight, .unstable, .priceRead 0, .recordRead 0, .checkpointRead 0 0, .auditRead 0], Stays i s)
    ∧ (Asked b r 0x01 → Serves .identify s r 0 (Config.boltPack 0x01 (((crc32 (Config.boltLegalPart b.image)).toNat : Int) :: (Config.boltIdent b.image).map (fun x => (x.toNat : Int)))) b)
    ∧ (Asked b r 0x02 → Serves .status s r 0 (Config.boltPack 0x02 ([((if b.sealOpen then 1 else 0 : Nat) : Int), b.legal, (b.nextRec : Int) - 1, (b.checks.length : Int) - 1]
        ++ (List.range 48).map (fun n => ((if (b.scale n).online then 1 else 0 : Nat) : Int)))) b)
    ∧ (∀ (ver : Word) rows tag, Asked b r 0x30 →
        let t := rows.foldl (fun t (p : PriceRow) => Tab.set none t p.item.toNat (some ⟨p.price.toNat, p.per100, p.preset⟩)) b.prices
        let good := hmac256 b.keyPrice (Config.boltPack 0x30 (blockValues ver rows)) = tag
        (48 < rows.length → Serves (.priceLoad ver rows tag) s r 1 [] b)
        ∧ (rows.length ≤ 48 → (¬good ∨ ver.toNat ≤ b.priceVer) → Serves (.priceLoad ver rows tag) s r 8 [] b)
        ∧ (rows.length ≤ 48 → good → b.priceVer < ver.toNat → t.length ≤ 16384 → Serves (.priceLoad ver rows tag) s r 0 [] { b with prices := t, priceVer := ver.toNat }))
    ∧ (∀ item : Word, Asked b r 0x31 → (Tab.get none b.prices item.toNat = none → Serves (.priceRead item) s r 7 [] b)
        ∧ (∀ e : Price, Tab.get none b.prices item.toNat = some e → Serves (.priceRead item) s r 0
            (Config.boltPack 0x31 [(item.toNat : Int), (e.price : Int), ((if e.per100 then 1 else 0 : Nat) : Int), match e.preset with | some g => (g : Int) | none => -1]) b))
    ∧ (∀ num : Word, Asked b r 0x40 → (b.nextRec ≤ num.toNat → Serves (.recordRead num) s r 11 [] b)
        ∧ (∀ rec, num.toNat < b.nextRec → b.recs[b.nextRec - 1 - num.toNat]? = some rec → Serves (.recordRead num) s r 0 rec b)
        ∧ (num.toNat < b.nextRec → b.recs.length + num.toNat < b.nextRec → Serves (.recordRead num) s r 11 [] b))
    ∧ (∀ num piece, Asked b r 0x41 → ((∀ c ∈ b.checks, c.num ≠ num) → Serves (.checkpointRead num piece) s r 11 [] b)
        ∧ (∀ c, b.checks.find? (fun c => c.num == num) = some c → c.signed = false → Serves (.checkpointRead num piece) s r 12 [] b)
        ∧ (∀ c, b.checks.find? (fun c => c.num == num) = some c → c.signed = true → Serves (.checkpointRead num piece) s r 0 ((c.bytes.drop (1016 * piece)).take 1016) b))
    ∧ (∀ value : Word, Asked b r 0x42 → ((∀ a ∈ b.audit, a.value ≠ value.toNat) → Serves (.auditRead value) s r 11 [] b)
        ∧ (∀ a, b.audit.find? (fun a => a.value == value.toNat) = some a → Serves (.auditRead value) s r 0
            (Config.boltPack 0x42 ([(a.value : Int), a.param, a.scale, a.boots, a.secs] ++ (a.old ++ a.new).map (fun x => (x.toNat : Int)))) b))
    ∧ (∀ who ∉ [Who.pf0, .hinge, .debug], GivesDev (.mbEventRead who) s { d with answer := [0] })
    ∧ (∀ who ∈ [Who.pf0, .hinge, .debug], b.events = [] → GivesDev (.mbEventRead who) s { d with answer := [d.regView (m + Off.MB_EVENT)] })
    ∧ (∀ who ∈ [Who.pf0, .hinge, .debug], ∀ code scale rest, b.events = (code, scale) :: rest → d.readsOn .bolt = true →
        (b.lost = false → Gives (.mbEventRead who) s (fun t => t.dev.answer = [d.regView (m + Off.MB_EVENT)] ∧ t.bolt = { b with events := rest }))
        ∧ (b.lost = true → Gives (.mbEventRead who) s (fun t => t.bolt = { b with events := rest ++ [(0x09, 0xFF)], lost := false }))
        ∧ (who = .hinge → code < 256 → d.boot.down.contains 12 = false → (d.waiting 0x0B).length < 8 → Gives (.mbEventRead who) s (fun t => Recorded t.dev 0x0B kBOLT code)))

/-- R419–R425, R435: a change of a legal parameter needs the open seal and a counter below its maximum; SCALE_CFG, CALIBRATE, KEY_SET, CHANNEL_BIND and a verified BOLT_FW_LOAD raise the counter and leave an audit entry and its event; parameters out of range and a bad image change nothing. -/
def Obligations.BoltLegalCommands : Prop :=
  ∀ (s : State) (r : BReq),
    let b := s.bolt
    let x := b.scale r.scale
    (∀ i op, sealedOp i = some op → Asked b r op →
        (r.sealOpen = false → Serves i s r 2 [] b) ∧ (r.sealOpen = true → b.legal = 2 ^ 32 - 1 → Serves i s r 9 [] b))
    ∧ (r.sealOpen = true → b.legal < 2 ^ 32 - 1 →
        let sets (i : Instr) (op scale : Nat) (p : State → Prop) : Prop := Gives i s (fun t => Answered t r 0 [] ∧ Counted b t.bolt op scale ∧ t.bolt.recs = b.recs ∧ p t)
        let noise := b.events.length < 31
        (∀ maxMg e filt stabMs rate, Asked b r 0x10 →
            (r.scale < 48 → 0 < e → 0 < filt → 10 ≤ rate → rate ≤ 1000 → sets (.scaleCfg maxMg e filt stabMs rate) 0x10 r.scale (fun t =>
                t.bolt.scale r.scale = { x with maxMg := maxMg, e := e, filt := filt, stabMs := stabMs, rate := rate } ∧ (∀ n, n ≠ r.scale → t.bolt.scale n = b.scale n)
                ∧ (noise → t.bolt.events = b.events ++ (0x03, r.scale) :: if b.legal + 1 = 2 ^ 32 - 1 then [(0x08, 0xFF)] else [])))
            ∧ ((48 ≤ r.scale ∨ e = 0 ∨ filt = 0 ∨ rate < 10 ∨ 1000 < rate) → Serves (.scaleCfg maxMg e filt stabMs rate) s r 1 [] b))
        ∧ (Asked b r 0x11 → r.scale < 48 →
            let w := x.window
            let sum := w.foldl (· + ·) 0
            (x.online = false → Serves (.calibrate none) s r 4 [] b)
            ∧ (x.online = true → w ≠ [] → sets (.calibrate none) 0x11 r.scale (fun t => t.bolt.scale r.scale = { x with zero := rneDiv sum w.length, calZero := rneDiv sum w.length }))
            ∧ (∀ load, x.online = true → w ≠ [] → 0 < load → x.zero * w.length < sum → sets (.calibrate (some load)) 0x11 r.scale (fun t => (t.bolt.scale r.scale).spanNum = ((load * w.length : Nat) : Int)
                ∧ (t.bolt.scale r.scale).spanDen = (sum - x.zero * w.length).toNat ∧ (t.bolt.scale r.scale).zero = x.zero))
            ∧ (x.online = true → w ≠ [] → Serves (.calibrate (some 0)) s r 1 [] b))
        ∧ (∀ bytes, Asked b r 0x12 → sets (.keySet .indicator bytes) 0x12 0xFF (fun t => t.bolt.keyInd = bytes ∧ t.bolt.keyPrice = b.keyPrice)
            ∧ sets (.keySet .price bytes) 0x12 0xFF (fun t => t.bolt.keyPrice = bytes ∧ t.bolt.keyInd = b.keyInd)
            ∧ (4 ≤ r.scale → r.scale < 48 → bytes.length = 32 → sets (.keySet .link bytes) 0x12 r.scale (fun t => t.bolt.scale r.scale = { x with key := bytes }))
            ∧ ((r.scale < 4 ∨ bytes.length ≠ 32) → Serves (.keySet .link bytes) s r 1 [] b))
        ∧ (∀ (p : Fin 8) (c : Fin 4096) key, Asked b r 0x13 →
            (4 ≤ r.scale → r.scale < 48 → key.length = 32 → sets (.channelBind p c key) 0x13 r.scale (fun t => t.bolt.scale r.scale = { x with bind := some (p, c), key := key, counter := none }
                ∧ t.dev.weighBind = t.bolt.scales.filterMap (fun e => e.2.bind)))
            ∧ ((r.scale < 4 ∨ key.length ≠ 32) → Serves (.channelBind p c key) s r 1 [] b))
        ∧ (∀ piece, Asked b r 0x14 → let img := b.loading ++ piece
            Serves (.boltFwLoad piece false) s r 0 [] { b with loading := img }
            ∧ ((Config.boltImageOk img = false ∨ Config.boltVersion img < b.anti) → Serves (.boltFwLoad piece true) s r 8 [] { b with loading := [] })
            ∧ (Config.boltImageOk img = true → b.anti ≤ Config.boltVersion img → sets (.boltFwLoad piece true) 0x14 0xFF (fun t => t.bolt.image = img ∧ t.bolt.loading = [] ∧ t.bolt.anti = Config.boltVersion img))))

/-- R421, R426–R428, R430, R432, R435: the commands of weighing run with the seal closed; ZERO and TARE need a stable figure and a preset a multiple of e within Max; WEIGH is refused in its order, waits 3 s for a stable figure, and records number, counter, net, tare, unit price and the price of the net, which it also prints. -/
def Obligations.BoltWeighing : Prop :=
  ∀ (s : State) (r : BReq),
    let b := s.bolt
    let x := b.scale r.scale
    let now := b.time
    (∀ i op, closedOp i = some op → Asked b r op → r.sealOpen = true → Gives i s (fun t => Answered t r 3 [] ∧ t.bolt = { b with req := none }))
    ∧ (∀ item ref clear, Asked b r 0x23 → b.sealOpen = true → Gives (.weigh item ref clear) s (fun t => Answered t r 3 [] ∧ t.bolt = { b with req := none }))
    ∧ (r.scale < 48 → r.sealOpen = false →
        let w := x.about x.calZero
        (Asked b r 0x20 → (x.online = false → Serves .zero s r 4 [] b)
            ∧ (x.online = true → x.stable now = false → Serves .zero s r 5 [] b)
            ∧ (x.online = true → x.stable now = true → (x.maxMg : Int) < 50 * w.natAbs → Serves .zero s r 6 [Config.rangeSide (decide (0 < w))] b)
            ∧ (x.online = true → x.stable now = true → 50 * (w.natAbs : Int) ≤ x.maxMg → Serves .zero s r 0 []
                (b.setScale r.scale { x with zero := rneDiv (x.window.foldl (· + ·) 0) x.window.length })))
        ∧ (Asked b r 0x21 → (∀ g, x.e ∣ 1000 * g → 1000 * g ≤ x.maxMg → Serves (.tare (some g)) s r 0 [] (b.setScale r.scale { x with tare := 1000 * g, tareKind := 1 }))
            ∧ (∀ g, ¬(x.e ∣ 1000 * g) ∨ x.maxMg < 1000 * g → Serves (.tare (some g)) s r 10 [] b)
            ∧ (x.online = true → x.stable now = false → Serves (.tare none) s r 5 [] b)
            ∧ (x.online = true → x.stable now = true → x.overload = false → 0 ≤ x.gross → Serves (.tare none) s r 0 [] (b.setScale r.scale { x with tare := x.gross.toNat, tareKind := 2 })))
        ∧ (∀ item ref clear, Asked b r 0x23 → b.sealOpen = false →
            let go := Instr.weigh item ref clear
            (x.online = false → Gives go s (fun t => Answered t r 4 [] ∧ t.bolt = { b with req := none }))
            ∧ (x.online = true → x.stable now = false → now < r.took + 75000000 → Stays go s ∧ Stays .unstable s)
            ∧ (x.online = true → x.stable now = false → r.took + 75000000 ≤ now → Gives go s (fun t => Answered t r 5 [] ∧ t.bolt = { b with req := none })
                ∧ Gives .unstable s (fun t => Answered t r 5 [] ∧ t.bolt = { b with req := none }))
            ∧ (x.online = true → x.stable now = true →
                (x.overload = true → Serves go s r 6 [Config.rangeSide true] b)
                ∧ (x.overload = false → x.underload = true → Serves go s r 6 [Config.rangeSide false] b)
                ∧ (x.overload = false → x.underload = false → Tab.get none b.prices item.toNat = none → Serves go s r 7 [] b)
                ∧ (∀ e : Price, x.overload = false → x.underload = false → Tab.get none b.prices item.toNat = some e →
                    let tare := match e.preset with | some g => 1000 * g | none => x.tare
                    let net := x.gross - tare
                    let price := rneDiv (net * e.price) (if e.per100 then 10 ^ 5 else 10 ^ 6)
                    (∀ g, e.preset = some g → (¬(x.e ∣ 1000 * g) ∨ x.maxMg < 1000 * g) → Serves go s r 10 [] b)
                    ∧ (e.preset = none → net ≤ 0 → Serves go s r 6 [Config.rangeSide false] b)
                    ∧ ((∀ g, e.preset = some g → x.e ∣ 1000 * g ∧ 1000 * g ≤ x.maxMg) → 0 < net → net < 2 ^ 31 → tare < 2 ^ 32 → price < 2 ^ 32 → b.sinceCheck ≠ 1023 →
                        Gives go s (fun t => ∃ rec, Answered t r 0 (rec.take 1016) ∧ t.bolt.recs = (rec :: b.recs).take 65536 ∧ t.bolt.nextRec = b.nextRec + 1 ∧ t.bolt.sinceCheck = b.sinceCheck + 1
                          ∧ t.bolt.checks = b.checks ∧ t.bolt.legal = b.legal ∧ (∃ line, t.bolt.msp = b.msp ++ [line])
                          ∧ leAt rec 0 4 = b.nextRec % 2 ^ 32 ∧ leAt rec 4 4 = b.legal % 2 ^ 32 ∧ leAt rec 12 4 = item.toNat ∧ (leAt rec 16 4 : Int) = net ∧ leAt rec 20 4 = tare
                          ∧ (leAt rec 28 4 : Int) = price ∧ leAt rec 44 8 = ref.toNat
                          ∧ (clear = true → (t.bolt.scale r.scale).tare = 0) ∧ (clear = false → t.bolt.scale r.scale = x)))))))
    ∧ (r.scale < 48 → Asked b r 0x22 → Serves .clearTare s r 0 [] (b.setScale r.scale { x with tare := 0, tareKind := 0 }))
    ∧ (48 ≤ r.scale → Asked b r 0x22 → Serves .clearTare s r 1 [] b)
    ∧ (r.scale < 48 → Asked b r 0x24 → (x.online = false → Serves .readWeight s r 4 [] b)
        ∧ (x.online = true → Serves .readWeight s r 0 (Config.boltPack 0x24 [x.gross, ((if x.stable now then 1 else 0 : Nat) : Int)]) b))

/-- R27, R29, R418, R420, R424, R425, R431, R432, R435, R436: the seal's level is an event and a line; a sample of a configured port joins its scale and brings it ONLINE, and silence takes it OFFLINE; a good weighing frame gives its samples and its counter, another counts as a reject; the checkpoints and their signing; the identification line; power on, power down and the
watchdog keep what the Bolt's flash holds. -/
def Obligations.BoltInputs : Prop :=
  ∀ (s : State),
    let d := s.dev
    let b := s.bolt
    let boltOf (i : Instr) (c : Bolt) : Prop := Gives i s (fun t => t.bolt = c ∧ t.dev.hbm = d.hbm ∧ t.dev.jobs = d.jobs ∧ t.dev.weighQ = d.weighQ)
    let line (cs : List Byte) : List (List Byte) := b.msp ++ [cs ++ [0x0D, 0x0A]]
    (b.power = true →
      (∀ isOpen, b.sealOpen = isOpen → Stays (.sealChange isOpen) s)
      ∧ (b.events.length < 32 → (b.sealOpen = false → boltOf (.sealChange true) { b with sealOpen := true, events := b.events ++ [(0x01, 0xFF)], msp := line [0x53, 0x31] })
          ∧ (b.sealOpen = true → boltOf (.sealChange false) { b with sealOpen := false, events := b.events ++ [(0x02, 0xFF)], msp := line [0x53, 0x30] }))
      ∧ (∀ (p : Fin 4) (v : BitVec 24), (b.scale p).e = 0 → Stays (.adcSample p v) s)
      ∧ (∀ (p : Fin 4) (v : BitVec 24), (b.scale p).e ≠ 0 → (b.scale p).online = true → boltOf (.adcSample p v) (b.setScale p ((b.scale p).sample b.time v.toInt)))
      ∧ (∀ (p : Fin 4) (v : BitVec 24), (b.scale p).e ≠ 0 → (b.scale p).online = false → b.events.length < 32 → Gives (.adcSample p v) s (fun t => (t.bolt.scale p).online = true
          ∧ (t.bolt.scale p).samples.head? = some (b.time, v.toInt) ∧ t.bolt.events = b.events ++ [(0x06, p.val)] ∧ ∀ n, n ≠ p.val → t.bolt.scale n = b.scale n))
      ∧ (d.weighQ = [] → Stays .boltWeighFrame s)
      ∧ (∀ f q, d.weighQ = f :: q →
          let body := f.bytes.take (f.bytes.length - 32)
          let sent := f.bytes.drop (f.bytes.length - 32)
          let ctr := leAt f.bytes 0 4
          let k := leAt f.bytes 4 1
          ((∀ e ∈ b.scales, e.2.bind ≠ some (f.pane, f.chan)) → GivesDev .boltWeighFrame s { d with weighQ := q })
          ∧ (∀ n x, b.scales.find? (fun e => e.2.bind == some (f.pane, f.chan)) = some (n, x) →
              ((hmac256 x.key body ≠ sent ∨ x.counter = some ctr ∨ k = 0 ∨ 66 < k ∨ f.bytes.length ≠ 40 + 3 * k) → Gives .boltWeighFrame s (fun t => t.dev.weighQ = q ∧ t.bolt = b.setScale n { x with rejects := x.rejects + 1 }))
              ∧ (hmac256 x.key body = sent → x.counter = none → 1 ≤ k → k ≤ 66 → f.bytes.length = 40 + 3 * k → Gives .boltWeighFrame s (fun t => t.dev.weighQ = q
                  ∧ t.bolt.scale n = { ((List.range k).map (fun i => sgn 24 (leAt f.bytes (8 + 3 * i) 3))).foldl (fun y v => y.sample b.time v) x with counter := some ctr, online := true }
                  ∧ ∀ j, j ≠ n → t.bolt.scale j = b.scale j))))
      ∧ (∀ n : Fin 48, let x := b.scale n
          let quiet := if n.val < 4 then 250000000 / x.rate else 12500000
          (b.time < x.seen + quiet → Stays (.scaleOffline n) s)
          ∧ (x.online = true → x.seen + quiet ≤ b.time → b.events.length < 32 → boltOf (.scaleOffline n) { b.setScale n { x with online := false } with events := b.events ++ [(0x05, n.val)] }))
      ∧ (b.sinceCheck = 0 ∨ b.time < b.checkAt + 1500000000 → Stays .checkpointTimer s)
      ∧ (0 < b.sinceCheck → b.checkAt + 1500000000 ≤ b.time → b.events.length < 32 → Gives .checkpointTimer s (fun t => t.bolt.sinceCheck = 0 ∧ t.bolt.checkAt = b.time ∧ t.bolt.events = b.events ++ [(0x04, 0xFF)]
          ∧ ∃ c, t.bolt.checks = c :: b.checks ∧ c.num = b.checks.length ∧ c.first = b.nextRec - b.sinceCheck ∧ c.last = b.nextRec - 1 ∧ c.legal = b.legal ∧ c.signed = false))
      ∧ (∀ c, b.checks.reverse.find? (fun c => !c.signed) = some c → boltOf .checkpointSigned { b with checks := b.checks.map (fun x => if x.num = c.num then { x with signed := true } else x) })
      ∧ boltOf .mspIdentifyLine { b with msp := line (0x49 :: (Config.boltIdent b.image ++ hex8 (crc32 (Config.boltLegalPart b.image)))) }
      ∧ Stays (.boltPowerOn true) s
      ∧ Gives .boltPowerDown s (fun t => t.bolt = { b with power := false, req := none, events := [], lost := false } ∧ t.dev.dom 47 = 0)
      ∧ Gives .watchdogReset s (fun t => t.bolt.boots = b.boots + 1 ∧ t.bolt.time = 0 ∧ t.bolt.req = none ∧ t.bolt.events = [(0x07, 0xFF)] ∧ t.bolt.legal = b.legal ∧ t.bolt.recs = b.recs
          ∧ ∀ n, (t.bolt.scale n).tare = 0 ∧ (t.bolt.scale n).samples = [] ∧ (t.bolt.scale n).online = false))
    ∧ (b.power = false →
      (∀ i ∈ [Instr.mspIdentifyLine, .checkpointTimer, .boltWeighFrame, .boltPowerDown, .watchdogReset, .sealChange true, .scaleOffline 0, .adcSample 0 0, .checkpointSigned], Stays i s)
      ∧ (∀ isOpen, Gives (.boltPowerOn isOpen) s (fun t => t.bolt.power = true ∧ t.bolt.boots = b.boots + 1 ∧ t.bolt.time = 0 ∧ t.bolt.sealOpen = isOpen ∧ t.bolt.legal = b.legal ∧ t.bolt.audit = b.audit
          ∧ t.bolt.recs = b.recs ∧ t.bolt.nextRec = b.nextRec ∧ t.bolt.prices = b.prices ∧ t.bolt.keyInd = b.keyInd ∧ t.bolt.events = [] ∧ t.dev.dom 47 = 2
          ∧ (∀ c : Fin 2, t.dev.fld (Block.bolt.base + Off.MB_STATUS c) Fl.MB_STATUS_STATE = 0)
          ∧ ∀ n, (t.bolt.scale n).tare = 0 ∧ (t.bolt.scale n).samples = [] ∧ (t.bolt.scale n).online = false)))

/-! ### The block as a whole -/

namespace Sys2Proof.Claims

open Sys2Proof Sys2Proof.Machine

/-- The legally relevant values of a scale (R421, R422): configuration, calibration, binding and link key. -/
def legalPart (x : Scale) : List Int × Int × Int × Nat × Option (Nat × Nat) × List Byte := (x.cfg, x.calZero, x.spanNum, x.spanDen, x.bind, x.key)

end Sys2Proof.Claims

/-- A step runs the command at the front of the queue on the state with the queue's rest; no word of the opcode table spells a command. -/
def Obligations.StepRunsFront : Prop :=
  (∀ (c : Sys2Proof.Instr) q (s : Sys2Proof.Machine.State),
    Sys2Proof.Machine.step { s with pending := c :: q } = Sys2Proof.Machine.exec c { s with pending := q })
  ∧ ∀ n w (s : Sys2Proof.Machine.State), Sys2Proof.decodeTableWord n w = none ∧ s.withFetchWord n w = s

open Sys2Proof.Machine Sys2Proof.Claims in
/-- With no command waiting one tick of 40 ns passes (the model's own choice, log entry 3): the tick counter advances, the core cycles of a side whose fabric is ON
advance by four per 100 MHz, the Bolt's time advances while it has power, and no core, memory, stream, job, ring or flash byte changes. -/
def Obligations.TickOfTime : Prop :=
  ∀ s : State, s.pending = [] → ∃ t, step s = .next t ∧ t.pending = []
    ∧ t.dev.tick = s.dev.tick + 1
    ∧ (∀ side : Fin 2, Tab.get 0 t.dev.sideCyc side =
        Tab.get 0 s.dev.sideCyc side + (if s.dev.domOn (shFabric side) then 4 * s.dev.fld (Block.pwr.base + Off.PWR_GOV_STATUS) (govClk side) else 0))
    ∧ t.bolt = { s.bolt with time := if s.bolt.power then s.bolt.time + 1 else s.bolt.time }
    ∧ t.dev.cores = s.dev.cores ∧ t.dev.stages = s.dev.stages ∧ t.dev.lus = s.dev.lus ∧ t.dev.hbm = s.dev.hbm ∧ t.dev.hbmUe = s.dev.hbmUe
    ∧ t.dev.jobs = s.dev.jobs ∧ t.dev.streams = s.dev.streams ∧ t.dev.batchers = s.dev.batchers ∧ t.dev.epoch = s.dev.epoch
    ∧ t.dev.aunits = s.dev.aunits ∧ t.dev.cams = s.dev.cams ∧ t.dev.panes = s.dev.panes
    ∧ t.dev.host = s.dev.host ∧ t.dev.longs = s.dev.longs ∧ t.dev.flash = s.dev.flash ∧ t.dev.answer = s.dev.answer ∧ t.dev.fresh = s.dev.fresh

open Sys2Proof.Machine Sys2Proof.Claims in
/-- Every command answers a next state, from every state. The Bolt is apart (R28, R418): a command of the device changes neither the queue nor the Bolt, but that a read may take an event and the Hinge's request at start-up is served; a command of the Bolt changes, of the device, only the
mailbox window, the weighing queue and the bound channels, its power domain, the records it emits, the answer to a read and the free values used up. -/
def Obligations.BoltIsApart : Prop :=
  ∀ (i : Sys2Proof.Instr) (s : State), ∃ t, exec i s = .next t
    ∧ t.pending = s.pending
    ∧ (boltRow i = false → t.bolt = if touchesBolt i then { s.bolt with events := t.bolt.events, lost := t.bolt.lost, served := t.bolt.served } else s.bolt)
    ∧ (boltRow i = true → s.bolt.Inv →
        { t.dev with
          regs := s.dev.regs
          tel := { t.dev.tel with waiting := s.dev.tel.waiting, last := s.dev.tel.last }
          weighQ := s.dev.weighQ
          weighBind := s.dev.weighBind
          answer := s.dev.answer
          fresh := s.dev.fresh } = s.dev
        ∧ ∀ o, (o < Block.bolt.base ∨ Block.bolt.base + 0x1000 ≤ o) → o ≠ Block.pwr.base + Off.PWR_DOM 47 → o ≠ Block.tel.base + Off.TEL_SRC_DROPS →
            t.dev.reg o = s.dev.reg o)

open Sys2Proof.Machine Sys2Proof.Claims in
/-- Every step keeps the Bolt's invariant: the counter within 32 bits, the audit ring, the event queue and the record store within their sizes, the table of
48 scales in its form. -/
def Obligations.BoltInvKept : Prop :=
  ∀ s t : State, s.bolt.Inv → step s = .next t → t.bolt.Inv

open Sys2Proof.Machine Sys2Proof.Claims in
/-- What reset leaves: no command waits, time is 0, every core is in RESET, no job, stream, transfer or Latch word is in use, memory lists nothing, the Bolt's
invariant holds, and every register stands at its reset value, among them those the specification names. Memory reading 0 and the Bolt's empty keys are the model's choices (log entries 2 and 39). -/
def Obligations.ResetState : Prop :=
  let s := State.reset
  s.pending = [] ∧ s.dev.tick = 0 ∧ s.bolt.Inv ∧ s.bolt.legal = 0 ∧ s.bolt.power = false
  ∧ s.dev.hbm.wf = true ∧ s.dev.host.wf = true ∧ (∀ a, s.dev.hbm.byte a = 0)
  ∧ (∀ k, (s.dev.core k).state = .reset ∧ s.dev.stage k = [] ∧ (s.dev.core k).fld Off.CORE_STATUS Fl.CORE_STATUS_STATE = 1)
  ∧ (∀ k, (s.dev.core k).reg Off.STALL_LIMIT = 0x61A8)
  ∧ (∀ j, s.dev.job j = Job.free) ∧ (∀ i, s.dev.stream i = Stream.free) ∧ s.dev.longs = []
  ∧ (∀ o, s.dev.reg o = regReset o)
  ∧ s.dev.reg (Block.sch.base + Off.BE_SLICE) = 0x3D090 ∧ s.dev.fld (Block.opt.base + Off.OPT_BOND) Fl.OPT_BOND_BOND_EN = 1
  ∧ s.dev.reg (Block.pwr.base + Off.PWR_DOZE_IDLE) = 0x3D090 ∧ s.dev.fld (Block.pwr.base + Off.PWR_DOZE) Fl.PWR_DOZE_DOZE_EN = 1
  ∧ (∀ p : Fin 8, s.dev.reg (Block.opt.base + Off.PANE_CTRL p) = 1)
  ∧ (∀ c : Fin 64, s.dev.fld (Block.fin.base + Off.CAM_CFG c) Fl.CAM_CFG_EN = 0)
  ∧ s.dev.reg (Block.bolt.base + Off.MB_EVENT) = 0xFF00

open Sys2Proof.Machine Sys2Proof.Claims in
/-- 32-bit counters wrap to 0 with their block's COUNTER_WRAP event: the lost-record count of the log and the replayed bridge flits; short of the wrap they rise by one and record nothing. -/
def Obligations.CountersWrap : Prop :=
  ∀ (s : State) (side : Fin 2) (router : Fin 16) (who : Sys2Proof.Who) (n : Fin 8192),
    let d := s.dev
    let lost := Block.tel.base + Off.TEL_LOG_LOST
    let replay := (Block.mesh side).base + Off.MESH_BR_REPLAY
    (n.val % 8 = 0 → d.reg lost = 0xFFFFFFFF → (d.waiting 0x0C).length < 8 →
      Gives (.logSlotRead who n true) s (fun t => t.dev.reg lost = 0 ∧ Recorded t.dev 0x0C kECC 0x0D ∧ (t.dev.waiting 0x0C).length = (d.waiting 0x0C).length + 1))
    ∧ (router.val < 12 → ∀ again, Stays (.bridgeFlitError side router again) s)
    ∧ (12 ≤ router.val → d.reg replay = 0xFFFFFFFF → (d.waiting (srcMesh side)).length < 8 →
        Gives (.bridgeFlitError side router false) s (fun t => t.dev.reg replay = 0 ∧ Recorded t.dev (srcMesh side) kECC 0x0D
          ∧ (∀ x, x ≠ srcMesh side.val → t.dev.waiting x = d.waiting x)))
    ∧ (12 ≤ router.val → d.reg replay = 0xFFFFFFFF → 8 ≤ (d.waiting (srcMesh side)).length → (d.reg (Block.tel.base + Off.TEL_SRC_DROPS)).toNat + 1 < 2 ^ 32 →
        Gives (.bridgeFlitError side router false) s (fun t => t.dev.reg replay = 0 ∧ { t.dev.tel with last := d.tel.last } = d.tel
          ∧ (t.dev.reg (Block.tel.base + Off.TEL_SRC_DROPS)).toNat = (d.reg (Block.tel.base + Off.TEL_SRC_DROPS)).toNat + 1))
    ∧ (12 ≤ router.val → d.reg replay ≠ 0xFFFFFFFF →
        Gives (.bridgeFlitError side router false) s (fun t => (t.dev.reg replay).toNat = (d.reg replay).toNat + 1 ∧ t.dev.tel = d.tel
          ∧ ∀ o, o ≠ replay → t.dev.reg o = d.reg o))

open Sys2Proof.Machine Sys2Proof.Claims in
/-- The seal (R421) and what it protects: an S command of a request taken with the seal closed is answered SEALED, and WEIGH and TARE of one taken with the seal open SEAL_OPEN, with nothing else
changed; no step lowers the legal event counter or raises it by more than 1; it rises only for a request taken with the seal open and below its maximum, with the audit entry of the change; while it stands,
no legally relevant value, key, binding, image or audit entry changes; and a record is committed only while the seal is closed, for a WEIGH taken with the seal closed. -/
def Obligations.LegalCounterNeverFalls : Prop :=
  (∀ (s : State) (r : BReq) (i : Sys2Proof.Instr) (op : Nat), Asked s.bolt r op →
    (sealedOp i = some op → r.sealOpen = false → Serves i s r 2 [] s.bolt) ∧ (closedOp i = some op → r.sealOpen = true → Gives i s (fun t => Answered t r 3 [] ∧ t.bolt = { s.bolt with req := none })))
  ∧ ∀ s t : State, s.bolt.Inv → step s = .next t →
    let b := s.bolt
    let b' := t.bolt
    b.legal ≤ b'.legal ∧ b'.legal ≤ b.legal + 1
    ∧ (b'.legal = b.legal → b'.keyInd = b.keyInd ∧ b'.keyPrice = b.keyPrice ∧ b'.image = b.image ∧ b'.anti = b.anti ∧ b'.audit = b.audit
        ∧ ∀ n, legalPart (b'.scale n) = legalPart (b.scale n))
    ∧ (b'.legal ≠ b.legal → b.power = true ∧ b.legal < legalMax ∧ (∃ r, b.req = some r ∧ r.sealOpen = true)
        ∧ b'.recs = b.recs ∧ ∃ a, b'.audit = (a :: b.audit).take 1024 ∧ a.value = b'.legal ∧ a.boots = b.boots)
    ∧ b.nextRec ≤ b'.nextRec ∧ b'.nextRec ≤ b.nextRec + 1
    ∧ (b'.nextRec = b.nextRec → b'.recs = b.recs)
    ∧ (b'.nextRec ≠ b.nextRec → b.power = true ∧ b.sealOpen = false ∧ (∃ r, b.req = some r ∧ r.op = 0x23 ∧ r.sealOpen = false) ∧ ∃ bytes, b'.recs = (bytes :: b.recs).take 65536)
end

