-- ==== Sys2Proof/Laws/Bits.lean ====
section
/-! SUPPORT. The laws of bit fields. -/

namespace Sys2Proof.Machine

/-- The fit of a field into a word. -/
def Fld.fits (f : Fld) : Bool := decide (f.lo + f.len ≤ 32)

/-- Fields that share no bit. -/
def Fld.apart (f g : Fld) : Bool := decide (f.lo + f.len ≤ g.lo) || decide (g.lo + g.len ≤ f.lo)

/-- The number of a word with a field written. -/
theorem Fld.toNat_put (f : Fld) (hf : f.fits = true) (w : Word) (v : Nat) :
    (f.put w v).toNat = w.toNat % 2 ^ f.lo + (v % 2 ^ f.len) * 2 ^ f.lo + w.toNat / 2 ^ (f.lo + f.len) * 2 ^ (f.lo + f.len) := by
  simp only [Fld.fits, decide_eq_true_eq] at hf
  unfold Fld.put
  rw [BitVec.toNat_ofNat]
  apply Nat.mod_eq_of_lt
  have h1 : w.toNat % 2 ^ f.lo < 2 ^ f.lo := Nat.mod_lt _ (Nat.two_pow_pos _)
  have h2 : v % 2 ^ f.len + 1 ≤ 2 ^ f.len := Nat.mod_lt _ (Nat.two_pow_pos _)
  have h3 : w.toNat % 2 ^ f.lo + (v % 2 ^ f.len) * 2 ^ f.lo < 2 ^ (f.lo + f.len) := by
    have := Nat.mul_le_mul_right (2 ^ f.lo) h2
    rw [Nat.pow_add, Nat.mul_comm (2 ^ f.lo)]
    rw [Nat.add_mul] at this
    omega
  have h4 : w.toNat / 2 ^ (f.lo + f.len) + 1 ≤ 2 ^ (32 - (f.lo + f.len)) := by
    apply Nat.div_lt_of_lt_mul
    rw [← Nat.pow_add, show f.lo + f.len + (32 - (f.lo + f.len)) = 32 by omega]
    exact w.isLt
  have h5 := Nat.mul_le_mul_right (2 ^ (f.lo + f.len)) h4
  rw [← Nat.pow_add, show 32 - (f.lo + f.len) + (f.lo + f.len) = 32 by omega, Nat.add_mul] at h5
  omega

/-- A field just written reads as the value, modulo its width. -/
theorem Fld.get_put (f : Fld) (hf : f.fits = true) (w : Word) (v : Nat) : f.get (f.put w v) = v % 2 ^ f.len := by
  unfold Fld.get
  rw [f.toNat_put hf]
  have h1 : w.toNat % 2 ^ f.lo < 2 ^ f.lo := Nat.mod_lt _ (Nat.two_pow_pos _)
  rw [Nat.pow_add, Nat.mul_comm (2 ^ f.lo) (2 ^ f.len), ← Nat.mul_assoc, Nat.add_assoc, ← Nat.add_mul,
    Nat.add_mul_div_right _ _ (Nat.two_pow_pos _), Nat.div_eq_of_lt h1, Nat.zero_add, Nat.add_mul_mod_self_right,
    Nat.mod_mod]

/-- Writing a field leaves a field apart from it alone. -/
theorem Fld.get_put_apart (f g : Fld) (hf : f.fits = true) (h : f.apart g = true) (w : Word) (v : Nat) : g.get (f.put w v) = g.get w := by
  simp only [Fld.apart, Bool.or_eq_true, decide_eq_true_eq] at h
  unfold Fld.get
  rw [f.toNat_put hf]
  rcases h with h | h
  · obtain ⟨k, hk⟩ := Nat.exists_eq_add_of_le h
    have e1 : w.toNat % 2 ^ f.lo + (v % 2 ^ f.len) * 2 ^ f.lo < 2 ^ (f.lo + f.len) := by
      have h1 : w.toNat % 2 ^ f.lo < 2 ^ f.lo := Nat.mod_lt _ (Nat.two_pow_pos _)
      have h2 : v % 2 ^ f.len + 1 ≤ 2 ^ f.len := Nat.mod_lt _ (Nat.two_pow_pos _)
      have := Nat.mul_le_mul_right (2 ^ f.lo) h2
      rw [Nat.pow_add, Nat.mul_comm (2 ^ f.lo)]
      rw [Nat.add_mul] at this
      omega
    have e2 : 2 ^ g.lo = 2 ^ (f.lo + f.len) * 2 ^ k := by rw [hk, Nat.pow_add]
    rw [e2, ← Nat.div_div_eq_div_mul, ← Nat.div_div_eq_div_mul, Nat.add_mul_div_right _ _ (Nat.two_pow_pos _),
      Nat.div_eq_of_lt e1, Nat.zero_add]
  · obtain ⟨k, hk⟩ := Nat.exists_eq_add_of_le h
    have e : ∀ x y : Nat, (x % 2 ^ f.lo + y * 2 ^ f.lo) / 2 ^ g.lo % 2 ^ g.len = x / 2 ^ g.lo % 2 ^ g.len := by
      intro x y
      have l : ∀ z : Nat, z / 2 ^ g.lo % 2 ^ g.len = z % 2 ^ f.lo / 2 ^ g.lo % 2 ^ g.len := by
        intro z
        rw [hk, Nat.pow_add, Nat.pow_add, Nat.mul_assoc, Nat.mod_mul_right_div_self, Nat.mod_mod_of_dvd _ (Nat.dvd_mul_right _ _)]
      rw [l (x % 2 ^ f.lo + y * 2 ^ f.lo), l x, Nat.add_mul_mod_self_right, Nat.mod_mod]
    rw [Nat.pow_add, Nat.mul_comm (2 ^ f.lo) (2 ^ f.len), ← Nat.mul_assoc, Nat.add_assoc, ← Nat.add_mul, e]

end Sys2Proof.Machine
end

