-- ==== Sys2Proof/Laws/Tab.lean ====
section
/-! SUPPORT. The laws of tables and byte memories: a read after a write, and that every operation keeps the canonical form. -/

namespace Sys2Proof.Machine

namespace Tab

variable {α : Type}

/-- Reading the key just put gives the value put. -/
theorem get_put_same (d : α) (t : Tab α) (k : Nat) (v : α) : get d (put t k v) k = v := by
  induction t with
  | nil => simp [put, get]
  | cons e t ih =>
    obtain ⟨j, w⟩ := e
    unfold put
    split
    · simp [get]
    · split
      · simp [get]
      · simp [get, *]

/-- Putting a key leaves every other key alone. -/
theorem get_put_ne (d : α) (t : Tab α) {k k' : Nat} (v : α) (h : k' ≠ k) : get d (put t k v) k' = get d t k' := by
  induction t with
  | nil => simp [put, get, h.symm]
  | cons e t ih =>
    obtain ⟨j, w⟩ := e
    unfold put
    split
    · simp [get, h.symm]
    · split
      · subst_vars; simp [get, h.symm]
      · simp [get, ih]

/-- A removed key reads as the default. -/
theorem get_del_same (d : α) (t : Tab α) (k : Nat) : get d (del t k) k = d := by
  induction t with
  | nil => rfl
  | cons e t ih =>
    obtain ⟨j, w⟩ := e
    unfold del
    split
    · exact ih
    · simp [get, *]

/-- Removing a key leaves every other key alone. -/
theorem get_del_ne (d : α) (t : Tab α) {k k' : Nat} (h : k' ≠ k) : get d (del t k) k' = get d t k' := by
  induction t with
  | nil => rfl
  | cons e t ih =>
    obtain ⟨j, w⟩ := e
    unfold del
    split
    · subst_vars; simp [get, h.symm, ih]
    · simp [get, ih]

variable [DecidableEq α]

/-- A read after a write to the same key gives the value written. -/
@[simp] theorem get_set_same (d : α) (t : Tab α) (k : Nat) (v : α) : get d (set d t k v) k = v := by
  unfold set
  split
  · next h => rw [h]; exact get_del_same d t k
  · exact get_put_same d t k v

/-- A write leaves every other key alone. -/
theorem get_set_ne (d d' : α) (t : Tab α) {k k' : Nat} (v : α) (h : k' ≠ k) : get d' (set d t k v) k' = get d' t k' := by
  unfold set
  split
  · exact get_del_ne d' t h
  · exact get_put_ne d' t v h

/-- Reading any key after a write. -/
theorem get_set (d : α) (t : Tab α) (k k' : Nat) (v : α) : get d (set d t k v) k' = if k' = k then v else get d t k' := by
  split
  · next h => rw [h]; exact get_set_same d t k v
  · exact get_set_ne d d t v ‹_›

/-- A table from a later key on is one from an earlier key on. -/
theorem wfFrom_mono (d : α) {m n : Nat} (t : Tab α) (h : m ≤ n) (hw : wfFrom d n t = true) : wfFrom d m t = true := by
  cases t with
  | nil => rfl
  | cons e t =>
    obtain ⟨j, v⟩ := e
    simp only [wfFrom, Bool.and_eq_true, decide_eq_true_eq] at hw ⊢
    exact ⟨⟨le_trans h hw.1.1, hw.1.2⟩, hw.2⟩

/-- Putting a value other than the default keeps the canonical form. -/
theorem wfFrom_put (d : α) (t : Tab α) (n k : Nat) (v : α) (hn : n ≤ k) (hv : v ≠ d) (hw : wfFrom d n t = true) :
    wfFrom d n (put t k v) = true := by
  induction t generalizing n with
  | nil => simp [put, wfFrom, hn, hv]
  | cons e t ih =>
    obtain ⟨j, w⟩ := e
    simp only [wfFrom, Bool.and_eq_true, decide_eq_true_eq] at hw
    unfold put
    split
    · rename_i hk
      simp only [wfFrom, Bool.and_eq_true, decide_eq_true_eq]
      exact ⟨⟨hn, hv⟩, ⟨hk, hw.1.2⟩, hw.2⟩
    · split
      · rename_i hj
        subst hj
        simp only [wfFrom, Bool.and_eq_true, decide_eq_true_eq]
        exact ⟨⟨hn, hv⟩, hw.2⟩
      · simp only [wfFrom, Bool.and_eq_true, decide_eq_true_eq]
        exact ⟨hw.1, ih (j + 1) (by omega) hw.2⟩

/-- Removing a key keeps the canonical form. -/
theorem wfFrom_del (d : α) (t : Tab α) (n k : Nat) (hw : wfFrom d n t = true) : wfFrom d n (del t k) = true := by
  induction t generalizing n with
  | nil => rfl
  | cons e t ih =>
    obtain ⟨j, w⟩ := e
    simp only [wfFrom, Bool.and_eq_true, decide_eq_true_eq] at hw
    unfold del
    split
    · exact ih n (wfFrom_mono d t (by omega) hw.2)
    · simp only [wfFrom, Bool.and_eq_true, decide_eq_true_eq]
      exact ⟨hw.1, ih (j + 1) hw.2⟩

/-- Every write keeps the canonical form. -/
theorem wf_set (d : α) (t : Tab α) (k : Nat) (v : α) (hw : wf d t = true) : wf d (set d t k v) = true := by
  unfold set
  split
  · exact wfFrom_del d t 0 k hw
  · exact wfFrom_put d t 0 k v (Nat.zero_le k) ‹_› hw

/-- Two tables in canonical form that read alike from a key on are the same data. -/
theorem wfFrom_ext (d : α) (t u : Tab α) (n : Nat) (ht : wfFrom d n t = true) (hu : wfFrom d n u = true)
    (h : ∀ k, get d t k = get d u k) : t = u := by
  have low : ∀ (t : Tab α) (n k : Nat), wfFrom d n t = true → k < n → get d t k = d := by
    intro t
    induction t with
    | nil => intros; rfl
    | cons e t ih =>
      intro n k hw hk
      obtain ⟨j, w⟩ := e
      simp only [wfFrom, Bool.and_eq_true, decide_eq_true_eq] at hw
      have : j ≠ k := by omega
      simp only [get, this, if_false]
      exact ih (j + 1) k hw.2 (by omega)
  induction t generalizing u n with
  | nil =>
    cases u with
    | nil => rfl
    | cons e u =>
      obtain ⟨j, w⟩ := e
      simp only [wfFrom, Bool.and_eq_true, decide_eq_true_eq] at hu
      have := h j
      simp only [get, if_true] at this
      exact absurd this.symm hu.1.2
  | cons e t ih =>
    obtain ⟨j, v⟩ := e
    cases u with
    | nil =>
      simp only [wfFrom, Bool.and_eq_true, decide_eq_true_eq] at ht
      have := h j
      simp only [get, if_true] at this
      exact absurd this ht.1.2
    | cons f u =>
      obtain ⟨i, w⟩ := f
      simp only [wfFrom, Bool.and_eq_true, decide_eq_true_eq] at ht hu
      have hij : j = i := by
        rcases Nat.lt_trichotomy j i with hl | he | hg
        · have := h j
          have hne : i ≠ j := by omega
          simp only [get, if_true, hne, if_false] at this
          rw [low u (i + 1) j hu.2 (by omega)] at this
          exact absurd this ht.1.2
        · exact he
        · have := h i
          have hne : j ≠ i := by omega
          simp only [get, if_true, hne, if_false] at this
          rw [low t (j + 1) i ht.2 (by omega)] at this
          exact absurd this.symm hu.1.2
      subst hij
      have hv : v = w := by
        have := h j
        simpa [get] using this
      subst hv
      have : t = u := ih u (j + 1) ht.2 hu.2 (fun k => by
        by_cases hk : j = k
        · subst hk
          rw [low t (j + 1) j ht.2 (by omega), low u (j + 1) j hu.2 (by omega)]
        · have := h k
          simpa [get, hk] using this)
      rw [this]

end Tab

/-! ### Byte memories -/

/-- A byte store is seen at its address and nowhere else. -/
theorem Mem.byte_setByte (m : Mem) (a a' : Nat) (b : Byte) : (m.setByte a b).byte a' = if a' = a then b else m.byte a' :=
  Tab.get_set 0 m a a' b

/-- A byte store keeps the canonical form. -/
theorem Mem.wf_setByte (m : Mem) (a : Nat) (b : Byte) (h : m.wf = true) : (m.setByte a b).wf = true := Tab.wf_set 0 m a b h

/-- A store of bytes keeps the canonical form. -/
theorem Mem.wf_write (bs : List Byte) (m : Mem) (a : Nat) (h : m.wf = true) : (m.write a bs).wf = true := by
  induction bs generalizing m a with
  | nil => exact h
  | cons b bs ih => exact ih _ _ (m.wf_setByte a b h)

/-- A store of bytes leaves every address outside them alone. -/
theorem Mem.byte_write_out (bs : List Byte) (m : Mem) (a x : Nat) (h : x < a ∨ a + bs.length ≤ x) : (m.write a bs).byte x = m.byte x := by
  induction bs generalizing m a with
  | nil => rfl
  | cons b bs ih =>
    simp only [List.length_cons] at h
    simp only [Mem.write]
    rw [ih _ _ (by omega), Mem.byte_setByte, if_neg (by omega)]

/-- A store of bytes is read back. -/
theorem Mem.byte_write_in (bs : List Byte) (m : Mem) (a i : Nat) (h : i < bs.length) : (m.write a bs).byte (a + i) = bs[i] := by
  induction bs generalizing m a i with
  | nil => simp at h
  | cons b bs ih =>
    simp only [Mem.write]
    cases i with
    | zero =>
      rw [Mem.byte_write_out bs _ _ _ (by omega), Nat.add_zero, Mem.byte_setByte, if_pos rfl]
      rfl
    | succ i =>
      have := ih (m.setByte a b) (a + 1) i (by simpa using h)
      rw [show a + (i + 1) = a + 1 + i by omega, this]
      rfl

end Sys2Proof.Machine
end

