-- ==== Sys2Proof/Laws/State.lean ====
section
/-! SUPPORT. One lemma per field and update of the device and of a core: what an update leaves alone, and what a read finds after a write. -/

namespace Sys2Proof.Machine


/-! `setReg` -/

@[simp] theorem Dev.setReg_tick (d : Dev) (o : Nat) (w : Word) : (d.setReg o w).tick = d.tick := rfl
@[simp] theorem Dev.setReg_tickBase (d : Dev) (o : Nat) (w : Word) : (d.setReg o w).tickBase = d.tickBase := rfl
@[simp] theorem Dev.setReg_sideCyc (d : Dev) (o : Nat) (w : Word) : (d.setReg o w).sideCyc = d.sideCyc := rfl
@[simp] theorem Dev.setReg_cores (d : Dev) (o : Nat) (w : Word) : (d.setReg o w).cores = d.cores := rfl
@[simp] theorem Dev.setReg_stages (d : Dev) (o : Nat) (w : Word) : (d.setReg o w).stages = d.stages := rfl
@[simp] theorem Dev.setReg_lus (d : Dev) (o : Nat) (w : Word) : (d.setReg o w).lus = d.lus := rfl
@[simp] theorem Dev.setReg_hbm (d : Dev) (o : Nat) (w : Word) : (d.setReg o w).hbm = d.hbm := rfl
@[simp] theorem Dev.setReg_hbmUe (d : Dev) (o : Nat) (w : Word) : (d.setReg o w).hbmUe = d.hbmUe := rfl
@[simp] theorem Dev.setReg_hbmCe (d : Dev) (o : Nat) (w : Word) : (d.setReg o w).hbmCe = d.hbmCe := rfl
@[simp] theorem Dev.setReg_repairPend (d : Dev) (o : Nat) (w : Word) : (d.setReg o w).repairPend = d.repairPend := rfl
@[simp] theorem Dev.setReg_repair (d : Dev) (o : Nat) (w : Word) : (d.setReg o w).repair = d.repair := rfl
@[simp] theorem Dev.setReg_repairAt (d : Dev) (o : Nat) (w : Word) : (d.setReg o w).repairAt = d.repairAt := rfl
@[simp] theorem Dev.setReg_zeroTo (d : Dev) (o : Nat) (w : Word) : (d.setReg o w).zeroTo = d.zeroTo := rfl
@[simp] theorem Dev.setReg_pci (d : Dev) (o : Nat) (w : Word) : (d.setReg o w).pci = d.pci := rfl
@[simp] theorem Dev.setReg_fenced (d : Dev) (o : Nat) (w : Word) : (d.setReg o w).fenced = d.fenced := rfl
@[simp] theorem Dev.setReg_host (d : Dev) (o : Nat) (w : Word) : (d.setReg o w).host = d.host := rfl
@[simp] theorem Dev.setReg_bmeOff (d : Dev) (o : Nat) (w : Word) : (d.setReg o w).bmeOff = d.bmeOff := rfl
@[simp] theorem Dev.setReg_msixOff (d : Dev) (o : Nat) (w : Word) : (d.setReg o w).msixOff = d.msixOff := rfl
@[simp] theorem Dev.setReg_cqWait (d : Dev) (o : Nat) (w : Word) : (d.setReg o w).cqWait = d.cqWait := rfl
@[simp] theorem Dev.setReg_rrLost (d : Dev) (o : Nat) (w : Word) : (d.setReg o w).rrLost = d.rrLost := rfl
@[simp] theorem Dev.setReg_longs (d : Dev) (o : Nat) (w : Word) : (d.setReg o w).longs = d.longs := rfl
@[simp] theorem Dev.setReg_tokens (d : Dev) (o : Nat) (w : Word) : (d.setReg o w).tokens = d.tokens := rfl
@[simp] theorem Dev.setReg_turn (d : Dev) (o : Nat) (w : Word) : (d.setReg o w).turn = d.turn := rfl
@[simp] theorem Dev.setReg_aslots (d : Dev) (o : Nat) (w : Word) : (d.setReg o w).aslots = d.aslots := rfl
@[simp] theorem Dev.setReg_aunits (d : Dev) (o : Nat) (w : Word) : (d.setReg o w).aunits = d.aunits := rfl
@[simp] theorem Dev.setReg_cams (d : Dev) (o : Nat) (w : Word) : (d.setReg o w).cams = d.cams := rfl
@[simp] theorem Dev.setReg_engines (d : Dev) (o : Nat) (w : Word) : (d.setReg o w).engines = d.engines := rfl
@[simp] theorem Dev.setReg_served (d : Dev) (o : Nat) (w : Word) : (d.setReg o w).served = d.served := rfl
@[simp] theorem Dev.setReg_frames (d : Dev) (o : Nat) (w : Word) : (d.setReg o w).frames = d.frames := rfl
@[simp] theorem Dev.setReg_tensors (d : Dev) (o : Nat) (w : Word) : (d.setReg o w).tensors = d.tensors := rfl
@[simp] theorem Dev.setReg_mir (d : Dev) (o : Nat) (w : Word) : (d.setReg o w).mir = d.mir := rfl
@[simp] theorem Dev.setReg_sill (d : Dev) (o : Nat) (w : Word) : (d.setReg o w).sill = d.sill := rfl
@[simp] theorem Dev.setReg_gov (d : Dev) (o : Nat) (w : Word) : (d.setReg o w).gov = d.gov := rfl
@[simp] theorem Dev.setReg_hot (d : Dev) (o : Nat) (w : Word) : (d.setReg o w).hot = d.hot := rfl
@[simp] theorem Dev.setReg_warned (d : Dev) (o : Nat) (w : Word) : (d.setReg o w).warned = d.warned := rfl
@[simp] theorem Dev.setReg_railLow (d : Dev) (o : Nat) (w : Word) : (d.setReg o w).railLow = d.railLow := rfl
@[simp] theorem Dev.setReg_chans (d : Dev) (o : Nat) (w : Word) : (d.setReg o w).chans = d.chans := rfl
@[simp] theorem Dev.setReg_panes (d : Dev) (o : Nat) (w : Word) : (d.setReg o w).panes = d.panes := rfl
@[simp] theorem Dev.setReg_weighQ (d : Dev) (o : Nat) (w : Word) : (d.setReg o w).weighQ = d.weighQ := rfl
@[simp] theorem Dev.setReg_weighBind (d : Dev) (o : Nat) (w : Word) : (d.setReg o w).weighBind = d.weighBind := rfl
@[simp] theorem Dev.setReg_boot (d : Dev) (o : Nat) (w : Word) : (d.setReg o w).boot = d.boot := rfl
@[simp] theorem Dev.setReg_flash (d : Dev) (o : Nat) (w : Word) : (d.setReg o w).flash = d.flash := rfl
@[simp] theorem Dev.setReg_secOp (d : Dev) (o : Nat) (w : Word) : (d.setReg o w).secOp = d.secOp := rfl
@[simp] theorem Dev.setReg_alerts (d : Dev) (o : Nat) (w : Word) : (d.setReg o w).alerts = d.alerts := rfl
@[simp] theorem Dev.setReg_aer (d : Dev) (o : Nat) (w : Word) : (d.setReg o w).aer = d.aer := rfl
@[simp] theorem Dev.setReg_lit (d : Dev) (o : Nat) (w : Word) : (d.setReg o w).lit = d.lit := rfl
@[simp] theorem Dev.setReg_held (d : Dev) (o : Nat) (w : Word) : (d.setReg o w).held = d.held := rfl
@[simp] theorem Dev.setReg_tel (d : Dev) (o : Nat) (w : Word) : (d.setReg o w).tel = d.tel := rfl
@[simp] theorem Dev.setReg_streams (d : Dev) (o : Nat) (w : Word) : (d.setReg o w).streams = d.streams := rfl
@[simp] theorem Dev.setReg_batchers (d : Dev) (o : Nat) (w : Word) : (d.setReg o w).batchers = d.batchers := rfl
@[simp] theorem Dev.setReg_pairOut (d : Dev) (o : Nat) (w : Word) : (d.setReg o w).pairOut = d.pairOut := rfl
@[simp] theorem Dev.setReg_scDone (d : Dev) (o : Nat) (w : Word) : (d.setReg o w).scDone = d.scDone := rfl
@[simp] theorem Dev.setReg_jobs (d : Dev) (o : Nat) (w : Word) : (d.setReg o w).jobs = d.jobs := rfl
@[simp] theorem Dev.setReg_plans (d : Dev) (o : Nat) (w : Word) : (d.setReg o w).plans = d.plans := rfl
@[simp] theorem Dev.setReg_images (d : Dev) (o : Nat) (w : Word) : (d.setReg o w).images = d.images := rfl
@[simp] theorem Dev.setReg_epoch (d : Dev) (o : Nat) (w : Word) : (d.setReg o w).epoch = d.epoch := rfl
@[simp] theorem Dev.setReg_belowAdmit (d : Dev) (o : Nat) (w : Word) : (d.setReg o w).belowAdmit = d.belowAdmit := rfl
@[simp] theorem Dev.setReg_poolTurn (d : Dev) (o : Nat) (w : Word) : (d.setReg o w).poolTurn = d.poolTurn := rfl
@[simp] theorem Dev.setReg_shadows (d : Dev) (o : Nat) (w : Word) : (d.setReg o w).shadows = d.shadows := rfl
@[simp] theorem Dev.setReg_answer (d : Dev) (o : Nat) (w : Word) : (d.setReg o w).answer = d.answer := rfl
@[simp] theorem Dev.setReg_fresh (d : Dev) (o : Nat) (w : Word) : (d.setReg o w).fresh = d.fresh := rfl
@[simp] theorem Dev.core_setReg_at (d : Dev) (o : Nat) (w : Word) (k' : Nat) : (d.setReg o w).core k' = d.core k' := rfl
@[simp] theorem Dev.stage_setReg_at (d : Dev) (o : Nat) (w : Word) (k' : Nat) : (d.setReg o w).stage k' = d.stage k' := rfl
@[simp] theorem Dev.lu_setReg_at (d : Dev) (o : Nat) (w : Word) (k' : Nat) : (d.setReg o w).lu k' = d.lu k' := rfl
@[simp] theorem Dev.stream_setReg_at (d : Dev) (o : Nat) (w : Word) (k' : Nat) : (d.setReg o w).stream k' = d.stream k' := rfl
@[simp] theorem Dev.job_setReg_at (d : Dev) (o : Nat) (w : Word) (k' : Nat) : (d.setReg o w).job k' = d.job k' := rfl
@[simp] theorem Dev.bat_setReg_at (d : Dev) (o : Nat) (w : Word) (k' : Nat) : (d.setReg o w).bat k' = d.bat k' := rfl
@[simp] theorem Dev.waiting_setReg_at (d : Dev) (o : Nat) (w : Word) (k' : Nat) : (d.setReg o w).waiting k' = d.waiting k' := rfl
@[simp] theorem Dev.plan_setReg_at (d : Dev) (o : Nat) (w : Word) (k' : Nat) : (d.setReg o w).plan k' = d.plan k' := rfl
@[simp] theorem Dev.pane_setReg_at (d : Dev) (o : Nat) (w : Word) (k' : Nat) : (d.setReg o w).pane k' = d.pane k' := rfl

/-! `setFld` -/

@[simp] theorem Dev.setFld_tick (d : Dev) (o : Nat) (f : Fld) (v : Nat) : (d.setFld o f v).tick = d.tick := rfl
@[simp] theorem Dev.setFld_tickBase (d : Dev) (o : Nat) (f : Fld) (v : Nat) : (d.setFld o f v).tickBase = d.tickBase := rfl
@[simp] theorem Dev.setFld_sideCyc (d : Dev) (o : Nat) (f : Fld) (v : Nat) : (d.setFld o f v).sideCyc = d.sideCyc := rfl
@[simp] theorem Dev.setFld_cores (d : Dev) (o : Nat) (f : Fld) (v : Nat) : (d.setFld o f v).cores = d.cores := rfl
@[simp] theorem Dev.setFld_stages (d : Dev) (o : Nat) (f : Fld) (v : Nat) : (d.setFld o f v).stages = d.stages := rfl
@[simp] theorem Dev.setFld_lus (d : Dev) (o : Nat) (f : Fld) (v : Nat) : (d.setFld o f v).lus = d.lus := rfl
@[simp] theorem Dev.setFld_hbm (d : Dev) (o : Nat) (f : Fld) (v : Nat) : (d.setFld o f v).hbm = d.hbm := rfl
@[simp] theorem Dev.setFld_hbmUe (d : Dev) (o : Nat) (f : Fld) (v : Nat) : (d.setFld o f v).hbmUe = d.hbmUe := rfl
@[simp] theorem Dev.setFld_hbmCe (d : Dev) (o : Nat) (f : Fld) (v : Nat) : (d.setFld o f v).hbmCe = d.hbmCe := rfl
@[simp] theorem Dev.setFld_repairPend (d : Dev) (o : Nat) (f : Fld) (v : Nat) : (d.setFld o f v).repairPend = d.repairPend := rfl
@[simp] theorem Dev.setFld_repair (d : Dev) (o : Nat) (f : Fld) (v : Nat) : (d.setFld o f v).repair = d.repair := rfl
@[simp] theorem Dev.setFld_repairAt (d : Dev) (o : Nat) (f : Fld) (v : Nat) : (d.setFld o f v).repairAt = d.repairAt := rfl
@[simp] theorem Dev.setFld_zeroTo (d : Dev) (o : Nat) (f : Fld) (v : Nat) : (d.setFld o f v).zeroTo = d.zeroTo := rfl
@[simp] theorem Dev.setFld_pci (d : Dev) (o : Nat) (f : Fld) (v : Nat) : (d.setFld o f v).pci = d.pci := rfl
@[simp] theorem Dev.setFld_fenced (d : Dev) (o : Nat) (f : Fld) (v : Nat) : (d.setFld o f v).fenced = d.fenced := rfl
@[simp] theorem Dev.setFld_host (d : Dev) (o : Nat) (f : Fld) (v : Nat) : (d.setFld o f v).host = d.host := rfl
@[simp] theorem Dev.setFld_bmeOff (d : Dev) (o : Nat) (f : Fld) (v : Nat) : (d.setFld o f v).bmeOff = d.bmeOff := rfl
@[simp] theorem Dev.setFld_msixOff (d : Dev) (o : Nat) (f : Fld) (v : Nat) : (d.setFld o f v).msixOff = d.msixOff := rfl
@[simp] theorem Dev.setFld_cqWait (d : Dev) (o : Nat) (f : Fld) (v : Nat) : (d.setFld o f v).cqWait = d.cqWait := rfl
@[simp] theorem Dev.setFld_rrLost (d : Dev) (o : Nat) (f : Fld) (v : Nat) : (d.setFld o f v).rrLost = d.rrLost := rfl
@[simp] theorem Dev.setFld_longs (d : Dev) (o : Nat) (f : Fld) (v : Nat) : (d.setFld o f v).longs = d.longs := rfl
@[simp] theorem Dev.setFld_tokens (d : Dev) (o : Nat) (f : Fld) (v : Nat) : (d.setFld o f v).tokens = d.tokens := rfl
@[simp] theorem Dev.setFld_turn (d : Dev) (o : Nat) (f : Fld) (v : Nat) : (d.setFld o f v).turn = d.turn := rfl
@[simp] theorem Dev.setFld_aslots (d : Dev) (o : Nat) (f : Fld) (v : Nat) : (d.setFld o f v).aslots = d.aslots := rfl
@[simp] theorem Dev.setFld_aunits (d : Dev) (o : Nat) (f : Fld) (v : Nat) : (d.setFld o f v).aunits = d.aunits := rfl
@[simp] theorem Dev.setFld_cams (d : Dev) (o : Nat) (f : Fld) (v : Nat) : (d.setFld o f v).cams = d.cams := rfl
@[simp] theorem Dev.setFld_engines (d : Dev) (o : Nat) (f : Fld) (v : Nat) : (d.setFld o f v).engines = d.engines := rfl
@[simp] theorem Dev.setFld_served (d : Dev) (o : Nat) (f : Fld) (v : Nat) : (d.setFld o f v).served = d.served := rfl
@[simp] theorem Dev.setFld_frames (d : Dev) (o : Nat) (f : Fld) (v : Nat) : (d.setFld o f v).frames = d.frames := rfl
@[simp] theorem Dev.setFld_tensors (d : Dev) (o : Nat) (f : Fld) (v : Nat) : (d.setFld o f v).tensors = d.tensors := rfl
@[simp] theorem Dev.setFld_mir (d : Dev) (o : Nat) (f : Fld) (v : Nat) : (d.setFld o f v).mir = d.mir := rfl
@[simp] theorem Dev.setFld_sill (d : Dev) (o : Nat) (f : Fld) (v : Nat) : (d.setFld o f v).sill = d.sill := rfl
@[simp] theorem Dev.setFld_gov (d : Dev) (o : Nat) (f : Fld) (v : Nat) : (d.setFld o f v).gov = d.gov := rfl
@[simp] theorem Dev.setFld_hot (d : Dev) (o : Nat) (f : Fld) (v : Nat) : (d.setFld o f v).hot = d.hot := rfl
@[simp] theorem Dev.setFld_warned (d : Dev) (o : Nat) (f : Fld) (v : Nat) : (d.setFld o f v).warned = d.warned := rfl
@[simp] theorem Dev.setFld_railLow (d : Dev) (o : Nat) (f : Fld) (v : Nat) : (d.setFld o f v).railLow = d.railLow := rfl
@[simp] theorem Dev.setFld_chans (d : Dev) (o : Nat) (f : Fld) (v : Nat) : (d.setFld o f v).chans = d.chans := rfl
@[simp] theorem Dev.setFld_panes (d : Dev) (o : Nat) (f : Fld) (v : Nat) : (d.setFld o f v).panes = d.panes := rfl
@[simp] theorem Dev.setFld_weighQ (d : Dev) (o : Nat) (f : Fld) (v : Nat) : (d.setFld o f v).weighQ = d.weighQ := rfl
@[simp] theorem Dev.setFld_weighBind (d : Dev) (o : Nat) (f : Fld) (v : Nat) : (d.setFld o f v).weighBind = d.weighBind := rfl
@[simp] theorem Dev.setFld_boot (d : Dev) (o : Nat) (f : Fld) (v : Nat) : (d.setFld o f v).boot = d.boot := rfl
@[simp] theorem Dev.setFld_flash (d : Dev) (o : Nat) (f : Fld) (v : Nat) : (d.setFld o f v).flash = d.flash := rfl
@[simp] theorem Dev.setFld_secOp (d : Dev) (o : Nat) (f : Fld) (v : Nat) : (d.setFld o f v).secOp = d.secOp := rfl
@[simp] theorem Dev.setFld_alerts (d : Dev) (o : Nat) (f : Fld) (v : Nat) : (d.setFld o f v).alerts = d.alerts := rfl
@[simp] theorem Dev.setFld_aer (d : Dev) (o : Nat) (f : Fld) (v : Nat) : (d.setFld o f v).aer = d.aer := rfl
@[simp] theorem Dev.setFld_lit (d : Dev) (o : Nat) (f : Fld) (v : Nat) : (d.setFld o f v).lit = d.lit := rfl
@[simp] theorem Dev.setFld_held (d : Dev) (o : Nat) (f : Fld) (v : Nat) : (d.setFld o f v).held = d.held := rfl
@[simp] theorem Dev.setFld_tel (d : Dev) (o : Nat) (f : Fld) (v : Nat) : (d.setFld o f v).tel = d.tel := rfl
@[simp] theorem Dev.setFld_streams (d : Dev) (o : Nat) (f : Fld) (v : Nat) : (d.setFld o f v).streams = d.streams := rfl
@[simp] theorem Dev.setFld_batchers (d : Dev) (o : Nat) (f : Fld) (v : Nat) : (d.setFld o f v).batchers = d.batchers := rfl
@[simp] theorem Dev.setFld_pairOut (d : Dev) (o : Nat) (f : Fld) (v : Nat) : (d.setFld o f v).pairOut = d.pairOut := rfl
@[simp] theorem Dev.setFld_scDone (d : Dev) (o : Nat) (f : Fld) (v : Nat) : (d.setFld o f v).scDone = d.scDone := rfl
@[simp] theorem Dev.setFld_jobs (d : Dev) (o : Nat) (f : Fld) (v : Nat) : (d.setFld o f v).jobs = d.jobs := rfl
@[simp] theorem Dev.setFld_plans (d : Dev) (o : Nat) (f : Fld) (v : Nat) : (d.setFld o f v).plans = d.plans := rfl
@[simp] theorem Dev.setFld_images (d : Dev) (o : Nat) (f : Fld) (v : Nat) : (d.setFld o f v).images = d.images := rfl
@[simp] theorem Dev.setFld_epoch (d : Dev) (o : Nat) (f : Fld) (v : Nat) : (d.setFld o f v).epoch = d.epoch := rfl
@[simp] theorem Dev.setFld_belowAdmit (d : Dev) (o : Nat) (f : Fld) (v : Nat) : (d.setFld o f v).belowAdmit = d.belowAdmit := rfl
@[simp] theorem Dev.setFld_poolTurn (d : Dev) (o : Nat) (f : Fld) (v : Nat) : (d.setFld o f v).poolTurn = d.poolTurn := rfl
@[simp] theorem Dev.setFld_shadows (d : Dev) (o : Nat) (f : Fld) (v : Nat) : (d.setFld o f v).shadows = d.shadows := rfl
@[simp] theorem Dev.setFld_answer (d : Dev) (o : Nat) (f : Fld) (v : Nat) : (d.setFld o f v).answer = d.answer := rfl
@[simp] theorem Dev.setFld_fresh (d : Dev) (o : Nat) (f : Fld) (v : Nat) : (d.setFld o f v).fresh = d.fresh := rfl
@[simp] theorem Dev.core_setFld_at (d : Dev) (o : Nat) (f : Fld) (v : Nat) (k' : Nat) : (d.setFld o f v).core k' = d.core k' := rfl
@[simp] theorem Dev.stage_setFld_at (d : Dev) (o : Nat) (f : Fld) (v : Nat) (k' : Nat) : (d.setFld o f v).stage k' = d.stage k' := rfl
@[simp] theorem Dev.lu_setFld_at (d : Dev) (o : Nat) (f : Fld) (v : Nat) (k' : Nat) : (d.setFld o f v).lu k' = d.lu k' := rfl
@[simp] theorem Dev.stream_setFld_at (d : Dev) (o : Nat) (f : Fld) (v : Nat) (k' : Nat) : (d.setFld o f v).stream k' = d.stream k' := rfl
@[simp] theorem Dev.job_setFld_at (d : Dev) (o : Nat) (f : Fld) (v : Nat) (k' : Nat) : (d.setFld o f v).job k' = d.job k' := rfl
@[simp] theorem Dev.bat_setFld_at (d : Dev) (o : Nat) (f : Fld) (v : Nat) (k' : Nat) : (d.setFld o f v).bat k' = d.bat k' := rfl
@[simp] theorem Dev.waiting_setFld_at (d : Dev) (o : Nat) (f : Fld) (v : Nat) (k' : Nat) : (d.setFld o f v).waiting k' = d.waiting k' := rfl
@[simp] theorem Dev.plan_setFld_at (d : Dev) (o : Nat) (f : Fld) (v : Nat) (k' : Nat) : (d.setFld o f v).plan k' = d.plan k' := rfl
@[simp] theorem Dev.pane_setFld_at (d : Dev) (o : Nat) (f : Fld) (v : Nat) (k' : Nat) : (d.setFld o f v).pane k' = d.pane k' := rfl

/-! `setCore` -/

@[simp] theorem Dev.setCore_tick (d : Dev) (k : Nat) (c : Core) : (d.setCore k c).tick = d.tick := rfl
@[simp] theorem Dev.setCore_tickBase (d : Dev) (k : Nat) (c : Core) : (d.setCore k c).tickBase = d.tickBase := rfl
@[simp] theorem Dev.setCore_sideCyc (d : Dev) (k : Nat) (c : Core) : (d.setCore k c).sideCyc = d.sideCyc := rfl
@[simp] theorem Dev.setCore_regs (d : Dev) (k : Nat) (c : Core) : (d.setCore k c).regs = d.regs := rfl
@[simp] theorem Dev.setCore_stages (d : Dev) (k : Nat) (c : Core) : (d.setCore k c).stages = d.stages := rfl
@[simp] theorem Dev.setCore_lus (d : Dev) (k : Nat) (c : Core) : (d.setCore k c).lus = d.lus := rfl
@[simp] theorem Dev.setCore_hbm (d : Dev) (k : Nat) (c : Core) : (d.setCore k c).hbm = d.hbm := rfl
@[simp] theorem Dev.setCore_hbmUe (d : Dev) (k : Nat) (c : Core) : (d.setCore k c).hbmUe = d.hbmUe := rfl
@[simp] theorem Dev.setCore_hbmCe (d : Dev) (k : Nat) (c : Core) : (d.setCore k c).hbmCe = d.hbmCe := rfl
@[simp] theorem Dev.setCore_repairPend (d : Dev) (k : Nat) (c : Core) : (d.setCore k c).repairPend = d.repairPend := rfl
@[simp] theorem Dev.setCore_repair (d : Dev) (k : Nat) (c : Core) : (d.setCore k c).repair = d.repair := rfl
@[simp] theorem Dev.setCore_repairAt (d : Dev) (k : Nat) (c : Core) : (d.setCore k c).repairAt = d.repairAt := rfl
@[simp] theorem Dev.setCore_zeroTo (d : Dev) (k : Nat) (c : Core) : (d.setCore k c).zeroTo = d.zeroTo := rfl
@[simp] theorem Dev.setCore_pci (d : Dev) (k : Nat) (c : Core) : (d.setCore k c).pci = d.pci := rfl
@[simp] theorem Dev.setCore_fenced (d : Dev) (k : Nat) (c : Core) : (d.setCore k c).fenced = d.fenced := rfl
@[simp] theorem Dev.setCore_host (d : Dev) (k : Nat) (c : Core) : (d.setCore k c).host = d.host := rfl
@[simp] theorem Dev.setCore_bmeOff (d : Dev) (k : Nat) (c : Core) : (d.setCore k c).bmeOff = d.bmeOff := rfl
@[simp] theorem Dev.setCore_msixOff (d : Dev) (k : Nat) (c : Core) : (d.setCore k c).msixOff = d.msixOff := rfl
@[simp] theorem Dev.setCore_cqWait (d : Dev) (k : Nat) (c : Core) : (d.setCore k c).cqWait = d.cqWait := rfl
@[simp] theorem Dev.setCore_rrLost (d : Dev) (k : Nat) (c : Core) : (d.setCore k c).rrLost = d.rrLost := rfl
@[simp] theorem Dev.setCore_longs (d : Dev) (k : Nat) (c : Core) : (d.setCore k c).longs = d.longs := rfl
@[simp] theorem Dev.setCore_tokens (d : Dev) (k : Nat) (c : Core) : (d.setCore k c).tokens = d.tokens := rfl
@[simp] theorem Dev.setCore_turn (d : Dev) (k : Nat) (c : Core) : (d.setCore k c).turn = d.turn := rfl
@[simp] theorem Dev.setCore_aslots (d : Dev) (k : Nat) (c : Core) : (d.setCore k c).aslots = d.aslots := rfl
@[simp] theorem Dev.setCore_aunits (d : Dev) (k : Nat) (c : Core) : (d.setCore k c).aunits = d.aunits := rfl
@[simp] theorem Dev.setCore_cams (d : Dev) (k : Nat) (c : Core) : (d.setCore k c).cams = d.cams := rfl
@[simp] theorem Dev.setCore_engines (d : Dev) (k : Nat) (c : Core) : (d.setCore k c).engines = d.engines := rfl
@[simp] theorem Dev.setCore_served (d : Dev) (k : Nat) (c : Core) : (d.setCore k c).served = d.served := rfl
@[simp] theorem Dev.setCore_frames (d : Dev) (k : Nat) (c : Core) : (d.setCore k c).frames = d.frames := rfl
@[simp] theorem Dev.setCore_tensors (d : Dev) (k : Nat) (c : Core) : (d.setCore k c).tensors = d.tensors := rfl
@[simp] theorem Dev.setCore_mir (d : Dev) (k : Nat) (c : Core) : (d.setCore k c).mir = d.mir := rfl
@[simp] theorem Dev.setCore_sill (d : Dev) (k : Nat) (c : Core) : (d.setCore k c).sill = d.sill := rfl
@[simp] theorem Dev.setCore_gov (d : Dev) (k : Nat) (c : Core) : (d.setCore k c).gov = d.gov := rfl
@[simp] theorem Dev.setCore_hot (d : Dev) (k : Nat) (c : Core) : (d.setCore k c).hot = d.hot := rfl
@[simp] theorem Dev.setCore_warned (d : Dev) (k : Nat) (c : Core) : (d.setCore k c).warned = d.warned := rfl
@[simp] theorem Dev.setCore_railLow (d : Dev) (k : Nat) (c : Core) : (d.setCore k c).railLow = d.railLow := rfl
@[simp] theorem Dev.setCore_chans (d : Dev) (k : Nat) (c : Core) : (d.setCore k c).chans = d.chans := rfl
@[simp] theorem Dev.setCore_panes (d : Dev) (k : Nat) (c : Core) : (d.setCore k c).panes = d.panes := rfl
@[simp] theorem Dev.setCore_weighQ (d : Dev) (k : Nat) (c : Core) : (d.setCore k c).weighQ = d.weighQ := rfl
@[simp] theorem Dev.setCore_weighBind (d : Dev) (k : Nat) (c : Core) : (d.setCore k c).weighBind = d.weighBind := rfl
@[simp] theorem Dev.setCore_boot (d : Dev) (k : Nat) (c : Core) : (d.setCore k c).boot = d.boot := rfl
@[simp] theorem Dev.setCore_flash (d : Dev) (k : Nat) (c : Core) : (d.setCore k c).flash = d.flash := rfl
@[simp] theorem Dev.setCore_secOp (d : Dev) (k : Nat) (c : Core) : (d.setCore k c).secOp = d.secOp := rfl
@[simp] theorem Dev.setCore_alerts (d : Dev) (k : Nat) (c : Core) : (d.setCore k c).alerts = d.alerts := rfl
@[simp] theorem Dev.setCore_aer (d : Dev) (k : Nat) (c : Core) : (d.setCore k c).aer = d.aer := rfl
@[simp] theorem Dev.setCore_lit (d : Dev) (k : Nat) (c : Core) : (d.setCore k c).lit = d.lit := rfl
@[simp] theorem Dev.setCore_held (d : Dev) (k : Nat) (c : Core) : (d.setCore k c).held = d.held := rfl
@[simp] theorem Dev.setCore_tel (d : Dev) (k : Nat) (c : Core) : (d.setCore k c).tel = d.tel := rfl
@[simp] theorem Dev.setCore_streams (d : Dev) (k : Nat) (c : Core) : (d.setCore k c).streams = d.streams := rfl
@[simp] theorem Dev.setCore_batchers (d : Dev) (k : Nat) (c : Core) : (d.setCore k c).batchers = d.batchers := rfl
@[simp] theorem Dev.setCore_pairOut (d : Dev) (k : Nat) (c : Core) : (d.setCore k c).pairOut = d.pairOut := rfl
@[simp] theorem Dev.setCore_scDone (d : Dev) (k : Nat) (c : Core) : (d.setCore k c).scDone = d.scDone := rfl
@[simp] theorem Dev.setCore_jobs (d : Dev) (k : Nat) (c : Core) : (d.setCore k c).jobs = d.jobs := rfl
@[simp] theorem Dev.setCore_plans (d : Dev) (k : Nat) (c : Core) : (d.setCore k c).plans = d.plans := rfl
@[simp] theorem Dev.setCore_images (d : Dev) (k : Nat) (c : Core) : (d.setCore k c).images = d.images := rfl
@[simp] theorem Dev.setCore_epoch (d : Dev) (k : Nat) (c : Core) : (d.setCore k c).epoch = d.epoch := rfl
@[simp] theorem Dev.setCore_belowAdmit (d : Dev) (k : Nat) (c : Core) : (d.setCore k c).belowAdmit = d.belowAdmit := rfl
@[simp] theorem Dev.setCore_poolTurn (d : Dev) (k : Nat) (c : Core) : (d.setCore k c).poolTurn = d.poolTurn := rfl
@[simp] theorem Dev.setCore_shadows (d : Dev) (k : Nat) (c : Core) : (d.setCore k c).shadows = d.shadows := rfl
@[simp] theorem Dev.setCore_answer (d : Dev) (k : Nat) (c : Core) : (d.setCore k c).answer = d.answer := rfl
@[simp] theorem Dev.setCore_fresh (d : Dev) (k : Nat) (c : Core) : (d.setCore k c).fresh = d.fresh := rfl
@[simp] theorem Dev.reg_setCore_at (d : Dev) (k : Nat) (c : Core) (o' : Nat) : (d.setCore k c).reg o' = d.reg o' := rfl
@[simp] theorem Dev.stage_setCore_at (d : Dev) (k : Nat) (c : Core) (k' : Nat) : (d.setCore k c).stage k' = d.stage k' := rfl
@[simp] theorem Dev.lu_setCore_at (d : Dev) (k : Nat) (c : Core) (k' : Nat) : (d.setCore k c).lu k' = d.lu k' := rfl
@[simp] theorem Dev.stream_setCore_at (d : Dev) (k : Nat) (c : Core) (k' : Nat) : (d.setCore k c).stream k' = d.stream k' := rfl
@[simp] theorem Dev.job_setCore_at (d : Dev) (k : Nat) (c : Core) (k' : Nat) : (d.setCore k c).job k' = d.job k' := rfl
@[simp] theorem Dev.bat_setCore_at (d : Dev) (k : Nat) (c : Core) (k' : Nat) : (d.setCore k c).bat k' = d.bat k' := rfl
@[simp] theorem Dev.waiting_setCore_at (d : Dev) (k : Nat) (c : Core) (k' : Nat) : (d.setCore k c).waiting k' = d.waiting k' := rfl
@[simp] theorem Dev.plan_setCore_at (d : Dev) (k : Nat) (c : Core) (k' : Nat) : (d.setCore k c).plan k' = d.plan k' := rfl
@[simp] theorem Dev.pane_setCore_at (d : Dev) (k : Nat) (c : Core) (k' : Nat) : (d.setCore k c).pane k' = d.pane k' := rfl

/-! `setStage` -/

@[simp] theorem Dev.setStage_tick (d : Dev) (k : Nat) (x : List Instr) : (d.setStage k x).tick = d.tick := rfl
@[simp] theorem Dev.setStage_tickBase (d : Dev) (k : Nat) (x : List Instr) : (d.setStage k x).tickBase = d.tickBase := rfl
@[simp] theorem Dev.setStage_sideCyc (d : Dev) (k : Nat) (x : List Instr) : (d.setStage k x).sideCyc = d.sideCyc := rfl
@[simp] theorem Dev.setStage_regs (d : Dev) (k : Nat) (x : List Instr) : (d.setStage k x).regs = d.regs := rfl
@[simp] theorem Dev.setStage_cores (d : Dev) (k : Nat) (x : List Instr) : (d.setStage k x).cores = d.cores := rfl
@[simp] theorem Dev.setStage_lus (d : Dev) (k : Nat) (x : List Instr) : (d.setStage k x).lus = d.lus := rfl
@[simp] theorem Dev.setStage_hbm (d : Dev) (k : Nat) (x : List Instr) : (d.setStage k x).hbm = d.hbm := rfl
@[simp] theorem Dev.setStage_hbmUe (d : Dev) (k : Nat) (x : List Instr) : (d.setStage k x).hbmUe = d.hbmUe := rfl
@[simp] theorem Dev.setStage_hbmCe (d : Dev) (k : Nat) (x : List Instr) : (d.setStage k x).hbmCe = d.hbmCe := rfl
@[simp] theorem Dev.setStage_repairPend (d : Dev) (k : Nat) (x : List Instr) : (d.setStage k x).repairPend = d.repairPend := rfl
@[simp] theorem Dev.setStage_repair (d : Dev) (k : Nat) (x : List Instr) : (d.setStage k x).repair = d.repair := rfl
@[simp] theorem Dev.setStage_repairAt (d : Dev) (k : Nat) (x : List Instr) : (d.setStage k x).repairAt = d.repairAt := rfl
@[simp] theorem Dev.setStage_zeroTo (d : Dev) (k : Nat) (x : List Instr) : (d.setStage k x).zeroTo = d.zeroTo := rfl
@[simp] theorem Dev.setStage_pci (d : Dev) (k : Nat) (x : List Instr) : (d.setStage k x).pci = d.pci := rfl
@[simp] theorem Dev.setStage_fenced (d : Dev) (k : Nat) (x : List Instr) : (d.setStage k x).fenced = d.fenced := rfl
@[simp] theorem Dev.setStage_host (d : Dev) (k : Nat) (x : List Instr) : (d.setStage k x).host = d.host := rfl
@[simp] theorem Dev.setStage_bmeOff (d : Dev) (k : Nat) (x : List Instr) : (d.setStage k x).bmeOff = d.bmeOff := rfl
@[simp] theorem Dev.setStage_msixOff (d : Dev) (k : Nat) (x : List Instr) : (d.setStage k x).msixOff = d.msixOff := rfl
@[simp] theorem Dev.setStage_cqWait (d : Dev) (k : Nat) (x : List Instr) : (d.setStage k x).cqWait = d.cqWait := rfl
@[simp] theorem Dev.setStage_rrLost (d : Dev) (k : Nat) (x : List Instr) : (d.setStage k x).rrLost = d.rrLost := rfl
@[simp] theorem Dev.setStage_longs (d : Dev) (k : Nat) (x : List Instr) : (d.setStage k x).longs = d.longs := rfl
@[simp] theorem Dev.setStage_tokens (d : Dev) (k : Nat) (x : List Instr) : (d.setStage k x).tokens = d.tokens := rfl
@[simp] theorem Dev.setStage_turn (d : Dev) (k : Nat) (x : List Instr) : (d.setStage k x).turn = d.turn := rfl
@[simp] theorem Dev.setStage_aslots (d : Dev) (k : Nat) (x : List Instr) : (d.setStage k x).aslots = d.aslots := rfl
@[simp] theorem Dev.setStage_aunits (d : Dev) (k : Nat) (x : List Instr) : (d.setStage k x).aunits = d.aunits := rfl
@[simp] theorem Dev.setStage_cams (d : Dev) (k : Nat) (x : List Instr) : (d.setStage k x).cams = d.cams := rfl
@[simp] theorem Dev.setStage_engines (d : Dev) (k : Nat) (x : List Instr) : (d.setStage k x).engines = d.engines := rfl
@[simp] theorem Dev.setStage_served (d : Dev) (k : Nat) (x : List Instr) : (d.setStage k x).served = d.served := rfl
@[simp] theorem Dev.setStage_frames (d : Dev) (k : Nat) (x : List Instr) : (d.setStage k x).frames = d.frames := rfl
@[simp] theorem Dev.setStage_tensors (d : Dev) (k : Nat) (x : List Instr) : (d.setStage k x).tensors = d.tensors := rfl
@[simp] theorem Dev.setStage_mir (d : Dev) (k : Nat) (x : List Instr) : (d.setStage k x).mir = d.mir := rfl
@[simp] theorem Dev.setStage_sill (d : Dev) (k : Nat) (x : List Instr) : (d.setStage k x).sill = d.sill := rfl
@[simp] theorem Dev.setStage_gov (d : Dev) (k : Nat) (x : List Instr) : (d.setStage k x).gov = d.gov := rfl
@[simp] theorem Dev.setStage_hot (d : Dev) (k : Nat) (x : List Instr) : (d.setStage k x).hot = d.hot := rfl
@[simp] theorem Dev.setStage_warned (d : Dev) (k : Nat) (x : List Instr) : (d.setStage k x).warned = d.warned := rfl
@[simp] theorem Dev.setStage_railLow (d : Dev) (k : Nat) (x : List Instr) : (d.setStage k x).railLow = d.railLow := rfl
@[simp] theorem Dev.setStage_chans (d : Dev) (k : Nat) (x : List Instr) : (d.setStage k x).chans = d.chans := rfl
@[simp] theorem Dev.setStage_panes (d : Dev) (k : Nat) (x : List Instr) : (d.setStage k x).panes = d.panes := rfl
@[simp] theorem Dev.setStage_weighQ (d : Dev) (k : Nat) (x : List Instr) : (d.setStage k x).weighQ = d.weighQ := rfl
@[simp] theorem Dev.setStage_weighBind (d : Dev) (k : Nat) (x : List Instr) : (d.setStage k x).weighBind = d.weighBind := rfl
@[simp] theorem Dev.setStage_boot (d : Dev) (k : Nat) (x : List Instr) : (d.setStage k x).boot = d.boot := rfl
@[simp] theorem Dev.setStage_flash (d : Dev) (k : Nat) (x : List Instr) : (d.setStage k x).flash = d.flash := rfl
@[simp] theorem Dev.setStage_secOp (d : Dev) (k : Nat) (x : List Instr) : (d.setStage k x).secOp = d.secOp := rfl
@[simp] theorem Dev.setStage_alerts (d : Dev) (k : Nat) (x : List Instr) : (d.setStage k x).alerts = d.alerts := rfl
@[simp] theorem Dev.setStage_aer (d : Dev) (k : Nat) (x : List Instr) : (d.setStage k x).aer = d.aer := rfl
@[simp] theorem Dev.setStage_lit (d : Dev) (k : Nat) (x : List Instr) : (d.setStage k x).lit = d.lit := rfl
@[simp] theorem Dev.setStage_held (d : Dev) (k : Nat) (x : List Instr) : (d.setStage k x).held = d.held := rfl
@[simp] theorem Dev.setStage_tel (d : Dev) (k : Nat) (x : List Instr) : (d.setStage k x).tel = d.tel := rfl
@[simp] theorem Dev.setStage_streams (d : Dev) (k : Nat) (x : List Instr) : (d.setStage k x).streams = d.streams := rfl
@[simp] theorem Dev.setStage_batchers (d : Dev) (k : Nat) (x : List Instr) : (d.setStage k x).batchers = d.batchers := rfl
@[simp] theorem Dev.setStage_pairOut (d : Dev) (k : Nat) (x : List Instr) : (d.setStage k x).pairOut = d.pairOut := rfl
@[simp] theorem Dev.setStage_scDone (d : Dev) (k : Nat) (x : List Instr) : (d.setStage k x).scDone = d.scDone := rfl
@[simp] theorem Dev.setStage_jobs (d : Dev) (k : Nat) (x : List Instr) : (d.setStage k x).jobs = d.jobs := rfl
@[simp] theorem Dev.setStage_plans (d : Dev) (k : Nat) (x : List Instr) : (d.setStage k x).plans = d.plans := rfl
@[simp] theorem Dev.setStage_images (d : Dev) (k : Nat) (x : List Instr) : (d.setStage k x).images = d.images := rfl
@[simp] theorem Dev.setStage_epoch (d : Dev) (k : Nat) (x : List Instr) : (d.setStage k x).epoch = d.epoch := rfl
@[simp] theorem Dev.setStage_belowAdmit (d : Dev) (k : Nat) (x : List Instr) : (d.setStage k x).belowAdmit = d.belowAdmit := rfl
@[simp] theorem Dev.setStage_poolTurn (d : Dev) (k : Nat) (x : List Instr) : (d.setStage k x).poolTurn = d.poolTurn := rfl
@[simp] theorem Dev.setStage_shadows (d : Dev) (k : Nat) (x : List Instr) : (d.setStage k x).shadows = d.shadows := rfl
@[simp] theorem Dev.setStage_answer (d : Dev) (k : Nat) (x : List Instr) : (d.setStage k x).answer = d.answer := rfl
@[simp] theorem Dev.setStage_fresh (d : Dev) (k : Nat) (x : List Instr) : (d.setStage k x).fresh = d.fresh := rfl
@[simp] theorem Dev.reg_setStage_at (d : Dev) (k : Nat) (x : List Instr) (o' : Nat) : (d.setStage k x).reg o' = d.reg o' := rfl
@[simp] theorem Dev.core_setStage_at (d : Dev) (k : Nat) (x : List Instr) (k' : Nat) : (d.setStage k x).core k' = d.core k' := rfl
@[simp] theorem Dev.lu_setStage_at (d : Dev) (k : Nat) (x : List Instr) (k' : Nat) : (d.setStage k x).lu k' = d.lu k' := rfl
@[simp] theorem Dev.stream_setStage_at (d : Dev) (k : Nat) (x : List Instr) (k' : Nat) : (d.setStage k x).stream k' = d.stream k' := rfl
@[simp] theorem Dev.job_setStage_at (d : Dev) (k : Nat) (x : List Instr) (k' : Nat) : (d.setStage k x).job k' = d.job k' := rfl
@[simp] theorem Dev.bat_setStage_at (d : Dev) (k : Nat) (x : List Instr) (k' : Nat) : (d.setStage k x).bat k' = d.bat k' := rfl
@[simp] theorem Dev.waiting_setStage_at (d : Dev) (k : Nat) (x : List Instr) (k' : Nat) : (d.setStage k x).waiting k' = d.waiting k' := rfl
@[simp] theorem Dev.plan_setStage_at (d : Dev) (k : Nat) (x : List Instr) (k' : Nat) : (d.setStage k x).plan k' = d.plan k' := rfl
@[simp] theorem Dev.pane_setStage_at (d : Dev) (k : Nat) (x : List Instr) (k' : Nat) : (d.setStage k x).pane k' = d.pane k' := rfl

/-! `setLu` -/

@[simp] theorem Dev.setLu_tick (d : Dev) (k : Nat) (x : Latch) : (d.setLu k x).tick = d.tick := rfl
@[simp] theorem Dev.setLu_tickBase (d : Dev) (k : Nat) (x : Latch) : (d.setLu k x).tickBase = d.tickBase := rfl
@[simp] theorem Dev.setLu_sideCyc (d : Dev) (k : Nat) (x : Latch) : (d.setLu k x).sideCyc = d.sideCyc := rfl
@[simp] theorem Dev.setLu_regs (d : Dev) (k : Nat) (x : Latch) : (d.setLu k x).regs = d.regs := rfl
@[simp] theorem Dev.setLu_cores (d : Dev) (k : Nat) (x : Latch) : (d.setLu k x).cores = d.cores := rfl
@[simp] theorem Dev.setLu_stages (d : Dev) (k : Nat) (x : Latch) : (d.setLu k x).stages = d.stages := rfl
@[simp] theorem Dev.setLu_hbm (d : Dev) (k : Nat) (x : Latch) : (d.setLu k x).hbm = d.hbm := rfl
@[simp] theorem Dev.setLu_hbmUe (d : Dev) (k : Nat) (x : Latch) : (d.setLu k x).hbmUe = d.hbmUe := rfl
@[simp] theorem Dev.setLu_hbmCe (d : Dev) (k : Nat) (x : Latch) : (d.setLu k x).hbmCe = d.hbmCe := rfl
@[simp] theorem Dev.setLu_repairPend (d : Dev) (k : Nat) (x : Latch) : (d.setLu k x).repairPend = d.repairPend := rfl
@[simp] theorem Dev.setLu_repair (d : Dev) (k : Nat) (x : Latch) : (d.setLu k x).repair = d.repair := rfl
@[simp] theorem Dev.setLu_repairAt (d : Dev) (k : Nat) (x : Latch) : (d.setLu k x).repairAt = d.repairAt := rfl
@[simp] theorem Dev.setLu_zeroTo (d : Dev) (k : Nat) (x : Latch) : (d.setLu k x).zeroTo = d.zeroTo := rfl
@[simp] theorem Dev.setLu_pci (d : Dev) (k : Nat) (x : Latch) : (d.setLu k x).pci = d.pci := rfl
@[simp] theorem Dev.setLu_fenced (d : Dev) (k : Nat) (x : Latch) : (d.setLu k x).fenced = d.fenced := rfl
@[simp] theorem Dev.setLu_host (d : Dev) (k : Nat) (x : Latch) : (d.setLu k x).host = d.host := rfl
@[simp] theorem Dev.setLu_bmeOff (d : Dev) (k : Nat) (x : Latch) : (d.setLu k x).bmeOff = d.bmeOff := rfl
@[simp] theorem Dev.setLu_msixOff (d : Dev) (k : Nat) (x : Latch) : (d.setLu k x).msixOff = d.msixOff := rfl
@[simp] theorem Dev.setLu_cqWait (d : Dev) (k : Nat) (x : Latch) : (d.setLu k x).cqWait = d.cqWait := rfl
@[simp] theorem Dev.setLu_rrLost (d : Dev) (k : Nat) (x : Latch) : (d.setLu k x).rrLost = d.rrLost := rfl
@[simp] theorem Dev.setLu_longs (d : Dev) (k : Nat) (x : Latch) : (d.setLu k x).longs = d.longs := rfl
@[simp] theorem Dev.setLu_tokens (d : Dev) (k : Nat) (x : Latch) : (d.setLu k x).tokens = d.tokens := rfl
@[simp] theorem Dev.setLu_turn (d : Dev) (k : Nat) (x : Latch) : (d.setLu k x).turn = d.turn := rfl
@[simp] theorem Dev.setLu_aslots (d : Dev) (k : Nat) (x : Latch) : (d.setLu k x).aslots = d.aslots := rfl
@[simp] theorem Dev.setLu_aunits (d : Dev) (k : Nat) (x : Latch) : (d.setLu k x).aunits = d.aunits := rfl
@[simp] theorem Dev.setLu_cams (d : Dev) (k : Nat) (x : Latch) : (d.setLu k x).cams = d.cams := rfl
@[simp] theorem Dev.setLu_engines (d : Dev) (k : Nat) (x : Latch) : (d.setLu k x).engines = d.engines := rfl
@[simp] theorem Dev.setLu_served (d : Dev) (k : Nat) (x : Latch) : (d.setLu k x).served = d.served := rfl
@[simp] theorem Dev.setLu_frames (d : Dev) (k : Nat) (x : Latch) : (d.setLu k x).frames = d.frames := rfl
@[simp] theorem Dev.setLu_tensors (d : Dev) (k : Nat) (x : Latch) : (d.setLu k x).tensors = d.tensors := rfl
@[simp] theorem Dev.setLu_mir (d : Dev) (k : Nat) (x : Latch) : (d.setLu k x).mir = d.mir := rfl
@[simp] theorem Dev.setLu_sill (d : Dev) (k : Nat) (x : Latch) : (d.setLu k x).sill = d.sill := rfl
@[simp] theorem Dev.setLu_gov (d : Dev) (k : Nat) (x : Latch) : (d.setLu k x).gov = d.gov := rfl
@[simp] theorem Dev.setLu_hot (d : Dev) (k : Nat) (x : Latch) : (d.setLu k x).hot = d.hot := rfl
@[simp] theorem Dev.setLu_warned (d : Dev) (k : Nat) (x : Latch) : (d.setLu k x).warned = d.warned := rfl
@[simp] theorem Dev.setLu_railLow (d : Dev) (k : Nat) (x : Latch) : (d.setLu k x).railLow = d.railLow := rfl
@[simp] theorem Dev.setLu_chans (d : Dev) (k : Nat) (x : Latch) : (d.setLu k x).chans = d.chans := rfl
@[simp] theorem Dev.setLu_panes (d : Dev) (k : Nat) (x : Latch) : (d.setLu k x).panes = d.panes := rfl
@[simp] theorem Dev.setLu_weighQ (d : Dev) (k : Nat) (x : Latch) : (d.setLu k x).weighQ = d.weighQ := rfl
@[simp] theorem Dev.setLu_weighBind (d : Dev) (k : Nat) (x : Latch) : (d.setLu k x).weighBind = d.weighBind := rfl
@[simp] theorem Dev.setLu_boot (d : Dev) (k : Nat) (x : Latch) : (d.setLu k x).boot = d.boot := rfl
@[simp] theorem Dev.setLu_flash (d : Dev) (k : Nat) (x : Latch) : (d.setLu k x).flash = d.flash := rfl
@[simp] theorem Dev.setLu_secOp (d : Dev) (k : Nat) (x : Latch) : (d.setLu k x).secOp = d.secOp := rfl
@[simp] theorem Dev.setLu_alerts (d : Dev) (k : Nat) (x : Latch) : (d.setLu k x).alerts = d.alerts := rfl
@[simp] theorem Dev.setLu_aer (d : Dev) (k : Nat) (x : Latch) : (d.setLu k x).aer = d.aer := rfl
@[simp] theorem Dev.setLu_lit (d : Dev) (k : Nat) (x : Latch) : (d.setLu k x).lit = d.lit := rfl
@[simp] theorem Dev.setLu_held (d : Dev) (k : Nat) (x : Latch) : (d.setLu k x).held = d.held := rfl
@[simp] theorem Dev.setLu_tel (d : Dev) (k : Nat) (x : Latch) : (d.setLu k x).tel = d.tel := rfl
@[simp] theorem Dev.setLu_streams (d : Dev) (k : Nat) (x : Latch) : (d.setLu k x).streams = d.streams := rfl
@[simp] theorem Dev.setLu_batchers (d : Dev) (k : Nat) (x : Latch) : (d.setLu k x).batchers = d.batchers := rfl
@[simp] theorem Dev.setLu_pairOut (d : Dev) (k : Nat) (x : Latch) : (d.setLu k x).pairOut = d.pairOut := rfl
@[simp] theorem Dev.setLu_scDone (d : Dev) (k : Nat) (x : Latch) : (d.setLu k x).scDone = d.scDone := rfl
@[simp] theorem Dev.setLu_jobs (d : Dev) (k : Nat) (x : Latch) : (d.setLu k x).jobs = d.jobs := rfl
@[simp] theorem Dev.setLu_plans (d : Dev) (k : Nat) (x : Latch) : (d.setLu k x).plans = d.plans := rfl
@[simp] theorem Dev.setLu_images (d : Dev) (k : Nat) (x : Latch) : (d.setLu k x).images = d.images := rfl
@[simp] theorem Dev.setLu_epoch (d : Dev) (k : Nat) (x : Latch) : (d.setLu k x).epoch = d.epoch := rfl
@[simp] theorem Dev.setLu_belowAdmit (d : Dev) (k : Nat) (x : Latch) : (d.setLu k x).belowAdmit = d.belowAdmit := rfl
@[simp] theorem Dev.setLu_poolTurn (d : Dev) (k : Nat) (x : Latch) : (d.setLu k x).poolTurn = d.poolTurn := rfl
@[simp] theorem Dev.setLu_shadows (d : Dev) (k : Nat) (x : Latch) : (d.setLu k x).shadows = d.shadows := rfl
@[simp] theorem Dev.setLu_answer (d : Dev) (k : Nat) (x : Latch) : (d.setLu k x).answer = d.answer := rfl
@[simp] theorem Dev.setLu_fresh (d : Dev) (k : Nat) (x : Latch) : (d.setLu k x).fresh = d.fresh := rfl
@[simp] theorem Dev.reg_setLu_at (d : Dev) (k : Nat) (x : Latch) (o' : Nat) : (d.setLu k x).reg o' = d.reg o' := rfl
@[simp] theorem Dev.core_setLu_at (d : Dev) (k : Nat) (x : Latch) (k' : Nat) : (d.setLu k x).core k' = d.core k' := rfl
@[simp] theorem Dev.stage_setLu_at (d : Dev) (k : Nat) (x : Latch) (k' : Nat) : (d.setLu k x).stage k' = d.stage k' := rfl
@[simp] theorem Dev.stream_setLu_at (d : Dev) (k : Nat) (x : Latch) (k' : Nat) : (d.setLu k x).stream k' = d.stream k' := rfl
@[simp] theorem Dev.job_setLu_at (d : Dev) (k : Nat) (x : Latch) (k' : Nat) : (d.setLu k x).job k' = d.job k' := rfl
@[simp] theorem Dev.bat_setLu_at (d : Dev) (k : Nat) (x : Latch) (k' : Nat) : (d.setLu k x).bat k' = d.bat k' := rfl
@[simp] theorem Dev.waiting_setLu_at (d : Dev) (k : Nat) (x : Latch) (k' : Nat) : (d.setLu k x).waiting k' = d.waiting k' := rfl
@[simp] theorem Dev.plan_setLu_at (d : Dev) (k : Nat) (x : Latch) (k' : Nat) : (d.setLu k x).plan k' = d.plan k' := rfl
@[simp] theorem Dev.pane_setLu_at (d : Dev) (k : Nat) (x : Latch) (k' : Nat) : (d.setLu k x).pane k' = d.pane k' := rfl

/-! `setStream` -/

@[simp] theorem Dev.setStream_tick (d : Dev) (k : Nat) (x : Stream) : (d.setStream k x).tick = d.tick := rfl
@[simp] theorem Dev.setStream_tickBase (d : Dev) (k : Nat) (x : Stream) : (d.setStream k x).tickBase = d.tickBase := rfl
@[simp] theorem Dev.setStream_sideCyc (d : Dev) (k : Nat) (x : Stream) : (d.setStream k x).sideCyc = d.sideCyc := rfl
@[simp] theorem Dev.setStream_regs (d : Dev) (k : Nat) (x : Stream) : (d.setStream k x).regs = d.regs := rfl
@[simp] theorem Dev.setStream_cores (d : Dev) (k : Nat) (x : Stream) : (d.setStream k x).cores = d.cores := rfl
@[simp] theorem Dev.setStream_stages (d : Dev) (k : Nat) (x : Stream) : (d.setStream k x).stages = d.stages := rfl
@[simp] theorem Dev.setStream_lus (d : Dev) (k : Nat) (x : Stream) : (d.setStream k x).lus = d.lus := rfl
@[simp] theorem Dev.setStream_hbm (d : Dev) (k : Nat) (x : Stream) : (d.setStream k x).hbm = d.hbm := rfl
@[simp] theorem Dev.setStream_hbmUe (d : Dev) (k : Nat) (x : Stream) : (d.setStream k x).hbmUe = d.hbmUe := rfl
@[simp] theorem Dev.setStream_hbmCe (d : Dev) (k : Nat) (x : Stream) : (d.setStream k x).hbmCe = d.hbmCe := rfl
@[simp] theorem Dev.setStream_repairPend (d : Dev) (k : Nat) (x : Stream) : (d.setStream k x).repairPend = d.repairPend := rfl
@[simp] theorem Dev.setStream_repair (d : Dev) (k : Nat) (x : Stream) : (d.setStream k x).repair = d.repair := rfl
@[simp] theorem Dev.setStream_repairAt (d : Dev) (k : Nat) (x : Stream) : (d.setStream k x).repairAt = d.repairAt := rfl
@[simp] theorem Dev.setStream_zeroTo (d : Dev) (k : Nat) (x : Stream) : (d.setStream k x).zeroTo = d.zeroTo := rfl
@[simp] theorem Dev.setStream_pci (d : Dev) (k : Nat) (x : Stream) : (d.setStream k x).pci = d.pci := rfl
@[simp] theorem Dev.setStream_fenced (d : Dev) (k : Nat) (x : Stream) : (d.setStream k x).fenced = d.fenced := rfl
@[simp] theorem Dev.setStream_host (d : Dev) (k : Nat) (x : Stream) : (d.setStream k x).host = d.host := rfl
@[simp] theorem Dev.setStream_bmeOff (d : Dev) (k : Nat) (x : Stream) : (d.setStream k x).bmeOff = d.bmeOff := rfl
@[simp] theorem Dev.setStream_msixOff (d : Dev) (k : Nat) (x : Stream) : (d.setStream k x).msixOff = d.msixOff := rfl
@[simp] theorem Dev.setStream_cqWait (d : Dev) (k : Nat) (x : Stream) : (d.setStream k x).cqWait = d.cqWait := rfl
@[simp] theorem Dev.setStream_rrLost (d : Dev) (k : Nat) (x : Stream) : (d.setStream k x).rrLost = d.rrLost := rfl
@[simp] theorem Dev.setStream_longs (d : Dev) (k : Nat) (x : Stream) : (d.setStream k x).longs = d.longs := rfl
@[simp] theorem Dev.setStream_tokens (d : Dev) (k : Nat) (x : Stream) : (d.setStream k x).tokens = d.tokens := rfl
@[simp] theorem Dev.setStream_turn (d : Dev) (k : Nat) (x : Stream) : (d.setStream k x).turn = d.turn := rfl
@[simp] theorem Dev.setStream_aslots (d : Dev) (k : Nat) (x : Stream) : (d.setStream k x).aslots = d.aslots := rfl
@[simp] theorem Dev.setStream_aunits (d : Dev) (k : Nat) (x : Stream) : (d.setStream k x).aunits = d.aunits := rfl
@[simp] theorem Dev.setStream_cams (d : Dev) (k : Nat) (x : Stream) : (d.setStream k x).cams = d.cams := rfl
@[simp] theorem Dev.setStream_engines (d : Dev) (k : Nat) (x : Stream) : (d.setStream k x).engines = d.engines := rfl
@[simp] theorem Dev.setStream_served (d : Dev) (k : Nat) (x : Stream) : (d.setStream k x).served = d.served := rfl
@[simp] theorem Dev.setStream_frames (d : Dev) (k : Nat) (x : Stream) : (d.setStream k x).frames = d.frames := rfl
@[simp] theorem Dev.setStream_tensors (d : Dev) (k : Nat) (x : Stream) : (d.setStream k x).tensors = d.tensors := rfl
@[simp] theorem Dev.setStream_mir (d : Dev) (k : Nat) (x : Stream) : (d.setStream k x).mir = d.mir := rfl
@[simp] theorem Dev.setStream_sill (d : Dev) (k : Nat) (x : Stream) : (d.setStream k x).sill = d.sill := rfl
@[simp] theorem Dev.setStream_gov (d : Dev) (k : Nat) (x : Stream) : (d.setStream k x).gov = d.gov := rfl
@[simp] theorem Dev.setStream_hot (d : Dev) (k : Nat) (x : Stream) : (d.setStream k x).hot = d.hot := rfl
@[simp] theorem Dev.setStream_warned (d : Dev) (k : Nat) (x : Stream) : (d.setStream k x).warned = d.warned := rfl
@[simp] theorem Dev.setStream_railLow (d : Dev) (k : Nat) (x : Stream) : (d.setStream k x).railLow = d.railLow := rfl
@[simp] theorem Dev.setStream_chans (d : Dev) (k : Nat) (x : Stream) : (d.setStream k x).chans = d.chans := rfl
@[simp] theorem Dev.setStream_panes (d : Dev) (k : Nat) (x : Stream) : (d.setStream k x).panes = d.panes := rfl
@[simp] theorem Dev.setStream_weighQ (d : Dev) (k : Nat) (x : Stream) : (d.setStream k x).weighQ = d.weighQ := rfl
@[simp] theorem Dev.setStream_weighBind (d : Dev) (k : Nat) (x : Stream) : (d.setStream k x).weighBind = d.weighBind := rfl
@[simp] theorem Dev.setStream_boot (d : Dev) (k : Nat) (x : Stream) : (d.setStream k x).boot = d.boot := rfl
@[simp] theorem Dev.setStream_flash (d : Dev) (k : Nat) (x : Stream) : (d.setStream k x).flash = d.flash := rfl
@[simp] theorem Dev.setStream_secOp (d : Dev) (k : Nat) (x : Stream) : (d.setStream k x).secOp = d.secOp := rfl
@[simp] theorem Dev.setStream_alerts (d : Dev) (k : Nat) (x : Stream) : (d.setStream k x).alerts = d.alerts := rfl
@[simp] theorem Dev.setStream_aer (d : Dev) (k : Nat) (x : Stream) : (d.setStream k x).aer = d.aer := rfl
@[simp] theorem Dev.setStream_lit (d : Dev) (k : Nat) (x : Stream) : (d.setStream k x).lit = d.lit := rfl
@[simp] theorem Dev.setStream_held (d : Dev) (k : Nat) (x : Stream) : (d.setStream k x).held = d.held := rfl
@[simp] theorem Dev.setStream_tel (d : Dev) (k : Nat) (x : Stream) : (d.setStream k x).tel = d.tel := rfl
@[simp] theorem Dev.setStream_batchers (d : Dev) (k : Nat) (x : Stream) : (d.setStream k x).batchers = d.batchers := rfl
@[simp] theorem Dev.setStream_pairOut (d : Dev) (k : Nat) (x : Stream) : (d.setStream k x).pairOut = d.pairOut := rfl
@[simp] theorem Dev.setStream_scDone (d : Dev) (k : Nat) (x : Stream) : (d.setStream k x).scDone = d.scDone := rfl
@[simp] theorem Dev.setStream_jobs (d : Dev) (k : Nat) (x : Stream) : (d.setStream k x).jobs = d.jobs := rfl
@[simp] theorem Dev.setStream_plans (d : Dev) (k : Nat) (x : Stream) : (d.setStream k x).plans = d.plans := rfl
@[simp] theorem Dev.setStream_images (d : Dev) (k : Nat) (x : Stream) : (d.setStream k x).images = d.images := rfl
@[simp] theorem Dev.setStream_epoch (d : Dev) (k : Nat) (x : Stream) : (d.setStream k x).epoch = d.epoch := rfl
@[simp] theorem Dev.setStream_belowAdmit (d : Dev) (k : Nat) (x : Stream) : (d.setStream k x).belowAdmit = d.belowAdmit := rfl
@[simp] theorem Dev.setStream_poolTurn (d : Dev) (k : Nat) (x : Stream) : (d.setStream k x).poolTurn = d.poolTurn := rfl
@[simp] theorem Dev.setStream_shadows (d : Dev) (k : Nat) (x : Stream) : (d.setStream k x).shadows = d.shadows := rfl
@[simp] theorem Dev.setStream_answer (d : Dev) (k : Nat) (x : Stream) : (d.setStream k x).answer = d.answer := rfl
@[simp] theorem Dev.setStream_fresh (d : Dev) (k : Nat) (x : Stream) : (d.setStream k x).fresh = d.fresh := rfl
@[simp] theorem Dev.reg_setStream_at (d : Dev) (k : Nat) (x : Stream) (o' : Nat) : (d.setStream k x).reg o' = d.reg o' := rfl
@[simp] theorem Dev.core_setStream_at (d : Dev) (k : Nat) (x : Stream) (k' : Nat) : (d.setStream k x).core k' = d.core k' := rfl
@[simp] theorem Dev.stage_setStream_at (d : Dev) (k : Nat) (x : Stream) (k' : Nat) : (d.setStream k x).stage k' = d.stage k' := rfl
@[simp] theorem Dev.lu_setStream_at (d : Dev) (k : Nat) (x : Stream) (k' : Nat) : (d.setStream k x).lu k' = d.lu k' := rfl
@[simp] theorem Dev.job_setStream_at (d : Dev) (k : Nat) (x : Stream) (k' : Nat) : (d.setStream k x).job k' = d.job k' := rfl
@[simp] theorem Dev.bat_setStream_at (d : Dev) (k : Nat) (x : Stream) (k' : Nat) : (d.setStream k x).bat k' = d.bat k' := rfl
@[simp] theorem Dev.waiting_setStream_at (d : Dev) (k : Nat) (x : Stream) (k' : Nat) : (d.setStream k x).waiting k' = d.waiting k' := rfl
@[simp] theorem Dev.plan_setStream_at (d : Dev) (k : Nat) (x : Stream) (k' : Nat) : (d.setStream k x).plan k' = d.plan k' := rfl
@[simp] theorem Dev.pane_setStream_at (d : Dev) (k : Nat) (x : Stream) (k' : Nat) : (d.setStream k x).pane k' = d.pane k' := rfl

/-! `setJob` -/

@[simp] theorem Dev.setJob_tick (d : Dev) (k : Nat) (x : Job) : (d.setJob k x).tick = d.tick := rfl
@[simp] theorem Dev.setJob_tickBase (d : Dev) (k : Nat) (x : Job) : (d.setJob k x).tickBase = d.tickBase := rfl
@[simp] theorem Dev.setJob_sideCyc (d : Dev) (k : Nat) (x : Job) : (d.setJob k x).sideCyc = d.sideCyc := rfl
@[simp] theorem Dev.setJob_regs (d : Dev) (k : Nat) (x : Job) : (d.setJob k x).regs = d.regs := rfl
@[simp] theorem Dev.setJob_cores (d : Dev) (k : Nat) (x : Job) : (d.setJob k x).cores = d.cores := rfl
@[simp] theorem Dev.setJob_stages (d : Dev) (k : Nat) (x : Job) : (d.setJob k x).stages = d.stages := rfl
@[simp] theorem Dev.setJob_lus (d : Dev) (k : Nat) (x : Job) : (d.setJob k x).lus = d.lus := rfl
@[simp] theorem Dev.setJob_hbm (d : Dev) (k : Nat) (x : Job) : (d.setJob k x).hbm = d.hbm := rfl
@[simp] theorem Dev.setJob_hbmUe (d : Dev) (k : Nat) (x : Job) : (d.setJob k x).hbmUe = d.hbmUe := rfl
@[simp] theorem Dev.setJob_hbmCe (d : Dev) (k : Nat) (x : Job) : (d.setJob k x).hbmCe = d.hbmCe := rfl
@[simp] theorem Dev.setJob_repairPend (d : Dev) (k : Nat) (x : Job) : (d.setJob k x).repairPend = d.repairPend := rfl
@[simp] theorem Dev.setJob_repair (d : Dev) (k : Nat) (x : Job) : (d.setJob k x).repair = d.repair := rfl
@[simp] theorem Dev.setJob_repairAt (d : Dev) (k : Nat) (x : Job) : (d.setJob k x).repairAt = d.repairAt := rfl
@[simp] theorem Dev.setJob_zeroTo (d : Dev) (k : Nat) (x : Job) : (d.setJob k x).zeroTo = d.zeroTo := rfl
@[simp] theorem Dev.setJob_pci (d : Dev) (k : Nat) (x : Job) : (d.setJob k x).pci = d.pci := rfl
@[simp] theorem Dev.setJob_fenced (d : Dev) (k : Nat) (x : Job) : (d.setJob k x).fenced = d.fenced := rfl
@[simp] theorem Dev.setJob_host (d : Dev) (k : Nat) (x : Job) : (d.setJob k x).host = d.host := rfl
@[simp] theorem Dev.setJob_bmeOff (d : Dev) (k : Nat) (x : Job) : (d.setJob k x).bmeOff = d.bmeOff := rfl
@[simp] theorem Dev.setJob_msixOff (d : Dev) (k : Nat) (x : Job) : (d.setJob k x).msixOff = d.msixOff := rfl
@[simp] theorem Dev.setJob_cqWait (d : Dev) (k : Nat) (x : Job) : (d.setJob k x).cqWait = d.cqWait := rfl
@[simp] theorem Dev.setJob_rrLost (d : Dev) (k : Nat) (x : Job) : (d.setJob k x).rrLost = d.rrLost := rfl
@[simp] theorem Dev.setJob_longs (d : Dev) (k : Nat) (x : Job) : (d.setJob k x).longs = d.longs := rfl
@[simp] theorem Dev.setJob_tokens (d : Dev) (k : Nat) (x : Job) : (d.setJob k x).tokens = d.tokens := rfl
@[simp] theorem Dev.setJob_turn (d : Dev) (k : Nat) (x : Job) : (d.setJob k x).turn = d.turn := rfl
@[simp] theorem Dev.setJob_aslots (d : Dev) (k : Nat) (x : Job) : (d.setJob k x).aslots = d.aslots := rfl
@[simp] theorem Dev.setJob_aunits (d : Dev) (k : Nat) (x : Job) : (d.setJob k x).aunits = d.aunits := rfl
@[simp] theorem Dev.setJob_cams (d : Dev) (k : Nat) (x : Job) : (d.setJob k x).cams = d.cams := rfl
@[simp] theorem Dev.setJob_engines (d : Dev) (k : Nat) (x : Job) : (d.setJob k x).engines = d.engines := rfl
@[simp] theorem Dev.setJob_served (d : Dev) (k : Nat) (x : Job) : (d.setJob k x).served = d.served := rfl
@[simp] theorem Dev.setJob_frames (d : Dev) (k : Nat) (x : Job) : (d.setJob k x).frames = d.frames := rfl
@[simp] theorem Dev.setJob_tensors (d : Dev) (k : Nat) (x : Job) : (d.setJob k x).tensors = d.tensors := rfl
@[simp] theorem Dev.setJob_mir (d : Dev) (k : Nat) (x : Job) : (d.setJob k x).mir = d.mir := rfl
@[simp] theorem Dev.setJob_sill (d : Dev) (k : Nat) (x : Job) : (d.setJob k x).sill = d.sill := rfl
@[simp] theorem Dev.setJob_gov (d : Dev) (k : Nat) (x : Job) : (d.setJob k x).gov = d.gov := rfl
@[simp] theorem Dev.setJob_hot (d : Dev) (k : Nat) (x : Job) : (d.setJob k x).hot = d.hot := rfl
@[simp] theorem Dev.setJob_warned (d : Dev) (k : Nat) (x : Job) : (d.setJob k x).warned = d.warned := rfl
@[simp] theorem Dev.setJob_railLow (d : Dev) (k : Nat) (x : Job) : (d.setJob k x).railLow = d.railLow := rfl
@[simp] theorem Dev.setJob_chans (d : Dev) (k : Nat) (x : Job) : (d.setJob k x).chans = d.chans := rfl
@[simp] theorem Dev.setJob_panes (d : Dev) (k : Nat) (x : Job) : (d.setJob k x).panes = d.panes := rfl
@[simp] theorem Dev.setJob_weighQ (d : Dev) (k : Nat) (x : Job) : (d.setJob k x).weighQ = d.weighQ := rfl
@[simp] theorem Dev.setJob_weighBind (d : Dev) (k : Nat) (x : Job) : (d.setJob k x).weighBind = d.weighBind := rfl
@[simp] theorem Dev.setJob_boot (d : Dev) (k : Nat) (x : Job) : (d.setJob k x).boot = d.boot := rfl
@[simp] theorem Dev.setJob_flash (d : Dev) (k : Nat) (x : Job) : (d.setJob k x).flash = d.flash := rfl
@[simp] theorem Dev.setJob_secOp (d : Dev) (k : Nat) (x : Job) : (d.setJob k x).secOp = d.secOp := rfl
@[simp] theorem Dev.setJob_alerts (d : Dev) (k : Nat) (x : Job) : (d.setJob k x).alerts = d.alerts := rfl
@[simp] theorem Dev.setJob_aer (d : Dev) (k : Nat) (x : Job) : (d.setJob k x).aer = d.aer := rfl
@[simp] theorem Dev.setJob_lit (d : Dev) (k : Nat) (x : Job) : (d.setJob k x).lit = d.lit := rfl
@[simp] theorem Dev.setJob_held (d : Dev) (k : Nat) (x : Job) : (d.setJob k x).held = d.held := rfl
@[simp] theorem Dev.setJob_tel (d : Dev) (k : Nat) (x : Job) : (d.setJob k x).tel = d.tel := rfl
@[simp] theorem Dev.setJob_streams (d : Dev) (k : Nat) (x : Job) : (d.setJob k x).streams = d.streams := rfl
@[simp] theorem Dev.setJob_batchers (d : Dev) (k : Nat) (x : Job) : (d.setJob k x).batchers = d.batchers := rfl
@[simp] theorem Dev.setJob_pairOut (d : Dev) (k : Nat) (x : Job) : (d.setJob k x).pairOut = d.pairOut := rfl
@[simp] theorem Dev.setJob_scDone (d : Dev) (k : Nat) (x : Job) : (d.setJob k x).scDone = d.scDone := rfl
@[simp] theorem Dev.setJob_plans (d : Dev) (k : Nat) (x : Job) : (d.setJob k x).plans = d.plans := rfl
@[simp] theorem Dev.setJob_images (d : Dev) (k : Nat) (x : Job) : (d.setJob k x).images = d.images := rfl
@[simp] theorem Dev.setJob_epoch (d : Dev) (k : Nat) (x : Job) : (d.setJob k x).epoch = d.epoch := rfl
@[simp] theorem Dev.setJob_belowAdmit (d : Dev) (k : Nat) (x : Job) : (d.setJob k x).belowAdmit = d.belowAdmit := rfl
@[simp] theorem Dev.setJob_poolTurn (d : Dev) (k : Nat) (x : Job) : (d.setJob k x).poolTurn = d.poolTurn := rfl
@[simp] theorem Dev.setJob_shadows (d : Dev) (k : Nat) (x : Job) : (d.setJob k x).shadows = d.shadows := rfl
@[simp] theorem Dev.setJob_answer (d : Dev) (k : Nat) (x : Job) : (d.setJob k x).answer = d.answer := rfl
@[simp] theorem Dev.setJob_fresh (d : Dev) (k : Nat) (x : Job) : (d.setJob k x).fresh = d.fresh := rfl
@[simp] theorem Dev.reg_setJob_at (d : Dev) (k : Nat) (x : Job) (o' : Nat) : (d.setJob k x).reg o' = d.reg o' := rfl
@[simp] theorem Dev.core_setJob_at (d : Dev) (k : Nat) (x : Job) (k' : Nat) : (d.setJob k x).core k' = d.core k' := rfl
@[simp] theorem Dev.stage_setJob_at (d : Dev) (k : Nat) (x : Job) (k' : Nat) : (d.setJob k x).stage k' = d.stage k' := rfl
@[simp] theorem Dev.lu_setJob_at (d : Dev) (k : Nat) (x : Job) (k' : Nat) : (d.setJob k x).lu k' = d.lu k' := rfl
@[simp] theorem Dev.stream_setJob_at (d : Dev) (k : Nat) (x : Job) (k' : Nat) : (d.setJob k x).stream k' = d.stream k' := rfl
@[simp] theorem Dev.bat_setJob_at (d : Dev) (k : Nat) (x : Job) (k' : Nat) : (d.setJob k x).bat k' = d.bat k' := rfl
@[simp] theorem Dev.waiting_setJob_at (d : Dev) (k : Nat) (x : Job) (k' : Nat) : (d.setJob k x).waiting k' = d.waiting k' := rfl
@[simp] theorem Dev.plan_setJob_at (d : Dev) (k : Nat) (x : Job) (k' : Nat) : (d.setJob k x).plan k' = d.plan k' := rfl
@[simp] theorem Dev.pane_setJob_at (d : Dev) (k : Nat) (x : Job) (k' : Nat) : (d.setJob k x).pane k' = d.pane k' := rfl

/-! `setBat` -/

@[simp] theorem Dev.setBat_tick (d : Dev) (k : Nat) (x : Batcher) : (d.setBat k x).tick = d.tick := rfl
@[simp] theorem Dev.setBat_tickBase (d : Dev) (k : Nat) (x : Batcher) : (d.setBat k x).tickBase = d.tickBase := rfl
@[simp] theorem Dev.setBat_sideCyc (d : Dev) (k : Nat) (x : Batcher) : (d.setBat k x).sideCyc = d.sideCyc := rfl
@[simp] theorem Dev.setBat_regs (d : Dev) (k : Nat) (x : Batcher) : (d.setBat k x).regs = d.regs := rfl
@[simp] theorem Dev.setBat_cores (d : Dev) (k : Nat) (x : Batcher) : (d.setBat k x).cores = d.cores := rfl
@[simp] theorem Dev.setBat_stages (d : Dev) (k : Nat) (x : Batcher) : (d.setBat k x).stages = d.stages := rfl
@[simp] theorem Dev.setBat_lus (d : Dev) (k : Nat) (x : Batcher) : (d.setBat k x).lus = d.lus := rfl
@[simp] theorem Dev.setBat_hbm (d : Dev) (k : Nat) (x : Batcher) : (d.setBat k x).hbm = d.hbm := rfl
@[simp] theorem Dev.setBat_hbmUe (d : Dev) (k : Nat) (x : Batcher) : (d.setBat k x).hbmUe = d.hbmUe := rfl
@[simp] theorem Dev.setBat_hbmCe (d : Dev) (k : Nat) (x : Batcher) : (d.setBat k x).hbmCe = d.hbmCe := rfl
@[simp] theorem Dev.setBat_repairPend (d : Dev) (k : Nat) (x : Batcher) : (d.setBat k x).repairPend = d.repairPend := rfl
@[simp] theorem Dev.setBat_repair (d : Dev) (k : Nat) (x : Batcher) : (d.setBat k x).repair = d.repair := rfl
@[simp] theorem Dev.setBat_repairAt (d : Dev) (k : Nat) (x : Batcher) : (d.setBat k x).repairAt = d.repairAt := rfl
@[simp] theorem Dev.setBat_zeroTo (d : Dev) (k : Nat) (x : Batcher) : (d.setBat k x).zeroTo = d.zeroTo := rfl
@[simp] theorem Dev.setBat_pci (d : Dev) (k : Nat) (x : Batcher) : (d.setBat k x).pci = d.pci := rfl
@[simp] theorem Dev.setBat_fenced (d : Dev) (k : Nat) (x : Batcher) : (d.setBat k x).fenced = d.fenced := rfl
@[simp] theorem Dev.setBat_host (d : Dev) (k : Nat) (x : Batcher) : (d.setBat k x).host = d.host := rfl
@[simp] theorem Dev.setBat_bmeOff (d : Dev) (k : Nat) (x : Batcher) : (d.setBat k x).bmeOff = d.bmeOff := rfl
@[simp] theorem Dev.setBat_msixOff (d : Dev) (k : Nat) (x : Batcher) : (d.setBat k x).msixOff = d.msixOff := rfl
@[simp] theorem Dev.setBat_cqWait (d : Dev) (k : Nat) (x : Batcher) : (d.setBat k x).cqWait = d.cqWait := rfl
@[simp] theorem Dev.setBat_rrLost (d : Dev) (k : Nat) (x : Batcher) : (d.setBat k x).rrLost = d.rrLost := rfl
@[simp] theorem Dev.setBat_longs (d : Dev) (k : Nat) (x : Batcher) : (d.setBat k x).longs = d.longs := rfl
@[simp] theorem Dev.setBat_tokens (d : Dev) (k : Nat) (x : Batcher) : (d.setBat k x).tokens = d.tokens := rfl
@[simp] theorem Dev.setBat_turn (d : Dev) (k : Nat) (x : Batcher) : (d.setBat k x).turn = d.turn := rfl
@[simp] theorem Dev.setBat_aslots (d : Dev) (k : Nat) (x : Batcher) : (d.setBat k x).aslots = d.aslots := rfl
@[simp] theorem Dev.setBat_aunits (d : Dev) (k : Nat) (x : Batcher) : (d.setBat k x).aunits = d.aunits := rfl
@[simp] theorem Dev.setBat_cams (d : Dev) (k : Nat) (x : Batcher) : (d.setBat k x).cams = d.cams := rfl
@[simp] theorem Dev.setBat_engines (d : Dev) (k : Nat) (x : Batcher) : (d.setBat k x).engines = d.engines := rfl
@[simp] theorem Dev.setBat_served (d : Dev) (k : Nat) (x : Batcher) : (d.setBat k x).served = d.served := rfl
@[simp] theorem Dev.setBat_frames (d : Dev) (k : Nat) (x : Batcher) : (d.setBat k x).frames = d.frames := rfl
@[simp] theorem Dev.setBat_tensors (d : Dev) (k : Nat) (x : Batcher) : (d.setBat k x).tensors = d.tensors := rfl
@[simp] theorem Dev.setBat_mir (d : Dev) (k : Nat) (x : Batcher) : (d.setBat k x).mir = d.mir := rfl
@[simp] theorem Dev.setBat_sill (d : Dev) (k : Nat) (x : Batcher) : (d.setBat k x).sill = d.sill := rfl
@[simp] theorem Dev.setBat_gov (d : Dev) (k : Nat) (x : Batcher) : (d.setBat k x).gov = d.gov := rfl
@[simp] theorem Dev.setBat_hot (d : Dev) (k : Nat) (x : Batcher) : (d.setBat k x).hot = d.hot := rfl
@[simp] theorem Dev.setBat_warned (d : Dev) (k : Nat) (x : Batcher) : (d.setBat k x).warned = d.warned := rfl
@[simp] theorem Dev.setBat_railLow (d : Dev) (k : Nat) (x : Batcher) : (d.setBat k x).railLow = d.railLow := rfl
@[simp] theorem Dev.setBat_chans (d : Dev) (k : Nat) (x : Batcher) : (d.setBat k x).chans = d.chans := rfl
@[simp] theorem Dev.setBat_panes (d : Dev) (k : Nat) (x : Batcher) : (d.setBat k x).panes = d.panes := rfl
@[simp] theorem Dev.setBat_weighQ (d : Dev) (k : Nat) (x : Batcher) : (d.setBat k x).weighQ = d.weighQ := rfl
@[simp] theorem Dev.setBat_weighBind (d : Dev) (k : Nat) (x : Batcher) : (d.setBat k x).weighBind = d.weighBind := rfl
@[simp] theorem Dev.setBat_boot (d : Dev) (k : Nat) (x : Batcher) : (d.setBat k x).boot = d.boot := rfl
@[simp] theorem Dev.setBat_flash (d : Dev) (k : Nat) (x : Batcher) : (d.setBat k x).flash = d.flash := rfl
@[simp] theorem Dev.setBat_secOp (d : Dev) (k : Nat) (x : Batcher) : (d.setBat k x).secOp = d.secOp := rfl
@[simp] theorem Dev.setBat_alerts (d : Dev) (k : Nat) (x : Batcher) : (d.setBat k x).alerts = d.alerts := rfl
@[simp] theorem Dev.setBat_aer (d : Dev) (k : Nat) (x : Batcher) : (d.setBat k x).aer = d.aer := rfl
@[simp] theorem Dev.setBat_lit (d : Dev) (k : Nat) (x : Batcher) : (d.setBat k x).lit = d.lit := rfl
@[simp] theorem Dev.setBat_held (d : Dev) (k : Nat) (x : Batcher) : (d.setBat k x).held = d.held := rfl
@[simp] theorem Dev.setBat_tel (d : Dev) (k : Nat) (x : Batcher) : (d.setBat k x).tel = d.tel := rfl
@[simp] theorem Dev.setBat_streams (d : Dev) (k : Nat) (x : Batcher) : (d.setBat k x).streams = d.streams := rfl
@[simp] theorem Dev.setBat_pairOut (d : Dev) (k : Nat) (x : Batcher) : (d.setBat k x).pairOut = d.pairOut := rfl
@[simp] theorem Dev.setBat_scDone (d : Dev) (k : Nat) (x : Batcher) : (d.setBat k x).scDone = d.scDone := rfl
@[simp] theorem Dev.setBat_jobs (d : Dev) (k : Nat) (x : Batcher) : (d.setBat k x).jobs = d.jobs := rfl
@[simp] theorem Dev.setBat_plans (d : Dev) (k : Nat) (x : Batcher) : (d.setBat k x).plans = d.plans := rfl
@[simp] theorem Dev.setBat_images (d : Dev) (k : Nat) (x : Batcher) : (d.setBat k x).images = d.images := rfl
@[simp] theorem Dev.setBat_epoch (d : Dev) (k : Nat) (x : Batcher) : (d.setBat k x).epoch = d.epoch := rfl
@[simp] theorem Dev.setBat_belowAdmit (d : Dev) (k : Nat) (x : Batcher) : (d.setBat k x).belowAdmit = d.belowAdmit := rfl
@[simp] theorem Dev.setBat_poolTurn (d : Dev) (k : Nat) (x : Batcher) : (d.setBat k x).poolTurn = d.poolTurn := rfl
@[simp] theorem Dev.setBat_shadows (d : Dev) (k : Nat) (x : Batcher) : (d.setBat k x).shadows = d.shadows := rfl
@[simp] theorem Dev.setBat_answer (d : Dev) (k : Nat) (x : Batcher) : (d.setBat k x).answer = d.answer := rfl
@[simp] theorem Dev.setBat_fresh (d : Dev) (k : Nat) (x : Batcher) : (d.setBat k x).fresh = d.fresh := rfl
@[simp] theorem Dev.reg_setBat_at (d : Dev) (k : Nat) (x : Batcher) (o' : Nat) : (d.setBat k x).reg o' = d.reg o' := rfl
@[simp] theorem Dev.core_setBat_at (d : Dev) (k : Nat) (x : Batcher) (k' : Nat) : (d.setBat k x).core k' = d.core k' := rfl
@[simp] theorem Dev.stage_setBat_at (d : Dev) (k : Nat) (x : Batcher) (k' : Nat) : (d.setBat k x).stage k' = d.stage k' := rfl
@[simp] theorem Dev.lu_setBat_at (d : Dev) (k : Nat) (x : Batcher) (k' : Nat) : (d.setBat k x).lu k' = d.lu k' := rfl
@[simp] theorem Dev.stream_setBat_at (d : Dev) (k : Nat) (x : Batcher) (k' : Nat) : (d.setBat k x).stream k' = d.stream k' := rfl
@[simp] theorem Dev.job_setBat_at (d : Dev) (k : Nat) (x : Batcher) (k' : Nat) : (d.setBat k x).job k' = d.job k' := rfl
@[simp] theorem Dev.waiting_setBat_at (d : Dev) (k : Nat) (x : Batcher) (k' : Nat) : (d.setBat k x).waiting k' = d.waiting k' := rfl
@[simp] theorem Dev.plan_setBat_at (d : Dev) (k : Nat) (x : Batcher) (k' : Nat) : (d.setBat k x).plan k' = d.plan k' := rfl
@[simp] theorem Dev.pane_setBat_at (d : Dev) (k : Nat) (x : Batcher) (k' : Nat) : (d.setBat k x).pane k' = d.pane k' := rfl

/-! `setWaiting` -/

@[simp] theorem Dev.setWaiting_tick (d : Dev) (k : Nat) (x : List Record) : (d.setWaiting k x).tick = d.tick := rfl
@[simp] theorem Dev.setWaiting_tickBase (d : Dev) (k : Nat) (x : List Record) : (d.setWaiting k x).tickBase = d.tickBase := rfl
@[simp] theorem Dev.setWaiting_sideCyc (d : Dev) (k : Nat) (x : List Record) : (d.setWaiting k x).sideCyc = d.sideCyc := rfl
@[simp] theorem Dev.setWaiting_regs (d : Dev) (k : Nat) (x : List Record) : (d.setWaiting k x).regs = d.regs := rfl
@[simp] theorem Dev.setWaiting_cores (d : Dev) (k : Nat) (x : List Record) : (d.setWaiting k x).cores = d.cores := rfl
@[simp] theorem Dev.setWaiting_stages (d : Dev) (k : Nat) (x : List Record) : (d.setWaiting k x).stages = d.stages := rfl
@[simp] theorem Dev.setWaiting_lus (d : Dev) (k : Nat) (x : List Record) : (d.setWaiting k x).lus = d.lus := rfl
@[simp] theorem Dev.setWaiting_hbm (d : Dev) (k : Nat) (x : List Record) : (d.setWaiting k x).hbm = d.hbm := rfl
@[simp] theorem Dev.setWaiting_hbmUe (d : Dev) (k : Nat) (x : List Record) : (d.setWaiting k x).hbmUe = d.hbmUe := rfl
@[simp] theorem Dev.setWaiting_hbmCe (d : Dev) (k : Nat) (x : List Record) : (d.setWaiting k x).hbmCe = d.hbmCe := rfl
@[simp] theorem Dev.setWaiting_repairPend (d : Dev) (k : Nat) (x : List Record) : (d.setWaiting k x).repairPend = d.repairPend := rfl
@[simp] theorem Dev.setWaiting_repair (d : Dev) (k : Nat) (x : List Record) : (d.setWaiting k x).repair = d.repair := rfl
@[simp] theorem Dev.setWaiting_repairAt (d : Dev) (k : Nat) (x : List Record) : (d.setWaiting k x).repairAt = d.repairAt := rfl
@[simp] theorem Dev.setWaiting_zeroTo (d : Dev) (k : Nat) (x : List Record) : (d.setWaiting k x).zeroTo = d.zeroTo := rfl
@[simp] theorem Dev.setWaiting_pci (d : Dev) (k : Nat) (x : List Record) : (d.setWaiting k x).pci = d.pci := rfl
@[simp] theorem Dev.setWaiting_fenced (d : Dev) (k : Nat) (x : List Record) : (d.setWaiting k x).fenced = d.fenced := rfl
@[simp] theorem Dev.setWaiting_host (d : Dev) (k : Nat) (x : List Record) : (d.setWaiting k x).host = d.host := rfl
@[simp] theorem Dev.setWaiting_bmeOff (d : Dev) (k : Nat) (x : List Record) : (d.setWaiting k x).bmeOff = d.bmeOff := rfl
@[simp] theorem Dev.setWaiting_msixOff (d : Dev) (k : Nat) (x : List Record) : (d.setWaiting k x).msixOff = d.msixOff := rfl
@[simp] theorem Dev.setWaiting_cqWait (d : Dev) (k : Nat) (x : List Record) : (d.setWaiting k x).cqWait = d.cqWait := rfl
@[simp] theorem Dev.setWaiting_rrLost (d : Dev) (k : Nat) (x : List Record) : (d.setWaiting k x).rrLost = d.rrLost := rfl
@[simp] theorem Dev.setWaiting_longs (d : Dev) (k : Nat) (x : List Record) : (d.setWaiting k x).longs = d.longs := rfl
@[simp] theorem Dev.setWaiting_tokens (d : Dev) (k : Nat) (x : List Record) : (d.setWaiting k x).tokens = d.tokens := rfl
@[simp] theorem Dev.setWaiting_turn (d : Dev) (k : Nat) (x : List Record) : (d.setWaiting k x).turn = d.turn := rfl
@[simp] theorem Dev.setWaiting_aslots (d : Dev) (k : Nat) (x : List Record) : (d.setWaiting k x).aslots = d.aslots := rfl
@[simp] theorem Dev.setWaiting_aunits (d : Dev) (k : Nat) (x : List Record) : (d.setWaiting k x).aunits = d.aunits := rfl
@[simp] theorem Dev.setWaiting_cams (d : Dev) (k : Nat) (x : List Record) : (d.setWaiting k x).cams = d.cams := rfl
@[simp] theorem Dev.setWaiting_engines (d : Dev) (k : Nat) (x : List Record) : (d.setWaiting k x).engines = d.engines := rfl
@[simp] theorem Dev.setWaiting_served (d : Dev) (k : Nat) (x : List Record) : (d.setWaiting k x).served = d.served := rfl
@[simp] theorem Dev.setWaiting_frames (d : Dev) (k : Nat) (x : List Record) : (d.setWaiting k x).frames = d.frames := rfl
@[simp] theorem Dev.setWaiting_tensors (d : Dev) (k : Nat) (x : List Record) : (d.setWaiting k x).tensors = d.tensors := rfl
@[simp] theorem Dev.setWaiting_mir (d : Dev) (k : Nat) (x : List Record) : (d.setWaiting k x).mir = d.mir := rfl
@[simp] theorem Dev.setWaiting_sill (d : Dev) (k : Nat) (x : List Record) : (d.setWaiting k x).sill = d.sill := rfl
@[simp] theorem Dev.setWaiting_gov (d : Dev) (k : Nat) (x : List Record) : (d.setWaiting k x).gov = d.gov := rfl
@[simp] theorem Dev.setWaiting_hot (d : Dev) (k : Nat) (x : List Record) : (d.setWaiting k x).hot = d.hot := rfl
@[simp] theorem Dev.setWaiting_warned (d : Dev) (k : Nat) (x : List Record) : (d.setWaiting k x).warned = d.warned := rfl
@[simp] theorem Dev.setWaiting_railLow (d : Dev) (k : Nat) (x : List Record) : (d.setWaiting k x).railLow = d.railLow := rfl
@[simp] theorem Dev.setWaiting_chans (d : Dev) (k : Nat) (x : List Record) : (d.setWaiting k x).chans = d.chans := rfl
@[simp] theorem Dev.setWaiting_panes (d : Dev) (k : Nat) (x : List Record) : (d.setWaiting k x).panes = d.panes := rfl
@[simp] theorem Dev.setWaiting_weighQ (d : Dev) (k : Nat) (x : List Record) : (d.setWaiting k x).weighQ = d.weighQ := rfl
@[simp] theorem Dev.setWaiting_weighBind (d : Dev) (k : Nat) (x : List Record) : (d.setWaiting k x).weighBind = d.weighBind := rfl
@[simp] theorem Dev.setWaiting_boot (d : Dev) (k : Nat) (x : List Record) : (d.setWaiting k x).boot = d.boot := rfl
@[simp] theorem Dev.setWaiting_flash (d : Dev) (k : Nat) (x : List Record) : (d.setWaiting k x).flash = d.flash := rfl
@[simp] theorem Dev.setWaiting_secOp (d : Dev) (k : Nat) (x : List Record) : (d.setWaiting k x).secOp = d.secOp := rfl
@[simp] theorem Dev.setWaiting_alerts (d : Dev) (k : Nat) (x : List Record) : (d.setWaiting k x).alerts = d.alerts := rfl
@[simp] theorem Dev.setWaiting_aer (d : Dev) (k : Nat) (x : List Record) : (d.setWaiting k x).aer = d.aer := rfl
@[simp] theorem Dev.setWaiting_lit (d : Dev) (k : Nat) (x : List Record) : (d.setWaiting k x).lit = d.lit := rfl
@[simp] theorem Dev.setWaiting_held (d : Dev) (k : Nat) (x : List Record) : (d.setWaiting k x).held = d.held := rfl
@[simp] theorem Dev.setWaiting_streams (d : Dev) (k : Nat) (x : List Record) : (d.setWaiting k x).streams = d.streams := rfl
@[simp] theorem Dev.setWaiting_batchers (d : Dev) (k : Nat) (x : List Record) : (d.setWaiting k x).batchers = d.batchers := rfl
@[simp] theorem Dev.setWaiting_pairOut (d : Dev) (k : Nat) (x : List Record) : (d.setWaiting k x).pairOut = d.pairOut := rfl
@[simp] theorem Dev.setWaiting_scDone (d : Dev) (k : Nat) (x : List Record) : (d.setWaiting k x).scDone = d.scDone := rfl
@[simp] theorem Dev.setWaiting_jobs (d : Dev) (k : Nat) (x : List Record) : (d.setWaiting k x).jobs = d.jobs := rfl
@[simp] theorem Dev.setWaiting_plans (d : Dev) (k : Nat) (x : List Record) : (d.setWaiting k x).plans = d.plans := rfl
@[simp] theorem Dev.setWaiting_images (d : Dev) (k : Nat) (x : List Record) : (d.setWaiting k x).images = d.images := rfl
@[simp] theorem Dev.setWaiting_epoch (d : Dev) (k : Nat) (x : List Record) : (d.setWaiting k x).epoch = d.epoch := rfl
@[simp] theorem Dev.setWaiting_belowAdmit (d : Dev) (k : Nat) (x : List Record) : (d.setWaiting k x).belowAdmit = d.belowAdmit := rfl
@[simp] theorem Dev.setWaiting_poolTurn (d : Dev) (k : Nat) (x : List Record) : (d.setWaiting k x).poolTurn = d.poolTurn := rfl
@[simp] theorem Dev.setWaiting_shadows (d : Dev) (k : Nat) (x : List Record) : (d.setWaiting k x).shadows = d.shadows := rfl
@[simp] theorem Dev.setWaiting_answer (d : Dev) (k : Nat) (x : List Record) : (d.setWaiting k x).answer = d.answer := rfl
@[simp] theorem Dev.setWaiting_fresh (d : Dev) (k : Nat) (x : List Record) : (d.setWaiting k x).fresh = d.fresh := rfl
@[simp] theorem Dev.reg_setWaiting_at (d : Dev) (k : Nat) (x : List Record) (o' : Nat) : (d.setWaiting k x).reg o' = d.reg o' := rfl
@[simp] theorem Dev.core_setWaiting_at (d : Dev) (k : Nat) (x : List Record) (k' : Nat) : (d.setWaiting k x).core k' = d.core k' := rfl
@[simp] theorem Dev.stage_setWaiting_at (d : Dev) (k : Nat) (x : List Record) (k' : Nat) : (d.setWaiting k x).stage k' = d.stage k' := rfl
@[simp] theorem Dev.lu_setWaiting_at (d : Dev) (k : Nat) (x : List Record) (k' : Nat) : (d.setWaiting k x).lu k' = d.lu k' := rfl
@[simp] theorem Dev.stream_setWaiting_at (d : Dev) (k : Nat) (x : List Record) (k' : Nat) : (d.setWaiting k x).stream k' = d.stream k' := rfl
@[simp] theorem Dev.job_setWaiting_at (d : Dev) (k : Nat) (x : List Record) (k' : Nat) : (d.setWaiting k x).job k' = d.job k' := rfl
@[simp] theorem Dev.bat_setWaiting_at (d : Dev) (k : Nat) (x : List Record) (k' : Nat) : (d.setWaiting k x).bat k' = d.bat k' := rfl
@[simp] theorem Dev.plan_setWaiting_at (d : Dev) (k : Nat) (x : List Record) (k' : Nat) : (d.setWaiting k x).plan k' = d.plan k' := rfl
@[simp] theorem Dev.pane_setWaiting_at (d : Dev) (k : Nat) (x : List Record) (k' : Nat) : (d.setWaiting k x).pane k' = d.pane k' := rfl

/-! `setPane` -/

@[simp] theorem Dev.setPane_tick (d : Dev) (k : Nat) (x : PaneSt) : (d.setPane k x).tick = d.tick := rfl
@[simp] theorem Dev.setPane_tickBase (d : Dev) (k : Nat) (x : PaneSt) : (d.setPane k x).tickBase = d.tickBase := rfl
@[simp] theorem Dev.setPane_sideCyc (d : Dev) (k : Nat) (x : PaneSt) : (d.setPane k x).sideCyc = d.sideCyc := rfl
@[simp] theorem Dev.setPane_regs (d : Dev) (k : Nat) (x : PaneSt) : (d.setPane k x).regs = d.regs := rfl
@[simp] theorem Dev.setPane_cores (d : Dev) (k : Nat) (x : PaneSt) : (d.setPane k x).cores = d.cores := rfl
@[simp] theorem Dev.setPane_stages (d : Dev) (k : Nat) (x : PaneSt) : (d.setPane k x).stages = d.stages := rfl
@[simp] theorem Dev.setPane_lus (d : Dev) (k : Nat) (x : PaneSt) : (d.setPane k x).lus = d.lus := rfl
@[simp] theorem Dev.setPane_hbm (d : Dev) (k : Nat) (x : PaneSt) : (d.setPane k x).hbm = d.hbm := rfl
@[simp] theorem Dev.setPane_hbmUe (d : Dev) (k : Nat) (x : PaneSt) : (d.setPane k x).hbmUe = d.hbmUe := rfl
@[simp] theorem Dev.setPane_hbmCe (d : Dev) (k : Nat) (x : PaneSt) : (d.setPane k x).hbmCe = d.hbmCe := rfl
@[simp] theorem Dev.setPane_repairPend (d : Dev) (k : Nat) (x : PaneSt) : (d.setPane k x).repairPend = d.repairPend := rfl
@[simp] theorem Dev.setPane_repair (d : Dev) (k : Nat) (x : PaneSt) : (d.setPane k x).repair = d.repair := rfl
@[simp] theorem Dev.setPane_repairAt (d : Dev) (k : Nat) (x : PaneSt) : (d.setPane k x).repairAt = d.repairAt := rfl
@[simp] theorem Dev.setPane_zeroTo (d : Dev) (k : Nat) (x : PaneSt) : (d.setPane k x).zeroTo = d.zeroTo := rfl
@[simp] theorem Dev.setPane_pci (d : Dev) (k : Nat) (x : PaneSt) : (d.setPane k x).pci = d.pci := rfl
@[simp] theorem Dev.setPane_fenced (d : Dev) (k : Nat) (x : PaneSt) : (d.setPane k x).fenced = d.fenced := rfl
@[simp] theorem Dev.setPane_host (d : Dev) (k : Nat) (x : PaneSt) : (d.setPane k x).host = d.host := rfl
@[simp] theorem Dev.setPane_bmeOff (d : Dev) (k : Nat) (x : PaneSt) : (d.setPane k x).bmeOff = d.bmeOff := rfl
@[simp] theorem Dev.setPane_msixOff (d : Dev) (k : Nat) (x : PaneSt) : (d.setPane k x).msixOff = d.msixOff := rfl
@[simp] theorem Dev.setPane_cqWait (d : Dev) (k : Nat) (x : PaneSt) : (d.setPane k x).cqWait = d.cqWait := rfl
@[simp] theorem Dev.setPane_rrLost (d : Dev) (k : Nat) (x : PaneSt) : (d.setPane k x).rrLost = d.rrLost := rfl
@[simp] theorem Dev.setPane_longs (d : Dev) (k : Nat) (x : PaneSt) : (d.setPane k x).longs = d.longs := rfl
@[simp] theorem Dev.setPane_tokens (d : Dev) (k : Nat) (x : PaneSt) : (d.setPane k x).tokens = d.tokens := rfl
@[simp] theorem Dev.setPane_turn (d : Dev) (k : Nat) (x : PaneSt) : (d.setPane k x).turn = d.turn := rfl
@[simp] theorem Dev.setPane_aslots (d : Dev) (k : Nat) (x : PaneSt) : (d.setPane k x).aslots = d.aslots := rfl
@[simp] theorem Dev.setPane_aunits (d : Dev) (k : Nat) (x : PaneSt) : (d.setPane k x).aunits = d.aunits := rfl
@[simp] theorem Dev.setPane_cams (d : Dev) (k : Nat) (x : PaneSt) : (d.setPane k x).cams = d.cams := rfl
@[simp] theorem Dev.setPane_engines (d : Dev) (k : Nat) (x : PaneSt) : (d.setPane k x).engines = d.engines := rfl
@[simp] theorem Dev.setPane_served (d : Dev) (k : Nat) (x : PaneSt) : (d.setPane k x).served = d.served := rfl
@[simp] theorem Dev.setPane_frames (d : Dev) (k : Nat) (x : PaneSt) : (d.setPane k x).frames = d.frames := rfl
@[simp] theorem Dev.setPane_tensors (d : Dev) (k : Nat) (x : PaneSt) : (d.setPane k x).tensors = d.tensors := rfl
@[simp] theorem Dev.setPane_mir (d : Dev) (k : Nat) (x : PaneSt) : (d.setPane k x).mir = d.mir := rfl
@[simp] theorem Dev.setPane_sill (d : Dev) (k : Nat) (x : PaneSt) : (d.setPane k x).sill = d.sill := rfl
@[simp] theorem Dev.setPane_gov (d : Dev) (k : Nat) (x : PaneSt) : (d.setPane k x).gov = d.gov := rfl
@[simp] theorem Dev.setPane_hot (d : Dev) (k : Nat) (x : PaneSt) : (d.setPane k x).hot = d.hot := rfl
@[simp] theorem Dev.setPane_warned (d : Dev) (k : Nat) (x : PaneSt) : (d.setPane k x).warned = d.warned := rfl
@[simp] theorem Dev.setPane_railLow (d : Dev) (k : Nat) (x : PaneSt) : (d.setPane k x).railLow = d.railLow := rfl
@[simp] theorem Dev.setPane_chans (d : Dev) (k : Nat) (x : PaneSt) : (d.setPane k x).chans = d.chans := rfl
@[simp] theorem Dev.setPane_weighQ (d : Dev) (k : Nat) (x : PaneSt) : (d.setPane k x).weighQ = d.weighQ := rfl
@[simp] theorem Dev.setPane_weighBind (d : Dev) (k : Nat) (x : PaneSt) : (d.setPane k x).weighBind = d.weighBind := rfl
@[simp] theorem Dev.setPane_boot (d : Dev) (k : Nat) (x : PaneSt) : (d.setPane k x).boot = d.boot := rfl
@[simp] theorem Dev.setPane_flash (d : Dev) (k : Nat) (x : PaneSt) : (d.setPane k x).flash = d.flash := rfl
@[simp] theorem Dev.setPane_secOp (d : Dev) (k : Nat) (x : PaneSt) : (d.setPane k x).secOp = d.secOp := rfl
@[simp] theorem Dev.setPane_alerts (d : Dev) (k : Nat) (x : PaneSt) : (d.setPane k x).alerts = d.alerts := rfl
@[simp] theorem Dev.setPane_aer (d : Dev) (k : Nat) (x : PaneSt) : (d.setPane k x).aer = d.aer := rfl
@[simp] theorem Dev.setPane_lit (d : Dev) (k : Nat) (x : PaneSt) : (d.setPane k x).lit = d.lit := rfl
@[simp] theorem Dev.setPane_held (d : Dev) (k : Nat) (x : PaneSt) : (d.setPane k x).held = d.held := rfl
@[simp] theorem Dev.setPane_tel (d : Dev) (k : Nat) (x : PaneSt) : (d.setPane k x).tel = d.tel := rfl
@[simp] theorem Dev.setPane_streams (d : Dev) (k : Nat) (x : PaneSt) : (d.setPane k x).streams = d.streams := rfl
@[simp] theorem Dev.setPane_batchers (d : Dev) (k : Nat) (x : PaneSt) : (d.setPane k x).batchers = d.batchers := rfl
@[simp] theorem Dev.setPane_pairOut (d : Dev) (k : Nat) (x : PaneSt) : (d.setPane k x).pairOut = d.pairOut := rfl
@[simp] theorem Dev.setPane_scDone (d : Dev) (k : Nat) (x : PaneSt) : (d.setPane k x).scDone = d.scDone := rfl
@[simp] theorem Dev.setPane_jobs (d : Dev) (k : Nat) (x : PaneSt) : (d.setPane k x).jobs = d.jobs := rfl
@[simp] theorem Dev.setPane_plans (d : Dev) (k : Nat) (x : PaneSt) : (d.setPane k x).plans = d.plans := rfl
@[simp] theorem Dev.setPane_images (d : Dev) (k : Nat) (x : PaneSt) : (d.setPane k x).images = d.images := rfl
@[simp] theorem Dev.setPane_epoch (d : Dev) (k : Nat) (x : PaneSt) : (d.setPane k x).epoch = d.epoch := rfl
@[simp] theorem Dev.setPane_belowAdmit (d : Dev) (k : Nat) (x : PaneSt) : (d.setPane k x).belowAdmit = d.belowAdmit := rfl
@[simp] theorem Dev.setPane_poolTurn (d : Dev) (k : Nat) (x : PaneSt) : (d.setPane k x).poolTurn = d.poolTurn := rfl
@[simp] theorem Dev.setPane_shadows (d : Dev) (k : Nat) (x : PaneSt) : (d.setPane k x).shadows = d.shadows := rfl
@[simp] theorem Dev.setPane_answer (d : Dev) (k : Nat) (x : PaneSt) : (d.setPane k x).answer = d.answer := rfl
@[simp] theorem Dev.setPane_fresh (d : Dev) (k : Nat) (x : PaneSt) : (d.setPane k x).fresh = d.fresh := rfl
@[simp] theorem Dev.reg_setPane_at (d : Dev) (k : Nat) (x : PaneSt) (o' : Nat) : (d.setPane k x).reg o' = d.reg o' := rfl
@[simp] theorem Dev.core_setPane_at (d : Dev) (k : Nat) (x : PaneSt) (k' : Nat) : (d.setPane k x).core k' = d.core k' := rfl
@[simp] theorem Dev.stage_setPane_at (d : Dev) (k : Nat) (x : PaneSt) (k' : Nat) : (d.setPane k x).stage k' = d.stage k' := rfl
@[simp] theorem Dev.lu_setPane_at (d : Dev) (k : Nat) (x : PaneSt) (k' : Nat) : (d.setPane k x).lu k' = d.lu k' := rfl
@[simp] theorem Dev.stream_setPane_at (d : Dev) (k : Nat) (x : PaneSt) (k' : Nat) : (d.setPane k x).stream k' = d.stream k' := rfl
@[simp] theorem Dev.job_setPane_at (d : Dev) (k : Nat) (x : PaneSt) (k' : Nat) : (d.setPane k x).job k' = d.job k' := rfl
@[simp] theorem Dev.bat_setPane_at (d : Dev) (k : Nat) (x : PaneSt) (k' : Nat) : (d.setPane k x).bat k' = d.bat k' := rfl
@[simp] theorem Dev.waiting_setPane_at (d : Dev) (k : Nat) (x : PaneSt) (k' : Nat) : (d.setPane k x).waiting k' = d.waiting k' := rfl
@[simp] theorem Dev.plan_setPane_at (d : Dev) (k : Nat) (x : PaneSt) (k' : Nat) : (d.setPane k x).plan k' = d.plan k' := rfl

/-! `setMir` -/

@[simp] theorem Dev.setMir_tick (d : Dev) (x : Mir) : (d.setMir x).tick = d.tick := rfl
@[simp] theorem Dev.setMir_tickBase (d : Dev) (x : Mir) : (d.setMir x).tickBase = d.tickBase := rfl
@[simp] theorem Dev.setMir_sideCyc (d : Dev) (x : Mir) : (d.setMir x).sideCyc = d.sideCyc := rfl
@[simp] theorem Dev.setMir_regs (d : Dev) (x : Mir) : (d.setMir x).regs = d.regs := rfl
@[simp] theorem Dev.setMir_cores (d : Dev) (x : Mir) : (d.setMir x).cores = d.cores := rfl
@[simp] theorem Dev.setMir_stages (d : Dev) (x : Mir) : (d.setMir x).stages = d.stages := rfl
@[simp] theorem Dev.setMir_lus (d : Dev) (x : Mir) : (d.setMir x).lus = d.lus := rfl
@[simp] theorem Dev.setMir_hbm (d : Dev) (x : Mir) : (d.setMir x).hbm = d.hbm := rfl
@[simp] theorem Dev.setMir_hbmUe (d : Dev) (x : Mir) : (d.setMir x).hbmUe = d.hbmUe := rfl
@[simp] theorem Dev.setMir_hbmCe (d : Dev) (x : Mir) : (d.setMir x).hbmCe = d.hbmCe := rfl
@[simp] theorem Dev.setMir_repairPend (d : Dev) (x : Mir) : (d.setMir x).repairPend = d.repairPend := rfl
@[simp] theorem Dev.setMir_repair (d : Dev) (x : Mir) : (d.setMir x).repair = d.repair := rfl
@[simp] theorem Dev.setMir_repairAt (d : Dev) (x : Mir) : (d.setMir x).repairAt = d.repairAt := rfl
@[simp] theorem Dev.setMir_zeroTo (d : Dev) (x : Mir) : (d.setMir x).zeroTo = d.zeroTo := rfl
@[simp] theorem Dev.setMir_pci (d : Dev) (x : Mir) : (d.setMir x).pci = d.pci := rfl
@[simp] theorem Dev.setMir_fenced (d : Dev) (x : Mir) : (d.setMir x).fenced = d.fenced := rfl
@[simp] theorem Dev.setMir_host (d : Dev) (x : Mir) : (d.setMir x).host = d.host := rfl
@[simp] theorem Dev.setMir_bmeOff (d : Dev) (x : Mir) : (d.setMir x).bmeOff = d.bmeOff := rfl
@[simp] theorem Dev.setMir_msixOff (d : Dev) (x : Mir) : (d.setMir x).msixOff = d.msixOff := rfl
@[simp] theorem Dev.setMir_cqWait (d : Dev) (x : Mir) : (d.setMir x).cqWait = d.cqWait := rfl
@[simp] theorem Dev.setMir_rrLost (d : Dev) (x : Mir) : (d.setMir x).rrLost = d.rrLost := rfl
@[simp] theorem Dev.setMir_longs (d : Dev) (x : Mir) : (d.setMir x).longs = d.longs := rfl
@[simp] theorem Dev.setMir_tokens (d : Dev) (x : Mir) : (d.setMir x).tokens = d.tokens := rfl
@[simp] theorem Dev.setMir_turn (d : Dev) (x : Mir) : (d.setMir x).turn = d.turn := rfl
@[simp] theorem Dev.setMir_aslots (d : Dev) (x : Mir) : (d.setMir x).aslots = d.aslots := rfl
@[simp] theorem Dev.setMir_aunits (d : Dev) (x : Mir) : (d.setMir x).aunits = d.aunits := rfl
@[simp] theorem Dev.setMir_cams (d : Dev) (x : Mir) : (d.setMir x).cams = d.cams := rfl
@[simp] theorem Dev.setMir_engines (d : Dev) (x : Mir) : (d.setMir x).engines = d.engines := rfl
@[simp] theorem Dev.setMir_served (d : Dev) (x : Mir) : (d.setMir x).served = d.served := rfl
@[simp] theorem Dev.setMir_frames (d : Dev) (x : Mir) : (d.setMir x).frames = d.frames := rfl
@[simp] theorem Dev.setMir_tensors (d : Dev) (x : Mir) : (d.setMir x).tensors = d.tensors := rfl
@[simp] theorem Dev.setMir_sill (d : Dev) (x : Mir) : (d.setMir x).sill = d.sill := rfl
@[simp] theorem Dev.setMir_gov (d : Dev) (x : Mir) : (d.setMir x).gov = d.gov := rfl
@[simp] theorem Dev.setMir_hot (d : Dev) (x : Mir) : (d.setMir x).hot = d.hot := rfl
@[simp] theorem Dev.setMir_warned (d : Dev) (x : Mir) : (d.setMir x).warned = d.warned := rfl
@[simp] theorem Dev.setMir_railLow (d : Dev) (x : Mir) : (d.setMir x).railLow = d.railLow := rfl
@[simp] theorem Dev.setMir_chans (d : Dev) (x : Mir) : (d.setMir x).chans = d.chans := rfl
@[simp] theorem Dev.setMir_panes (d : Dev) (x : Mir) : (d.setMir x).panes = d.panes := rfl
@[simp] theorem Dev.setMir_weighQ (d : Dev) (x : Mir) : (d.setMir x).weighQ = d.weighQ := rfl
@[simp] theorem Dev.setMir_weighBind (d : Dev) (x : Mir) : (d.setMir x).weighBind = d.weighBind := rfl
@[simp] theorem Dev.setMir_boot (d : Dev) (x : Mir) : (d.setMir x).boot = d.boot := rfl
@[simp] theorem Dev.setMir_flash (d : Dev) (x : Mir) : (d.setMir x).flash = d.flash := rfl
@[simp] theorem Dev.setMir_secOp (d : Dev) (x : Mir) : (d.setMir x).secOp = d.secOp := rfl
@[simp] theorem Dev.setMir_alerts (d : Dev) (x : Mir) : (d.setMir x).alerts = d.alerts := rfl
@[simp] theorem Dev.setMir_aer (d : Dev) (x : Mir) : (d.setMir x).aer = d.aer := rfl
@[simp] theorem Dev.setMir_lit (d : Dev) (x : Mir) : (d.setMir x).lit = d.lit := rfl
@[simp] theorem Dev.setMir_held (d : Dev) (x : Mir) : (d.setMir x).held = d.held := rfl
@[simp] theorem Dev.setMir_tel (d : Dev) (x : Mir) : (d.setMir x).tel = d.tel := rfl
@[simp] theorem Dev.setMir_streams (d : Dev) (x : Mir) : (d.setMir x).streams = d.streams := rfl
@[simp] theorem Dev.setMir_batchers (d : Dev) (x : Mir) : (d.setMir x).batchers = d.batchers := rfl
@[simp] theorem Dev.setMir_pairOut (d : Dev) (x : Mir) : (d.setMir x).pairOut = d.pairOut := rfl
@[simp] theorem Dev.setMir_scDone (d : Dev) (x : Mir) : (d.setMir x).scDone = d.scDone := rfl
@[simp] theorem Dev.setMir_jobs (d : Dev) (x : Mir) : (d.setMir x).jobs = d.jobs := rfl
@[simp] theorem Dev.setMir_plans (d : Dev) (x : Mir) : (d.setMir x).plans = d.plans := rfl
@[simp] theorem Dev.setMir_images (d : Dev) (x : Mir) : (d.setMir x).images = d.images := rfl
@[simp] theorem Dev.setMir_epoch (d : Dev) (x : Mir) : (d.setMir x).epoch = d.epoch := rfl
@[simp] theorem Dev.setMir_belowAdmit (d : Dev) (x : Mir) : (d.setMir x).belowAdmit = d.belowAdmit := rfl
@[simp] theorem Dev.setMir_poolTurn (d : Dev) (x : Mir) : (d.setMir x).poolTurn = d.poolTurn := rfl
@[simp] theorem Dev.setMir_shadows (d : Dev) (x : Mir) : (d.setMir x).shadows = d.shadows := rfl
@[simp] theorem Dev.setMir_answer (d : Dev) (x : Mir) : (d.setMir x).answer = d.answer := rfl
@[simp] theorem Dev.setMir_fresh (d : Dev) (x : Mir) : (d.setMir x).fresh = d.fresh := rfl
@[simp] theorem Dev.reg_setMir_at (d : Dev) (x : Mir) (o' : Nat) : (d.setMir x).reg o' = d.reg o' := rfl
@[simp] theorem Dev.core_setMir_at (d : Dev) (x : Mir) (k' : Nat) : (d.setMir x).core k' = d.core k' := rfl
@[simp] theorem Dev.stage_setMir_at (d : Dev) (x : Mir) (k' : Nat) : (d.setMir x).stage k' = d.stage k' := rfl
@[simp] theorem Dev.lu_setMir_at (d : Dev) (x : Mir) (k' : Nat) : (d.setMir x).lu k' = d.lu k' := rfl
@[simp] theorem Dev.stream_setMir_at (d : Dev) (x : Mir) (k' : Nat) : (d.setMir x).stream k' = d.stream k' := rfl
@[simp] theorem Dev.job_setMir_at (d : Dev) (x : Mir) (k' : Nat) : (d.setMir x).job k' = d.job k' := rfl
@[simp] theorem Dev.bat_setMir_at (d : Dev) (x : Mir) (k' : Nat) : (d.setMir x).bat k' = d.bat k' := rfl
@[simp] theorem Dev.waiting_setMir_at (d : Dev) (x : Mir) (k' : Nat) : (d.setMir x).waiting k' = d.waiting k' := rfl
@[simp] theorem Dev.plan_setMir_at (d : Dev) (x : Mir) (k' : Nat) : (d.setMir x).plan k' = d.plan k' := rfl
@[simp] theorem Dev.pane_setMir_at (d : Dev) (x : Mir) (k' : Nat) : (d.setMir x).pane k' = d.pane k' := rfl

/-! A read after a write. -/

@[simp] theorem Dev.reg_setReg (d : Dev) (o : Nat) (w : Word) (j : Nat) : (d.setReg o w).reg j = if j = o then w else d.reg j := by
  unfold Dev.reg Dev.setReg
  split
  · next h => rw [h]; exact Tab.get_set_same _ _ _ _
  · next h => exact Tab.get_set_ne _ _ _ _ h
@[simp] theorem Dev.core_setCore (d : Dev) (k : Nat) (c : Core) (j : Nat) : (d.setCore k c).core j = if j = k then c else d.core j := Tab.get_set _ _ _ _ _
@[simp] theorem Dev.stage_setStage (d : Dev) (k : Nat) (x : List Instr) (j : Nat) : (d.setStage k x).stage j = if j = k then x else d.stage j := Tab.get_set _ _ _ _ _
@[simp] theorem Dev.lu_setLu (d : Dev) (k : Nat) (x : Latch) (j : Nat) : (d.setLu k x).lu j = if j = k then x else d.lu j := Tab.get_set _ _ _ _ _
@[simp] theorem Dev.stream_setStream (d : Dev) (k : Nat) (x : Stream) (j : Nat) : (d.setStream k x).stream j = if j = k then x else d.stream j := Tab.get_set _ _ _ _ _
@[simp] theorem Dev.job_setJob (d : Dev) (k : Nat) (x : Job) (j : Nat) : (d.setJob k x).job j = if j = k then x else d.job j := Tab.get_set _ _ _ _ _
@[simp] theorem Dev.bat_setBat (d : Dev) (k : Nat) (x : Batcher) (j : Nat) : (d.setBat k x).bat j = if j = k then x else d.bat j := Tab.get_set _ _ _ _ _
@[simp] theorem Dev.waiting_setWaiting (d : Dev) (k : Nat) (x : List Record) (j : Nat) : (d.setWaiting k x).waiting j = if j = k then x else d.waiting j := Tab.get_set _ _ _ _ _
@[simp] theorem Dev.pane_setPane (d : Dev) (k : Nat) (x : PaneSt) (j : Nat) : (d.setPane k x).pane j = if j = k then x else d.pane j := Tab.get_set _ _ _ _ _

/-! A core. -/

@[simp] theorem Core.setReg_state (c : Core) (o : Nat) (w : Word) : (c.setReg o w).state = c.state := rfl
@[simp] theorem Core.setReg_pc (c : Core) (o : Nat) (w : Word) : (c.setReg o w).pc = c.pc := rfl
@[simp] theorem Core.setReg_cyc (c : Core) (o : Nat) (w : Word) : (c.setReg o w).cyc = c.cyc := rfl
@[simp] theorem Core.setReg_cycMark (c : Core) (o : Nat) (w : Word) : (c.setReg o w).cycMark = c.cycMark := rfl
@[simp] theorem Core.setReg_cycShadow (c : Core) (o : Nat) (w : Word) : (c.setReg o w).cycShadow = c.cycShadow := rfl
@[simp] theorem Core.setReg_ready (c : Core) (o : Nat) (w : Word) : (c.setReg o w).ready = c.ready := rfl
@[simp] theorem Core.setReg_waitSince (c : Core) (o : Nat) (w : Word) : (c.setReg o w).waitSince = c.waitSince := rfl
@[simp] theorem Core.setReg_waitParty (c : Core) (o : Nat) (w : Word) : (c.setReg o w).waitParty = c.waitParty := rfl
@[simp] theorem Core.setReg_pptEntry (c : Core) (o : Nat) (w : Word) : (c.setReg o w).pptEntry = c.pptEntry := rfl
@[simp] theorem Core.setReg_ending (c : Core) (o : Nat) (w : Word) : (c.setReg o w).ending = c.ending := rfl
@[simp] theorem Core.setReg_stepStop (c : Core) (o : Nat) (w : Word) : (c.setReg o w).stepStop = c.stepStop := rfl
@[simp] theorem Core.setReg_resume (c : Core) (o : Nat) (w : Word) : (c.setReg o w).resume = c.resume := rfl
@[simp] theorem Core.setReg_sregs (c : Core) (o : Nat) (w : Word) : (c.setReg o w).sregs = c.sregs := rfl
@[simp] theorem Core.setReg_vregs (c : Core) (o : Nat) (w : Word) : (c.setReg o w).vregs = c.vregs := rfl
@[simp] theorem Core.setReg_mregs (c : Core) (o : Nat) (w : Word) : (c.setReg o w).mregs = c.mregs := rfl
@[simp] theorem Core.setReg_luts (c : Core) (o : Nat) (w : Word) : (c.setReg o w).luts = c.luts := rfl
@[simp] theorem Core.setReg_imem (c : Core) (o : Nat) (w : Word) : (c.setReg o w).imem = c.imem := rfl
@[simp] theorem Core.setReg_imemBad (c : Core) (o : Nat) (w : Word) : (c.setReg o w).imemBad = c.imemBad := rfl
@[simp] theorem Core.setReg_mem (c : Core) (o : Nat) (w : Word) : (c.setReg o w).mem = c.mem := rfl
@[simp] theorem Core.setReg_ue (c : Core) (o : Nat) (w : Word) : (c.setReg o w).ue = c.ue := rfl
@[simp] theorem Core.setReg_ce (c : Core) (o : Nat) (w : Word) : (c.setReg o w).ce = c.ce := rfl
@[simp] theorem Core.setReg_gb (c : Core) (o : Nat) (w : Word) : (c.setReg o w).gb = c.gb := rfl
@[simp] theorem Core.setReg_wrote (c : Core) (o : Nat) (w : Word) : (c.setReg o w).wrote = c.wrote := rfl
@[simp] theorem Core.setReg_arrWrote (c : Core) (o : Nat) (w : Word) : (c.setReg o w).arrWrote = c.arrWrote := rfl
@[simp] theorem Core.setReg_met (c : Core) (o : Nat) (w : Word) : (c.setReg o w).met = c.met := rfl
@[simp] theorem Core.setReg_mq (c : Core) (o : Nat) (w : Word) : (c.setReg o w).mq = c.mq := rfl
@[simp] theorem Core.setReg_dq (c : Core) (o : Nat) (w : Word) : (c.setReg o w).dq = c.dq := rfl
@[simp] theorem Core.setReg_lq (c : Core) (o : Nat) (w : Word) : (c.setReg o w).lq = c.lq := rfl
@[simp] theorem Core.setReg_sq (c : Core) (o : Nat) (w : Word) : (c.setReg o w).sq = c.sq := rfl
@[simp] theorem Core.setReg_mu (c : Core) (o : Nat) (w : Word) : (c.setReg o w).mu = c.mu := rfl
@[simp] theorem Core.setReg_muFin (c : Core) (o : Nat) (w : Word) : (c.setReg o w).muFin = c.muFin := rfl
@[simp] theorem Core.setReg_muTile (c : Core) (o : Nat) (w : Word) : (c.setReg o w).muTile = c.muTile := rfl
@[simp] theorem Core.setReg_muSub (c : Core) (o : Nat) (w : Word) : (c.setReg o w).muSub = c.muSub := rfl
@[simp] theorem Core.setReg_muFed (c : Core) (o : Nat) (w : Word) : (c.setReg o w).muFed = c.muFed := rfl
@[simp] theorem Core.setReg_muLines (c : Core) (o : Nat) (w : Word) : (c.setReg o w).muLines = c.muLines := rfl
@[simp] theorem Core.setReg_muFill (c : Core) (o : Nat) (w : Word) : (c.setReg o w).muFill = c.muFill := rfl
@[simp] theorem Core.setReg_ueWas (c : Core) (o : Nat) (w : Word) : (c.setReg o w).ueWas = c.ueWas := rfl
@[simp] theorem Core.setReg_ceWas (c : Core) (o : Nat) (w : Word) : (c.setReg o w).ceWas = c.ceWas := rfl
@[simp] theorem Core.setReg_muAge (c : Core) (o : Nat) (w : Word) : (c.setReg o w).muAge = c.muAge := rfl
@[simp] theorem Core.setReg_fwdTags (c : Core) (o : Nat) (w : Word) : (c.setReg o w).fwdTags = c.fwdTags := rfl
@[simp] theorem Core.setReg_muStep (c : Core) (o : Nat) (w : Word) : (c.setReg o w).muStep = c.muStep := rfl
@[simp] theorem Core.setReg_muIdle (c : Core) (o : Nat) (w : Word) : (c.setReg o w).muIdle = c.muIdle := rfl
@[simp] theorem Core.setReg_muLevel (c : Core) (o : Nat) (w : Word) : (c.setReg o w).muLevel = c.muLevel := rfl
@[simp] theorem Core.setReg_replies (c : Core) (o : Nat) (w : Word) : (c.setReg o w).replies = c.replies := rfl
@[simp] theorem Core.setReg_mbx (c : Core) (o : Nat) (w : Word) : (c.setReg o w).mbx = c.mbx := rfl
@[simp] theorem Core.setReg_xfers (c : Core) (o : Nat) (w : Word) : (c.setReg o w).xfers = c.xfers := rfl
@[simp] theorem Core.setReg_nextXfer (c : Core) (o : Nat) (w : Word) : (c.setReg o w).nextXfer = c.nextXfer := rfl
@[simp] theorem Core.setReg_turn (c : Core) (o : Nat) (w : Word) : (c.setReg o w).turn = c.turn := rfl
@[simp] theorem Core.setReg_sentN (c : Core) (o : Nat) (w : Word) : (c.setReg o w).sentN = c.sentN := rfl
@[simp] theorem Core.setReg_tagSince (c : Core) (o : Nat) (w : Word) : (c.setReg o w).tagSince = c.tagSince := rfl
@[simp] theorem Core.setReg_fwdQ (c : Core) (o : Nat) (w : Word) : (c.setReg o w).fwdQ = c.fwdQ := rfl
@[simp] theorem Core.setReg_grants (c : Core) (o : Nat) (w : Word) : (c.setReg o w).grants = c.grants := rfl
@[simp] theorem Core.setReg_cwAvail (c : Core) (o : Nat) (w : Word) : (c.setReg o w).cwAvail = c.cwAvail := rfl
@[simp] theorem Core.setReg_cwq (c : Core) (o : Nat) (w : Word) : (c.setReg o w).cwq = c.cwq := rfl
@[simp] theorem Core.setReg_winSats (c : Core) (o : Nat) (w : Word) : (c.setReg o w).winSats = c.winSats := rfl
@[simp] theorem Core.setReg_out (c : Core) (o : Nat) (w : Word) : (c.setReg o w).out = c.out := rfl
@[simp] theorem Core.setFld_state (c : Core) (o : Nat) (f : Fld) (v : Nat) : (c.setFld o f v).state = c.state := rfl
@[simp] theorem Core.setFld_pc (c : Core) (o : Nat) (f : Fld) (v : Nat) : (c.setFld o f v).pc = c.pc := rfl
@[simp] theorem Core.setFld_cyc (c : Core) (o : Nat) (f : Fld) (v : Nat) : (c.setFld o f v).cyc = c.cyc := rfl
@[simp] theorem Core.setFld_cycMark (c : Core) (o : Nat) (f : Fld) (v : Nat) : (c.setFld o f v).cycMark = c.cycMark := rfl
@[simp] theorem Core.setFld_cycShadow (c : Core) (o : Nat) (f : Fld) (v : Nat) : (c.setFld o f v).cycShadow = c.cycShadow := rfl
@[simp] theorem Core.setFld_ready (c : Core) (o : Nat) (f : Fld) (v : Nat) : (c.setFld o f v).ready = c.ready := rfl
@[simp] theorem Core.setFld_waitSince (c : Core) (o : Nat) (f : Fld) (v : Nat) : (c.setFld o f v).waitSince = c.waitSince := rfl
@[simp] theorem Core.setFld_waitParty (c : Core) (o : Nat) (f : Fld) (v : Nat) : (c.setFld o f v).waitParty = c.waitParty := rfl
@[simp] theorem Core.setFld_pptEntry (c : Core) (o : Nat) (f : Fld) (v : Nat) : (c.setFld o f v).pptEntry = c.pptEntry := rfl
@[simp] theorem Core.setFld_ending (c : Core) (o : Nat) (f : Fld) (v : Nat) : (c.setFld o f v).ending = c.ending := rfl
@[simp] theorem Core.setFld_stepStop (c : Core) (o : Nat) (f : Fld) (v : Nat) : (c.setFld o f v).stepStop = c.stepStop := rfl
@[simp] theorem Core.setFld_resume (c : Core) (o : Nat) (f : Fld) (v : Nat) : (c.setFld o f v).resume = c.resume := rfl
@[simp] theorem Core.setFld_sregs (c : Core) (o : Nat) (f : Fld) (v : Nat) : (c.setFld o f v).sregs = c.sregs := rfl
@[simp] theorem Core.setFld_vregs (c : Core) (o : Nat) (f : Fld) (v : Nat) : (c.setFld o f v).vregs = c.vregs := rfl
@[simp] theorem Core.setFld_mregs (c : Core) (o : Nat) (f : Fld) (v : Nat) : (c.setFld o f v).mregs = c.mregs := rfl
@[simp] theorem Core.setFld_luts (c : Core) (o : Nat) (f : Fld) (v : Nat) : (c.setFld o f v).luts = c.luts := rfl
@[simp] theorem Core.setFld_imem (c : Core) (o : Nat) (f : Fld) (v : Nat) : (c.setFld o f v).imem = c.imem := rfl
@[simp] theorem Core.setFld_imemBad (c : Core) (o : Nat) (f : Fld) (v : Nat) : (c.setFld o f v).imemBad = c.imemBad := rfl
@[simp] theorem Core.setFld_mem (c : Core) (o : Nat) (f : Fld) (v : Nat) : (c.setFld o f v).mem = c.mem := rfl
@[simp] theorem Core.setFld_ue (c : Core) (o : Nat) (f : Fld) (v : Nat) : (c.setFld o f v).ue = c.ue := rfl
@[simp] theorem Core.setFld_ce (c : Core) (o : Nat) (f : Fld) (v : Nat) : (c.setFld o f v).ce = c.ce := rfl
@[simp] theorem Core.setFld_gb (c : Core) (o : Nat) (f : Fld) (v : Nat) : (c.setFld o f v).gb = c.gb := rfl
@[simp] theorem Core.setFld_wrote (c : Core) (o : Nat) (f : Fld) (v : Nat) : (c.setFld o f v).wrote = c.wrote := rfl
@[simp] theorem Core.setFld_arrWrote (c : Core) (o : Nat) (f : Fld) (v : Nat) : (c.setFld o f v).arrWrote = c.arrWrote := rfl
@[simp] theorem Core.setFld_met (c : Core) (o : Nat) (f : Fld) (v : Nat) : (c.setFld o f v).met = c.met := rfl
@[simp] theorem Core.setFld_mq (c : Core) (o : Nat) (f : Fld) (v : Nat) : (c.setFld o f v).mq = c.mq := rfl
@[simp] theorem Core.setFld_dq (c : Core) (o : Nat) (f : Fld) (v : Nat) : (c.setFld o f v).dq = c.dq := rfl
@[simp] theorem Core.setFld_lq (c : Core) (o : Nat) (f : Fld) (v : Nat) : (c.setFld o f v).lq = c.lq := rfl
@[simp] theorem Core.setFld_sq (c : Core) (o : Nat) (f : Fld) (v : Nat) : (c.setFld o f v).sq = c.sq := rfl
@[simp] theorem Core.setFld_mu (c : Core) (o : Nat) (f : Fld) (v : Nat) : (c.setFld o f v).mu = c.mu := rfl
@[simp] theorem Core.setFld_muFin (c : Core) (o : Nat) (f : Fld) (v : Nat) : (c.setFld o f v).muFin = c.muFin := rfl
@[simp] theorem Core.setFld_muTile (c : Core) (o : Nat) (f : Fld) (v : Nat) : (c.setFld o f v).muTile = c.muTile := rfl
@[simp] theorem Core.setFld_muSub (c : Core) (o : Nat) (f : Fld) (v : Nat) : (c.setFld o f v).muSub = c.muSub := rfl
@[simp] theorem Core.setFld_muFed (c : Core) (o : Nat) (f : Fld) (v : Nat) : (c.setFld o f v).muFed = c.muFed := rfl
@[simp] theorem Core.setFld_muLines (c : Core) (o : Nat) (f : Fld) (v : Nat) : (c.setFld o f v).muLines = c.muLines := rfl
@[simp] theorem Core.setFld_muFill (c : Core) (o : Nat) (f : Fld) (v : Nat) : (c.setFld o f v).muFill = c.muFill := rfl
@[simp] theorem Core.setFld_ueWas (c : Core) (o : Nat) (f : Fld) (v : Nat) : (c.setFld o f v).ueWas = c.ueWas := rfl
@[simp] theorem Core.setFld_ceWas (c : Core) (o : Nat) (f : Fld) (v : Nat) : (c.setFld o f v).ceWas = c.ceWas := rfl
@[simp] theorem Core.setFld_muAge (c : Core) (o : Nat) (f : Fld) (v : Nat) : (c.setFld o f v).muAge = c.muAge := rfl
@[simp] theorem Core.setFld_fwdTags (c : Core) (o : Nat) (f : Fld) (v : Nat) : (c.setFld o f v).fwdTags = c.fwdTags := rfl
@[simp] theorem Core.setFld_muStep (c : Core) (o : Nat) (f : Fld) (v : Nat) : (c.setFld o f v).muStep = c.muStep := rfl
@[simp] theorem Core.setFld_muIdle (c : Core) (o : Nat) (f : Fld) (v : Nat) : (c.setFld o f v).muIdle = c.muIdle := rfl
@[simp] theorem Core.setFld_muLevel (c : Core) (o : Nat) (f : Fld) (v : Nat) : (c.setFld o f v).muLevel = c.muLevel := rfl
@[simp] theorem Core.setFld_replies (c : Core) (o : Nat) (f : Fld) (v : Nat) : (c.setFld o f v).replies = c.replies := rfl
@[simp] theorem Core.setFld_mbx (c : Core) (o : Nat) (f : Fld) (v : Nat) : (c.setFld o f v).mbx = c.mbx := rfl
@[simp] theorem Core.setFld_xfers (c : Core) (o : Nat) (f : Fld) (v : Nat) : (c.setFld o f v).xfers = c.xfers := rfl
@[simp] theorem Core.setFld_nextXfer (c : Core) (o : Nat) (f : Fld) (v : Nat) : (c.setFld o f v).nextXfer = c.nextXfer := rfl
@[simp] theorem Core.setFld_turn (c : Core) (o : Nat) (f : Fld) (v : Nat) : (c.setFld o f v).turn = c.turn := rfl
@[simp] theorem Core.setFld_sentN (c : Core) (o : Nat) (f : Fld) (v : Nat) : (c.setFld o f v).sentN = c.sentN := rfl
@[simp] theorem Core.setFld_tagSince (c : Core) (o : Nat) (f : Fld) (v : Nat) : (c.setFld o f v).tagSince = c.tagSince := rfl
@[simp] theorem Core.setFld_fwdQ (c : Core) (o : Nat) (f : Fld) (v : Nat) : (c.setFld o f v).fwdQ = c.fwdQ := rfl
@[simp] theorem Core.setFld_grants (c : Core) (o : Nat) (f : Fld) (v : Nat) : (c.setFld o f v).grants = c.grants := rfl
@[simp] theorem Core.setFld_cwAvail (c : Core) (o : Nat) (f : Fld) (v : Nat) : (c.setFld o f v).cwAvail = c.cwAvail := rfl
@[simp] theorem Core.setFld_cwq (c : Core) (o : Nat) (f : Fld) (v : Nat) : (c.setFld o f v).cwq = c.cwq := rfl
@[simp] theorem Core.setFld_winSats (c : Core) (o : Nat) (f : Fld) (v : Nat) : (c.setFld o f v).winSats = c.winSats := rfl
@[simp] theorem Core.setFld_out (c : Core) (o : Nat) (f : Fld) (v : Nat) : (c.setFld o f v).out = c.out := rfl
@[simp] theorem Core.setV_state (c : Core) (r l : Nat) (x : Word) : (c.setV r l x).state = c.state := rfl
@[simp] theorem Core.setV_pc (c : Core) (r l : Nat) (x : Word) : (c.setV r l x).pc = c.pc := rfl
@[simp] theorem Core.setV_cyc (c : Core) (r l : Nat) (x : Word) : (c.setV r l x).cyc = c.cyc := rfl
@[simp] theorem Core.setV_cycMark (c : Core) (r l : Nat) (x : Word) : (c.setV r l x).cycMark = c.cycMark := rfl
@[simp] theorem Core.setV_cycShadow (c : Core) (r l : Nat) (x : Word) : (c.setV r l x).cycShadow = c.cycShadow := rfl
@[simp] theorem Core.setV_ready (c : Core) (r l : Nat) (x : Word) : (c.setV r l x).ready = c.ready := rfl
@[simp] theorem Core.setV_waitSince (c : Core) (r l : Nat) (x : Word) : (c.setV r l x).waitSince = c.waitSince := rfl
@[simp] theorem Core.setV_waitParty (c : Core) (r l : Nat) (x : Word) : (c.setV r l x).waitParty = c.waitParty := rfl
@[simp] theorem Core.setV_pptEntry (c : Core) (r l : Nat) (x : Word) : (c.setV r l x).pptEntry = c.pptEntry := rfl
@[simp] theorem Core.setV_ending (c : Core) (r l : Nat) (x : Word) : (c.setV r l x).ending = c.ending := rfl
@[simp] theorem Core.setV_stepStop (c : Core) (r l : Nat) (x : Word) : (c.setV r l x).stepStop = c.stepStop := rfl
@[simp] theorem Core.setV_resume (c : Core) (r l : Nat) (x : Word) : (c.setV r l x).resume = c.resume := rfl
@[simp] theorem Core.setV_sregs (c : Core) (r l : Nat) (x : Word) : (c.setV r l x).sregs = c.sregs := rfl
@[simp] theorem Core.setV_mregs (c : Core) (r l : Nat) (x : Word) : (c.setV r l x).mregs = c.mregs := rfl
@[simp] theorem Core.setV_luts (c : Core) (r l : Nat) (x : Word) : (c.setV r l x).luts = c.luts := rfl
@[simp] theorem Core.setV_regs (c : Core) (r l : Nat) (x : Word) : (c.setV r l x).regs = c.regs := rfl
@[simp] theorem Core.setV_imem (c : Core) (r l : Nat) (x : Word) : (c.setV r l x).imem = c.imem := rfl
@[simp] theorem Core.setV_imemBad (c : Core) (r l : Nat) (x : Word) : (c.setV r l x).imemBad = c.imemBad := rfl
@[simp] theorem Core.setV_mem (c : Core) (r l : Nat) (x : Word) : (c.setV r l x).mem = c.mem := rfl
@[simp] theorem Core.setV_ue (c : Core) (r l : Nat) (x : Word) : (c.setV r l x).ue = c.ue := rfl
@[simp] theorem Core.setV_ce (c : Core) (r l : Nat) (x : Word) : (c.setV r l x).ce = c.ce := rfl
@[simp] theorem Core.setV_gb (c : Core) (r l : Nat) (x : Word) : (c.setV r l x).gb = c.gb := rfl
@[simp] theorem Core.setV_wrote (c : Core) (r l : Nat) (x : Word) : (c.setV r l x).wrote = c.wrote := rfl
@[simp] theorem Core.setV_arrWrote (c : Core) (r l : Nat) (x : Word) : (c.setV r l x).arrWrote = c.arrWrote := rfl
@[simp] theorem Core.setV_met (c : Core) (r l : Nat) (x : Word) : (c.setV r l x).met = c.met := rfl
@[simp] theorem Core.setV_mq (c : Core) (r l : Nat) (x : Word) : (c.setV r l x).mq = c.mq := rfl
@[simp] theorem Core.setV_dq (c : Core) (r l : Nat) (x : Word) : (c.setV r l x).dq = c.dq := rfl
@[simp] theorem Core.setV_lq (c : Core) (r l : Nat) (x : Word) : (c.setV r l x).lq = c.lq := rfl
@[simp] theorem Core.setV_sq (c : Core) (r l : Nat) (x : Word) : (c.setV r l x).sq = c.sq := rfl
@[simp] theorem Core.setV_mu (c : Core) (r l : Nat) (x : Word) : (c.setV r l x).mu = c.mu := rfl
@[simp] theorem Core.setV_muFin (c : Core) (r l : Nat) (x : Word) : (c.setV r l x).muFin = c.muFin := rfl
@[simp] theorem Core.setV_muTile (c : Core) (r l : Nat) (x : Word) : (c.setV r l x).muTile = c.muTile := rfl
@[simp] theorem Core.setV_muSub (c : Core) (r l : Nat) (x : Word) : (c.setV r l x).muSub = c.muSub := rfl
@[simp] theorem Core.setV_muFed (c : Core) (r l : Nat) (x : Word) : (c.setV r l x).muFed = c.muFed := rfl
@[simp] theorem Core.setV_muLines (c : Core) (r l : Nat) (x : Word) : (c.setV r l x).muLines = c.muLines := rfl
@[simp] theorem Core.setV_muFill (c : Core) (r l : Nat) (x : Word) : (c.setV r l x).muFill = c.muFill := rfl
@[simp] theorem Core.setV_ueWas (c : Core) (r l : Nat) (x : Word) : (c.setV r l x).ueWas = c.ueWas := rfl
@[simp] theorem Core.setV_ceWas (c : Core) (r l : Nat) (x : Word) : (c.setV r l x).ceWas = c.ceWas := rfl
@[simp] theorem Core.setV_muAge (c : Core) (r l : Nat) (x : Word) : (c.setV r l x).muAge = c.muAge := rfl
@[simp] theorem Core.setV_fwdTags (c : Core) (r l : Nat) (x : Word) : (c.setV r l x).fwdTags = c.fwdTags := rfl
@[simp] theorem Core.setV_muStep (c : Core) (r l : Nat) (x : Word) : (c.setV r l x).muStep = c.muStep := rfl
@[simp] theorem Core.setV_muIdle (c : Core) (r l : Nat) (x : Word) : (c.setV r l x).muIdle = c.muIdle := rfl
@[simp] theorem Core.setV_muLevel (c : Core) (r l : Nat) (x : Word) : (c.setV r l x).muLevel = c.muLevel := rfl
@[simp] theorem Core.setV_replies (c : Core) (r l : Nat) (x : Word) : (c.setV r l x).replies = c.replies := rfl
@[simp] theorem Core.setV_mbx (c : Core) (r l : Nat) (x : Word) : (c.setV r l x).mbx = c.mbx := rfl
@[simp] theorem Core.setV_xfers (c : Core) (r l : Nat) (x : Word) : (c.setV r l x).xfers = c.xfers := rfl
@[simp] theorem Core.setV_nextXfer (c : Core) (r l : Nat) (x : Word) : (c.setV r l x).nextXfer = c.nextXfer := rfl
@[simp] theorem Core.setV_turn (c : Core) (r l : Nat) (x : Word) : (c.setV r l x).turn = c.turn := rfl
@[simp] theorem Core.setV_sentN (c : Core) (r l : Nat) (x : Word) : (c.setV r l x).sentN = c.sentN := rfl
@[simp] theorem Core.setV_tagSince (c : Core) (r l : Nat) (x : Word) : (c.setV r l x).tagSince = c.tagSince := rfl
@[simp] theorem Core.setV_fwdQ (c : Core) (r l : Nat) (x : Word) : (c.setV r l x).fwdQ = c.fwdQ := rfl
@[simp] theorem Core.setV_grants (c : Core) (r l : Nat) (x : Word) : (c.setV r l x).grants = c.grants := rfl
@[simp] theorem Core.setV_cwAvail (c : Core) (r l : Nat) (x : Word) : (c.setV r l x).cwAvail = c.cwAvail := rfl
@[simp] theorem Core.setV_cwq (c : Core) (r l : Nat) (x : Word) : (c.setV r l x).cwq = c.cwq := rfl
@[simp] theorem Core.setV_winSats (c : Core) (r l : Nat) (x : Word) : (c.setV r l x).winSats = c.winSats := rfl
@[simp] theorem Core.setV_out (c : Core) (r l : Nat) (x : Word) : (c.setV r l x).out = c.out := rfl
@[simp] theorem Core.setLut_state (c : Core) (t i : Nat) (x : BitVec 16) : (c.setLut t i x).state = c.state := rfl
@[simp] theorem Core.setLut_pc (c : Core) (t i : Nat) (x : BitVec 16) : (c.setLut t i x).pc = c.pc := rfl
@[simp] theorem Core.setLut_cyc (c : Core) (t i : Nat) (x : BitVec 16) : (c.setLut t i x).cyc = c.cyc := rfl
@[simp] theorem Core.setLut_cycMark (c : Core) (t i : Nat) (x : BitVec 16) : (c.setLut t i x).cycMark = c.cycMark := rfl
@[simp] theorem Core.setLut_cycShadow (c : Core) (t i : Nat) (x : BitVec 16) : (c.setLut t i x).cycShadow = c.cycShadow := rfl
@[simp] theorem Core.setLut_ready (c : Core) (t i : Nat) (x : BitVec 16) : (c.setLut t i x).ready = c.ready := rfl
@[simp] theorem Core.setLut_waitSince (c : Core) (t i : Nat) (x : BitVec 16) : (c.setLut t i x).waitSince = c.waitSince := rfl
@[simp] theorem Core.setLut_waitParty (c : Core) (t i : Nat) (x : BitVec 16) : (c.setLut t i x).waitParty = c.waitParty := rfl
@[simp] theorem Core.setLut_pptEntry (c : Core) (t i : Nat) (x : BitVec 16) : (c.setLut t i x).pptEntry = c.pptEntry := rfl
@[simp] theorem Core.setLut_ending (c : Core) (t i : Nat) (x : BitVec 16) : (c.setLut t i x).ending = c.ending := rfl
@[simp] theorem Core.setLut_stepStop (c : Core) (t i : Nat) (x : BitVec 16) : (c.setLut t i x).stepStop = c.stepStop := rfl
@[simp] theorem Core.setLut_resume (c : Core) (t i : Nat) (x : BitVec 16) : (c.setLut t i x).resume = c.resume := rfl
@[simp] theorem Core.setLut_sregs (c : Core) (t i : Nat) (x : BitVec 16) : (c.setLut t i x).sregs = c.sregs := rfl
@[simp] theorem Core.setLut_vregs (c : Core) (t i : Nat) (x : BitVec 16) : (c.setLut t i x).vregs = c.vregs := rfl
@[simp] theorem Core.setLut_mregs (c : Core) (t i : Nat) (x : BitVec 16) : (c.setLut t i x).mregs = c.mregs := rfl
@[simp] theorem Core.setLut_regs (c : Core) (t i : Nat) (x : BitVec 16) : (c.setLut t i x).regs = c.regs := rfl
@[simp] theorem Core.setLut_imem (c : Core) (t i : Nat) (x : BitVec 16) : (c.setLut t i x).imem = c.imem := rfl
@[simp] theorem Core.setLut_imemBad (c : Core) (t i : Nat) (x : BitVec 16) : (c.setLut t i x).imemBad = c.imemBad := rfl
@[simp] theorem Core.setLut_mem (c : Core) (t i : Nat) (x : BitVec 16) : (c.setLut t i x).mem = c.mem := rfl
@[simp] theorem Core.setLut_ue (c : Core) (t i : Nat) (x : BitVec 16) : (c.setLut t i x).ue = c.ue := rfl
@[simp] theorem Core.setLut_ce (c : Core) (t i : Nat) (x : BitVec 16) : (c.setLut t i x).ce = c.ce := rfl
@[simp] theorem Core.setLut_gb (c : Core) (t i : Nat) (x : BitVec 16) : (c.setLut t i x).gb = c.gb := rfl
@[simp] theorem Core.setLut_wrote (c : Core) (t i : Nat) (x : BitVec 16) : (c.setLut t i x).wrote = c.wrote := rfl
@[simp] theorem Core.setLut_arrWrote (c : Core) (t i : Nat) (x : BitVec 16) : (c.setLut t i x).arrWrote = c.arrWrote := rfl
@[simp] theorem Core.setLut_met (c : Core) (t i : Nat) (x : BitVec 16) : (c.setLut t i x).met = c.met := rfl
@[simp] theorem Core.setLut_mq (c : Core) (t i : Nat) (x : BitVec 16) : (c.setLut t i x).mq = c.mq := rfl
@[simp] theorem Core.setLut_dq (c : Core) (t i : Nat) (x : BitVec 16) : (c.setLut t i x).dq = c.dq := rfl
@[simp] theorem Core.setLut_lq (c : Core) (t i : Nat) (x : BitVec 16) : (c.setLut t i x).lq = c.lq := rfl
@[simp] theorem Core.setLut_sq (c : Core) (t i : Nat) (x : BitVec 16) : (c.setLut t i x).sq = c.sq := rfl
@[simp] theorem Core.setLut_mu (c : Core) (t i : Nat) (x : BitVec 16) : (c.setLut t i x).mu = c.mu := rfl
@[simp] theorem Core.setLut_muFin (c : Core) (t i : Nat) (x : BitVec 16) : (c.setLut t i x).muFin = c.muFin := rfl
@[simp] theorem Core.setLut_muTile (c : Core) (t i : Nat) (x : BitVec 16) : (c.setLut t i x).muTile = c.muTile := rfl
@[simp] theorem Core.setLut_muSub (c : Core) (t i : Nat) (x : BitVec 16) : (c.setLut t i x).muSub = c.muSub := rfl
@[simp] theorem Core.setLut_muFed (c : Core) (t i : Nat) (x : BitVec 16) : (c.setLut t i x).muFed = c.muFed := rfl
@[simp] theorem Core.setLut_muLines (c : Core) (t i : Nat) (x : BitVec 16) : (c.setLut t i x).muLines = c.muLines := rfl
@[simp] theorem Core.setLut_muFill (c : Core) (t i : Nat) (x : BitVec 16) : (c.setLut t i x).muFill = c.muFill := rfl
@[simp] theorem Core.setLut_ueWas (c : Core) (t i : Nat) (x : BitVec 16) : (c.setLut t i x).ueWas = c.ueWas := rfl
@[simp] theorem Core.setLut_ceWas (c : Core) (t i : Nat) (x : BitVec 16) : (c.setLut t i x).ceWas = c.ceWas := rfl
@[simp] theorem Core.setLut_muAge (c : Core) (t i : Nat) (x : BitVec 16) : (c.setLut t i x).muAge = c.muAge := rfl
@[simp] theorem Core.setLut_fwdTags (c : Core) (t i : Nat) (x : BitVec 16) : (c.setLut t i x).fwdTags = c.fwdTags := rfl
@[simp] theorem Core.setLut_muStep (c : Core) (t i : Nat) (x : BitVec 16) : (c.setLut t i x).muStep = c.muStep := rfl
@[simp] theorem Core.setLut_muIdle (c : Core) (t i : Nat) (x : BitVec 16) : (c.setLut t i x).muIdle = c.muIdle := rfl
@[simp] theorem Core.setLut_muLevel (c : Core) (t i : Nat) (x : BitVec 16) : (c.setLut t i x).muLevel = c.muLevel := rfl
@[simp] theorem Core.setLut_replies (c : Core) (t i : Nat) (x : BitVec 16) : (c.setLut t i x).replies = c.replies := rfl
@[simp] theorem Core.setLut_mbx (c : Core) (t i : Nat) (x : BitVec 16) : (c.setLut t i x).mbx = c.mbx := rfl
@[simp] theorem Core.setLut_xfers (c : Core) (t i : Nat) (x : BitVec 16) : (c.setLut t i x).xfers = c.xfers := rfl
@[simp] theorem Core.setLut_nextXfer (c : Core) (t i : Nat) (x : BitVec 16) : (c.setLut t i x).nextXfer = c.nextXfer := rfl
@[simp] theorem Core.setLut_turn (c : Core) (t i : Nat) (x : BitVec 16) : (c.setLut t i x).turn = c.turn := rfl
@[simp] theorem Core.setLut_sentN (c : Core) (t i : Nat) (x : BitVec 16) : (c.setLut t i x).sentN = c.sentN := rfl
@[simp] theorem Core.setLut_tagSince (c : Core) (t i : Nat) (x : BitVec 16) : (c.setLut t i x).tagSince = c.tagSince := rfl
@[simp] theorem Core.setLut_fwdQ (c : Core) (t i : Nat) (x : BitVec 16) : (c.setLut t i x).fwdQ = c.fwdQ := rfl
@[simp] theorem Core.setLut_grants (c : Core) (t i : Nat) (x : BitVec 16) : (c.setLut t i x).grants = c.grants := rfl
@[simp] theorem Core.setLut_cwAvail (c : Core) (t i : Nat) (x : BitVec 16) : (c.setLut t i x).cwAvail = c.cwAvail := rfl
@[simp] theorem Core.setLut_cwq (c : Core) (t i : Nat) (x : BitVec 16) : (c.setLut t i x).cwq = c.cwq := rfl
@[simp] theorem Core.setLut_winSats (c : Core) (t i : Nat) (x : BitVec 16) : (c.setLut t i x).winSats = c.winSats := rfl
@[simp] theorem Core.setLut_out (c : Core) (t i : Nat) (x : BitVec 16) : (c.setLut t i x).out = c.out := rfl
@[simp] theorem Core.setS_state (c : Core) (r : Nat) (x : Word) : (c.setS r x).state = c.state := by unfold Core.setS; split <;> rfl
@[simp] theorem Core.setS_pc (c : Core) (r : Nat) (x : Word) : (c.setS r x).pc = c.pc := by unfold Core.setS; split <;> rfl
@[simp] theorem Core.setS_cyc (c : Core) (r : Nat) (x : Word) : (c.setS r x).cyc = c.cyc := by unfold Core.setS; split <;> rfl
@[simp] theorem Core.setS_cycMark (c : Core) (r : Nat) (x : Word) : (c.setS r x).cycMark = c.cycMark := by unfold Core.setS; split <;> rfl
@[simp] theorem Core.setS_cycShadow (c : Core) (r : Nat) (x : Word) : (c.setS r x).cycShadow = c.cycShadow := by unfold Core.setS; split <;> rfl
@[simp] theorem Core.setS_ready (c : Core) (r : Nat) (x : Word) : (c.setS r x).ready = c.ready := by unfold Core.setS; split <;> rfl
@[simp] theorem Core.setS_waitSince (c : Core) (r : Nat) (x : Word) : (c.setS r x).waitSince = c.waitSince := by unfold Core.setS; split <;> rfl
@[simp] theorem Core.setS_waitParty (c : Core) (r : Nat) (x : Word) : (c.setS r x).waitParty = c.waitParty := by unfold Core.setS; split <;> rfl
@[simp] theorem Core.setS_pptEntry (c : Core) (r : Nat) (x : Word) : (c.setS r x).pptEntry = c.pptEntry := by unfold Core.setS; split <;> rfl
@[simp] theorem Core.setS_ending (c : Core) (r : Nat) (x : Word) : (c.setS r x).ending = c.ending := by unfold Core.setS; split <;> rfl
@[simp] theorem Core.setS_stepStop (c : Core) (r : Nat) (x : Word) : (c.setS r x).stepStop = c.stepStop := by unfold Core.setS; split <;> rfl
@[simp] theorem Core.setS_resume (c : Core) (r : Nat) (x : Word) : (c.setS r x).resume = c.resume := by unfold Core.setS; split <;> rfl
@[simp] theorem Core.setS_vregs (c : Core) (r : Nat) (x : Word) : (c.setS r x).vregs = c.vregs := by unfold Core.setS; split <;> rfl
@[simp] theorem Core.setS_mregs (c : Core) (r : Nat) (x : Word) : (c.setS r x).mregs = c.mregs := by unfold Core.setS; split <;> rfl
@[simp] theorem Core.setS_luts (c : Core) (r : Nat) (x : Word) : (c.setS r x).luts = c.luts := by unfold Core.setS; split <;> rfl
@[simp] theorem Core.setS_regs (c : Core) (r : Nat) (x : Word) : (c.setS r x).regs = c.regs := by unfold Core.setS; split <;> rfl
@[simp] theorem Core.setS_imem (c : Core) (r : Nat) (x : Word) : (c.setS r x).imem = c.imem := by unfold Core.setS; split <;> rfl
@[simp] theorem Core.setS_imemBad (c : Core) (r : Nat) (x : Word) : (c.setS r x).imemBad = c.imemBad := by unfold Core.setS; split <;> rfl
@[simp] theorem Core.setS_mem (c : Core) (r : Nat) (x : Word) : (c.setS r x).mem = c.mem := by unfold Core.setS; split <;> rfl
@[simp] theorem Core.setS_ue (c : Core) (r : Nat) (x : Word) : (c.setS r x).ue = c.ue := by unfold Core.setS; split <;> rfl
@[simp] theorem Core.setS_ce (c : Core) (r : Nat) (x : Word) : (c.setS r x).ce = c.ce := by unfold Core.setS; split <;> rfl
@[simp] theorem Core.setS_gb (c : Core) (r : Nat) (x : Word) : (c.setS r x).gb = c.gb := by unfold Core.setS; split <;> rfl
@[simp] theorem Core.setS_wrote (c : Core) (r : Nat) (x : Word) : (c.setS r x).wrote = c.wrote := by unfold Core.setS; split <;> rfl
@[simp] theorem Core.setS_arrWrote (c : Core) (r : Nat) (x : Word) : (c.setS r x).arrWrote = c.arrWrote := by unfold Core.setS; split <;> rfl
@[simp] theorem Core.setS_met (c : Core) (r : Nat) (x : Word) : (c.setS r x).met = c.met := by unfold Core.setS; split <;> rfl
@[simp] theorem Core.setS_mq (c : Core) (r : Nat) (x : Word) : (c.setS r x).mq = c.mq := by unfold Core.setS; split <;> rfl
@[simp] theorem Core.setS_dq (c : Core) (r : Nat) (x : Word) : (c.setS r x).dq = c.dq := by unfold Core.setS; split <;> rfl
@[simp] theorem Core.setS_lq (c : Core) (r : Nat) (x : Word) : (c.setS r x).lq = c.lq := by unfold Core.setS; split <;> rfl
@[simp] theorem Core.setS_sq (c : Core) (r : Nat) (x : Word) : (c.setS r x).sq = c.sq := by unfold Core.setS; split <;> rfl
@[simp] theorem Core.setS_mu (c : Core) (r : Nat) (x : Word) : (c.setS r x).mu = c.mu := by unfold Core.setS; split <;> rfl
@[simp] theorem Core.setS_muFin (c : Core) (r : Nat) (x : Word) : (c.setS r x).muFin = c.muFin := by unfold Core.setS; split <;> rfl
@[simp] theorem Core.setS_muTile (c : Core) (r : Nat) (x : Word) : (c.setS r x).muTile = c.muTile := by unfold Core.setS; split <;> rfl
@[simp] theorem Core.setS_muSub (c : Core) (r : Nat) (x : Word) : (c.setS r x).muSub = c.muSub := by unfold Core.setS; split <;> rfl
@[simp] theorem Core.setS_muFed (c : Core) (r : Nat) (x : Word) : (c.setS r x).muFed = c.muFed := by unfold Core.setS; split <;> rfl
@[simp] theorem Core.setS_muLines (c : Core) (r : Nat) (x : Word) : (c.setS r x).muLines = c.muLines := by unfold Core.setS; split <;> rfl
@[simp] theorem Core.setS_muFill (c : Core) (r : Nat) (x : Word) : (c.setS r x).muFill = c.muFill := by unfold Core.setS; split <;> rfl
@[simp] theorem Core.setS_ueWas (c : Core) (r : Nat) (x : Word) : (c.setS r x).ueWas = c.ueWas := by unfold Core.setS; split <;> rfl
@[simp] theorem Core.setS_ceWas (c : Core) (r : Nat) (x : Word) : (c.setS r x).ceWas = c.ceWas := by unfold Core.setS; split <;> rfl
@[simp] theorem Core.setS_muAge (c : Core) (r : Nat) (x : Word) : (c.setS r x).muAge = c.muAge := by unfold Core.setS; split <;> rfl
@[simp] theorem Core.setS_fwdTags (c : Core) (r : Nat) (x : Word) : (c.setS r x).fwdTags = c.fwdTags := by unfold Core.setS; split <;> rfl
@[simp] theorem Core.setS_muStep (c : Core) (r : Nat) (x : Word) : (c.setS r x).muStep = c.muStep := by unfold Core.setS; split <;> rfl
@[simp] theorem Core.setS_muIdle (c : Core) (r : Nat) (x : Word) : (c.setS r x).muIdle = c.muIdle := by unfold Core.setS; split <;> rfl
@[simp] theorem Core.setS_muLevel (c : Core) (r : Nat) (x : Word) : (c.setS r x).muLevel = c.muLevel := by unfold Core.setS; split <;> rfl
@[simp] theorem Core.setS_replies (c : Core) (r : Nat) (x : Word) : (c.setS r x).replies = c.replies := by unfold Core.setS; split <;> rfl
@[simp] theorem Core.setS_mbx (c : Core) (r : Nat) (x : Word) : (c.setS r x).mbx = c.mbx := by unfold Core.setS; split <;> rfl
@[simp] theorem Core.setS_xfers (c : Core) (r : Nat) (x : Word) : (c.setS r x).xfers = c.xfers := by unfold Core.setS; split <;> rfl
@[simp] theorem Core.setS_nextXfer (c : Core) (r : Nat) (x : Word) : (c.setS r x).nextXfer = c.nextXfer := by unfold Core.setS; split <;> rfl
@[simp] theorem Core.setS_turn (c : Core) (r : Nat) (x : Word) : (c.setS r x).turn = c.turn := by unfold Core.setS; split <;> rfl
@[simp] theorem Core.setS_sentN (c : Core) (r : Nat) (x : Word) : (c.setS r x).sentN = c.sentN := by unfold Core.setS; split <;> rfl
@[simp] theorem Core.setS_tagSince (c : Core) (r : Nat) (x : Word) : (c.setS r x).tagSince = c.tagSince := by unfold Core.setS; split <;> rfl
@[simp] theorem Core.setS_fwdQ (c : Core) (r : Nat) (x : Word) : (c.setS r x).fwdQ = c.fwdQ := by unfold Core.setS; split <;> rfl
@[simp] theorem Core.setS_grants (c : Core) (r : Nat) (x : Word) : (c.setS r x).grants = c.grants := by unfold Core.setS; split <;> rfl
@[simp] theorem Core.setS_cwAvail (c : Core) (r : Nat) (x : Word) : (c.setS r x).cwAvail = c.cwAvail := by unfold Core.setS; split <;> rfl
@[simp] theorem Core.setS_cwq (c : Core) (r : Nat) (x : Word) : (c.setS r x).cwq = c.cwq := by unfold Core.setS; split <;> rfl
@[simp] theorem Core.setS_winSats (c : Core) (r : Nat) (x : Word) : (c.setS r x).winSats = c.winSats := by unfold Core.setS; split <;> rfl
@[simp] theorem Core.setS_out (c : Core) (r : Nat) (x : Word) : (c.setS r x).out = c.out := by unfold Core.setS; split <;> rfl
@[simp] theorem Core.setM_state (c : Core) (r : Nat) (x : BitVec 16) : (c.setM r x).state = c.state := by unfold Core.setM; split <;> rfl
@[simp] theorem Core.setM_pc (c : Core) (r : Nat) (x : BitVec 16) : (c.setM r x).pc = c.pc := by unfold Core.setM; split <;> rfl
@[simp] theorem Core.setM_cyc (c : Core) (r : Nat) (x : BitVec 16) : (c.setM r x).cyc = c.cyc := by unfold Core.setM; split <;> rfl
@[simp] theorem Core.setM_cycMark (c : Core) (r : Nat) (x : BitVec 16) : (c.setM r x).cycMark = c.cycMark := by unfold Core.setM; split <;> rfl
@[simp] theorem Core.setM_cycShadow (c : Core) (r : Nat) (x : BitVec 16) : (c.setM r x).cycShadow = c.cycShadow := by unfold Core.setM; split <;> rfl
@[simp] theorem Core.setM_ready (c : Core) (r : Nat) (x : BitVec 16) : (c.setM r x).ready = c.ready := by unfold Core.setM; split <;> rfl
@[simp] theorem Core.setM_waitSince (c : Core) (r : Nat) (x : BitVec 16) : (c.setM r x).waitSince = c.waitSince := by unfold Core.setM; split <;> rfl
@[simp] theorem Core.setM_waitParty (c : Core) (r : Nat) (x : BitVec 16) : (c.setM r x).waitParty = c.waitParty := by unfold Core.setM; split <;> rfl
@[simp] theorem Core.setM_pptEntry (c : Core) (r : Nat) (x : BitVec 16) : (c.setM r x).pptEntry = c.pptEntry := by unfold Core.setM; split <;> rfl
@[simp] theorem Core.setM_ending (c : Core) (r : Nat) (x : BitVec 16) : (c.setM r x).ending = c.ending := by unfold Core.setM; split <;> rfl
@[simp] theorem Core.setM_stepStop (c : Core) (r : Nat) (x : BitVec 16) : (c.setM r x).stepStop = c.stepStop := by unfold Core.setM; split <;> rfl
@[simp] theorem Core.setM_resume (c : Core) (r : Nat) (x : BitVec 16) : (c.setM r x).resume = c.resume := by unfold Core.setM; split <;> rfl
@[simp] theorem Core.setM_sregs (c : Core) (r : Nat) (x : BitVec 16) : (c.setM r x).sregs = c.sregs := by unfold Core.setM; split <;> rfl
@[simp] theorem Core.setM_vregs (c : Core) (r : Nat) (x : BitVec 16) : (c.setM r x).vregs = c.vregs := by unfold Core.setM; split <;> rfl
@[simp] theorem Core.setM_luts (c : Core) (r : Nat) (x : BitVec 16) : (c.setM r x).luts = c.luts := by unfold Core.setM; split <;> rfl
@[simp] theorem Core.setM_regs (c : Core) (r : Nat) (x : BitVec 16) : (c.setM r x).regs = c.regs := by unfold Core.setM; split <;> rfl
@[simp] theorem Core.setM_imem (c : Core) (r : Nat) (x : BitVec 16) : (c.setM r x).imem = c.imem := by unfold Core.setM; split <;> rfl
@[simp] theorem Core.setM_imemBad (c : Core) (r : Nat) (x : BitVec 16) : (c.setM r x).imemBad = c.imemBad := by unfold Core.setM; split <;> rfl
@[simp] theorem Core.setM_mem (c : Core) (r : Nat) (x : BitVec 16) : (c.setM r x).mem = c.mem := by unfold Core.setM; split <;> rfl
@[simp] theorem Core.setM_ue (c : Core) (r : Nat) (x : BitVec 16) : (c.setM r x).ue = c.ue := by unfold Core.setM; split <;> rfl
@[simp] theorem Core.setM_ce (c : Core) (r : Nat) (x : BitVec 16) : (c.setM r x).ce = c.ce := by unfold Core.setM; split <;> rfl
@[simp] theorem Core.setM_gb (c : Core) (r : Nat) (x : BitVec 16) : (c.setM r x).gb = c.gb := by unfold Core.setM; split <;> rfl
@[simp] theorem Core.setM_wrote (c : Core) (r : Nat) (x : BitVec 16) : (c.setM r x).wrote = c.wrote := by unfold Core.setM; split <;> rfl
@[simp] theorem Core.setM_arrWrote (c : Core) (r : Nat) (x : BitVec 16) : (c.setM r x).arrWrote = c.arrWrote := by unfold Core.setM; split <;> rfl
@[simp] theorem Core.setM_met (c : Core) (r : Nat) (x : BitVec 16) : (c.setM r x).met = c.met := by unfold Core.setM; split <;> rfl
@[simp] theorem Core.setM_mq (c : Core) (r : Nat) (x : BitVec 16) : (c.setM r x).mq = c.mq := by unfold Core.setM; split <;> rfl
@[simp] theorem Core.setM_dq (c : Core) (r : Nat) (x : BitVec 16) : (c.setM r x).dq = c.dq := by unfold Core.setM; split <;> rfl
@[simp] theorem Core.setM_lq (c : Core) (r : Nat) (x : BitVec 16) : (c.setM r x).lq = c.lq := by unfold Core.setM; split <;> rfl
@[simp] theorem Core.setM_sq (c : Core) (r : Nat) (x : BitVec 16) : (c.setM r x).sq = c.sq := by unfold Core.setM; split <;> rfl
@[simp] theorem Core.setM_mu (c : Core) (r : Nat) (x : BitVec 16) : (c.setM r x).mu = c.mu := by unfold Core.setM; split <;> rfl
@[simp] theorem Core.setM_muFin (c : Core) (r : Nat) (x : BitVec 16) : (c.setM r x).muFin = c.muFin := by unfold Core.setM; split <;> rfl
@[simp] theorem Core.setM_muTile (c : Core) (r : Nat) (x : BitVec 16) : (c.setM r x).muTile = c.muTile := by unfold Core.setM; split <;> rfl
@[simp] theorem Core.setM_muSub (c : Core) (r : Nat) (x : BitVec 16) : (c.setM r x).muSub = c.muSub := by unfold Core.setM; split <;> rfl
@[simp] theorem Core.setM_muFed (c : Core) (r : Nat) (x : BitVec 16) : (c.setM r x).muFed = c.muFed := by unfold Core.setM; split <;> rfl
@[simp] theorem Core.setM_muLines (c : Core) (r : Nat) (x : BitVec 16) : (c.setM r x).muLines = c.muLines := by unfold Core.setM; split <;> rfl
@[simp] theorem Core.setM_muFill (c : Core) (r : Nat) (x : BitVec 16) : (c.setM r x).muFill = c.muFill := by unfold Core.setM; split <;> rfl
@[simp] theorem Core.setM_ueWas (c : Core) (r : Nat) (x : BitVec 16) : (c.setM r x).ueWas = c.ueWas := by unfold Core.setM; split <;> rfl
@[simp] theorem Core.setM_ceWas (c : Core) (r : Nat) (x : BitVec 16) : (c.setM r x).ceWas = c.ceWas := by unfold Core.setM; split <;> rfl
@[simp] theorem Core.setM_muAge (c : Core) (r : Nat) (x : BitVec 16) : (c.setM r x).muAge = c.muAge := by unfold Core.setM; split <;> rfl
@[simp] theorem Core.setM_fwdTags (c : Core) (r : Nat) (x : BitVec 16) : (c.setM r x).fwdTags = c.fwdTags := by unfold Core.setM; split <;> rfl
@[simp] theorem Core.setM_muStep (c : Core) (r : Nat) (x : BitVec 16) : (c.setM r x).muStep = c.muStep := by unfold Core.setM; split <;> rfl
@[simp] theorem Core.setM_muIdle (c : Core) (r : Nat) (x : BitVec 16) : (c.setM r x).muIdle = c.muIdle := by unfold Core.setM; split <;> rfl
@[simp] theorem Core.setM_muLevel (c : Core) (r : Nat) (x : BitVec 16) : (c.setM r x).muLevel = c.muLevel := by unfold Core.setM; split <;> rfl
@[simp] theorem Core.setM_replies (c : Core) (r : Nat) (x : BitVec 16) : (c.setM r x).replies = c.replies := by unfold Core.setM; split <;> rfl
@[simp] theorem Core.setM_mbx (c : Core) (r : Nat) (x : BitVec 16) : (c.setM r x).mbx = c.mbx := by unfold Core.setM; split <;> rfl
@[simp] theorem Core.setM_xfers (c : Core) (r : Nat) (x : BitVec 16) : (c.setM r x).xfers = c.xfers := by unfold Core.setM; split <;> rfl
@[simp] theorem Core.setM_nextXfer (c : Core) (r : Nat) (x : BitVec 16) : (c.setM r x).nextXfer = c.nextXfer := by unfold Core.setM; split <;> rfl
@[simp] theorem Core.setM_turn (c : Core) (r : Nat) (x : BitVec 16) : (c.setM r x).turn = c.turn := by unfold Core.setM; split <;> rfl
@[simp] theorem Core.setM_sentN (c : Core) (r : Nat) (x : BitVec 16) : (c.setM r x).sentN = c.sentN := by unfold Core.setM; split <;> rfl
@[simp] theorem Core.setM_tagSince (c : Core) (r : Nat) (x : BitVec 16) : (c.setM r x).tagSince = c.tagSince := by unfold Core.setM; split <;> rfl
@[simp] theorem Core.setM_fwdQ (c : Core) (r : Nat) (x : BitVec 16) : (c.setM r x).fwdQ = c.fwdQ := by unfold Core.setM; split <;> rfl
@[simp] theorem Core.setM_grants (c : Core) (r : Nat) (x : BitVec 16) : (c.setM r x).grants = c.grants := by unfold Core.setM; split <;> rfl
@[simp] theorem Core.setM_cwAvail (c : Core) (r : Nat) (x : BitVec 16) : (c.setM r x).cwAvail = c.cwAvail := by unfold Core.setM; split <;> rfl
@[simp] theorem Core.setM_cwq (c : Core) (r : Nat) (x : BitVec 16) : (c.setM r x).cwq = c.cwq := by unfold Core.setM; split <;> rfl
@[simp] theorem Core.setM_winSats (c : Core) (r : Nat) (x : BitVec 16) : (c.setM r x).winSats = c.winSats := by unfold Core.setM; split <;> rfl
@[simp] theorem Core.setM_out (c : Core) (r : Nat) (x : BitVec 16) : (c.setM r x).out = c.out := by unfold Core.setM; split <;> rfl
@[simp] theorem Core.reg_setReg (c : Core) (o : Nat) (w : Word) (j : Nat) : (c.setReg o w).reg j = if j = o then w else c.reg j := by
  unfold Core.reg Core.setReg
  split
  · next h => rw [h]; exact Tab.get_set_same _ _ _ _
  · next h => exact Tab.get_set_ne _ _ _ _ h
@[simp] theorem Core.s_setReg (c : Core) (o : Nat) (w : Word) (r : Nat) : (c.setReg o w).s r = c.s r := rfl
@[simp] theorem Core.v_setReg (c : Core) (o : Nat) (w : Word) (r l : Nat) : (c.setReg o w).v r l = c.v r l := rfl
@[simp] theorem Core.m_setReg (c : Core) (o : Nat) (w : Word) (r : Nat) : (c.setReg o w).m r = c.m r := rfl
theorem Core.s_setS (c : Core) (r : Nat) (x : Word) (j : Nat) : (c.setS r x).s j = if j = r ∧ r ≠ 0 then x else c.s j := by
  unfold Core.setS Core.s
  by_cases h : r = 0
  · subst h; simp
  · by_cases hj : j = r
    · subst hj; simp [h]
    · simp [h, hj, Tab.get_set]
theorem Core.m_setM (c : Core) (r : Nat) (x : BitVec 16) (j : Nat) : (c.setM r x).m j = if j = r ∧ r ≠ 0 then x else c.m j := by
  unfold Core.setM Core.m
  by_cases h : r = 0
  · subst h; simp
  · by_cases hj : j = r
    · subst hj; simp [h]
    · simp [h, hj, Tab.get_set]
theorem Core.v_setV (c : Core) (r l : Nat) (x : Word) (j i : Nat) : (c.setV r l x).v j i = if 16 * j + i = 16 * r + l then x else c.v j i := Tab.get_set _ _ _ _ _

end Sys2Proof.Machine
end

