-- ==== Sys2Proof/Laws/Ops.lean ====
section
/-! SUPPORT. What the shared operations of the device can do: fields of registers, records, counters, the wrappers of commands. -/

namespace Sys2Proof.Machine

/-! ### Fields of registers -/

/-- A register after a field was written. -/
@[simp] theorem Dev.reg_setFld (d : Dev) (o : Nat) (f : Fld) (v j : Nat) :
    (d.setFld o f v).reg j = if j = o then f.put (d.reg o) v else d.reg j := Dev.reg_setReg _ _ _ _

/-- A field just written. -/
theorem Dev.fld_setFld_same (d : Dev) (o : Nat) (f : Fld) (v : Nat) (hf : f.fits = true) : (d.setFld o f v).fld o f = v % 2 ^ f.len := by
  unfold Dev.fld
  rw [Dev.reg_setFld, if_pos rfl, f.get_put hf]

/-- A field of the same register apart from the one written. -/
theorem Dev.fld_setFld_apart (d : Dev) (o : Nat) (f g : Fld) (v : Nat) (hf : f.fits = true) (h : f.apart g = true) :
    (d.setFld o f v).fld o g = d.fld o g := by
  unfold Dev.fld
  rw [Dev.reg_setFld, if_pos rfl, f.get_put_apart g hf h]

/-- A field of another register. -/
theorem Dev.fld_setFld_ne (d : Dev) (o j : Nat) (f g : Fld) (v : Nat) (h : j ≠ o) : (d.setFld o f v).fld j g = d.fld j g := by
  unfold Dev.fld
  rw [Dev.reg_setFld, if_neg h]

/-- A core's register after a field was written. -/
@[simp] theorem Core.reg_setFld (c : Core) (o : Nat) (f : Fld) (v j : Nat) :
    (c.setFld o f v).reg j = if j = o then f.put (c.reg o) v else c.reg j := Core.reg_setReg _ _ _ _

/-! ### The Sill (R493) -/

/-- A request for a domain changes the Sill alone. -/
theorem Dev.askOpen_frame (d : Dev) (n : Nat) : ∃ q, d.askOpen n = { d with sill := q } := by
  unfold Dev.askOpen
  dsimp only
  split <;> split <;> exact ⟨_, rfl⟩

/-- A use of a domain changes the Sill alone. -/
theorem Dev.useDomain_frame (d : Dev) (n : Nat) : ∃ q, d.useDomain n = { d with sill := q } := by
  obtain ⟨q, h⟩ := d.askOpen_frame n
  unfold Dev.useDomain
  rw [h]
  exact ⟨_, rfl⟩

/-! ### Records and counters (R73, R512) -/

/-- A register apart from the one written. -/
theorem Dev.reg_setReg_other (d : Dev) (o : Nat) (w : Word) (j : Nat) (h : j ≠ o) : (d.setReg o w).reg j = d.reg j := by
  rw [Dev.reg_setReg, if_neg h]

/-- A record changes the records that wait, and TEL_SRC_DROPS. -/
theorem Dev.emit_frame (d : Dev) (e : Ev) : ∃ t r, d.emit e = { d with tel := t, regs := r } := by
  unfold Dev.emit
  dsimp only
  split
  · exact ⟨_, _, rfl⟩
  · split
    · exact ⟨_, _, rfl⟩
    · split <;> exact ⟨_, _, rfl⟩

/-- A record changes no register but TEL_SRC_DROPS. -/
theorem Dev.reg_emit (d : Dev) (e : Ev) (o : Nat) (h : o ≠ Block.tel.base + Off.TEL_SRC_DROPS) : (d.emit e).reg o = d.reg o := by
  unfold Dev.emit
  dsimp only
  split
  · rfl
  · split
    · exact Dev.reg_setReg_other _ _ _ _ h
    · split
      · exact Dev.reg_setReg_other _ _ _ _ h
      · exact (Dev.reg_setReg_other _ _ _ _ h).trans (Dev.reg_setReg_other _ _ _ _ h)

/-- A record with room at its source joins the records waiting there. -/
theorem Dev.waiting_emit (d : Dev) (e : Ev) (h : (d.waiting e.src).length < 8) : (d.emit e).waiting e.src = d.waiting e.src ++ [d.record e] := by
  unfold Dev.emit
  dsimp only
  rw [if_pos h, Dev.waiting_setWaiting, if_pos rfl]
  rfl

/-- A counter changes its register, and by its wrap the records that wait and TEL_SRC_DROPS. -/
theorem Dev.bump_frame (d : Dev) (o n : Nat) (e : Ev) : ∃ t r, d.bump o n e = { d with tel := t, regs := r } := by
  unfold Dev.bump
  dsimp only
  split
  · exact ⟨_, _, rfl⟩
  · obtain ⟨t, r, h⟩ := Dev.emit_frame (d.setReg o (wd ((d.reg o).toNat + n))) e
    exact ⟨t, r, h⟩

/-- A counter that does not wrap is one register write. -/
theorem Dev.bump_small (d : Dev) (o n : Nat) (e : Ev) (h : (d.reg o).toNat + n < 2 ^ 32) : d.bump o n e = d.setReg o (wd ((d.reg o).toNat + n)) := by
  unfold Dev.bump
  exact if_pos h

/-- A counter that wraps writes its event too. -/
theorem Dev.bump_wrap (d : Dev) (o n : Nat) (e : Ev) (h : 2 ^ 32 ≤ (d.reg o).toNat + n) :
    d.bump o n e = (d.setReg o (wd ((d.reg o).toNat + n))).emit e := by
  unfold Dev.bump
  exact if_neg (by omega)

/-! ### The wrappers -/

/-- A device command answers a next state with the Bolt and the queue as they were. -/
theorem onDev_next (f : Dev → Dev) (s : State) : onDev f s = .next { s with dev := f s.dev } := rfl

/-- A Bolt command answers a next state with the queue as it was. -/
theorem onBolt_next (f : Dev × Bolt → Dev × Bolt) (s : State) : onBolt f s = .next { s with dev := (f (s.dev, s.bolt)).1, bolt := (f (s.dev, s.bolt)).2 } := rfl

/-- A list of updates, the first run first. -/
@[simp] theorem Dev.each_nil {α : Type} (d : Dev) (f : Dev → α → Dev) : d.each [] f = d := rfl
/-- A list of updates. -/
@[simp] theorem Dev.each_cons {α : Type} (d : Dev) (x : α) (l : List α) (f : Dev → α → Dev) : d.each (x :: l) f = (f d x).each l f := rfl

/-- A relation that every update keeps holds after a list of them. -/
theorem Dev.each_keeps {α β : Type} (p : Dev → β) (l : List α) (f : Dev → α → Dev) (h : ∀ d x, p (f d x) = p d) (d : Dev) : p (d.each l f) = p d := by
  induction l generalizing d with
  | nil => rfl
  | cons x l ih => rw [Dev.each_cons, ih, h]

/-- A core with nothing left for its sequencer is simply put back. -/
theorem Dev.putCore_quiet (d : Dev) (k : Nat) (c : Core) (h : c.out = []) : d.putCore k c = d.setCore k c := by
  unfold Dev.putCore
  rw [h]
  have : { c with out := [] } = c := by rw [← h]
  rw [this]
  rfl

/-! What `emit` leaves alone. -/

@[simp] theorem Dev.emit_tick (d : Dev) (e : Ev) : (d.emit e).tick = d.tick := by obtain ⟨t, r, h⟩ := d.emit_frame e; rw [h]
@[simp] theorem Dev.emit_tickBase (d : Dev) (e : Ev) : (d.emit e).tickBase = d.tickBase := by obtain ⟨t, r, h⟩ := d.emit_frame e; rw [h]
@[simp] theorem Dev.emit_sideCyc (d : Dev) (e : Ev) : (d.emit e).sideCyc = d.sideCyc := by obtain ⟨t, r, h⟩ := d.emit_frame e; rw [h]
@[simp] theorem Dev.emit_cores (d : Dev) (e : Ev) : (d.emit e).cores = d.cores := by obtain ⟨t, r, h⟩ := d.emit_frame e; rw [h]
@[simp] theorem Dev.emit_stages (d : Dev) (e : Ev) : (d.emit e).stages = d.stages := by obtain ⟨t, r, h⟩ := d.emit_frame e; rw [h]
@[simp] theorem Dev.emit_lus (d : Dev) (e : Ev) : (d.emit e).lus = d.lus := by obtain ⟨t, r, h⟩ := d.emit_frame e; rw [h]
@[simp] theorem Dev.emit_hbm (d : Dev) (e : Ev) : (d.emit e).hbm = d.hbm := by obtain ⟨t, r, h⟩ := d.emit_frame e; rw [h]
@[simp] theorem Dev.emit_hbmUe (d : Dev) (e : Ev) : (d.emit e).hbmUe = d.hbmUe := by obtain ⟨t, r, h⟩ := d.emit_frame e; rw [h]
@[simp] theorem Dev.emit_hbmCe (d : Dev) (e : Ev) : (d.emit e).hbmCe = d.hbmCe := by obtain ⟨t, r, h⟩ := d.emit_frame e; rw [h]
@[simp] theorem Dev.emit_repairPend (d : Dev) (e : Ev) : (d.emit e).repairPend = d.repairPend := by obtain ⟨t, r, h⟩ := d.emit_frame e; rw [h]
@[simp] theorem Dev.emit_repair (d : Dev) (e : Ev) : (d.emit e).repair = d.repair := by obtain ⟨t, r, h⟩ := d.emit_frame e; rw [h]
@[simp] theorem Dev.emit_repairAt (d : Dev) (e : Ev) : (d.emit e).repairAt = d.repairAt := by obtain ⟨t, r, h⟩ := d.emit_frame e; rw [h]
@[simp] theorem Dev.emit_pci (d : Dev) (e : Ev) : (d.emit e).pci = d.pci := by obtain ⟨t, r, h⟩ := d.emit_frame e; rw [h]
@[simp] theorem Dev.emit_fenced (d : Dev) (e : Ev) : (d.emit e).fenced = d.fenced := by obtain ⟨t, r, h⟩ := d.emit_frame e; rw [h]
@[simp] theorem Dev.emit_zeroTo (d : Dev) (e : Ev) : (d.emit e).zeroTo = d.zeroTo := by obtain ⟨t, r, h⟩ := d.emit_frame e; rw [h]
@[simp] theorem Dev.emit_host (d : Dev) (e : Ev) : (d.emit e).host = d.host := by obtain ⟨t, r, h⟩ := d.emit_frame e; rw [h]
@[simp] theorem Dev.emit_bmeOff (d : Dev) (e : Ev) : (d.emit e).bmeOff = d.bmeOff := by obtain ⟨t, r, h⟩ := d.emit_frame e; rw [h]
@[simp] theorem Dev.emit_msixOff (d : Dev) (e : Ev) : (d.emit e).msixOff = d.msixOff := by obtain ⟨t, r, h⟩ := d.emit_frame e; rw [h]
@[simp] theorem Dev.emit_cqWait (d : Dev) (e : Ev) : (d.emit e).cqWait = d.cqWait := by obtain ⟨t, r, h⟩ := d.emit_frame e; rw [h]
@[simp] theorem Dev.emit_rrLost (d : Dev) (e : Ev) : (d.emit e).rrLost = d.rrLost := by obtain ⟨t, r, h⟩ := d.emit_frame e; rw [h]
@[simp] theorem Dev.emit_longs (d : Dev) (e : Ev) : (d.emit e).longs = d.longs := by obtain ⟨t, r, h⟩ := d.emit_frame e; rw [h]
@[simp] theorem Dev.emit_tokens (d : Dev) (e : Ev) : (d.emit e).tokens = d.tokens := by obtain ⟨t, r, h⟩ := d.emit_frame e; rw [h]
@[simp] theorem Dev.emit_turn (d : Dev) (e : Ev) : (d.emit e).turn = d.turn := by obtain ⟨t, r, h⟩ := d.emit_frame e; rw [h]
@[simp] theorem Dev.emit_aslots (d : Dev) (e : Ev) : (d.emit e).aslots = d.aslots := by obtain ⟨t, r, h⟩ := d.emit_frame e; rw [h]
@[simp] theorem Dev.emit_aunits (d : Dev) (e : Ev) : (d.emit e).aunits = d.aunits := by obtain ⟨t, r, h⟩ := d.emit_frame e; rw [h]
@[simp] theorem Dev.emit_cams (d : Dev) (e : Ev) : (d.emit e).cams = d.cams := by obtain ⟨t, r, h⟩ := d.emit_frame e; rw [h]
@[simp] theorem Dev.emit_engines (d : Dev) (e : Ev) : (d.emit e).engines = d.engines := by obtain ⟨t, r, h⟩ := d.emit_frame e; rw [h]
@[simp] theorem Dev.emit_served (d : Dev) (e : Ev) : (d.emit e).served = d.served := by obtain ⟨t, r, h⟩ := d.emit_frame e; rw [h]
@[simp] theorem Dev.emit_frames (d : Dev) (e : Ev) : (d.emit e).frames = d.frames := by obtain ⟨t, r, h⟩ := d.emit_frame e; rw [h]
@[simp] theorem Dev.emit_tensors (d : Dev) (e : Ev) : (d.emit e).tensors = d.tensors := by obtain ⟨t, r, h⟩ := d.emit_frame e; rw [h]
@[simp] theorem Dev.emit_mir (d : Dev) (e : Ev) : (d.emit e).mir = d.mir := by obtain ⟨t, r, h⟩ := d.emit_frame e; rw [h]
@[simp] theorem Dev.emit_sill (d : Dev) (e : Ev) : (d.emit e).sill = d.sill := by obtain ⟨t, r, h⟩ := d.emit_frame e; rw [h]
@[simp] theorem Dev.emit_gov (d : Dev) (e : Ev) : (d.emit e).gov = d.gov := by obtain ⟨t, r, h⟩ := d.emit_frame e; rw [h]
@[simp] theorem Dev.emit_hot (d : Dev) (e : Ev) : (d.emit e).hot = d.hot := by obtain ⟨t, r, h⟩ := d.emit_frame e; rw [h]
@[simp] theorem Dev.emit_warned (d : Dev) (e : Ev) : (d.emit e).warned = d.warned := by obtain ⟨t, r, h⟩ := d.emit_frame e; rw [h]
@[simp] theorem Dev.emit_railLow (d : Dev) (e : Ev) : (d.emit e).railLow = d.railLow := by obtain ⟨t, r, h⟩ := d.emit_frame e; rw [h]
@[simp] theorem Dev.emit_chans (d : Dev) (e : Ev) : (d.emit e).chans = d.chans := by obtain ⟨t, r, h⟩ := d.emit_frame e; rw [h]
@[simp] theorem Dev.emit_panes (d : Dev) (e : Ev) : (d.emit e).panes = d.panes := by obtain ⟨t, r, h⟩ := d.emit_frame e; rw [h]
@[simp] theorem Dev.emit_weighQ (d : Dev) (e : Ev) : (d.emit e).weighQ = d.weighQ := by obtain ⟨t, r, h⟩ := d.emit_frame e; rw [h]
@[simp] theorem Dev.emit_weighBind (d : Dev) (e : Ev) : (d.emit e).weighBind = d.weighBind := by obtain ⟨t, r, h⟩ := d.emit_frame e; rw [h]
@[simp] theorem Dev.emit_boot (d : Dev) (e : Ev) : (d.emit e).boot = d.boot := by obtain ⟨t, r, h⟩ := d.emit_frame e; rw [h]
@[simp] theorem Dev.emit_flash (d : Dev) (e : Ev) : (d.emit e).flash = d.flash := by obtain ⟨t, r, h⟩ := d.emit_frame e; rw [h]
@[simp] theorem Dev.emit_secOp (d : Dev) (e : Ev) : (d.emit e).secOp = d.secOp := by obtain ⟨t, r, h⟩ := d.emit_frame e; rw [h]
@[simp] theorem Dev.emit_alerts (d : Dev) (e : Ev) : (d.emit e).alerts = d.alerts := by obtain ⟨t, r, h⟩ := d.emit_frame e; rw [h]
@[simp] theorem Dev.emit_aer (d : Dev) (e : Ev) : (d.emit e).aer = d.aer := by obtain ⟨t, r, h⟩ := d.emit_frame e; rw [h]
@[simp] theorem Dev.emit_lit (d : Dev) (e : Ev) : (d.emit e).lit = d.lit := by obtain ⟨t, r, h⟩ := d.emit_frame e; rw [h]
@[simp] theorem Dev.emit_held (d : Dev) (e : Ev) : (d.emit e).held = d.held := by obtain ⟨t, r, h⟩ := d.emit_frame e; rw [h]
@[simp] theorem Dev.emit_streams (d : Dev) (e : Ev) : (d.emit e).streams = d.streams := by obtain ⟨t, r, h⟩ := d.emit_frame e; rw [h]
@[simp] theorem Dev.emit_batchers (d : Dev) (e : Ev) : (d.emit e).batchers = d.batchers := by obtain ⟨t, r, h⟩ := d.emit_frame e; rw [h]
@[simp] theorem Dev.emit_pairOut (d : Dev) (e : Ev) : (d.emit e).pairOut = d.pairOut := by obtain ⟨t, r, h⟩ := d.emit_frame e; rw [h]
@[simp] theorem Dev.emit_scDone (d : Dev) (e : Ev) : (d.emit e).scDone = d.scDone := by obtain ⟨t, r, h⟩ := d.emit_frame e; rw [h]
@[simp] theorem Dev.emit_jobs (d : Dev) (e : Ev) : (d.emit e).jobs = d.jobs := by obtain ⟨t, r, h⟩ := d.emit_frame e; rw [h]
@[simp] theorem Dev.emit_plans (d : Dev) (e : Ev) : (d.emit e).plans = d.plans := by obtain ⟨t, r, h⟩ := d.emit_frame e; rw [h]
@[simp] theorem Dev.emit_images (d : Dev) (e : Ev) : (d.emit e).images = d.images := by obtain ⟨t, r, h⟩ := d.emit_frame e; rw [h]
@[simp] theorem Dev.emit_epoch (d : Dev) (e : Ev) : (d.emit e).epoch = d.epoch := by obtain ⟨t, r, h⟩ := d.emit_frame e; rw [h]
@[simp] theorem Dev.emit_belowAdmit (d : Dev) (e : Ev) : (d.emit e).belowAdmit = d.belowAdmit := by obtain ⟨t, r, h⟩ := d.emit_frame e; rw [h]
@[simp] theorem Dev.emit_poolTurn (d : Dev) (e : Ev) : (d.emit e).poolTurn = d.poolTurn := by obtain ⟨t, r, h⟩ := d.emit_frame e; rw [h]
@[simp] theorem Dev.emit_shadows (d : Dev) (e : Ev) : (d.emit e).shadows = d.shadows := by obtain ⟨t, r, h⟩ := d.emit_frame e; rw [h]
@[simp] theorem Dev.emit_answer (d : Dev) (e : Ev) : (d.emit e).answer = d.answer := by obtain ⟨t, r, h⟩ := d.emit_frame e; rw [h]
@[simp] theorem Dev.emit_fresh (d : Dev) (e : Ev) : (d.emit e).fresh = d.fresh := by obtain ⟨t, r, h⟩ := d.emit_frame e; rw [h]
@[simp] theorem Dev.core_emit_at (d : Dev) (e : Ev) (k : Nat) : (d.emit e).core k = d.core k := by obtain ⟨t, r, h⟩ := d.emit_frame e; rw [h]; rfl
@[simp] theorem Dev.stage_emit_at (d : Dev) (e : Ev) (k : Nat) : (d.emit e).stage k = d.stage k := by obtain ⟨t, r, h⟩ := d.emit_frame e; rw [h]; rfl
@[simp] theorem Dev.lu_emit_at (d : Dev) (e : Ev) (k : Nat) : (d.emit e).lu k = d.lu k := by obtain ⟨t, r, h⟩ := d.emit_frame e; rw [h]; rfl
@[simp] theorem Dev.stream_emit_at (d : Dev) (e : Ev) (k : Nat) : (d.emit e).stream k = d.stream k := by obtain ⟨t, r, h⟩ := d.emit_frame e; rw [h]; rfl
@[simp] theorem Dev.job_emit_at (d : Dev) (e : Ev) (k : Nat) : (d.emit e).job k = d.job k := by obtain ⟨t, r, h⟩ := d.emit_frame e; rw [h]; rfl
@[simp] theorem Dev.bat_emit_at (d : Dev) (e : Ev) (k : Nat) : (d.emit e).bat k = d.bat k := by obtain ⟨t, r, h⟩ := d.emit_frame e; rw [h]; rfl
@[simp] theorem Dev.plan_emit_at (d : Dev) (e : Ev) (k : Nat) : (d.emit e).plan k = d.plan k := by obtain ⟨t, r, h⟩ := d.emit_frame e; rw [h]; rfl
@[simp] theorem Dev.pane_emit_at (d : Dev) (e : Ev) (k : Nat) : (d.emit e).pane k = d.pane k := by obtain ⟨t, r, h⟩ := d.emit_frame e; rw [h]; rfl

/-! What `bump` leaves alone. -/

@[simp] theorem Dev.bump_tick (d : Dev) (o n : Nat) (e : Ev) : (d.bump o n e).tick = d.tick := by obtain ⟨t, r, h⟩ := d.bump_frame o n e; rw [h]
@[simp] theorem Dev.bump_tickBase (d : Dev) (o n : Nat) (e : Ev) : (d.bump o n e).tickBase = d.tickBase := by obtain ⟨t, r, h⟩ := d.bump_frame o n e; rw [h]
@[simp] theorem Dev.bump_sideCyc (d : Dev) (o n : Nat) (e : Ev) : (d.bump o n e).sideCyc = d.sideCyc := by obtain ⟨t, r, h⟩ := d.bump_frame o n e; rw [h]
@[simp] theorem Dev.bump_cores (d : Dev) (o n : Nat) (e : Ev) : (d.bump o n e).cores = d.cores := by obtain ⟨t, r, h⟩ := d.bump_frame o n e; rw [h]
@[simp] theorem Dev.bump_stages (d : Dev) (o n : Nat) (e : Ev) : (d.bump o n e).stages = d.stages := by obtain ⟨t, r, h⟩ := d.bump_frame o n e; rw [h]
@[simp] theorem Dev.bump_lus (d : Dev) (o n : Nat) (e : Ev) : (d.bump o n e).lus = d.lus := by obtain ⟨t, r, h⟩ := d.bump_frame o n e; rw [h]
@[simp] theorem Dev.bump_hbm (d : Dev) (o n : Nat) (e : Ev) : (d.bump o n e).hbm = d.hbm := by obtain ⟨t, r, h⟩ := d.bump_frame o n e; rw [h]
@[simp] theorem Dev.bump_hbmUe (d : Dev) (o n : Nat) (e : Ev) : (d.bump o n e).hbmUe = d.hbmUe := by obtain ⟨t, r, h⟩ := d.bump_frame o n e; rw [h]
@[simp] theorem Dev.bump_hbmCe (d : Dev) (o n : Nat) (e : Ev) : (d.bump o n e).hbmCe = d.hbmCe := by obtain ⟨t, r, h⟩ := d.bump_frame o n e; rw [h]
@[simp] theorem Dev.bump_repairPend (d : Dev) (o n : Nat) (e : Ev) : (d.bump o n e).repairPend = d.repairPend := by obtain ⟨t, r, h⟩ := d.bump_frame o n e; rw [h]
@[simp] theorem Dev.bump_repair (d : Dev) (o n : Nat) (e : Ev) : (d.bump o n e).repair = d.repair := by obtain ⟨t, r, h⟩ := d.bump_frame o n e; rw [h]
@[simp] theorem Dev.bump_repairAt (d : Dev) (o n : Nat) (e : Ev) : (d.bump o n e).repairAt = d.repairAt := by obtain ⟨t, r, h⟩ := d.bump_frame o n e; rw [h]
@[simp] theorem Dev.bump_pci (d : Dev) (o n : Nat) (e : Ev) : (d.bump o n e).pci = d.pci := by obtain ⟨t, r, h⟩ := d.bump_frame o n e; rw [h]
@[simp] theorem Dev.bump_fenced (d : Dev) (o n : Nat) (e : Ev) : (d.bump o n e).fenced = d.fenced := by obtain ⟨t, r, h⟩ := d.bump_frame o n e; rw [h]
@[simp] theorem Dev.bump_zeroTo (d : Dev) (o n : Nat) (e : Ev) : (d.bump o n e).zeroTo = d.zeroTo := by obtain ⟨t, r, h⟩ := d.bump_frame o n e; rw [h]
@[simp] theorem Dev.bump_host (d : Dev) (o n : Nat) (e : Ev) : (d.bump o n e).host = d.host := by obtain ⟨t, r, h⟩ := d.bump_frame o n e; rw [h]
@[simp] theorem Dev.bump_bmeOff (d : Dev) (o n : Nat) (e : Ev) : (d.bump o n e).bmeOff = d.bmeOff := by obtain ⟨t, r, h⟩ := d.bump_frame o n e; rw [h]
@[simp] theorem Dev.bump_msixOff (d : Dev) (o n : Nat) (e : Ev) : (d.bump o n e).msixOff = d.msixOff := by obtain ⟨t, r, h⟩ := d.bump_frame o n e; rw [h]
@[simp] theorem Dev.bump_cqWait (d : Dev) (o n : Nat) (e : Ev) : (d.bump o n e).cqWait = d.cqWait := by obtain ⟨t, r, h⟩ := d.bump_frame o n e; rw [h]
@[simp] theorem Dev.bump_rrLost (d : Dev) (o n : Nat) (e : Ev) : (d.bump o n e).rrLost = d.rrLost := by obtain ⟨t, r, h⟩ := d.bump_frame o n e; rw [h]
@[simp] theorem Dev.bump_longs (d : Dev) (o n : Nat) (e : Ev) : (d.bump o n e).longs = d.longs := by obtain ⟨t, r, h⟩ := d.bump_frame o n e; rw [h]
@[simp] theorem Dev.bump_tokens (d : Dev) (o n : Nat) (e : Ev) : (d.bump o n e).tokens = d.tokens := by obtain ⟨t, r, h⟩ := d.bump_frame o n e; rw [h]
@[simp] theorem Dev.bump_turn (d : Dev) (o n : Nat) (e : Ev) : (d.bump o n e).turn = d.turn := by obtain ⟨t, r, h⟩ := d.bump_frame o n e; rw [h]
@[simp] theorem Dev.bump_aslots (d : Dev) (o n : Nat) (e : Ev) : (d.bump o n e).aslots = d.aslots := by obtain ⟨t, r, h⟩ := d.bump_frame o n e; rw [h]
@[simp] theorem Dev.bump_aunits (d : Dev) (o n : Nat) (e : Ev) : (d.bump o n e).aunits = d.aunits := by obtain ⟨t, r, h⟩ := d.bump_frame o n e; rw [h]
@[simp] theorem Dev.bump_cams (d : Dev) (o n : Nat) (e : Ev) : (d.bump o n e).cams = d.cams := by obtain ⟨t, r, h⟩ := d.bump_frame o n e; rw [h]
@[simp] theorem Dev.bump_engines (d : Dev) (o n : Nat) (e : Ev) : (d.bump o n e).engines = d.engines := by obtain ⟨t, r, h⟩ := d.bump_frame o n e; rw [h]
@[simp] theorem Dev.bump_served (d : Dev) (o n : Nat) (e : Ev) : (d.bump o n e).served = d.served := by obtain ⟨t, r, h⟩ := d.bump_frame o n e; rw [h]
@[simp] theorem Dev.bump_frames (d : Dev) (o n : Nat) (e : Ev) : (d.bump o n e).frames = d.frames := by obtain ⟨t, r, h⟩ := d.bump_frame o n e; rw [h]
@[simp] theorem Dev.bump_tensors (d : Dev) (o n : Nat) (e : Ev) : (d.bump o n e).tensors = d.tensors := by obtain ⟨t, r, h⟩ := d.bump_frame o n e; rw [h]
@[simp] theorem Dev.bump_mir (d : Dev) (o n : Nat) (e : Ev) : (d.bump o n e).mir = d.mir := by obtain ⟨t, r, h⟩ := d.bump_frame o n e; rw [h]
@[simp] theorem Dev.bump_sill (d : Dev) (o n : Nat) (e : Ev) : (d.bump o n e).sill = d.sill := by obtain ⟨t, r, h⟩ := d.bump_frame o n e; rw [h]
@[simp] theorem Dev.bump_gov (d : Dev) (o n : Nat) (e : Ev) : (d.bump o n e).gov = d.gov := by obtain ⟨t, r, h⟩ := d.bump_frame o n e; rw [h]
@[simp] theorem Dev.bump_hot (d : Dev) (o n : Nat) (e : Ev) : (d.bump o n e).hot = d.hot := by obtain ⟨t, r, h⟩ := d.bump_frame o n e; rw [h]
@[simp] theorem Dev.bump_warned (d : Dev) (o n : Nat) (e : Ev) : (d.bump o n e).warned = d.warned := by obtain ⟨t, r, h⟩ := d.bump_frame o n e; rw [h]
@[simp] theorem Dev.bump_railLow (d : Dev) (o n : Nat) (e : Ev) : (d.bump o n e).railLow = d.railLow := by obtain ⟨t, r, h⟩ := d.bump_frame o n e; rw [h]
@[simp] theorem Dev.bump_chans (d : Dev) (o n : Nat) (e : Ev) : (d.bump o n e).chans = d.chans := by obtain ⟨t, r, h⟩ := d.bump_frame o n e; rw [h]
@[simp] theorem Dev.bump_panes (d : Dev) (o n : Nat) (e : Ev) : (d.bump o n e).panes = d.panes := by obtain ⟨t, r, h⟩ := d.bump_frame o n e; rw [h]
@[simp] theorem Dev.bump_weighQ (d : Dev) (o n : Nat) (e : Ev) : (d.bump o n e).weighQ = d.weighQ := by obtain ⟨t, r, h⟩ := d.bump_frame o n e; rw [h]
@[simp] theorem Dev.bump_weighBind (d : Dev) (o n : Nat) (e : Ev) : (d.bump o n e).weighBind = d.weighBind := by obtain ⟨t, r, h⟩ := d.bump_frame o n e; rw [h]
@[simp] theorem Dev.bump_boot (d : Dev) (o n : Nat) (e : Ev) : (d.bump o n e).boot = d.boot := by obtain ⟨t, r, h⟩ := d.bump_frame o n e; rw [h]
@[simp] theorem Dev.bump_flash (d : Dev) (o n : Nat) (e : Ev) : (d.bump o n e).flash = d.flash := by obtain ⟨t, r, h⟩ := d.bump_frame o n e; rw [h]
@[simp] theorem Dev.bump_secOp (d : Dev) (o n : Nat) (e : Ev) : (d.bump o n e).secOp = d.secOp := by obtain ⟨t, r, h⟩ := d.bump_frame o n e; rw [h]
@[simp] theorem Dev.bump_alerts (d : Dev) (o n : Nat) (e : Ev) : (d.bump o n e).alerts = d.alerts := by obtain ⟨t, r, h⟩ := d.bump_frame o n e; rw [h]
@[simp] theorem Dev.bump_aer (d : Dev) (o n : Nat) (e : Ev) : (d.bump o n e).aer = d.aer := by obtain ⟨t, r, h⟩ := d.bump_frame o n e; rw [h]
@[simp] theorem Dev.bump_lit (d : Dev) (o n : Nat) (e : Ev) : (d.bump o n e).lit = d.lit := by obtain ⟨t, r, h⟩ := d.bump_frame o n e; rw [h]
@[simp] theorem Dev.bump_held (d : Dev) (o n : Nat) (e : Ev) : (d.bump o n e).held = d.held := by obtain ⟨t, r, h⟩ := d.bump_frame o n e; rw [h]
@[simp] theorem Dev.bump_streams (d : Dev) (o n : Nat) (e : Ev) : (d.bump o n e).streams = d.streams := by obtain ⟨t, r, h⟩ := d.bump_frame o n e; rw [h]
@[simp] theorem Dev.bump_batchers (d : Dev) (o n : Nat) (e : Ev) : (d.bump o n e).batchers = d.batchers := by obtain ⟨t, r, h⟩ := d.bump_frame o n e; rw [h]
@[simp] theorem Dev.bump_pairOut (d : Dev) (o n : Nat) (e : Ev) : (d.bump o n e).pairOut = d.pairOut := by obtain ⟨t, r, h⟩ := d.bump_frame o n e; rw [h]
@[simp] theorem Dev.bump_scDone (d : Dev) (o n : Nat) (e : Ev) : (d.bump o n e).scDone = d.scDone := by obtain ⟨t, r, h⟩ := d.bump_frame o n e; rw [h]
@[simp] theorem Dev.bump_jobs (d : Dev) (o n : Nat) (e : Ev) : (d.bump o n e).jobs = d.jobs := by obtain ⟨t, r, h⟩ := d.bump_frame o n e; rw [h]
@[simp] theorem Dev.bump_plans (d : Dev) (o n : Nat) (e : Ev) : (d.bump o n e).plans = d.plans := by obtain ⟨t, r, h⟩ := d.bump_frame o n e; rw [h]
@[simp] theorem Dev.bump_images (d : Dev) (o n : Nat) (e : Ev) : (d.bump o n e).images = d.images := by obtain ⟨t, r, h⟩ := d.bump_frame o n e; rw [h]
@[simp] theorem Dev.bump_epoch (d : Dev) (o n : Nat) (e : Ev) : (d.bump o n e).epoch = d.epoch := by obtain ⟨t, r, h⟩ := d.bump_frame o n e; rw [h]
@[simp] theorem Dev.bump_belowAdmit (d : Dev) (o n : Nat) (e : Ev) : (d.bump o n e).belowAdmit = d.belowAdmit := by obtain ⟨t, r, h⟩ := d.bump_frame o n e; rw [h]
@[simp] theorem Dev.bump_poolTurn (d : Dev) (o n : Nat) (e : Ev) : (d.bump o n e).poolTurn = d.poolTurn := by obtain ⟨t, r, h⟩ := d.bump_frame o n e; rw [h]
@[simp] theorem Dev.bump_shadows (d : Dev) (o n : Nat) (e : Ev) : (d.bump o n e).shadows = d.shadows := by obtain ⟨t, r, h⟩ := d.bump_frame o n e; rw [h]
@[simp] theorem Dev.bump_answer (d : Dev) (o n : Nat) (e : Ev) : (d.bump o n e).answer = d.answer := by obtain ⟨t, r, h⟩ := d.bump_frame o n e; rw [h]
@[simp] theorem Dev.bump_fresh (d : Dev) (o n : Nat) (e : Ev) : (d.bump o n e).fresh = d.fresh := by obtain ⟨t, r, h⟩ := d.bump_frame o n e; rw [h]
@[simp] theorem Dev.core_bump_at (d : Dev) (o n : Nat) (e : Ev) (k : Nat) : (d.bump o n e).core k = d.core k := by obtain ⟨t, r, h⟩ := d.bump_frame o n e; rw [h]; rfl
@[simp] theorem Dev.stage_bump_at (d : Dev) (o n : Nat) (e : Ev) (k : Nat) : (d.bump o n e).stage k = d.stage k := by obtain ⟨t, r, h⟩ := d.bump_frame o n e; rw [h]; rfl
@[simp] theorem Dev.lu_bump_at (d : Dev) (o n : Nat) (e : Ev) (k : Nat) : (d.bump o n e).lu k = d.lu k := by obtain ⟨t, r, h⟩ := d.bump_frame o n e; rw [h]; rfl
@[simp] theorem Dev.stream_bump_at (d : Dev) (o n : Nat) (e : Ev) (k : Nat) : (d.bump o n e).stream k = d.stream k := by obtain ⟨t, r, h⟩ := d.bump_frame o n e; rw [h]; rfl
@[simp] theorem Dev.job_bump_at (d : Dev) (o n : Nat) (e : Ev) (k : Nat) : (d.bump o n e).job k = d.job k := by obtain ⟨t, r, h⟩ := d.bump_frame o n e; rw [h]; rfl
@[simp] theorem Dev.bat_bump_at (d : Dev) (o n : Nat) (e : Ev) (k : Nat) : (d.bump o n e).bat k = d.bat k := by obtain ⟨t, r, h⟩ := d.bump_frame o n e; rw [h]; rfl
@[simp] theorem Dev.plan_bump_at (d : Dev) (o n : Nat) (e : Ev) (k : Nat) : (d.bump o n e).plan k = d.plan k := by obtain ⟨t, r, h⟩ := d.bump_frame o n e; rw [h]; rfl
@[simp] theorem Dev.pane_bump_at (d : Dev) (o n : Nat) (e : Ev) (k : Nat) : (d.bump o n e).pane k = d.pane k := by obtain ⟨t, r, h⟩ := d.bump_frame o n e; rw [h]; rfl

end Sys2Proof.Machine
end

