-- ==== Sys2Proof/Laws/Memory.lean ====
section
/-! SUPPORT. The memory operations of the device keep the canonical form of HBM, and a failing job leaves HBM alone. -/

namespace Sys2Proof.Machine

/-- Dropping entries keeps the order and the form of a table. -/
theorem Tab.wfFrom_filter {α : Type} [DecidableEq α] (x : α) (p : Nat × α → Bool) (t : Tab α) (n : Nat) (h : Tab.wfFrom x n t = true) :
    Tab.wfFrom x n (t.filter p) = true := by
  induction t generalizing n with
  | nil => rfl
  | cons e t ih =>
    obtain ⟨j, v⟩ := e
    simp only [Tab.wfFrom, Bool.and_eq_true, decide_eq_true_eq] at h
    obtain ⟨⟨hn, hv⟩, ht⟩ := h
    by_cases hp : p (j, v) = true
    · rw [List.filter_cons_of_pos hp]
      simp [Tab.wfFrom, hn, hv, ih _ ht]
    · rw [List.filter_cons_of_neg hp]
      exact Tab.wfFrom_mono x _ (by omega) (ih _ ht)

/-- A bundle given up leaves HBM alone. -/
theorem Dev.abortStage_hbm (d : Dev) (k : Nat) : (d.abortStage k).hbm = d.hbm := by
  unfold Dev.abortStage
  cases d.stage k <;> rfl

/-- A core stopped with its job leaves HBM alone. -/
theorem Dev.stopWithJob_hbm (d : Dev) (k : Nat) : (d.stopWithJob k).hbm = d.hbm := by
  unfold Dev.stopWithJob Dev.coreRecord
  rw [Dev.emit_hbm]
  exact d.abortStage_hbm k

/-- A completed watch leaves HBM alone. -/
theorem Dev.completeWatch_hbm (d : Dev) (cl : Nat) (w : Watch) (st : Nat) (slot : Bool) : (d.completeWatch cl w st slot).hbm = d.hbm := by
  unfold Dev.completeWatch
  cases w.batch with
  | some b => rfl
  | none =>
    simp only
    split
    · rw [Dev.emit_hbm]
    · rfl

/-- Completed watches leave HBM alone. -/
theorem Dev.completeWhere_hbm (d : Dev) (cl : Nat) (p : Watch → Bool) (st : Nat) : (d.completeWhere cl p st).hbm = d.hbm :=
  (Dev.each_keeps Dev.hbm _ _ (fun d w => d.completeWatch_hbm cl w st true) _).trans rfl

/-- The Latch units' release of a job leaves HBM alone. -/
theorem Dev.latchRelease_hbm (d : Dev) (j : Nat) (st : Option Nat) : (d.latchRelease j st).hbm = d.hbm := by
  refine Dev.each_keeps Dev.hbm _ _ (fun d cl => ?_) d
  cases st with
  | none => rfl
  | some x => exact (Dev.completeWhere_hbm _ cl _ x).trans rfl

/-- A preemption's end leaves HBM alone. -/
theorem Dev.endPreempted_hbm (d : Dev) (j : Nat) : (d.endPreempted j).hbm = d.hbm := by
  unfold Dev.endPreempted
  simp only
  split <;> rfl

/-- A failing job leaves HBM alone. -/
theorem Dev.failJob_hbm (d : Dev) (j : Nat) : (d.failJob j).hbm = d.hbm := by
  unfold Dev.failJob
  simp only
  split
  · rfl
  · rw [Dev.latchRelease_hbm, Dev.each_keeps Dev.hbm _ _ Dev.stopWithJob_hbm]
    exact d.endPreempted_hbm j

/-- The failing job of a core leaves HBM alone. -/
theorem Dev.failCoreJob_hbm (d : Dev) (k : Nat) : (d.failCoreJob k).hbm = d.hbm := by
  unfold Dev.failCoreJob
  cases (d.core k).jobOf with
  | none => rfl
  | some j => exact d.failJob_hbm j

/-- One granule's write keeps the canonical form. -/
theorem Dev.hbmGran_wf (src : Nat) (core : Option Nat) (d : Dev) (p : Nat × List Byte) (h : d.hbm.wf = true) : (Dev.hbmGran src core d p).hbm.wf = true := by
  have hc (s o n : Nat) (d : Dev) : (d.hbmCount s o n).hbm = d.hbm := Dev.bump_hbm _ _ _ _
  have hn (d : Dev) (g : Nat) : (d.hbmUeNote g).hbm = d.hbm := by
    simp only [Dev.hbmUeNote, Dev.setReg, hc]
  have hr (d : Dev) (a b c e f : Nat) : (d.hbmRecord a b c e f).hbm = d.hbm := by
    unfold Dev.hbmRecord
    exact Dev.emit_hbm _ _
  unfold Dev.hbmGran
  simp only
  generalize hd : (if (p.2.length == 32) = true then d else d.hbmCount (p.1 / hbmSize) Off.HBM_RMW 1) = d1
  have h1 : d1.hbm.wf = true := by
    rw [← hd]
    split
    · exact h
    · rw [hc]
      exact h
  split
  · exact h1
  split
  · cases core with
    | none =>
      simp only
      rw [hr, hn]
      exact h1
    | some k =>
      simp only
      rw [Dev.failCoreJob_hbm, hr, hn]
      exact h1
  · generalize he : (if (!(p.2.length == 32) && d1.hbmCe.contains (p.1 / 32)) = true then d1.hbmCount (p.1 / hbmSize) Off.HBM_CE 1 else d1) = d2
    have h2 : d2.hbm.wf = true := by
      rw [← he]
      split
      · rw [hc]
        exact h1
      · exact h1
    have h3 := Mem.wf_write p.2 d2.hbm p.1 h2
    split <;> exact h3

/-- A unit that comes to a controller in RET changes the Sill alone. -/
theorem Dev.hbmUse_frame (d : Dev) (a : Nat) : ∃ q, d.hbmUse a = { d with sill := q } := by
  unfold Dev.hbmUse
  split
  · exact d.useDomain_frame _
  · exact ⟨_, rfl⟩

/-- It leaves the stacks as they are. -/
@[simp] theorem Dev.hbmUse_hbm (d : Dev) (a : Nat) : (d.hbmUse a).hbm = d.hbm := by
  obtain ⟨q, h⟩ := d.hbmUse_frame a
  rw [h]

/-- A write to HBM keeps the canonical form. -/
theorem Dev.hbmWrite_wf (d : Dev) (src : Nat) (core : Option Nat) (a : Nat) (bs : List Byte) (h : d.hbm.wf = true) : (d.hbmWrite src core a bs).hbm.wf = true := by
  unfold Dev.hbmWrite
  generalize hd : d.hbmUse a = d1
  replace h : d1.hbm.wf = true := by rw [← hd, Dev.hbmUse_hbm]; exact h
  clear hd d
  rename' d1 => d
  generalize cut 32 bs.length a bs = l
  induction l generalizing d with
  | nil => exact h
  | cons p l ih => exact ih _ (Dev.hbmGran_wf src core d p h)

/-- Zeroing HBM keeps the canonical form. -/
theorem Dev.hbmZero_wf (d : Dev) (a n : Nat) (h : d.hbm.wf = true) : (d.hbmZero a n).hbm.wf = true := Tab.wfFrom_filter _ _ _ _ h

/-- Zeroing HBM: the bytes of the range read 0, the others as before. -/
theorem Tab.get_filter_keys {α : Type} (x : α) (p : Nat → Bool) (t : Tab α) (k : Nat) :
    Tab.get x (t.filter (fun e => p e.1)) k = if p k then Tab.get x t k else x := by
  induction t with
  | nil => simp [Tab.get]
  | cons e t ih =>
    obtain ⟨j, v⟩ := e
    by_cases hp : p j = true
    · rw [List.filter_cons_of_pos (by simpa using hp)]
      by_cases hj : j = k
      · subst hj
        simp [Tab.get, hp]
      · simp [Tab.get, hj, ih]
    · rw [List.filter_cons_of_neg (by simpa using hp), ih]
      by_cases hj : j = k
      · subst hj
        simp [hp]
      · simp [Tab.get, hj]

/-- What a byte of HBM reads after a range is zeroed. -/
theorem Dev.hbmZero_byte (d : Dev) (a n x : Nat) : (d.hbmZero a n).hbm.byte x = if a ≤ x ∧ x < a + n then 0 else d.hbm.byte x := by
  unfold Dev.hbmZero Mem.byte
  simp only
  refine (Tab.get_filter_keys (α := Byte) 0 (fun y => !(decide (a ≤ y) && decide (y < a + n))) d.hbm x).trans ?_
  by_cases h : a ≤ x ∧ x < a + n <;> simp [h]

end Sys2Proof.Machine
end

