-- ==== Sys2Proof/Laws/Slot.lean ====
section
/-! SUPPORT. What a bundle of one slot does: its command reaches the issue, and the bundle waits, stops its core, or issues (R38, R47, R72, R74). -/

namespace Sys2Proof.Machine

/-- Without an injected parity error the core reads itself. -/
theorem Core.takeParityInject_off (c : Core) (h : c.fld Off.DBG_CTRL Fl.DBG_CTRL_PAR_INJECT ≠ 1) : c.takeParityInject = c := by
  unfold Core.takeParityInject
  exact if_neg (fun g => h g.1)

/-- A command that is the whole bundle at its core's PC runs the bundle. -/
theorem Dev.slot_whole (d : Dev) (i : Instr) (c : Code) (w : Nat) (hc : slotCode i = some c) (hi : (d.core c.bun.core.val).issues = true)
    (hs : d.stage c.bun.core.val = []) (hp : (d.core c.bun.core.val).fld Off.DBG_CTRL Fl.DBG_CTRL_PAR_INJECT ≠ 1)
    (hf : (d.core c.bun.core.val).fetch = .bundle w) (hw : spells w 1 [i] = true) (hm : c.bun.more = false) :
    d.slot i = ((d.setStage c.bun.core.val []).setCore c.bun.core.val (d.core c.bun.core.val)).runBundle c.bun.core.val ([i].filterMap partOf) := by
  unfold Dev.slot
  rw [hc]
  simp only [Dev.slotAt, hi, hs, Core.takeParityInject_off _ hp, hf, List.nil_append, hw, hm, Bool.not_true, Bool.false_eq_true, if_false, if_true,
    Bool.false_and]

/-- A bundle of one slot whose registers are all ready ends as its slot's outcome says. -/
theorem Dev.runBundle_one (d : Dev) (k n : Nat) (op : SlotOp) (hr : (op.reads ++ op.dest.toList).any ((d.core k).pendingAt (d.cycles k)) = false) :
    d.runBundle k [(n, op)] = (match op.run d (d.core k) with
      | .wait w a => d.putCore k ((d.core k).waited d.tick w a true)
      | .fault f a => d.slotStop k (f, n, a)
      | .ok upd npc =>
        let e := (d.putCore k ({ upd (d.core k).newCycle with ready := (d.core k).noteReady (d.cycles k) [op] }.issued (d.core k).pc npc)).singleStep k (d.core k).pc
        match (e.core k).pptEntry, (e.core k).jobOf with
        | some _, some j => e.beginSave j false
        | _, _ => e) := by
  unfold Dev.runBundle
  simp only [List.any_cons, List.any_nil, hr, Bool.or_false, Bool.false_eq_true, if_false, List.map_cons, List.map_nil]
  cases h : op.run d (d.core k) with
  | wait w a =>
    by_cases hw : w = 2 <;> simp [firstWait, hw]
  | fault f a =>
    by_cases hf : f = cILLEGAL
    · simp [firstWait, bundleFault, hf]
    · cases hd : op.dest <;> simp [firstWait, bundleFault, twiceFault, writesTwice, hf, hd]
  | ok upd npc =>
    cases hd : op.dest <;> simp [firstWait, bundleFault, twiceFault, writesTwice, applyParts, hd] <;> rfl

end Sys2Proof.Machine
end

