-- ==== Sys2Proof/WellFormed.lean ====
section
/-! DEFINITION. The commands that the interfaces of the device can carry: the bounds on operands that their types do not state. The meanings are total, so a command outside these bounds still has an effect; no sender the specification describes makes one. -/

namespace Sys2Proof

/-- A register access of `2 ^ w` bytes names an aligned offset in the 128 MiB window of BAR0 (R5, R31). -/
def regOff (off : Nat) (w : Fin 3) : Bool := decide (off % 2 ^ w.val = 0) && decide (off < 2 ^ 27)

/-- The payload of a Maelqua frame: 240 bytes at most (R383). -/
def payload (bytes : List Byte) : Bool := decide (bytes.length ≤ 240)

/-- Whether a command is one that its interface can carry. -/
def Instr.wf : Instr → Bool
  | .registerWrite _ off _ w => regOff off w
  | .shadowLowRead _ off w => regOff off w
  | .rcFieldRead _ off w => regOff off w
  | .enableTakesEffect off => regOff off 2
  | .sideReset _ => true
  | .snop _ => true
  | .add _ _ _ _ => true
  | .sub _ _ _ _ => true
  | .and _ _ _ _ => true
  | .or _ _ _ _ => true
  | .xor _ _ _ _ => true
  | .sll _ _ _ _ => true
  | .srl _ _ _ _ => true
  | .sra _ _ _ _ => true
  | .slt _ _ _ _ => true
  | .sltu _ _ _ _ => true
  | .min _ _ _ _ => true
  | .max _ _ _ _ => true
  | .mul _ _ _ _ => true
  | .mulh _ _ _ _ => true
  | .addi _ _ _ _ => true
  | .andi _ _ _ _ => true
  | .ori _ _ _ _ => true
  | .xori _ _ _ _ => true
  | .slli _ _ _ _ => true
  | .srli _ _ _ _ => true
  | .srai _ _ _ _ => true
  | .slti _ _ _ _ => true
  | .lui _ _ _ => true
  | .ldw _ _ _ _ => true
  | .stw _ _ _ _ => true
  | .rdcr _ _ _ => true
  | .rdcyc _ _ => true
  | .rdcych _ _ => true
  | .beq _ _ _ _ => true
  | .bne _ _ _ _ => true
  | .blt _ _ _ _ => true
  | .bge _ _ _ _ => true
  | .bltu _ _ _ _ => true
  | .bgeu _ _ _ _ => true
  | .jmp _ _ => true
  | .recv _ _ _ => true
  | .racq _ _ _ _ _ => true
  | .rrel _ _ _ => true
  | .qwait _ _ => true
  | .ppt _ _ => true
  | .trap _ _ => true
  | .endBatch _ => true
  | .vnop _ => true
  | .vadd _ _ _ _ _ => true
  | .vsub _ _ _ _ _ => true
  | .vadds _ _ _ _ _ => true
  | .vsubs _ _ _ _ _ => true
  | .vmul _ _ _ _ _ => true
  | .vmulh _ _ _ _ _ => true
  | .vmac _ _ _ _ _ _ => true
  | .vmacs _ _ _ _ _ _ => true
  | .vmin _ _ _ _ _ => true
  | .vmax _ _ _ _ _ => true
  | .vand _ _ _ _ _ => true
  | .vor _ _ _ _ _ => true
  | .vxor _ _ _ _ _ => true
  | .vsll _ _ _ _ _ => true
  | .vsrl _ _ _ _ _ => true
  | .vsra _ _ _ _ _ => true
  | .vsrar _ _ _ _ _ => true
  | .vcmpeq _ _ _ _ _ => true
  | .vcmpne _ _ _ _ _ => true
  | .vcmplt _ _ _ _ _ => true
  | .vcmple _ _ _ _ _ => true
  | .vcmpgt _ _ _ _ _ => true
  | .vcmpge _ _ _ _ _ => true
  | .vclamp _ _ _ _ _ _ => true
  | .vsel _ _ _ _ _ _ => true
  | .vmov _ _ _ _ => true
  | .vneg _ _ _ _ => true
  | .vabs _ _ _ _ => true
  | .vnot _ _ _ _ => true
  | .vslli _ _ _ _ _ => true
  | .vsrli _ _ _ _ _ => true
  | .vsrai _ _ _ _ _ => true
  | .vsrari _ _ _ _ _ => true
  | .vaddi _ _ _ _ _ => true
  | .vperm _ _ _ _ _ => true
  | .vpermi _ _ _ _ _ _ => true
  | .viota _ _ _ => true
  | .vmtov _ _ _ _ => true
  | .mand _ _ _ _ _ => true
  | .mor _ _ _ _ _ => true
  | .mxor _ _ _ _ _ => true
  | .mandn _ _ _ _ _ => true
  | .mnot _ _ _ _ => true
  | .mset _ _ _ _ => true
  | .mlow _ _ _ _ => true
  | .vrrow _ _ _ _ _ => true
  | .vrcol _ _ _ _ _ => true
  | .vrall _ _ _ _ _ => true
  | .vlut _ _ _ _ _ _ => true
  | .vlutst _ _ _ _ _ => true
  | .req _ _ _ _ _ _ _ _ => true
  | .vld _ _ _ _ _ _ _ _ => true
  | .vst _ _ _ _ _ _ _ => true
  | .vldx _ _ _ _ _ _ _ => true
  | .vstx _ _ _ _ _ _ => true
  | .accLd _ _ _ _ _ => true
  | .vsumAny _ _ _ _ => true
  | .vsumAll _ _ _ _ => true
  | .vsumCount _ _ _ _ => true
  | .vsumFirst _ _ _ _ => true
  | .vsumMax _ _ _ _ => true
  | .vsumMin _ _ _ _ => true
  | .vsumLane0 _ _ _ _ => true
  | .xnop _ => true
  | .mm _ _ _ _ _ _ _ _ => true
  | .mmz _ _ _ _ _ _ _ _ => true
  | .mmew _ _ _ _ _ _ _ _ => true
  | .dma _ _ => true
  | .ovl _ _ _ _ _ => true
  | .ladd _ _ _ _ _ => true
  | .lsub _ _ _ _ _ => true
  | .lset _ _ _ _ _ => true
  | .lcas _ _ _ _ _ => true
  | .lseqadv _ _ _ _ _ => true
  | .lread _ _ _ _ _ => true
  | .lwatch _ _ _ _ _ => true
  | .send _ _ _ => true
  | .stallTimeout _ => true
  | .parityRefetch _ _ host => decide (host.length = 0 ∨ host.length = 16)
  | .overlaySegmentLanded _ host => decide (host.length = 0 ∨ host.length = 4096)
  | .messageDeliver _ => true
  | .latchReply _ => true
  | .corePark _ => true
  | .coreStart _ => true
  | .coreHaltReq _ => true
  | .coreReset _ => true
  | .coreResetDone _ => true
  | .mbxIn3Write _ _ => true
  | .csCntClr _ => true
  | .matrixCommandAccept _ => true
  | .matrixCommandDone _ _ => true
  | .rampStepEnd _ cycs => decide (cycs.length ≤ 8)
  | .muCntClr _ => true
  | .veCntClr _ => true
  | .statClr _ _ => true
  | .sramCeWriteback _ _ => true
  | .gatherLineAgeFlush _ => true
  | .spCntClr _ => true
  | .cwReturnWrite _ _ _ _ => true
  | .creditGrant _ _ => true
  | .creditTimeout _ _ _ => true
  | .dmaTransferStart _ => true
  | .dmaUnitIssue _ _ => true
  | .dmaUnitComplete _ _ _ _ => true
  | .chainUnitForward _ _ _ _ _ => true
  | .dmaTransferComplete _ _ => true
  | .dmaCntClr _ => true
  | .hbmCeWriteback _ => true
  | .patrolScrubUnit _ => true
  | .refresh _ _ _ _ => true
  | .rfm _ => true
  | .caParityAlarm _ _ => true
  | .hbmCntClr _ => true
  | .meshFlitError _ _ _ _ => true
  | .bridgeFlitError _ _ _ => true
  | .meshLinkSelWrite _ _ => true
  | .meshCntClr _ => true
  | .latchOpApply _ _ => true
  | .watchTimeout _ _ => true
  | .notificationDeliver _ _ => true
  | .lhAdd _ => true
  | .lhSub _ => true
  | .lhSet _ _ => true
  | .lhCas _ => true
  | .lhSeqAdv _ => true
  | .lhRead _ => true
  | .lhOwner _ _ _ => true
  | .luCntClr _ => true
  | .stAdmit _ _ => true
  | .modify _ => true
  | .release _ => true
  | .stRead _ => true
  | .inputWriteAck _ _ => true
  | .sideControllerTick _ _ _ _ => true
  | .dispatchMessage _ => true
  | .batchComplete _ _ => true
  | .scCntClr _ => true
  | .jobCreate _ => true
  | .jobStart _ => true
  | .jobReset _ => true
  | .jobDestroy _ => true
  | .jobRead _ => true
  | .jobPlacement _ _ => true
  | .preemptRequest _ _ => true
  | .forcedPreempt _ => true
  | .saveComplete _ _ => true
  | .restoreStart _ => true
  | .restoreComplete _ _ => true
  | .beSliceExpiry _ => true
  | .accClr _ => true
  | .epochStageClock _ => true
  | .epochStagePinRate _ => true
  | .epochStageWeightCopy => true
  | .unitBoundarySwitch _ => true
  | .epochAck _ => true
  | .epochTimeout _ => true
  | .epochStuck _ => true
  | .apStart _ => true
  | .apStop _ => true
  | .vpStart _ => true
  | .vpStop _ => true
  | .apgStart _ => true
  | .apgStop _ => true
  | .apFmtWrite _ _ => true
  | .portFrame _ _ => true
  | .nonpcmEnd _ _ _ => true
  | .fadeComplete _ _ _ => true
  | .rampComplete _ _ _ => true
  | .loopLocked _ => true
  | .loopUpdate _ => true
  | .awclkGlitch => true
  | .awclkStop => true
  | .awclkRestored => true
  | .awclkRate => true
  | .awclkStable => true
  | .apllUnlock => true
  | .apCntClr _ => true
  | .apgCntClr => true
  | .cameraRegister _ => true
  | .pictureDecodeStart _ _ => true
  | .pictureDecodeDone _ _ => true
  | .scalerOutputDone => true
  | .scalerSlotDrained _ => true
  | .outWaitExpiry _ => true
  | .finCntClr => true
  | .lightArrive _ => true
  | .casementLit _ _ => true
  | .paneRxLock _ => true
  | .receiverLockLoss _ => true
  | .laserLoss _ => true
  | .helloSend _ => true
  | .helloTimeout _ => true
  | .ringTuneStep _ _ _ _ => true
  | .frameSend _ => true
  | .frameCrcFail _ _ _ => true
  | .audioFrameRx _ _ _ _ _ xs => decide (1 ≤ xs.length ∧ xs.length ≤ 64)
  | .videoFrameRx _ _ _ bytes => payload bytes
  | .weighFrameRx _ _ _ bytes => payload bytes
  | .idleFrameRx _ _ _ _ => true
  | .nakRepeat _ _ _ => true
  | .replayTimeout _ _ _ => true
  | .creditRefresh _ _ _ => true
  | .linkCreditTimeout _ _ _ => true
  | .hello _ _ _ _ _ _ _ => true
  | .helloAck _ _ _ => true
  | .paneQuery _ => true
  | .peerStatus _ _ _ _ _ => true
  | .peerQueryTimeout _ => true
  | .paneCntClr _ => true
  | .snapshotComplete => true
  | .ctxData _ _ _ _ _ _ bytes => decide (bytes.length ≤ 224)
  | .ctxEnd _ _ _ _ _ => true
  | .ack _ _ items => decide (1 ≤ items.length ∧ items.length ≤ 39)
  | .pairWord _ _ items => decide (1 ≤ items.length ∧ items.length ≤ 29)
  | .heartbeatSend => true
  | .heartbeat _ _ _ _ _ => true
  | .partnerLost => true
  | .restoreReq _ _ _ => true
  | .restoreTimeout _ => true
  | .relinquish _ _ ids => decide (1 ≤ ids.length ∧ ids.length ≤ 117)
  | .adoptedList _ _ ids => decide (1 ≤ ids.length ∧ ids.length ≤ 117)
  | .adopt _ => true
  | .adoptAll => true
  | .mirrorOn _ => true
  | .autoAdoptDecision => true
  | .autoAdoptRetry => true
  | .mirCntClr => true
  | .mbDoorbell _ _ => true
  | .boltRequestTake _ => true
  | .identify => true
  | .status => true
  | .scaleCfg _ _ _ _ _ => true
  | .calibrate _ => true
  | .keySet _ _ => true
  | .channelBind _ _ _ => true
  | .boltFwLoad _ _ => true
  | .zero => true
  | .tare _ => true
  | .clearTare => true
  | .weigh _ _ _ => true
  | .readWeight => true
  | .priceLoad _ rows _ => decide (rows.length ≤ 48)
  | .priceRead _ => true
  | .recordRead _ => true
  | .checkpointRead _ _ => true
  | .auditRead _ => true
  | .sealChange _ => true
  | .adcSample _ _ => true
  | .boltWeighFrame => true
  | .scaleOffline _ => true
  | .checkpointTimer => true
  | .checkpointSigned => true
  | .mspIdentifyLine => true
  | .mbEventRead _ => true
  | .watchdogReset => true
  | .boltPowerOn _ => true
  | .boltPowerDown => true
  | .sqDoorbell _ _ => true
  | .commandTake _ e _ => decide (e.length = 64)
  | .nop _ _ _ => true
  | .streamAdmit _ _ _ _ entry _ => decide (entry.length = 64)
  | .streamModify _ _ _ _ entry => decide (entry.length = 64)
  | .streamRelease _ _ _ _ => true
  | .streamRead _ _ _ _ _ => true
  | .planLoad _ _ _ _ _ _ _ => true
  | .planUnload _ _ _ _ => true
  | .adaptRound _ _ _ _ _ _ _ => true
  | .abort _ _ _ _ => true
  | .fwUpdate _ _ _ _ _ => true
  | .scrubSweep _ _ _ _ => true
  | .longCommandStep _ _ _ _ => true
  | .cqEntryWrite _ => true
  | .srDoorbell _ _ _ => true
  | .hostReadComplete _ _ _ => true
  | .hostCompletionTimeout _ => true
  | .bar2Read _ o n => decide (o % 4 = 0) && decide (1 ≤ n)
  | .bar2Write _ o bytes => decide (o % 4 = 0) && decide (bytes.length % 4 = 0)
  | .msixUnmask _ _ => true
  | .functionLevelReset _ => true
  | .identity => true
  | .deviceState => true
  | .tempMax => true
  | .powerIn => true
  | .powerLimit _ _ => true
  | .alertStatus _ _ => true
  | .alertResponse => true
  | .bootStart _ _ => true
  | .bootStepTimeout _ => true
  | .rrsLimit => true
  | .perstAssert => true
  | .devRestart => true
  | .bootRetry => true
  | .calRead _ _ => true
  | .calWrite _ _ => true
  | .attest => true
  | .certs => true
  | .attestDone => true
  | .shutterSwitchStart => true
  | .shutterReachOn _ => true
  | .shutterFault _ => true
  | .shutterIdleClose _ => true
  | .dozeEntry => true
  | .d3hotEntry => true
  | .d3hotExit => true
  | .vinSample _ => true
  | .govWindow _ => true
  | .pllUnlock _ => true
  | .railFault _ => true
  | .hbmRailFault _ => true
  | .optRailFault => true
  | .socRailFault => true
  | .railMonitorSample _ _ => true
  | .sensorSample _ _ => true
  | .apllBiasTrim => true
  | .pwrCntClr => true
  | .recordArrive _ => true
  | .logSlotRead _ _ _ => true
  | .repairListAdd _ => true
  | .hingeUe => true
  | .telSuspectReset _ => true
  | .streamResetDone _ => true
  | .telCntClr => true
  | .tapInstruction _ => true
  | .frameDiscarded _ _ _ => true
  | .unstable => true

end Sys2Proof
end

