-- ==== Sys2Proof/Tests/Slice0.lean ====
section
/-! SUPPORT. Tests of the model on small states: ill-formed commands that the checks refuse, worked examples of the specification, and for every statement with hypotheses
states and operands that meet them. -/

set_option Elab.async false

namespace Sys2Proof.Tests

open Sys2Proof Sys2Proof.Machine Sys2Proof.Claims

/-! ### Small states -/

/-- The state with the device as given. -/
def onDevice (d : Dev) : State := { State.reset with dev := d }

/-- The device after reset. -/
def dev0 : Dev := Dev.atReset

/-- A core that runs, with its instruction memory valid, mask 1 naming lane 0, s5 = 0x100, s6 in PM, s7 in AM. -/
def coreRun : Core :=
  { Core.atReset with
    state := .running
    pc := 7
    sregs := [(5, 0x100), (6, 0x800000), (7, 0x400000)]
    mregs := [(1, 1)]
    regs := [(Off.IMEM_VALID, 0xFFFF)] }

/-- The state whose core 3 is as given. -/
def withCore (c : Core) : State := onDevice (dev0.setCore 3 c)

/-- A bundle of core 3 with one slot. -/
def b3 : Bun := ⟨3, false⟩

/-- Core 3 runs. -/
def sRun : State := withCore coreRun

/-- The outcome is a next state, and that state satisfies the test. -/
def passes (o : Out) (p : State → Bool) : Bool :=
  match o with
  | .next t => p t
  | _ => false

/-- Register `o` of the core. -/
theorem isOn_all (c : Core) (h : c.reg Off.SP_GATE = 0x3F) (a : Nat) : c.isOn a = true := by
  unfold Core.isOn gateBit
  rw [h]
  split
  · rename_i i hi
    have hi6 : i < 6 := by
      revert hi
      unfold memOf
      repeat' split
      all_goals intro hi
      all_goals simp at hi
      all_goals omega
    clear hi
    revert hi6
    revert i
    decide
  · rfl

/-! ### The bundles of a core -/

/-- The core with the bundle of `i` alone at its PC. -/
def codeFor (c : Core) (i : Instr) : Core := { c with imem := c.imem.write (16 * c.pc) (natLE 16 (bundleOf i)) }

/-- The device `d` with core 3 as given, the bundle of `i` at its PC. -/
def holdingIn (d : Dev) (c : Core) (i : Instr) : State := onDevice (d.setCore 3 (codeFor c i))

/-- The state whose core 3 is as given, with the bundle of `i` at its PC. -/
def holding (c : Core) (i : Instr) : State := holdingIn dev0 c i

/-- Whether core 3 of the device can issue the bundle of `i`. -/
def startable (d : Dev) (i : Instr) : Bool :=
  let c := d.core 3
  decide (d.stage 3 = [] ∧ c.state = .running ∧ c.pptEntry = none ∧ c.ending = false ∧ c.fld Off.DBG_CTRL Fl.DBG_CTRL_PAR_INJECT ≠ 1
      ∧ c.fld Off.DBG_CTRL Fl.DBG_CTRL_SSTEP ≠ 1 ∧ c.out = [] ∧ c.fetch = .bundle (bundleOf i) ∧ spells (bundleOf i) 1 [i] = true)
    && (match opOf i with
      | some op => !(op.reads ++ op.dest.toList).any (c.pendingAt (d.cycles 3))
      | none => true)

theorem canIssue_of (d : Dev) (i : Instr) (h : startable d i = true) : CanIssue d 3 i := by
  unfold startable at h
  simp only [Bool.and_eq_true, decide_eq_true_eq] at h
  obtain ⟨⟨h1, h2, h3, h4, h5, h6, h7, h8, h9⟩, hr⟩ := h
  refine ⟨⟨h1, h2, h3, h4, h5, h6, h7⟩, ⟨_, h8, h9⟩, fun op ho => ?_⟩
  rw [ho] at hr
  simpa using hr

theorem readable_run : Readable coreRun 0x100 4 := ⟨by decide, by decide, by decide, isOn_all _ (by decide), rfl, rfl⟩

theorem test_premises_ScalarResult :
    (let i := Instr.addi b3 1 5 0xFFFF
     (scalarResult i).isSome = true ∧ CanIssue (holding coreRun i).dev 3 i)
      ∧ (let i := Instr.srai b3 0 5 31
         (scalarResult i).isSome = true ∧ CanIssue (holding coreRun i).dev 3 i) ∧ b3.more = false :=
  ⟨⟨rfl, canIssue_of _ _ (by decide +kernel)⟩, ⟨rfl, canIssue_of _ _ (by decide +kernel)⟩, rfl⟩

theorem test_premises_LaneResult :
    (let i := Instr.vadd b3 ⟨1, false⟩ 1 2 (.vec 3)
     (laneResult i).isSome = true ∧ CanIssue (holding coreRun i).dev 3 i)
      ∧ (let i := Instr.vpermi b3 ⟨1, true⟩ 1 2 4 0
         (laneResult i).isSome = true ∧ CanIssue (holding coreRun i).dev 3 i)
      ∧ (let i := Instr.vpermi b3 ⟨1, true⟩ 1 2 0 1
         unusedField i = some b3 ∧ CanIssue (holding coreRun i).dev 3 i)
      ∧ (let i := Instr.vclamp b3 ⟨1, true⟩ 1 2 (.scal 5) 1
         unusedField i = some b3 ∧ CanIssue (holding coreRun i).dev 3 i) :=
  ⟨⟨rfl, canIssue_of _ _ (by decide +kernel)⟩, ⟨rfl, canIssue_of _ _ (by decide +kernel)⟩, ⟨rfl, canIssue_of _ _ (by decide +kernel)⟩,
    ⟨rfl, canIssue_of _ _ (by decide +kernel)⟩⟩

theorem test_premises_SaturationAndMasks :
    (let i := Instr.vneg b3 ⟨0, false⟩ 1 2
     (exactResult i).isSome = true ∧ CanIssue (holding coreRun i).dev 3 i ∧ (((holding coreRun i).dev.core 3).reg Off.VE_SAT).toNat + 16 < 2 ^ 32)
      ∧ (let i := Instr.mset b3 ⟨0, false⟩ 1 5
         (maskResult i).isSome = true ∧ CanIssue (holding coreRun i).dev 3 i)
      ∧ (let i := Instr.mlow b3 ⟨0, false⟩ 1 16
         (16 : Fin 32).val ≤ 16 ∧ CanIssue (holding coreRun i).dev 3 i) :=
  ⟨⟨rfl, canIssue_of _ _ (by decide +kernel), by decide +kernel⟩, ⟨rfl, canIssue_of _ _ (by decide +kernel)⟩, ⟨by decide, canIssue_of _ _ (by decide +kernel)⟩⟩

theorem test_premises_ReductionsAndSummaries :
    (let i := Instr.vrall b3 0 1 2 2
     (∃ g, reduction i = some (b3, 0, 1, 2, 2, g)) ∧ CanIssue (holding coreRun i).dev 3 i ∧ (((holding coreRun i).dev.core 3).reg Off.VE_SAT).toNat + 16 < 2 ^ 32)
      ∧ (let i := Instr.vrcol b3 0 1 2 3
         (∃ g, reduction i = some (b3, 0, 1, 2, 3, g)) ∧ CanIssue (holding coreRun i).dev 3 i)
      ∧ (let i := Instr.vsumFirst b3 0 1 2
         (summary i).isSome = true ∧ CanIssue (holding coreRun i).dev 3 i) :=
  ⟨⟨⟨_, rfl⟩, canIssue_of _ _ (by decide +kernel), by decide +kernel⟩, ⟨⟨_, rfl⟩, canIssue_of _ _ (by decide +kernel)⟩, ⟨rfl, canIssue_of _ _ (by decide +kernel)⟩⟩

/-- The branch at bundle 7: taken within the memory, not taken, and taken past its first bundle. -/
theorem test_premises_Branches :
    (let i := Instr.beq b3 5 5 4088
     (∃ p, branch i = some (b3, p, 4088) ∧ p coreRun = true) ∧ CanIssue (holding coreRun i).dev 3 i)
      ∧ (let i := Instr.bne b3 5 5 4
         (∃ p, branch i = some (b3, p, 4) ∧ p coreRun = false) ∧ CanIssue (holding coreRun i).dev 3 i)
      ∧ (let i := Instr.jmp b3 (-8)
         (∃ p, branch i = some (b3, p, -8) ∧ p coreRun = true) ∧ CanIssue (holding coreRun i).dev 3 i) :=
  ⟨⟨⟨_, rfl, by decide⟩, canIssue_of _ _ (by decide +kernel)⟩, ⟨⟨_, rfl, by decide⟩, canIssue_of _ _ (by decide +kernel)⟩,
    ⟨⟨_, rfl, by decide⟩, canIssue_of _ _ (by decide +kernel)⟩⟩

theorem test_premises_ScalarMemory :
    let c := sRun.dev.core 3
    (let i := Instr.ldw b3 1 5 4
     let j := Instr.stw b3 1 5 4
     CanIssue (holding coreRun i).dev 3 i ∧ CanIssue (holding coreRun j).dev 3 j)
      ∧ (let i := Instr.ldw b3 1 0 0xFFFC
         let j := Instr.stw b3 1 5 2
         CanIssue (holding coreRun i).dev 3 i ∧ CanIssue (holding coreRun j).dev 3 j)
      ∧ (memOf (c.s 5 + sext 4).toNat ≠ 0 ∧ (c.s 5 + sext 4).toNat % 4 = 0 ∧ c.ueIn (c.s 5 + sext 4).toNat 4 = none ∧ c.ce = [] ∧ c.isOn (c.s 5 + sext 4).toNat = true
          ∧ c.gb.all (fun l => l.base != (c.s 5 + sext 4).toNat / 64 * 64) = true ∧ c.gb.length < 8)
      ∧ memOf (c.s 0 + sext 0xFFFC).toNat = 0 ∧ (memOf (c.s 5 + sext 2).toNat ≠ 0 ∧ (c.s 5 + sext 2).toNat % 4 ≠ 0) :=
  ⟨⟨canIssue_of _ _ (by decide +kernel), canIssue_of _ _ (by decide +kernel)⟩, ⟨canIssue_of _ _ (by decide +kernel), canIssue_of _ _ (by decide +kernel)⟩,
    by decide, by decide, by decide⟩

theorem test_premises_NopsAndCoreReads :
    (∀ i ∈ [Instr.snop b3, .vnop b3, .xnop b3, .rdcyc b3 1, .rdcr b3 1 0x2000, .rdcr b3 1 0x7FF, .rdcr b3 1 (BitVec.ofNat 16 (Off.CORE_PC / 4)),
        .rdcr b3 1 (BitVec.ofNat 16 (Off.STALL_LIMIT / 4))], CanIssue (holding coreRun i).dev 3 i)
      ∧ 0x8000 ≤ (0x2000 : BitVec 16).toNat * 4 ∧ regOf (.core 3) ((0x7FF : BitVec 16).toNat * 4) = none
      ∧ (BitVec.ofNat 16 (Off.CORE_PC / 4)).toNat * 4 = Off.CORE_PC ∧ (BitVec.ofNat 16 (Off.STALL_LIMIT / 4)).toNat * 4 = Off.STALL_LIMIT :=
  ⟨fun i h => canIssue_of _ _ ((List.all_eq_true.mp (by decide +kernel : [Instr.snop b3, .vnop b3, .xnop b3, .rdcyc b3 1, .rdcr b3 1 0x2000, .rdcr b3 1 0x7FF,
      .rdcr b3 1 (BitVec.ofNat 16 (Off.CORE_PC / 4)), .rdcr b3 1 (BitVec.ofNat 16 (Off.STALL_LIMIT / 4))].all (fun i => startable (holding coreRun i).dev i) = true)) i h),
    by decide, by decide, by decide, by decide⟩

theorem test_premises_TablesAndRequantise :
    (let i := Instr.vlut b3 ⟨1, false⟩ 1 2 3 31
     let j := Instr.vlutst b3 1 2 3 15
     CanIssue (holding coreRun i).dev 3 i ∧ CanIssue (holding coreRun j).dev 3 j)
      ∧ (coreRun.reg Off.VE_LUT_CLAMP).toNat + 16 < 2 ^ 32 ∧ (coreRun.reg Off.VE_SAT).toNat + 16 < 2 ^ 32
      ∧ (let f : ReqF := ⟨31, 0, 2, false⟩
         let i := Instr.req b3 ⟨1, false⟩ 1 2 0 0 0 f
         CanIssue (holding coreRun i).dev 3 i ∧ (f.src ≠ 3 ∧ f.out ≠ 3 ∧ f.stat = false ∧ (f.src = 0 ∨ f.shift = 0)))
      ∧ (let f : ReqF := ⟨0, 0, 0, true⟩
         let i := Instr.req b3 ⟨1, false⟩ 1 2 0 8 0 f
         CanIssue (holding coreRun i).dev 3 i ∧ f.stat = true ∧ 8 ≤ (8 : Fin 32).val) :=
  ⟨⟨canIssue_of _ _ (by decide +kernel), canIssue_of _ _ (by decide +kernel)⟩, by decide, by decide, ⟨canIssue_of _ _ (by decide +kernel), by decide⟩,
    ⟨canIssue_of _ _ (by decide +kernel), by decide⟩⟩

theorem test_premises_VectorMemory :
    let c := sRun.dev.core 3
    (let i := Instr.vld b3 ⟨1, false⟩ 1 5 0 0 2 true
     let j := Instr.vst b3 1 1 5 0 0 2
     let k := Instr.vldx b3 ⟨1, false⟩ 1 5 9 2 true
     let l := Instr.accLd b3 ⟨1, false⟩ 1 6 1023
     CanIssue (holding coreRun i).dev 3 i ∧ CanIssue (holding coreRun j).dev 3 j ∧ CanIssue (holding coreRun k).dev 3 k ∧ CanIssue (holding coreRun l).dev 3 l)
      ∧ (c.reg Off.VE_BANK_EXTRA).toNat + 64 < 2 ^ 32 ∧ (c.reg Off.VE_ACC_LD).toNat + 1 < 2 ^ 32 ∧ c.fld Off.SP_EXP Fl.SP_EXP_ECC_INJ = 0
      ∧ (∀ l, l < 16 → (c.m 1).getLsbD l = true → Readable c ((c.s 5).toNat + (l / 4 : Nat) * (c.s 0).toInt + (l % 4 : Nat) * (c.s 0).toInt) (width 2))
      ∧ (∀ l, l < 16 → (c.m 1).getLsbD l = true → Readable c ((c.s 5).toNat + (c.v 9 l).toNat * width 2) (width 2))
      ∧ (0x800000 ≤ (c.s 6).toNat + 64 * 1023 ∧ (c.s 6).toNat + 64 * 1023 + 64 ≤ 0x810000 ∧ ((c.s 6).toNat + 64 * 1023) % 64 = 0 ∧ c.ue = [] ∧ c.ce = []) := by
  have lane0 : ∀ l, l < 16 → ((sRun.dev.core 3).m 1).getLsbD l = true → l = 0 := by decide
  refine ⟨⟨canIssue_of _ _ (by decide +kernel), canIssue_of _ _ (by decide +kernel), canIssue_of _ _ (by decide +kernel), canIssue_of _ _ (by decide +kernel)⟩,
    by decide, by decide, by decide, ?_, ?_, by decide⟩
  · intro l hl h
    rw [lane0 l hl h]
    exact readable_run
  · intro l hl h
    rw [lane0 l hl h]
    exact readable_run

/-- Core 3 with a message in its mailbox and ring 2 enabled, of 4 slots, in mode 0, one filled and one held by the producer. -/
def coreRing : Core :=
  ((({ coreRun with mbx := [⟨0, 9, 3, List.replicate 16 0x5A⟩] }.setFld (Off.RING_CFG 2) Fl.RING_CFG_EN 1).setFld (Off.RING_CFG 2) Fl.RING_CFG_SLOTS 4).setFld (Off.RING_CFG 2) Fl.RING_CFG_MODE 0).setRingSt 2 ⟨1, 2, 1, 1, 0⟩

theorem test_premises_MessagesAndRings :
    (let i := Instr.recv b3 7 false
     let c := (holding coreRing i).dev.core 3
     CanIssue (holding coreRing i).dev 3 i ∧ (∃ m rest, c.mbx = m :: rest ∧ memOf (c.s 7).toNat = 2 ∧ (c.s 7).toNat % 16 = 0 ∧ m.payload.length = 16
       ∧ c.isOn (c.s 7).toNat = true ∧ c.ue = [] ∧ c.ce = [] ∧ c.fld Off.SP_EXP Fl.SP_EXP_ECC_INJ = 0))
      ∧ (let i := Instr.recv b3 7 true
         CanIssue (holding coreRun i).dev 3 i ∧ ((holding coreRun i).dev.core 3).mbx = [])
      ∧ (let i := Instr.racq b3 1 15 false true
         CanIssue (holding coreRing i).dev 3 i ∧ ((holding coreRing i).dev.core 3).fld (Off.RING_CFG 15) Fl.RING_CFG_EN = 0)
      ∧ (let i := Instr.racq b3 1 2 true false
         let c := (holding coreRing i).dev.core 3
         let x := c.ringSt 2
         CanIssue (holding coreRing i).dev 3 i ∧ c.fld (Off.RING_CFG 2) Fl.RING_CFG_EN = 1 ∧ c.fld (Off.RING_CFG 2) Fl.RING_CFG_MODE ≤ 1 ∧ 0 < x.filled ∧ 0 < c.ringSlots 2 ∧ c.ringSlots 2 ≤ 64
           ∧ x.head < 64 ∧ x.filled < 128 ∧ x.cheld < 127)
      ∧ (let i := Instr.rrel b3 2 false
         let c := (holding coreRing i).dev.core 3
         CanIssue (holding coreRing i).dev 3 i ∧ c.fld (Off.RING_CFG 2) Fl.RING_CFG_EN = 1 ∧ c.fld (Off.RING_CFG 2) Fl.RING_CFG_MODE = 0 ∧ 0 < (c.ringSt 2).pheld ∧ (c.ringSt 2).filled < 127) :=
  ⟨⟨canIssue_of _ _ (by decide +kernel), ⟨_, _, rfl, by decide +kernel⟩⟩, ⟨canIssue_of _ _ (by decide +kernel), rfl⟩,
    ⟨canIssue_of _ _ (by decide +kernel), by decide +kernel⟩, ⟨canIssue_of _ _ (by decide +kernel), by decide +kernel⟩, ⟨canIssue_of _ _ (by decide +kernel), by decide +kernel⟩⟩

/-- Core 3 with job 1, whose preemption may be pending, and with `hold` counts held. -/
def coreOfJob (pend hold : Nat) : Core :=
  (((coreRun.setFld Off.CORE_JOB Fl.CORE_JOB_JOB_VALID 1).setFld Off.CORE_JOB Fl.CORE_JOB_JOB 1).setFld Off.CORE_STATUS Fl.CORE_STATUS_PREEMPT_PEND pend).setFld Off.HOLD_STATUS Fl.HOLD_STATUS_SEM_HOLD hold

/-- A device whose job 1 has a plan with 4 live-range entries. -/
def devPlan : Dev :=
  { dev0.setJob 1 { Job.free with state := .resident, mask := 1 } with plans := [(0, some ⟨List.replicate 612 0 ++ [4, 0], [], [], 0, 0, 0, 0⟩)] }

/-- Core 3 holds job 1, with the bundle of `i` at its PC. -/
def sJob (pend hold : Nat) (i : Instr) : State := holdingIn devPlan (coreOfJob pend hold) i

theorem test_premises_WaitsAndStops :
    (∀ i ∈ [Instr.qwait b3 0xF, .trap b3 7, .endBatch b3], let c := (sJob 0 0 i).dev.core 3
        CanIssue (sJob 0 0 i).dev 3 i ∧ c.drained 15 = true ∧ c.gb = [])
      ∧ (∀ i ∈ [Instr.qwait b3 4, .endBatch b3], let s := holdingIn devPlan { coreOfJob 0 0 with lq := [⟨.watch, 0, 0, 0, 0, 0⟩] } i
          let c := s.dev.core 3
          CanIssue s.dev 3 i ∧ c.drained 4 = false ∧ c.drained 0xF = false ∧ (c.reg Off.STALL_WAIT).toNat + 1 < 2 ^ 32)
      ∧ (let i := Instr.ppt b3 3
         let c := (sJob 0 0 i).dev.core 3
         CanIssue (sJob 0 0 i).dev 3 i ∧ 3 < (sJob 0 0 i).dev.liveCount 3 ∧ c.fld Off.HOLD_STATUS Fl.HOLD_STATUS_SEM_HOLD = 0 ∧ c.grants = [] ∧ c.fld Off.CORE_STATUS Fl.CORE_STATUS_PREEMPT_PEND = 0)
      ∧ (let i := Instr.ppt b3 0
         let d := (sJob 1 0 i).dev
         CanIssue d 3 i ∧ 0 < d.liveCount 3 ∧ (d.core 3).fld Off.HOLD_STATUS Fl.HOLD_STATUS_SEM_HOLD = 0 ∧ (d.core 3).fld Off.CORE_STATUS Fl.CORE_STATUS_PREEMPT_PEND = 1
           ∧ (d.core 3).jobOf = some 1 ∧ (d.job 1).state = .resident)
      ∧ (let i := Instr.ppt b3 3
         CanIssue (sJob 0 1 i).dev 3 i ∧ 3 < (sJob 0 1 i).dev.liveCount 3 ∧ ((sJob 0 1 i).dev.core 3).fld Off.HOLD_STATUS Fl.HOLD_STATUS_SEM_HOLD ≠ 0) := by
  refine ⟨fun i h => ?_, fun i h => ?_, ⟨canIssue_of _ _ (by decide +kernel), by decide +kernel⟩, ⟨canIssue_of _ _ (by decide +kernel), by decide +kernel⟩,
    ⟨canIssue_of _ _ (by decide +kernel), by decide +kernel⟩⟩
  · have all : ∀ i ∈ [Instr.qwait b3 0xF, .trap b3 7, .endBatch b3], startable (sJob 0 0 i).dev i = true ∧ ((sJob 0 0 i).dev.core 3).drained 15 = true
        ∧ ((sJob 0 0 i).dev.core 3).gb = [] := by decide +kernel
    exact ⟨canIssue_of _ _ (all i h).1, (all i h).2⟩
  · have all : ∀ i ∈ [Instr.qwait b3 4, .endBatch b3], let s := holdingIn devPlan { coreOfJob 0 0 with lq := [⟨.watch, 0, 0, 0, 0, 0⟩] } i
        startable s.dev i = true ∧ (s.dev.core 3).drained 4 = false ∧ (s.dev.core 3).drained 0xF = false ∧ ((s.dev.core 3).reg Off.STALL_WAIT).toNat + 1 < 2 ^ 32 := by decide +kernel
    exact ⟨canIssue_of _ _ (all i h).1, (all i h).2⟩

theorem test_premises_QueueIssue :
    (let i := Instr.lsub b3 1 2 3 1
     let c := (sJob 0 0 i).dev.core 3
     CanIssue (sJob 0 0 i).dev 3 i ∧ (latchOp i).isSome = true ∧ c.lq.length < 8 ∧ c.fld Off.HOLD_STATUS Fl.HOLD_STATUS_SEM_HOLD ≠ 255)
      ∧ (let i := Instr.lwatch b3 1 2 3 1
         let s := holdingIn devPlan { coreOfJob 0 0 with lq := List.replicate 8 ⟨.watch, 0, 0, 0, 0, 0⟩ } i
         CanIssue s.dev 3 i ∧ 8 ≤ (s.dev.core 3).lq.length ∧ ((s.dev.core 3).reg Off.STALL_QFULL).toNat + 1 < 2 ^ 32)
      ∧ (let i := Instr.dma b3 7
         let c := (sJob 0 0 i).dev.core 3
         CanIssue (sJob 0 0 i).dev 3 i ∧ c.dq.length < 16 ∧ (0x400000 ≤ (c.s 7).toNat ∧ (c.s 7).toNat + 64 ≤ 0x420000 ∧ (c.s 7).toNat % 64 = 0) ∧ (c.ue = [] ∧ c.ce = [] ∧ ∀ j, c.isOn j = true))
      ∧ (let i := Instr.ovl b3 5 0 15 0
         CanIssue (sJob 0 0 i).dev 3 i ∧ ((sJob 0 0 i).dev.core 3).dq.length < 16 ∧ (15 : Fin 16).val + (0 : Fin 16).val < 16)
      ∧ (let i := Instr.ovl b3 5 0 15 1
         CanIssue (sJob 0 0 i).dev 3 i ∧ ((sJob 0 0 i).dev.core 3).dq.length < 16 ∧ 16 ≤ (15 : Fin 16).val + (1 : Fin 16).val)
      ∧ (let i := Instr.send b3 0 7
         let c := (sJob 0 0 i).dev.core 3
         CanIssue (sJob 0 0 i).dev 3 i ∧ c.sq.length < 4 ∧ (sJob 0 0 i).dev.sameJob 3 (c.s 0).toNat = true ∧ (0x400000 ≤ (c.s 7).toNat ∧ (c.s 7).toNat + 16 ≤ 0x420000 ∧ (c.s 7).toNat % 16 = 0))
      ∧ (let i := Instr.send b3 5 7
         let c := (sJob 0 0 i).dev.core 3
         CanIssue (sJob 0 0 i).dev 3 i ∧ c.sq.length < 4 ∧ (sJob 0 0 i).dev.sameJob 3 (c.s 5).toNat = false) :=
  ⟨⟨canIssue_of _ _ (by decide +kernel), by decide +kernel⟩, ⟨canIssue_of _ _ (by decide +kernel), by decide +kernel⟩,
    ⟨canIssue_of _ _ (by decide +kernel), by decide +kernel, by decide +kernel, rfl, rfl, isOn_all _ (by decide +kernel)⟩, ⟨canIssue_of _ _ (by decide +kernel), by decide +kernel⟩,
    ⟨canIssue_of _ _ (by decide +kernel), by decide +kernel⟩, ⟨canIssue_of _ _ (by decide +kernel), by decide +kernel⟩, ⟨canIssue_of _ _ (by decide +kernel), by decide +kernel⟩⟩

theorem test_premises_MatrixIssue :
    (let i := Instr.mm b3 0 7 0 4 15 0 0
     matrixOp i = some (b3, .mm, 0, 7, 0, 4, 15, 0, 0) ∧ CanIssue (holding coreRun i).dev 3 i)
      ∧ (let c := sRun.dev.core 3
         let m : MCmd := ⟨.mm, 4, 16, 1, 1, (c.s 0).toNat, (c.s 7).toNat, (c.s 0).toNat⟩
         c.mq.length < 8 ∧ (m.sc ≤ 255 ∧ m.sc + m.nb ≤ 256 ∧ m.sa + m.weightLen ≤ 0x40000 ∧ 0 < m.weightLen ∧ m.sa % 32 = 0 ∧ 0x400000 ≤ m.sb ∧ m.sb + m.actLen ≤ 0x420000 ∧ m.sb % 64 = 0))
      ∧ (let i := Instr.mmew b3 0 7 0 7 0 0 0
         (matrixOp i).isSome = true ∧ CanIssue (holding coreRun i).dev 3 i) :=
  ⟨⟨rfl, canIssue_of _ _ (by decide +kernel)⟩, ⟨by decide, by decide⟩, ⟨rfl, canIssue_of _ _ (by decide +kernel)⟩⟩

/-- An S slot that more slots of its bundle follow, and a V slot. -/
def slotS : Instr := .xor ⟨3, true⟩ 1 5 6
/-- The V slot after it. -/
def slotV : Instr := .vadd b3 ⟨1, false⟩ 1 2 (.vec 3)
/-- Core 3 with the bundle of both slots at its PC. -/
def corePair : Core := { coreRun with imem := coreRun.imem.write 112 (natLE 16 (bundleOf slotS + bundleOf slotV)) }
/-- The first slot given, or both to come. -/
def devPair (given : List Instr) : Dev := (dev0.setCore 3 corePair).setStage 3 given
/-- Core 3 whose s5 waits for a Latch reply. -/
def coreWaits : Core := { coreRun with lq := [⟨.read, 0, 0, 0, 5, 0⟩] }

theorem open_of (d : Dev) (h : d.stage 3 = [] ∧ (d.core 3).state = .running ∧ (d.core 3).pptEntry = none ∧ (d.core 3).ending = false
    ∧ (d.core 3).fld Off.DBG_CTRL Fl.DBG_CTRL_PAR_INJECT ≠ 1 ∧ (d.core 3).fld Off.DBG_CTRL Fl.DBG_CTRL_SSTEP ≠ 1 ∧ (d.core 3).out = []) : Open d 3 :=
  ⟨h.1, h.2.1, h.2.2.1, h.2.2.2.1, h.2.2.2.2.1, h.2.2.2.2.2.1, h.2.2.2.2.2.2⟩

theorem ready_of (d : Dev) (i : Instr) (h : (match opOf i with | some op => (op.reads ++ op.dest.toList).any ((d.core 3).pendingAt (d.cycles 3)) | none => false) = false) :
    Ready d 3 i := by
  intro op ho
  rw [ho] at h
  exact h

theorem test_premises_SlotsReadTheCoreBefore :
    (let w := bundleOf slotS + bundleOf slotV
     Open (devPair []) 3 ∧ (corePair.fetch = .bundle w ∧ spells w 1 [slotS] = true ∧ emptySlots w 2 4 = false ∧ spells w 1 [slotS, slotV] = true)
       ∧ (devPair [slotS]).stage 3 = [slotS] ∧ Ready (devPair [slotS]) 3 slotS ∧ Ready (devPair [slotS]) 3 slotV)
      ∧ ((scalarResult slotS).isSome = true ∧ (laneResult slotV).isSome = true)
      ∧ (let i := Instr.mul b3 1 5 6
         CanIssue (holding coreRun i).dev 3 i ∧ latency i = 3)
      ∧ (let i := Instr.add b3 1 5 6
         let c := (holding coreWaits i).dev.core 3
         Open (holding coreWaits i).dev 3 ∧ c.fetch = .bundle (bundleOf i) ∧ spells (bundleOf i) 1 [i] = true ∧ ¬ Ready (holding coreWaits i).dev 3 i)
      ∧ (let c : Core := { coreRun with imem := coreRun.imem.write 112 (natLE 16 (0x3F * 2 ^ 122)) }
         Open (dev0.setCore 3 c) 3 ∧ c.fetch = .illegal 1)
      ∧ Open (dev0.setCore 3 { coreRun with pc := 4096 }) 3
      ∧ (let c := coreRun.setReg Off.IMEM_VALID 0
         Open (dev0.setCore 3 c) 3 ∧ c.fetch = .invalid) :=
  ⟨⟨open_of _ (by decide +kernel), by decide +kernel, by decide +kernel, ready_of _ _ (by decide +kernel), ready_of _ _ (by decide +kernel)⟩, ⟨rfl, rfl⟩,
    ⟨canIssue_of _ _ (by decide +kernel), rfl⟩,
    ⟨open_of _ (by decide +kernel), by decide +kernel, by decide +kernel, fun h => absurd (h _ rfl) (by decide +kernel)⟩,
    ⟨open_of _ (by decide +kernel), by decide +kernel⟩, open_of _ (by decide +kernel), ⟨open_of _ (by decide +kernel), by decide +kernel⟩⟩
/-! ### Cores, queues, transfers, memory and Latch units between bundles -/

/-- A core at its END that holds job 1. -/
def coreJob (st : CState) : Core := (({ coreRun with state := st, ending := true }.setFld Off.CORE_JOB Fl.CORE_JOB_JOB_VALID 1).setFld Off.CORE_JOB Fl.CORE_JOB_JOB 1)

/-- Job 1 on cores 0 to 3, started: cores 0 to 2 are PARKED and core 3 is at its END. -/
def devJob : Dev :=
  ((((dev0.setCore 0 (coreJob .parked)).setCore 1 (coreJob .parked)).setCore 2 (coreJob .parked)).setCore 3 (coreJob .running)).setJob 1
    { Job.free with state := .resident, mask := 1, started := true }

theorem test_premises_CoreLifeEvents :
    (let d := dev0.setDom 0 2
     (d.core 3).state = .reset ∧ d.clusterOn (clusterOf 3) = true)
      ∧ (sRun.dev.core 3).state ≠ .reset
      ∧ (let c : Core := { coreRun with ending := true }
         c.state = .running ∧ c.ending = true ∧ c.drained 0xF = true ∧ c.gb = [] ∧ c.out = [] ∧ c.jobOf = none)
      ∧ (let c := devJob.core 3
         c.state = .running ∧ c.ending = true ∧ c.drained 0xF = true ∧ c.gb = [] ∧ c.out = [] ∧ c.jobOf = some 1 ∧ (devJob.job 1).started = true ∧ (devJob.job 1).state = .resident
           ∧ ∀ q ∈ coresOf (devJob.job 1).mask, devJob.holds 1 q = true ∧ (q ≠ 3 → (devJob.core q).state = .parked))
      ∧ (let d := dev0.setCore 3 { coreRun with sq := [⟨0, 3, 4, []⟩] }
         (d.core 3).sq = [⟨0, 3, 4, []⟩] ∧ (d.core 3).queuesHeld = false ∧ (d.core 4).state = .reset ∧ clusterOf 4 = clusterOf 3
           ∧ ((d.setCore 4 { coreRun with state := .suspended }).core 4).state = .suspended
           ∧ (let u := (d.setCore 4 { coreRun with mbx := List.replicate 11 ⟨0, 0, 4, []⟩ }).core 4
              u.state ≠ .reset ∧ u.state ≠ .stopped ∧ u.state ≠ .suspended ∧ u.mbxCount [0, 3] < 12)
           ∧ (let u := (d.setCore 4 { coreRun with mbx := List.replicate 12 ⟨0, 0, 4, []⟩ }).core 4
              u.state ≠ .reset ∧ u.state ≠ .stopped ∧ 12 ≤ u.mbxCount [0, 3]))
      ∧ Calm dev0
      ∧ (let held (n : Nat) : Core := { coreRun with replies := [⟨5, 9, if n = 0 then -1 else 1⟩] }.setFld Off.HOLD_STATUS Fl.HOLD_STATUS_SEM_HOLD n
         let after (n : Nat) : Int := ((held n).fld Off.HOLD_STATUS Fl.HOLD_STATUS_SEM_HOLD : Int) + (if n = 0 then -1 else 1)
         (∀ n, (held n).replies ≠ []) ∧ after 254 = 255 ∧ 255 < after 255 ∧ after 0 < 0 ∧ (held 255).state = .running) :=
  ⟨by decide +kernel, by decide +kernel, by decide +kernel, by decide +kernel, by decide +kernel, by unfold Calm; decide +kernel,
    fun _ => List.cons_ne_nil _ _, by decide +kernel, by decide +kernel, by decide +kernel, rfl⟩

/-- A core that has waited past its STALL_LIMIT of 25,000 ticks. -/
def devStall (now : Nat) : Dev := { dev0.setCore 3 { coreRun with waitSince := some 10 } with tick := now }

/-- A core whose bundle 7 is to be reread, with segment 0 loaded from 0x20000. -/
def coreParity : Core := coreRun.setReg (Off.OVL_SRC_LO 0) 0x20000

theorem test_premises_CoreRecoveries :
    (let d := devStall 25011
     let c := d.core 3
     c.waitSince = some 10 ∧ c.state = .running ∧ d.tick - 10 > c.fld Off.STALL_LIMIT Fl.STALL_LIMIT_TICKS)
      ∧ (let d := devStall 25010
         d.tick - 10 ≤ (d.core 3).fld Off.STALL_LIMIT Fl.STALL_LIMIT_TICKS)
      ∧ (let d := dev0.setCore 3 coreParity
         let c := d.core 3
         let a := (c.reg (Off.OVL_SRC_LO 0)).toNat + 2 ^ 32 * (c.reg (Off.OVL_SRC_HI 0)).toNat + 16 * 7
         c.issues = true ∧ c.pc < 4096 ∧ (c.reg Off.IMEM_VALID).getLsbD (c.pc / 256) = true ∧ targetOf a = .hbm 0 0x20070 ∧ d.dmaReach 3 false 0 a 16 = none
           ∧ d.hbmUe = [] ∧ d.hbmCe = [] ∧ c.out = [] ∧ (c.reg Off.PARITY_REFETCH).toNat + 1 < 2 ^ 32) :=
  ⟨by decide +kernel, by decide +kernel, by decide +kernel⟩

theorem test_premises_CoreRecoveries_flush :
    let l : GbLine := ⟨0x100, [(0x100, some 1), (0x13F, some 2)], 0, 0⟩
    let c : Core := { coreRun with gb := [l], cyc := 64 }
    c.gb = [l] ∧ c.out = [] ∧ c.ue = [] ∧ c.fld Off.SP_EXP Fl.SP_EXP_ECC_INJ = 0 ∧ (∀ a, c.isOn a = true) ∧ (∀ e ∈ l.bytes, e.2.isSome = true) ∧ Tab.wf none l.bytes = true
      ∧ (∀ e ∈ l.bytes, l.base ≤ e.1 ∧ e.1 < l.base + 64) ∧ l.base % 64 = 0 ∧ l.taken + c.fld Off.SP_EXP Fl.SP_EXP_GB_AGE ≤ (dev0.setCore 3 c).cycles 3 :=
  ⟨rfl, rfl, rfl, by decide +kernel, isOn_all _ (by decide), by decide, by decide, by decide, by decide, by decide +kernel⟩

/-- A matrix command of one tile at the ends of its ranges. -/
def oneTile : MCmd := ⟨.mmz, 0, 1, 1, 1, 0x3FFF0, 0x41FFC0, 255⟩
/-- A matrix command of one tile that takes four array cycles. -/
def fourCycles : MCmd := ⟨.mm, 4, 1, 1, 1, 0, 0x400000, 0⟩

theorem test_premises_MatrixUnit :
    (let c : Core := { coreRun with mq := [oneTile], mu := [oneTile], muTile := 1 }
     c.mq = [oneTile] ∧ c.mu = [oneTile] ∧ oneTile.tiles ≤ c.muTile + c.muFed.length ∧ c.state ≠ .reset ∧ c.queuesHeld = false ∧ c.out = [] ∧ c.muLevel ≤ 4)
      ∧ (let m := oneTile
         let c : Core := { coreRun with mu := [m] }
         c.mu = [m] ∧ c.muFin = [] ∧ c.muTile = 0 ∧ c.muSub = 0 ∧ c.muFed = [] ∧ c.muLines = []
           ∧ m.sc < 256 ∧ m.sa % 16 = 0 ∧ m.sa + 16 ≤ 0x40000 ∧ m.sb % 64 = 0 ∧ 0x400000 ≤ m.sb ∧ m.sb + 64 ≤ 0x420000
           ∧ c.ue = [] ∧ c.ce = [] ∧ c.out = [] ∧ c.fld Off.SP_EXP Fl.SP_EXP_ECC_INJ = 0 ∧ (c.reg Off.MU_DONE).toNat + 1 < 2 ^ 32 ∧ (c.reg Off.MU_ARRAY_CYC).toNat + 1 < 2 ^ 32)
      ∧ (∀ a, ({ coreRun with mu := [oneTile] } : Core).isOn a = true)
      ∧ (let c : Core := { coreRun with mu := [fourCycles], muFed := [⟨[], none⟩], muLines := [⟨[], none⟩], muLevel := 1, muStep := 7, muIdle := 0 }
         c.mu = [fourCycles] ∧ c.muFed ≠ [] ∧ c.rampDis = false ∧ c.muIdle = 0 ∧ 1 ≤ c.muLevel ∧ c.muLevel ≤ 4 ∧ c.muSub + 1 < fourCycles.cycles ∧ c.out = []
           ∧ (c.reg Off.MU_ARRAY_CYC).toNat + 1 < 2 ^ 32 ∧ (c.reg Off.MU_RAMP_LOST).toNat + 1 < 2 ^ 32)
      ∧ (coreRun.mu = [] ∧ coreRun.rampDis = false ∧ coreRun.muLevel ≤ 4 ∧ coreRun.out = [])
      ∧ (coreRun.setFld Off.MU_EXP Fl.MU_EXP_RAMP_DIS 1).rampDis = true :=
  ⟨by decide +kernel, by decide +kernel, isOn_all _ (by decide), by decide +kernel, by decide +kernel, by decide +kernel⟩

/-- No register lies above the client ring blocks. -/
theorem locate_high (o : Nat) (h : 0x10080000 ≤ o) : locate o = none := by
  have past (n : Nat) (hn : n ≤ 0x10080000) : ¬ o < n := by omega
  simp [locate, past]

/-- A register that lies nowhere reads 0 after reset. -/
theorem reg_high (o : Nat) (h : 0x10080000 ≤ o) : dev0.reg o = 0 := by
  show regReset o = 0
  unfold regReset
  rw [locate_high o h]

/-- No event ring is enabled after reset. -/
theorem eqOff (f : Nat) : dev0.ringOn f .eq = false := by
  by_cases h : f < 33
  · revert f
    decide +kernel
  · unfold Dev.ringOn Dev.fld
    rw [reg_high]
    · rfl
    · unfold rbase fnBase
      rw [if_neg (by omega)]
      show 0x10080000 ≤ 0x10000000 + (f - 1) * 0x4000 + 0x40 + Off.X_CFG
      omega

/-- A record of the Hinge that no client owns. -/
def rec0 : Record := dev0.record { cls := kBOOT, code := 1, src := 0 }

/-- The device with one record waiting at the Hinge, and `n` records in the log. -/
def devRec (n : Nat) : Dev := (dev0.setWaiting 0 [rec0]).setFld (Block.tel.base + Off.TEL_LOG_TAIL) Fl.TEL_LOG_TAIL_POS n

theorem test_premises_RecordsAndCompletions :
    (∀ n, (devRec n).waiting (0 : BitVec 16).toNat = [rec0]) ∧ ((0 : BitVec 16).toNat < 0x20 ∧ (0 : BitVec 16).toNat ≠ 0x0C) ∧ (∀ n, (devRec n).bypassed (0 : BitVec 16).toNat = false)
      ∧ (dev0.setDom (shFabric 0) 2).bypassed 2 = false ∧ ((dev0.setDom (shFabric 0) 2).contain 0 2).bypassed 2 = true ∧ (∀ f, dev0.ringOn f .eq = false)
      ∧ (devRec 1023).logCount = 1023 ∧ (devRec 1024).logCount = 1024 ∧ below (devRec 1024) (Block.tel.base + Off.TEL_LOG_LOST) 1
      ∧ dev0.waiting (7 : BitVec 16).toNat = [] ∧ dev0.waitingCq 0 = []
      ∧ (let d := { ((dev0.setFld (rbase 0 .cq + Off.X_CFG) Fl.X_CFG_EN 1).setFld (rbase 0 .cq + Off.X_CFG) Fl.X_CFG_SIZE 8) with cqWait := [(0, [[1]])] }
         d.waitingCq 0 = [[1]] ∧ d.ringOpen 0 .cq = true ∧ d.bmeOff.contains 0 = false ∧ d.fld (rbase 0 .cq + Off.X_CFG) Fl.X_CFG_IRQ_EN = 0
           ∧ (d.reg (rbase 0 .cq + Off.X_COUNT)).toNat + 1 < 2 ^ 32) :=
  ⟨fun _ => rfl, by decide, fun _ => rfl, by decide +kernel, by decide +kernel, eqOff, by decide +kernel, by decide +kernel, by unfold below; decide +kernel, rfl, rfl, by decide +kernel⟩

/-- A FILL of 512 bytes of HBM at 0x20080. -/
def fill : Desc := Desc.parse (natLE 1 5 ++ natLE 3 0 ++ natLE 4 512 ++ natLE 8 7 ++ natLE 8 0x20080 ++ List.replicate 40 0)

theorem test_premises_DmaTransfers_start :
    (let c : Core := { coreRun with dq := [.ovl 0x20000 15 1] }
     let d := dev0.setCore 3 c
     let t := Xfer.new 1 0 [] (Desc.parse []) (some (0x20000, 15, 1)) [] []
     c.xfers.length < 4 ∧ c.queuesHeld = false ∧ c.state ≠ .reset ∧ d.contained (sideOf 3) = false ∧ (d.contain 0 2).contained (sideOf 3) = true ∧ 0x20000 % 4 = 0
       ∧ (d.setCore 3 { c with dq := [], nextXfer := 1, xfers := c.xfers ++ [t] }).dmaReach 3 false 0 0x20000 (4096 * 1) = none)
      ∧ (let b := natLE 1 5 ++ natLE 3 0 ++ natLE 4 512 ++ natLE 8 7 ++ natLE 8 0x20080 ++ List.replicate 40 0
         let c : Core := { coreRun with dq := [.desc b 0x400000] }
         fill.invalid 3 b = none ∧ fill.misaligned = none ∧ fill.ty ≠ 4 ∧ c.xfers = []
           ∧ (dev0.setCore 3 { c with dq := [], nextXfer := 1, xfers := [Xfer.new 1 0x400000 b fill none [] []] }).descRanges 3 fill none = none) :=
  ⟨by decide +kernel, by decide +kernel⟩

theorem plain_fill : PlainXfer fill := by constructor <;> decide

/-- A transfer of core 3 with its fields. -/
def xf (ovl : Option (Nat × Nat × Nat)) (issued : Nat) (fl : List Flight) (hops : List Hop) (landed : List (Nat × List Byte)) : Xfer :=
  { Xfer.new 1 0 [] fill ovl hops [] with piece := issued, off := 128 * issued + 256 * (issued / 3), flights := fl, landed := landed }

/-- The transfer with every unit issued. -/
def xfEnd (fl : List Flight) (hops : List Hop) (landed : List (Nat × List Byte)) : Xfer := { xf none 3 fl hops landed with off := 512 }

theorem test_premises_DmaTransfers_run :
    (let t := xf (some (0x20000, 14, 1)) 0 [] [] []
     let c : Core := { coreRun with xfers := [t] }
     let d := dev0.setCore 3 c
     c.xfers.find? (fun t => t.ovl.isSome && !t.failed) = some t ∧ t.piece + 1 = 1 ∧ targetOf 0x20000 = .hbm 0 0x20000
       ∧ d.underWay 3 c.sentN (destNode 3 0x20000) = false ∧ d.dmaReach 3 false 0 0x20000 4096 = none ∧ d.hbmUe = [] ∧ d.hbmCe = [] ∧ c.out = [])
      ∧ (let t := xf none 0 [] [] []
         let c : Core := { coreRun with xfers := [t] }
         c.xfer 1 = some t ∧ (dev0.setCore 3 c).unitTurn 3 1 = true ∧ t.failed = false ∧ t.ovl = none ∧ t.desc.grantOnly = false ∧ t.issued = false ∧ t.desc.sb = false ∧ t.desc.ty = 5 ∧ c.tagSince = none
           ∧ (dev0.setCore 3 c).noTag 3 = false ∧ min (t.desc.len - t.off) (256 - (t.desc.dst + t.off) % 256) = 128 ∧ 0x20080 + 128 ≤ 2 ^ 48
           ∧ (dev0.setCore 3 c).dmaReach 3 true t.desc.cw 0x20080 128 = none)
      ∧ (let t := xf none 0 (List.replicate 64 ⟨0, 0, 0, 0, [], [], 0, 0, 0, 0, false, 0, true, none⟩) [] []
         let c : Core := { coreRun with xfers := [t] }
         c.xfer 1 = some t ∧ (dev0.setCore 3 c).unitTurn 3 1 = true ∧ t.nextTags = some 1 ∧ (dev0.setCore 3 c).noTag 3 = true)
      ∧ (let t := xfEnd [] [] []
         t.nextTags = none ∧ (dev0.setCore 3 { coreRun with xfers := [t] }).unitTurn 3 1 = false)
      ∧ (let f : Flight := ⟨0, 0, 0x20080, 128, List.replicate 128 9, [], 0, 0, 0, 0, false, 0, true, none⟩
         let t := xf none 1 [f] [] []
         let c : Core := { coreRun with xfers := [t] }
         c.xfer 1 = some t ∧ t.flights[0]? = some f ∧ t.desc.ty = 5 ∧ t.recv = none ∧ f.list = false ∧ f.host = 0 ∧ (dev0.setCore 3 c).underWay 3 f.seq (destNode 3 f.dst) = false ∧ (∀ side : Fin 2, dev0.contained side = false) ∧ targetOf f.dst = .hbm 0 0x20080
           ∧ (dev0.setCore 3 c).dmaReach 3 true 0 f.dst f.data.length = none ∧ dev0.hbmUe = [] ∧ (c.reg Off.DMA_UNITS).toNat + 1 < 2 ^ 32)
      ∧ (Calm dev0 ∧ ∀ side : Fin 2, dev0.fld ((Block.hbm side).base + Off.HBM_EXP) Fl.HBM_EXP_ECC_INJ = 0)
      ∧ (let t := xfEnd [] [] []
         let c : Core := { coreRun with xfers := [t] }
         c.xfer 1 = some t ∧ t.issued = true ∧ t.flights = [] ∧ t.hops = [] ∧ t.bufCores = [] ∧ c.out = [] ∧ (c.reg Off.DMA_DONE).toNat + 1 < 2 ^ 32) :=
  ⟨by decide +kernel, by decide +kernel, by decide +kernel, by decide +kernel, by decide +kernel, ⟨by unfold Calm; decide +kernel, by decide +kernel⟩, by decide +kernel⟩

theorem test_premises_DmaTransfers_chain :
    ∀ flying ∈ [[], [0]],
    let h : Hop := ⟨4, 0, flying, .granted, false⟩
    let t := xfEnd [] [h] [(0x400003000000, List.replicate 64 1), (0x400003000040, List.replicate 64 1)]
    let c : Core := ({ coreRun with xfers := [t], fwdQ := [(3, 1, 1)] }.setFld Off.CORE_JOB Fl.CORE_JOB_JOB_VALID 1).setFld Off.CORE_JOB Fl.CORE_JOB_JOB 1
    let d := ((dev0.setCore 3 c).setCore 4 (((coreRun.setFld (Off.CW_BASE 0) Fl.CW_BASE_BASE 0).setFld (Off.CW_CFG 0) Fl.CW_CFG_EN 1).setFld (Off.CW_CFG 0) Fl.CW_CFG_SIZE 1)).setJob 1
      { Job.free with state := .resident, mask := 3 }
    c.xfer 1 = some t ∧ t.hops[0]? = some h ∧ t.landed[h.forwarded]? = some (0x400003000000, List.replicate 64 1) ∧ (t.landed[h.forwarded + h.flying.length]?).isSome = true ∧ t.failed = false ∧ t.desc.sigPerHop = false
      ∧ (c.fwdQ.take 4).contains (3, 1, 1) = true ∧ clusterOf h.core = clusterOf 3 ∧ c.tagSince = none
      ∧ d.noTag 3 = false ∧ d.contained (sideOf 3) = false ∧ d.underWay 3 0 (destNode 3 (coreAddr 4 (0x400003000000 % 2 ^ 24))) = false ∧ d.dmaReach 3 true t.desc.cw (coreAddr 4 (0x400003000000 % 2 ^ 24)) 64 = none := by decide +kernel

theorem test_premises_Credits :
    let x := xf none 0 [] [] []
    let r (n t : Nat) : CwReq := ⟨5, 1, n, 0, t, 0⟩
    let c (n t : Nat) : Core := { coreRun.setFld (Off.CW_CFG 7) Fl.CW_CFG_EN 1 with cwAvail := [(7, 4)], cwq := [(7, [r n t])] }
    let d (n t now : Nat) : Dev := { ((dev0.setCore 3 (c n t)).setCore 5 { coreJob .running with xfers := [x] }).setJob 1 { Job.free with state := .resident, mask := 2 } with tick := now }
    (Tab.get [] ((d 4 0 0).core 3).cwq 7 = [r 4 0] ∧ ((d 4 0 0).core 3).state ≠ .suspended ∧ ((d 4 0 0).core 3).fld (Off.CW_CFG 7) Fl.CW_CFG_EN = 1 ∧ 4 ≤ Tab.get 0 ((d 4 0 0).core 3).cwAvail 7
        ∧ ((d 4 0 0).core 5).out = [] ∧ ((d 4 0 0).core 5).xfer 1 = some x ∧ x.desc.grantOnly = false)
      ∧ Tab.get 0 ((d 5 0 0).core 3).cwAvail 7 < (r 5 0).credits
      ∧ ((Tab.get [] ((d 5 0 25001).core 3).cwq 7)[0]? = some (r 5 0) ∧ 25001 - 0 > ((d 5 0 25001).core 5).fld Off.STALL_LIMIT Fl.STALL_LIMIT_TICKS
          ∧ ((d 5 0 25001).core 5).out = [] ∧ ((d 5 0 25001).core 5).jobOf = some 1 ∧ ((d 5 0 25001).job 1).state ≠ .free) := by decide +kernel

theorem test_premises_MemoryAndMesh :
    let b := (Block.hbm 1).base
    let m := (Block.mesh 1).base
    (dev0.fld (b + Off.HBM_SCRUB_CFG) Fl.HBM_SCRUB_CFG_EN = 1 ∧ dev0.contained 1 = false ∧ dev0.hbmUe = [] ∧ dev0.hbmCe = [] ∧ dev0.fld (b + Off.HBM_SCRUB_POS) Fl.HBM_SCRUB_POS_UNIT + 1 < 2 ^ 26)
      ∧ ((dev0.reg (b + Off.HBM_ODECC)).toNat + (255 : Fin 256).val < 2 ^ 32 ∧ (dev0.reg (b + Off.HBM_RFM)).toNat + 1 < 2 ^ 32)
      ∧ (let s := dev0.setJob 1 { Job.free with state := .resident, mask := 2 ^ 127 }
         (coresOf (s.job 1).mask).any (fun k => sideOf k == 1) = true ∧ (s.job 1).state ≠ .free)
      ∧ (meshPort 12 0 = true ∧ meshPort 3 0 = false ∧ meshPort 15 1 = false ∧ meshPort 11 1 = true)
      ∧ (12 ≤ (12 : Fin 16).val ∧ ¬12 ≤ (11 : Fin 16).val)
      ∧ (dev0.reg (m + Off.MESH_CE)).toNat + 1 < 2 ^ 32 ∧ (dev0.reg (m + Off.MESH_BR_REPLAY)).toNat + 1 < 2 ^ 32 := by decide +kernel

theorem test_premises_HbmWriteStoresItsBytes :
    2 * hbmSize - 3 + [(1 : Byte), 2, 3].length ≤ 2 * hbmSize ∧ dev0.inTable (2 * hbmSize - 3) 3 = false ∧ dev0.hbmUe = []
      ∧ ∀ side : Fin 2, dev0.fld ((Block.hbm side).base + Off.HBM_EXP) Fl.HBM_EXP_ECC_INJ = 0 := by decide +kernel

/-- Cluster 0 ON and READY. -/
def devReady : Dev := (dev0.setDom 0 2).setFld ((Block.seq 0).base + Off.CS_STATUS) Fl.CS_STATUS_READY 1

theorem test_premises_LatchEvents :
    (let d := devReady.setCore 3 { coreRun with lq := [⟨.add, 0xFFF, 9, 0, 7, 0⟩] }
     let l := d.lu 0
     (d.core 3).lq = [⟨.add, BitVec.ofNat 32 (0 * 4096 + 0xFFF), 9, 0, 7, 0⟩] ∧ (d.core 3).queuesHeld = false ∧ d.reachable 0 = true ∧ l.ue = [] ∧ (l.word 0xFFF).kind = 0 ∧ (l.word 0xFFF).owned = false ∧ l.watches = []
       ∧ d.fwdOf 0 0xFFF = none ∧ (l.val 0xFFF).toNat + (9 : Word).toNat < 2 ^ 32 ∧ (d.reg ((Block.latch 0).base + Off.LU_OPS)).toNat + 1 < 2 ^ 32 ∧ l.inbox = [])
      ∧ Calm dev0
      ∧ (let w : Watch := ⟨5, 4, 1, 3, 8, 1, 3, 100, none⟩
         let n : Notif := ⟨3, 1, List.replicate 16 0, true⟩
         let d (t : Nat) : Dev := { (((devReady.setCore 3 coreRun).setLu 0 { devReady.lu 0 with watches := [w], waiting := [n] })).setJob 1 { Job.free with state := .resident, mask := 1 } with tick := t }
         ((d 100).lu 0).watches[0]? = some w ∧ w.expires ≤ (d 100).tick ∧ w.batch = none ∧ w.core ≠ 0x200 ∧ ((d 100).reg ((Block.latch 0).base + Off.LU_TIMEOUTS)).toNat + 1 < 2 ^ 32
           ∧ (d 99).tick < w.expires ∧ ((d 0).lu 0).waiting[0]? = some n ∧ ((d 0).core 3).state = .running ∧ ((d 0).core 3).mbxCount [1] < 3 ∧ ((d 0).job 1).state = .resident
           ∧ clusterOf n.core = 0) :=
  ⟨by decide +kernel, by unfold Calm; decide +kernel, by decide +kernel⟩
/-! ### Streams, jobs, batches, mode epochs -/

/-- Stream 5, RUNNING, with its ring, its chunk and its context at 0x20000. -/
def str5 : Stream := { Stream.free with state := 3, inChunks := 4, chunkBytes := 64, ctxPtr := 0x20000, ctxSize := 4096, unacked := 64, mirror := 1 }

theorem test_premises_StreamEvents :
    let d := dev0.setStream 1023 { str5 with resetting := some 2 }
    (d.stream 1023).state ≠ 0 ∧ (d.stream 1023).mirror ≠ 3 ∧ (d.stream 1023).resetting = some 2 ∧ (d.stream 1023).release = false ∧ d.contained (d.stream 1023).side = false ∧ (d.contain 0 2).contained (d.stream 1023).side = true ∧ (dev0.stream 0).resetting = none := by decide +kernel

/-- An empty plan. -/
def plan0 : Plan := ⟨[], [], [], 0, 0, 0, 0⟩

/-- A device with plan 0 loaded, job 1 in a state on cores 0 to 3, its cluster ON. -/
def devSched (j : Job) : Dev := { (dev0.setDom 0 2).setJob 1 j with plans := [(0, some plan0)] }

/-- A core of job 1. -/
def held1 (st : CState) : Core := ({ coreRun with state := st }.setFld Off.CORE_JOB Fl.CORE_JOB_JOB_VALID 1).setFld Off.CORE_JOB Fl.CORE_JOB_JOB 1

theorem test_premises_JobEvents_place :
    let d := (devSched { Job.free with state := .loaded, mask := 1, runs := 0, wants := some 0 }).setCore 3 { coreRun with state := .idle }
    d.plan (d.job 1).plan = some plan0 ∧ (d.job 1).state = .loaded ∧ inPatch (d.job 1).mask 3 = true ∧ (d.core 3).state = .idle ∧ (d.core 3).jobOf = none ∧ d.mayTake 1 = true
      ∧ d.clusterOn (clusterOf 3) = true ∧ d.bypassed (srcSeq (clusterOf 3)) = false ∧ plan0.overlays = [] ∧ (∃ q ∈ coresOf (d.job 1).mask, q ≠ 3 ∧ d.holds 1 q = false)
      ∧ (d.reg ((Block.seq (clusterOf 3)).base + Off.CS_PLACEMENTS)).toNat + 1 < 2 ^ 32 := by decide +kernel

/-- Job 1, SUSPENDED, with its slots at 0x100000. -/
def jobImage : Job := { Job.free with state := .suspended, mask := 1, wants := some 0, saveBase0 := 0x100000 }
/-- The image of its core 3, PARKED, with four bytes of WM. -/
def image3 : Image := { core := coreRun, job := 1, grants := [], whole := false, parked := true, tables := false, fixed := dev0.hbm.read 0x100000 6144, parts := [(0, 4)] }
/-- The device that holds both. -/
def devImage : Dev := { devSched jobImage with images := [(256 * 3 + 1, some image3)] }

theorem test_premises_JobEvents_leave :
    (let d := { (devSched { Job.free with state := .resident, mask := 1, runs := 1, request := some 0 }).setCore 3 (held1 .running) with tick := 5000 }
     (d.job 1).request.isSome = true ∧ (d.job 1).state = .resident ∧ (d.core 3).jobOf = some 1 ∧ (d.core 3).state = .running ∧ (d.core 3).pptEntry = none ∧ (d.core 3).gb = []
       ∧ (∀ e ∈ d.cores, e.2.out = []) ∧ (d.setDom 0 2).bypassed (srcSeq 0) = false
       ∧ d.fld (Block.sch.base + Off.SCH_EXP2) Fl.SCH_EXP2_FORCE_LIMIT ≤ d.tick - 0)
      ∧ (dev0.job 2).request = none
      ∧ (let d := (devSched { Job.free with state := .saving, mask := 1 }).setCore 3 { held1 .running with pptEntry := some 0 }
         d.plan (d.job 1).plan = some plan0 ∧ (d.job 1).state = .saving ∧ (d.coresHolding 1).filter (fun k => (d.core k).saveReady) = [3] ∧ d.coresHolding 1 = [3]
           ∧ ∀ k ∈ d.coresHolding 1, d.saveBad (d.job 1) plan0 k = false)
      ∧ Calm (devSched Job.free)
      ∧ (devImage.job 1 = jobImage ∧ jobImage.state = .suspended ∧ devImage.mayTake 1 = true ∧ (∀ k ∈ coresOf jobImage.mask, devImage.clusterOn (clusterOf k) = true) ∧ devImage.hbmUe = []
           ∧ devImage.contained (jobImage.slot 3 / hbmSize) = false ∧ devImage.inTable (jobImage.slot 3) (6144 + (image3.parts.map (·.2)).foldl (· + ·) 0) = false
           ∧ ∀ k ∈ coresOf jobImage.mask, k ≠ 3 → (devImage.image k 1).isNone = true)
      ∧ (devImage.image 3 1 = some image3 ∧ devImage.hbm.read (jobImage.slot 3) 6144 = image3.fixed)
      ∧ (let d := devSched { Job.free with state := .restoring, mask := 1, runs := 1 }
         (d.job 1).state = .restoring ∧ ¬((d.job 1).started = true ∧ (d.job 1).runs = 2))
      ∧ (let d := { (devSched { Job.free with state := .resident, mask := 1, runs := 1 }).setJob 2 { Job.free with state := .loaded, mask := 1, started := true, runs := 1, wants := some 0, cls := 1 } with tick := 250000 }
         let d := d.setCore 3 (held1 .running)
         (d.job 1).state = .resident ∧ (d.job 1).runs = 1 ∧ d.fld (Block.sch.base + Off.BE_SLICE) Fl.BE_SLICE_TICKS ≤ d.tick - (d.job 1).residentAt ∧ (d.job 1).request = none
           ∧ ∃ e ∈ d.jobs, d.waits e.1 = true ∧ d.wantClass e.1 = 1 ∧ 1 ∈ d.holders e.1) :=
  ⟨by decide +kernel, by decide +kernel, by decide +kernel, by unfold Calm; decide +kernel, by decide +kernel, ⟨rfl, rfl⟩, by decide +kernel, by decide +kernel⟩

/-- A batch of one core and one row, decided, placed, with its message sent or not. -/
def bat1 (cores sent : List Nat) : Batch := ⟨[(5, false)], cores, 0, 1, 0, 0, 100, 0, 0, 0, true, 0, sent⟩

theorem test_premises_BatchEvents :
    (dev0.scRuns 1 = false)
      ∧ (let d := (dev0.setFld ((Block.sc 0).base + Off.SC_STATUS) Fl.SC_STATUS_RUNNING 1).setStream 1023 str5
         (d.stream (1023 : Fin 1024)).live = true ∧ (d.stream 1023).side = (0 : Fin 2).val ∧ (d.stream 1023).release = false ∧ d.scRuns 0 = true ∧ d.scDone = [] ∧ d.jobs = [] ∧ ∀ b, b < 32 → (d.bat b).inflight = none ∧ d.batOn b = false)
      ∧ (let d := ((devSched { Job.free with state := .resident, mask := 1 }).setCore 3 (held1 .parked)).setBat 31 ⟨some (bat1 [2, 3] []), 0, 0⟩
         let d := d.setFld (Block.sch.base + Off.BAT_CFG 31) Fl.BAT_CFG_JOB 1
         (d.bat 31).inflight = some (bat1 [2, 3] []) ∧ (bat1 [2, 3] []).placed = true ∧ (bat1 [2, 3] []).cores.contains 3 = true ∧ (bat1 [2, 3] []).sent.contains 3 = false ∧ d.holds (d.batJob 31) 3 = true ∧ d.bypassed (srcSeq (clusterOf 3)) = false
           ∧ (∀ q, q < 32 → q ≠ 31 → (d.bat q).inflight = none) ∧ (d.core 3).state = .parked ∧ (bat1 [2, 3] []).sent.length + 1 < (bat1 [2, 3] []).cores.length)
      ∧ (let d (st : Nat) : Dev := { (((devSched { Job.free with state := .resident, mask := 1 }).setBat 0 ⟨some (bat1 [3] [3]), 0, 0⟩).setStream 5 { str5 with be := true, mirror := 0 }).setFld (Block.sch.base + Off.BAT_CFG 0) Fl.BAT_CFG_JOB 1 with scDone := [(0, st)] }
         let d (st : Nat) : Dev := (d st).setFld ((Block.sc 0).base + Off.SC_STATUS) Fl.SC_STATUS_RUNNING 1
         (d 0).scRuns 0 = true ∧ (dev0.doneStatus 0 = none) ∧ (d 0).doneStatus 0 = some 0 ∧ (d 1).doneStatus 0 = some 1 ∧ ((d 0).bat 0).inflight = some (bat1 [3] [3]) ∧ (d 0).plan ((d 0).batPlan 0) = some plan0 ∧ ((d 0).stream 5).be = true
           ∧ ((d 0).stream 5).mirror = 0 ∧ ((d 0).stream 5).release = false ∧ (plan0.field 6 1).testBit 3 = false ∧ ((d 1).job ((d 1).batJob 0)).state ≠ .free) :=
  ⟨by decide +kernel, by decide +kernel, by decide +kernel, by decide +kernel⟩

/-- The device in the midst of a change of both sides' pin rate: STATE as given, units pending and acknowledged; both fabrics are ON and the side controllers run. -/
def devEpoch (st : Nat) (pending acked : List Nat) (now : Nat) : Dev :=
  let d := [0, 1].foldl (fun d i => (d.setDom (shFabric i) 2).setFld ((Block.sc i).base + Off.SC_STATUS) Fl.SC_STATUS_RUNNING 1) dev0
  { d.setFld epo Fl.EP_STATUS_STATE st with epoch := some ⟨2, 1, (0, 0), (1, 1), 0, pending, acked, [], 0, false⟩, tick := now }

theorem test_premises_EpochEvents :
    (let d := devEpoch 1 [1, 3] [] 0
     d.epoch = some ⟨2, 1, (0, 0), (1, 1), 0, [1, 3], [], [], 0, false⟩ ∧ d.scRuns 1 = true ∧ [1, 3].contains (1 : Fin 6).val = true ∧ d.fld epo Fl.EP_STATUS_STATE = 1
       ∧ [1, 3].contains (5 : Fin 6).val = false ∧ d.tick - 0 < 25000)
      ∧ ((devEpoch 1 [] [1] 0).fld epo Fl.EP_STATUS_STATE = 1 ∧ (devEpoch 1 [] [1] 0).unitBypassed 1 = false ∧ ((devEpoch 1 [] [1] 0).contain 1 2).unitBypassed 1 = true)
      ∧ (devEpoch 4 [1] [] 0).fld epo Fl.EP_STATUS_STATE = 4
      ∧ ((devEpoch 1 [1] [] 25000).fld epo Fl.EP_STATUS_STATE = 1 ∧ 25000 ≤ (devEpoch 1 [1] [] 25000).tick - 0)
      ∧ ((devEpoch 2 [1] [] 25000).fld epo Fl.EP_STATUS_STATE = 2 ∧ (devEpoch 2 [1] [] 25000).contained (1 % 2) = false) :=
  ⟨by decide +kernel, by decide +kernel, by decide +kernel, by decide +kernel, by decide +kernel⟩

/-! ### Audio and frames -/

/-- Unit 0 runs, without a pacing slot or with slot 4 pacing it. -/
def devUnit (pace : Nat) (a : AUnit) : Dev := (dev0.setAunit 0 { a with running := true }).setFld (ublk 0 + Off.AP_PACE) Fl.AP_PACE_PACE_EN pace

/-- Slot 31 of port 0 with `wr` samples of 4 bytes in its playback ring at 0x20000. -/
def devSlot (x : ASlot) (wr : Nat) : Dev :=
  (((dev0.setAslot 0 31 x).setFld (ublk 0 + Off.SLOT_PB 31) Fl.SLOT_PB_MEM_W 1).setFld (ublk 0 + Off.PB_WR 31) Fl.PB_WR_POS wr).setReg (ublk 0 + Off.PB_BASE_LO 31) 0x20000

theorem test_premises_AudioSlots :
    (dev0.aunit 15).running = false
      ∧ (let d := devUnit 0 AUnit.off
         (d.aunit 0).running = true ∧ d.groupOf 0 = none ∧ d.pacingSlot 0 = none ∧ (∀ j, j < 64 → d.aslot 0 j = ASlot.off) ∧ (d.aunit 0).slipFrame ≠ 0 + 2
           ∧ ∀ j, j < 64 → d.fld (ublk 0 + Off.SLOT_CAP j) Fl.SLOT_CAP_CAP_EN = 0)
      ∧ (let d := devSlot { ASlot.off with pb := 2 } 1
         (d.aslot 0 31).pb = 2 ∧ 0 < d.pbFill 0 31 ∧ d.pbWidth 0 31 = 4 ∧ d.hbmUe = [] ∧ d.hbmCe = []
           ∧ (let b := d.pbBase 0 31 + d.pbRd 0 31 % d.pbCap 0 31 * 4
              d.contained (b / hbmSize) = false ∧ d.inTable b 4 = false))
      ∧ (let d := devSlot { ASlot.off with pb := 2 } 0
         d.pbFill 0 31 ≤ 0 ∧ (d.reg (ublk 0 + Off.AP_UNDERRUNS)).toNat + 1 < 2 ^ 32)
      ∧ (8192 ≤ ((devSlot { ASlot.off with pbMute := some 8192, capMute := some 8192 } 0).aslot 0 31).pbMute.getD 0)
      ∧ (let x := (devSlot { ASlot.off with pb := 3, pbK := 64, cap := 2, capK := 64 } 0).aslot 0 31
         x.pb = 3 ∧ 64 ≤ x.pbK ∧ x.cap = 2 ∧ 64 ≤ x.capK ∧ x.pb ≠ 5)
      ∧ (let x := (devSlot { ASlot.off with pb := 5, pbK := 256, cap := 4, capK := 256 } 0).aslot 0 31
         x.pb = 5 ∧ 256 ≤ x.pbK ∧ x.cap = 4 ∧ 256 ≤ x.capK ∧ x.pb ≠ 3) :=
  ⟨by decide +kernel, by decide +kernel, by decide +kernel, by decide +kernel, by decide +kernel, by decide +kernel, by decide +kernel⟩

theorem test_premises_AudioClock :
    (let d := devUnit 1 { AUnit.off with mode := 1, inBand := 48000 }
     (d.pacingSlot 0).isSome = true ∧ (d.aunit 0).running = true ∧ (d.aunit 0).mode = 1 ∧ d.loopMode 0 = 0 ∧ d.rateWait = false ∧ fsHz (d.rateOf 0) ≤ (d.aunit 0).inBand)
      ∧ (let d := { devUnit 1 { AUnit.off with mode := 2 } with tick := 25000 }
         (d.pacingSlot 0).isSome = true ∧ (d.aunit 0).running = true ∧ (d.aunit 0).mode = 2 ∧ (d.aunit 0).updated + 25000 ≤ d.tick)
      ∧ dev0.pacingSlot 19 = none
      ∧ (let d := dev0.setFld (apg + Off.APLL_CTRL) Fl.APLL_CTRL_REF 1
         d.awRef = true ∧ d.holdover = false ∧ (d.reg (apg + Off.AW_GLITCHES)).toNat + 1 < 2 ^ 32 ∧ (d.reg (apg + Off.AW_STOPS)).toNat + 1 < 2 ^ 32)
      ∧ dev0.awRef = false
      ∧ (dev0.setFld (apg + Off.APLL_STATUS) Fl.APLL_STATUS_HOLDOVER 1).holdover = true
      ∧ (let d := dev0.setFld (apg + Off.APLL_STATUS) Fl.APLL_STATUS_RATE_WAIT 1
         d.rateWait = true ∧ d.holdover = false) :=
  ⟨by decide +kernel, by decide +kernel, by decide +kernel, by decide +kernel, by decide +kernel, by decide +kernel, by decide +kernel⟩

/-- Camera 3 of engine 0, 64 × 32, with its rings in HBM and its engine ON; EN as given. -/
def devCam (en : Nat) (c : Cam) : Dev :=
  let d := { (dev0.setDom 36 2).setDom 40 2 with cams := [(3, c)] }
  let d := (d.setFld (fin + Off.CAM_GEOM 3) Fl.CAM_GEOM_MAX_W 64).setFld (fin + Off.CAM_GEOM 3) Fl.CAM_GEOM_MAX_H 32
  ((d.setReg (fin + Off.FB_BASE_LO 3) 0x200000).setReg (fin + Off.BS_BASE_LO 3) 0x400000).setFld (fin + Off.CAM_CFG 3) Fl.CAM_CFG_EN en

/-- A picture of that camera. -/
def pic : Pic := { cam := 3, len := 100, rap := true, listed := true, codec := 0, width := 64, height := 32, ten := false, dpb := 4, order := 1 }

theorem test_premises_FrameIntake_decode :
    (let d := devCam 0 { Cam.fresh with pendingEn := true }
     (d.cam 3).pendingEn = true ∧ d.domOn (shEngine (d.camEngine 3)) = true ∧ d.camReason 3 = 0)
      ∧ (let d := (devCam 0 { Cam.fresh with pendingEn := true }).setFld (fin + Off.CAM_GEOM 3) Fl.CAM_GEOM_MAX_W 63
         (d.cam 3).pendingEn = true ∧ d.camReason 3 ≠ 0)
      ∧ (let d := devCam 1 { Cam.fresh with bsWr := 100 }
         let p := { pic with codec := if d.fld (fin + Off.CAM_CFG 3) Fl.CAM_CFG_CODEC = 0 then 0 else 1 }
         d.domOn (shEngine 0) = true ∧ d.engines = [] ∧ d.camEn p.cam = true ∧ d.camEngine p.cam = 0 ∧ p.len ≤ d.bsHeld p.cam ∧ p.width ≤ d.camW p.cam ∧ p.height ≤ d.camH p.cam
           ∧ p.dpb ≤ d.camCount p.cam - 2 ∧ p.codec.val = d.fld (fin + Off.CAM_CFG p.cam) Fl.CAM_CFG_CODEC ∧ p.rap = true ∧ p.listed = true ∧ p.ten = false
           ∧ d.hbmUe = [] ∧ d.hbmCe = [] ∧ d.contained (d.bsBase p.cam / hbmSize) = false ∧ d.contained ((d.bsBase p.cam + (d.cam p.cam).bsRd % d.bsSize p.cam) / hbmSize) = false)
      ∧ (∀ order ∈ [0, 1], let d := devCam 1 { Cam.fresh with refs := [5, 6] }
         let d := { d with engines := [(0, some ⟨3, 0, 64, 32, order, d.poolBase 3, d.slotBytes 3, d.camCount 3, false⟩)] }
         d.contained (d.poolBase 3 / hbmSize) = false ∧ (d.cam 3).ahead = [] ∧ (5 : Fin 20).val < d.camCount 3 ∧ d.slotFree (d.poolBase 3 + 5 * d.slotBytes 3) = true
           ∧ 5 ∉ (d.cam 3).refs.filter (fun i => !(([5] : List Nat).contains i))
           ∧ (d.reg (fin + Off.CAM_FRAME 3)).toNat + order + 1 < 2 ^ 32 ∧ (d.reg (fin + Off.CAM_DROPS 3)).toNat + 1 < 2 ^ 32
           ∧ d.poolBase 3 + 5 * d.slotBytes 3 + 3072 ≤ 2 * hbmSize ∧ d.inTable (d.poolBase 3 + 5 * d.slotBytes 3) 3072 = false
           ∧ d.contained ((d.poolBase 3 + 5 * d.slotBytes 3) / hbmSize) = false ∧ 3072 = 64 * 32 + 64 * 32 / 2) :=
  ⟨by decide +kernel, by decide +kernel, by decide +kernel, by decide +kernel⟩

theorem test_premises_FrameIntake_scale :
    (let d := { dev0.setDom shScaler 2 with frames := [⟨3, 1, 0x200000, 64, 32, false, [7]⟩] }
     d.domOn shScaler = true ∧ d.frames = [⟨3, 1, 0x200000, 64, 32, false, [7]⟩] ∧ d.fld (fin + Off.OUT_CFG 31) Fl.OUT_CFG_EN = 0
       ∧ (d.setFld (fin + Off.OUT_CFG 31) Fl.OUT_CFG_EN 1).fld (fin + Off.OUT_CFG 31) Fl.OUT_CFG_EN = 1)
      ∧ (let ring (held : Nat) : Core := (((held1 .running).setFld (Off.RING_CFG 0) Fl.RING_CFG_EN 1).setFld (Off.RING_CFG 0) Fl.RING_CFG_SLOTS 1).setFld (Off.RING_CFG 0) Fl.RING_CFG_MODE 1
           |>.setRingSt 0 ⟨0, 0, held, 0, 0⟩
         let d (held now : Nat) : Dev := { dev0.setCore 0 (ring held) with tensors := [(511, some ⟨9, 0, [1, 2], 0⟩)], tick := now }
         (d 0 0).tensor 511 = some ⟨9, 0, [1, 2], 0⟩ ∧ (d 0 0).ringUsable 511 2 = true ∧ ((d 0 0).core ((d 0 0).outRing 511).1).ringRoom ((d 0 0).outRing 511).2 = true
           ∧ ((d 1 0).core ((d 1 0).outRing 511).1).ringRoom ((d 1 0).outRing 511).2 = false ∧ (d 1 25000).fld (fin + Off.OUT_WAIT) Fl.OUT_WAIT_TICKS ≤ (d 1 25000).tick - 0
           ∧ ((d 1 0).reg (fin + Off.OUT_DROPS 511)).toNat + 1 < 2 ^ 32) :=
  ⟨by decide +kernel, by decide +kernel⟩


theorem test_premises_AudioAndFrames_calm : Calm (devSlot { ASlot.off with pb := 2 } 1) ∧ Calm (devCam 1 Cam.fresh) := by unfold Calm; decide +kernel
/-! ### Casements, Panes, the mirror engine -/

/-- A frame's header with sequence number `n`. -/
def hdr (n : Nat) : Hdr := ⟨false, false, false, BitVec.ofNat 16 n, 0, 0, 0⟩

/-- Pane `p` in a state. -/
def devPane (p st : Nat) : Dev := dev0.setFld (opt + Off.PANE_STATUS p) Fl.PANE_STATUS_STATE st

/-- Casement 1 in a state, with light. -/
def devCase (st : Nat) : Dev := (dev0.setFld (opt + Off.CASE_STATUS 1) Fl.CASE_STATUS_STATE st).setFld (opt + Off.CASE_STATUS 1) Fl.CASE_STATUS_LIGHT 1

theorem test_premises_LinkBringUp :
    (let d := dev0.setDom 44 2
     d.caseState 1 = 0 ∧ d.boot.down.contains (3 + (1 : Fin 2).val) = false ∧ d.domOn (shCase 1) = true)
      ∧ dev0.domOn (shCase 1) = false ∧ (devCase 1).caseState 1 = 1 ∧ dev0.caseState 0 ≠ 1 ∧ ((devCase 2).setDom 44 2).domOn (shCase 1) = true ∧ ((devCase 2).setDom 44 2).fld (opt + Off.CASE_STATUS 1) Fl.CASE_STATUS_LIGHT = 1
      ∧ ((devCase 2).caseState 1 = 2 ∧ ((devCase 2).fld (opt + Off.OPT_EXP) Fl.OPT_EXP_TUNE_HOLD).testBit 1 = false ∧ 2 < (3 : BitVec 8).toNat ∧ (2 : BitVec 8).toNat ≤ 2)
      ∧ (let d := (devCase 2).setFld (opt + Off.PANE_STATUS 7) Fl.PANE_STATUS_STATE 2
         2 ≤ d.paneState (4 * 1 + 3) ∧ (d.pane 7).near = false ∧ d.leftNow 7 = false)
      ∧ ((devCase 2).paneState 7 < 2 ∧ ((devCase 2).waiting (srcCase 7)).length < 8 ∧ ((devCase 2).setPane 7 { PaneSt.dark with near := true }).pane 7 = { PaneSt.dark with near := true } ∧ dev0.leftNow 7 = false)
      ∧ (devPane 7 1).paneState 7 = 1 ∧ ((devPane 7 4).paneState 7 = 4 ∧ ((devPane 7 4).reg (opt + Off.DOWNS 7)).toNat + 1 < 2 ^ 32 ∧ (devPane 7 4).isBond 7 = false)
      ∧ ((devPane 7 3).paneState 7 = 3 ∧ ((devPane 7 3).pane 7).helloAt = none ∧ ((devPane 7 3).pane 7).gotHello = false ∧ ((devPane 7 3).pane 7).since + 250000 ≤ { devPane 7 3 with tick := 250000 }.tick)
      ∧ ((devPane 7 3).setPane 7 { PaneSt.dark with gotHello := true }).pane 7 = { PaneSt.dark with gotHello := true } :=
  by refine ⟨?_, ?_, ?_, ?_, ?_, ?_, ?_, ?_, ?_, ?_, ?_, ?_⟩ <;> decide +kernel

/-- Pane 7 UP with its audio unit running, WEIGH channel 9 bound, and camera 3 bound to VIDEO channel 2. -/
def devUp : Dev :=
  let d := { ((devPane 7 4).setAunit 15 { AUnit.off with running := true }).setFld (ublk 15 + Off.AP_CTRL) Fl.AP_CTRL_EN 1 with weighBind := [(7, 9)] }
  ((d.setFld (fin + Off.CAM_CFG 3) Fl.CAM_CFG_EN 1).setFld (fin + Off.CAM_SRC 3) Fl.CAM_SRC_KIND 1).setFld (fin + Off.CAM_SRC 3) Fl.CAM_SRC_ID (7 * 4096 + 2)

theorem arrives_audio : Arrives devUp 7 tAUDIO 0 (hdr 0) := by constructor <;> first | decide +kernel | (unfold below; decide +kernel)
theorem arrives_video : Arrives devUp 7 tVIDEO 2 (hdr 0) := by constructor <;> first | decide +kernel | (unfold below; decide +kernel)
theorem arrives_weigh : Arrives devUp 7 tWEIGH 9 (hdr 0) := by constructor <;> first | decide +kernel | (unfold below; decide +kernel)

theorem test_premises_LinkFrames :
    Arrives devUp 7 tAUDIO 0 (hdr 0) ∧ Arrives devUp 7 tVIDEO 2 (hdr 0) ∧ Arrives devUp 7 tWEIGH 9 (hdr 0)
      ∧ ((devUp.pane 7).uncors = [] ∧ (devUp.reg (opt + Off.CRC_ERR 7)).toNat + 1 < 2 ^ 32 ∧ (devUp.reg (opt + Off.DROPS 7)).toNat + 1 < 2 ^ 32 ∧ dev0.paneState 7 < 2)
      ∧ (devUp.unitRuns 15 = true ∧ (devUp.aslot 15 63).nextCap ≤ (0 : BitVec 48).toNat)
      ∧ (devUp.chanCamera 7 2 = some 3 ∧ devUp.bsHeld 3 + 240 ≤ devUp.bsSize 3)
      ∧ (let c := devUp.chan (devUp.chanKey 7 tWEIGH 9)
         c.expect ≠ (hdr 32767).seq.toNat ∧ seqPast (hdr 32767).seq.toNat c.expect = true ∧ c.nakAt = none)
      ∧ (let d := { devUp.setChan (devUp.chanKey 7 tWEIGH 9) { Chan.fresh with nakAt := some 100, starved := some 0 } with tick := 600 }
         let c := d.chan (d.chanKey 7 tWEIGH 9)
         c.nakAt = some 100 ∧ 100 + 500 ≤ d.tick ∧ { d with tick := 599 }.tick < 100 + 500 ∧ c.starved = some 0 ∧ c.noted = false
           ∧ 0 + d.fld (opt + Off.OPT_CREDIT_LIMIT) Fl.OPT_CREDIT_LIMIT_TICKS < { d with tick := 25001 }.tick ∧ { d with tick := 25000 }.tick ≤ 0 + d.fld (opt + Off.OPT_CREDIT_LIMIT) Fl.OPT_CREDIT_LIMIT_TICKS)
      ∧ devUp.receives 7 = true
      ∧ ((devUp.credited 7).contains ((2 : Fin 8).val, (2 : Fin 4096).val) = true ∧ (devUp.chan (devUp.chanKey 7 2 2)).credAt + 2500 ≤ { devUp with tick := 2500 }.tick
          ∧ (devUp.chan (devUp.chanKey 7 2 2)).starved = none) :=
  ⟨arrives_audio, arrives_video, arrives_weigh, by decide +kernel, by decide +kernel, by decide +kernel, by decide +kernel, by decide +kernel, by decide +kernel, by decide +kernel⟩

theorem arrives_control : Arrives devUp 7 tCONTROL 0 (hdr 0) := by constructor <;> first | decide +kernel | (unfold below; decide +kernel)

theorem test_premises_LinkControl :
    Arrives devUp 7 tCONTROL 0 (hdr 0)
      ∧ ((devPane 7 3).paneState 7 = 3 ∧ (devPane 7 3).panePrbs 7 = false ∧ ((devPane 7 3).pane 7).gotHello = false ∧ ((devPane 7 3).pane 7).acked = false ∧ (devPane 7 3).isBond 7 = false)
      ∧ (devUp.paneState 7 = 4 ∧ devUp.reg64 (opt + Off.PANE_PEER_LO 7) (opt + Off.PANE_PEER_HI 7) ≠ (5 : BitVec 64).toNat)
      ∧ (let d := { devUp.setPane 7 { PaneSt.dark with query := some 0, nonce := 65535 } with tick := 50000 }
         (d.pane 7).query = some 0 ∧ (d.pane 7).nonce < 65536 ∧ 0 + 50000 ≤ d.tick)
      ∧ (devUp.pane 7).query = none ∧ dev0.paneState 7 = 0
      ∧ ((devPane 7 2).paneState 7 = 2 ∧ ((devPane 7 2).reg (opt + Off.FRAMES_TX 7)).toNat + 1 < 2 ^ 32)
      ∧ (let d := devUp.setPane 7 { PaneSt.dark with audioAt := some 12 }
         let c := d.chan (d.chanKey 7 tAUDIO 0)
         d.paneState 7 = 4 ∧ (d.pane 7).audioAt = some 12 ∧ c.ackOwed = false ∧ c.nakOwed = false ∧ c.credOwed = false) :=
  ⟨arrives_control, by decide +kernel, by decide +kernel, by decide +kernel, by decide +kernel, by decide +kernel, by decide +kernel, by decide +kernel⟩

/-- Pane 0 UP on the bond with the mirror engine enabled. -/
def devMir : Dev := (((devPane 0 4).setFld (Block.gctl.base + Off.DEV_INFO) Fl.DEV_INFO_ROLE 1).setFld (Block.mir.base + Off.MIR_CFG) Fl.MIR_CFG_EN 1).setDom shMirror 2

theorem arrives_mirror : Arrives devMir 0 tMIRROR 0 (hdr 0) := by constructor <;> first | decide +kernel | (unfold below; decide +kernel)

theorem test_premises_MirrorFrames :
    Arrives devMir 0 tMIRROR 0 (hdr 0) ∧ (devMir.chan (devMir.chanKey 0 tMIRROR 0)).window = [] ∧ devMir.rx 5 = none
      ∧ (let d := (devMir.setRx 5 (some ⟨7, false, [(0, [1, 2, 3, 4])]⟩)).setStream 5 { str5 with mirror := 3, step := 7 }
         d.rx 5 = some ⟨7, false, [(0, [1, 2, 3, 4])]⟩ ∧ 0 + 4 ≤ (d.stream 5).ctxSize ∧ d.contained (d.stream 5).side = false ∧ (d.stream 5).state ≠ 0 ∧ (d.stream 5).mirror = 3
           ∧ serialGE (7 : Word) (wd (d.stream 5).step) = true ∧ (d.stream 5).ctxPtr + (d.stream 5).ctxSize ≤ 2 * hbmSize ∧ d.contained ((d.stream 5).ctxPtr / hbmSize) = false ∧ d.inTable (d.stream 5).ctxPtr 4 = false ∧ d.hbmUe = [] ∧ d.hbmCe = [] ∧ d.isImage 5 = true)
      ∧ (let x := (devMir.setStream 5 str5).stream 5
         x.state ≠ 0 ∧ x.mirror = 1 ∧ serialGE (0 : Word) (wd x.ackStep) = true)
      ∧ (let d := (devMir.setDom 0 2).setFld ((Block.seq 0).base + Off.CS_STATUS) Fl.CS_STATUS_READY 1
         let d := d.setLu 0 { d.lu 0 with words := [(4095, { LWord.zero with kind := 3 })] }
         (4094 : Fin 4096).val + 1 < 4096 ∧ d.reachable 0 = true ∧ ((d.lu 0).word 4095).kind = 3 ∧ serialGE (9 : Word) ((d.lu 0).val 4095) = true ∧ d.fwdOf 0 4094 = none ∧ (d.lu 0).watches = [] ∧ 4094 + 1 ∉ (d.lu 0).ue ∧ (d.reg (mirb + Off.MIR_REJECTS)).toNat + 1 < 2 ^ 32)
      ∧ devMir.partner ≤ 1
      ∧ (let x := (devMir.setStream 5 { str5 with state := 1 }).stream 5
         x.state = 1 ∧ x.mirror ≠ 3 ∧ x.resetting = none) :=
  ⟨arrives_mirror, by decide +kernel, by decide +kernel, by decide +kernel, by decide +kernel, by decide +kernel, by decide +kernel, by decide +kernel⟩

theorem test_premises_MirrorEngine :
    (let d := { devMir.setStream 5 { str5 with snapPend := true } with mir := { Mir.fresh with snapQ := [(5, 7)], formed := true }, tick := 25000 }
     d.mir.snapQ = [(5, 7)] ∧ (d.stream 5).snapPend = true ∧ str5.snapPend = false ∧ (d.stream 5).mirror = 1 ∧ d.mirOn = true ∧ d.contained (d.stream 5).side = false
       ∧ (∀ r ∈ d.snapRanges (d.stream 5), d.contained (((d.stream 5).ctxPtr + r.1) / hbmSize) = false) ∧ d.hbmUe = [] ∧ d.hbmCe = [] ∧ d.stagedBytes 0 + ((d.snapRanges (d.stream 5)).map (·.2)).foldl (· + ·) 0 ≤ 4096 * d.fld (mirb + Off.MIR_STAGE_SIZE 0) Fl.MIR_STAGE_SIZE_UNITS
       ∧ (∀ r ∈ d.snapRanges (d.stream 5), d.inTable ((d.stream 5).ctxPtr + r.1) r.2 = false) ∧ d.inTable (d.reg64 (mirb + Off.MIR_STAGE_LO 0) (mirb + Off.MIR_STAGE_HI 0)) 4096 = false
       ∧ d.mir.formed = true ∧ d.mir.hbSent + 25000 ≤ d.tick)
      ∧ (dev0.mir.snapQ = [] ∧ dev0.tick < dev0.mir.hbSent + 25000 ∧ dev0.tick ≤ dev0.mir.hbSeen + 201000 ∧ dev0.mir.withheld = none ∧ (dev0.stream 5).restoring = none
          ∧ (dev0.stream 5).mirror = 0)
      ∧ (let d := { devMir.setPartner 1 with tick := 201001 }
         d.mirOn = true ∧ d.partner = 1 ∧ d.mir.hbSeen + 201000 < d.tick ∧ d.autoAdopt = false)
      ∧ (let d := (devMir.setPartner 2).setFld (mirb + Off.MIR_EXP) Fl.MIR_EXP_AUTO_ADOPT 1
         let ask (l : List Bool) : Dev := { d with mir := { Mir.fresh with asking := true, answers := l } }
         d.partner = 2 ∧ d.autoAdopt = true ∧ (ask [false, true]).mir.asking = true ∧ (ask [false, true]).mir.queries = [] ∧ (∃ a ∈ (ask [false, true]).mir.answers, a = true)
           ∧ (ask [false]).mir.answers ≠ [] ∧ (∀ a ∈ (ask [false]).mir.answers, a = false))
      ∧ (let d := { (devMir.setPartner 2).setFld (mirb + Off.MIR_EXP) Fl.MIR_EXP_AUTO_ADOPT 1 with mir := { Mir.fresh with withheld := some 0 }, tick := 25000000 }
         d.mir.withheld = some 0 ∧ d.partner = 2 ∧ d.autoAdopt = true ∧ 0 + 25000000 ≤ d.tick)
      ∧ (let d := { dev0.setStream 5 { str5 with restoring := some 0 } with tick := 2500000 }
         (d.stream 5).restoring = some 0 ∧ (d.stream 5).release = false ∧ 0 + 2500000 ≤ d.tick) :=
  ⟨by decide +kernel, by decide +kernel, by decide +kernel, by decide +kernel, by decide +kernel, by decide +kernel⟩


theorem test_premises_Links_calm : Calm devUp ∧ Calm devMir := by unfold Calm; decide +kernel
/-! ### The host interface -/

/-- Function `f`'s submission ring holds one command, and nothing else waits. -/
def devTurn (f : Nat) : Dev :=
  ((dev0.setFld (rbase f .sq + Off.X_CFG) Fl.X_CFG_EN 1).setFld (rbase f .sq + Off.X_CFG) Fl.X_CFG_SIZE 8).setFld (rbase f .sq + Off.X_HPOS) Fl.X_HPOS_POS 1

/-- An entry of a best-effort stream without a source, of plan 0, its context at 0x20000 and its ring at 0x40000. -/
def entry0 : List Byte :=
  [8, 0, 0, 0, 0, 0, 1, 0] ++ natLE 6 0x20000 ++ [0, 0, 0, 1, 0, 4] ++ natLE 6 0x40000 ++ [0, 0, 64, 0, 0] ++ List.replicate 33 0

/-- A plan whose layout that entry keeps. -/
def plan1 : Plan := ⟨List.replicate 24 0 ++ natLE 8 0x20000 ++ natLE 4 256 ++ natLE 8 0x40000 ++ [0, 4, 0, 0, 64, 0, 0, 0], [], [], 0, 0, 0, 0⟩

/-- The device with that plan, a batcher of it on side 0, and PF0's command waiting. -/
def devAdmit : Dev := { (devTurn 0).setFld (Block.sch.base + Off.BAT_CFG 0) Fl.BAT_CFG_EN 1 with plans := [(0, some plan1)] }

theorem test_premises_HostCommands :
    (dev0.hasTurn 32 = false ∧ (devTurn 32).hasTurn 32 = true ∧ (devTurn 0).hasTurn 0 = true ∧ (devTurn 0).fld (Block.boot.base + Off.BOOT_STATUS) Fl.BOOT_STATUS_STATE ≠ 2)
      ∧ ({ dev0 with longs := [⟨5, 1, 0x41, 0, 0, [], 0, 1, 0, false, false, [], []⟩] }.longs.any (fun x => x.fn == (5 : Fin 33).val) = true)
      ∧ (let d := { devTurn 5 with longs := [⟨5, 1, 0x41, 0, 0, [], 0, 1, 0, false, false, [], []⟩] }
         d.hasTurn 5 = true ∧ { d with fenced := [5] }.takes 5 = false ∧ leAt [0, 1] 1 1 % 2 = 1)
      ∧ (entry0.length = 64 ∧ ((taken devAdmit 0).callSide.admitStream 0 (entry0.take 48 ++ List.replicate 16 0) false).1 = 0
          ∧ ((taken devAdmit 0).callSide.admitStream 1 (entry0.take 48 ++ List.replicate 16 0) false).1 ≠ 0)
      ∧ (let y := Stream.ofBytes (entry0.take 48 ++ List.replicate 16 0)
         ((2 : Fin 33).val == 0 || (y.client + 1 == (2 : Fin 33).val && (!(y.srcKind == 3 || y.srcKind == 4) || y.srcId / 256 % 32 + 1 == (2 : Fin 33).val))) = false)
      ∧ (let y := Stream.ofBytes (entry0.take 48 ++ List.replicate 16 0)
         let d := (taken devAdmit 0).setStream 0 y
         (d.callSide.modify 0 (entry0.take 48 ++ List.replicate 16 0)).1 = 0 ∧ (d.stream 0).state = 1 ∧ (d.stream 0).resetting = none)
      ∧ (dev0.stream 7).state = 0 ∧ ((dev0.setStream 7 { str5 with state := 2 }).stream 7).state = 2
      ∧ (4095 : Nat) < 4096 ∧ dev0.plan 65535 = none ∧ (devAdmit.plan 0).isSome = true ∧ (∀ e ∈ devAdmit.jobs, e.2.state = .free ∨ e.2.plan ≠ 0) ∧ plan1.client + 1 ≠ 2
      ∧ (∃ x ∈ [(⟨5, 1, 0x41, 0, 0, [], 0, 1, 0, true, false, [], []⟩ : Long)], x.fn = (5 : Fin 33).val ∧ x.token = (1 : Word).toNat ∧ x.begun = true) :=
  by refine ⟨?_, ?_, ?_, ?_, ?_, ?_, ?_, ?_, ?_, ?_, ?_, ?_, ?_, ?_⟩ <;> decide +kernel

/-- A plan with one adaptation entry that a round may take. -/
def planAdapt : Plan := ⟨List.replicate 7 0 ++ [1], [], [1, 0, 0, 0, 0, 0, 0, 0] ++ [0, 1, 1, 1, 0, 1, 0, 0, 0, 0, 0, 0] ++ List.replicate 84 0, 0, 0, 0, 0⟩

theorem test_premises_LongCommandsBegin :
    let d := { (devTurn 2).setJob 1 { Job.free with state := .loaded, client := 1, cls := 1 } with plans := [(0, some planAdapt)] }
    d.hasTurn 2 = true ∧ d.fld (Block.boot.base + Off.BOOT_STATUS) Fl.BOOT_STATUS_STATE ≠ 2 ∧ d.longs.length < 16 ∧ (d.longs.filter (fun x => x.fn == (2 : Fin 33).val)).length < 4
      ∧ (4096 ≤ (4096 : Word).toNat ∧ 0xFFFFF000 + (4096 : Word).toNat ≤ 0x100000000 ∧ d.plan 1 = none ∧ ∀ x ∈ d.longs, x.op ≠ 0x10)
      ∧ (d.setFld (Block.hif.base + Off.ALLOT 1) Fl.ALLOT_SIZE0 1).allotHas 1 0 0 0x10000000 = true
      ∧ (d.plan 0 = some planAdapt ∧ planAdapt.adaptRefusal = none ∧ (d.job 1).state = .loaded ∧ (d.job 1).plan = 0 ∧ (d.job 1).cls = 1 ∧ (d.job 1).client + 1 = (2 : Fin 33).val ∧ d.batNamed 1 = false)
      ∧ 16 ≤ (List.replicate 16 (⟨0, 1, 0x41, 0, 0, [], 0, 1, 0, true, false, [], []⟩ : Long)).length := by decide +kernel

/-- A long command of function 0, with a token, an operation, what it has done and its total. -/
def long0 (op done total : Nat) (begun : Bool) (aborts : List Nat) : Long := ⟨0, 9, op, 3, 0, List.replicate 64 0, done, total, 0, begun, false, aborts, []⟩

theorem test_premises_LongCommandSteps :
    (dev0.longs[(15 : Fin 16).val]? = none)
      ∧ (let x : Long := { long0 0x41 7 8 true [] with owed := [2] }
         let d := { devTurn 2 with longs := [x] }
         x.owed.any d.takes = true ∧ (long0 0x41 7 8 true []).owed.any d.takes = false ∧ x.owed.any dev0.takes = false ∧ x.aborts = [])
      ∧ (let d (x : Long) : Dev := { dev0 with longs := [x] }
         (d (long0 0x10 0 4096 false [])).longs[(0 : Fin 16).val]? = some (long0 0x10 0 4096 false []) ∧ headerCheck (List.replicate 8 0) 3 4096 ≠ 0
           ∧ (dev0.hbmWrite 0 none 0 []).liveOk [] 0 4096 = true
           ∧ (dev0.hbmWrite 0 none 0 []).planOf [] 0 32 = some ⟨[], [], [], 0, 32, 0, 0⟩)
      ∧ (let j (st : JState) (go : Bool) := (dev0.setJob 0 { Job.free with state := st, started := go }).job (leAt (long0 0x20 0 100 true []).entry 8 1)
         (j .failed false).state = .failed ∧ (j .loaded false).state = .loaded ∧ (j .loaded false).started = false ∧ (j .resident true).started = true ∧ (j .resident true).state ≠ .failed
           ∧ dev0.fld (Block.gctl.base + Off.EP_STATUS) Fl.EP_STATUS_STATE = 0 ∧ (long0 0x20 0 100 true []).broken = false ∧ { long0 0x20 0 100 true [] with broken := true }.broken = true)
      ∧ ((long0 0x40 1048576 2000000 true []).done ≠ 0 ∧ leAt (long0 0x41 7 8 true []).entry 8 1 = (0 : Fin 2).val ∧ dev0.contained 0 = false ∧ (long0 0x41 7 8 true []).done + 1 = (long0 0x41 7 8 true []).total
          ∧ (long0 0x41 7 8 true [5]).aborts = [5]) :=
  ⟨by decide +kernel, by decide +kernel, by decide +kernel, by decide +kernel, by decide +kernel⟩

theorem test_premises_HostInterface :
    (let d := dev0.setFld (Block.hif.base + Off.ALLOT 31) Fl.ALLOT_SIZE0 1
     0xFFFFFFC % 4 = 0 ∧ 0xFFFFFFC + 4 ≤ d.fld (Block.hif.base + Off.ALLOT 31) Fl.ALLOT_SIZE0 * 0x10000000
       ∧ d.fld (Block.hif.base + Off.ALLOT 31) Fl.ALLOT_SIZE0 * 0x10000000 + d.fld (Block.hif.base + Off.ALLOT 31) Fl.ALLOT_SIZE1 * 0x10000000 ≤ 0x10000000
       ∧ d.fld (Block.hif.base + Off.ALLOT 31) Fl.ALLOT_BASE0 * 0x10000000 + 0xFFFFFFC < 0x400000000 ∧ d.contained 0 = false
       ∧ 0xFFFFFFC + 4 ≤ d.bar2Size 31 ∧ d.bar2Size 31 ≤ 0x10000000 ∧ 0x10000000 ≤ 0x10000004 ∧ 0x10000004 < (d.setPci 2 2 7).bar2Size 31)
      ∧ ((dev0.setFld ((Block.mesh 0).base + Off.MESH_STATUS) Fl.MESH_STATUS_CONTAINED 1).contained 0 = true)
      ∧ (let f : Flight := ⟨0, 0, 0x20080, 4, [], [(0x1000, 4)], 0, 8, 1, 0, false, 0, false, none⟩
         let c : Core := { coreRun with xfers := [xf none 1 [f] [] []] }
         ((dev0.setCore 3 c).core 3).xfer 1 = some (xf none 1 [f] [] []) ∧ (xf none 1 [f] [] []).flights[0]? = some f ∧ f.host = 1 ∧ f.hostAt + 1250 ≤ { dev0 with tick := 1258 }.tick ∧ { dev0 with tick := 1257 }.tick < f.hostAt + 1250 ∧ [(1 : Byte), 2, 3, 4].length = (f.hostSrc.map (·.2)).foldl (· + ·) 0)
      ∧ (let r := rbase 2 (.sr 63)
         let d := ((dev0.setFld (r + Off.X_CFG) Fl.X_CFG_EN 1).setFld (r + Off.X_CFG) Fl.X_CFG_SIZE 1).setFld (r + Off.X_HPOS) Fl.X_HPOS_POS 64
         let d := d.setStream 5 { str5 with mirror := 0, srcKind := 3, srcId := 256 * 1 + 63 }
         d.ringOn (1 + 1) (.sr 63) = true ∧ 0 < d.offered (1 + 1) (.sr 63) ∧ 64 ≤ d.offered (1 + 1) (.sr 63) ∧ d.consumerOf 1 63 = some (.stream 5)
           ∧ (d.reg (Block.hif.base + Off.HIF_HOST_ERR)).toNat + 1 < 2 ^ 32)
      ∧ (let d := (dev0.setReg (fnBase 32 + Off.MSIX_PBA (63 / 32)) 0x80000000).setDom shPcie 2
         (d.reg (fnBase 32 + Off.MSIX_PBA (63 / 32))).toNat.testBit (63 % 32) = true ∧ (d.reg (fnBase 32 + Off.MSIX_PBA (62 / 32))).toNat.testBit (62 % 32) = false ∧ d.msixOff = [] ∧ d.bmeOff = [] ∧ d.answers (.ring (32 - 1)) = true
           ∧ d.locked (.ring (32 - 1)) = false ∧ domainFor (.ring (32 - 1)) = some shPcie ∧ d.domOn shPcie = true ∧ d.held = []
           ∧ (let e := dev0.setReg (secb + Off.SEC_LOCK0) 4
              e.locked .pf0ring = true ∧ (e.waiting 0).length < 8 ∧ e.answers .pf0ring = true))
      ∧ (let d := dev0.setJob 1 { Job.free with state := .resident, client := 4 }
         d.jobs.filter (fun e => e.2.state != .free && e.2.client == 4) = [(1, { Job.free with state := .resident, client := 4 })] ∧ (∀ e ∈ d.jobs, e.2.client ≠ 3) ∧ ∀ x ∈ d.longs, x.fn ≠ 4 + 1)
      ∧ (let d := ((dev0.setFld ((Block.mesh 1).base + Off.MESH_STATUS) Fl.MESH_STATUS_CONTAINED 1).setFld (Block.hif.base + Off.HIF_STATUS) Fl.HIF_STATUS_READY 1).setFld (Block.boot.base + Off.BOOT_STATUS) Fl.BOOT_STATUS_STATE 1
         d.contained 0 = false ∧ d.contained 1 = true ∧ d.fld (Block.hif.base + Off.HIF_STATUS) Fl.HIF_STATUS_READY = 1 ∧ d.fld (Block.boot.base + Off.BOOT_STATUS) Fl.BOOT_STATUS_STATE = 1)
      ∧ (150 ≤ (750 : BitVec 16).toNat ∧ (750 : BitVec 16).toNat ≤ 750 ∧ 750 < (751 : BitVec 16).toNat ∧ (149 : BitVec 16).toNat < 150) ∧ dev0.alerts = 0 ∧ { dev0 with alerts := 5 }.alerts ≠ 0 :=
  by refine ⟨?_, ?_, ?_, ?_, ?_, ?_, ?_, ?_, ?_, ?_⟩ <;> decide +kernel

/-! ### Power, clocks, rails, sensors, the record log -/

/-- The Sill with a queue, at a tick; domain `n` in a state. -/
def devSill (q : List (Nat × Nat)) (n st : Nat) : Dev := { dev0.setDom n st with sill := { Sill.fresh with queue := q, next := 5 }, tick := 5 }

theorem test_premises_Shutters :
    ({ devSill [] 0 0 with tick := 4 }.tick < (devSill [] 0 0).sill.next ∧ (devSill [] 0 0).sill.next ≤ (devSill [] 0 0).tick ∧ (devSill [] 0 0).sill.queue = [])
      ∧ (let d := devSill [(49, 2), (3, 0)] 49 0
         d.sill.queue = [(49, 2), (3, 0)] ∧ d.switching 49 = none ∧ d.dom 49 ≠ 2 ∧ d.domBarred 49 = false)
      ∧ ((devSill [(36, 2)] 36 2).dom 36 = 2 ∧ (devSill [(31, 2)] 31 0).domOn (32 + 31 / 16) = false)
      ∧ (let d := devSill [(0, 1)] 0 2
         d.switching 0 = none ∧ d.dom 0 = 2 ∧ d.closable 0 = true ∧ d.awaited 0 = false ∧ (d.lu 0).watches = [] ∧ (d.lu 0).waiting = [])
      ∧ (let d (target now : Nat) : Dev := { dev0 with sill := { Sill.fresh with busy := [(33, some (target, 10)), (46, some (target, 10))] }, tick := now }
         (d 1 10).switching 33 = some (1, 10) ∧ (d 2 10).domPolicy 33 ≠ 3 ∧ (d 2 1509).tick < 10 + 1500 ∧ 10 + 1500 ≤ (d 2 1510).tick ∧ (d 2 1510).held = []
           ∧ ((d 2 10).setFld (domOff 46) Fl.PWR_DOM_POLICY 3).domPolicy 46 = 3 ∧ ((d 2 10).setFld (domOff 46) Fl.PWR_DOM_POLICY 3).switching 46 = some (2, 10)
           ∧ (d 0 10).switching 33 = some (0, 10) ∧ ((d 0 10).setDom 33 0).sensorOn 8 = false)
      ∧ (let d := { dev0.setDom 0 2 with sill := { Sill.fresh with idle := [(0, 1)] }, tick := 2500 }
         0 < Tab.get 0 d.sill.idle 0 ∧ Tab.get 0 d.sill.idle 0 - 1 + 2500 ≤ d.tick ∧ d.domOn 0 = true ∧ d.closable 0 = true ∧ d.domPolicy 0 < 2 ∧ d.sill.queue.all (fun e => e.1 != 0) = true)
      ∧ Tab.get 0 dev0.sill.idle 49 = 0 :=
  ⟨by decide +kernel, by decide +kernel, by decide +kernel, by decide +kernel, by decide +kernel, by decide +kernel, by decide +kernel⟩

/-- A governor window of one sample, at clock points, and an epoch mechanism at rest. -/
def devGov (c0 c1 avg calm : Nat) : Dev :=
  let p := Block.pwr.base
  { ((dev0.setFld (p + Off.PWR_GOV_STATUS) (govClk 0) c0).setFld (p + Off.PWR_GOV_STATUS) (govClk 1) c1) with gov := { Gov.fresh with sum := avg, n := 1, calm := calm } }

theorem test_premises_DeviceStatesAndGovernor :
    (dev0.gov.dozeSince = none)
      ∧ (let d (now : Nat) : Dev := { dev0 with gov := { Gov.fresh with dozeSince := some 0 }, tick := now }
         (d 249999).dstate = 0 ∧ (d 0).fld (Block.pwr.base + Off.PWR_DOZE) Fl.PWR_DOZE_DOZE_EN = 1 ∧ (d 0).waking = false
           ∧ (d 249999).tick < 0 + (d 0).fld (Block.pwr.base + Off.PWR_DOZE_IDLE) Fl.PWR_DOZE_IDLE_TICKS ∧ 0 + (d 0).fld (Block.pwr.base + Off.PWR_DOZE_IDLE) Fl.PWR_DOZE_IDLE_TICKS ≤ (d 250000).tick)
      ∧ (dev0.gov.d3hot = false ∧ dev0.d3Ok = true ∧ (dev0.setStream 5 { str5 with state := 1 }).d3Ok = false ∧ dev0.dstate ≠ 2 ∧ (dev0.setFld (Block.pwr.base + Off.PWR_DEVSTATE) Fl.PWR_DEVSTATE_DSTATE 2).dstate = 2)
      ∧ dev0.gov.n = 0
      ∧ (let p := Block.pwr.base
         let d := devGov 17 17 7501 0
         let limit := 10 * d.fld (p + Off.PWR_GOV_CFG) Fl.PWR_GOV_CFG_LIMIT
         0 < d.gov.n ∧ d.gov.sum < 65536 * d.gov.n ∧ d.fld (p + Off.PWR_EXP) Fl.PWR_EXP_GOV_DIS = 0 ∧ d.fld (p + Off.PWR_GOV_STATUS) Fl.PWR_GOV_STATUS_CAL_HOLD = 0
           ∧ limit < d.gov.sum / d.gov.n ∧ d.clkOf 0 = 17 ∧ d.clkOf 1 = 17 ∧ d.fld (Block.gctl.base + Off.EP_STATUS) Fl.EP_STATUS_STATE = 0
           ∧ (devGov 4 4 7501 0).clkOf 1 ≤ 4 ∧ (devGov 5 6 7501 0).clkOf 0 < (devGov 5 6 7501 0).clkOf 1)
      ∧ (let p := Block.pwr.base
         let d := devGov 16 16 7500 0
         let e := devGov 16 16 1000 60
         let limit := 10 * d.fld (p + Off.PWR_GOV_CFG) Fl.PWR_GOV_CFG_LIMIT
         let low := limit - 10 * d.fld (p + Off.PWR_GOV_CFG) Fl.PWR_GOV_CFG_HYST
         low < d.gov.sum ∧ d.gov.sum ≤ limit ∧ 0 < d.fld (p + Off.PWR_GOV_CFG) Fl.PWR_GOV_CFG_UP_WINDOWS ∧ d.clkOf 0 ≤ d.ceil 0 ∧ d.clkOf 1 ≤ d.ceil 1
           ∧ e.gov.sum ≤ low ∧ e.gov.warm = false ∧ e.fld (p + Off.PWR_GOV_CFG) Fl.PWR_GOV_CFG_UP_WINDOWS ≤ e.gov.calm + 1 ∧ e.clkOf 0 < e.ceil 0 ∧ 4 ≤ e.clkOf 0 ∧ e.ceil 0 ≤ 17
           ∧ (e.setFld (Block.gctl.base + Off.EP_STATUS) Fl.EP_STATUS_STATE 1).fld (Block.gctl.base + Off.EP_STATUS) Fl.EP_STATUS_STATE = 1) :=
  ⟨by decide +kernel, by decide +kernel, by decide +kernel, by decide +kernel, by decide +kernel, by decide +kernel⟩

theorem test_premises_RailsSensorsLog :
    (dev0.contained 1 = false ∧ (dev0.setDom 33 2).domOn (32 + 1) = true ∧ dev0.domOn (32 + 1) = false ∧ (devCase 2).caseState (7 / 4) ≠ 0)
      ∧ ((dev0.waiting 0).length < 8 ∧ dev0.railLow = [] ∧ 500 ≤ (500 : BitVec 16).toNat ∧ (549 : BitVec 16).toNat < 550 ∧ { dev0 with railLow := [1] }.railLow = [(1 : Fin 2).val] ∧ dev0.boot.mv1 ≤ (550 : BitVec 16).toNat + 20)
      ∧ ((dev0.setDom 32 2).sensorOn 0 = true ∧ dev0.sensorOn 0 = false ∧ (∀ m : Fin 24, m ≠ 0 → dev0.fld (Block.tel.base + Off.TEL_TEMP m) Fl.TEL_TEMP_VALID = 0)
          ∧ 1600 < (1601 : BitVec 16).toInt ∧ (1679 : BitVec 16).toInt < 1680 ∧ 1680 ≤ (1680 : BitVec 16).toInt ∧ Tab.get 0 dev0.hot 0 = 0 ∧ Tab.get 0 { dev0 with hot := [(0, 1)] }.hot 0 = 1)
      ∧ ((0 : Fin 8192).val % 8 = 0 ∧ (8191 : Fin 8192).val % 8 ≠ 0 ∧ Tab.get none dev0.tel.shadow (whoKey .pf0) = none
          ∧ Tab.get none { dev0.tel with shadow := [(whoKey .pf0, some (1023, Record.zero))] }.shadow (whoKey .pf0) = some (1023, Record.zero)
          ∧ (dev0.reg (Block.tel.base + Off.TEL_LOG_LOST)).toNat + 1 < 2 ^ 32)
      ∧ (let d := { dev0 with repairPend := [0x20000001], repairAt := [(1, 10)], tick := 25009 }
         0 < Tab.get 0 d.repairAt 1 ∧ { d with tick := 25008 }.tick < Tab.get 0 d.repairAt 1 - 1 + 25000 ∧ Tab.get 0 d.repairAt 1 - 1 + 25000 ≤ d.tick
           ∧ d.repairPend = 0x20000001 :: [] ∧ 0x20000001 * 32 / hbmSize = 1 ∧ 0x20000001 ∉ ([] : List Nat) ∧ d.repair.any (sameRow 0x20000001) = false ∧ (∀ g ∈ dev0.repairPend, g * 32 / hbmSize ≠ 1))
      ∧ (dev0.boot.begun = none ∧ dev0.logCount < 1024) :=
  ⟨by decide +kernel, by decide +kernel, by decide +kernel, by decide +kernel, by decide +kernel, by decide +kernel⟩


/-! ### Registers, and the commands that are register writes -/

/-- Every domain is ON and the host interface is READY. -/
def devAll : Dev := ((List.range 49).foldl (fun d n => d.setDom n 2) dev0).setFld (Block.hif.base + Off.HIF_STATUS) Fl.HIF_STATUS_READY 1

/-- Whether a block takes a write. -/
def takesB (d : Dev) (b : Block) : Bool :=
  d.answers b && !d.locked b && (match domainFor b with | some n => d.domOn n | none => true) && d.held.isEmpty

/-- What takes a write. -/
theorem takes_of (d : Dev) (b : Block) (h : takesB d b = true) : Takes d b := by
  unfold takesB at h
  simp only [Bool.and_eq_true, Bool.not_eq_true', List.isEmpty_iff] at h
  obtain ⟨⟨⟨h1, h2⟩, h3⟩, h4⟩ := h
  refine ⟨h1, h2, ?_, h4⟩
  intro n hn
  rw [hn] at h3
  exact h3

/-- Blocks of every kind. -/
def kinds : List Block := [.core 3, .seq 3, .latch 3, .hbm 1, .mesh 1, .sc 1, .sch, .apg, .fin, .opt, .mir, .pwr, .tel, .gctl, .boot, .sec, .bolt, .pf0ring, .ring 31, .apt 7, .vpt 7]

theorem all_take : kinds.all (takesB devAll) = true := by decide +kernel

theorem takes_all (b : Block) (h : kinds.contains b = true) : Takes devAll b :=
  takes_of _ _ (List.all_eq_true.mp all_take b (List.elem_iff.mp h))

/-- A register of the sealing engine, a counter's two halves in core 3's block, the last word of the record log and a PAIR of no block. -/
theorem test_premises_RegisterAccess_places :
    locate 0xFFFFFF00 = none ∧ locate (secb + Off.SEC_CTRL) = some (.sec, Off.SEC_CTRL) ∧ locate (Block.sec.base + 0xFFC) = some (.sec, 0xFFC) ∧ regOf .sec 0xFFC = none
      ∧ mayName (.core 5) .sec = false ∧ dev0.answers .bolt = false
      ∧ (let o := (Block.core 3).base + Off.CYCLE_LO
         locate o = some (.core 3, Off.CYCLE_LO) ∧ isLow (.core 3) Off.CYCLE_LO = true ∧ locate (o + 4) = some (.core 3, Off.CYCLE_HI) ∧ isLow (.core 3) Off.CYCLE_HI = false ∧ o % 4 = 0)
      ∧ isLow .sec Off.SEC_CTRL = false ∧ 4 ≤ secb + Off.SEC_CTRL ∧ (match locate (secb + Off.SEC_CTRL - 4) with | some (b, l) => isLow b l | none => false) = false
      ∧ logWord .sec Off.SEC_CTRL = none ∧ logWord .tel (Off.TEL_LOG 8191) = some 8191 ∧ locate (telb + Off.TEL_LOG 8191) = some (.tel, Off.TEL_LOG 8191)
      ∧ locate (telb + Off.TEL_LOG 8191 - 4) = some (.tel, Off.TEL_LOG 8190) ∧ isLow .tel (Off.TEL_LOG 8190) = false
      ∧ (∀ r, regOf .opt (Off.PANE_STATUS 7) = some r → r.fields.any (fun f => f.acc == .rc) = true) ∧ (regOf .opt (Off.PANE_STATUS 7)).isSome = true := by
  decide +kernel

theorem test_premises_RegisterAccess_reads :
    (let o := (Block.core 3).base + Off.CYCLE_LO
     let key := whoKey .pf0 * 2 ^ 32 + (o + 4)
     Tab.get none (Tab.set none [] key (some 5)) key = some (5 : Word) ∧ Tab.get none devAll.shadows key = none)
      ∧ devAll.readsOn (.core 3) = true ∧ dev0.readsOn (.core 3) = false ∧ mayName .pf0 (.core 3) = true ∧ mayName (.config 0) .sec = false ∧ devAll.readsOn .tel = true ∧ devAll.readsOn .opt = true
      ∧ absOff .hinge (boltb + Off.MB_EVENT) = boltb + Off.MB_EVENT ∧ locate (boltb + Off.MB_EVENT) = some (.bolt, Off.MB_EVENT) ∧ mayName .hinge .bolt = true ∧ devAll.readsOn .bolt = true
      ∧ Bolt.atReset.lost = false ∧ { Bolt.atReset with events := [(1, 0xFF)] }.events = (1, 0xFF) :: [] ∧ (7 : Word).toNat ≤ 7 ∧ 0 < (32 : Fin 33).val ∧ (2 : Word).getLsbD 0 = false := by
  decide +kernel

theorem test_premises_RegisterAccess_writes :
    (let d := dev0.setReg (secb + Off.SEC_LOCK0) 1
     (regOf .pwr Off.PWR_DOZE_IDLE).isSome = true ∧ mayName .pf0 .pwr = true ∧ d.answers .pwr = true ∧ isHost .pf0 = true ∧ d.locked .pwr = true ∧ (d.waiting 0).length < 8)
      ∧ (dev0.locked (.hbm 1) = false ∧ domainFor (.hbm 1) = some 35 ∧ dev0.domOn 35 = false ∧ (dev0.waiting 1).length < 8 ∧ (regOf (.hbm 1) Off.HBM_SCRUB_CFG).isSome = true ∧ mayName .pf0 (.hbm 1) = true ∧ dev0.answers (.hbm 1) = true)
      ∧ Takes devAll (.hbm 1)
      ∧ ((∀ r, regOf (.hbm 1) Off.HBM_SCRUB_CFG = some r → r.expert = false) ∧ (∃ r, regOf (.hbm 1) Off.HBM_EXP = some r ∧ r.expert = true) ∧ devAll.expertOn (.hbm 1) = false
          ∧ (devAll.setReg ((Block.hbm 1).base + 0x8000) 1).expertOn (.hbm 1) = true) :=
  ⟨by decide +kernel, by decide +kernel, takes_all _ (by decide), by decide +kernel⟩

theorem test_premises_RegisterAccess_enables :
    (let o := secb + Off.SEC_CTRL
     let d := { devAll with held := [(o, (1 : Word), [46])] }
     d.held = [(o, 1, [46])] ∧ d.domOn 46 = true ∧ (d.setDom 46 0).domOn 46 = false ∧ Fl.SEC_CTRL_OP.get (d.reg o ||| 1) = 1
       ∧ d.fld (secb + Off.SEC_STATUS) Fl.SEC_STATUS_BUSY = 0 ∧ d.fld (secb + Off.SEC_STATUS) Fl.SEC_STATUS_ID_DOWN = 0)
      ∧ (Takes (devAll.setDom 46 0) .sec ∧ (devAll.setDom 46 0).domOn 46 = false ∧ (devAll.setDom 46 0).domBarred 46 = false ∧ (devAll.setDom 46 0).switching 46 = none
          ∧ (devAll.setDom 46 0).fld (secb + Off.SEC_STATUS) Fl.SEC_STATUS_BUSY = 0)
      ∧ (takesB (devAll.setFld (domOff 46) Fl.PWR_DOM_POLICY 3) .sec = true ∧ (devAll.setFld (domOff 46) Fl.PWR_DOM_POLICY 3).domBarred 46 = true ∧ (devAll.waiting 1).length < 8)
      ∧ (let d := dev0.setFld (Block.tel.base + Off.TEL_EXP) Fl.TEL_EXP_DBG_EN 1
         dev0.fld (Block.tel.base + Off.TEL_EXP) Fl.TEL_EXP_DBG_EN = 0 ∧ d.fld (Block.tel.base + Off.TEL_EXP) Fl.TEL_EXP_DBG_EN = 1 ∧ d.domOn 48 = false ∧ d.switching 48 = none ∧ d.domBarred 48 = false) :=
  ⟨by decide +kernel, ⟨takes_of _ _ (by decide +kernel), by decide +kernel⟩, by decide +kernel, by decide +kernel⟩

theorem test_premises_CounterClears :
    (∀ b ∈ [Block.core 3, .seq 3, .latch 3, .hbm 1, .mesh 1, .sc 1, .sch, .apg, .fin, .opt, .mir, .pwr, .tel, .apt 7, .vpt 7], Takes devAll b)
      ∧ (devAll.core 3).out = [] ∧ audioBlock 15 = .vpt 7 ∧ audioBlock 7 = .apt 7 ∧ (0x80000001 : Word).toNat.testBit 31 = true ∧ (0x80000001 : Word).toNat.testBit 30 = false :=
  ⟨fun b hb => takes_all b ((by decide : ∀ b ∈ [Block.core 3, .seq 3, .latch 3, .hbm 1, .mesh 1, .sc 1, .sch, .apg, .fin, .opt, .mir, .pwr, .tel, .apt 7, .vpt 7], kinds.contains b = true) b hb), by decide +kernel, rfl, rfl, by decide, by decide⟩

/-- Every domain is ON, and core 3 is as given. -/
def devCore (c : Core) : Dev := devAll.setCore 3 c

theorem takes_setCore (d : Dev) (k : Nat) (c : Core) (b : Block) (h : Takes d b) : Takes (d.setCore k c) b := ⟨h.answers, h.unlocked, h.lit, h.held⟩

theorem takes_core (c : Core) : Takes (devCore c) (.core 3) := takes_setCore devAll 3 c _ (takes_all (.core 3) (by decide))

/-- The Latch of cluster 3 with word 5 as given and the command's operands. -/
def devLatch (y : LWord) (x : Word) : Dev :=
  ((devAll.setLu 3 { devAll.lu 3 with words := [(5, y)] }).setFld ((Block.latch 3).base + Off.LH_WORD) Fl.LH_WORD_VALUE 5).setReg ((Block.latch 3).base + Off.LH_OPND) x

/-- What the premises about a Latch word ask, and the word's value. -/
def latchAsks (y : LWord) (x : Word) : Bool :=
  let d := devLatch y x
  let b := (Block.latch 3).base
  d.fld (b + Off.LH_WORD) Fl.LH_WORD_VALUE == 5 && d.reg (b + Off.LH_OPND) == x && (d.lu 3).word 5 == y && (d.lu 3).ue.isEmpty && (d.lu 3).watches.isEmpty && d.fwdOf 3 5 == none
    && d.inPairRange 3 5 == false

theorem test_premises_CoreAndLatchCommands :
    (∀ st, Takes (devCore { coreRun with state := st }) (.core 3))
      ∧ (∀ st ∈ [CState.parked, .idle, .running], let c := (devCore { coreRun with state := st }).core 3
          c.out = [] ∧ c.state = st ∧ c.jobOf = none ∧ c.fld Off.CORE_CTRL Fl.CORE_CTRL_RESET = 0 ∧ c.fld Off.CORE_CTRL Fl.CORE_CTRL_HALT_REQ = 0 ∧ c.fld Off.CORE_CTRL Fl.CORE_CTRL_START = 0)
      ∧ ((devCore coreRun).stage 3 = [] ∧ coreRun.mbxCount [0, 3] < 12 ∧ 12 ≤ { coreRun with mbx := List.replicate 12 ⟨3, 0x200, 3, []⟩ }.mbxCount [0, 3])
      ∧ (let c := (coreRun.setFld (Off.CW_CFG 7) Fl.CW_CFG_EN 1).setFld (Off.CW_CFG 7) Fl.CW_CFG_SIZE 10
         c.fld (Off.CW_CFG 7) Fl.CW_CFG_EN = 1 ∧ Tab.get 0 c.cwAvail 7 + (10 : BitVec 11).toNat ≤ c.fld (Off.CW_CFG 7) Fl.CW_CFG_SIZE
           ∧ c.fld (Off.CW_CFG 7) Fl.CW_CFG_SIZE < Tab.get 0 c.cwAvail 7 + (11 : BitVec 11).toNat ∧ coreRun.fld (Off.CW_CFG 7) Fl.CW_CFG_EN = 0)
      ∧ (latchAsks { LWord.zero with value := 0xFFFFFFFE } 1 = true ∧ (0xFFFFFFFE : Word).toNat + (1 : Word).toNat < 2 ^ 32 ∧ latchAsks { LWord.zero with value := 0xFFFFFFFE } 2 = true
          ∧ 2 ^ 32 ≤ (0xFFFFFFFE : Word).toNat + (2 : Word).toNat ∧ latchAsks { LWord.zero with value := 1 } 1 = true ∧ latchAsks { LWord.zero with value := 1 } 2 = true
          ∧ latchAsks { LWord.zero with kind := 1 } 0x7FFFFFFF = true)
      ∧ Takes (devLatch LWord.zero 1) (.latch 3)
      ∧ (dev0.contained 1 = false ∧ (dev0.setFld ((Block.mesh 1).base + Off.MESH_STATUS) Fl.MESH_STATUS_CONTAINED 1).contained 1 = true) :=
  ⟨fun _ => takes_core _, by decide +kernel, by decide +kernel, by decide +kernel, by decide +kernel, takes_of _ _ (by decide +kernel), by decide +kernel⟩

/-- Batcher 0 has a plan, and the schedule's staging holds an entry. -/
def devSch (bs : List Byte) : Dev :=
  let d : Dev := { dev0.setFld (Block.sch.base + Off.BAT_CFG 0) Fl.BAT_CFG_EN 1 with plans := [(0, some plan1)] }
  (List.range 16).foldl (fun d n => d.setReg (Block.sch.base + Off.ST_STAGE n) (wd (leAt bs (4 * n) 4))) d

/-- The staging holds an entry that ADMIT and MODIFY take, one whose fields are not valid, or an image where there is a stream. -/
theorem test_premises_ScheduleCommands_admit :
    Takes (devSch entry0) .sch ∧ ((devSch entry0).callSide.admitStream 0 (devSch entry0).staged false).1 = 0
      ∧ (let d := devSch (List.replicate 64 0xFF)
         d.fieldsOk d.staged (Stream.ofBytes d.staged) = false) :=
  ⟨takes_of _ _ (by decide +kernel), by decide +kernel, by decide +kernel⟩

theorem test_premises_ScheduleCommands_modify :
    let d := devSch entry0
    let e := d.setStream 0 (Stream.ofBytes d.staged)
    (e.callSide.modify 0 e.staged).1 = 0 ∧ (e.stream 0).state = 1 ∧ (e.stream 0).resetting = none ∧ (d.stream 0).state = 0 ∧ ((d.setStream 0 { str5 with state := 3 }).stream 0).state = 3 := by
  decide +kernel

theorem test_premises_ScheduleCommands_suspect :
    Takes devAll .tel ∧ ((dev0.setStream 5 { str5 with state := 4 }).stream 5).state = 4 ∧ devAll.contained str5.side = false ∧ (devAll.contain 0 2).contained str5.side = true ∧ takesB (devAll.contain 0 2) .tel = true ∧ (dev0.stream 5).state ≠ 4 :=
  ⟨takes_all .tel (by decide +kernel), by decide +kernel⟩

/-- An entry of an image whose home is device 1. -/
def entryImg : List Byte := [72, 48] ++ entry0.drop 2

theorem test_premises_ScheduleCommands_image :
    let d := (devSch entryImg).setFld (Block.gctl.base + Off.DEV_INFO) Fl.DEV_INFO_ROLE 1
    d.fieldsOk d.staged (Stream.ofBytes d.staged) = true ∧ (Stream.ofBytes d.staged).mirror = 3 ∧ ((d.setStream 5 str5).stream 5).state ≠ 0 := by decide +kernel

/-- A plan of four cores without gated memory, and a job of it staged. -/
def devJobs : Dev :=
  let p : Plan := ⟨List.replicate 12 0 ++ [4, 0, 4, 0] ++ List.replicate 48 0, [], [], 0, 0, 0, 0⟩
  let s := Block.sch.base
  let d := { (devAll.setFld (Block.hif.base + Off.ALLOT 0) Fl.ALLOT_SIZE0 1) with plans := [(0, some p)] }
  (((d.setReg (s + Off.JOB_STAGE 1) 8).setReg (s + Off.JOB_STAGE 5) 0x100).setReg (s + Off.JOB_STAGE 9) 1824)

theorem test_premises_ScheduleCommands_jobs :
    Takes devJobs .sch ∧ devJobs.callSide.createStatus 1 devJobs.stagedJob = 0 ∧ devAll.callSide.createStatus 1 devAll.stagedJob ≠ 0
      ∧ (let d := devAll.setJob 1 { Job.free with state := .loaded }
         (d.job 1).state = .loaded ∧ d.batNamed 1 = false ∧ (devAll.job 1).state = .free ∧ (d.setFld (Block.sch.base + Off.BAT_CFG 0) Fl.BAT_CFG_EN 1).batNamed 0 = true) :=
  ⟨takes_of _ _ (by decide +kernel), by decide +kernel, by decide +kernel, by decide +kernel⟩

theorem test_premises_ScheduleCommands_epochs :
    let g := Block.gctl.base + Off.EP_ARG
    let d (clk : Nat) := devAll.setFld g Fl.EP_ARG_CLK clk
    Takes devAll .gctl ∧ (d 17).fld epo Fl.EP_STATUS_STATE = 0 ∧ (d 17).fld g Fl.EP_ARG_CLK = 17 ∧ 17 ≤ (d 17).boot.cap0 ∧ (d 18).boot.cap1 < (d 18).fld g Fl.EP_ARG_CLK
      ∧ (d 17).fld (Block.pwr.base + Off.PWR_GOV_STATUS) Fl.PWR_GOV_STATUS_CAL_HOLD = 0 ∧ (devSch []).plan ((devSch []).fld g Fl.EP_ARG_PLAN) = some plan1
      ∧ ((devSch []).batcherFor 0 0).isSome = true ∧ (d 3).fld g Fl.EP_ARG_CLK < 4 ∧ 17 < (d 31).fld g Fl.EP_ARG_CLK ∧ devAll.plan 0 = none :=
  ⟨takes_all _ (by decide), by decide +kernel⟩

theorem test_premises_ScheduleCommands_mirror :
    let d (role partner : Nat) : Dev := ((devSch entryImg).setFld (Block.gctl.base + Off.DEV_INFO) Fl.DEV_INFO_ROLE role).setPartner partner
    let x := Stream.ofBytes entryImg
    takesB (d 1 2) .mir = true ∧ (d 0 2).role = 0 ∧ (d 1 2).role ≠ 0 ∧ (d 1 2).partner = 2 ∧ (d 1 1).partner ≠ 2 ∧ (d 1 2).isImage 5 = false
      ∧ ((d 1 2).setStream 5 x).isImage 5 = true ∧ x.relinquished = false ∧ { x with relinquished := true }.relinquished = true ∧ (((d 1 2).setStream 0 x).adoptOne 0).1 = 0 ∧ ((d 1 2).setStream 0 x).streams = [(0, x)]
      ∧ (∀ e ∈ (d 1 2).streams, e.2.mirror ≠ 3) ∧ x.state ≠ 0 ∧ x.mirror = 3 ∧ str5.mirror ≠ 0 ∧ { str5 with mirror := 0 }.state ≠ 0 :=
  by decide +kernel

/-- Copper port 7 is enabled, its domain ON. -/
def devPort (running : Bool) : Dev := ((dev0.setDom 42 2).setFld (ublk 7 + Off.AP_CTRL) Fl.AP_CTRL_EN 1).setAunit 7 { AUnit.off with running := running }

theorem test_premises_UnitCommands_units :
    Takes (devPort false) (audioBlock 7) ∧ (devPort false).domOn (shAudio 7) = true ∧ (devPort false).domBarred (shAudio 7) = false ∧ (devPort false).audioDown = false
      ∧ (devPort false).groupOf 7 = none ∧ (devPort false).unitRuns 7 = false ∧ (devPort true).unitRuns 7 = true ∧ (devPort true).unitEn 7 = true ∧ dev0.unitEn 7 = false
      ∧ (devPort false).fld (ublk 7 + Off.AP_CTRL) Fl.AP_CTRL_STOP = 0 ∧ (devPort true).fld (ublk 7 + Off.AP_CTRL) Fl.AP_CTRL_START = 0 ∧ fmtOk 0x00000000 = true
      ∧ (let v := Fl.AP_FMT_WORD_W.put 0 2
         Fl.AP_FMT_FORMAT.get v < 3 ∧ Fl.AP_FMT_SLOT_W.get v < 3 ∧ Fl.AP_FMT_RATE.get v < 12 ∧ Fl.AP_FMT_LOOP_BW.get v < 3 ∧ fmtOk v = false)
      ∧ (let v := Fl.AP_FMT_RATE.put (Fl.AP_FMT_FORMAT.put 0 3) 11
         Fl.AP_FMT_FORMAT.get v = 3 ∧ Fl.AP_FMT_SLOT_W.get v < 3 ∧ Fl.AP_FMT_RATE.get v < 12 ∧ Fl.AP_FMT_LOOP_BW.get v < 3 ∧ dev0.fld (ublk 7 + Off.AP_FMT) Fl.AP_FMT_FORMAT < 2) :=
  ⟨takes_of _ _ (by decide +kernel), by decide +kernel⟩

/-- Group 3 of copper port 7, enabled, both audio domains ON. -/
def devGroup (running : Bool) : Dev :=
  (((devPort false).setDom 41 2).setFld (Block.apg.base + Off.APG_MEMBERS 3) Fl.APG_MEMBERS_COPPER 0x80).setAunit 19 { AUnit.off with running := running }

theorem test_premises_UnitCommands_groups :
    Takes (devGroup false) .apg ∧ (devGroup false).audioDown = false ∧ (devGroup false).domOn 41 = true ∧ (devGroup false).domOn 42 = true ∧ (devGroup false).domBarred 41 = false ∧ (devGroup false).domBarred 42 = false ∧ (devGroup false).groupReason 3 = 0
      ∧ (devGroup true).groupReason 3 = 1 ∧ (devGroup true).members 3 = [7] ∧ ((devGroup true).aunit 19).running = true ∧ (8 : Fin 16).val = 2 ^ (3 : Fin 4).val ∧ ((devGroup false).groupOf 7).isSome = true
      ∧ (let d := ((dev0.setDom 41 2).setFld (Block.apg.base + Off.APG_MEMBERS 0) Fl.APG_MEMBERS_COPPER 1).setFld (Block.apg.base + Off.APG_MEMBERS 1) Fl.APG_MEMBERS_COPPER 0x10
         let d := d.setFld (ublk 0 + Off.AP_CTRL) Fl.AP_CTRL_EN 1
         takesB d .apg = true ∧ d.members 0 = [0] ∧ d.members 1 = [4] ∧ d.domBarred 41 = false ∧ d.groupReason 0 = 0 ∧ d.domOn 42 = false ∧ d.domBarred 42 = false
           ∧ (d.setFld (domOff 42) Fl.PWR_DOM_POLICY 3).domBarred 42 = true ∧ (d.waiting 1).length < 8) :=
  ⟨takes_of _ _ (by decide +kernel), by decide +kernel⟩

theorem test_premises_UnitCommands_rings :
    (let d := devUp.setFld (opt + Off.PANE_STATUS 7) Fl.PANE_STATUS_DUAL 1
     takesB d .opt = true ∧ d.paneEn 7 = true ∧ d.paneUp 7 = true ∧ d.fld (opt + Off.PANE_STATUS 7) Fl.PANE_STATUS_DUAL = 1 ∧ (d.pane 7).query = none ∧ (devPane 7 2).paneEn 7 = true ∧ (devPane 7 2).paneState 7 = 2)
      ∧ (let d (n : Nat) := ((dev0.setFld (Block.hif.base + Off.HIF_STATUS) Fl.HIF_STATUS_READY 1).setDom 47 2).setFld (Block.bolt.base + Off.MB_STATUS 1) Fl.MB_STATUS_STATE n
         takesB (d 0) .bolt = true ∧ (d 0).fld (Block.bolt.base + Off.MB_STATUS 1) Fl.MB_STATUS_STATE = 0 ∧ (d 1).fld (Block.bolt.base + Off.MB_STATUS 1) Fl.MB_STATUS_STATE = 1)
      ∧ (let d := (devTurn 0).setDom 45 2
         takesB d .pf0ring = true ∧ d.ringOn 0 .sq = true ∧ d.ringN 0 .sq = 8 ∧ Fl.X_HPOS_POS.get 15 < 2 * 8 ∧ 2 * 8 ≤ Fl.X_HPOS_POS.get 16 ∧ span 8 8 (d.dpos 0 .sq) ≤ 8 ∧ 8 < span 8 9 (d.dpos 0 .sq))
      ∧ (let r := rbase 32 (.sr 63)
         let d := ((dev0.setDom 45 2).setFld (r + Off.X_CFG) Fl.X_CFG_EN 1).setFld (r + Off.X_CFG) Fl.X_CFG_SIZE 1
         let d := d.setStream 5 { str5 with mirror := 0, srcKind := 3, srcId := 256 * 31 + 63, unacked := 0 }
         takesB d (.ring 31) = true ∧ d.ringOn 32 (.sr 63) = true ∧ d.consumerOf 31 63 = some (.stream 5) ∧ Fl.X_HPOS_POS.get 256 % 4 = 0 ∧ Fl.X_HPOS_POS.get 260 < 2 * 4096
           ∧ span 4096 256 (d.hpos 32 (.sr 63)) + d.offered 32 (.sr 63) ≤ (d.stream 5).room ∧ (d.stream 5).room < span 4096 260 (d.hpos 32 (.sr 63)) + d.offered 32 (.sr 63)
           ∧ (d.reg (r + Off.X_COUNT)).toNat + 1 < 2 ^ 32) :=
  ⟨by decide +kernel, by decide +kernel, by decide +kernel, by decide +kernel⟩

/-! ### The start of the device -/

/-- Facts of a start without a failure, that reach step `n`. -/
def facts (n : Nat) : BootFacts := ⟨0xFFFF, false, true, 3, 3, 3, 3, 800, 800, 5, 3, true, ⟨n % 16, Nat.mod_lt _ (by decide)⟩, 0, 0, 1000⟩

theorem test_premises_BootSteps :
    (dev0.boot.waiting = true ∧ { dev0 with boot := { dev0.boot with waiting := false } }.boot.waiting = false ∧ dev0.boot.begun = none ∧ dev0.boot.log = []
        ∧ dev0.fld (Block.boot.base + Off.BOOT_STATUS) Fl.BOOT_STATUS_STATE = 0 ∧ (facts 1).upTo = 1 ∧ (facts 1).torn = false ∧ (facts 15).upTo = 15 ∧ { facts 15 with ok := 0xFFFD }.ok.getLsbD 1 = false)
      ∧ (let d (n : Nat) : Dev := { dev0 with boot := { dev0.boot with waiting := false, begun := some n, left := [0, 1] } }
         (∀ n ∈ [1, 2, 5, 14, 10, 7], (d n).boot.begun = some n) ∧ (d 10).boot.log = [] ∧ (facts 11).upTo = 11 ∧ { facts 15 with ok := 0x5FFF }.ok.getLsbD 13 = false ∧ { facts 15 with ok := 0x5FFF }.ok.getLsbD 14 = true
           ∧ (facts 8).upTo = 8 ∧ (d 7).boot.left = [0, 1] ∧ (d 7).contained 0 = false ∧ (dev0.setFld (Block.boot.base + Off.BOOT_STATUS) Fl.BOOT_STATUS_STATE 2).fld (Block.boot.base + Off.BOOT_STATUS) Fl.BOOT_STATUS_STATE ≠ 1 ∧ (d 7).marked 7 0 = false ∧ { facts 8 with mv0 := 549 }.mv0 < 550 ∧ (d 7).boot.rrs = false ∧ ((d 7).waiting 0).length < 8)
      ∧ takesB dev0 .gctl = true :=
  ⟨by decide +kernel, by decide +kernel, by decide +kernel⟩

/-- The CRC register after every 62 zero bytes. -/
def crcMarks : List Word := [0xFFFFFFFF, 0xE29B589E, 0xEA28F1F3, 0xEADAE823, 0x4584323B, 0x8DB73AE3, 0x9C721E7B, 0x790690F9, 0xD4376D45, 0xB786D580, 0x73738204, 0x57C73FD3, 0xD4A35148, 0x27F4C773, 0x9FAC424D, 0x245755AB, 0xD0DF6E05, 0xA87888C4, 0xE39DE28B, 0xCA1B7661, 0xFBEAE95E, 0x7CBECD36, 0x95C81B53, 0xF8FF13EF, 0x71F2C0DD, 0x2F63E2B3, 0x072ACBA1, 0x680596DD, 0xD69AD52E, 0x7F79B836, 0x723D70D6, 0xE9E2CE6B, 0x690C9D8A, 0xC1249DB4, 0xC019C143, 0xA951AF51, 0xEFF7BCE8, 0x01800EB9, 0xFF1BF108, 0x858DB659, 0xDE34B0B7, 0x7154C231, 0x15541059, 0x568D7FBB, 0x4D638F43, 0x439730AF, 0x99117762, 0x39F1BDC0, 0x7FAE6A70, 0x28002B14, 0xD07A2FFE, 0x370D92B1, 0xA690B057, 0xE893C81F, 0x789FF97A, 0xB27A4574, 0x4FA8A64A, 0xDA344F4F, 0x26DCA60C, 0xD82F3208, 0x136CDDA3, 0x5A4C0E96, 0x7063F7ED, 0xF940E99F, 0x0ED2C328, 0x0852DA90, 0x9FC4FB76]

theorem crc_pieces : (List.range 66).all (fun k => (List.replicate 62 (0 : Byte)).foldl crcByte (crcMarks.getD k 0) == crcMarks.getD (k + 1) 0) = true := by decide +kernel

theorem crc_zeros (k : Nat) (h : k ≤ 66) : (List.replicate (62 * k) (0 : Byte)).foldl crcByte 0xFFFFFFFF = crcMarks.getD k 0 := by
  induction k with
  | zero => rfl
  | succ k ih =>
    have hp := List.all_eq_true.mp crc_pieces k (List.mem_range.mpr (by omega))
    rw [Nat.mul_succ, ← List.replicate_append_replicate, List.foldl_append, ih (by omega)]
    exact beq_iff_eq.mp hp

/-- The last word of a calibration buffer of zeros holds its CRC. -/
def devCal : Dev := dev0.setReg (Block.boot.base + Off.CAL_BUF 1023) 0x603B0489

theorem flat_zeros (l : List Nat) (f : Nat → List Byte) (h : ∀ i ∈ l, f i = List.replicate 4 0) : l.flatMap f = List.replicate (4 * l.length) 0 := by
  induction l with
  | nil => rfl
  | cons i l ih =>
    rw [List.flatMap_cons, h i (List.mem_cons_self ..), ih (fun j hj => h j (List.mem_cons_of_mem _ hj)), List.replicate_append_replicate, List.length_cons]
    congr 1
    omega

theorem cal_words : (List.range 1023).all (fun i => devCal.reg (Block.boot.base + Off.CAL_BUF i) == 0) = true := by decide +kernel

theorem cal_bytes : devCal.calBuf = List.replicate 4092 0 ++ natLE 4 (0x603B0489 : Word).toNat := by
  unfold Dev.calBuf
  rw [show (List.range 1024) = List.range 1023 ++ [1023] from List.range_succ, List.flatMap_append, flat_zeros]
  · rw [List.length_range, List.flatMap_cons, List.flatMap_nil, List.append_nil]
    rw [show devCal.reg (bootb + Off.CAL_BUF 1023) = 0x603B0489 from by decide +kernel]
  · intro i hi
    rw [show devCal.reg (bootb + Off.CAL_BUF i) = 0 from beq_iff_eq.mp (List.all_eq_true.mp cal_words i hi)]
    rfl

theorem cal_crc : crc32 (List.replicate 4092 0) = 0x603B0489 := by
  unfold crc32
  rw [show (List.replicate 4092 (0 : Byte)).foldl crcByte 0xFFFFFFFF#32 = crcMarks.getD 66 0 from crc_zeros 66 (by decide)]
  decide +kernel

theorem test_premises_BootCommands_cal : calCheck 0 devCal.calBuf = 0 := by
  rw [cal_bytes]
  unfold calCheck leAt
  rw [List.take_left' (by rw [List.length_replicate]), show List.drop 4092 (List.replicate 4092 (0 : Byte) ++ natLE 4 (0x603B0489 : Word).toNat) = _ from List.drop_left' (List.length_replicate ..), cal_crc]
  decide +kernel

theorem test_premises_BootCommands :
    (takesB dev0 .boot = true ∧ (dev0.setReg (secb + Off.SEC_LOCK0) 2).locked .boot = true ∧ dev0.locked .boot = false ∧ calCheck 6 dev0.calBuf ≠ 0)
      ∧ (leAt [3, 0, 0, 0, 0, 0, 0, 0] 0 4 = (3 : Fin 7).val ∧ leAt [3, 0, 0, 0, 0, 0, 0, 0] 4 4 ≤ 4084 ∧ crc32 (([3, 0, 0, 0, 0, 0, 0, 0] : List Byte).take 4092) ≠ BitVec.ofNat 32 (leAt [3, 0, 0, 0, 0, 0, 0, 0] 4092 4)
          ∧ leAt [3, 0, 0, 0, 0, 0, 0, 0] 0 4 ≠ (4 : Fin 7).val)
      ∧ (let d := dev0.setDom 46 2
         takesB d .sec = true ∧ d.domOn 46 = true ∧ d.domBarred 46 = false ∧ d.fld (secb + Off.SEC_STATUS) Fl.SEC_STATUS_BUSY = 0 ∧ d.fld (secb + Off.SEC_STATUS) Fl.SEC_STATUS_ID_DOWN = 0
           ∧ (d.setFld (secb + Off.SEC_STATUS) Fl.SEC_STATUS_ID_DOWN 1).fld (secb + Off.SEC_STATUS) Fl.SEC_STATUS_ID_DOWN = 1 ∧ d.secOp = 0 ∧ { d with secOp := 2 }.secOp = 2 ∧ { d with secOp := 1 }.secOp = 1) :=
  ⟨by decide +kernel, by decide +kernel, by decide +kernel⟩

/-! ### The Bolt -/

/-- A request of channel 1. -/
def ask (op scale : Nat) (isOpen : Bool) : BReq := ⟨1, op, scale, 9, [], 0, isOpen⟩

/-- The Bolt with power, a request, and scale 3 as given. -/
def boltOf (r : BReq) (x : Scale) : Bolt := { Bolt.atReset with power := true, time := 100, req := some r, scales := [(3, x)], prices := [(77, some ⟨249, false, none⟩)] }

/-- A scale of 30 kg in steps of 5 g with 0.1 g a count; both samples are `v`. -/
def scl (v : Int) : Scale := { Scale.fresh with maxMg := 30000000, e := 5000, filt := 2, stabMs := 200, rate := 10, spanNum := 100, samples := [(100, v), (50, v)], online := true }

/-- The Bolt with such a request and scale is asked. -/
theorem asked (op scale : Nat) (isOpen : Bool) (x : Scale) : Asked (boltOf (ask op scale isOpen) x) (ask op scale isOpen) op := ⟨rfl, rfl, rfl, Nat.one_lt_two⟩

theorem test_premises_BoltMailbox :
    (∀ op, Asked (boltOf (ask op 3 false) (scl 0)) (ask op 3 false) op)
      ∧ (let m := Block.bolt.base
         let d (h : Word) : Dev := (dev0.setReg (m + Off.MB_REQ 1 0) h).setFld (m + Off.MB_STATUS 1) Fl.MB_STATUS_STATE 1
         (d 0x23).rung 1 = true ∧ (d 0x23).rung 0 = false ∧ ((d 0x23).setFld (m + Off.MB_STATUS 0) Fl.MB_STATUS_STATE 1).rung 0 = true ∧ Bolt.atReset.served = (1 : Fin 2).val
           ∧ ((d 0x03B80323).reg (m + Off.MB_REQ 1 0)).toNat % 256 = 0x23 ∧ ((d 0x03B80323).reg (m + Off.MB_REQ 1 0)).toNat / 65536 ≤ 952 ∧ 952 < ((d 0x03B90323).reg (m + Off.MB_REQ 1 0)).toNat / 65536
           ∧ ((d 0x50).reg (m + Off.MB_REQ 1 0)).toNat % 256 = 0x50)
      ∧ ((∃ tag, hmac256 [] (Config.boltPack 0x30 (blockValues 1 [])) = tag) ∧ Bolt.atReset.priceVer < (1 : Word).toNat ∧ (0 : Word).toNat ≤ Bolt.atReset.priceVer ∧ 48 < (List.replicate 49 (0 : Nat)).length)
      ∧ (let b := boltOf (ask 0x31 3 false) (scl 0)
         Tab.get none b.prices (77 : Word).toNat = some ⟨249, false, none⟩ ∧ Tab.get none b.prices (78 : Word).toNat = none)
      ∧ (let b := { boltOf (ask 0x40 3 false) (scl 0) with nextRec := 65537, recs := [[1], [2]] }
         b.nextRec ≤ (65537 : Word).toNat ∧ (65536 : Word).toNat < b.nextRec ∧ b.recs[b.nextRec - 1 - (65536 : Word).toNat]? = some [1] ∧ b.recs.length + (0 : Word).toNat < b.nextRec)
      ∧ (let c (s : Bool) : Check := ⟨4, 0, 1023, 0, 0, s⟩
         let b := { boltOf (ask 0x41 3 false) (scl 0) with checks := [c true] }
         (∀ c ∈ b.checks, c.num ≠ 5) ∧ b.checks.find? (fun c => c.num == 4) = some (c true) ∧ [c false].find? (fun c => c.num == 4) = some (c false))
      ∧ (let a : Audit := ⟨7, 0, 3, [], [], 1, 0⟩
         let b := { boltOf (ask 0x42 3 false) (scl 0) with audit := [a] }
         (∀ a ∈ b.audit, a.value ≠ (6 : Word).toNat) ∧ b.audit.find? (fun a => a.value == (7 : Word).toNat) = some a)
      ∧ ({ Bolt.atReset with events := [(4, 0xFF)], lost := true }.events = [(4, 0xFF)] ∧ devAll.readsOn .bolt = true ∧ dev0.boot.down.contains 12 = false ∧ (dev0.waiting 0x0B).length < 8) :=
  ⟨fun op => asked op 3 false _, by decide +kernel, ⟨⟨_, rfl⟩, by decide⟩, by decide +kernel, by decide +kernel, by decide +kernel, by decide +kernel, by decide +kernel⟩

/-- Whether a Bolt image verifies is a free value of the model: an image that does and one that does not are both admitted, and the version of either is free. -/
theorem test_premises_BoltLegalCommands :
    (∀ op, Asked (boltOf (ask op 3 true) (scl 500)) (ask op 3 true) op ∧ Asked (boltOf (ask op 4 true) (scl 500)) (ask op 4 true) op ∧ Asked (boltOf (ask op 48 false) (scl 500)) (ask op 48 false) op)
      ∧ (sealedOp (.calibrate none) = some 0x11 ∧ (ask 0x11 3 true).sealOpen = true ∧ (ask 0x11 3 false).sealOpen = false ∧ { boltOf (ask 0x11 3 true) (scl 0) with legal := 2 ^ 32 - 1 }.legal = 2 ^ 32 - 1
          ∧ (boltOf (ask 0x11 3 true) (scl 0)).legal < 2 ^ 32 - 1)
      ∧ (let b := boltOf (ask 0x11 3 true) (scl 500)
         let x := b.scale 3
         x.online = true ∧ x.window ≠ [] ∧ 0 < 1000 ∧ x.zero * x.window.length < x.window.foldl (· + ·) 0 ∧ (b.scale 4).online = false ∧ b.events.length < 31)
      ∧ (List.replicate 32 (0 : Byte)).length = 32
      ∧ (∀ img, Config.boltVersion img < { Bolt.atReset with anti := Config.boltVersion img + 1 }.anti ∧ Bolt.atReset.anti ≤ Config.boltVersion img) :=
  ⟨fun op => ⟨asked op 3 true _, asked op 4 true _, asked op 48 false _⟩, by decide +kernel, by decide +kernel, by decide, fun _ => ⟨Nat.lt_succ_self _, Nat.zero_le _⟩⟩

theorem test_premises_BoltWeighing :
    (∀ op isOpen, Asked (boltOf (ask op 3 isOpen) (scl 500)) (ask op 3 isOpen) op) ∧ (∀ op, Asked (boltOf (ask op 48 false) (scl 500)) (ask op 48 false) op)
      ∧ (closedOp .zero = some 0x20 ∧ (ask 0x20 3 true).sealOpen = true ∧ (boltOf (ask 0x20 3 true) (scl 0)).sealOpen = false)
      ∧ (let x (v : Int) := (boltOf (ask 0x20 3 false) (scl v)).scale 3
         ((x 6000).online = true ∧ (x 6000).stable 100 = true ∧ 50 * (((x 6000).about (x 6000).calZero).natAbs : Int) ≤ (x 6000).maxMg ∧ ((x 6001).maxMg : Int) < 50 * ((x 6001).about (x 6001).calZero).natAbs)
           ∧ ({ x 0 with samples := [(100, 0)] }.stable 100 = false ∧ (100 : Nat) < 50 + 75000000)
           ∧ ((x 0).e ∣ 1000 * 30000 ∧ 1000 * 30000 ≤ (x 0).maxMg ∧ ¬((x 0).e ∣ 1000 * 3) ∧ (x 0).maxMg < 1000 * 30005 ∧ (x 500).overload = false ∧ 0 ≤ (x 500).gross)
           ∧ ((x 300451).overload = true ∧ (x 300450).overload = false ∧ (x (-1001)).underload = true ∧ (x (-1000)).underload = false)
           ∧ ((x 12345).gross = 1235000 ∧ Tab.get none (boltOf (ask 0x23 3 false) (x 12345)).prices (77 : Word).toNat = some ⟨249, false, none⟩ ∧ 0 < (x 12345).gross - (x 12345).tare ∧ (x 0).gross - (x 0).tare ≤ 0
               ∧ rneDiv (((x 12345).gross - (x 12345).tare) * 249) (10 ^ 6) = 308 ∧ (boltOf (ask 0x23 3 false) (x 12345)).sinceCheck ≠ 1023)) :=
  ⟨fun op isOpen => asked op 3 isOpen _, fun op => asked op 48 false _, by decide +kernel, by decide +kernel⟩

/-- A weighing frame of Pane 7, channel 9: counter 5, one sample, and the tag of an empty key. -/
def wframe : List Byte := [5, 0, 0, 0, 1, 0, 0, 0, 1, 2, 3]

theorem test_premises_BoltInputs :
    (let b := boltOf (ask 0x20 3 false) (scl 0)
     b.power = true ∧ b.sealOpen = false ∧ { b with sealOpen := true }.sealOpen = true ∧ b.events.length < 32 ∧ (b.scale 2).e = 0 ∧ (b.scale 3).e ≠ 0 ∧ (b.scale 3).online = true
       ∧ { scl 0 with online := false }.online = false ∧ dev0.weighQ = [] ∧ b.time < (b.scale 3).seen + 250000000 / (b.scale 3).rate ∧ (scl 0).seen + 250000000 / (scl 0).rate ≤ { b with time := 25000000 }.time)
      ∧ (let x : Scale := { scl 0 with bind := some (7, 9) }
         (∀ e ∈ [(3, scl 0)], e.2.bind ≠ some (7, 9)) ∧ [(3, x)].find? (fun e => e.2.bind == some (7, 9)) = some (3, x) ∧ { x with counter := some 5 }.counter = some (leAt wframe 0 4) ∧ x.counter = none)
      ∧ (let f := wframe ++ hmac256 [] wframe
         f.length = 40 + 3 * 1 ∧ hmac256 [] (f.take (f.length - 32)) = f.drop (f.length - 32) ∧ leAt f 4 1 = 1)
      ∧ (let b := { Bolt.atReset with sinceCheck := 1, time := 1500000000, checks := [⟨1, 0, 5, 0, 0, false⟩, ⟨0, 0, 5, 0, 0, true⟩] }
         0 < b.sinceCheck ∧ b.checkAt + 1500000000 ≤ b.time ∧ b.checks.reverse.find? (fun c => !c.signed) = some ⟨1, 0, 5, 0, 0, false⟩)
      ∧ Bolt.atReset.power = false :=
  ⟨by decide +kernel, by decide +kernel, by decide +kernel, by decide +kernel, rfl⟩

/-! ### The block as a whole -/

/-- The Bolt's invariant holds after reset. -/
theorem inv_reset : Bolt.Inv Bolt.atReset := by constructor <;> decide

theorem test_premises_TickOfTime : State.reset.pending = [] := rfl

theorem test_premises_BoltIsApart :
    (∃ t, exec .apllBiasTrim State.reset = .next t) ∧ boltRow .apllBiasTrim = false ∧ (∃ t, exec .identify State.reset = .next t) ∧ boltRow .identify = true ∧ State.reset.bolt.Inv :=
  ⟨⟨_, rfl⟩, rfl, ⟨_, rfl⟩, rfl, inv_reset⟩

theorem test_premises_BoltInvKept : State.reset.bolt.Inv ∧ ∃ t, step { State.reset with pending := [.boltPowerOn true] } = .next t := ⟨inv_reset, _, rfl⟩

theorem test_premises_LegalCounterNeverFalls :
    State.reset.bolt.Inv ∧ (∃ t, step { State.reset with pending := [.boltPowerOn true] } = .next t)
      ∧ (∀ op isOpen, Asked (boltOf (ask op 3 isOpen) (scl 0)) (ask op 3 isOpen) op) ∧ sealedOp (.calibrate none) = some 0x11 ∧ closedOp .zero = some 0x20 :=
  ⟨inv_reset, ⟨_, rfl⟩, fun op isOpen => asked op 3 isOpen _, rfl, rfl⟩

/-- A change of a legal parameter raises the counter, and a WEIGH makes a record. -/
theorem test_counter_and_record :
    passes (exec (.calibrate none) { onDevice devAll with bolt := boltOf (ask 0x11 3 true) (scl 500) }) (fun t => t.bolt.legal == 1 && t.bolt.audit.length == 1 && t.bolt.req == none) = true
      ∧ passes (exec (.weigh 77 5 true) { onDevice devAll with bolt := boltOf (ask 0x23 3 false) (scl 12345) }) (fun t => t.bolt.nextRec == 1 && t.bolt.recs.length == 1 && t.bolt.msp.length == 1) = true := by
  decide +kernel

theorem test_premises_CountersWrap :
    let lost := Block.tel.base + Off.TEL_LOG_LOST
    let replay := (Block.mesh 1).base + Off.MESH_BR_REPLAY
    (8184 : Fin 8192).val % 8 = 0 ∧ (dev0.setReg lost 0xFFFFFFFF).reg lost = 0xFFFFFFFF ∧ (dev0.waiting 0x0C).length < 8 ∧ (dev0.setReg replay 0xFFFFFFFF).reg replay = 0xFFFFFFFF
      ∧ (dev0.waiting (srcMesh 1)).length < 8 ∧ 8 ≤ ((dev0.setWaiting (srcMesh 1) (List.replicate 8 rec0)).waiting (srcMesh 1)).length
      ∧ (dev0.reg (Block.tel.base + Off.TEL_SRC_DROPS)).toNat + 1 < 2 ^ 32 ∧ dev0.reg replay ≠ 0xFFFFFFFF
      ∧ 12 ≤ (15 : Fin 16).val ∧ (11 : Fin 16).val < 12 := by decide +kernel

/-! ### Commands that their interface cannot carry are refused by the check -/

theorem test_wf_offsets :
    Instr.wf (.registerWrite .pf0 2 0 2) = false ∧ Instr.wf (.registerWrite .pf0 2 0 1) = true ∧ Instr.wf (.registerWrite .pf0 0x8000000 0 2) = false ∧ Instr.wf (.shadowLowRead .pf0 1 1) = false
      ∧ Instr.wf (.shadowLowRead .pf0 1 0) = true ∧ Instr.wf (.rcFieldRead .pf0 6 2) = false ∧ Instr.wf (.enableTakesEffect 6) = false ∧ Instr.wf (.registerWrite .pf0 0x7FFFFFC 0 2) = true
      ∧ Instr.wf (.bar2Read 0 2 1) = false ∧ Instr.wf (.bar2Read 0 4 0) = false
      ∧ Instr.wf (.bar2Write 0 2 [0, 0, 0, 0]) = false ∧ Instr.wf (.bar2Write 0 4 [0, 0, 0]) = false ∧ Instr.wf (.bar2Write 0 4 [0, 0, 0, 0]) = true := by decide

theorem test_wf_lengths :
    Instr.wf (.audioFrameRx 0 0 (hdr 0) 0 0 []) = false ∧ Instr.wf (.audioFrameRx 0 0 (hdr 0) 0 0 (List.replicate 65 0)) = false ∧ Instr.wf (.videoFrameRx 0 0 (hdr 0) (List.replicate 241 0)) = false
      ∧ Instr.wf (.weighFrameRx 0 0 (hdr 0) (List.replicate 241 0)) = false ∧ Instr.wf (.ctxData 0 (hdr 0) false 0 0 0 (List.replicate 225 0)) = false ∧ Instr.wf (.ack 0 (hdr 0) []) = false
      ∧ Instr.wf (.pairWord 0 (hdr 0) []) = false ∧ Instr.wf (.relinquish 0 (hdr 0) (List.replicate 118 0)) = false ∧ Instr.wf (.adoptedList 0 (hdr 0) []) = false := by decide +kernel

theorem test_wf_entries :
    Instr.wf (.commandTake 0 (List.replicate 63 0) true) = false ∧ Instr.wf (.streamAdmit 0 false 0 0 (List.replicate 65 0) false) = false ∧ Instr.wf (.streamModify 0 false 0 0 []) = false
      ∧ Instr.wf (.priceLoad 0 (List.replicate 49 ⟨0, 0, false, none⟩) []) = false ∧ Instr.wf (.commandTake 0 (List.replicate 64 0) true) = true := by decide +kernel

/-! ### Worked examples of the specification -/

/-- The register map: core 300 stands at 0x044C_0000 (chapter 01). -/
theorem test_core_300 : (Block.core 300).base = 0x044C0000 := by decide

/-- The price of the worked record: 1,237.6 g rounds to 1,240 g; less 10 g at 249 per kg it costs 306. -/
theorem test_worked_record :
    { scl 12376 with samples := [(100, 12376), (50, 12376)] }.gross = 1240000 ∧ priceOf 1230000 249 false = 306
      ∧ passes (exec (.weigh 4011 0 false) { onDevice devAll with bolt := { boltOf (ask 0x23 3 false) (scl 12376) with prices := [(4011, some ⟨249, false, some 10⟩)] } })
          (fun t => match t.bolt.recs with
            | r :: _ => leAt r 16 4 == 0x12C4B0 && leAt r 20 4 == 0x2710 && leAt r 28 4 == 0x132
            | [] => false) = true := by decide +kernel

/-- A preset tare that is no multiple of e, and an item without a price, write nothing. -/
theorem test_worked_record_refused :
    passes (exec (.weigh 4011 0 false) { onDevice devAll with bolt := { boltOf (ask 0x23 3 false) (scl 12376) with prices := [(4011, some ⟨249, false, some 12⟩)] } })
        (fun t => t.bolt.recs == [] && (t.dev.reg (Block.bolt.base + Off.MB_RSP 1 0)).toNat % 256 == 10) = true
      ∧ passes (exec (.weigh 4012 0 false) { onDevice devAll with bolt := boltOf (ask 0x23 3 false) (scl 12376) })
        (fun t => t.bolt.recs == [] && (t.dev.reg (Block.bolt.base + Off.MB_RSP 1 0)).toNat % 256 == 7) = true := by decide +kernel

/-- The divider words of the worked 44.1 kHz port, and of the worked port at 48 kHz with its loop gains. -/
theorem test_dividers :
    divWord 64 44100 = 0x11B * 2 ^ 24 + 0x725BB8 ∧ divWord 256 48000 = 0x41 * 2 ^ 24 + 0x1AAAAB ∧ loopKp 1 48000 = 281105 ∧ loopKi 1 48000 = 221 := by decide +kernel

/-- Rounding shifts, ties to even (R117). -/
theorem test_round_shift : rnShift 6 2 = 2 ∧ rnShift 10 2 = 2 ∧ rnShift 14 2 = 4 ∧ rnShift (-1152) 8 = -4 := by decide

/-- The worked output tile: a shift of 8 and a clamp to INT8, lanes 4 to 15 zeroed, with its statistics. -/
theorem test_requantise :
    let c : Core := { coreRun with mregs := [(1, 0xF)], vregs := [(64, 12345), (65, -1152), (66, 40000), (67, 640), (68, 0x7FFFFFFF)] }
    let c := (c.setFld (Off.STAT_CFG 2) Fl.STAT_CFG_EN 1).setFld (Off.STAT_CFG 2) Fl.STAT_CFG_WIN_LOG2 20
    let i : Instr := .req ⟨3, false⟩ ⟨1, true⟩ 5 4 0 2 0 ⟨8, 0, 0, true⟩
    passes (exec i (holding c i)) (fun t =>
      let c := t.dev.core 3
      (List.range 5).map (c.v 5) == [48, -4, 127, 2, 0] && c.reg (Off.STAT_MAXABS 2) == 40000 && c.reg (Off.STAT_SQERR_LO 2) == 56106161 && c.reg (Off.STAT_SATS 2) == 1 && c.reg (Off.STAT_ELEMS 2) == 4) = true := by
  decide +kernel

/-- The worked access to an expert register: a write with EXPERT_EN at 0 is dropped, one with EXPERT_EN at 1 is kept (R14). -/
theorem test_expert_write :
    let o := (Block.hbm 1).base + Off.HBM_EXP
    passes (exec (.registerWrite .pf0 o 1 2) (onDevice devAll)) (fun t => t.dev.reg o == devAll.reg o && (t.dev.waiting 0).length == 1) = true
      ∧ passes (exec (.registerWrite .pf0 o 1 2) (onDevice (devAll.setReg ((Block.hbm 1).base + 0x8000) 1))) (fun t => t.dev.reg o != devAll.reg o) = true := by decide +kernel

end Sys2Proof.Tests
end

section
/-! SUPPORT. Register accesses: the checks of a write in their order, the enables that wait for a domain, and what a read returns and leaves (O43). -/

namespace Sys2Proof.Machine

/-! ### Records -/

/-- A record with room at its source changes no register. -/
theorem Dev.emit_regs (d : Dev) (e : Ev) (h : (d.waiting e.src).length < 8) : (d.emit e).regs = d.regs := by
  simp only [Dev.emit, if_pos h, Dev.setWaiting_regs]

/-- A record of class BOOT or SEC leaves the held writes. -/
theorem Dev.bootRecord_held (d : Dev) (cls code o : Nat) : (d.bootRecord cls code o 0 0).held = d.held := d.emit_held _

/-! ### Where an access goes (R31, R36) -/

/-- No access to configuration space reaches a register of BAR0. -/
theorem ne_config_of_locate {who : Who} {off : Nat} {e : Block × Nat} (h : locate (absOff who off) = some e) (f : Fin 33) : who ≠ .config f := by
  rintro rfl
  cases h

/-- Only an access that names MB_EVENT itself reaches it, for the mailbox lies in no client's BAR0 and in no core's window. -/
theorem off_eq_event {who : Who} {off : Nat} (h : absOff who off = boltb + Off.MB_EVENT) (hname : mayName who .bolt = true) :
    off = boltb + Off.MB_EVENT := by
  have high : (0x20000000 : Nat) ≠ boltb + Off.MB_EVENT := by decide
  cases who with
  | core k => cases hname
  | config f => cases hname
  | client c =>
    simp only [absOff] at h
    split at h
    · simp only [Block.base, boltb, Off.MB_EVENT] at h
      omega
    · exact absurd h high
  | pf0 | hinge | debug =>
    simp only [absOff] at h
    split at h
    · exact h
    · exact absurd h high

/-! ### The checks of a write (R5, R7, R14, R33–R35) -/

/-- REGISTER_WRITE is its meaning. -/
theorem exec_registerWrite (who : Who) (off : Nat) (v : Word) (w : Fin 3) (s : State) :
    exec (.registerWrite who off v w) s = execRegisterWrite who off v w s := rfl

/-- A write narrower than 32 bits leaves the state as it is (R5). -/
theorem exec_registerWrite_narrow (who : Who) (off : Nat) (v : Word) {w : Fin 3} (hw : w ≠ 2) (s : State) :
    exec (.registerWrite who off v w) s = .next s := by
  rw [exec_registerWrite, execRegisterWrite, onDev_next, if_pos hw]

/-- A write of 32 bits outside configuration space goes through the checks. -/
theorem exec_registerWrite_word {who : Who} (hbar : ∀ f, who ≠ .config f) (off : Nat) (v : Word) (s : State) :
    exec (.registerWrite who off v 2) s = .next { s with dev := s.dev.regWrite who off v } := by
  cases who with
  | config f => exact absurd rfl (hbar f)
  | pf0 | client _ | core _ | hinge | debug => rfl

/-- A write where no block lies. -/
theorem Dev.regWrite_nowhere (d : Dev) {who : Who} {off : Nat} (v : Word) (h : locate (absOff who off) = none) : d.regWrite who off v = d := by
  simp only [Dev.regWrite, h]

section
variable (d : Dev) {who : Who} {off l : Nat} {b : Block} {r : RegSpec} (v : Word) (hplace : locate (absOff who off) = some (b, l))
include hplace

/-- A write where no register lies. -/
theorem Dev.regWrite_no_register (hreg : regOf b l = none) : d.regWrite who off v = d := by
  simp only [Dev.regWrite, hplace, hreg]

/-- A write to a block that the writer cannot name, or that does not answer. -/
theorem Dev.regWrite_unanswered (h : mayName who b = false ∨ d.answers b = false) : d.regWrite who off v = d := by
  cases hreg : regOf b l with
  | none => exact d.regWrite_no_register v hplace hreg
  | some r => simp only [Dev.regWrite, hplace, hreg, if_pos h]

variable (hreg : regOf b l = some r) (hname : mayName who b = true) (hans : d.answers b = true)
include hreg hname hans

/-- A host's write to a locked block is recorded (R33). -/
theorem Dev.regWrite_locked (hhost : isHost who = true) (hlock : d.locked b = true) :
    d.regWrite who off v = d.bootRecord kSEC 0x02 (absOff who off) 0 0 := by
  simp [Dev.regWrite, hplace, hreg, hname, hans, hhost, hlock]

variable (hfree : isHost who = false ∨ d.locked b = false)
include hfree

/-- A write to a block whose domain is not ON is recorded (R34). -/
theorem Dev.regWrite_dark {n : Nat} (hdom : domainFor b = some n) (hoff : d.domOn n = false) :
    d.regWrite who off v = d.offAccess (absOff who off) := by
  have hpass : ¬(isHost who = true ∧ d.locked b = true) := by
    rintro ⟨hhost, hlock⟩
    simp [hhost, hlock] at hfree
  simp [Dev.regWrite, hplace, hreg, hname, hans, hpass, hdom, hoff]

/-- A write that passes the checks: the block makes it, after a record where an expert field is not enabled (R14). -/
theorem Dev.regWrite_reaches (hlit : ∀ n, domainFor b = some n → d.domOn n = true) :
    d.regWrite who off v =
      (if r.expert = true ∧ d.expertOn b = false then d.bootRecord kSEC 0x01 (absOff who off) 0 0 else d).enableWrite b l r v := by
  have hpass : ¬(isHost who = true ∧ d.locked b = true) := by
    rintro ⟨hhost, hlock⟩
    simp [hhost, hlock] at hfree
  cases hdom : domainFor b with
  | none => simp [Dev.regWrite, hplace, hreg, hname, hans, hpass, hdom]
  | some n => simp [Dev.regWrite, hplace, hreg, hname, hans, hpass, hdom, hlit n hdom]

end

/-! ### The write of a block (R35, R243, R490) -/

/-- Where no write waits, forgetting those of a register changes nothing. -/
theorem Dev.forget_held (d : Dev) (p : Nat × Word × List Nat → Bool) (h : d.held = []) : { d with held := d.held.filter p } = d := by
  rw [h, List.filter_nil, ← h]

/-- A register of an HBM controller without a rule of its own has no enables: its write is the plain one. -/
theorem Dev.enableWrite_hbm (d : Dev) (side l : Nat) (r : RegSpec) (v : Word) (hheld : d.held = []) (hl : l ≠ Off.HBM_CTRL) :
    d.enableWrite (.hbm side) l r v = d.setReg ((Block.hbm side).base + l) (r.write (d.expertOn (.hbm side)) v (d.reg ((Block.hbm side).base + l))) := by
  unfold Dev.enableWrite
  simp [d.forget_held _ hheld, Dev.wants, Dev.opens, Dev.blockWrite, hl, Dev.plainWrite]

/-- Operation 0 of SEC_CTRL begins nothing. -/
theorem Dev.secStart_zero (d : Dev) : d.secStart 0 = d := by
  simp [Dev.secStart]

/-- An operation of SEC_CTRL begins while the engine is idle and its identity stands (R490). -/
theorem Dev.secStart_idle (d : Dev) {op : Nat} (hbusy : d.fld (secb + Off.SEC_STATUS) Fl.SEC_STATUS_BUSY = 0)
    (hid : d.fld (secb + Off.SEC_STATUS) Fl.SEC_STATUS_ID_DOWN = 0) (h0 : op ≠ 0) (h3 : op ≠ 3) :
    d.secStart op = { d.setFld (secb + Off.SEC_STATUS) Fl.SEC_STATUS_BUSY 1 with secOp := op } := by
  simp [Dev.secStart, hbusy, hid, h0, h3]

/-- The engine is busy with the operation that began (R490). -/
theorem Dev.secStart_busy (d : Dev) {op : Nat} (hbusy : d.fld (secb + Off.SEC_STATUS) Fl.SEC_STATUS_BUSY = 0)
    (hid : d.fld (secb + Off.SEC_STATUS) Fl.SEC_STATUS_ID_DOWN = 0) (h0 : op ≠ 0) (h3 : op ≠ 3) :
    (d.secStart op).secOp = op ∧ (d.secStart op).held = d.held ∧ (d.secStart op).fld (secb + Off.SEC_STATUS) Fl.SEC_STATUS_BUSY = 1 := by
  rw [d.secStart_idle hbusy hid h0 h3]
  exact ⟨rfl, rfl, d.fld_setFld_same _ _ 1 (by decide)⟩

/-- A write of SEC_CTRL begins the operation that its OP names. -/
theorem Dev.blockWrite_secCtrl (d : Dev) (r : RegSpec) (v : Word) : d.blockWrite .sec Off.SEC_CTRL r v = d.secStart (Fl.SEC_CTRL_OP.get v) := by
  simp [Dev.blockWrite, Dev.secWrite]

/-- The enable of a write of SEC_CTRL that asks for the attestation report, which waits for the crypto Shutter alone (R481). -/
def attestEnable : Word := Fl.SEC_CTRL_OP.put 0 1

section
variable (d : Dev) (r : RegSpec) {v : Word} (hop : Fl.SEC_CTRL_OP.get v = 1) (hrest : Fl.SEC_CTRL_OP.get (v &&& ~~~attestEnable) = 0)
include hop

/-- The write's enable, and the crypto Shutter 46 that it waits for. -/
theorem Dev.wants_attest : d.wants .sec Off.SEC_CTRL v = (attestEnable, [46]) := by
  simp only [Dev.wants, hop, true_or, and_self, if_true, attestEnable, shCrypto]

variable (hheld : d.held = [])
include hheld hrest

/-- The report is not made where the crypto domain is KEEP_OFF or DOWN (R35). -/
theorem Dev.enableWrite_attest_barred (hbar : d.domBarred 46 = true) :
    d.enableWrite .sec Off.SEC_CTRL r v = d.offAccess (secb + Off.SEC_CTRL) := by
  unfold Dev.enableWrite
  simp [d.forget_held _ hheld, d.wants_attest hop, hbar, Dev.blockWrite_secCtrl, hrest, Dev.secStart_zero, secb]

/-- The report waits while the crypto domain is not ON, and the Sill is asked to open it (R35). -/
theorem Dev.enableWrite_attest_waits (hbar : d.domBarred 46 = false) (hoff : d.domOn 46 = false) :
    d.enableWrite .sec Off.SEC_CTRL r v = { d.askOpen 46 with held := d.held ++ [(secb + Off.SEC_CTRL, attestEnable, [46])] } := by
  unfold Dev.enableWrite
  simp [d.forget_held _ hheld, d.wants_attest hop, hbar, hoff, Dev.blockWrite_secCtrl, hrest, Dev.secStart_zero, secb]

end

/-! ### What the Sill is asked (R493) -/

/-- A domain that is closed, not on its way and not barred is queued for opening. -/
theorem Dev.mem_queue_askOpen (d : Dev) {n : Nat} (hbolt : n ≠ shBolt) (hoff : d.domOn n = false) (hsw : d.switching n = none)
    (hbar : d.domBarred n = false) : (n, 2) ∈ (d.askOpen n).sill.queue := by
  simp only [Dev.askOpen, hbolt, hsw, hoff, hbar, Bool.false_eq_true, false_and, or_self, if_false, Dev.shutRequest]
  split
  · next hany =>
    obtain ⟨e, he, hn⟩ := List.any_eq_true.mp hany
    exact List.mem_map.mpr ⟨e, he, if_pos (by simpa using hn)⟩
  · simp

/-- A use of a domain asks for it as a user does. -/
theorem Dev.useDomain_queue (d : Dev) (n : Nat) : (d.useDomain n).sill.queue = (d.askOpen n).sill.queue := rfl

/-! ### Enables that take effect (R35) -/

/-- ENABLE_TAKES_EFFECT is its meaning. -/
theorem exec_enableTakesEffect (off : Nat) (s : State) : exec (.enableTakesEffect off) s = execEnableTakesEffect off s := rfl

/-- Without a held write of the register whose domains are ON, no enable takes effect. -/
theorem exec_enableTakesEffect_none (off : Nat) (s : State) (h : ∀ e ∈ s.dev.held, e.1 ≠ off ∨ e.2.2.all s.dev.domOn = false) :
    exec (.enableTakesEffect off) s = .next s := by
  have hfind : s.dev.held.find? (fun e => e.1 == off && e.2.2.all s.dev.domOn) = none := by
    rw [List.find?_eq_none]
    intro e he
    rcases h e he with hne | hdark
    · simp [hne]
    · simp [hdark]
  rw [exec_enableTakesEffect, execEnableTakesEffect, onDev_next, hfind]

/-- The only held write, one of SEC_CTRL, is made once its domain is ON. -/
theorem exec_enableTakesEffect_sec (s : State) (w : Word) (hheld : s.dev.held = [(secb + Off.SEC_CTRL, w, [46])]) (hon : s.dev.domOn 46 = true) :
    exec (.enableTakesEffect (secb + Off.SEC_CTRL)) s =
      .next { s with dev := Dev.secStart { s.dev with held := [] } (Fl.SEC_CTRL_OP.get (s.dev.reg (secb + Off.SEC_CTRL) ||| w)) } := by
  obtain ⟨r, hr⟩ : ∃ r, regOf .sec Off.SEC_CTRL = some r := ⟨_, rfl⟩
  have hplace : locate (secb + Off.SEC_CTRL) = some (.sec, Off.SEC_CTRL) := rfl
  have hfind : s.dev.held.find? (fun e => e.1 == secb + Off.SEC_CTRL && e.2.2.all s.dev.domOn) = some (secb + Off.SEC_CTRL, w, [46]) := by
    simp [hheld, hon]
  have hrest : s.dev.held.filter (fun x => x != (secb + Off.SEC_CTRL, w, [46])) = [] := by simp [hheld]
  rw [exec_enableTakesEffect, execEnableTakesEffect, onDev_next, hfind]
  simp only [hrest, hplace, hr, Dev.blockWrite_secCtrl]
  rfl

/-! ### Configuration space (R438, R440, R461) -/

/-- A function whose MSI-X Enable is 0 sends no pending message. -/
theorem Dev.msixFlush_off (d : Dev) {f : Nat} (v : Nat) (h : d.msixOff.contains f = true) : d.msixFlush f v = d := by
  simp only [Dev.msixFlush, h, true_or, if_true]

/-- A write of 0 to MSI-X Enable marks the function, and sends nothing. -/
theorem Dev.configWrite_msix_off (d : Dev) (f : Nat) {v : Word} (hv : v.getLsbD 0 = false) :
    d.configWrite f 1 v = { d with msixOff := d.msixOff.filter (· != f) ++ [f] } := by
  simp only [Dev.configWrite, hv, Bool.false_eq_true, if_false, Dev.each]
  exact List.foldl_fixed' (fun v => Dev.msixFlush_off _ v (by simp)) _

/-- A write of the size of BAR2, which the client functions share. -/
theorem Dev.configWrite_bar2 (d : Dev) {f : Nat} {v : Word} (hf : 0 < f) (hv : v.toNat ≤ 7) : d.configWrite f 2 v = d.setPci (min f 2) 2 v.toNat := by
  simp only [Dev.configWrite, if_pos (And.intro (Nat.ne_of_gt hf) hv), pciBar]

/-- A read of Bus Master Enable. -/
theorem Dev.configRead_bme (d : Dev) (f : Nat) : d.configRead f 0 = if d.bmeOff.contains f then 0 else 1 := by
  simp only [Dev.configRead]
  cases d.bmeOff.contains f <;> rfl

end Sys2Proof.Machine

namespace Sys2Proof.Machine

/-! ### Reads (R5, R6, R9, R11, R34) -/

/-- The bytes of a register that a read at byte `q` of its word returns. -/
theorem bytesOf_lane (x : Word) {off : Nat} (q : Fin 4) (w : Fin 3) (h : off % 4 = 0) :
    bytesOf x (off + q) w = wd (x.toNat / 2 ^ (8 * q.val) % 2 ^ (8 * 2 ^ w.val)) := by
  have hq : (off + q.val) % 4 = q.val := by omega
  rw [bytesOf, hq]

/-- A read of the whole word. -/
theorem bytesOf_word (x : Word) {off : Nat} (h : off % 4 = 0) : bytesOf x off 2 = x := by
  have hlt : x.toNat < 2 ^ 32 := x.isLt
  simp only [bytesOf, h, wd]
  rw [show 8 * 2 ^ (2 : Fin 3).val = 32 from rfl, Nat.mul_zero, Nat.pow_zero, Nat.div_one, Nat.mod_eq_of_lt hlt]
  exact BitVec.ofNat_toNat ..

/-- A read command that finds no event of the Bolt to take acts on the device alone. -/
theorem readCmd_quiet (who : Who) (off : Nat) (f : Dev → Dev) (s : State)
    (h : absOff who (off / 4 * 4) = boltb + Off.MB_EVENT → s.bolt.events = []) : readCmd who off f s = .next { s with dev := f s.dev } := by
  unfold readCmd onBolt
  dsimp only
  split
  · next hev => simp only [takeEvent, h hev.1]
  · rfl

/-- Both read commands do the same. -/
theorem exec_read {who : Who} {off : Nat} {w : Fin 3} {read : Instr} (h : read = .shadowLowRead who off w ∨ read = .rcFieldRead who off w) (s : State) :
    exec read s = readCmd who off (fun d => d.hostReadReg who off w) s := by
  rcases h with rfl | rfl <;> rfl

/-- A read command outside configuration space answers bytes of the register read. -/
theorem Dev.hostReadReg_bar {who : Who} (hbar : ∀ f, who ≠ .config f) (d : Dev) (off : Nat) (w : Fin 3) :
    d.hostReadReg who off w = { (d.regRead who (off / 4 * 4)).2 with answer := [bytesOf (d.regRead who (off / 4 * 4)).1 off w] } := by
  cases who with
  | config f => exact absurd rfl (hbar f)
  | pf0 | client _ | core _ | hinge | debug => rfl

/-- A read of a field of configuration space answers the field. -/
theorem exec_read_config (f : Fin 33) (off : Nat) (w : Fin 3) (s : State) :
    exec (.shadowLowRead (.config f) off w) s = .next { s with dev := { s.dev with answer := [s.dev.configRead f (off / 4)] } } := by
  have hfar : absOff (.config f) (off / 4 * 4) ≠ boltb + Off.MB_EVENT := show 0x20000000 ≠ boltb + Off.MB_EVENT by decide
  exact (exec_read (.inl rfl) s).trans (readCmd_quiet _ _ _ _ (fun h => absurd h hfar))

/-- What a read command at byte `q` of a register answers and leaves. -/
theorem exec_read_bar {who : Who} {off : Nat} (q : Fin 4) {w : Fin 3} {read : Instr} (s : State) (hbar : ∀ f, who ≠ .config f)
    (hev : absOff who off = boltb + Off.MB_EVENT → s.bolt.events = []) (hoff : off % 4 = 0)
    (h : read = .shadowLowRead who (off + q) w ∨ read = .rcFieldRead who (off + q) w) :
    exec read s = .next { s with dev :=
      { (s.dev.regRead who off).2 with answer := [wd ((s.dev.regRead who off).1.toNat / 2 ^ (8 * q.val) % 2 ^ (8 * 2 ^ w.val))] } } := by
  have hword : (off + q.val) / 4 * 4 = off := by omega
  rw [exec_read h, readCmd_quiet _ _ _ _ (by rw [hword]; exact hev), Dev.hostReadReg_bar hbar, hword, bytesOf_lane _ q w hoff]

/-- The high half of a pair: the register below it is the low half. -/
def HighHalf (o : Nat) : Prop := ∃ b l, 4 ≤ o ∧ locate (o - 4) = some (b, l) ∧ isLow b l = true

/-- Where no register lies, a word of 0 is found. -/
theorem Dev.regView_no_register (d : Dev) {o l : Nat} {b : Block} (hplace : locate o = some (b, l)) (hreg : regOf b l = none) : d.regView o = 0 := by
  simp [Dev.regView, hplace, hreg]

/-- A register that cannot be read reads 0 and leaves the device as it is (R34). -/
theorem Dev.regRead_unreadable (d : Dev) {who : Who} {off : Nat}
    (h : ∀ b l, locate (absOff who off) = some (b, l) → mayName who b = false ∨ d.readsOn b = false) : d.regRead who off = (0, d) := by
  have hr : d.readable who (absOff who off) = false := by
    unfold Dev.readable
    split
    · next b l hplace => rcases h b l hplace with h | h <;> simp [h]
    · rfl
  simp only [Dev.regRead, hr, if_true]

section
variable (d : Dev) {who : Who} {off l : Nat} {b : Block} (hplace : locate (absOff who off) = some (b, l)) (hname : mayName who b = true)
  (hon : d.readsOn b = true)
include hplace hname hon

/-- A register of a block that the reader can name, and that can be read now. -/
theorem Dev.readable_of_reads : d.readable who (absOff who off) = true := by
  simp [Dev.readable, hplace, hname, hon]

/-- A read of a low half fills the reader's shadow of the high half (R6). -/
theorem Dev.regRead_low (hlow : isLow b l = true) : d.regRead who off = (d.regView (absOff who off),
    { d with shadows := Tab.set none d.shadows (shadowKey (whoKey who) (absOff who off + 4)) (some (d.regView (absOff who off + 4))) }) := by
  simp [Dev.regRead, d.readable_of_reads hplace hname hon, hplace, hlow]

variable (hlow : isLow b l = false)
include hlow

/-- A read of a high half gives the reader's shadow, or the register where the reader holds none (R6). -/
theorem Dev.regRead_high (h : HighHalf (absOff who off)) : d.regRead who off =
    ((Tab.get none d.shadows (shadowKey (whoKey who) (absOff who off))).getD (d.regView (absOff who off)), d) := by
  obtain ⟨b', l', hfour, hbelow, hlow'⟩ := h
  simp [Dev.regRead, d.readable_of_reads hplace hname hon, hplace, hlow, hfour, hbelow, hlow']

/-- A read of a register that is no half of a pair: a word of the record log comes from the log, any other register answers and clears its RC fields. -/
theorem Dev.regRead_single (h : ¬HighHalf (absOff who off)) : d.regRead who off =
    (logWord b l).elim (d.regView (absOff who off), d.clearRc (absOff who off)) (fun i => d.logRead (whoKey who) i false) := by
  have below : ∀ e, 4 ≤ absOff who off → locate (absOff who off - 4) = some e → isLow e.1 e.2 = false :=
    fun e hfour hb => Bool.eq_false_iff.mpr (fun hlow' => h ⟨e.1, e.2, hfour, hb, hlow'⟩)
  have hread := d.readable_of_reads hplace hname hon
  by_cases hfour : 4 ≤ absOff who off
  · cases hb : locate (absOff who off - 4) with
    | none => cases hlog : logWord b l <;> simp [Dev.regRead, hread, hplace, hlow, hb, hlog]
    | some e => cases hlog : logWord b l <;> simp [Dev.regRead, hread, hplace, hlow, hb, below e hfour hb, hlog]
  · cases hlog : logWord b l <;> simp [Dev.regRead, hread, hplace, hlow, hfour, hlog]

end

/-! ### Clearing by a read (R9, R11) -/

/-- What holds of every register of every map holds of the register at any offset of any block. -/
theorem regOf_all (p : RegSpec → Bool)
    (h : [Map.gctl, Map.pwr, Map.boot, Map.sec, Map.hif, Map.apg, Map.fin, Map.opt, Map.mir, Map.sch, Map.tel, Map.boltMb, Map.apt, Map.vpt,
      Map.hbm, Map.mesh, Map.sc, Map.core, Map.latch, Map.seq, Map.ring, Map.rset].all (fun m => m.all p) = true)
    {b : Block} {l : Nat} {r : RegSpec} (hr : regOf b l = some r) : p r = true := by
  have inMap : ∀ {m : List RegSpec} {l : Nat}, m.all p = true → findReg m l = some r → p r = true :=
    fun hm hf => List.all_eq_true.mp hm r (List.mem_of_find?_eq_some hf)
  simp only [List.all_cons, List.all_nil, Bool.and_true, Bool.and_eq_true] at h
  obtain ⟨gctl, pwr, boot, sec, hif, apg, fin, opt, mir, sch, tel, bolt, apt, vpt, hbm, mesh, sc, core, latch, seq, ring, rset⟩ := h
  have inRing : ∀ {l : Nat}, ringReg l = some r → p r = true := by
    intro l hl
    unfold ringReg at hl
    split at hl
    · exact inMap rset hl
    · exact inMap ring hl
  cases b with
  | gctl => exact inMap gctl hr
  | pwr => exact inMap pwr hr
  | boot => exact inMap boot hr
  | sec => exact inMap sec hr
  | hif => exact inMap hif hr
  | apg => exact inMap apg hr
  | fin => exact inMap fin hr
  | opt => exact inMap opt hr
  | mir => exact inMap mir hr
  | sch => exact inMap sch hr
  | tel => exact inMap tel hr
  | bolt => exact inMap bolt hr
  | apt n => exact inMap apt hr
  | vpt n => exact inMap vpt hr
  | hbm s => exact inMap hbm hr
  | mesh s => exact inMap mesh hr
  | sc s => exact inMap sc hr
  | core k => exact inMap core hr
  | latch c => exact inMap latch hr
  | seq c => exact inMap seq hr
  | ring c => exact inRing hr
  | pf0ring =>
    simp only [regOf] at hr
    split at hr
    · exact inRing hr
    · cases hr

/-- The RC fields of a register. -/
def RegSpec.rcFields (r : RegSpec) : List FieldSpec := r.fields.filter (fun f => f.acc == .rc)

/-- At most one RC field, which fits into the word. -/
def RegSpec.oneRc (r : RegSpec) : Bool := decide (r.rcFields.length ≤ 1) && r.rcFields.all (fun f => f.fld.fits)

/-- No register of the maps has two RC fields. -/
theorem regOf_oneRc {b : Block} {l : Nat} {r : RegSpec} (hr : regOf b l = some r) : r.oneRc = true :=
  regOf_all RegSpec.oneRc (by decide) hr

/-- Where no register lies, nothing is cleared. -/
theorem Dev.clearRc_no_register (d : Dev) {o l : Nat} {b : Block} (hplace : locate o = some (b, l)) (hreg : regOf b l = none) : d.clearRc o = d := by
  simp [Dev.clearRc, hplace, hreg]

/-- A read clears the RC fields of its register. -/
theorem Dev.clearRc_register (d : Dev) {o l : Nat} {b : Block} {r : RegSpec} (hplace : locate o = some (b, l)) (hreg : regOf b l = some r) :
    d.clearRc o = d.each r.rcFields (fun d f => d.setFld o f.fld 0) := by
  simp [Dev.clearRc, hplace, hreg, RegSpec.rcFields]

/-- A register without RC fields stays as it is. -/
theorem Dev.clearRc_none (d : Dev) {o l : Nat} {b : Block} {r : RegSpec} (hplace : locate o = some (b, l)) (hreg : regOf b l = some r)
    (h : ∀ f ∈ r.fields, f.acc ≠ .rc) : d.clearRc o = d := by
  have hnil : r.rcFields = [] := List.filter_eq_nil_iff.mpr (fun f hf => by simpa using h f hf)
  rw [d.clearRc_register hplace hreg, hnil, Dev.each_nil]

/-- After a read every RC field of the register is 0, and every other register is as it was. -/
theorem Dev.clearRc_fields (d : Dev) {o l : Nat} {b : Block} {r : RegSpec} (hplace : locate o = some (b, l)) (hreg : regOf b l = some r) :
    (∀ f ∈ r.fields, f.acc = .rc → (d.clearRc o).fld o f.fld = 0) ∧ ∀ a, a ≠ o → (d.clearRc o).reg a = d.reg a := by
  have hone := regOf_oneRc hreg
  simp only [RegSpec.oneRc, Bool.and_eq_true, decide_eq_true_eq, List.all_eq_true] at hone
  obtain ⟨hlen, hfits⟩ := hone
  have hmem : ∀ f ∈ r.fields, f.acc = .rc → f ∈ r.rcFields := fun f hf hrc => List.mem_filter.mpr ⟨hf, by simp [hrc]⟩
  rw [d.clearRc_register hplace hreg]
  match hfs : r.rcFields, hlen with
  | [], _ => exact ⟨fun f hf hrc => absurd (hmem f hf hrc) (by simp [hfs]), fun a _ => rfl⟩
  | [g], _ =>
    refine ⟨fun f hf hrc => ?_, fun a ha => ?_⟩
    · obtain rfl : f = g := by simpa [hfs] using hmem f hf hrc
      have hfit : f.fld.fits = true := hfits f (by simp [hfs])
      rw [Dev.each_cons, Dev.each_nil, Dev.fld_setFld_same _ _ _ _ hfit, Nat.zero_mod]
    · rw [Dev.each_cons, Dev.each_nil, Dev.reg_setFld, if_neg ha]

/-! ### The record log (R513) -/

/-- LOG_SLOT_READ answers the word read. -/
theorem exec_logSlotRead (who : Who) (i : Fin 8192) (s : State) : exec (.logSlotRead who i false) s =
    .next { s with dev := { (s.dev.logRead (whoKey who) i false).2 with answer := [(s.dev.logRead (whoKey who) i false).1] } } := rfl

/-! ### The events of the Bolt (R436, R437) -/

/-- MB_EVENT stands in the mailbox window, is no half of a pair and has no field that its own read clears: its read gives its word. -/
theorem Dev.regRead_event (d : Dev) {who : Who} (hoff : absOff who (boltb + Off.MB_EVENT) = boltb + Off.MB_EVENT) (hname : mayName who .bolt = true)
    (hon : d.readsOn .bolt = true) : d.regRead who (boltb + Off.MB_EVENT) = (d.regView (boltb + Off.MB_EVENT), d) := by
  have hplace : locate (boltb + Off.MB_EVENT) = some (.bolt, Off.MB_EVENT) := rfl
  have hbelow : locate (boltb + Off.MB_EVENT - 4) = some (.bolt, Off.MB_EVENT - 4) := rfl
  obtain ⟨r, hreg, hrc⟩ : ∃ r, regOf .bolt Off.MB_EVENT = some r ∧ ∀ f ∈ r.fields, f.acc ≠ .rc := ⟨_, rfl, by decide⟩
  have hsingle : ¬HighHalf (boltb + Off.MB_EVENT) := by
    rintro ⟨b, l, -, hb, hlow⟩
    cases hbelow.symm.trans hb
    cases hlow
  rw [← hoff] at hsingle hplace
  rw [d.regRead_single hplace hname hon rfl hsingle, hoff]
  rw [hoff] at hplace
  exact congrArg (Prod.mk _) (d.clearRc_none hplace hreg hrc)

/-- The oldest event is taken where the mailbox window can be read, and the answer of the read stays. -/
theorem takeEvent_event (hinge : Bool) (d : Dev) (b : Bolt) {code scale : Nat} {rest : List (Nat × Nat)} (hev : b.events = (code, scale) :: rest)
    (hlost : b.lost = false) (hon : d.readsOn .bolt = true) :
    (takeEvent hinge (d, b)).2 = { b with events := rest } ∧ (takeEvent hinge (d, b)).1.answer = d.answer := by
  have hpop : b.popEvent = { b with events := rest } := by simp [Bolt.popEvent, hev, hlost]
  simp only [takeEvent, hev, hon, Bool.true_eq_false, if_false, showBolt, hpop, Dev.each_cons, Dev.each_nil]
  refine ⟨trivial, ?_⟩
  split <;> simp

/-- A read of MB_EVENT takes the oldest event, and answers the word that showed it. -/
theorem exec_read_event {who : Who} (s : State) {code scale : Nat} {rest : List (Nat × Nat)}
    (hoff : absOff who (boltb + Off.MB_EVENT) = boltb + Off.MB_EVENT) (hname : mayName who .bolt = true) (hon : s.dev.readsOn .bolt = true)
    (hev : s.bolt.events = (code, scale) :: rest) (hlost : s.bolt.lost = false) :
    ∃ t, exec (.shadowLowRead who (boltb + Off.MB_EVENT) 2) s = .next t ∧ t.bolt = { s.bolt with events := rest }
      ∧ t.dev.answer = [s.dev.regView (boltb + Off.MB_EVENT)] := by
  have hbar : ∀ f, who ≠ .config f := ne_config_of_locate (e := (.bolt, Off.MB_EVENT)) (by rw [hoff]; rfl)
  have hword : (boltb + Off.MB_EVENT) / 4 * 4 = boltb + Off.MB_EVENT := rfl
  have hread : s.dev.hostReadReg who (boltb + Off.MB_EVENT) 2 = { s.dev with answer := [s.dev.regView (boltb + Off.MB_EVENT)] } := by
    rw [Dev.hostReadReg_bar hbar, hword, s.dev.regRead_event hoff hname hon, bytesOf_word _ rfl]
  obtain ⟨hbolt, hanswer⟩ := takeEvent_event (who == .hinge) { s.dev with answer := [s.dev.regView (boltb + Off.MB_EVENT)] } s.bolt hev hlost hon
  refine ⟨_, exec_read (.inl rfl) s, ?_⟩
  simp only [hword, hoff, hname, and_self, if_true, hread]
  exact ⟨hbolt, hanswer⟩

/-! ### The debug port (R524) -/

section
variable {s : State} (off : Nat) (v : Word)

/-- Without DBG_EN a debug read answers nothing. -/
theorem exec_tap_debugRead_closed (h : s.dev.fld (Block.tel.base + Off.TEL_EXP) Fl.TEL_EXP_DBG_EN = 0) :
    exec (.tapInstruction (.debugRead off)) s = .next { s with dev := { s.dev with answer := [] } } := by
  have hclosed : ¬s.dev.fld (telb + Off.TEL_EXP) Fl.TEL_EXP_DBG_EN = 1 := by rw [telb, h]; decide
  exact if_neg hclosed

/-- Without DBG_EN a debug write changes nothing. -/
theorem exec_tap_debugWrite_closed (h : s.dev.fld (Block.tel.base + Off.TEL_EXP) Fl.TEL_EXP_DBG_EN = 0) :
    exec (.tapInstruction (.debugWrite off v)) s = .next { s with dev := { s.dev with answer := [] } } := by
  have hclosed : ¬s.dev.fld (telb + Off.TEL_EXP) Fl.TEL_EXP_DBG_EN = 1 := by rw [telb, h]; decide
  exact if_neg hclosed

variable (s)

/-- With DBG_EN a debug write uses the debug Shutter and goes through the checks of a host's write. -/
theorem exec_tap_debugWrite (h : s.dev.fld (Block.tel.base + Off.TEL_EXP) Fl.TEL_EXP_DBG_EN = 1) : exec (.tapInstruction (.debugWrite off v)) s =
    .next { s with dev := { (s.dev.useDomain shDebug).regWrite .debug off v with answer := [] } } :=
  if_pos h

end

end Sys2Proof.Machine

namespace Sys2Proof.Claims

open Sys2Proof Sys2Proof.Machine

/-- A device command that answers the device as it was answers the state as it was. -/
theorem stays_of_dev {i : Instr} {s : State} {d : Dev} (h : exec i s = .next { s with dev := d }) (hd : d = s.dev) : Stays i s := by
  subst hd
  exact h

/-- A record with room at its source is the last of those that wait there. -/
theorem recorded_emit (d : Dev) (e : Ev) (hroom : (d.waiting e.src).length < 8) (hcls : e.cls < 256) (hcode : e.code < 256) :
    Recorded (d.emit e) e.src e.cls e.code :=
  ⟨d.record e, d.waiting e.src, d.waiting_emit e hroom, Nat.mod_eq_of_lt hcls, Nat.mod_eq_of_lt hcode⟩

/-- A SEC record of the Hinge. -/
theorem recorded_bootRecord (d : Dev) {code : Nat} (o : Nat) (hroom : (d.waiting 0).length < 8) (hcode : code < 256) :
    Recorded (d.bootRecord kSEC code o 0 0) 0 kSEC code :=
  recorded_emit d { cls := kSEC, code := code, src := 0, obj := o + 0 * 16, detail := 0 } hroom (show kSEC < 256 by decide) hcode

/-- OFF_ACCESS is a record of the Sill. -/
theorem recorded_offAccess (d : Dev) (o : Nat) (hroom : (d.waiting 1).length < 8) : Recorded (d.offAccess o) 1 kPOWER 0x05 :=
  recorded_emit d { cls := kPOWER, code := 0x05, src := srcSill, obj := o } hroom (show kPOWER < 256 by decide) (show 0x05 < 256 by decide)

/-- A register write leaves the records that wait. -/
theorem recorded_setReg {d : Dev} {src cls code : Nat} (h : Recorded d src cls code) (o : Nat) (w : Word) : Recorded (d.setReg o w) src cls code := h

/-- A write of a word whose checks end in `d` answers `d`. -/
theorem givesDev_write {s : State} {who : Who} {off : Nat} {v : Word} {d : Dev} (hbar : ∀ f, who ≠ .config f) (h : s.dev.regWrite who off v = d) :
    GivesDev (.registerWrite who off v 2) s d := by
  rw [GivesDev, exec_registerWrite_word hbar, h]

/-- A write of a word whose checks end in a device that satisfies `p`. -/
theorem gives_write {s : State} {who : Who} {off : Nat} {v : Word} {d : Dev} {p : State → Prop} (hbar : ∀ f, who ≠ .config f)
    (h : s.dev.regWrite who off v = d) (hp : p { s with dev := d }) : Gives (.registerWrite who off v 2) s p :=
  ⟨_, givesDev_write hbar h, hp⟩

/-! ### The enable of the attestation report (R35, R481) -/

/-- The held write of SEC_CTRL takes effect once the crypto domain is ON: the report is begun. -/
theorem gives_attest_begins (s : State) (w : Word) (hheld : s.dev.held = [(secb + Off.SEC_CTRL, w, [46])]) (hon : s.dev.domOn 46 = true)
    (hop : Fl.SEC_CTRL_OP.get (s.dev.reg (secb + Off.SEC_CTRL) ||| w) = 1) (hbusy : s.dev.fld (secb + Off.SEC_STATUS) Fl.SEC_STATUS_BUSY = 0)
    (hid : s.dev.fld (secb + Off.SEC_STATUS) Fl.SEC_STATUS_ID_DOWN = 0) :
    Gives (.enableTakesEffect (secb + Off.SEC_CTRL)) s
      (fun t => t.dev.secOp = 1 ∧ t.dev.held = [] ∧ t.dev.fld (secb + Off.SEC_STATUS) Fl.SEC_STATUS_BUSY = 1) := by
  have hexec := exec_enableTakesEffect_sec s w hheld hon
  rw [hop] at hexec
  exact ⟨_, hexec, Dev.secStart_busy { s.dev with held := [] } hbusy hid (by decide) (by decide)⟩

/-- A host's write that asks for the report reaches the sealing engine's enable. -/
theorem regWrite_attest {d : Dev} (ht : Takes d .sec) : ∃ r, d.regWrite .pf0 (secb + Off.SEC_CTRL) 1 = d.enableWrite .sec Off.SEC_CTRL r 1 := by
  have hplace : locate (absOff .pf0 (secb + Off.SEC_CTRL)) = some (.sec, Off.SEC_CTRL) := rfl
  obtain ⟨r, hreg, hplain⟩ : ∃ r, regOf .sec Off.SEC_CTRL = some r ∧ r.expert = false := ⟨_, rfl, by decide⟩
  refine ⟨r, ?_⟩
  rw [d.regWrite_reaches 1 hplace hreg rfl ht.answers (.inr ht.unlocked) ht.lit, if_neg (by simp [hplain])]

section
variable (s : State) (ht : Takes s.dev .sec)
include ht

/-- The write is not made, with OFF_ACCESS, where the crypto domain is barred. -/
theorem gives_attest_barred (hbar : s.dev.domBarred 46 = true) (hroom : (s.dev.waiting 1).length < 8) :
    Gives (.registerWrite .pf0 (secb + Off.SEC_CTRL) 1 2) s (fun t => Recorded t.dev 1 kPOWER 0x05 ∧ t.dev.held = [] ∧ t.dev.secOp = s.dev.secOp) := by
  obtain ⟨r, hreach⟩ := regWrite_attest ht
  have hend := hreach.trans (s.dev.enableWrite_attest_barred r (by decide) (by decide) ht.held hbar)
  exact gives_write (by simp) hend ⟨recorded_offAccess s.dev _ hroom, (s.dev.emit_held _).trans ht.held, s.dev.emit_secOp _⟩

/-- The write waits while the Sill opens the crypto domain. -/
theorem gives_attest_waits (hoff : s.dev.domOn 46 = false) (hbar : s.dev.domBarred 46 = false) (hsw : s.dev.switching 46 = none) :
    Gives (.registerWrite .pf0 (secb + Off.SEC_CTRL) 1 2) s (fun t => t.dev.held = [(secb + Off.SEC_CTRL, Fl.SEC_CTRL_OP.put 0 1, [46])]
      ∧ (46, 2) ∈ t.dev.sill.queue ∧ t.dev.secOp = s.dev.secOp) := by
  obtain ⟨r, hreach⟩ := regWrite_attest ht
  have hend := hreach.trans (s.dev.enableWrite_attest_waits r (by decide) (by decide) ht.held hbar hoff)
  refine gives_write (by simp) hend ⟨congrArg (· ++ _) ht.held, s.dev.mem_queue_askOpen (by decide) hoff hsw hbar, ?_⟩
  obtain ⟨q, hq⟩ := s.dev.askOpen_frame 46
  rw [hq]

end

/-- Settles O43, group by group of its clauses: the checks of a write come from `Dev.regWrite_reaches` and the lemmas before it, what a read answers from
`exec_read_bar` with one lemma for each way a register is read, the enables from the three lemmas of the attestation report. -/
theorem registerAccess : Obligations.RegisterAccess := by
  unfold Obligations.RegisterAccess
  intro s who off v d o write event
  refine ⟨fun w hw => exec_registerWrite_narrow who off v hw s, ?nowhere, ?config, ?writes, ?reads, ?events, ?enables, rfl, ?pins, ?closed, ?opens⟩
  case nowhere =>
    intro hbar hplace
    exact stays_of_dev (exec_registerWrite_word hbar off v s) (d.regWrite_nowhere v hplace)
  case config =>
    intro f
    refine ⟨rfl, fun hv => ?_, fun hf hv => ?_, ?_⟩
    · exact congrArg (fun e => Host.Outcome.next { s with dev := e }) (d.configWrite_msix_off f hv)
    · exact congrArg (fun e => Host.Outcome.next { s with dev := e }) (d.configWrite_bar2 hf hv)
    · rw [GivesDev, exec_read_config f 0 2 s, d.configRead_bme f]
  case writes =>
    intro b l hplace
    have hbar := ne_config_of_locate hplace
    refine ⟨fun hreg => ?_, fun hun => ?_, fun r hreg hname hans => ⟨?_, ?_, ?_⟩⟩
    · exact stays_of_dev (exec_registerWrite_word hbar off v s) (d.regWrite_no_register v hplace hreg)
    · exact stays_of_dev (exec_registerWrite_word hbar off v s) (d.regWrite_unanswered v hplace hun)
    · intro hhost hlock hroom
      refine gives_write hbar (d.regWrite_locked v hplace hreg hname hans hhost hlock) ⟨recorded_bootRecord d o hroom (by decide), ?_⟩
      exact ⟨d.emit_regs _ hroom, d.emit_cores _, d.emit_held _⟩
    · intro n hfree hdom hoff hroom
      refine gives_write hbar (d.regWrite_dark v hplace hreg hname hans hfree hdom hoff) ⟨recorded_offAccess d o hroom, ?_⟩
      exact ⟨d.emit_regs _ hroom, d.emit_cores _, d.emit_held _⟩
    · rintro hfree hlit hheld ⟨side, rfl⟩ hrule
      have reach := d.regWrite_reaches v hplace hreg hname hans hfree hlit
      refine ⟨fun hen => givesDev_write hbar ?_, fun hex hoff hroom => ?_⟩
      · have hok : ¬(r.expert = true ∧ d.expertOn (.hbm side) = false) := by
          rintro ⟨hex, hoff⟩
          simp [hex, hoff] at hen
        rw [reach, if_neg hok, d.enableWrite_hbm side l r v hheld hrule]
      · rw [if_pos ⟨hex, hoff⟩, Dev.enableWrite_hbm _ side l r v ((d.bootRecord_held _ _ _).trans hheld) hrule] at reach
        exact gives_write hbar reach (recorded_setReg (recorded_bootRecord d o hroom (by decide)) _ _)
  case reads =>
    intro q w read hbar hev hoff hread part key high
    have answers : ∀ x e, d.regRead who off = (x, e) → GivesDev read s { e with answer := part x } := fun x e h => by
      rw [GivesDev, exec_read_bar q s hbar hev hoff hread, h]
    refine ⟨fun h => ?_, fun b l hplace hname hon => ⟨fun hlow => ?_, fun hlow hhigh x => ⟨fun hx => ?_, fun hx => ?_⟩, fun hlow hsingle => ?_⟩⟩
    · have hpart : part 0 = [0] := by simp [part, wd]
      rw [← hpart]
      exact answers 0 d (d.regRead_unreadable h)
    · exact answers _ _ (d.regRead_low hplace hname hon hlow)
    · exact answers x d (by rw [d.regRead_high hplace hname hon hlow hhigh, shadowKey, hx, Option.getD_some])
    · exact answers _ d (by rw [d.regRead_high hplace hname hon hlow hhigh, shadowKey, hx, Option.getD_none])
    · have single := d.regRead_single hplace hname hon hlow hsingle
      refine ⟨fun hlog hreg => ?_, fun r hlog hreg hrc => ?_, fun r hlog hreg => ?_, fun i hlog => ?_⟩
      · rw [hlog, Option.elim_none, d.regView_no_register hplace hreg, d.clearRc_no_register hplace hreg] at single
        exact answers 0 d single
      · rw [hlog, Option.elim_none, d.clearRc_none hplace hreg hrc] at single
        exact answers _ d single
      · rw [hlog, Option.elim_none] at single
        obtain ⟨hcleared, hothers⟩ := d.clearRc_fields hplace hreg
        exact ⟨_, answers _ _ single, rfl, hcleared, hothers⟩
      · rw [hlog, Option.elim_some] at single
        exact ⟨_, answers _ _ single, _, exec_logSlotRead who i s, rfl⟩
  case events =>
    intro code scale rest hoff hname hon hev hlost
    obtain rfl := off_eq_event hoff hname
    obtain ⟨t, hexec, hbolt, hanswer⟩ := exec_read_event s hoff hname hon hev hlost
    exact ⟨t, hexec, hbolt, fun _ => hanswer⟩
  case enables =>
    intro ctl
    exact ⟨exec_enableTakesEffect_none off s, fun w => gives_attest_begins s w, fun ht hbar => gives_attest_barred s ht hbar,
      fun ht hoff hbar hsw _ => gives_attest_waits s ht hoff hbar hsw⟩
  case pins =>
    intro i hi
    fin_cases hi <;> rfl
  case closed =>
    intro hdbg
    exact ⟨exec_tap_debugRead_closed off hdbg, exec_tap_debugWrite_closed off v hdbg⟩
  case opens =>
    intro hdbg hoff hsw hbar
    refine ⟨_, exec_tap_debugWrite s _ v hdbg, ?_, rfl⟩
    rw [Dev.regWrite_nowhere _ v rfl]
    exact d.mem_queue_askOpen (by decide) hoff hsw hbar

end Sys2Proof.Claims
end

section
/-! SUPPORT. The Bolt and the device apart: what a command of the Bolt reaches of the device, and what a command of the device leaves of the Bolt (O56). -/

namespace Sys2Proof.Machine

/-! ### What the Bolt reaches of the device (R28, R418) -/

/-- From `d` to `d'` the device changed only where the Bolt reaches it: the mailbox window, the state of its power domain, the records, the weighing queue,
the bound channels, the answer to a read and the free values. -/
structure BoltReach (d d' : Dev) : Prop where
  rest : { d' with
    regs := d.regs
    tel := { d'.tel with waiting := d.tel.waiting, last := d.tel.last }
    weighQ := d.weighQ
    weighBind := d.weighBind
    answer := d.answer
    fresh := d.fresh } = d
  regs : ∀ o, (o < Block.bolt.base ∨ Block.bolt.base + 0x1000 ≤ o) → o ≠ Block.pwr.base + Off.PWR_DOM 47 → o ≠ Block.tel.base + Off.TEL_SRC_DROPS →
    d'.reg o = d.reg o

theorem BoltReach.refl (d : Dev) : BoltReach d d := ⟨rfl, fun _ _ _ _ => rfl⟩

theorem BoltReach.trans {d d' d'' : Dev} (h : BoltReach d d') (h' : BoltReach d' d'') : BoltReach d d'' where
  rest := by
    have hd := h.rest
    rw [← h'.rest] at hd
    exact hd
  regs o hout hdom hdrops := (h'.regs o hout hdom hdrops).trans (h.regs o hout hdom hdrops)

/-- A write of a register in the mailbox window, or of the domain's. -/
theorem BoltReach.setReg (d : Dev) {o : Nat} (w : Word) (ho : (Block.bolt.base ≤ o ∧ o < Block.bolt.base + 0x1000) ∨ o = domOff shBolt) :
    BoltReach d (d.setReg o w) where
  rest := rfl
  regs j hout hdom _ := by
    refine d.reg_setReg_other o w j ?_
    rintro rfl
    rcases ho with ho | ho
    · omega
    · exact hdom ho

/-- A list of writes. -/
theorem BoltReach.each {α : Type} (l : List α) (f : Dev → α → Dev) (h : ∀ d, ∀ x ∈ l, BoltReach d (f d x)) (d : Dev) : BoltReach d (d.each l f) := by
  induction l generalizing d with
  | nil => exact .refl d
  | cons x l ih => exact (h d x List.mem_cons_self).trans (ih (fun d y hy => h d y (List.mem_cons_of_mem x hy)) (f d x))

/-- A record joins those that wait, or is dropped and counted. -/
theorem Dev.emit_tel (d : Dev) (e : Ev) : ∃ w r, d.emit e = { d with tel := { d.tel with waiting := w, last := e.cls }, regs := r } := by
  unfold Dev.emit
  dsimp only
  split
  · exact ⟨_, _, rfl⟩
  · split
    · exact ⟨_, _, rfl⟩
    · split <;> exact ⟨_, _, rfl⟩

theorem BoltReach.emit (d : Dev) (e : Ev) : BoltReach d (d.emit e) where
  rest := by
    obtain ⟨w, r, h⟩ := d.emit_tel e
    rw [h]
  regs o _ _ hdrops := d.reg_emit e o hdrops

theorem BoltReach.weighBind (d : Dev) (l : List (Nat × Nat)) : BoltReach d { d with weighBind := l } := ⟨rfl, fun _ _ _ _ => rfl⟩

theorem BoltReach.weighQ (d : Dev) (q : List WFrame) : BoltReach d { d with weighQ := q } := ⟨rfl, fun _ _ _ _ => rfl⟩

theorem BoltReach.answer (d : Dev) (ws : List Word) : BoltReach d { d with answer := ws } := ⟨rfl, fun _ _ _ _ => rfl⟩

/-- The start of the mailbox clears registers of its window alone. -/
theorem BoltReach.mailReset (d : Dev) : BoltReach d d.mailReset where
  rest := rfl
  regs o hout _ _ := by
    refine (Tab.get_filter_keys _ (fun j => !(decide (boltb ≤ j) && decide (j < boltb + 0x1000))) d.regs o).trans (if_pos ?_)
    have hwin : ¬(boltb ≤ o ∧ o < boltb + 0x1000) := by
      simp only [boltb]
      omega
    simpa only [Bool.not_eq_true', Bool.and_eq_false_iff, decide_eq_false_iff_not, Decidable.not_and_iff_or_not] using hwin

/-- A value in four bytes of a record takes at most a free value. -/
theorem BoltReach.four (d : Dev) (lo hi v : Int) : BoltReach d (d.four lo hi v).2 := by
  unfold Dev.four
  split
  · exact .refl d
  · exact ⟨rfl, fun _ _ _ _ => rfl⟩

theorem BoltReach.record (d : Dev) (b : Bolt) (w : Weighed) : BoltReach d (record d b w).2 :=
  ((BoltReach.four d _ _ _).trans (.four _ _ _ _)).trans (.four _ _ _ _)

/-- MB_EVENT and the SEAL bits lie in the window. -/
theorem BoltReach.showBolt (d : Dev) (b : Bolt) : BoltReach d (showBolt (d, b)).1 := by
  refine (BoltReach.setReg d _ (.inl (by decide))).trans (.each _ _ (fun d c hc => .setReg d _ (.inl ?_)) _)
  have hc : c = 0 ∨ c = 1 := by simpa using hc
  simp only [boltb, Block.base, Off.MB_STATUS]
  omega

/-- A response lies in the window of its channel. -/
theorem BoltReach.finish (d : Dev) (b : Bolt) {r : BReq} (hr : r.chan < 2) (s : BStat) (body : List Byte) : BoltReach d (finish (d, b) r s body).1 := by
  have window (i : Nat) (hi : i < 256) : Block.bolt.base ≤ boltb + Off.MB_RSP r.chan i ∧ boltb + Off.MB_RSP r.chan i < Block.bolt.base + 0x1000 := by
    simp only [boltb, Block.base, Off.MB_RSP]
    omega
  have response : BoltReach d (d.putResponse r s body) := by
    refine ((BoltReach.setReg d _ (.inl (window 0 (by omega)))).trans (.setReg _ _ (.inl (window 1 (by omega))))).trans
      (.each _ _ (fun d i hi => .setReg d _ (.inl (window (i + 2) ?_))) _)
    have hlen := List.length_take_le 1016 body
    have := List.mem_range.mp hi
    omega
  refine response.trans (.setReg _ _ (.inl ?_))
  simp only [boltb, Block.base, Off.MB_STATUS]
  omega

/-- A served request. -/
theorem BoltReach.serve (op : Nat) (f : Bolt → BReq → Served) (d : Dev) {b : Bolt} (hb : ∀ r, b.req = some r → r.chan < 2) :
    BoltReach d (serve op f (d, b)).1 := by
  unfold Machine.serve
  dsimp only
  split
  · exact .refl d
  · next r hreq =>
    split
    · exact .refl d
    · exact (BoltReach.finish d _ (hb r hreq) _ _).trans (.showBolt _ _)

theorem BoltReach.weighNow (d : Dev) (b : Bolt) {r : BReq} (hr : r.chan < 2) (item ref : Nat) (clear : Bool) :
    BoltReach d (weighNow (d, b) r item ref clear).1 := by
  unfold Machine.weighNow
  dsimp only
  split
  · exact .finish d _ hr _ _
  · exact .finish d _ hr _ _
  · exact (BoltReach.record d b _).trans (.finish _ _ hr _ _)

theorem BoltReach.takeEvent (hinge : Bool) (d : Dev) (b : Bolt) : BoltReach d (takeEvent hinge (d, b)).1 := by
  unfold Machine.takeEvent
  dsimp only
  split
  · exact .refl d
  · split
    · exact .refl d
    · split
      · exact (BoltReach.emit d _).trans (.showBolt _ _)
      · exact .showBolt _ _

/-! ### The commands of the Bolt -/

/-- A command of the Bolt answers a next state, leaves the queue, and reaches no more of the device than the Bolt may. -/
def BoltCommand (g : State → Out) : Prop :=
  ∀ s, ∃ t, g s = .next t ∧ t.pending = s.pending ∧ (s.bolt.Inv → BoltReach s.dev t.dev)

theorem boltCommand_onBolt {f : Dev × Bolt → Dev × Bolt} (h : ∀ d b, b.Inv → BoltReach d (f (d, b)).1) : BoltCommand (onBolt f) :=
  fun s => ⟨_, onBolt_next f s, rfl, h s.dev s.bolt⟩

theorem boltCommand_serve (op : Nat) (f : Bolt → BReq → Served) : BoltCommand (onBolt (serve op f)) :=
  boltCommand_onBolt fun d _ hb => .serve op f d hb.chan

theorem boltCommand_requestTake (c : Fin 2) : BoltCommand (execBoltRequestTake c) := by
  refine boltCommand_onBolt fun d b _ => ?_
  have busy (v : Nat) : BoltReach d (d.setFld (boltb + Off.MB_STATUS c.val) Fl.MB_STATUS_STATE v) := by
    refine .setReg _ _ (.inl ?_)
    simp only [boltb, Block.base, Off.MB_STATUS]
    omega
  dsimp only
  split
  · exact .refl d
  · split
    · exact busy 2
    · exact (busy 2).trans (.finish _ _ c.isLt _ _)

theorem boltCommand_channelBind (pane : Fin 8) (chan : Fin 4096) (key : List Byte) : BoltCommand (execChannelBind pane chan key) := by
  unfold execChannelBind
  extract_lets pack
  refine boltCommand_onBolt fun d b hb => ?_
  exact (BoltReach.serve 0x13 _ d hb.chan).trans (.weighBind _ _)

theorem boltCommand_weigh (item : Word) (ref : DWord) (clear : Bool) : BoltCommand (execWeigh item ref clear) := by
  refine boltCommand_onBolt fun d b hb => ?_
  dsimp only
  split
  · exact .refl d
  · next r hreq =>
    have hr := hb.chan r hreq
    split_ifs
    · exact .refl d
    · exact .finish d _ hr _ _
    · exact .finish d _ hr _ _
    · exact .finish d _ hr _ _
    · exact .refl d
    · exact .finish d _ hr _ _
    · exact (BoltReach.weighNow d b hr _ _ _).trans (.showBolt _ _)

theorem boltCommand_unstable : BoltCommand execUnstable := by
  refine boltCommand_onBolt fun d b hb => ?_
  dsimp only
  split
  · exact .refl d
  · next r hreq =>
    split_ifs
    · exact .refl d
    · exact .finish d _ (hb.chan r hreq) _ _

theorem boltCommand_sealChange (isOpen : Bool) : BoltCommand (execSealChange isOpen) := by
  refine boltCommand_onBolt fun d b _ => ?_
  dsimp only
  split_ifs
  · exact .refl d
  · exact .showBolt _ _
  · exact .showBolt _ _

theorem boltCommand_adcSample (port : Fin 4) (v : BitVec 24) : BoltCommand (execAdcSample port v) := by
  refine boltCommand_onBolt fun d b _ => ?_
  dsimp only
  split
  · exact .refl d
  · exact .showBolt _ _

theorem boltCommand_weighFrame : BoltCommand execBoltWeighFrame := by
  refine boltCommand_onBolt fun d b _ => ?_
  dsimp only
  split
  · exact .refl d
  · split
    · exact .refl d
    · split
      · exact .weighQ d _
      · split
        · exact .weighQ d _
        · exact (BoltReach.weighQ d _).trans (.showBolt _ _)

theorem boltCommand_scaleOffline (n : Fin 48) : BoltCommand (execScaleOffline n) := by
  refine boltCommand_onBolt fun d b _ => ?_
  dsimp only
  split
  · exact .refl d
  · exact .showBolt _ _

theorem boltCommand_checkpointTimer : BoltCommand execCheckpointTimer := by
  refine boltCommand_onBolt fun d b _ => ?_
  dsimp only
  split
  · exact .refl d
  · exact .showBolt _ _

theorem boltCommand_checkpointSigned : BoltCommand execCheckpointSigned := by
  refine boltCommand_onBolt fun d b _ => ?_
  dsimp only
  split
  · exact .refl d
  · split <;> exact .refl d

theorem boltCommand_identifyLine : BoltCommand execMspIdentifyLine := by
  refine boltCommand_onBolt fun d b _ => ?_
  dsimp only
  split <;> exact .refl d

theorem boltCommand_eventRead (who : Who) : BoltCommand (execMbEventRead who) := by
  unfold execMbEventRead readCmd
  refine boltCommand_onBolt fun d b _ => ?_
  dsimp only
  split
  · exact (BoltReach.answer d _).trans (.takeEvent _ _ _)
  · exact .answer d _

theorem boltCommand_watchdogReset : BoltCommand execWatchdogReset := by
  refine boltCommand_onBolt fun d b _ => ?_
  dsimp only
  split
  · exact (BoltReach.mailReset d).trans (.showBolt _ _)
  · exact .refl d

theorem boltCommand_powerOn (isOpen : Bool) : BoltCommand (execBoltPowerOn isOpen) := by
  refine boltCommand_onBolt fun d b _ => ?_
  dsimp only
  split
  · exact .refl d
  · exact ((BoltReach.mailReset d).trans (.setReg _ _ (.inr rfl))).trans (.showBolt _ _)

theorem boltCommand_powerDown : BoltCommand execBoltPowerDown := by
  refine boltCommand_onBolt fun d b _ => ?_
  dsimp only
  split
  · exact (BoltReach.mailReset d).trans (.setReg _ _ (.inr rfl))
  · exact .refl d

/-- Every command that acts on the Bolt is a command of the Bolt. -/
theorem boltCommand_exec (i : Instr) (h : boltRow i = true) : BoltCommand (exec i) := by
  cases i with
  | identify | status | scaleCfg | calibrate | keySet | boltFwLoad | zero | tare | clearTare | readWeight | priceLoad | priceRead | recordRead
  | checkpointRead | auditRead => exact boltCommand_serve _ _
  | boltRequestTake c => exact boltCommand_requestTake c
  | channelBind pane chan key => exact boltCommand_channelBind pane chan key
  | weigh item ref clear => exact boltCommand_weigh item ref clear
  | unstable => exact boltCommand_unstable
  | sealChange isOpen => exact boltCommand_sealChange isOpen
  | adcSample port v => exact boltCommand_adcSample port v
  | boltWeighFrame => exact boltCommand_weighFrame
  | scaleOffline n => exact boltCommand_scaleOffline n
  | checkpointTimer => exact boltCommand_checkpointTimer
  | checkpointSigned => exact boltCommand_checkpointSigned
  | mspIdentifyLine => exact boltCommand_identifyLine
  | mbEventRead who => exact boltCommand_eventRead who
  | watchdogReset => exact boltCommand_watchdogReset
  | boltPowerOn isOpen => exact boltCommand_powerOn isOpen
  | boltPowerDown => exact boltCommand_powerDown
  | _ => cases h

/-! ### The commands of the device -/

/-- A command of the device that does not touch the Bolt changes the device alone. -/
theorem exec_device_command (i : Instr) (hb : boltRow i = false) (ht : touchesBolt i = false) (s : State) :
    ∃ d, exec i s = .next { s with dev := d } := by
  cases i with
  | boltRequestTake | identify | status | scaleCfg | calibrate | keySet | channelBind | boltFwLoad | zero | tare | clearTare | weigh | readWeight
  | unstable | priceLoad | priceRead | recordRead | checkpointRead | auditRead | sealChange | adcSample | boltWeighFrame | scaleOffline
  | checkpointTimer | checkpointSigned | mspIdentifyLine | mbEventRead | watchdogReset | boltPowerOn | boltPowerDown => cases hb
  | shadowLowRead | rcFieldRead | tapInstruction | bootStart | bootStepTimeout => cases ht
  | calRead f ok | calWrite f ok => cases ok <;> exact ⟨_, rfl⟩
  | _ => exact ⟨_, rfl⟩

/-- The Bolt as `b`, but for its events and the channel it served last. -/
def Bolt.asBut (b b' : Bolt) : Bolt := { b with events := b'.events, lost := b'.lost, served := b'.served }

/-- A read takes at most an event. -/
theorem takeEvent_bolt (hinge : Bool) (d : Dev) (b : Bolt) : (takeEvent hinge (d, b)).2 = b.asBut (takeEvent hinge (d, b)).2 := by
  unfold takeEvent
  dsimp only
  split
  · rfl
  · split
    · rfl
    · simp only [showBolt, Bolt.popEvent]
      split <;> rfl

/-- A command of the device that may touch the Bolt: the queue stays, and the Bolt but for its events and the channel it served last. -/
def TouchingCommand (g : State → Out) : Prop :=
  ∀ s, ∃ t, g s = .next t ∧ t.pending = s.pending ∧ t.bolt = s.bolt.asBut t.bolt

theorem touching_onDev (f : Dev → Dev) : TouchingCommand (onDev f) := fun s => ⟨_, onDev_next f s, rfl, rfl⟩

theorem touching_readCmd (who : Who) (off : Nat) (f : Dev → Dev) : TouchingCommand (readCmd who off f) := by
  refine fun s => ⟨_, onBolt_next _ s, rfl, ?_⟩
  dsimp only
  split
  · exact takeEvent_bolt _ _ _
  · rfl

theorem touching_bootCmd (f : Dev → Dev) : TouchingCommand (bootCmd f) := by
  refine fun s => ⟨_, onBolt_next _ s, rfl, ?_⟩
  dsimp only
  split <;> rfl

theorem touching_tap (t : Tap) : TouchingCommand (execTapInstruction t) := by
  intro s
  unfold execTapInstruction
  cases t with
  | bypass | idcode | sample | extest => exact touching_onDev _ s
  | debugRead o =>
    dsimp only
    split
    · exact touching_readCmd _ _ _ s
    · exact touching_onDev _ s
  | debugWrite o v =>
    dsimp only
    split <;> exact touching_onDev _ s

theorem touching_exec (i : Instr) (h : touchesBolt i = true) : TouchingCommand (exec i) := by
  cases i with
  | shadowLowRead who off w | rcFieldRead who off w => exact touching_readCmd who off (fun d => d.hostReadReg who off w)
  | tapInstruction t => exact touching_tap t
  | bootStart cold f => exact touching_bootCmd (fun d => d.bootStart cold f)
  | bootStepTimeout f => exact touching_bootCmd (fun d => d.bootTimeout f)
  | _ => cases h

end Sys2Proof.Machine

namespace Sys2Proof.Claims

open Sys2Proof Sys2Proof.Machine

/-- Settles O56: a command of the Bolt by `boltCommand_exec`, one of the device by `exec_device_command` or, where it may touch the Bolt, by `touching_exec`. -/
theorem boltIsApart : Obligations.BoltIsApart := by
  unfold Obligations.BoltIsApart
  intro i s
  cases hrow : boltRow i with
  | true =>
    obtain ⟨t, hexec, hqueue, hreach⟩ := boltCommand_exec i hrow s
    exact ⟨t, hexec, hqueue, nofun, fun _ hinv => ⟨(hreach hinv).rest, (hreach hinv).regs⟩⟩
  | false =>
    cases htouch : touchesBolt i with
    | true =>
      obtain ⟨t, hexec, hqueue, hbolt⟩ := touching_exec i htouch s
      exact ⟨t, hexec, hqueue, fun _ => hbolt, nofun⟩
    | false =>
      obtain ⟨d, hexec⟩ := exec_device_command i hrow htouch s
      exact ⟨_, hexec, rfl, fun _ => rfl, nofun⟩

end Sys2Proof.Claims
end

section
/-! SUPPORT. The record log, the delivery of records and the completion queues (O18). -/

namespace Sys2Proof.Machine

/-! ### Event rings that are off (R460) -/

/-- No function has an event ring. -/
def Dev.EventsOff (d : Dev) : Prop := ∀ f, d.ringOn f .eq = false

/-- A record is not delivered to a function without an event ring. -/
theorem Dev.eventPut_off (d : Dev) (f : Nat) (r : Record) (h : d.ringOn f .eq = false) : d.eventPut f r = d := by
  simp [Dev.eventPut, Dev.ringOpen, h]

/-- Without event rings a record is delivered to none of a list of clients. -/
theorem Dev.each_eventPut_off (d : Dev) (r : Record) (h : d.EventsOff) (l : List Nat) : d.each l (fun d c => d.eventPut (c + 1) r) = d := by
  induction l with
  | nil => rfl
  | cons c l ih => rw [Dev.each_cons, d.eventPut_off _ r (h _), ih]

/-- The registers of the telemetry block are no ring's. -/
theorem rbase_ne_tel (f : Nat) {o : Nat} (h : o < 0x100000) : rbase f .eq + Off.X_CFG ≠ Block.tel.base + o := by
  unfold rbase fnBase
  split <;> simp only [Block.base, RSet.off, Off.X_CFG] <;> omega

theorem Dev.EventsOff.setReg_tel {d : Dev} (h : d.EventsOff) {o : Nat} (ho : o < 0x100000) (w : Word) : (d.setReg (Block.tel.base + o) w).EventsOff :=
  fun f => by
    rw [← h f, Dev.ringOn, Dev.fld, Dev.reg_setReg_other _ _ _ _ (rbase_ne_tel f ho)]
    rfl

/-! ### The log (R513) -/

/-- The record placed in the slot at TAIL, and TAIL moved on. -/
def Dev.logAt (d : Dev) (tail : Nat) (r : Record) : Dev :=
  { d with tel := { d.tel with log := Tab.set Record.zero d.tel.log (tail % 1024) r } }.setFld (Block.tel.base + Off.TEL_LOG_TAIL) Fl.TEL_LOG_TAIL_POS ((tail + 1) % 2048)

/-- The oldest record of a full log given up: HEAD moved on, the loss counted and shown. -/
def Dev.logDrop (d : Dev) : Dev :=
  ((d.setFld (Block.tel.base + Off.TEL_LOG_HEAD) Fl.TEL_LOG_HEAD_POS ((d.fld (Block.tel.base + Off.TEL_LOG_HEAD) Fl.TEL_LOG_HEAD_POS + 1) % 2048)).telCount
    Off.TEL_LOG_LOST).setFld (Block.tel.base + Off.TEL_STATUS) Fl.TEL_STATUS_LOST 1

/-- A record enters the log at TAIL, after the oldest of 1,024 has gone. -/
theorem Dev.logPut_eq (d : Dev) (r : Record) : d.logPut r =
    (if 1024 ≤ d.logCount then d.logDrop else d).logAt (d.fld (Block.tel.base + Off.TEL_LOG_TAIL) Fl.TEL_LOG_TAIL_POS) r := rfl

/-- A loss that does not wrap the counter is three register writes. -/
theorem Dev.logDrop_eq (d : Dev) (hlost : (d.reg (Block.tel.base + Off.TEL_LOG_LOST)).toNat + 1 < 2 ^ 32) : d.logDrop =
    ((d.setFld (Block.tel.base + Off.TEL_LOG_HEAD) Fl.TEL_LOG_HEAD_POS ((d.fld (Block.tel.base + Off.TEL_LOG_HEAD) Fl.TEL_LOG_HEAD_POS + 1) % 2048)).setReg
      (Block.tel.base + Off.TEL_LOG_LOST) (wd ((d.reg (Block.tel.base + Off.TEL_LOG_LOST)).toNat + 1))).setFld (Block.tel.base + Off.TEL_STATUS) Fl.TEL_STATUS_LOST 1 := by
  have hreg (v : Nat) : (d.setFld (Block.tel.base + Off.TEL_LOG_HEAD) Fl.TEL_LOG_HEAD_POS v).reg (Block.tel.base + Off.TEL_LOG_LOST)
      = d.reg (Block.tel.base + Off.TEL_LOG_LOST) := Dev.reg_setReg_other _ _ _ _ (by decide)
  unfold Dev.logDrop Dev.telCount
  rw [Dev.bump_small _ _ _ _ (by rw [hreg]; exact hlost), hreg]

theorem Dev.EventsOff.logAt {d : Dev} (h : d.EventsOff) (tail : Nat) (r : Record) : (d.logAt tail r).EventsOff :=
  Dev.EventsOff.setReg_tel (d := { d with tel := { d.tel with log := Tab.set Record.zero d.tel.log (tail % 1024) r } }) h (by decide) _

theorem Dev.EventsOff.logDrop {d : Dev} (h : d.EventsOff) (hlost : (d.reg (Block.tel.base + Off.TEL_LOG_LOST)).toNat + 1 < 2 ^ 32) : d.logDrop.EventsOff := by
  rw [d.logDrop_eq hlost]
  exact ((h.setReg_tel (by decide) _).setReg_tel (by decide) _).setReg_tel (by decide) _

/-- TAIL after a record is placed. -/
theorem Dev.logAt_tail (d : Dev) (tail : Nat) (r : Record) :
    (d.logAt tail r).fld (Block.tel.base + Off.TEL_LOG_TAIL) Fl.TEL_LOG_TAIL_POS = (tail + 1) % 2048 :=
  (Dev.fld_setFld_same _ _ _ _ (by decide)).trans (Nat.mod_mod _ 2048)

/-- The slots of the log after a record is placed. -/
theorem Dev.logAt_slot (d : Dev) (tail : Nat) (r : Record) (n : Nat) :
    Tab.get Record.zero (d.logAt tail r).tel.log n = if n = tail % 1024 then r else Tab.get Record.zero d.tel.log n :=
  Tab.get_set _ _ _ _ _

/-- The other registers after a record is placed. -/
theorem Dev.logAt_reg (d : Dev) (tail : Nat) (r : Record) {o : Nat} (h : o ≠ Block.tel.base + Off.TEL_LOG_TAIL) : (d.logAt tail r).reg o = d.reg o :=
  Dev.reg_setReg_other _ _ _ _ h

@[simp] theorem Dev.logAt_waiting (d : Dev) (tail : Nat) (r : Record) (src : Nat) : (d.logAt tail r).waiting src = d.waiting src := by
  rw [Dev.logAt, Dev.waiting_setFld_at]
  rfl

@[simp] theorem Dev.logAt_cores (d : Dev) (tail : Nat) (r : Record) : (d.logAt tail r).cores = d.cores := by rw [Dev.logAt, Dev.setFld_cores]
@[simp] theorem Dev.logAt_host (d : Dev) (tail : Nat) (r : Record) : (d.logAt tail r).host = d.host := by rw [Dev.logAt, Dev.setFld_host]

/-! What the loss of a record leaves, where it does not wrap the counter. -/

section
variable (d : Dev) (hlost : (d.reg (Block.tel.base + Off.TEL_LOG_LOST)).toNat + 1 < 2 ^ 32)
include hlost

theorem Dev.logDrop_tel : d.logDrop.tel = d.tel := by rw [d.logDrop_eq hlost, Dev.setFld_tel, Dev.setReg_tel, Dev.setFld_tel]
theorem Dev.logDrop_cores : d.logDrop.cores = d.cores := by rw [d.logDrop_eq hlost, Dev.setFld_cores, Dev.setReg_cores, Dev.setFld_cores]
theorem Dev.logDrop_host : d.logDrop.host = d.host := by rw [d.logDrop_eq hlost, Dev.setFld_host, Dev.setReg_host, Dev.setFld_host]

theorem Dev.logDrop_head : d.logDrop.fld (Block.tel.base + Off.TEL_LOG_HEAD) Fl.TEL_LOG_HEAD_POS
    = (d.fld (Block.tel.base + Off.TEL_LOG_HEAD) Fl.TEL_LOG_HEAD_POS + 1) % 2048 := by
  rw [d.logDrop_eq hlost, Dev.fld_setFld_ne _ _ _ _ _ _ (by decide), Dev.fld, Dev.reg_setReg_other _ _ _ _ (by decide)]
  exact (Dev.fld_setFld_same _ _ _ _ (by decide)).trans (Nat.mod_mod _ 2048)

theorem Dev.logDrop_status : d.logDrop.fld (Block.tel.base + Off.TEL_STATUS) Fl.TEL_STATUS_LOST = 1 := by
  rw [d.logDrop_eq hlost]
  exact Dev.fld_setFld_same _ _ _ _ (by decide)

theorem Dev.logDrop_lost : (d.logDrop.reg (Block.tel.base + Off.TEL_LOG_LOST)).toNat = (d.reg (Block.tel.base + Off.TEL_LOG_LOST)).toNat + 1 := by
  rw [d.logDrop_eq hlost, Dev.reg_setFld, if_neg (by decide), Dev.reg_setReg, if_pos rfl]
  exact Nat.mod_eq_of_lt hlost

end

/-! ### The arrival of a record (R22, R512) -/

/-- Nothing arrives from a source with no record, or behind a bypassed station. -/
theorem exec_recordArrive_none (src : BitVec 16) (s : State) (h : s.dev.waiting src.toNat = [] ∨ s.dev.bypassed src.toNat = true) :
    exec (.recordArrive src) s = .next s := by
  have hq : (if s.dev.bypassed src.toNat then [] else s.dev.waiting src.toNat) = [] := by
    rcases h with h | h <;> simp [h]
  change execRecordArrive src s = _
  simp only [execRecordArrive, onDev_next, hq]

/-- A record of a source that is no sequencer leaves it and enters the log. -/
theorem exec_recordArrive (src : BitVec 16) (s : State) {r : Record} {rest : List Record} (hq : s.dev.waiting src.toNat = r :: rest)
    (hseq : src.toNat < 0x20 ∨ 0x40 ≤ src.toNat) (hon : s.dev.bypassed src.toNat = false) (hoff : ((s.dev.setWaiting src.toNat rest).logPut r).EventsOff) :
    exec (.recordArrive src) s = .next { s with dev := (s.dev.setWaiting src.toNat rest).logPut r } := by
  have hsrc : ¬(0x20 ≤ src.toNat ∧ src.toNat < 0x40) := by omega
  change execRecordArrive src s = _
  simp only [execRecordArrive, onDev_next, hon, hq, Bool.false_eq_true, if_false, if_neg hsrc, Dev.eventPut_off _ 0 r (hoff 0), ite_self,
    Dev.each_eventPut_off _ r hoff]

/-! ### Completion queues (R446, R451) -/

/-- The device with another content of host memory. -/
def Dev.withHost (d : Dev) (m : Mem) : Dev := { d with host := m }

@[simp] theorem Dev.withHost_reg (d : Dev) (m : Mem) (o : Nat) : (d.withHost m).reg o = d.reg o := rfl
@[simp] theorem Dev.withHost_bmeOff (d : Dev) (m : Mem) : (d.withHost m).bmeOff = d.bmeOff := rfl
@[simp] theorem Dev.withHost_host (d : Dev) (m : Mem) : (d.withHost m).host = m := rfl
@[simp] theorem Dev.withHost_fld (d : Dev) (m : Mem) (o : Nat) (g : Fld) : (d.withHost m).fld o g = d.fld o g := rfl
@[simp] theorem Dev.withHost_reg64 (d : Dev) (m : Mem) (lo hi : Nat) : (d.withHost m).reg64 lo hi = d.reg64 lo hi := rfl
@[simp] theorem Dev.withHost_dpos (d : Dev) (m : Mem) (f : Nat) (x : RSet) : (d.withHost m).dpos f x = d.dpos f x := rfl
theorem Dev.withHost_withHost (d : Dev) (m m' : Mem) : (d.withHost m).withHost m' = d.withHost m' := rfl
theorem Dev.withHost_setReg (d : Dev) (m : Mem) (o : Nat) (w : Word) : (d.withHost m).setReg o w = (d.setReg o w).withHost m := rfl

/-- The registers after a completion: DPOS of the queue moved on, and the counter. -/
def Dev.cqCount (d : Dev) (f : Nat) : Dev :=
  (d.setFld (rbase f .cq + Off.X_DPOS) Fl.X_DPOS_POS ((d.dpos f .cq + 1) % (2 * d.ringN f .cq))).setReg (rbase f .cq + Off.X_COUNT)
    (wd ((d.reg (rbase f .cq + Off.X_COUNT)).toNat + 1))

/-- A ring that can take an entry has room for one. -/
theorem Dev.ringN_of_open {d : Dev} {f : Nat} {x : RSet} (h : d.ringOpen f x = true) : 0 < d.ringN f x := by
  simp only [Dev.ringOpen, Bool.and_eq_true, decide_eq_true_eq] at h
  omega

/-- A position of a ring of fewer than 2^16 units fits its field. -/
theorem Dev.cqNext_lt (d : Dev) (f : Nat) (hn : 0 < d.ringN f .cq) : (d.dpos f .cq + 1) % (2 * d.ringN f .cq) < 2 ^ 26 := by
  have hsize : d.ringN f .cq < 2 ^ 16 := Nat.mod_lt _ (by decide)
  have hmod := Nat.mod_lt (d.dpos f .cq + 1) (show 0 < 2 * d.ringN f .cq by omega)
  omega

theorem Dev.cqCount_dpos (d : Dev) (f : Nat) (hn : 0 < d.ringN f .cq) : (d.cqCount f).dpos f .cq = (d.dpos f .cq + 1) % (2 * d.ringN f .cq) := by
  have hne : rbase f .cq + Off.X_DPOS ≠ rbase f .cq + Off.X_COUNT := by simp [Off.X_DPOS, Off.X_COUNT]
  unfold Dev.cqCount
  rw [Dev.dpos, Dev.fld, Dev.reg_setReg_other _ _ _ _ hne]
  exact (d.fld_setFld_same _ _ _ (by decide)).trans (Nat.mod_eq_of_lt (d.cqNext_lt f hn))

theorem Dev.cqCount_count (d : Dev) (f : Nat) : (d.cqCount f).reg (rbase f .cq + Off.X_COUNT) = wd ((d.reg (rbase f .cq + Off.X_COUNT)).toNat + 1) := by
  rw [Dev.cqCount, Dev.reg_setReg, if_pos rfl]

/-- The registers of the queue's other half-words and of the write-back area's address are as they were. -/
theorem Dev.cqCount_reg (d : Dev) (f : Nat) {o : Nat} (hpos : o ≠ rbase f .cq + Off.X_DPOS) (hcount : o ≠ rbase f .cq + Off.X_COUNT) :
    (d.cqCount f).reg o = d.reg o :=
  (Dev.reg_setReg_other _ _ _ _ hcount).trans (Dev.reg_setReg_other _ _ _ _ hpos)

/-- The write of a completion: the entry at DPOS, DPOS moved on, the counter, and the new DPOS in the write-back area. -/
def Dev.completed (d : Dev) (f : Nat) (e : List Byte) : Dev :=
  (d.cqCount f).withHost ((d.host.write (d.unitAddr f .cq (d.dpos f .cq)) e).write (d.reg64 (fnBase f + Off.WB_LO) (fnBase f + Off.WB_HI) + 4)
    (natLE 4 ((d.dpos f .cq + 1) % (2 * d.ringN f .cq))))

theorem Dev.hostWrite_on (d : Dev) (f a : Nat) (bs : List Byte) (hbus : d.bmeOff.contains f = false) : d.hostWrite f a bs = d.withHost (d.host.write a bs) := by
  rw [Dev.hostWrite, hbus]
  rfl

/-- The write-back of a completion queue without a vector. -/
theorem Dev.writeBack_cq (d : Dev) (f : Nat) (hbus : d.bmeOff.contains f = false) (hirq : d.fld (rbase f .cq + Off.X_CFG) Fl.X_CFG_IRQ_EN = 0) :
    d.writeBack f .cq = d.withHost (d.host.write (d.reg64 (fnBase f + Off.WB_LO) (fnBase f + Off.WB_HI) + 4) (natLE 4 (d.dpos f .cq))) := by
  unfold Dev.writeBack
  dsimp only
  rw [d.hostWrite_on _ _ _ hbus, Dev.fld, Dev.withHost_reg, ← Dev.fld, hirq]
  rfl

/-- An entry put at DPOS, with the counter below its maximum. -/
theorem Dev.ringPut_cq (d : Dev) (f : Nat) (e : List Byte) (hbus : d.bmeOff.contains f = false)
    (hcount : (d.reg (rbase f .cq + Off.X_COUNT)).toNat + 1 < 2 ^ 32) :
    (d.ringPut f .cq e).ringCount f .cq = (d.cqCount f).withHost (d.host.write (d.unitAddr f .cq (d.dpos f .cq)) e) := by
  have hne : rbase f .cq + Off.X_COUNT ≠ rbase f .cq + Off.X_DPOS := by simp [Off.X_DPOS, Off.X_COUNT]
  have hput : d.ringPut f .cq e = (d.setFld (rbase f .cq + Off.X_DPOS) Fl.X_DPOS_POS ((d.dpos f .cq + 1) % (2 * d.ringN f .cq))).withHost
      (d.host.write (d.unitAddr f .cq (d.dpos f .cq)) e) := by
    rw [Dev.ringPut, d.hostWrite_on _ _ _ hbus]
    rfl
  rw [hput, Dev.ringCount, Dev.withHost_reg, Dev.reg_setFld, if_neg hne, Nat.min_eq_left (by omega), Dev.withHost_setReg, Dev.cqCount]

/-- The registers of the ring block but DPOS and the counter of the completion queue. -/
theorem Dev.cqCount_keeps (d : Dev) (f : Nat) {o : Nat} (h : o ≠ 0x30) (h' : o ≠ 0x38) : (d.cqCount f).reg (fnBase f + o) = d.reg (fnBase f + o) := by
  refine d.cqCount_reg f ?_ ?_ <;> simp only [rbase, RSet.off, Off.X_DPOS, Off.X_COUNT] <;> omega

theorem Dev.cqCount_irq (d : Dev) (f : Nat) : (d.cqCount f).fld (rbase f .cq + Off.X_CFG) Fl.X_CFG_IRQ_EN = d.fld (rbase f .cq + Off.X_CFG) Fl.X_CFG_IRQ_EN := by
  have h : RSet.cq.off + Off.X_CFG ≠ 0x30 ∧ RSet.cq.off + Off.X_CFG ≠ 0x38 := by decide
  rw [Dev.fld, Dev.fld, rbase, Nat.add_assoc, d.cqCount_keeps f h.1 h.2]

theorem Dev.cqCount_wb (d : Dev) (f : Nat) : (d.cqCount f).reg64 (fnBase f + Off.WB_LO) (fnBase f + Off.WB_HI) = d.reg64 (fnBase f + Off.WB_LO) (fnBase f + Off.WB_HI) := by
  have h : (Off.WB_LO ≠ 0x30 ∧ Off.WB_LO ≠ 0x38) ∧ Off.WB_HI ≠ 0x30 ∧ Off.WB_HI ≠ 0x38 := by decide
  rw [Dev.reg64, Dev.reg64, d.cqCount_keeps f h.1.1 h.1.2, d.cqCount_keeps f h.2.1 h.2.2]

/-- A completion with a bus to go on, no vector, and a counter below its maximum. -/
theorem Dev.cqPut_eq (d : Dev) (f : Nat) (e : List Byte) (hn : 0 < d.ringN f .cq) (hbus : d.bmeOff.contains f = false)
    (hirq : d.fld (rbase f .cq + Off.X_CFG) Fl.X_CFG_IRQ_EN = 0) (hcount : (d.reg (rbase f .cq + Off.X_COUNT)).toNat + 1 < 2 ^ 32) :
    d.cqPut f e = d.completed f e := by
  have hwb := Dev.writeBack_cq ((d.cqCount f).withHost (d.host.write (d.unitAddr f .cq (d.dpos f .cq)) e)) f
    (by rw [Dev.withHost_bmeOff, Dev.cqCount, Dev.setReg_bmeOff, Dev.setFld_bmeOff, hbus]) (by rw [Dev.withHost_fld, d.cqCount_irq, hirq])
  rw [Dev.withHost_dpos, d.cqCount_dpos f hn, Dev.withHost_reg64, d.cqCount_wb, Dev.withHost_withHost, Dev.withHost_host] at hwb
  rw [Dev.cqPut, d.ringPut_cq f e hbus hcount, hwb, Dev.completed]

/-- The completions of a function that wait, replaced. -/
def Dev.setCqWait (d : Dev) (f : Nat) (q : List (List Byte)) : Dev := { d with cqWait := Tab.set [] d.cqWait f q }

@[simp] theorem Dev.setCqWait_reg (d : Dev) (f : Nat) (q : List (List Byte)) (o : Nat) : (d.setCqWait f q).reg o = d.reg o := rfl
@[simp] theorem Dev.setCqWait_fld (d : Dev) (f : Nat) (q : List (List Byte)) (o : Nat) (g : Fld) : (d.setCqWait f q).fld o g = d.fld o g := rfl
@[simp] theorem Dev.setCqWait_ringN (d : Dev) (f : Nat) (q : List (List Byte)) (g : Nat) (x : RSet) : (d.setCqWait f q).ringN g x = d.ringN g x := rfl
@[simp] theorem Dev.setCqWait_dpos (d : Dev) (f : Nat) (q : List (List Byte)) (g : Nat) (x : RSet) : (d.setCqWait f q).dpos g x = d.dpos g x := rfl
@[simp] theorem Dev.setCqWait_unitAddr (d : Dev) (f : Nat) (q : List (List Byte)) (g : Nat) (x : RSet) (p : Nat) : (d.setCqWait f q).unitAddr g x p = d.unitAddr g x p := rfl
@[simp] theorem Dev.setCqWait_reg64 (d : Dev) (f : Nat) (q : List (List Byte)) (lo hi : Nat) : (d.setCqWait f q).reg64 lo hi = d.reg64 lo hi := rfl
@[simp] theorem Dev.setCqWait_host (d : Dev) (f : Nat) (q : List (List Byte)) : (d.setCqWait f q).host = d.host := rfl
@[simp] theorem Dev.setCqWait_bmeOff (d : Dev) (f : Nat) (q : List (List Byte)) : (d.setCqWait f q).bmeOff = d.bmeOff := rfl

@[simp] theorem Dev.setCqWait_waitingCq (d : Dev) (f : Nat) (q : List (List Byte)) : (d.setCqWait f q).waitingCq f = q := Tab.get_set_same _ _ _ _
@[simp] theorem Dev.withHost_waitingCq (d : Dev) (m : Mem) (g : Nat) : (d.withHost m).waitingCq g = d.waitingCq g := rfl
theorem Dev.completed_waitingCq (d : Dev) (f g : Nat) (e : List Byte) : (d.completed f e).waitingCq g = d.waitingCq g := by
  rw [Dev.completed, Dev.withHost_waitingCq, Dev.waitingCq, Dev.cqCount, Dev.setReg_cqWait, Dev.setFld_cqWait, Dev.waitingCq]

/-- A completion that waits is written once its queue has room. -/
theorem exec_cqEntryWrite (f : Fin 33) (s : State) {e : List Byte} {rest : List (List Byte)} (hq : s.dev.waitingCq f = e :: rest) (hopen : s.dev.ringOpen f .cq = true) :
    exec (.cqEntryWrite f) s = .next { s with dev := (s.dev.setCqWait f rest).cqPut f e } := by
  change execCqEntryWrite f s = _
  simp only [execCqEntryWrite, onDev_next, hq, hopen, if_true, Dev.setCqWait]

/-- No completion waits. -/
theorem exec_cqEntryWrite_none (f : Fin 33) (s : State) (hq : s.dev.waitingCq f = []) : exec (.cqEntryWrite f) s = .next s := by
  change execCqEntryWrite f s = _
  simp only [execCqEntryWrite, onDev_next, hq]

end Sys2Proof.Machine

namespace Sys2Proof.Claims

open Sys2Proof Sys2Proof.Machine

/-- A completion that waits is written: it leaves the queue of those that wait, and the rest is `Dev.completed`. -/
theorem gives_cqEntryWrite (f : Fin 33) (s : State) {e : List Byte} {rest : List (List Byte)} (hq : s.dev.waitingCq f = e :: rest)
    (hopen : s.dev.ringOpen f .cq = true) (hbus : s.dev.bmeOff.contains f.val = false) (hirq : s.dev.fld (rbase f .cq + Off.X_CFG) Fl.X_CFG_IRQ_EN = 0)
    (hcount : (s.dev.reg (rbase f .cq + Off.X_COUNT)).toNat + 1 < 2 ^ 32) :
    GivesDev (.cqEntryWrite f) s ((s.dev.setCqWait f rest).completed f e) := by
  have hn := Dev.ringN_of_open hopen
  rw [GivesDev, exec_cqEntryWrite f s hq hopen, Dev.cqPut_eq _ f e (by simpa using hn) (by simpa using hbus) (by simpa using hirq) (by simpa using hcount)]

/-- Settles O18: the arrival of a record from `exec_recordArrive` and the equations of the log, the write of a completion from `gives_cqEntryWrite`. -/
theorem recordsAndCompletions : Obligations.RecordsAndCompletions := by
  unfold Obligations.RecordsAndCompletions
  intro s d head tail logged
  have placed (src : BitVec 16) (r : Record) (rest : List Record) (d' : Dev) (hwait : d'.waiting src.toNat = rest) (hlog : d'.tel.log = d.tel.log)
      (hcores : d'.cores = d.cores) (hhost : d'.host = d.host) : logged src r rest { s with dev := d'.logAt tail r } := by
    refine ⟨(d'.logAt_waiting _ _ _).trans hwait, (d'.logAt_slot _ _ _).trans (if_pos rfl), d'.logAt_tail _ _, fun n hn => ?_, (d'.logAt_cores _ _).trans hcores,
      (d'.logAt_host _ _).trans hhost⟩
    rw [← hlog]
    exact (d'.logAt_slot _ _ _).trans (if_neg hn)
  refine ⟨fun src r rest hq hseq _ hoff hon => ?_, fun src h => exec_recordArrive_none src s h,
    fun f e rest hq hopen hbus hirq hcount => ?_, fun f hq => exec_cqEntryWrite_none f s hq⟩
  · have hleft : (d.setWaiting src.toNat rest).waiting src.toNat = rest := by rw [Dev.waiting_setWaiting, if_pos rfl]
    have hcount : (d.setWaiting src.toNat rest).logCount = d.logCount := rfl
    have hoff' : (d.setWaiting src.toNat rest).EventsOff := hoff
    have hlog := Dev.logPut_eq (d.setWaiting src.toNat rest) r
    constructor
    · intro hroom
      rw [hcount, if_neg (Nat.not_le.mpr hroom)] at hlog
      refine ⟨_, exec_recordArrive src s hq hseq hon (hlog ▸ hoff'.logAt _ _), ?_⟩
      rw [hlog]
      exact ⟨placed src r rest _ hleft rfl rfl rfl, rfl⟩
    · intro hfull hlost
      rw [hcount, if_pos hfull] at hlog
      refine ⟨_, exec_recordArrive src s hq hseq hon (hlog ▸ (hoff'.logDrop hlost).logAt _ _), ?_⟩
      rw [hlog]
      have htel := (d.setWaiting src.toNat rest).logDrop_tel hlost
      refine ⟨placed src r rest _ (by rw [Dev.waiting, htel, ← Dev.waiting, hleft]) (by rw [htel]; rfl) (Dev.logDrop_cores _ hlost) (Dev.logDrop_host _ hlost), ?_, ?_, ?_⟩
      · rw [Dev.fld, Dev.logAt_reg _ _ _ (by decide)]
        exact Dev.logDrop_head _ hlost
      · rw [Dev.fld, Dev.logAt_reg _ _ _ (by decide)]
        exact Dev.logDrop_status _ hlost
      · rw [Dev.logAt_reg _ _ _ (by decide)]
        exact Dev.logDrop_lost _ hlost
  · refine ⟨_, gives_cqEntryWrite f s hq hopen hbus hirq hcount, ?_, ?_, ?_, ?_⟩
    · rw [Dev.completed_waitingCq, Dev.setCqWait_waitingCq]
    · rw [Dev.completed, Dev.withHost_dpos, Dev.cqCount_dpos _ f (by simpa using Dev.ringN_of_open hopen)]
      simp [d]
    · rw [Dev.completed, Dev.withHost_reg, Dev.cqCount_count, Dev.setCqWait_reg]
      exact Nat.mod_eq_of_lt hcount
    · rw [Dev.completed]
      simp [d]

end Sys2Proof.Claims
end

section
/-! SUPPORT. A side controller's tick over a table of streams with two entries for one ID (O26). -/

namespace Sys2Proof.Machine

/-- The device at reset whose side controller 0 runs and whose table of streams holds two entries for ID 5: the first, which is the stream's, is SUSPECT; the
second is IDLE. -/
def Dev.twoEntries : Dev :=
  { Dev.atReset.setFld ((Block.sc 0).base + Off.SC_STATUS) Fl.SC_STATUS_RUNNING 1 with
    streams := [(5, { Stream.free with state := 4 }), (5, { Stream.free with state := 1 })] }

/-- Side controller 0 runs. -/
theorem Dev.twoEntries_scRuns : Dev.twoEntries.scRuns 0 = true := by decide +kernel

/-- No batcher has a batch. -/
theorem Dev.twoEntries_bat (b : Nat) (hb : b < 32) : (Dev.twoEntries.bat b).inflight = none ∧ Dev.twoEntries.batOn b = false := by
  have h : ∀ b : Fin 32, (Dev.twoEntries.bat b).inflight.isNone = true ∧ Dev.twoEntries.batOn b = false := by decide +kernel
  exact ⟨Option.isNone_iff_eq_none.mp (h ⟨b, hb⟩).1, (h ⟨b, hb⟩).2⟩

/-- The tick that finds the entry of stream 5 in error, as one function of the device: no batch has ended. -/
def Dev.tickBad (d : Dev) : Dev :=
  let d := ((d.badEntry 0 5).readiness 0).waitAgain 0
  ((d.each ((List.range 16).map (· + 16 * 0)) Dev.decideBatch).arbitrate 0).dispatchReady 0

/-- A tick of side controller 0 that runs, with no batch ended and the entry of stream 5 in error. -/
theorem exec_sideControllerTick_bad (s : State) (hrun : s.dev.scRuns 0 = true) (hdone : s.dev.scDone = []) :
    exec (.sideControllerTick 0 [] false (some 5)) s = .next { s with dev := s.dev.tickBad } := by
  change execSideControllerTick 0 [] false (some 5) s = _
  have hrun' : s.dev.scRuns (0 : Fin 2).val = true := hrun
  simp only [execSideControllerTick, onDev_next, hrun', hdone, List.filter_nil, Dev.each_nil, Bool.true_eq_false, Bool.false_eq_true, if_false]
  rfl

/-- The tick leaves the stream READY, not SUSPECT: its entry becomes SUSPECT, then readiness picks the IDLE entry of the same ID. -/
theorem Dev.twoEntries_tickBad : (Dev.twoEntries.tickBad.stream (5 : Fin 1024)).state = 2 := by decide +kernel

end Sys2Proof.Machine
end

section
namespace Sys2Proof.Claims
open Sys2Proof Sys2Proof.Machine

/-- Refutes O26: a table of streams with two entries for one ID, the first SUSPECT and the second IDLE. The tick that finds the stream's entry in error makes
the stream SUSPECT, and then READY for the second entry's sake, where the statement has it SUSPECT. -/
theorem not_batchEvents : ¬ Obligations.BatchEvents := by
  unfold Obligations.BatchEvents
  intro h
  obtain ⟨-, -, hidle, -⟩ := h { State.reset with dev := Dev.twoEntries }
  have hbad := (hidle 0 [] Dev.twoEntries_scRuns rfl rfl Dev.twoEntries_bat).1 5 rfl rfl rfl
  obtain ⟨t, ht, hstate, -⟩ := hbad
  have hexec := exec_sideControllerTick_bad { State.reset with dev := Dev.twoEntries } Dev.twoEntries_scRuns rfl
  rw [hexec] at ht
  injection ht with ht
  subst ht
  simp only [Dev.twoEntries_tickBad] at hstate
  exact absurd hstate (by decide)

end Sys2Proof.Claims
end

section
/-! SUPPORT. The containment of a side: what it writes, what it leaves unchanged and which jobs it fails (R21, R26). -/

namespace Sys2Proof.Machine

/-! ### Jobs, plans and registers -/

/-- A value read other than the default is listed. -/
theorem Tab.mem_of_get_ne {α : Type} (x : α) (t : Tab α) (k : Nat) (h : Tab.get x t k ≠ x) : (k, Tab.get x t k) ∈ t := by
  induction t with
  | nil => exact absurd rfl h
  | cons e t ih =>
    obtain ⟨j, v⟩ := e
    by_cases hj : j = k
    · subst hj
      rw [Tab.get, if_pos rfl]
      exact List.mem_cons_self
    · rw [Tab.get, if_neg hj] at h ⊢
      exact List.mem_cons_of_mem _ (ih h)

/-- A job that is not FREE is listed. -/
theorem Dev.job_mem (d : Dev) (j : Nat) (h : (d.job j).state ≠ .free) : (j, d.job j) ∈ d.jobs :=
  Tab.mem_of_get_ne Job.free d.jobs j (fun he => h (by unfold Dev.job; rw [he]; rfl))

/-- The registers other than TEL_SRC_DROPS. -/
def Dev.steadyRegs (d : Dev) (o : Nat) : Word := if o = Block.tel.base + Off.TEL_SRC_DROPS then 0 else d.reg o

/-- What the stop of cores and the release of Latch words leave: jobs, plans and registers. -/
def Dev.jobsAndRegs (d : Dev) : Tab Job × Tab (Option Plan) × (Nat → Word) := (d.jobs, d.plans, d.steadyRegs)

theorem Dev.jobs_of_jobsAndRegs {d e : Dev} (h : e.jobsAndRegs = d.jobsAndRegs) : e.jobs = d.jobs := congrArg Prod.fst h

theorem Dev.plans_of_jobsAndRegs {d e : Dev} (h : e.jobsAndRegs = d.jobsAndRegs) : e.plans = d.plans := congrArg (fun v => v.2.1) h

theorem Dev.job_of_jobsAndRegs {d e : Dev} (h : e.jobsAndRegs = d.jobsAndRegs) (j : Nat) : e.job j = d.job j := by
  unfold Dev.job
  rw [Dev.jobs_of_jobsAndRegs h]

theorem Dev.reg_of_jobsAndRegs {d e : Dev} (h : e.jobsAndRegs = d.jobsAndRegs) {o : Nat} (ho : o ≠ Block.tel.base + Off.TEL_SRC_DROPS) : e.reg o = d.reg o := by
  have hv : e.steadyRegs o = d.steadyRegs o := congrFun (congrArg (fun v => v.2.2) h) o
  rwa [Dev.steadyRegs, Dev.steadyRegs, if_neg ho, if_neg ho] at hv

@[simp] theorem Dev.emit_steadyRegs (d : Dev) (e : Ev) : (d.emit e).steadyRegs = d.steadyRegs := by
  funext o
  unfold Dev.steadyRegs
  split
  · rfl
  · next h => exact d.reg_emit e o h

@[simp] theorem Dev.emit_jobsAndRegs (d : Dev) (e : Ev) : (d.emit e).jobsAndRegs = d.jobsAndRegs := by
  simp only [Dev.jobsAndRegs, Dev.emit_jobs, Dev.emit_plans, Dev.emit_steadyRegs]

theorem Dev.stopWithJob_jobsAndRegs (d : Dev) (k : Nat) : (d.stopWithJob k).jobsAndRegs = d.jobsAndRegs := by
  unfold Dev.stopWithJob Dev.coreRecord
  rw [Dev.emit_jobsAndRegs]
  rfl

theorem Dev.completeWatch_jobsAndRegs (d : Dev) (cl : Nat) (w : Watch) (st : Nat) (slot : Bool) : (d.completeWatch cl w st slot).jobsAndRegs = d.jobsAndRegs := by
  unfold Dev.completeWatch
  cases w.batch with
  | some b => rfl
  | none =>
    simp only
    split
    · rw [Dev.emit_jobsAndRegs]
    · rfl

theorem Dev.completeWhere_jobsAndRegs (d : Dev) (cl : Nat) (p : Watch → Bool) (st : Nat) : (d.completeWhere cl p st).jobsAndRegs = d.jobsAndRegs :=
  (Dev.each_keeps Dev.jobsAndRegs _ _ (fun d w => d.completeWatch_jobsAndRegs cl w st true) _).trans rfl

theorem Dev.latchRelease_jobsAndRegs (d : Dev) (j : Nat) (st : Option Nat) : (d.latchRelease j st).jobsAndRegs = d.jobsAndRegs := by
  refine Dev.each_keeps Dev.jobsAndRegs _ _ (fun d cl => ?_) d
  cases st with
  | none => rfl
  | some x => exact (Dev.completeWhere_jobsAndRegs _ cl _ x).trans rfl

/-! ### A failing job (R72) -/

/-- A register that neither a record, nor a client's preempted time, nor a camera's stop writes. -/
structure Steadfast (o : Nat) : Prop where
  drops : o ≠ Block.tel.base + Off.TEL_SRC_DROPS
  lo : ∀ c, o ≠ Block.sch.base + Off.ACC_PREEMPT_TIME_LO c
  hi : ∀ c, o ≠ Block.sch.base + Off.ACC_PREEMPT_TIME_HI c
  cfg : ∀ c, c < 64 → o ≠ Block.fin.base + Off.CAM_CFG c
  cam : ∀ c, c < 64 → o ≠ Block.fin.base + Off.CAM_STATUS c

theorem steadfast_meshStatus (s : Nat) : Steadfast ((Block.mesh s).base + Off.MESH_STATUS) := by
  constructor <;> simp only [Block.base, Off.TEL_SRC_DROPS, Off.ACC_PREEMPT_TIME_LO, Off.ACC_PREEMPT_TIME_HI, Off.CAM_CFG, Off.CAM_STATUS, Off.MESH_STATUS] <;> omega

theorem steadfast_hbmStatus (s : Nat) : Steadfast ((Block.hbm s).base + Off.HBM_STATUS) := by
  constructor <;> simp only [Block.base, Off.TEL_SRC_DROPS, Off.ACC_PREEMPT_TIME_LO, Off.ACC_PREEMPT_TIME_HI, Off.CAM_CFG, Off.CAM_STATUS, Off.HBM_STATUS] <;> omega

theorem steadfast_epo : Steadfast epo := by
  constructor <;> simp only [epo, Block.base, Off.TEL_SRC_DROPS, Off.ACC_PREEMPT_TIME_LO, Off.ACC_PREEMPT_TIME_HI, Off.CAM_CFG, Off.CAM_STATUS, Off.EP_STATUS] <;> omega

theorem Dev.endPreempted_reg (d : Dev) (j : Nat) {o : Nat} (ho : Steadfast o) : (d.endPreempted j).reg o = d.reg o := by
  unfold Dev.endPreempted
  simp only
  split
  · rfl
  · next t _ =>
    change (d.addTime64 _ _ _).reg o = _
    rw [Dev.addTime64, Dev.reg_setReg_other _ _ _ _ (ho.hi _), Dev.reg_setReg_other _ _ _ _ (ho.lo _)]

theorem Dev.endPreempted_job_ne (d : Dev) {i j : Nat} (h : i ≠ j) : (d.endPreempted j).job i = d.job i := by
  unfold Dev.endPreempted
  simp only
  split
  · rfl
  · rw [Dev.job_setJob, if_neg h]
    rfl

/-- A job marked as FAILED by the record just written. -/
def Dev.markFailed (d : Dev) (j : Nat) : Dev :=
  d.setJob j { d.job j with state := .failed, runs := 2, started := false, wants := none, request := none, failCls := d.tel.last }

theorem Dev.markFailed_job (d : Dev) (i j : Nat) : ((d.markFailed j).job i).state = if i = j then .failed else (d.job i).state := by
  rw [Dev.markFailed, Dev.job_setJob]
  split <;> rfl

/-- What follows the mark touches neither jobs nor plans nor registers. -/
theorem Dev.failJob_jobsAndRegs (d : Dev) (j : Nat) (h : ¬((d.job j).state = .free ∨ (d.job j).state = .failed)) :
    (d.failJob j).jobsAndRegs = ((d.endPreempted j).markFailed j).jobsAndRegs := by
  unfold Dev.failJob
  simp only
  rw [if_neg h, Dev.latchRelease_jobsAndRegs, Dev.each_keeps Dev.jobsAndRegs _ _ Dev.stopWithJob_jobsAndRegs]
  rfl

theorem Dev.failJob_reg (d : Dev) (j : Nat) {o : Nat} (ho : Steadfast o) : (d.failJob j).reg o = d.reg o := by
  by_cases h : (d.job j).state = .free ∨ (d.job j).state = .failed
  · rw [Dev.failJob]
    simp only [h, if_true]
  · rw [Dev.reg_of_jobsAndRegs (d.failJob_jobsAndRegs j h) ho.drops]
    exact d.endPreempted_reg j ho

/-- A job that is not FREE has failed afterwards. -/
theorem Dev.failJob_self (d : Dev) (j : Nat) (h : (d.job j).state ≠ .free) : ((d.failJob j).job j).state = .failed := by
  by_cases hf : (d.job j).state = .failed
  · rw [Dev.failJob]
    simp only [hf, or_true, if_true]
  · rw [Dev.job_of_jobsAndRegs (d.failJob_jobsAndRegs j (by simp only [h, hf, or_self, not_false_eq_true])), Dev.markFailed_job, if_pos rfl]

/-- Another job stays in its state. -/
theorem Dev.failJob_ne (d : Dev) {i j : Nat} (h : i ≠ j) : ((d.failJob j).job i).state = (d.job i).state := by
  by_cases hf : (d.job j).state = .free ∨ (d.job j).state = .failed
  · rw [Dev.failJob]
    simp only [hf, if_true]
  · rw [Dev.job_of_jobsAndRegs (d.failJob_jobsAndRegs j hf), Dev.markFailed_job, if_neg h, d.endPreempted_job_ne h]

/-- A failed job stays FAILED. -/
theorem Dev.failJob_failed (d : Dev) {i : Nat} (j : Nat) (h : (d.job i).state = .failed) : ((d.failJob j).job i).state = .failed := by
  by_cases hij : i = j
  · subst hij
    exact d.failJob_self i (by rw [h]; decide)
  · rw [d.failJob_ne hij, h]

/-- Each listed job fails. -/
def Dev.failJobs (d : Dev) (l : List (Nat × Job)) : Dev := d.each l (fun d e => d.failJob e.1)

theorem Dev.failJobs_failed (l : List (Nat × Job)) (d : Dev) {i : Nat} (h : (d.job i).state = .failed) : ((d.failJobs l).job i).state = .failed := by
  induction l generalizing d with
  | nil => exact h
  | cons e l ih => exact ih (d.failJob e.1) (d.failJob_failed e.1 h)

theorem Dev.failJobs_mem (l : List (Nat × Job)) (d : Dev) {i : Nat} {x : Job} (hmem : (i, x) ∈ l) (h : (d.job i).state ≠ .free) :
    ((d.failJobs l).job i).state = .failed := by
  induction l generalizing d with
  | nil => cases hmem
  | cons e l ih =>
    change (((d.failJob e.1).failJobs l).job i).state = .failed
    by_cases hi : i = e.1
    · subst hi
      exact Dev.failJobs_failed l _ (d.failJob_self e.1 h)
    · have htail : (i, x) ∈ l := by
        rcases List.mem_cons.mp hmem with he | ht
        · exact absurd (congrArg Prod.fst he) hi
        · exact ht
      exact ih (d.failJob e.1) htail (by rwa [d.failJob_ne hi])

theorem Dev.failJobs_reg (d : Dev) (l : List (Nat × Job)) {o : Nat} (ho : Steadfast o) : (d.failJobs l).reg o = d.reg o :=
  Dev.each_keeps (fun d => d.reg o) l _ (fun d e => d.failJob_reg e.1 ho) d

/-! ### The containment, in its parts (R21) -/

/-- The alerts replaced. -/
def Dev.withAlerts (d : Dev) (a : Nat) : Dev := { d with alerts := a }

theorem Dev.withAlerts_jobsAndRegs (d : Dev) (a : Nat) : (d.withAlerts a).jobsAndRegs = d.jobsAndRegs := rfl

theorem Dev.withAlerts_reg (d : Dev) (a o : Nat) : (d.withAlerts a).reg o = d.reg o := rfl

/-- The registers and the alert that show a containment. -/
def Dev.showContained (d : Dev) (s cause : Nat) : Dev :=
  let m := (Block.mesh s).base + Off.MESH_STATUS
  let d := (d.setFld m Fl.MESH_STATUS_CONTAINED 1).setFld m Fl.MESH_STATUS_CAUSE cause
  (d.setFld ((Block.hbm s).base + Off.HBM_STATUS) Fl.HBM_STATUS_CONTAINED 1).withAlerts (d.alerts ||| 4)

theorem Dev.showContained_jobs (d : Dev) (s cause : Nat) : (d.showContained s cause).jobs = d.jobs := by
  rw [Dev.showContained, Dev.jobs_of_jobsAndRegs (Dev.withAlerts_jobsAndRegs _ _), Dev.setFld_jobs, Dev.setFld_jobs, Dev.setFld_jobs]

theorem Dev.showContained_plans (d : Dev) (s cause : Nat) : (d.showContained s cause).plans = d.plans := by
  rw [Dev.showContained, Dev.plans_of_jobsAndRegs (Dev.withAlerts_jobsAndRegs _ _), Dev.setFld_plans, Dev.setFld_plans, Dev.setFld_plans]

/-- The word of a register after the registers that show a containment are written. -/
theorem Dev.showContained_reg (d : Dev) (s cause o : Nat) : (d.showContained s cause).reg o =
    if o = (Block.hbm s).base + Off.HBM_STATUS then Fl.HBM_STATUS_CONTAINED.put (d.reg o) 1
    else if o = (Block.mesh s).base + Off.MESH_STATUS then Fl.MESH_STATUS_CAUSE.put (Fl.MESH_STATUS_CONTAINED.put (d.reg o) 1) cause
    else d.reg o := by
  have hne : (Block.hbm s).base + Off.HBM_STATUS ≠ (Block.mesh s).base + Off.MESH_STATUS := by
    simp only [Block.base, Off.HBM_STATUS, Off.MESH_STATUS]
    omega
  rw [Dev.showContained, Dev.withAlerts_reg]
  simp only [Dev.reg_setFld, if_neg hne, if_true]
  split
  · next h => rw [h]
  · split
    · next h => rw [h]
    · rfl

/-- Whether a side's containment fails a job. -/
def Dev.stops (d : Dev) (s : Nat) (x : Job) : Bool := (coresOf x.mask).any (fun k => sideOf k == s) || d.sharded x.plan

/-- One batcher gives up a batch that a containment ends. -/
def Dev.dropBatch (stops : Job → Bool) (s : Nat) (d : Dev) (b : Nat) : Dev :=
  match (d.bat b).inflight with
  | none => d
  | some x =>
    if b / 16 ≠ s ∧ (x.placed = true ∨ stops (d.job (d.fld (Block.sch.base + Off.BAT_CFG b) Fl.BAT_CFG_JOB)) = false) then d
    else
    let d := d.each x.rows (fun d r => d.setStream r.1 (d.stream r.1).failed)
    { d.setBat b { d.bat b with inflight := none } with scDone := d.scDone.filter (fun e => e.1 != b) }

/-- The reset or restore of a stream goes no further. -/
def Dev.dropReset (d : Dev) (i : Nat) : Dev :=
  let x := d.stream i
  d.setStream i (if x.release then x.freed else { x with resetting := none, restoring := none })

/-- Resets and restores of a contained side's streams go no further. -/
def Dev.dropResets (d : Dev) (s : Nat) : Dev :=
  d.each ((d.streams.filter (fun e => e.2.side == s && (e.2.resetting.isSome || e.2.restoring.isSome))).map (·.1)) Dev.dropReset

/-- The mirror engine relinquishes a contained side's home streams. -/
def Dev.relinquishSide (d : Dev) (s : Nat) : Dev :=
  let names := (d.streams.filter (fun e => e.2.side == s && e.2.state != 0 && e.2.mirror != 3)).map (·.1)
  if names.isEmpty ∨ d.mir.formed = false then d
  else { d with mir := { d.mir with out := d.mir.out ++ [.relinquish names] } }

/-- What follows the failure of the jobs: batches, resets and restores, cameras and transfers end, and the mirror engine relinquishes. -/
def Dev.containRest (d : Dev) (stops : Job → Bool) (s : Nat) : Dev :=
  let d := (d.each (List.range 32) (Dev.dropBatch stops s)).dropResets s
  ((d.camsStop (fun c => d.camOn c s)).endTransfers s).relinquishSide s

/-- A containment shows in its registers, fails the jobs, then ends the rest. -/
theorem Dev.contain_eq (d : Dev) (s cause : Nat) (h : d.contained s = false) : d.contain s cause =
    ((d.showContained s cause).failJobs ((d.showContained s cause).jobs.filter (fun e => (d.showContained s cause).stops s e.2))).containRest
      ((d.showContained s cause).stops s) s := by
  unfold Dev.contain
  rw [if_neg (by rw [h]; decide)]
  extract_lets m shown withHbm alerted stops
  have hshown : d.showContained s cause = alerted := rfl
  rw [hshown]
  clear_value alerted
  rfl

/-- An update of a member of the list that keeps a view keeps it over the list. -/
theorem Dev.each_keeps_of_mem {α β : Type} (p : Dev → β) (l : List α) (f : Dev → α → Dev) (h : ∀ d, ∀ x ∈ l, p (f d x) = p d) (d : Dev) :
    p (d.each l f) = p d := by
  induction l generalizing d with
  | nil => rfl
  | cons x l ih =>
    rw [Dev.each_cons, ih (fun d y hy => h d y (List.mem_cons_of_mem _ hy)), h d x List.mem_cons_self]

theorem Dev.dropBatch_jobsAndRegs (stops : Job → Bool) (s : Nat) (d : Dev) (b : Nat) : (Dev.dropBatch stops s d b).jobsAndRegs = d.jobsAndRegs := by
  unfold Dev.dropBatch
  split
  · rfl
  · next x _ =>
    split
    · rfl
    · exact Dev.each_keeps Dev.jobsAndRegs x.rows (fun d r => d.setStream r.1 (d.stream r.1).failed) (fun _ _ => rfl) d

theorem Dev.dropResets_jobsAndRegs (d : Dev) (s : Nat) : (d.dropResets s).jobsAndRegs = d.jobsAndRegs :=
  Dev.each_keeps Dev.jobsAndRegs _ Dev.dropReset (fun _ _ => rfl) d

theorem Dev.endTransfers_jobsAndRegs (d : Dev) (s : Nat) : (d.endTransfers s).jobsAndRegs = d.jobsAndRegs :=
  Dev.each_keeps Dev.jobsAndRegs _ _ (fun d _ => d.emit_jobsAndRegs _) d

theorem Dev.relinquishSide_jobsAndRegs (d : Dev) (s : Nat) : (d.relinquishSide s).jobsAndRegs = d.jobsAndRegs := by
  unfold Dev.relinquishSide
  simp only
  split <;> rfl

theorem Dev.camStop_jobs (d : Dev) (c : Nat) : (d.camStop c).jobs = d.jobs := by
  unfold Dev.camStop
  simp only [Dev.emit_jobs]
  rfl

theorem Dev.camStop_reg (d : Dev) {c : Nat} (hc : c < 64) {o : Nat} (ho : Steadfast o) : (d.camStop c).reg o = d.reg o := by
  unfold Dev.camStop
  simp only
  rw [Dev.reg_emit _ _ _ ho.drops, Dev.reg_setFld, if_neg (ho.cam c hc), Dev.reg_setFld, if_neg (ho.cfg c hc)]

theorem Dev.camsStop_reg (d : Dev) (p : Nat → Bool) {o : Nat} (ho : Steadfast o) : (d.camsStop p).reg o = d.reg o :=
  Dev.each_keeps_of_mem (fun d => d.reg o) _ _ (fun d _ hc => d.camStop_reg (List.mem_range.mp (List.mem_of_mem_filter hc)) ho) d

theorem Dev.containRest_jobs (d : Dev) (stops : Job → Bool) (s : Nat) : (d.containRest stops s).jobs = d.jobs := by
  unfold Dev.containRest
  simp only
  rw [Dev.jobs_of_jobsAndRegs (Dev.relinquishSide_jobsAndRegs _ s), Dev.jobs_of_jobsAndRegs (Dev.endTransfers_jobsAndRegs _ s),
    Dev.camsStop, Dev.each_keeps Dev.jobs _ _ Dev.camStop_jobs, Dev.jobs_of_jobsAndRegs (Dev.dropResets_jobsAndRegs _ s),
    Dev.jobs_of_jobsAndRegs (Dev.each_keeps Dev.jobsAndRegs _ _ (Dev.dropBatch_jobsAndRegs stops s) d)]

theorem Dev.containRest_reg (d : Dev) (stops : Job → Bool) (s : Nat) {o : Nat} (ho : Steadfast o) : (d.containRest stops s).reg o = d.reg o := by
  unfold Dev.containRest
  simp only
  rw [Dev.reg_of_jobsAndRegs (Dev.relinquishSide_jobsAndRegs _ s) ho.drops, Dev.reg_of_jobsAndRegs (Dev.endTransfers_jobsAndRegs _ s) ho.drops,
    Dev.camsStop_reg _ _ ho, Dev.reg_of_jobsAndRegs (Dev.dropResets_jobsAndRegs _ s) ho.drops,
    Dev.reg_of_jobsAndRegs (Dev.each_keeps Dev.jobsAndRegs _ _ (Dev.dropBatch_jobsAndRegs stops s) d) ho.drops]

/-! ### What a containment shows and fails -/

/-- A containment writes no steadfast register but the two that show it. -/
theorem Dev.contain_reg (d : Dev) (s cause : Nat) (h : d.contained s = false) {o : Nat} (ho : Steadfast o) :
    (d.contain s cause).reg o = (d.showContained s cause).reg o := by
  rw [d.contain_eq s cause h, Dev.containRest_reg _ _ _ ho, Dev.failJobs_reg _ _ ho]

theorem Dev.hbmStatus_ne_meshStatus (s t : Nat) : (Block.mesh t).base + Off.MESH_STATUS ≠ (Block.hbm s).base + Off.HBM_STATUS := by
  simp only [Block.base, Off.HBM_STATUS, Off.MESH_STATUS]
  omega

/-- The word of MESH_STATUS after a containment. -/
theorem Dev.contain_meshStatus (d : Dev) (s cause : Nat) (h : d.contained s = false) : (d.contain s cause).reg ((Block.mesh s).base + Off.MESH_STATUS) =
    Fl.MESH_STATUS_CAUSE.put (Fl.MESH_STATUS_CONTAINED.put (d.reg ((Block.mesh s).base + Off.MESH_STATUS)) 1) cause := by
  rw [d.contain_reg s cause h (steadfast_meshStatus s), d.showContained_reg, if_neg (Dev.hbmStatus_ne_meshStatus s s), if_pos rfl]

/-- What holds of a device `t` after a containment of side `s` with a cause: the side shows it, and the jobs of `d` with a core on the side, or of a SHARDED
plan, have failed. -/
structure ContainedFrom (d t : Dev) (s cause : Nat) : Prop where
  side : t.contained s = true
  cause : t.fld ((Block.mesh s).base + Off.MESH_STATUS) Fl.MESH_STATUS_CAUSE = cause
  hbm : t.fld ((Block.hbm s).base + Off.HBM_STATUS) Fl.HBM_STATUS_CONTAINED = 1
  jobs : ∀ j, ((coresOf (d.job j).mask).any (fun k => sideOf k == s) = true ∨ d.sharded (d.job j).plan = true) → (d.job j).state ≠ .free →
    (t.job j).state = .failed

/-- A job of a side that is contained fails. -/
theorem Dev.contain_job (d : Dev) (s cause : Nat) (h : d.contained s = false) (j : Nat)
    (hstop : (coresOf (d.job j).mask).any (fun k => sideOf k == s) = true ∨ d.sharded (d.job j).plan = true) (hj : (d.job j).state ≠ .free) :
    ((d.contain s cause).job j).state = .failed := by
  have hjobs : ∀ e : Dev, ∀ stops, ((e.containRest stops s).job j).state = (e.job j).state := fun e stops => by
    unfold Dev.job
    rw [Dev.containRest_jobs]
  have hjob : (d.showContained s cause).job j = d.job j := by rw [Dev.job, d.showContained_jobs, ← Dev.job]
  have hsharded (p : Nat) : (d.showContained s cause).sharded p = d.sharded p := by
    rw [Dev.sharded, Dev.plan, d.showContained_plans, ← Dev.plan, ← Dev.sharded]
  rw [d.contain_eq s cause h, hjobs]
  refine Dev.failJobs_mem _ _ (x := d.job j) (List.mem_filter.mpr ⟨?_, ?_⟩) (by rwa [hjob])
  · rw [d.showContained_jobs]
    exact d.job_mem j hj
  · rw [Dev.stops, hsharded]
    exact (Bool.or_eq_true _ _).mpr hstop

theorem Dev.contain_contains (d : Dev) (s cause : Nat) (h : d.contained s = false) (hcause : cause < 16) : ContainedFrom d (d.contain s cause) s cause where
  side := by
    rw [Dev.contained, Dev.fld, d.contain_meshStatus s cause h, Fld.get_put_apart _ _ (by decide) (by decide), Fld.get_put _ (by decide)]
    rfl
  cause := by
    rw [Dev.fld, d.contain_meshStatus s cause h, Fld.get_put _ (by decide)]
    exact Nat.mod_eq_of_lt hcause
  hbm := by
    rw [Dev.fld, d.contain_reg s cause h (steadfast_hbmStatus s), d.showContained_reg, if_pos rfl, Fld.get_put _ (by decide)]
    rfl
  jobs j hstop hj := d.contain_job s cause h j hstop hj

/-- The jobs of a device with the same jobs and plans. -/
theorem ContainedFrom.of_jobs {d e t : Dev} {s cause : Nat} (h : ContainedFrom e t s cause) (hjobs : e.jobs = d.jobs) (hplans : e.plans = d.plans) :
    ContainedFrom d t s cause where
  side := h.side
  cause := h.cause
  hbm := h.hbm
  jobs j hstop hj := by
    have hjob : e.job j = d.job j := by rw [Dev.job, hjobs, ← Dev.job]
    refine h.jobs j ?_ (by rwa [hjob])
    rwa [hjob, Dev.sharded, Dev.plan, hplans, ← Dev.plan, ← Dev.sharded]

/-- A containment with its record is one from a device with the same jobs, plans and registers. -/
theorem Dev.containNoted_eq (d : Dev) (s cause : Nat) (h : d.contained s = false) :
    ∃ e : Dev, d.containNoted s cause = e.contain s cause ∧ e.jobsAndRegs = d.jobsAndRegs := by
  unfold Dev.containNoted
  rw [if_neg (by rw [h]; decide)]
  simp only
  refine ⟨_, rfl, ?_⟩
  split <;> rw [Dev.emit_jobsAndRegs] <;> rfl

theorem Dev.contained_of_jobsAndRegs {d e : Dev} (h : e.jobsAndRegs = d.jobsAndRegs) (s : Nat) : e.contained s = d.contained s := by
  rw [Dev.contained, Dev.fld, Dev.reg_of_jobsAndRegs h (steadfast_meshStatus s).drops]
  rfl

theorem Dev.containNoted_contains (d : Dev) (s cause : Nat) (h : d.contained s = false) (hcause : cause < 16) :
    ContainedFrom d (d.containNoted s cause) s cause := by
  obtain ⟨e, he, hview⟩ := d.containNoted_eq s cause h
  rw [he]
  exact (e.contain_contains s cause (by rwa [Dev.contained_of_jobsAndRegs hview]) hcause).of_jobs (Dev.jobs_of_jobsAndRegs hview) (Dev.plans_of_jobsAndRegs hview)

/-- A steadfast register that does not show the containment is as it was. -/
theorem Dev.containNoted_reg (d : Dev) (s cause : Nat) (h : d.contained s = false) {o : Nat} (ho : Steadfast o) (hm : o ≠ (Block.mesh s).base + Off.MESH_STATUS)
    (hh : o ≠ (Block.hbm s).base + Off.HBM_STATUS) : (d.containNoted s cause).reg o = d.reg o := by
  obtain ⟨e, he, hview⟩ := d.containNoted_eq s cause h
  rw [he, e.contain_reg s cause (by rwa [Dev.contained_of_jobsAndRegs hview]) ho, e.showContained_reg, if_neg hh, if_neg hm, Dev.reg_of_jobsAndRegs hview ho.drops]

end Sys2Proof.Machine
end

section
/-! SUPPORT. The events of the HBM stacks and of the meshes (O21). -/

namespace Sys2Proof.Machine

/-! ### Counters -/

/-- A counter's step writes no other register than its own and TEL_SRC_DROPS. -/
theorem Dev.reg_bump (d : Dev) (o n : Nat) (e : Ev) {j : Nat} (ho : j ≠ o) (hd : j ≠ Block.tel.base + Off.TEL_SRC_DROPS) : (d.bump o n e).reg j = d.reg j := by
  unfold Dev.bump
  simp only
  split
  · exact Dev.reg_setReg_other _ _ _ _ ho
  · rw [Dev.reg_emit _ _ _ hd, Dev.reg_setReg_other _ _ _ _ ho]

/-- A device with the same jobs and plans that shows a side contained alike fails the same jobs. -/
theorem Dev.contain_contains_of (d e : Dev) (s cause : Nat) (h : d.contained s = false) (hcause : cause < 16) (hjobs : e.jobs = d.jobs) (hplans : e.plans = d.plans)
    (hreg : e.reg ((Block.mesh s).base + Off.MESH_STATUS) = d.reg ((Block.mesh s).base + Off.MESH_STATUS)) : ContainedFrom d (e.contain s cause) s cause :=
  (e.contain_contains s cause (by rw [← h, Dev.contained, Dev.fld, hreg]; rfl) hcause).of_jobs hjobs hplans

/-- The like of a containment with its record. -/
theorem Dev.containNoted_contains_of (d e : Dev) (s cause : Nat) (h : d.contained s = false) (hcause : cause < 16) (hjobs : e.jobs = d.jobs) (hplans : e.plans = d.plans)
    (hreg : e.reg ((Block.mesh s).base + Off.MESH_STATUS) = d.reg ((Block.mesh s).base + Off.MESH_STATUS)) : ContainedFrom d (e.containNoted s cause) s cause :=
  (e.containNoted_contains s cause (by rw [← h, Dev.contained, Dev.fld, hreg]; rfl) hcause).of_jobs hjobs hplans

theorem Dev.meshRecord_jobsAndRegs (d : Dev) (s r p : Nat) : (d.meshRecord s r p).jobsAndRegs = d.jobsAndRegs := by
  unfold Dev.meshRecord
  simp only [Dev.emit_jobsAndRegs]
  rfl

/-! ### The scrub (R238) -/

/-- The scrub of a unit without errors moves its position on. -/
theorem Dev.scrubUnit_clean (d : Dev) (s : Nat) (hue : d.hbmUe = []) (hce : d.hbmCe = [])
    (hpos : d.fld ((Block.hbm s).base + Off.HBM_SCRUB_POS) Fl.HBM_SCRUB_POS_UNIT + 1 < 2 ^ 26) :
    d.scrubUnit s = d.setReg ((Block.hbm s).base + Off.HBM_SCRUB_POS) (wd (d.fld ((Block.hbm s).base + Off.HBM_SCRUB_POS) Fl.HBM_SCRUB_POS_UNIT + 1)) := by
  have hclean (l : List Nat) (f g : Dev → Nat → Dev) : d.each l (fun d i => if d.hbmUe.contains i then f d i else if d.hbmCe.contains i then g d i else d) = d := by
    induction l with
    | nil => rfl
    | cons i l ih => simpa only [Dev.each_cons, hue, hce, List.contains_nil, Bool.false_eq_true, if_false] using ih
  unfold Dev.scrubUnit
  simp only
  rw [if_pos hpos, hclean]

/-! ### The refresh (R232, R243) -/

/-- What a refresh takes from its stack. -/
def Dev.refreshed (d : Dev) (s : Nat) (temp : BitVec 8) (od : Nat) : Dev :=
  let b := (Block.hbm s).base
  let t := b + Off.HBM_TEMP
  let peak := BitVec.ofNat 8 (d.fld t Fl.HBM_TEMP_PEAK)
  let d := d.setFld t Fl.HBM_TEMP_NOW temp.toNat
  let d := if peak.toInt < temp.toInt then d.setFld t Fl.HBM_TEMP_PEAK temp.toNat else d
  let hot := decide (85 < temp.toInt) && d.fld (b + Off.HBM_EXP) Fl.HBM_EXP_TCR_DIS == 0
  (d.setFld (b + Off.HBM_STATUS) Fl.HBM_STATUS_TCR_ACTIVE (b2n hot)).hbmCount s Off.HBM_ODECC od

theorem execRefresh_eq (side : Fin 2) (temp : BitVec 8) (od : Fin 256) (ue : Bool) (s : State) : execRefresh side temp od ue s =
    onDev (fun d => if ue then (d.refreshed side temp od).containNoted side 4 else d.refreshed side temp od) s := rfl

theorem exec_refresh (side : Fin 2) (temp : BitVec 8) (od : Fin 256) (s : State) :
    exec (.refresh side temp od false) s = .next { s with dev := s.dev.refreshed side temp od } := by
  change execRefresh side temp od false s = _
  simp only [execRefresh_eq, onDev_next, Bool.false_eq_true, if_false]

theorem exec_refresh_ue (side : Fin 2) (temp : BitVec 8) (od : Fin 256) (s : State) :
    exec (.refresh side temp od true) s = .next { s with dev := (s.dev.refreshed side temp od).containNoted side 4 } := by
  change execRefresh side temp od true s = _
  simp only [execRefresh_eq, onDev_next, if_true]

/-- The temperature a refresh leaves, before the interval and the counter. -/
def Dev.takeTemp (d : Dev) (s : Nat) (temp : BitVec 8) : Dev :=
  let t := (Block.hbm s).base + Off.HBM_TEMP
  let e := d.setFld t Fl.HBM_TEMP_NOW temp.toNat
  if (BitVec.ofNat 8 (d.fld t Fl.HBM_TEMP_PEAK)).toInt < temp.toInt then e.setFld t Fl.HBM_TEMP_PEAK temp.toNat else e

theorem Dev.refreshed_eq (d : Dev) (s : Nat) (temp : BitVec 8) (od : Nat) : d.refreshed s temp od =
    ((d.takeTemp s temp).setFld ((Block.hbm s).base + Off.HBM_STATUS) Fl.HBM_STATUS_TCR_ACTIVE
      (b2n (decide (85 < temp.toInt) && (d.takeTemp s temp).fld ((Block.hbm s).base + Off.HBM_EXP) Fl.HBM_EXP_TCR_DIS == 0))).hbmCount s Off.HBM_ODECC od := rfl

theorem Dev.takeTemp_reg (d : Dev) (s : Nat) (temp : BitVec 8) {o : Nat} (h : o ≠ (Block.hbm s).base + Off.HBM_TEMP) : (d.takeTemp s temp).reg o = d.reg o := by
  unfold Dev.takeTemp
  simp only
  split <;> simp only [Dev.reg_setFld, if_neg h]

theorem Dev.takeTemp_now (d : Dev) (s : Nat) (temp : BitVec 8) :
    (d.takeTemp s temp).fld ((Block.hbm s).base + Off.HBM_TEMP) Fl.HBM_TEMP_NOW = temp.toNat := by
  have hnow : (d.setFld ((Block.hbm s).base + Off.HBM_TEMP) Fl.HBM_TEMP_NOW temp.toNat).fld ((Block.hbm s).base + Off.HBM_TEMP) Fl.HBM_TEMP_NOW = temp.toNat :=
    (Dev.fld_setFld_same _ _ _ _ (by decide)).trans (Nat.mod_eq_of_lt temp.isLt)
  unfold Dev.takeTemp
  simp only
  split
  · rw [Dev.fld_setFld_apart _ _ _ _ _ (by decide) (by decide), hnow]
  · exact hnow

theorem Dev.takeTemp_peak (d : Dev) (s : Nat) (temp : BitVec 8) : (d.takeTemp s temp).fld ((Block.hbm s).base + Off.HBM_TEMP) Fl.HBM_TEMP_PEAK =
    if (BitVec.ofNat 8 (d.fld ((Block.hbm s).base + Off.HBM_TEMP) Fl.HBM_TEMP_PEAK)).slt temp then temp.toNat
    else d.fld ((Block.hbm s).base + Off.HBM_TEMP) Fl.HBM_TEMP_PEAK := by
  unfold Dev.takeTemp
  simp only [BitVec.slt_iff_toInt_lt]
  split
  · exact (Dev.fld_setFld_same _ _ _ _ (by decide)).trans (Nat.mod_eq_of_lt temp.isLt)
  · exact Dev.fld_setFld_apart _ _ _ _ _ (by decide) (by decide)

theorem Dev.takeTemp_jobs (d : Dev) (s : Nat) (temp : BitVec 8) : (d.takeTemp s temp).jobs = d.jobs := by
  unfold Dev.takeTemp
  simp only
  split
  · rw [Dev.setFld_jobs, Dev.setFld_jobs]
  · rw [Dev.setFld_jobs]

theorem Dev.takeTemp_plans (d : Dev) (s : Nat) (temp : BitVec 8) : (d.takeTemp s temp).plans = d.plans := by
  unfold Dev.takeTemp
  simp only
  split
  · rw [Dev.setFld_plans, Dev.setFld_plans]
  · rw [Dev.setFld_plans]

/-- A refresh writes HBM_TEMP, HBM_STATUS and HBM_ODECC of its side, and TEL_SRC_DROPS. -/
theorem Dev.refreshed_reg (d : Dev) (s : Nat) (temp : BitVec 8) (od : Nat) {o : Nat} (ht : o ≠ (Block.hbm s).base + Off.HBM_TEMP)
    (hs : o ≠ (Block.hbm s).base + Off.HBM_STATUS) (hc : o ≠ (Block.hbm s).base + Off.HBM_ODECC) (hd : o ≠ Block.tel.base + Off.TEL_SRC_DROPS) :
    (d.refreshed s temp od).reg o = d.reg o := by
  rw [Dev.refreshed_eq, Dev.hbmCount, Dev.reg_bump _ _ _ _ hc hd, Dev.reg_setFld, if_neg hs, d.takeTemp_reg s temp ht]

/-- A refresh with an error of the controller itself contains the side with cause 4. -/
theorem Dev.refreshed_containNoted (d : Dev) (s : Nat) (temp : BitVec 8) (od : Nat) (h : d.contained s = false) :
    ContainedFrom d ((d.refreshed s temp od).containNoted s 4) s 4 := by
  refine Dev.containNoted_contains_of d _ s 4 h (by decide) ?_ ?_ (d.refreshed_reg s temp od ?_ ?_ ?_ (steadfast_meshStatus s).drops)
  · rw [Dev.refreshed_eq, Dev.hbmCount, Dev.bump_jobs, Dev.setFld_jobs, Dev.takeTemp_jobs]
  · rw [Dev.refreshed_eq, Dev.hbmCount, Dev.bump_plans, Dev.setFld_plans, Dev.takeTemp_plans]
  all_goals
    simp only [Block.base, Off.HBM_TEMP, Off.HBM_STATUS, Off.HBM_ODECC, Off.MESH_STATUS]
    omega

/-- What a refresh shows, while its counter does not wrap. -/
theorem Dev.refreshed_shows (d : Dev) (s : Nat) (temp : BitVec 8) (od : Nat) (hod : (d.reg ((Block.hbm s).base + Off.HBM_ODECC)).toNat + od < 2 ^ 32) :
    (d.refreshed s temp od).fld ((Block.hbm s).base + Off.HBM_TEMP) Fl.HBM_TEMP_NOW = temp.toNat
      ∧ (d.refreshed s temp od).fld ((Block.hbm s).base + Off.HBM_TEMP) Fl.HBM_TEMP_PEAK
        = (if (BitVec.ofNat 8 (d.fld ((Block.hbm s).base + Off.HBM_TEMP) Fl.HBM_TEMP_PEAK)).slt temp then temp.toNat else d.fld ((Block.hbm s).base + Off.HBM_TEMP) Fl.HBM_TEMP_PEAK)
      ∧ (d.refreshed s temp od).fld ((Block.hbm s).base + Off.HBM_STATUS) Fl.HBM_STATUS_TCR_ACTIVE
        = (if 85 < temp.toInt ∧ d.fld ((Block.hbm s).base + Off.HBM_EXP) Fl.HBM_EXP_TCR_DIS = 0 then 1 else 0)
      ∧ ((d.refreshed s temp od).reg ((Block.hbm s).base + Off.HBM_ODECC)).toNat = (d.reg ((Block.hbm s).base + Off.HBM_ODECC)).toNat + od := by
  have apart : (Block.hbm s).base + Off.HBM_ODECC ≠ (Block.hbm s).base + Off.HBM_TEMP ∧ (Block.hbm s).base + Off.HBM_ODECC ≠ (Block.hbm s).base + Off.HBM_STATUS ∧ (Block.hbm s).base + Off.HBM_TEMP ≠ (Block.hbm s).base + Off.HBM_STATUS
      ∧ (Block.hbm s).base + Off.HBM_EXP ≠ (Block.hbm s).base + Off.HBM_TEMP := by
    simp only [Off.HBM_TEMP, Off.HBM_STATUS, Off.HBM_ODECC, Off.HBM_EXP]
    omega
  obtain ⟨hct, hcs, hts, het⟩ := apart
  have hexp : (d.takeTemp s temp).fld ((Block.hbm s).base + Off.HBM_EXP) Fl.HBM_EXP_TCR_DIS = d.fld ((Block.hbm s).base + Off.HBM_EXP) Fl.HBM_EXP_TCR_DIS := by
    rw [Dev.fld, d.takeTemp_reg s temp het]
    rfl
  have hcount : ((d.takeTemp s temp).setFld ((Block.hbm s).base + Off.HBM_STATUS) Fl.HBM_STATUS_TCR_ACTIVE
      (b2n (decide (85 < temp.toInt) && d.fld ((Block.hbm s).base + Off.HBM_EXP) Fl.HBM_EXP_TCR_DIS == 0))).reg ((Block.hbm s).base + Off.HBM_ODECC) = d.reg ((Block.hbm s).base + Off.HBM_ODECC) := by
    rw [Dev.reg_setFld, if_neg hcs, d.takeTemp_reg s temp hct]
  rw [Dev.refreshed_eq, hexp, Dev.hbmCount, Dev.bump_small _ _ _ _ (by rw [hcount]; exact hod), hcount]
  simp only [Dev.fld, Dev.reg_setReg, Dev.reg_setFld, if_neg hct.symm, if_neg hcs.symm, if_neg hts, if_true]
  refine ⟨d.takeTemp_now s temp, d.takeTemp_peak s temp, ?_, Nat.mod_eq_of_lt hod⟩
  rw [Fld.get_put _ (by decide)]
  by_cases hhot : 85 < temp.toInt <;>
    by_cases htcr : Fl.HBM_EXP_TCR_DIS.get (d.reg ((Block.hbm s).base + Off.HBM_EXP)) = 0 <;> simp [hhot, htcr, b2n, Fl.HBM_STATUS_TCR_ACTIVE]

end Sys2Proof.Machine
end

section
namespace Sys2Proof.Machine

theorem exec_patrolScrubUnit (side : Fin 2) (s : State)
    (h : s.dev.fld ((Block.hbm side).base + Off.HBM_SCRUB_CFG) Fl.HBM_SCRUB_CFG_EN = 1 ∧ s.dev.contained side = false) :
    exec (.patrolScrubUnit side) s = .next { s with dev := s.dev.scrubUnit side } := by
  change execPatrolScrubUnit side s = _
  simp only [execPatrolScrubUnit, onDev_next, if_pos h]

/-- A correctable flit error out of a port that its router has. -/
theorem exec_meshFlitError_ce (side : Fin 2) (r : Fin 16) (p : Fin 6) (s : State) (h : meshPort r.val p.val = true) :
    exec (.meshFlitError side r p false) s = .next { s with dev := s.dev.meshCount side Off.MESH_CE 1 } := by
  change execMeshFlitError side r p false s = _
  simp only [execMeshFlitError, onDev_next, h, Bool.true_eq_false, Bool.false_eq_true, if_false]

/-- An uncorrectable flit error out of a port that its router has. -/
theorem exec_meshFlitError_ue (side : Fin 2) (r : Fin 16) (p : Fin 6) (s : State) (h : meshPort r.val p.val = true) :
    exec (.meshFlitError side r p true) s = .next { s with dev := (s.dev.meshRecord side r p).contain side 2 } := by
  change execMeshFlitError side r p true s = _
  simp only [execMeshFlitError, onDev_next, h, Bool.true_eq_false, if_false, if_true]

/-- A flit error on the bridge, which the routers of row 3 send over. -/
theorem exec_bridgeFlitError (side : Fin 2) (r : Fin 16) (s : State) (h : ¬ r.val < 12) :
    exec (.bridgeFlitError side r false) s = .next { s with dev := s.dev.meshCount side Off.MESH_BR_REPLAY 1 } := by
  change execBridgeFlitError side r false s = _
  simp only [execBridgeFlitError, onDev_next, h, Bool.false_eq_true, if_false]

/-- A resent flit that fails too. -/
theorem exec_bridgeFlitError_again (side : Fin 2) (r : Fin 16) (s : State) (h : ¬ r.val < 12) : exec (.bridgeFlitError side r true) s =
    .next { s with dev := ((s.dev.meshCount side Off.MESH_BR_REPLAY 1).meshRecord side r 5).contain side 6 } := by
  change execBridgeFlitError side r true s = _
  simp only [execBridgeFlitError, onDev_next, h, if_false, if_true]

/-- The routers of the other rows send nothing over the bridge. -/
theorem exec_bridgeFlitError_row (side : Fin 2) (r : Fin 16) (again : Bool) (s : State) (h : r.val < 12) :
    exec (.bridgeFlitError side r again) s = .next s := by
  change execBridgeFlitError side r again s = _
  simp only [execBridgeFlitError, onDev_next, h, if_true]

/-- A replay counted and a record written leave the jobs, the plans and MESH_STATUS. -/
theorem Dev.replayed_contain (d : Dev) (s r : Nat) (h : d.contained s = false) :
    ContainedFrom d (((d.meshCount s Off.MESH_BR_REPLAY 1).meshRecord s r 5).contain s 6) s 6 := by
  have hview := (d.meshCount s Off.MESH_BR_REPLAY 1).meshRecord_jobsAndRegs s r 5
  have hne : (Block.mesh s).base + Off.MESH_STATUS ≠ (Block.mesh s).base + Off.MESH_BR_REPLAY := by
    simp only [Off.MESH_STATUS, Off.MESH_BR_REPLAY]
    omega
  refine Dev.contain_contains_of d _ s 6 h (by decide) ?_ ?_ ?_
  · rw [Dev.jobs_of_jobsAndRegs hview, Dev.meshCount, Dev.bump_jobs]
  · rw [Dev.plans_of_jobsAndRegs hview, Dev.meshCount, Dev.bump_plans]
  · rw [Dev.reg_of_jobsAndRegs hview (steadfast_meshStatus s).drops, Dev.meshCount, Dev.reg_bump _ _ _ _ hne (steadfast_meshStatus s).drops]

/-- An uncorrectable flit error's record and containment. -/
theorem Dev.meshRecord_contain (d : Dev) (s r p : Nat) (h : d.contained s = false) : ContainedFrom d ((d.meshRecord s r p).contain s 2) s 2 := by
  have hview := d.meshRecord_jobsAndRegs s r p
  exact Dev.contain_contains_of d _ s 2 h (by decide) (Dev.jobs_of_jobsAndRegs hview) (Dev.plans_of_jobsAndRegs hview)
    (Dev.reg_of_jobsAndRegs hview (steadfast_meshStatus s).drops)

theorem ContainedFrom.conj {d t : Dev} {s cause : Nat} (h : ContainedFrom d t s cause) : t.contained s = true
    ∧ t.fld ((Block.mesh s).base + Off.MESH_STATUS) Fl.MESH_STATUS_CAUSE = cause ∧ t.fld ((Block.hbm s).base + Off.HBM_STATUS) Fl.HBM_STATUS_CONTAINED = 1
    ∧ ∀ j, ((coresOf (d.job j).mask).any (fun k => sideOf k == s) = true ∨ d.sharded (d.job j).plan = true) → (d.job j).state ≠ .free →
      (t.job j).state = .failed := ⟨h.side, h.cause, h.hbm, h.jobs⟩

end Sys2Proof.Machine

namespace Sys2Proof.Claims
open Sys2Proof Sys2Proof.Machine

/-- Settles O21: each command's equation, and the containment of a side for its five causes. -/
theorem memoryAndMesh : Obligations.MemoryAndMesh := by
  unfold Obligations.MemoryAndMesh
  intro s side
  refine ⟨fun _ => rfl, ?scrub, ?refresh, ?refreshUe, ?rfm, rfl, ?alarm, ?mesh, ?bridge⟩
  case scrub =>
    intro hen hc hue hce hpos
    exact (exec_patrolScrubUnit side s ⟨hen, hc⟩).trans (by rw [s.dev.scrubUnit_clean side hue hce hpos])
  case refresh => exact fun temp od hod => ⟨_, exec_refresh side temp od s, s.dev.refreshed_shows side temp od hod⟩
  case refreshUe => exact fun temp od hc => ⟨_, exec_refresh_ue side temp od s, (s.dev.refreshed_containNoted side temp od hc).conj⟩
  case rfm =>
    intro hsmall
    change exec (.rfm side) s = .next { s with dev := s.dev.setReg _ _ }
    rw [← Dev.bump_small _ _ _ _ hsmall]
    rfl
  case alarm => exact fun hc => ⟨_, rfl, (s.dev.containNoted_contains side 7 hc (by decide)).conj⟩
  case mesh =>
    intro r p
    split
    · next hport =>
      refine ⟨fun hsmall => ?_, fun hc => ⟨_, exec_meshFlitError_ue side r p s hport, (s.dev.meshRecord_contain side r p hc).conj⟩⟩
      refine (exec_meshFlitError_ce side r p s hport).trans ?_
      rw [Dev.meshCount, Dev.bump_small _ _ _ _ hsmall]
      rfl
    · next hport =>
      intro ue
      have hnone : meshPort r.val p.val = false := by simpa using hport
      change execMeshFlitError side r p ue s = _
      simp only [execMeshFlitError, onDev_next, hnone, if_true]
  case bridge =>
    intro r
    split
    · next hrow =>
      have hnot : ¬ r.val < 12 := by omega
      refine ⟨fun hsmall => ?_, fun hc => ⟨_, exec_bridgeFlitError_again side r s hnot, (s.dev.replayed_contain side r hc).conj⟩⟩
      refine (exec_bridgeFlitError side r s hnot).trans ?_
      rw [Dev.meshCount, Dev.bump_small _ _ _ _ hsmall]
      rfl
    · next hrow => exact fun again => exec_bridgeFlitError_row side r again s (by omega)

end Sys2Proof.Claims
end

section
/-! SUPPORT. The epochs of a mode change: a unit's switch and acknowledgement, the rollback and its end (O27). -/

namespace Sys2Proof.Machine

/-! ### The steps, each under its conditions -/

/-- A unit's place in the change that is staged. -/
def Dev.withEpoch (d : Dev) (e : Option Epoch) : Dev := { d with epoch := e }

theorem Dev.withEpoch_epoch (d : Dev) (e : Option Epoch) : (d.withEpoch e).epoch = e := rfl

theorem Dev.withEpoch_fld (d : Dev) (e : Option Epoch) (o : Nat) (f : Fld) : (d.withEpoch e).fld o f = d.fld o f := rfl

/-- A side controller's unit takes a staged pin rate at its boundary. -/
theorem Dev.switchUnit_quiet (d : Dev) (e : Epoch) (u : Nat) (hkind : e.kind = 2) (hu : u < 2) (hp : e.pending.contains u = true)
    (hst : d.fld epo Fl.EP_STATUS_STATE = 1) : d.switchUnit e u =
      ((d.setFld ((Block.sc (unitSide u)).base + Off.SC_STATUS) Fl.SC_STATUS_QUIET (if u = 0 then e.new.1 else e.new.2)).setReg (Block.gctl.base + Off.EP_UNIT u)
        (wd (d.fld epo Fl.EP_STATUS_EPOCH))).withEpoch (some { e with pending := e.pending.filter (· != u), acked := e.acked ++ [u] }) := by
  have hside : unitSide u = u := Nat.mod_eq_of_lt hu
  unfold Dev.switchUnit Dev.applySetting
  simp only [hp, hst, hkind, hu, hside, Bool.true_eq_false, Nat.reduceEqDiff, or_self, if_false, if_true, Dev.setUnit, Nat.zero_mul, Nat.add_zero]
  rfl

/-- A unit's switch at its boundary. -/
theorem exec_unitBoundarySwitch (u : Fin 6) (s : State) (e : Epoch) (he : s.dev.epoch = some e) (hb : s.dev.atBoundary e u = true) :
    exec (.unitBoundarySwitch u) s = .next { s with dev := s.dev.switchUnit e u } := by
  change execUnitBoundarySwitch u s = _
  simp only [execUnitBoundarySwitch, onDev_next, he, hb, if_true]

/-- A unit without a staged switch stays. -/
theorem exec_unitBoundarySwitch_none (u : Fin 6) (s : State) (e : Epoch) (he : s.dev.epoch = some e) (hp : e.pending.contains u.val = false) :
    exec (.unitBoundarySwitch u) s = .next s := by
  have hswitch : s.dev.switchUnit e u = s.dev := by
    unfold Dev.switchUnit
    simp only [hp, true_or, if_true]
  change execUnitBoundarySwitch u s = _
  simp only [execUnitBoundarySwitch, onDev_next, he, hswitch, ite_self]

/-- ACKED with a unit's bit set. -/
def Dev.ackBit (d : Dev) (u : Nat) : Dev := d.setFld epo Fl.EP_STATUS_ACKED (d.fld epo Fl.EP_STATUS_ACKED ||| 2 ^ u)

theorem Dev.ackBit_acked (d : Dev) (u : Nat) (hu : u < 6) :
    (d.ackBit u).fld epo Fl.EP_STATUS_ACKED = d.fld epo Fl.EP_STATUS_ACKED ||| 2 ^ u := by
  refine (Dev.fld_setFld_same _ _ _ _ (by decide)).trans (Nat.mod_eq_of_lt (Nat.or_lt_two_pow ?_ (Nat.pow_lt_pow_right (by decide) hu)))
  exact Nat.mod_lt _ (Nat.two_pow_pos _)

theorem Dev.ackBit_fld (d : Dev) (u : Nat) (f : Fld) (h : Fl.EP_STATUS_ACKED.apart f = true) : (d.ackBit u).fld epo f = d.fld epo f :=
  Dev.fld_setFld_apart _ _ _ _ _ (by decide) h

/-- A staged change is complete. -/
def Dev.completeEpoch (d : Dev) : Dev :=
  let d := d.withEpoch none
  (d.setFld epo Fl.EP_STATUS_STATE 0).epochRecord 0x14 (d.fld epo Fl.EP_STATUS_EPOCH) 0

/-- What the Hinge does with a unit's acknowledgement, its bit set. -/
def Dev.takeAck (d : Dev) (e : Epoch) : Dev :=
  if e.pending = [] ∧ e.acked = [] then
    if (d.withEpoch none).fld epo Fl.EP_STATUS_STATE = 2 then (d.withEpoch none).setFld epo Fl.EP_STATUS_STATE 3 else d.completeEpoch
  else d.withEpoch (some e)

/-- An acknowledgement that counts. -/
theorem exec_epochAck (u : Fin 6) (s : State) (e : Epoch) (he : s.dev.epoch = some e)
    (h : ¬(e.acked.contains u.val = false ∨ s.dev.fld epo Fl.EP_STATUS_STATE = 4 ∨ s.dev.unitBypassed u = true)) : exec (.epochAck u) s =
      .next { s with dev := (s.dev.ackBit u).takeAck { e with acked := e.acked.filter (· != u.val), arrived := e.arrived ++ [u.val] } } := by
  change execEpochAck u s = _
  unfold execEpochAck
  rw [onDev_next]
  simp -zeta only [he]
  rw [if_neg h]
  rfl

/-- The last acknowledgement of a staged change. -/
theorem exec_epochAck_last (u : Fin 6) (s : State) (e : Epoch) (he : s.dev.epoch = some e) (hacked : e.acked = [u.val]) (hp : e.pending = [])
    (hst : s.dev.fld epo Fl.EP_STATUS_STATE = 1) (hb : s.dev.unitBypassed u = false) :
    exec (.epochAck u) s = .next { s with dev := (s.dev.ackBit u).completeEpoch } := by
  have hack : e.acked.contains u.val = true := by rw [hacked]; simp
  have hnone : e.acked.filter (· != u.val) = [] := by rw [hacked]; simp
  have hstate : ((s.dev.ackBit u).withEpoch none).fld epo Fl.EP_STATUS_STATE ≠ 2 := by
    rw [Dev.withEpoch_fld, Dev.ackBit_fld _ _ _ (by decide), hst]
    decide
  rw [exec_epochAck u s e he (by rw [hack, hst, hb]; decide), Dev.takeAck, if_pos ⟨hp, hnone⟩, if_neg hstate]

/-- An acknowledgement does not count once the rollback is stuck, nor arrives from a bypassed station. -/
theorem exec_epochAck_none (u : Fin 6) (s : State) (e : Epoch) (he : s.dev.epoch = some e)
    (h : s.dev.fld epo Fl.EP_STATUS_STATE = 4 ∨ s.dev.unitBypassed u = true) : exec (.epochAck u) s = .next s := by
  change execEpochAck u s = _
  simp only [execEpochAck, onDev_next, he, h, or_true, if_true]

/-- The registers of the epochs are not TEL_SRC_DROPS, so a record leaves them. -/
theorem Dev.fld_epochRecord (d : Dev) (code n det : Nat) (f : Fld) : (d.epochRecord code n det).fld epo f = d.fld epo f := by
  rw [Dev.fld, Dev.epochRecord, Dev.reg_emit _ _ _ steadfast_epo.drops]
  rfl

/-- The registers after the last acknowledgement. -/
theorem Dev.completeEpoch_shows (d : Dev) : d.completeEpoch.epoch = none ∧ d.completeEpoch.fld epo Fl.EP_STATUS_STATE = 0
    ∧ d.completeEpoch.fld epo Fl.EP_STATUS_EPOCH = d.fld epo Fl.EP_STATUS_EPOCH ∧ d.completeEpoch.fld epo Fl.EP_STATUS_ACKED = d.fld epo Fl.EP_STATUS_ACKED := by
  unfold Dev.completeEpoch
  simp only [Dev.fld_epochRecord]
  refine ⟨?_, Dev.fld_setFld_same _ _ _ _ (by decide), ?_, ?_⟩
  · rw [Dev.epochRecord, Dev.emit_epoch, Dev.setFld_epoch, Dev.withEpoch_epoch]
  · rw [Dev.fld_setFld_apart _ _ _ _ _ (by decide) (by decide), Dev.withEpoch_fld]
  · rw [Dev.fld_setFld_apart _ _ _ _ _ (by decide) (by decide), Dev.withEpoch_fld]

/-- A late unit's rollback is begun: the record, the unit's number, the next epoch number and the state. -/
def Dev.rollBack (d : Dev) (e : Epoch) (u : Nat) : Dev :=
  let n := d.fld epo Fl.EP_STATUS_EPOCH
  let d := (d.epochRecord 0x15 n (u + e.kind * 16)).setFld epo Fl.EP_STATUS_LATE u
  ((d.setFld epo Fl.EP_STATUS_EPOCH ((n + 1) % 2 ^ 16)).setFld epo Fl.EP_STATUS_STATE 2).setFld epo Fl.EP_STATUS_ACKED 0

/-- The units that wait are cancelled, and the sides of a weight copy without a unit return. -/
def Dev.cancelUnits (d : Dev) (e : Epoch) (m : Nat) : Dev :=
  let d := d.each e.pending (fun d v => d.setUnit v m 0)
  if e.kind = 3 then d.each ([0, 1].filter (fun s => !(e.pending ++ e.acked ++ e.arrived).contains s)) (fun d s => d.setCopy e.plan s (if s = 0 then e.old.1 else e.old.2))
  else d

/-- A rollback whose units `again` return, of which none is over at once. -/
def Dev.returnUnits (d : Dev) (e : Epoch) (n : Nat) : Dev :=
  let again := e.arrived ++ e.acked
  let d := d.each again (fun d v => d.setUnit v n 1)
  if again.isEmpty then (d.setFld epo Fl.EP_STATUS_STATE 3).withEpoch none
  else d.withEpoch (some { e with pending := again, acked := [], arrived := [], since := d.tick })

/-- The rollback of a change for a late unit. -/
def Dev.timeOut (d : Dev) (e : Epoch) (u : Nat) : Dev :=
  let n := d.fld epo Fl.EP_STATUS_EPOCH
  ((d.rollBack e u).cancelUnits e ((n + 1) % 2 ^ 16)).returnUnits e n

/-- A late unit rolls the change back. -/
theorem exec_epochTimeout (u : Fin 6) (s : State) (e : Epoch) (he : s.dev.epoch = some e)
    (h : ¬(s.dev.fld epo Fl.EP_STATUS_STATE ≠ 1 ∨ (e.pending.contains u.val || e.acked.contains u.val) = false ∨ s.dev.tick - e.since < 25000)) :
    exec (.epochTimeout u) s = .next { s with dev := s.dev.timeOut e u } := by
  change execEpochTimeout u s = _
  unfold execEpochTimeout
  rw [onDev_next]
  simp -zeta only [he]
  rw [if_neg h]
  rfl

theorem epUnit_ne_epo (v : Nat) : epo ≠ Block.gctl.base + Off.EP_UNIT v := by
  simp only [epo, Block.base, Off.EP_UNIT, Off.EP_STATUS]
  omega

theorem Dev.cancelUnits_reg (d : Dev) (e : Epoch) (m : Nat) : (d.cancelUnits e m).reg epo = d.reg epo := by
  have hunits : (d.each e.pending (fun d v => d.setUnit v m 0)).reg epo = d.reg epo :=
    Dev.each_keeps (fun d => d.reg epo) _ _ (fun d v => Dev.reg_setReg_other _ _ _ _ (epUnit_ne_epo v)) d
  unfold Dev.cancelUnits
  simp only
  split
  · rw [Dev.each_keeps (fun d => d.reg epo) _ _ ?_, hunits]
    intro d i
    unfold Dev.setCopy
    split <;> rfl
  · exact hunits

theorem Dev.rollBack_shows (d : Dev) (e : Epoch) (u : Nat) (hu : u < 16) :
    (d.rollBack e u).fld epo Fl.EP_STATUS_EPOCH = (d.fld epo Fl.EP_STATUS_EPOCH + 1) % 2 ^ 16 ∧ (d.rollBack e u).fld epo Fl.EP_STATUS_LATE = u := by
  unfold Dev.rollBack
  simp only
  constructor
  · rw [Dev.fld_setFld_apart _ _ _ _ _ (by decide) (by decide), Dev.fld_setFld_apart _ _ _ _ _ (by decide) (by decide), Dev.fld_setFld_same _ _ _ _ (by decide)]
    exact Nat.mod_mod _ (2 ^ 16)
  · rw [Dev.fld_setFld_apart _ _ _ _ _ (by decide) (by decide), Dev.fld_setFld_apart _ _ _ _ _ (by decide) (by decide),
      Dev.fld_setFld_apart _ _ _ _ _ (by decide) (by decide), Dev.fld_setFld_same _ _ _ _ (by decide)]
    exact Nat.mod_eq_of_lt hu

/-- A rollback with no unit that has switched is over at once. -/
theorem Dev.timeOut_alone (d : Dev) (e : Epoch) (u : Nat) (hu : u < 16) (harr : e.arrived = []) (hack : e.acked = []) :
    (d.timeOut e u).epoch = none ∧ (d.timeOut e u).fld epo Fl.EP_STATUS_STATE = 3
      ∧ (d.timeOut e u).fld epo Fl.EP_STATUS_EPOCH = (d.fld epo Fl.EP_STATUS_EPOCH + 1) % 2 ^ 16 ∧ (d.timeOut e u).fld epo Fl.EP_STATUS_LATE = u := by
  obtain ⟨hepoch, hlate⟩ := d.rollBack_shows e u hu
  have hkeep (m : Nat) (f : Fld) : ((d.rollBack e u).cancelUnits e m).fld epo f = (d.rollBack e u).fld epo f := by
    rw [Dev.fld, Dev.cancelUnits_reg]
    rfl
  unfold Dev.timeOut Dev.returnUnits
  simp only [harr, hack, List.append_nil, Dev.each_nil, List.isEmpty_nil, if_true]
  rw [Dev.withEpoch_epoch, Dev.withEpoch_fld, Dev.withEpoch_fld, Dev.withEpoch_fld]
  refine ⟨rfl, Dev.fld_setFld_same _ _ _ _ (by decide), ?_, ?_⟩
  · rw [Dev.fld_setFld_apart _ _ _ _ _ (by decide) (by decide), hkeep, hepoch]
  · rw [Dev.fld_setFld_apart _ _ _ _ _ (by decide) (by decide), hkeep, hlate]

/-- A rollback is stuck: its record, the late unit and the state. -/
def Dev.stick (d : Dev) (e : Epoch) (u : Nat) : Dev :=
  ((d.epochRecord 0x16 (d.fld epo Fl.EP_STATUS_EPOCH) (u + e.kind * 16)).setFld epo Fl.EP_STATUS_LATE u).setFld epo Fl.EP_STATUS_STATE 4

/-- A unit's acknowledgement of a rollback that does not come. -/
theorem exec_epochStuck (u : Fin 6) (s : State) (e : Epoch) (he : s.dev.epoch = some e)
    (h : ¬(s.dev.fld epo Fl.EP_STATUS_STATE ≠ 2 ∨ (e.pending.contains u.val || e.acked.contains u.val) = false ∨ s.dev.tick - e.since < 25000)) :
    exec (.epochStuck u) s = .next { s with dev := (s.dev.stick e u).containNoted (unitSide u) 9 } := by
  change execEpochStuck u s = _
  unfold execEpochStuck
  rw [onDev_next]
  simp -zeta only [he]
  rw [if_neg h]
  rfl

/-- A stuck rollback writes no register but its own and TEL_SRC_DROPS. -/
theorem Dev.stick_reg (d : Dev) (e : Epoch) (u : Nat) {o : Nat} (h : o ≠ epo) (hd : o ≠ Block.tel.base + Off.TEL_SRC_DROPS) : (d.stick e u).reg o = d.reg o := by
  rw [Dev.stick, Dev.reg_setFld, if_neg h, Dev.reg_setFld, if_neg h, Dev.epochRecord, Dev.reg_emit _ _ _ hd]

theorem Dev.stick_shows (d : Dev) (e : Epoch) (u : Nat) (hu : u < 16) :
    (d.stick e u).fld epo Fl.EP_STATUS_STATE = 4 ∧ (d.stick e u).fld epo Fl.EP_STATUS_LATE = u := by
  unfold Dev.stick
  refine ⟨Dev.fld_setFld_same _ _ _ _ (by decide), ?_⟩
  rw [Dev.fld_setFld_apart _ _ _ _ _ (by decide) (by decide), Dev.fld_setFld_same _ _ _ _ (by decide)]
  exact Nat.mod_eq_of_lt hu

/-- The late unit's side is contained with cause 9, and the epoch's registers stay. -/
theorem Dev.stick_contained (d : Dev) (e : Epoch) (u : Nat) (hu : u < 16) (side : Nat) (hc : d.contained side = false) :
    let t := (d.stick e u).containNoted side 9
    t.fld epo Fl.EP_STATUS_STATE = 4 ∧ t.fld epo Fl.EP_STATUS_LATE = u ∧ t.contained side = true
      ∧ t.fld ((Block.mesh side).base + Off.MESH_STATUS) Fl.MESH_STATUS_CAUSE = 9 := by
  have hm : (Block.mesh side).base + Off.MESH_STATUS ≠ epo := by
    simp only [epo, Block.base, Off.MESH_STATUS, Off.EP_STATUS]
    omega
  have hh : (Block.hbm side).base + Off.HBM_STATUS ≠ epo := by
    simp only [epo, Block.base, Off.HBM_STATUS, Off.EP_STATUS]
    omega
  have hnot : (d.stick e u).contained side = false := by
    rw [← hc, Dev.contained, Dev.fld, d.stick_reg e u hm (steadfast_meshStatus side).drops]
    rfl
  have hepo (f : Fld) : ((d.stick e u).containNoted side 9).fld epo f = (d.stick e u).fld epo f := by
    rw [Dev.fld, Dev.containNoted_reg _ side 9 hnot steadfast_epo hm.symm hh.symm]
    rfl
  obtain ⟨hstate, hlate⟩ := d.stick_shows e u hu
  have hcont := (d.stick e u).containNoted_contains side 9 hnot (by decide)
  exact ⟨(hepo _).trans hstate, (hepo _).trans hlate, hcont.side, hcont.cause⟩

/-- Before 25,000 ticks no unit is late. -/
theorem exec_epochTimeout_early (u : Fin 6) (s : State) (e : Epoch) (he : s.dev.epoch = some e) (ht : s.dev.tick - e.since < 25000) :
    exec (.epochTimeout u) s = .next s := by
  change execEpochTimeout u s = _
  simp only [execEpochTimeout, onDev_next, he, ht, or_true, if_true]

theorem exec_epochStuck_early (u : Fin 6) (s : State) (e : Epoch) (he : s.dev.epoch = some e) (ht : s.dev.tick - e.since < 25000) :
    exec (.epochStuck u) s = .next s := by
  change execEpochStuck u s = _
  simp only [execEpochStuck, onDev_next, he, ht, or_true, if_true]

end Sys2Proof.Machine
end

section
namespace Sys2Proof.Claims
open Sys2Proof Sys2Proof.Machine

/-- Settles O27: an equation of each event under its conditions, and the containment of the late unit's side. -/
theorem epochEvents : Obligations.EpochEvents := by
  unfold Obligations.EpochEvents
  intro s u e he
  refine ⟨?switch, exec_unitBoundarySwitch_none u s e he, ?ack, exec_epochAck_none u s e he, ?timeout,
    fun ht => ⟨exec_epochTimeout_early u s e he ht, exec_epochStuck_early u s e he ht⟩, ?stuck⟩
  case switch =>
    intro hkind hu hruns hp hst
    have hboundary : s.dev.atBoundary e u = true := by
      have hside : unitSide u.val = u.val := Nat.mod_eq_of_lt hu
      unfold Dev.atBoundary
      simp only [hkind, hu, hside, hruns, Nat.reduceEqDiff, if_false, if_true]
    refine (exec_unitBoundarySwitch u s e he hboundary).trans ?_
    rw [s.dev.switchUnit_quiet e u hkind hu hp hst]
    rfl
  case ack =>
    intro hacked hp hst hb
    refine ⟨_, exec_epochAck_last u s e he hacked hp hst hb, ?_⟩
    obtain ⟨hepoch, hstate, hnum, hbits⟩ := (s.dev.ackBit u).completeEpoch_shows
    exact ⟨hepoch, hstate, hnum.trans (s.dev.ackBit_fld u _ (by decide)), hbits.trans (s.dev.ackBit_acked u u.isLt)⟩
  case timeout =>
    intro hst hp ht harr hack
    exact ⟨_, exec_epochTimeout u s e he (by simp only [hst, hp, Bool.true_or, ne_eq, not_true_eq_false, Bool.true_eq_false, false_or, Nat.not_lt, ht]), s.dev.timeOut_alone e u (by omega) harr hack⟩
  case stuck =>
    intro hst hp ht hc
    exact ⟨_, exec_epochStuck u s e he (by simp only [hst, hp, Bool.true_or, ne_eq, not_true_eq_false, Bool.true_eq_false, false_or, Nat.not_lt, ht]), s.dev.stick_contained e u (by omega) _ hc⟩

end Sys2Proof.Claims
end

section
/-! SUPPORT. What reaches the Bolt by its pins, its links and time, and its power (O53). -/

namespace Sys2Proof.Machine

/-! ### What the Bolt's commands leave of the device -/

theorem BoltReach.hbm {d d' : Dev} (h : BoltReach d d') : d'.hbm = d.hbm := by
  have hrest := congrArg (fun e : Dev => e.hbm) h.rest
  exact hrest

theorem BoltReach.jobs {d d' : Dev} (h : BoltReach d d') : d'.jobs = d.jobs := by
  have hrest := congrArg (fun e : Dev => e.jobs) h.rest
  exact hrest

theorem showBolt_weighQ (d : Dev) (b : Bolt) : (showBolt (d, b)).1.weighQ = d.weighQ :=
  (Dev.each_keeps Dev.weighQ [0, 1] (fun d c => d.setFld (boltb + Off.MB_STATUS c) Fl.MB_STATUS_SEAL (b2n (b.power && b.sealOpen))) (fun _ _ => rfl) _).trans rfl

/-- A field of a mailbox status other than SEAL stays when the Bolt shows itself. -/
theorem showBolt_fld (d : Dev) (b : Bolt) (o : Nat) (f : Fld) (ho : o ≠ boltb + Off.MB_EVENT) (hf : Fl.MB_STATUS_SEAL.apart f = true) :
    (showBolt (d, b)).1.fld o f = d.fld o f := by
  have hevent : (d.setReg (boltb + Off.MB_EVENT) b.eventWord).fld o f = d.fld o f := by
    rw [Dev.fld, Dev.reg_setReg_other _ _ _ _ ho]
    rfl
  refine (Dev.each_keeps (fun d => d.fld o f) _ _ (fun d c => ?_) _).trans hevent
  by_cases hc : o = boltb + Off.MB_STATUS c
  · subst hc
    exact Dev.fld_setFld_apart _ _ _ _ _ (by decide) hf
  · exact Dev.fld_setFld_ne _ _ _ _ _ _ hc

/-- A Bolt command that ends by showing the Bolt. -/
theorem onBolt_show {f : Dev × Bolt → Dev × Bolt} {s : State} {d : Dev} {b : Bolt} (h : f (s.dev, s.bolt) = showBolt (d, b)) :
    onBolt f s = .next { s with dev := (showBolt (d, b)).1, bolt := b } := by
  rw [onBolt_next, h]
  rfl

/-- A Bolt command that gives a device and a Bolt. -/
theorem onBolt_pair {f : Dev × Bolt → Dev × Bolt} {s : State} {d : Dev} {b : Bolt} (h : f (s.dev, s.bolt) = (d, b)) :
    onBolt f s = .next { s with dev := d, bolt := b } := by
  rw [onBolt_next, h]

/-- A Bolt command that changes nothing. -/
theorem onBolt_same {f : Dev × Bolt → Dev × Bolt} {s : State} (h : f (s.dev, s.bolt) = (s.dev, s.bolt)) : onBolt f s = .next s := onBolt_pair h

/-! ### Scales and events -/

theorem Bolt.scale_setScale (b : Bolt) (n : Nat) (x : Scale) (j : Nat) : (b.setScale n x).scale j = if j = n then x else b.scale j := Tab.get_set _ _ _ _ _

theorem Bolt.event_room (b : Bolt) (code n : Nat) (h : b.events.length < 32) : b.event code n = { b with events := b.events ++ [(code, n)] } := if_pos h

theorem Bolt.event_events (b : Bolt) (code n : Nat) (h : b.events.length < 32) : (b.event code n).events = b.events ++ [(code, n)] := by
  rw [b.event_room code n h]

theorem Bolt.setScale_events (b : Bolt) (n : Nat) (x : Scale) : (b.setScale n x).events = b.events := rfl

theorem Bolt.event_scale (b : Bolt) (code n j : Nat) : (b.event code n).scale j = b.scale j := by
  unfold Bolt.event
  split <;> rfl

/-- A scale that is ONLINE stays as it is. -/
theorem Bolt.online_same (b : Bolt) (n : Nat) (h : (b.scale n).online = true) : b.online n = b := by
  unfold Bolt.online
  simp only
  rw [if_pos h]

/-- Another comes ONLINE with its event. -/
theorem Bolt.online_comes (b : Bolt) (n : Nat) (h : (b.scale n).online = false) :
    b.online n = (b.setScale n { b.scale n with online := true }).event 0x06 n := by
  unfold Bolt.online
  simp only
  rw [if_neg (by rw [h]; decide)]

/-- A scale that gives samples, after it. -/
theorem Bolt.online_scale (b : Bolt) (n j : Nat) : (b.online n).scale j = if j = n then { b.scale n with online := true } else b.scale j := by
  cases h : (b.scale n).online with
  | true =>
    rw [b.online_same n h]
    split
    · next hj =>
      subst hj
      rw [← h]
    · rfl
  | false => rw [b.online_comes n h, Bolt.event_scale, Bolt.scale_setScale]

/-! ### The commands, each under its conditions -/

/-- The Bolt after the seal's change: the level, its event and its line. -/
def Bolt.sealTo (b : Bolt) (isOpen : Bool) : Bolt :=
  (Bolt.event { b with sealOpen := isOpen } (if isOpen then 0x01 else 0x02) 0xFF).send [ascii 'S', ascii (if isOpen then '1' else '0')]

theorem exec_sealChange (s : State) (isOpen : Bool) (hp : s.bolt.power = true) (h : s.bolt.sealOpen ≠ isOpen) :
    exec (.sealChange isOpen) s = .next { s with dev := (showBolt (s.dev, s.bolt.sealTo isOpen)).1, bolt := s.bolt.sealTo isOpen } := by
  change execSealChange isOpen s = _
  unfold execSealChange
  refine onBolt_show (if_neg ?_)
  simp only [hp, h, Bool.true_eq_false, or_self, not_false_eq_true]

theorem exec_sealChange_same (s : State) (isOpen : Bool) (h : s.bolt.power = false ∨ s.bolt.sealOpen = isOpen) : exec (.sealChange isOpen) s = .next s := by
  change execSealChange isOpen s = _
  unfold execSealChange
  refine onBolt_same ?_
  simp only [h, if_true]

/-- The Bolt after a sample of a local port. -/
def Bolt.adc (b : Bolt) (port : Nat) (v : Int) : Bolt := (b.setScale port ((b.scale port).sample b.time v)).online port

theorem exec_adcSample (s : State) (port : Fin 4) (v : BitVec 24) (hp : s.bolt.power = true) (he : (s.bolt.scale port).e ≠ 0) : exec (.adcSample port v) s =
    .next { s with dev := (showBolt (s.dev, s.bolt.adc port v.toInt)).1, bolt := s.bolt.adc port v.toInt } := by
  change execAdcSample port v s = _
  unfold execAdcSample
  refine onBolt_show (if_neg ?_)
  simp only [hp, he, Bool.true_eq_false, or_self, not_false_eq_true]

theorem exec_adcSample_same (s : State) (port : Fin 4) (v : BitVec 24) (h : s.bolt.power = false ∨ (s.bolt.scale port).e = 0) :
    exec (.adcSample port v) s = .next s := by
  change execAdcSample port v s = _
  unfold execAdcSample
  refine onBolt_same ?_
  simp only [h, if_true]

/-- The device after the oldest weighing frame is taken. -/
def Dev.withWeighQ (d : Dev) (q : List WFrame) : Dev := { d with weighQ := q }

theorem exec_boltWeighFrame_same (s : State) (h : s.bolt.power = false ∨ s.dev.weighQ = []) : exec .boltWeighFrame s = .next s := by
  change execBoltWeighFrame s = _
  unfold execBoltWeighFrame
  refine onBolt_same ?_
  cases hq : s.dev.weighQ with
  | nil => rfl
  | cons f q =>
    rcases h with hp | hnil
    · simp only [hp, if_true]
    · rw [hnil] at hq
      cases hq

/-- A frame of a channel that no scale is bound to. -/
theorem exec_boltWeighFrame_unbound (s : State) {f : WFrame} {q : List WFrame} (hp : s.bolt.power = true) (hq : s.dev.weighQ = f :: q)
    (hfind : s.bolt.scales.find? (fun e => e.2.bind == some (f.pane, f.chan)) = none) :
    exec .boltWeighFrame s = .next { s with dev := s.dev.withWeighQ q } := by
  change execBoltWeighFrame s = _
  unfold execBoltWeighFrame
  refine onBolt_pair (b := s.bolt) ?_
  simp only [hq, hp, hfind, Bool.true_eq_false, if_false]
  rfl

/-- A frame that its scale does not accept. -/
theorem exec_boltWeighFrame_reject (s : State) {f : WFrame} {q : List WFrame} {n : Nat} {x : Scale} (hp : s.bolt.power = true) (hq : s.dev.weighQ = f :: q)
    (hfind : s.bolt.scales.find? (fun e => e.2.bind == some (f.pane, f.chan)) = some (n, x)) (hx : x.accept f.bytes = none) :
    exec .boltWeighFrame s = .next { s with dev := s.dev.withWeighQ q, bolt := s.bolt.setScale n { x with rejects := x.rejects + 1 } } := by
  change execBoltWeighFrame s = _
  unfold execBoltWeighFrame
  refine onBolt_pair ?_
  simp only [hq, hp, hfind, hx, Bool.true_eq_false, if_false]
  rfl

/-- The Bolt after a frame's samples and counter. -/
def Bolt.weighed (b : Bolt) (n : Nat) (x : Scale) (vs : List Int) (ctr : Nat) : Bolt :=
  (b.setScale n { vs.foldl (fun y v => y.sample b.time v) x with counter := some ctr }).online n

/-- A frame that its scale accepts. -/
theorem exec_boltWeighFrame_accept (s : State) {f : WFrame} {q : List WFrame} {n : Nat} {x : Scale} {vs : List Int} (hp : s.bolt.power = true)
    (hq : s.dev.weighQ = f :: q) (hfind : s.bolt.scales.find? (fun e => e.2.bind == some (f.pane, f.chan)) = some (n, x)) (hx : x.accept f.bytes = some vs) :
    exec .boltWeighFrame s = .next { s with
      dev := (showBolt (s.dev.withWeighQ q, s.bolt.weighed n x vs (leAt f.bytes 0 4))).1
      bolt := s.bolt.weighed n x vs (leAt f.bytes 0 4) } := by
  change execBoltWeighFrame s = _
  unfold execBoltWeighFrame
  refine onBolt_show ?_
  simp only [hq, hp, hfind, hx, Bool.true_eq_false, if_false]
  rfl

/-- A frame with a wrong tag, the counter of the last accepted one, or another form. -/
theorem Scale.accept_none (x : Scale) (bs : List Byte) (h : hmac256 x.key (bs.take (bs.length - 32)) ≠ bs.drop (bs.length - 32) ∨ x.counter = some (leAt bs 0 4)
    ∨ leAt bs 4 1 = 0 ∨ 66 < leAt bs 4 1 ∨ bs.length ≠ 40 + 3 * leAt bs 4 1) : x.accept bs = none := by
  unfold Scale.accept
  refine if_neg fun ⟨hlo, hhi, hlen, htag, hctr⟩ => ?_
  rcases h with h | h | h | h | h
  · exact h htag
  · rw [h, pastCounter] at hctr
    simp at hctr
  · omega
  · omega
  · omega

/-- A good frame of a channel that holds no counter yet. -/
theorem Scale.accept_first (x : Scale) (bs : List Byte) (htag : hmac256 x.key (bs.take (bs.length - 32)) = bs.drop (bs.length - 32)) (hctr : x.counter = none)
    (hlo : 1 ≤ leAt bs 4 1) (hhi : leAt bs 4 1 ≤ 66) (hlen : bs.length = 40 + 3 * leAt bs 4 1) :
    x.accept bs = some ((List.range (leAt bs 4 1)).map (fun i => sgn 24 (leAt bs (8 + 3 * i) 3))) := by
  unfold Scale.accept
  exact if_pos ⟨hlo, hhi, by omega, htag, by rw [hctr]; rfl⟩

/-- The Bolt after a scale's silence. -/
def Bolt.silenced (b : Bolt) (n : Nat) : Bolt := (b.setScale n { b.scale n with online := false }).event 0x05 n

theorem exec_scaleOffline (s : State) (n : Fin 48) (hp : s.bolt.power = true) (hon : (s.bolt.scale n).online = true)
    (ht : (s.bolt.scale n).seen + (s.bolt.scale n).silence n ≤ s.bolt.time) :
    exec (.scaleOffline n) s = .next { s with dev := (showBolt (s.dev, s.bolt.silenced n)).1, bolt := s.bolt.silenced n } := by
  change execScaleOffline n s = _
  unfold execScaleOffline
  refine onBolt_show (if_neg ?_)
  simp only [hp, hon, Nat.not_lt.mpr ht, Bool.true_eq_false, or_self, not_false_eq_true]

theorem exec_scaleOffline_same (s : State) (n : Fin 48) (h : s.bolt.power = false ∨ s.bolt.time < (s.bolt.scale n).seen + (s.bolt.scale n).silence n) :
    exec (.scaleOffline n) s = .next s := by
  change execScaleOffline n s = _
  unfold execScaleOffline
  refine onBolt_same (if_pos ?_)
  exact h.imp_right .inr

theorem exec_checkpointTimer (s : State) (hp : s.bolt.power = true) (hsince : 0 < s.bolt.sinceCheck) (ht : s.bolt.checkAt + 60 * boltSec ≤ s.bolt.time) :
    exec .checkpointTimer s = .next { s with dev := (showBolt (s.dev, s.bolt.checkpoint)).1, bolt := s.bolt.checkpoint } := by
  change execCheckpointTimer s = _
  unfold execCheckpointTimer
  refine onBolt_show (if_neg ?_)
  simp only [hp, Nat.ne_of_gt hsince, Nat.not_lt.mpr ht, Bool.true_eq_false, or_self, not_false_eq_true]

theorem exec_checkpointTimer_same (s : State) (h : s.bolt.power = false ∨ s.bolt.sinceCheck = 0 ∨ s.bolt.time < s.bolt.checkAt + 60 * boltSec) :
    exec .checkpointTimer s = .next s := by
  change execCheckpointTimer s = _
  unfold execCheckpointTimer
  exact onBolt_same (if_pos h)

theorem exec_checkpointSigned (s : State) {c : Check} (hp : s.bolt.power = true) (hc : s.bolt.checks.reverse.find? (fun c => !c.signed) = some c) :
    exec .checkpointSigned s =
      .next { s with bolt := { s.bolt with checks := s.bolt.checks.map (fun x => if x.num = c.num then { x with signed := true } else x) } } := by
  change execCheckpointSigned s = _
  unfold execCheckpointSigned
  refine onBolt_pair (d := s.dev) ?_
  simp only [hc, hp, Bool.true_eq_false, if_false]

theorem exec_checkpointSigned_off (s : State) (hp : s.bolt.power = false) : exec .checkpointSigned s = .next s := by
  change execCheckpointSigned s = _
  unfold execCheckpointSigned
  refine onBolt_same ?_
  simp only [hp, if_true]
  split <;> rfl

theorem exec_mspIdentifyLine (s : State) (hp : s.bolt.power = true) : exec .mspIdentifyLine s =
    .next { s with bolt := s.bolt.send (ascii 'I' :: (Config.boltIdent s.bolt.image ++ hex8 s.bolt.checksum)) } := by
  change execMspIdentifyLine s = _
  unfold execMspIdentifyLine
  refine onBolt_pair (d := s.dev) ?_
  simp only [hp, Bool.true_eq_false, if_false]

theorem exec_mspIdentifyLine_off (s : State) (hp : s.bolt.power = false) : exec .mspIdentifyLine s = .next s := by
  change execMspIdentifyLine s = _
  unfold execMspIdentifyLine
  exact onBolt_same (if_pos hp)

/-! ### Power and the watchdog -/

theorem exec_boltPowerOn (s : State) (isOpen : Bool) (hp : s.bolt.power = false) : exec (.boltPowerOn isOpen) s =
    .next { s with dev := (showBolt (s.dev.mailReset.setDom shBolt 2, s.bolt.boot isOpen)).1, bolt := s.bolt.boot isOpen } := by
  change execBoltPowerOn isOpen s = _
  unfold execBoltPowerOn
  refine onBolt_show (if_neg ?_)
  rw [hp]
  decide

theorem exec_boltPowerOn_same (s : State) (isOpen : Bool) (hp : s.bolt.power = true) : exec (.boltPowerOn isOpen) s = .next s := by
  change execBoltPowerOn isOpen s = _
  unfold execBoltPowerOn
  exact onBolt_same (if_pos hp)

theorem exec_boltPowerDown (s : State) (hp : s.bolt.power = true) : exec .boltPowerDown s =
    .next { s with dev := s.dev.mailReset.setDom shBolt 0, bolt := { s.bolt with power := false, req := none, events := [], lost := false } } := by
  change execBoltPowerDown s = _
  unfold execBoltPowerDown
  exact onBolt_pair (if_pos hp)

theorem exec_boltPowerDown_off (s : State) (hp : s.bolt.power = false) : exec .boltPowerDown s = .next s := by
  change execBoltPowerDown s = _
  unfold execBoltPowerDown
  refine onBolt_same (if_neg ?_)
  rw [hp]
  decide

theorem exec_watchdogReset (s : State) (hp : s.bolt.power = true) : exec .watchdogReset s = .next { s with
    dev := (showBolt (s.dev.mailReset, (s.bolt.boot s.bolt.sealOpen).event 0x07 0xFF)).1
    bolt := (s.bolt.boot s.bolt.sealOpen).event 0x07 0xFF } := by
  change execWatchdogReset s = _
  unfold execWatchdogReset
  exact onBolt_show (if_pos hp)

theorem exec_watchdogReset_off (s : State) (hp : s.bolt.power = false) : exec .watchdogReset s = .next s := by
  change execWatchdogReset s = _
  unfold execWatchdogReset
  refine onBolt_same (if_neg ?_)
  rw [hp]
  decide

/-- A scale after the Bolt's start has no tare, no samples, and is OFFLINE. -/
structure Scale.Started (x : Scale) : Prop where
  tare : x.tare = 0
  samples : x.samples = []
  offline : x.online = false

theorem Scale.kept_started (x : Scale) : x.kept.Started := ⟨rfl, rfl, rfl⟩

theorem Scale.foldl_kept_started (l : List (Nat × Scale)) (t : Tab Scale) (n : Nat) (h : (Tab.get Scale.fresh t n).Started) :
    (Tab.get Scale.fresh (l.foldl (fun t e => Tab.set Scale.fresh t e.1 e.2.kept) t) n).Started := by
  induction l generalizing t with
  | nil => exact h
  | cons e l ih =>
    refine ih _ ?_
    rw [Tab.get_set]
    split
    · exact e.2.kept_started
    · exact h

theorem Bolt.boot_scale (b : Bolt) (isOpen : Bool) (n : Nat) : ((b.boot isOpen).scale n).Started :=
  Scale.foldl_kept_started b.scales [] n ⟨rfl, rfl, rfl⟩

theorem Dev.mailReset_reg (d : Dev) {o : Nat} (h : boltb ≤ o ∧ o < boltb + 0x1000) : d.mailReset.reg o = regReset o := by
  refine (Tab.get_filter_keys _ (fun j => !(decide (boltb ≤ j) && decide (j < boltb + 0x1000))) d.regs o).trans (if_neg ?_)
  simp only [h.1, h.2, decide_true, Bool.and_self, Bool.not_true, Bool.false_eq_true, not_false_eq_true]

/-- The Bolt's domain after its state is set, and after the Bolt shows itself. -/
theorem Dev.dom_setDom (d : Dev) (n st : Nat) (h : st < 4) : (d.setDom n st).dom n = st :=
  (Dev.fld_setFld_same _ _ _ _ (by decide)).trans (Nat.mod_eq_of_lt h)

theorem showBolt_dom (d : Dev) (b : Bolt) : (showBolt (d, b)).1.dom 47 = d.dom 47 := by
  have hreg : (showBolt (d, b)).1.reg (domOff 47) = d.reg (domOff 47) := by
    refine (Dev.each_keeps_of_mem (fun d => d.reg (domOff 47)) [0, 1]
      (fun d c => d.setFld (boltb + Off.MB_STATUS c) Fl.MB_STATUS_SEAL (b2n (b.power && b.sealOpen))) (fun d c hc => ?_) _).trans
      (Dev.reg_setReg_other _ _ _ _ (by decide))
    rw [Dev.reg_setFld, if_neg]
    rcases List.mem_pair.mp hc with rfl | rfl <;> decide
  rw [Dev.dom, Dev.fld, hreg]
  rfl

/-- The channels' states once the Bolt has started. -/
theorem mailReset_state (d : Dev) (b : Bolt) (c : Fin 2) : (showBolt (d.mailReset.setDom shBolt 2, b)).1.fld (boltb + Off.MB_STATUS c) Fl.MB_STATUS_STATE = 0 := by
  have hout : ∀ c : Fin 2, boltb + Off.MB_STATUS c ≠ boltb + Off.MB_EVENT ∧ boltb + Off.MB_STATUS c ≠ domOff shBolt
      ∧ (boltb ≤ boltb + Off.MB_STATUS c ∧ boltb + Off.MB_STATUS c < boltb + 0x1000)
      ∧ Fl.MB_STATUS_STATE.get (regReset (boltb + Off.MB_STATUS c)) = 0 := by decide
  obtain ⟨hevent, hdom, hwin, hreset⟩ := hout c
  rw [showBolt_fld _ _ _ _ hevent (by decide), Dev.setDom, Dev.fld, Dev.reg_setFld, if_neg hdom, d.mailReset_reg hwin]
  exact hreset

end Sys2Proof.Machine
end

section
namespace Sys2Proof.Claims
open Sys2Proof Sys2Proof.Machine

/-- A command that shows the Bolt `c` leaves HBM, the jobs and the weighing queue. -/
theorem gives_shown {i : Instr} {s : State} {b c : Bolt} (h : exec i s = .next { s with dev := (showBolt (s.dev, b)).1, bolt := b }) (hc : b = c) :
    Gives i s (fun t => t.bolt = c ∧ t.dev.hbm = s.dev.hbm ∧ t.dev.jobs = s.dev.jobs ∧ t.dev.weighQ = s.dev.weighQ) :=
  ⟨_, h, hc, (BoltReach.showBolt s.dev b).hbm, (BoltReach.showBolt s.dev b).jobs, showBolt_weighQ s.dev b⟩

/-- What a weighing frame does (R425). -/
theorem boltWeighFrame_gives (s : State) (hp : s.bolt.power = true) (f : WFrame) (q : List WFrame) (hq : s.dev.weighQ = f :: q) :
    let b := s.bolt
    let body := f.bytes.take (f.bytes.length - 32)
    let sent := f.bytes.drop (f.bytes.length - 32)
    let ctr := leAt f.bytes 0 4
    let k := leAt f.bytes 4 1
    ((∀ e ∈ b.scales, e.2.bind ≠ some (f.pane, f.chan)) → GivesDev .boltWeighFrame s { s.dev with weighQ := q })
    ∧ (∀ n x, b.scales.find? (fun e => e.2.bind == some (f.pane, f.chan)) = some (n, x) →
        ((hmac256 x.key body ≠ sent ∨ x.counter = some ctr ∨ k = 0 ∨ 66 < k ∨ f.bytes.length ≠ 40 + 3 * k) →
          Gives .boltWeighFrame s (fun t => t.dev.weighQ = q ∧ t.bolt = b.setScale n { x with rejects := x.rejects + 1 }))
        ∧ (hmac256 x.key body = sent → x.counter = none → 1 ≤ k → k ≤ 66 → f.bytes.length = 40 + 3 * k →
          Gives .boltWeighFrame s (fun t => t.dev.weighQ = q
            ∧ t.bolt.scale n = { ((List.range k).map (fun i => sgn 24 (leAt f.bytes (8 + 3 * i) 3))).foldl (fun y v => y.sample b.time v) x with
                counter := some ctr, online := true }
            ∧ ∀ j, j ≠ n → t.bolt.scale j = b.scale j))) := by
  refine ⟨fun hunbound => ?_, fun n x hfind => ⟨fun hbad => ?_, fun htag hctr hlo hhi hlen => ?_⟩⟩
  · refine exec_boltWeighFrame_unbound s hp hq (List.find?_eq_none.mpr fun e he => ?_)
    simpa using hunbound e he
  · exact ⟨_, exec_boltWeighFrame_reject s hp hq hfind (x.accept_none f.bytes hbad), rfl, rfl⟩
  · refine ⟨_, exec_boltWeighFrame_accept s hp hq hfind (x.accept_first f.bytes htag hctr hlo hhi hlen), ?_, ?_, fun j hj => ?_⟩
    · exact (showBolt_weighQ _ _).trans rfl
    · refine (Bolt.online_scale _ n n).trans ?_
      rw [if_pos rfl, Bolt.scale_setScale, if_pos rfl]
    · refine (Bolt.online_scale _ n j).trans ?_
      rw [if_neg hj, Bolt.scale_setScale, if_neg hj]

/-- What a scale's silence does (R424, R425). -/
theorem scaleOffline_gives (s : State) (hp : s.bolt.power = true) (n : Fin 48) :
    let b := s.bolt
    let x := b.scale n
    let quiet := if n.val < 4 then 250000000 / x.rate else 12500000
    (b.time < x.seen + quiet → Stays (.scaleOffline n) s)
    ∧ (x.online = true → x.seen + quiet ≤ b.time → b.events.length < 32 → Gives (.scaleOffline n) s (fun t =>
        t.bolt = { b.setScale n { x with online := false } with events := b.events ++ [(0x05, n.val)] } ∧ t.dev.hbm = s.dev.hbm ∧ t.dev.jobs = s.dev.jobs
          ∧ t.dev.weighQ = s.dev.weighQ)) :=
  ⟨fun ht => exec_scaleOffline_same s n (.inr ht), fun hon ht hroom => gives_shown (exec_scaleOffline s n hp hon ht) (Bolt.event_room _ _ _ hroom)⟩

/-- What the sample of an OFFLINE port's scale does (R424). -/
theorem adcSample_gives (s : State) (hp : s.bolt.power = true) (p : Fin 4) (v : BitVec 24) (he : (s.bolt.scale p).e ≠ 0) (hoff : (s.bolt.scale p).online = false)
    (hroom : s.bolt.events.length < 32) : Gives (.adcSample p v) s (fun t => (t.bolt.scale p).online = true
      ∧ (t.bolt.scale p).samples.head? = some (s.bolt.time, v.toInt) ∧ t.bolt.events = s.bolt.events ++ [(0x06, p.val)]
      ∧ ∀ n, n ≠ p.val → t.bolt.scale n = s.bolt.scale n) := by
  have hscale (j : Nat) : (s.bolt.adc p v.toInt).scale j =
      if j = p.val then { (s.bolt.scale p).sample s.bolt.time v.toInt with online := true } else s.bolt.scale j := by
    rw [Bolt.adc, Bolt.online_scale]
    split
    · rw [Bolt.scale_setScale, if_pos rfl]
    · next hj => rw [Bolt.scale_setScale, if_neg hj]
  refine ⟨_, exec_adcSample s p v hp he, ?_, ?_, ?_, fun n hn => ?_⟩
  · exact (congrArg Scale.online ((hscale p).trans (if_pos rfl))).trans rfl
  · exact (congrArg (fun x => x.samples.head?) ((hscale p).trans (if_pos rfl))).trans rfl
  · change (s.bolt.adc p v.toInt).events = _
    rw [Bolt.adc, Bolt.online_comes, Bolt.event_events, Bolt.setScale_events, Bolt.setScale_events]
    · rwa [Bolt.setScale_events, Bolt.setScale_events]
    · rw [Bolt.scale_setScale, if_pos rfl]
      exact hoff
  · exact (hscale n).trans (if_neg hn)

/-- Settles O53: an equation of each command under its conditions. -/
theorem boltInputs : Obligations.BoltInputs := by
  unfold Obligations.BoltInputs
  intro s
  refine ⟨fun hp => ⟨?same, ?level, ?unconfigured, ?sample, ?comes, ?noFrame, ?frame, scaleOffline_gives s hp, ?noCheck, ?check, ?signed, ?identify, ?on, ?down, ?watchdog⟩,
    fun hp => ⟨?off, ?start⟩⟩
  case same => exact fun isOpen h => exec_sealChange_same s isOpen (.inr h)
  case level =>
    intro hroom
    refine ⟨fun h => gives_shown (exec_sealChange s true hp (by rw [h]; decide)) ?_, fun h => gives_shown (exec_sealChange s false hp (by rw [h]; decide)) ?_⟩
    all_goals
      rw [Bolt.sealTo, Bolt.event_room]
      · rfl
      · exact hroom
  case unconfigured => exact fun p v he => exec_adcSample_same s p v (.inr he)
  case sample =>
    intro p v he hon
    refine gives_shown (exec_adcSample s p v hp he) (Bolt.online_same _ _ ?_)
    rw [Bolt.scale_setScale, if_pos rfl]
    exact hon
  case comes => exact fun p v => adcSample_gives s hp p v
  case noFrame => exact fun hq => exec_boltWeighFrame_same s (.inr hq)
  case frame => exact boltWeighFrame_gives s hp
  case noCheck => exact fun h => exec_checkpointTimer_same s (.inr h)
  case check =>
    intro hsince ht hroom
    refine ⟨_, exec_checkpointTimer s hp hsince ht, ?_⟩
    simp only [Bolt.checkpoint, Bolt.event_room { s.bolt with checks := _, sinceCheck := 0, checkAt := s.bolt.time } 0x04 0xFF hroom]
    exact ⟨trivial, trivial, trivial, _, rfl, rfl, rfl, rfl, rfl, rfl⟩
  case signed => exact fun c hc => ⟨_, exec_checkpointSigned s hp hc, rfl, rfl, rfl, rfl⟩
  case identify => exact ⟨_, exec_mspIdentifyLine s hp, rfl, rfl, rfl, rfl⟩
  case on => exact exec_boltPowerOn_same s true hp
  case down => exact ⟨_, exec_boltPowerDown s hp, rfl, Dev.dom_setDom _ _ _ (by decide)⟩
  case watchdog =>
    refine ⟨_, exec_watchdogReset s hp, rfl, rfl, rfl, rfl, rfl, rfl, fun n => ?_⟩
    have hstart := s.bolt.boot_scale s.bolt.sealOpen n
    rw [← Bolt.event_scale _ 0x07 0xFF] at hstart
    exact ⟨hstart.tare, hstart.samples, hstart.offline⟩
  case off =>
    simp only [List.forall_mem_cons]
    exact ⟨exec_mspIdentifyLine_off s hp, exec_checkpointTimer_same s (.inl hp), exec_boltWeighFrame_same s (.inl hp), exec_boltPowerDown_off s hp,
      exec_watchdogReset_off s hp, exec_sealChange_same s true (.inl hp), exec_scaleOffline_same s 0 (.inl hp), exec_adcSample_same s 0 0 (.inl hp),
      exec_checkpointSigned_off s hp, List.forall_mem_nil _⟩
  case start =>
    intro isOpen
    refine ⟨_, exec_boltPowerOn s isOpen hp, rfl, rfl, rfl, rfl, rfl, rfl, rfl, rfl, rfl, rfl, rfl, ?_, mailReset_state s.dev _, fun n => ?_⟩
    · exact (showBolt_dom _ _).trans (Dev.dom_setDom _ _ _ (by decide))
    · have hstart := s.bolt.boot_scale isOpen n
      exact ⟨hstart.tare, hstart.samples, hstart.offline⟩

end Sys2Proof.Claims
end

section
/-! SUPPORT. Casements and Panes as they come up and go down (O31). -/

namespace Sys2Proof.Machine

/-! ### The registers of the optical block -/

theorem caseStatus_ne_paneStatus (k p : Nat) : opt + Off.CASE_STATUS k ≠ opt + Off.PANE_STATUS p := by
  simp only [Off.CASE_STATUS, Off.PANE_STATUS]
  omega

theorem paneStatus_inj {p q : Nat} (h : p ≠ q) : opt + Off.PANE_STATUS p ≠ opt + Off.PANE_STATUS q := by
  simp only [Off.PANE_STATUS]
  omega

theorem paneCtrl_ne_paneStatus (p q : Nat) : opt + Off.PANE_CTRL p ≠ opt + Off.PANE_STATUS q := by
  simp only [Off.PANE_CTRL, Off.PANE_STATUS]
  omega

/-- A register that Pane `p`, as it leaves a state, does not write. -/
structure Elsewhere (p o : Nat) : Prop where
  status : o ≠ opt + Off.PANE_STATUS p
  downs : o ≠ opt + Off.DOWNS p
  bond : o ≠ opt + Off.OPT_BOND
  drops : o ≠ Block.tel.base + Off.TEL_SRC_DROPS

theorem elsewhere_caseStatus (p k : Nat) (hk : k < 2) : Elsewhere p (opt + Off.CASE_STATUS k) := by
  constructor <;> simp only [opt, Block.base, Off.CASE_STATUS, Off.PANE_STATUS, Off.DOWNS, Off.OPT_BOND, Off.TEL_SRC_DROPS] <;> omega

theorem elsewhere_paneStatus {p q : Nat} (hq : q < 8) (h : q ≠ p) : Elsewhere p (opt + Off.PANE_STATUS q) := by
  constructor <;> simp only [opt, Block.base, Off.PANE_STATUS, Off.DOWNS, Off.OPT_BOND, Off.TEL_SRC_DROPS] <;> omega

/-- A Pane's own status is neither its counter, nor the bond's, nor TEL_SRC_DROPS. -/
theorem paneStatus_apart (p : Nat) (hp : p < 8) : opt + Off.PANE_STATUS p ≠ opt + Off.DOWNS p ∧ opt + Off.PANE_STATUS p ≠ opt + Off.OPT_BOND
    ∧ opt + Off.PANE_STATUS p ≠ Block.tel.base + Off.TEL_SRC_DROPS := by
  simp only [opt, Block.base, Off.PANE_STATUS, Off.DOWNS, Off.OPT_BOND, Off.TEL_SRC_DROPS]
  omega

theorem downs_apart (p : Nat) (hp : p < 8) : opt + Off.DOWNS p ≠ opt + Off.PANE_STATUS p ∧ opt + Off.DOWNS p ≠ opt + Off.OPT_BOND
    ∧ opt + Off.DOWNS p ≠ Block.tel.base + Off.TEL_SRC_DROPS := by
  simp only [opt, Block.base, Off.PANE_STATUS, Off.DOWNS, Off.OPT_BOND, Off.TEL_SRC_DROPS]
  omega

/-! ### Records and the bond -/

theorem Dev.reg_linkRecord (d : Dev) (code p ty ch det : Nat) {o : Nat} (h : o ≠ Block.tel.base + Off.TEL_SRC_DROPS) :
    (d.linkRecord code p ty ch det).reg o = d.reg o := d.reg_emit _ o h

theorem Dev.reg_checkBond (d : Dev) (p : Nat) {o : Nat} (hb : o ≠ opt + Off.OPT_BOND) (hd : o ≠ Block.tel.base + Off.TEL_SRC_DROPS) :
    (d.checkBond p).reg o = d.reg o := by
  unfold Dev.checkBond
  simp only
  split
  · rw [Dev.reg_linkRecord _ _ _ _ _ _ hd, Dev.reg_setFld, if_neg hb]
  · rw [Dev.reg_setFld, if_neg hb]

theorem Dev.checkBond_chans (d : Dev) (p : Nat) : (d.checkBond p).chans = d.chans := by
  unfold Dev.checkBond
  simp only
  split
  · rw [Dev.linkRecord, Dev.emit_chans, Dev.setFld_chans]
  · rw [Dev.setFld_chans]

/-! ### A Pane leaves its state (R381) -/

theorem Dev.setPaneState_same (d : Dev) (p st : Nat) (h : st < 8) : (d.setPaneState p st).paneState p = st :=
  (Dev.fld_setFld_same _ _ _ _ (by decide)).trans (Nat.mod_eq_of_lt h)

theorem Dev.paneState_setPane (d : Dev) (p : Nat) (x : PaneSt) (q : Nat) : (d.setPane p x).paneState q = d.paneState q := rfl

theorem Dev.fld_setPane (d : Dev) (p : Nat) (x : PaneSt) (o : Nat) (f : Fld) : (d.setPane p x).fld o f = d.fld o f := rfl

/-- What a Pane keeps beside its registers as it leaves its state. -/
def Dev.leftPane (d : Dev) (p reason : Nat) : PaneSt :=
  let x := d.pane p
  { PaneSt.dark with nonce := x.nonce, since := d.tick, tx := x.tx, query := x.query, byMirror := x.byMirror
                     left := some (d.tick, reason, d.paneState p == 4), near := x.near }

/-- The new state of a Pane that leaves. -/
def Dev.paneTo (d : Dev) (p st reason : Nat) : Dev := (d.setPaneState p st).setPane p (d.leftPane p reason)

/-- A Pane was UP: the reason, the channels, the count, the record and the bond. -/
def Dev.paneDown (d : Dev) (p reason : Nat) : Dev :=
  ((((d.setFld (opt + Off.PANE_STATUS p) Fl.PANE_STATUS_LAST_REASON reason).dropChans p).paneCount p (Off.DOWNS p) 1).linkRecord 0x02 p 0 0 reason).checkBond p

/-- A Pane that has not left its state in this tick leaves it. -/
theorem Dev.paneLeave_eq (d : Dev) (p st reason : Nat) (h : d.leftNow p = false) : d.paneLeave p st reason =
    if d.paneState p ≠ 4 then d.paneTo p st reason else (d.paneTo p st reason).paneDown p reason := by
  unfold Dev.paneLeave
  simp only [h, Bool.false_eq_true, if_false]
  rfl

theorem Dev.dropChans_reg (d : Dev) (p o : Nat) : (d.dropChans p).reg o = d.reg o := rfl

theorem Dev.paneDown_reg (d : Dev) (p reason : Nat) {o : Nat} (ho : Elsewhere p o) : (d.paneDown p reason).reg o = d.reg o := by
  rw [Dev.paneDown, Dev.reg_checkBond _ _ ho.bond ho.drops, Dev.reg_linkRecord _ _ _ _ _ _ ho.drops, Dev.paneCount, Dev.reg_bump _ _ _ _ ho.downs ho.drops,
    Dev.dropChans_reg, Dev.reg_setFld, if_neg ho.status]

/-- The word of a Pane's status once it is down. -/
theorem Dev.paneDown_status (d : Dev) (p reason : Nat) (hp : p < 8) : (d.paneDown p reason).reg (opt + Off.PANE_STATUS p) =
    Fl.PANE_STATUS_LAST_REASON.put (d.reg (opt + Off.PANE_STATUS p)) reason := by
  obtain ⟨hdowns, hbond, hdrops⟩ := paneStatus_apart p hp
  rw [Dev.paneDown, Dev.reg_checkBond _ _ hbond hdrops, Dev.reg_linkRecord _ _ _ _ _ _ hdrops, Dev.paneCount, Dev.reg_bump _ _ _ _ hdowns hdrops,
    Dev.dropChans_reg, Dev.reg_setFld, if_pos rfl]

theorem Dev.paneDown_state (d : Dev) (p reason : Nat) (hp : p < 8) : (d.paneDown p reason).paneState p = d.paneState p := by
  rw [Dev.paneState, Dev.fld, d.paneDown_status p reason hp, Fld.get_put_apart _ _ (by decide) (by decide)]
  rfl

theorem Dev.paneDown_reason (d : Dev) (p reason : Nat) (hp : p < 8) (hr : reason < 16) :
    (d.paneDown p reason).fld (opt + Off.PANE_STATUS p) Fl.PANE_STATUS_LAST_REASON = reason := by
  rw [Dev.fld, d.paneDown_status p reason hp, Fld.get_put _ (by decide)]
  exact Nat.mod_eq_of_lt hr

/-- The count of a Pane's downs, while it does not wrap. -/
theorem Dev.paneDown_downs (d : Dev) (p reason : Nat) (hp : p < 8) (hsmall : (d.reg (opt + Off.DOWNS p)).toNat + 1 < 2 ^ 32) :
    ((d.paneDown p reason).reg (opt + Off.DOWNS p)).toNat = (d.reg (opt + Off.DOWNS p)).toNat + 1 := by
  obtain ⟨hstatus, hbond, hdrops⟩ := downs_apart p hp
  have hreg : ((d.setFld (opt + Off.PANE_STATUS p) Fl.PANE_STATUS_LAST_REASON reason).dropChans p).reg (opt + Off.DOWNS p) = d.reg (opt + Off.DOWNS p) := by
    rw [Dev.dropChans_reg, Dev.reg_setFld, if_neg hstatus]
  rw [Dev.paneDown, Dev.reg_checkBond _ _ hbond hdrops, Dev.reg_linkRecord _ _ _ _ _ _ hdrops, Dev.paneCount, Dev.bump_small _ _ _ _ (by rw [hreg]; exact hsmall),
    Dev.reg_setReg, if_pos rfl, hreg]
  exact Nat.mod_eq_of_lt hsmall

/-- A Pane that is not in the bond discards its channels as it goes down. -/
theorem Dev.dropChans_chan (d : Dev) (p ty ch : Nat) (hb : d.isBond p = false) (hty : ty < 16) (hch : ch < 4096) :
    (d.dropChans p).chan (d.chanKey p ty ch) = Chan.fresh := by
  have hkey : d.chanKey p ty ch = p * 2 ^ 16 + ty * 2 ^ 12 + ch := by
    rw [Dev.chanKey, hb, if_neg (by simp)]
  have hpane : d.chanKey p ty ch / 2 ^ 16 = p := by
    rw [hkey]
    omega
  refine (Tab.get_filter_keys Chan.fresh (fun k => !(if k / 2 ^ 12 % 16 = tMIRROR ∧ d.isBond p = true then !(d.isBond p && d.paneUp (1 - p)) else k / 2 ^ 16 == p))
    d.chans (d.chanKey p ty ch)).trans (if_neg ?_)
  rw [hb, if_neg (by simp), hpane]
  simp

theorem Dev.paneDown_chan (d : Dev) (p reason ty ch : Nat) (hb : d.isBond p = false) (hty : ty < 16) (hch : ch < 4096) :
    (d.paneDown p reason).chan (d.chanKey p ty ch) = Chan.fresh := by
  have hbond : (d.setFld (opt + Off.PANE_STATUS p) Fl.PANE_STATUS_LAST_REASON reason).isBond p = d.isBond p := by
    rw [Dev.isBond, Dev.fld_setFld_ne _ _ _ _ _ _ (by simp only [Off.OPT_BOND, Off.PANE_STATUS]; omega)]
    rfl
  have hchans : (d.paneDown p reason).chans = ((d.setFld (opt + Off.PANE_STATUS p) Fl.PANE_STATUS_LAST_REASON reason).dropChans p).chans := by
    rw [Dev.paneDown, Dev.checkBond_chans, Dev.linkRecord, Dev.emit_chans, Dev.paneCount, Dev.bump_chans]
  have hkey : d.chanKey p ty ch = (d.setFld (opt + Off.PANE_STATUS p) Fl.PANE_STATUS_LAST_REASON reason).chanKey p ty ch := by
    rw [Dev.chanKey, Dev.chanKey, hbond]
  rw [Dev.chan, hchans, hkey]
  exact Dev.dropChans_chan _ p ty ch (by rw [hbond, hb]) hty hch

theorem Dev.paneTo_reg (d : Dev) (p st reason : Nat) {o : Nat} (h : o ≠ opt + Off.PANE_STATUS p) : (d.paneTo p st reason).reg o = d.reg o := by
  rw [Dev.paneTo, Dev.reg_setPane_at, Dev.setPaneState, Dev.reg_setFld, if_neg h]

theorem Dev.paneTo_state (d : Dev) (p st reason : Nat) (h : st < 8) : (d.paneTo p st reason).paneState p = st := by
  rw [Dev.paneTo, Dev.paneState_setPane, d.setPaneState_same p st h]

/-- The REASONs lead to DARK, LIT or LOCK. -/
theorem reasonState_le (r : Nat) : reasonState r ≤ 2 := by
  by_cases h : r < 8
  · have hall : ∀ r : Fin 8, reasonState r ≤ 2 := by decide
    exact hall ⟨r, h⟩
  · rw [reasonState, List.getD_eq_default _ _ (by simpa using h)]
    decide

/-- A Pane past LOCK has not left its state in this tick. -/
theorem Dev.leftNow_of_past (d : Dev) (p : Nat) (h : 2 < d.paneState p) : d.leftNow p = false := by
  unfold Dev.leftNow
  split
  · next l _ =>
    have hle := reasonState_le l.2.1
    simp only [decide_eq_false_iff_not, not_and]
    omega
  · rfl

theorem Dev.rereason_reg (d : Dev) (p reason o : Nat) : (d.rereason p reason).reg o = d.reg o := rfl

/-- A second event of the tick writes the Pane's status alone. -/
theorem Dev.paneAgain_reg (d : Dev) (p st reason : Nat) {o : Nat} (h : o ≠ opt + Off.PANE_STATUS p) : (d.paneAgain p st reason).reg o = d.reg o := by
  unfold Dev.paneAgain
  split
  · rfl
  · next t r up _ =>
    have hstate (c : Prop) (_ : Decidable c) : (if c then d.setPaneState p st else d).reg o = d.reg o := by
      split
      · rw [Dev.setPaneState, Dev.reg_setFld, if_neg h]
      · rfl
    simp only
    split
    · exact hstate _ _
    · split
      · rw [Dev.rereason_reg, Dev.reg_setFld, if_neg h, Dev.reg_setPane_at]
        exact hstate _ _
      · rw [Dev.reg_setPane_at]
        exact hstate _ _

/-- A second event of the tick that leads to DARK leads there all the same. -/
theorem Dev.paneAgain_dark (d : Dev) (p reason : Nat) (h : (d.pane p).left ≠ none) : (d.paneAgain p 0 reason).paneState p = 0 := by
  unfold Dev.paneAgain
  split
  · next hleft => exact absurd hleft h
  · next t r up _ =>
    simp only [true_or, if_true]
    have hdark := d.setPaneState_same p 0 (by decide)
    split
    · exact hdark
    · split
      · rw [Dev.paneState, Dev.fld, Dev.rereason_reg, ← Dev.fld, Dev.fld_setFld_apart _ _ _ _ _ (by decide) (by decide)]
        exact hdark
      · exact hdark

theorem Dev.left_of_leftNow (d : Dev) (p : Nat) (h : d.leftNow p = true) : (d.pane p).left ≠ none := by
  intro hnone
  rw [Dev.leftNow, hnone] at h
  cases h

/-- A Pane that leaves its state writes its status, its counter and the bond's register, and TEL_SRC_DROPS. -/
theorem Dev.paneLeave_reg (d : Dev) (p st reason : Nat) {o : Nat} (ho : Elsewhere p o) : (d.paneLeave p st reason).reg o = d.reg o := by
  cases h : d.leftNow p with
  | true =>
    unfold Dev.paneLeave
    simp only [h, if_true]
    exact d.paneAgain_reg p st reason ho.status
  | false =>
    rw [d.paneLeave_eq p st reason h]
    split
    · exact d.paneTo_reg p st reason ho.status
    · rw [Dev.paneDown_reg _ _ _ ho, d.paneTo_reg p st reason ho.status]

/-- A Pane that leaves its state stands where the event puts it. -/
theorem Dev.paneLeave_state (d : Dev) (p st reason : Nat) (hp : p < 8) (hst : st < 8) (h : d.leftNow p = false) : (d.paneLeave p st reason).paneState p = st := by
  rw [d.paneLeave_eq p st reason h]
  split
  · exact d.paneTo_state p st reason hst
  · rw [Dev.paneDown_state _ p reason hp, d.paneTo_state p st reason hst]

/-- An event that leads to DARK leads there whatever else has happened in the tick. -/
theorem Dev.paneLeave_dark (d : Dev) (p reason : Nat) (hp : p < 8) : (d.paneLeave p 0 reason).paneState p = 0 := by
  cases h : d.leftNow p with
  | true =>
    unfold Dev.paneLeave
    simp only [h, if_true]
    exact d.paneAgain_dark p reason (d.left_of_leftNow p h)
  | false => exact d.paneLeave_state p 0 reason hp (by decide) h

/-! ### Casements (R35, R380–R382) -/

theorem Dev.caseState_of_reg {d e : Dev} {k : Nat} (h : e.reg (opt + Off.CASE_STATUS k) = d.reg (opt + Off.CASE_STATUS k)) : e.caseState k = d.caseState k := by
  rw [Dev.caseState, Dev.fld, h]
  rfl

/-- The light that arrives on fibre 9 of each Casement. -/
def Dev.withLit (d : Dev) (l : List Nat) : Dev := { d with lit := l }

theorem Dev.withLit_panes (d : Dev) (l : List Nat) : (d.withLit l).panes = d.panes := rfl

theorem exec_lightArrive (k : Fin 2) (s : State) (h : s.dev.domOn (shCase k) = true) :
    exec (.lightArrive k) s = .next { s with dev := (s.dev.withLit (k.val :: s.dev.lit.filter (· != k.val))).caseLight k } := by
  change execLightArrive k s = _
  unfold execLightArrive
  rw [onDev_next]
  change Host.Outcome.next { s with dev := if s.dev.domOn (shCase k) = true then (s.dev.withLit (k.val :: s.dev.lit.filter (· != k.val))).caseLight k else _ } = _
  rw [if_pos h]

theorem exec_lightArrive_off (k : Fin 2) (s : State) (h : s.dev.domOn (shCase k) = false) :
    exec (.lightArrive k) s = .next { s with dev := s.dev.withLit (k.val :: s.dev.lit.filter (· != k.val)) } := by
  change execLightArrive k s = _
  unfold execLightArrive
  rw [onDev_next]
  change Host.Outcome.next { s with dev := if s.dev.domOn (shCase k) = true then _ else s.dev.withLit (k.val :: s.dev.lit.filter (· != k.val)) } = _
  rw [if_neg (by rw [h]; decide)]

/-- Light that arrives begins the tuning of a DARK Casement whose Shutter is ON. -/
theorem Dev.caseLight_tunes (d : Dev) (k : Nat) (hlit : d.lit.contains k = true) (hst : d.caseState k = 0) (hdown : d.boot.down.contains (3 + k) = false)
    (hon : d.domOn (shCase k) = true) : d.caseLight k = (d.setCase k Fl.CASE_STATUS_LIGHT 1).setCase k Fl.CASE_STATUS_STATE 1 := by
  have hdark : (d.setCase k Fl.CASE_STATUS_LIGHT 1).caseState k = 0 := (Dev.fld_setFld_apart _ _ _ _ _ (by decide) (by decide)).trans hst
  have hdom : (d.setCase k Fl.CASE_STATUS_LIGHT 1).domOn (shCase k) = true := by
    have hne : domOff (shCase k) ≠ opt + Off.CASE_STATUS k := by
      simp only [domOff, shCase, opt, Block.base, Off.PWR_DOM, Off.CASE_STATUS]
      omega
    rw [Dev.domOn, Dev.dom, Dev.setCase, Dev.fld_setFld_ne _ _ _ _ _ _ hne]
    exact hon
  have hlight : (d.setCase k Fl.CASE_STATUS_LIGHT 1).fld (opt + Off.CASE_STATUS k) Fl.CASE_STATUS_LIGHT = 1 := Dev.fld_setFld_same _ _ _ _ (by decide)
  unfold Dev.caseLight Dev.caseTune
  rw [hlit]
  exact if_pos ⟨hdark, hdown, hdom, hlight⟩

theorem exec_casementLit (k : Fin 2) (m : BitVec 8) (s : State) (h : s.dev.caseState k = 1) : exec (.casementLit k m) s =
    .next { s with dev := ((s.dev.setCase k Fl.CASE_STATUS_STATE 2).setCase k Fl.CASE_STATUS_MARGIN m.toNat).each (casePanes k) Dev.paneLight } := by
  change execCasementLit k m s = _
  unfold execCasementLit
  rw [onDev_next]
  simp -zeta only [h, ne_eq, not_true_eq_false, if_false]
  rfl

theorem exec_casementLit_same (k : Fin 2) (m : BitVec 8) (s : State) (h : s.dev.caseState k ≠ 1) : exec (.casementLit k m) s = .next s := by
  change execCasementLit k m s = _
  unfold execCasementLit
  rw [onDev_next]
  simp only [h, ne_eq, not_false_eq_true, if_true]

/-- A Pane that may become LIT writes its status alone. -/
theorem Dev.paneLight_reg (d : Dev) (p : Nat) {o : Nat} (h : o ≠ opt + Off.PANE_STATUS p) : (d.paneLight p).reg o = d.reg o := by
  unfold Dev.paneLight
  split
  · rw [Dev.reg_setPane_at, Dev.setPaneState, Dev.reg_setFld, if_neg h]
  · rfl

/-- A DARK Pane with EN of a LIT Casement becomes LIT, any other stays. -/
theorem Dev.paneLight_state (d : Dev) (p : Nat) (hc : d.caseState (p / 4) = 2) :
    (d.paneLight p).paneState p = if d.paneState p = 0 ∧ d.paneEn p = true then 1 else d.paneState p := by
  unfold Dev.paneLight
  simp only [hc, and_true]
  split
  · exact d.setPaneState_same p 1 (by decide)
  · rfl

theorem Dev.each_paneLight_reg (l : List Nat) (d : Dev) {o : Nat} (h : ∀ p ∈ l, o ≠ opt + Off.PANE_STATUS p) : (d.each l Dev.paneLight).reg o = d.reg o :=
  Dev.each_keeps_of_mem (fun d => d.reg o) l Dev.paneLight (fun d p hp => d.paneLight_reg p (h p hp)) d

/-- Each Pane of a list of one LIT Casement's becomes LIT where it is DARK with EN. -/
theorem Dev.each_paneLight_state (k : Nat) (l : List Nat) (d : Dev) (hl : ∀ p ∈ l, p / 4 = k) (hnd : l.Nodup) (hc : d.caseState k = 2) (q : Nat) (hq : q ∈ l) :
    (d.each l Dev.paneLight).paneState q = if d.paneState q = 0 ∧ d.paneEn q = true then 1 else d.paneState q := by
  induction l generalizing d with
  | nil => cases hq
  | cons p l ih =>
    obtain ⟨hp, hnd⟩ := List.nodup_cons.mp hnd
    rw [Dev.each_cons]
    by_cases hqp : q = p
    · subst hqp
      have hrest : ((d.paneLight q).each l Dev.paneLight).paneState q = (d.paneLight q).paneState q := by
        rw [Dev.paneState, Dev.fld, Dev.each_paneLight_reg l _ (fun p hp' => paneStatus_inj (fun he => hp (by rwa [he])))]
        rfl
      rw [hrest]
      exact d.paneLight_state q (by rwa [hl q List.mem_cons_self])
    · have hmem : q ∈ l := (List.mem_cons.mp hq).resolve_left hqp
      have hstate : (d.paneLight p).paneState q = d.paneState q := by
        rw [Dev.paneState, Dev.fld, d.paneLight_reg p (paneStatus_inj hqp)]
        rfl
      have hen : (d.paneLight p).paneEn q = d.paneEn q := by
        rw [Dev.paneEn, Dev.fld, d.paneLight_reg p (paneCtrl_ne_paneStatus q p)]
        rfl
      have hcase : (d.paneLight p).caseState k = 2 := (Dev.caseState_of_reg (d.paneLight_reg p (caseStatus_ne_paneStatus k p))).trans hc
      rw [ih (d.paneLight p) (fun p hp => hl p (List.mem_cons_of_mem _ hp)) hnd hcase hmem, hstate, hen]

theorem casePanes_case {k q : Nat} (h : q ∈ casePanes k) : q / 4 = k := by
  simp only [casePanes, List.mem_cons, List.not_mem_nil, or_false] at h
  omega

theorem casePanes_nodup (k : Nat) : (casePanes k).Nodup := by
  simp only [casePanes, List.nodup_cons, List.mem_cons, List.not_mem_nil, or_false, not_false_eq_true, List.nodup_nil, and_true]
  omega

/-- A Casement whose tuning is complete: it is LIT with its margin. -/
def Dev.caseTuned (d : Dev) (k m : Nat) : Dev := (d.setCase k Fl.CASE_STATUS_STATE 2).setCase k Fl.CASE_STATUS_MARGIN m

theorem Dev.caseTuned_shows (d : Dev) (k : Nat) (m : BitVec 8) :
    (d.caseTuned k m.toNat).caseState k = 2 ∧ (d.caseTuned k m.toNat).fld (opt + Off.CASE_STATUS k) Fl.CASE_STATUS_MARGIN = m.toNat :=
  ⟨(Dev.fld_setFld_apart _ _ _ _ _ (by decide) (by decide)).trans (Dev.fld_setFld_same _ _ _ _ (by decide)),
    (Dev.fld_setFld_same _ _ _ _ (by decide)).trans (Nat.mod_eq_of_lt m.isLt)⟩

theorem Dev.caseTuned_reg (d : Dev) (k m : Nat) {o : Nat} (h : o ≠ opt + Off.CASE_STATUS k) : (d.caseTuned k m).reg o = d.reg o := by
  rw [Dev.caseTuned, Dev.setCase, Dev.reg_setFld, if_neg h, Dev.setCase, Dev.reg_setFld, if_neg h]

/-- What a Casement's tuning leaves: itself LIT with its margin, and its enabled Panes LIT (R380). -/
theorem Dev.caseTuned_lights (d : Dev) (k : Nat) (hk : k < 2) (m : BitVec 8) :
    let t := (d.caseTuned k m.toNat).each (casePanes k) Dev.paneLight
    t.caseState k = 2 ∧ t.fld (opt + Off.CASE_STATUS k) Fl.CASE_STATUS_MARGIN = m.toNat
      ∧ ∀ q ∈ casePanes k, t.paneState q = if d.paneState q = 0 ∧ d.paneEn q = true then 1 else d.paneState q := by
  intro t
  obtain ⟨hstate, hmargin⟩ := d.caseTuned_shows k m
  have hreg : t.reg (opt + Off.CASE_STATUS k) = (d.caseTuned k m.toNat).reg (opt + Off.CASE_STATUS k) :=
    Dev.each_paneLight_reg _ _ (fun p _ => caseStatus_ne_paneStatus k p)
  refine ⟨(Dev.caseState_of_reg hreg).trans hstate, ?_, fun q hq => ?_⟩
  · rw [← hmargin, Dev.fld, hreg]
    rfl
  · have hpane : (d.caseTuned k m.toNat).paneState q = d.paneState q := by
      rw [Dev.paneState, Dev.fld, d.caseTuned_reg k _ (caseStatus_ne_paneStatus k q).symm]
      rfl
    have hctrl : opt + Off.PANE_CTRL q ≠ opt + Off.CASE_STATUS k := by
      simp only [Off.PANE_CTRL, Off.CASE_STATUS]
      omega
    have hen : (d.caseTuned k m.toNat).paneEn q = d.paneEn q := by
      rw [Dev.paneEn, Dev.fld, d.caseTuned_reg k _ hctrl]
      rfl
    rw [← hpane, ← hen]
    exact Dev.each_paneLight_state k _ _ (fun p hp => casePanes_case hp) (casePanes_nodup k) hstate q hq

/-- A Pane of a Casement that goes DARK. -/
def Dev.paneDark (d : Dev) (p : Nat) : Dev := if d.paneState p = 0 ∧ d.leftNow p = false then d else d.paneLeave p 0 1

theorem Dev.caseDark_eq (d : Dev) (k : Nat) : d.caseDark k = (d.setCase k Fl.CASE_STATUS_STATE 0).each (casePanes k) Dev.paneDark := rfl

theorem Dev.paneDark_reg (d : Dev) (p : Nat) {o : Nat} (ho : Elsewhere p o) : (d.paneDark p).reg o = d.reg o := by
  unfold Dev.paneDark
  split
  · rfl
  · exact d.paneLeave_reg p 0 1 ho

theorem Dev.paneDark_self (d : Dev) (p : Nat) (hp : p < 8) : (d.paneDark p).paneState p = 0 := by
  unfold Dev.paneDark
  split
  · next h => exact h.1
  · exact d.paneLeave_dark p 1 hp

/-- A Pane that is DARK stays DARK. -/
theorem Dev.paneDark_keeps (d : Dev) (p q : Nat) (hq : q < 8) (h : d.paneState q = 0) : (d.paneDark p).paneState q = 0 := by
  by_cases hqp : q = p
  · subst hqp
    exact d.paneDark_self q hq
  · rw [Dev.paneState, Dev.fld, d.paneDark_reg p (elsewhere_paneStatus hq hqp)]
    exact h

theorem Dev.each_paneDark_keeps (l : List Nat) (d : Dev) (q : Nat) (hq : q < 8) (h : d.paneState q = 0) : (d.each l Dev.paneDark).paneState q = 0 := by
  induction l generalizing d with
  | nil => exact h
  | cons p l ih => exact ih (d.paneDark p) (d.paneDark_keeps p q hq h)

/-- Every Pane of a list goes DARK. -/
theorem Dev.each_paneDark_mem (l : List Nat) (d : Dev) (q : Nat) (hq : q < 8) (hmem : q ∈ l) : (d.each l Dev.paneDark).paneState q = 0 := by
  induction l generalizing d with
  | nil => cases hmem
  | cons p l ih =>
    rw [Dev.each_cons]
    rcases List.mem_cons.mp hmem with rfl | htail
    · exact Dev.each_paneDark_keeps l _ q hq (d.paneDark_self q hq)
    · exact ih (d.paneDark p) htail

theorem Dev.caseDark_caseStatus (d : Dev) (k : Nat) (hk : k < 2) :
    (d.caseDark k).reg (opt + Off.CASE_STATUS k) = (d.setCase k Fl.CASE_STATUS_STATE 0).reg (opt + Off.CASE_STATUS k) := by
  rw [Dev.caseDark_eq]
  exact Dev.each_keeps_of_mem (fun d => d.reg (opt + Off.CASE_STATUS k)) _ Dev.paneDark (fun d p _ => d.paneDark_reg p (elsewhere_caseStatus p k hk)) _

/-- The device after light is lost on a Casement's fibre 9. -/
def Dev.darkened (d : Dev) (k : Nat) : Dev := ((d.setCase k Fl.CASE_STATUS_LIGHT 0).caseDark k).linkRecord 0x03 (4 * k) 0 0 0

theorem exec_laserLoss (k : Fin 2) (s : State) (hon : s.dev.domOn (shCase k) = true) (hl : s.dev.fld (opt + Off.CASE_STATUS k) Fl.CASE_STATUS_LIGHT = 1) :
    exec (.laserLoss k) s = .next { s with dev := (s.dev.withLit (s.dev.lit.filter (· != k.val))).darkened k } := by
  change execLaserLoss k s = _
  unfold execLaserLoss
  rw [onDev_next]
  refine congrArg (fun e : Dev => Host.Outcome.next { s with dev := e }) (if_neg ?_)
  change ¬(s.dev.domOn (shCase k) = false ∨ s.dev.fld (opt + Off.CASE_STATUS k) Fl.CASE_STATUS_LIGHT = 0)
  rw [hon, hl]
  decide

theorem exec_laserLoss_off (k : Fin 2) (s : State) (h : s.dev.domOn (shCase k) = false) :
    exec (.laserLoss k) s = .next { s with dev := s.dev.withLit (s.dev.lit.filter (· != k.val)) } := by
  change execLaserLoss k s = _
  unfold execLaserLoss
  rw [onDev_next]
  refine congrArg (fun e : Dev => Host.Outcome.next { s with dev := e }) (if_pos ?_)
  exact .inl h

/-- Lost light darkens a Casement with all four Panes (R381). -/
theorem Dev.darkened_shows (d : Dev) (k : Nat) (hk : k < 2) : (d.darkened k).fld (opt + Off.CASE_STATUS k) Fl.CASE_STATUS_LIGHT = 0
    ∧ (d.darkened k).caseState k = 0 ∧ ∀ q ∈ casePanes k, (d.darkened k).paneState q = 0 := by
  have hcase : (d.darkened k).reg (opt + Off.CASE_STATUS k)
      = ((d.setCase k Fl.CASE_STATUS_LIGHT 0).setCase k Fl.CASE_STATUS_STATE 0).reg (opt + Off.CASE_STATUS k) := by
    rw [Dev.darkened, Dev.reg_linkRecord _ _ _ _ _ _ (elsewhere_caseStatus 0 k hk).drops, Dev.caseDark_caseStatus _ k hk]
  refine ⟨?_, ?_, fun q hq => ?_⟩
  · rw [Dev.fld, hcase]
    exact (Dev.fld_setFld_apart _ _ _ _ _ (by decide) (by decide)).trans (Dev.fld_setFld_same _ _ _ _ (by decide))
  · exact (Dev.caseState_of_reg hcase).trans (Dev.fld_setFld_same _ _ _ _ (by decide))
  · have hq8 : q < 8 := by
      have hc := casePanes_case hq
      omega
    rw [Dev.darkened, Dev.paneState, Dev.fld, Dev.reg_linkRecord _ _ _ _ _ _ (paneStatus_apart q hq8).2.2, Dev.caseDark_eq]
    exact Dev.each_paneDark_mem _ _ q hq8 hq

/-! ### A ring's heater (R382) -/

/-- The smallest margin of a Casement, and whether a ring's heater is near its limit. -/
def Dev.ringMoved (d : Dev) (k q : Nat) (least : Nat) (near : Bool) : Dev :=
  (d.setCase k Fl.CASE_STATUS_MARGIN least).setPane q { d.pane q with near := near }

/-- What a heater that comes near its limit does. -/
def Dev.ringLimit (d : Dev) (q : Nat) : Dev := (if 2 ≤ d.paneState q ∨ d.leftNow q = true then d.paneLeave q 1 5 else d).linkRecord 0x04 q 0 0 0

/-- A heater of Pane `q` has moved. -/
def Dev.ringStep (d : Dev) (k q m least : Nat) : Dev :=
  if 2 < m ∨ (d.pane q).near = true then d.ringMoved k q least (decide (m ≤ 2)) else (d.ringMoved k q least (decide (m ≤ 2))).ringLimit q

theorem exec_ringTuneStep (k : Fin 2) (i : Fin 4) (m least : BitVec 8) (s : State) (hc : s.dev.caseState k = 2)
    (hh : (s.dev.fld (opt + Off.OPT_EXP) Fl.OPT_EXP_TUNE_HOLD).testBit k = false) :
    exec (.ringTuneStep k i m least) s = .next { s with dev := s.dev.ringStep k (4 * k.val + i.val) m.toNat least.toNat } := by
  change execRingTuneStep k i m least s = _
  unfold execRingTuneStep
  rw [onDev_next]
  simp -zeta only [hc, hh, ne_eq, not_true_eq_false, Bool.false_eq_true, or_self, if_false]
  rfl

theorem Dev.ringMoved_paneState (d : Dev) (k q least : Nat) (near : Bool) : (d.ringMoved k q least near).paneState q = d.paneState q := by
  rw [Dev.ringMoved, Dev.paneState_setPane, Dev.paneState, Dev.setCase, Dev.fld_setFld_ne _ _ _ _ _ _ (caseStatus_ne_paneStatus k q).symm]
  rfl

theorem Dev.ringMoved_leftNow (d : Dev) (k q least : Nat) (near : Bool) : (d.ringMoved k q least near).leftNow q = d.leftNow q := by
  have hleft : ((d.ringMoved k q least near).pane q).left = (d.pane q).left := by
    rw [Dev.ringMoved, Dev.pane_setPane, if_pos rfl]
  unfold Dev.leftNow
  rw [hleft, d.ringMoved_paneState]
  rfl

theorem Dev.ringMoved_caseStatus (d : Dev) (k q : Nat) (least : BitVec 8) (near : Bool) :
    (d.ringMoved k q least.toNat near).caseState k = d.caseState k
      ∧ (d.ringMoved k q least.toNat near).fld (opt + Off.CASE_STATUS k) Fl.CASE_STATUS_MARGIN = least.toNat := by
  rw [Dev.caseState, Dev.ringMoved, Dev.fld_setPane, Dev.fld_setPane, Dev.setCase, Dev.fld_setFld_apart _ _ _ _ _ (by decide) (by decide),
    Dev.fld_setFld_same _ _ _ _ (by decide)]
  exact ⟨rfl, Nat.mod_eq_of_lt least.isLt⟩

theorem Dev.ringMoved_waiting (d : Dev) (k q least : Nat) (near : Bool) (src : Nat) : (d.ringMoved k q least near).waiting src = d.waiting src := by
  rw [Dev.ringMoved, Dev.waiting_setPane_at, Dev.setCase, Dev.waiting_setFld_at]

/-- A ring that comes to its limit takes its Pane, past LIT, back to LIT; the Casement stays. -/
theorem Dev.ringLimit_past (d : Dev) (k q : Nat) (hk : k < 2) (hq : q < 8) (hpast : 2 ≤ d.paneState q) (hleft : d.leftNow q = false) :
    (d.ringLimit q).paneState q = 1 ∧ (d.ringLimit q).reg (opt + Off.CASE_STATUS k) = d.reg (opt + Off.CASE_STATUS k) := by
  rw [Dev.ringLimit, if_pos (.inl hpast)]
  constructor
  · rw [Dev.paneState, Dev.fld, Dev.reg_linkRecord _ _ _ _ _ _ (paneStatus_apart q hq).2.2]
    exact d.paneLeave_state q 1 5 hq (by decide) hleft
  · rw [Dev.reg_linkRecord _ _ _ _ _ _ (elsewhere_caseStatus q k hk).drops, d.paneLeave_reg q 1 5 (elsewhere_caseStatus q k hk)]

/-- A ring that comes to its limit is recorded; a Pane not past LIT stays in its state. -/
theorem Dev.ringLimit_before (d : Dev) (q : Nat) (hq : q < 8) (hbefore : d.paneState q < 2) (hleft : d.leftNow q = false) :
    (d.ringLimit q).paneState q = d.paneState q ∧ d.ringLimit q = d.linkRecord 0x04 q 0 0 0 := by
  have heq : d.ringLimit q = d.linkRecord 0x04 q 0 0 0 := by
    rw [Dev.ringLimit, if_neg (by rw [hleft, Bool.false_eq_true, or_false]; omega)]
  refine ⟨?_, heq⟩
  rw [heq, Dev.paneState, Dev.fld, Dev.reg_linkRecord _ _ _ _ _ _ (paneStatus_apart q hq).2.2]
  rfl

/-! ### Bring-up and its losses (R380, R381) -/

/-- A Pane in LOCK. -/
def Dev.paneLock (d : Dev) (p : Nat) : Dev := (d.setPaneState p 2).setPane p { d.pane p with good := 0, bad := 0, uncors := [], since := d.tick }

theorem exec_paneRxLock (p : Fin 8) (s : State) (h : s.dev.paneState p = 1) : exec (.paneRxLock p) s = .next { s with dev := s.dev.paneLock p } := by
  change execPaneRxLock p s = _
  unfold execPaneRxLock
  rw [onDev_next]
  exact congrArg (fun e : Dev => Host.Outcome.next { s with dev := e }) (if_pos h)

theorem exec_receiverLockLoss (p : Fin 8) (s : State) (h : 2 ≤ s.dev.paneState p) :
    exec (.receiverLockLoss p) s = .next { s with dev := s.dev.paneLeave p 1 2 } := by
  change execReceiverLockLoss p s = _
  unfold execReceiverLockLoss
  rw [onDev_next]
  simp only [h, true_or, if_true]

theorem exec_receiverLockLoss_same (p : Fin 8) (s : State) (h : s.dev.paneState p < 2) (hleft : s.dev.leftNow p = false) :
    exec (.receiverLockLoss p) s = .next s := by
  change execReceiverLockLoss p s = _
  unfold execReceiverLockLoss
  rw [onDev_next]
  simp only [Nat.not_le.mpr h, hleft, Bool.false_eq_true, or_self, if_false]

/-- A Pane that leaves UP: its new state, the reason, the count, and its channels where it is not in the bond. -/
theorem Dev.paneLeave_up (d : Dev) (p st reason : Nat) (hp : p < 8) (hst : st < 8) (hr : reason < 16) (hup : d.paneState p = 4)
    (hsmall : (d.reg (opt + Off.DOWNS p)).toNat + 1 < 2 ^ 32) : (d.paneLeave p st reason).paneState p = st
      ∧ (d.paneLeave p st reason).fld (opt + Off.PANE_STATUS p) Fl.PANE_STATUS_LAST_REASON = reason
      ∧ ((d.paneLeave p st reason).reg (opt + Off.DOWNS p)).toNat = (d.reg (opt + Off.DOWNS p)).toNat + 1
      ∧ (d.isBond p = false → ∀ ty ch, ty < 16 → ch < 4096 → (d.paneLeave p st reason).chan (d.chanKey p ty ch) = Chan.fresh) := by
  have hleft : d.leftNow p = false := d.leftNow_of_past p (by omega)
  have hdown : d.paneLeave p st reason = (d.paneTo p st reason).paneDown p reason := by
    rw [d.paneLeave_eq p st reason hleft, if_neg (by rw [hup]; decide)]
  have hdowns : (d.paneTo p st reason).reg (opt + Off.DOWNS p) = d.reg (opt + Off.DOWNS p) := d.paneTo_reg p st reason (downs_apart p hp).1
  have hbond : (d.paneTo p st reason).isBond p = d.isBond p := by
    rw [Dev.isBond, Dev.fld, d.paneTo_reg p st reason (paneStatus_apart p hp).2.1.symm]
    rfl
  refine ⟨d.paneLeave_state p st reason hp hst hleft, ?_, ?_, fun hb ty ch hty hch => ?_⟩
  · rw [hdown, Dev.paneDown_reason _ p reason hp hr]
  · rw [hdown, Dev.paneDown_downs _ p reason hp (by rwa [hdowns]), hdowns]
  · have hkey : d.chanKey p ty ch = (d.paneTo p st reason).chanKey p ty ch := by rw [Dev.chanKey, Dev.chanKey, hbond]
    rw [hdown, hkey]
    exact Dev.paneDown_chan _ p reason ty ch (by rwa [hbond]) hty hch

/-- A HELLO is queued. -/
def Dev.sendHello (d : Dev) (p : Nat) : Dev := d.setPane p { d.pane p with helloAt := some d.tick, ctl := (d.pane p).ctl ++ [d.helloBytes] }

theorem exec_helloSend (p : Fin 8) (s : State) (h : s.dev.paneState p = 3) (hnone : (s.dev.pane p).helloAt = none) :
    exec (.helloSend p) s = .next { s with dev := s.dev.sendHello p } := by
  change execHelloSend p s = _
  unfold execHelloSend
  rw [onDev_next]
  refine congrArg (fun e : Dev => Host.Outcome.next { s with dev := e }) (if_pos ?_)
  exact ⟨h, by rw [hnone]⟩

theorem exec_helloTimeout (p : Fin 8) (s : State) (h : s.dev.paneState p = 3 ∧ (s.dev.pane p).gotHello = false ∧ (s.dev.pane p).since + 250000 ≤ s.dev.tick) :
    exec (.helloTimeout p) s = .next { s with dev := s.dev.paneLeave p 2 4 } := by
  change execHelloTimeout p s = _
  unfold execHelloTimeout
  rw [onDev_next]
  exact congrArg (fun e : Dev => Host.Outcome.next { s with dev := e }) (if_pos h)

theorem exec_helloTimeout_same (p : Fin 8) (s : State) (h : (s.dev.pane p).gotHello = true) : exec (.helloTimeout p) s = .next s := by
  change execHelloTimeout p s = _
  unfold execHelloTimeout
  rw [onDev_next]
  simp only [h, Bool.true_eq_false, false_and, and_false, if_false]

/-- A Pane in ALIGN falls back: its state, and the tick of the change. -/
theorem Dev.paneLeave_align (d : Dev) (p st reason : Nat) (hp : p < 8) (hst : st < 8) (h : d.paneState p = 3) :
    (d.paneLeave p st reason).paneState p = st ∧ ((d.paneLeave p st reason).pane p).since = d.tick := by
  have hleft : d.leftNow p = false := d.leftNow_of_past p (by omega)
  refine ⟨d.paneLeave_state p st reason hp hst hleft, ?_⟩
  rw [d.paneLeave_eq p st reason hleft, if_pos (by rw [h]; decide), Dev.paneTo, Dev.pane_setPane, if_pos rfl]
  rfl

end Sys2Proof.Machine
end

section
namespace Sys2Proof.Claims
open Sys2Proof Sys2Proof.Machine

/-- What a heater near its limit does, after the margin is shown (R382). -/
theorem ringTuneStep_gives (s : State) (k : Fin 2) (i : Fin 4) (m least : BitVec 8) (hc : s.dev.caseState k = 2)
    (hh : (s.dev.fld (opt + Off.OPT_EXP) Fl.OPT_EXP_TUNE_HOLD).testBit k = false) :
    let d := s.dev
    let cs := opt + Off.CASE_STATUS k
    let q := 4 * k.val + i.val
    ((2 < m.toNat ∨ (d.pane q).near = true) → GivesDev (.ringTuneStep k i m least) s
      ((d.setFld cs Fl.CASE_STATUS_MARGIN least.toNat).setPane q { d.pane q with near := decide (m.toNat ≤ 2) }))
    ∧ (m.toNat ≤ 2 → (d.pane q).near = false → d.leftNow q = false →
        (2 ≤ d.paneState q → Gives (.ringTuneStep k i m least) s (fun t => t.dev.paneState q = 1
          ∧ t.dev.caseState k = 2 ∧ t.dev.fld cs Fl.CASE_STATUS_MARGIN = least.toNat))
        ∧ (d.paneState q < 2 → (d.waiting (srcCase q)).length < 8 → Gives (.ringTuneStep k i m least) s (fun t => t.dev.paneState q = d.paneState q
          ∧ Recorded t.dev (srcCase q) kLINK 0x04))) := by
  intro d cs q
  have hq : q < 8 := by omega
  have hstep := exec_ringTuneStep k i m least s hc hh
  refine ⟨fun hfar => ?_, fun hm hnear hleft => ?_⟩
  · rw [Dev.ringStep, if_pos hfar] at hstep
    exact hstep
  · rw [Dev.ringStep, if_neg (by rw [hnear, Bool.false_eq_true, or_false]; omega)] at hstep
    have hstate := d.ringMoved_paneState k q least.toNat (decide (m.toNat ≤ 2))
    have hleft' := (d.ringMoved_leftNow k q least.toNat (decide (m.toNat ≤ 2))).trans hleft
    refine ⟨fun hpast => ⟨_, hstep, ?_⟩, fun hbefore hroom => ⟨_, hstep, ?_⟩⟩
    · obtain ⟨hone, hreg⟩ := Dev.ringLimit_past _ k q k.isLt hq (by rwa [hstate]) hleft'
      obtain ⟨hcase, hmargin⟩ := d.ringMoved_caseStatus k q least (decide (m.toNat ≤ 2))
      refine ⟨hone, (Dev.caseState_of_reg hreg).trans (hcase.trans hc), (congrArg Fl.CASE_STATUS_MARGIN.get hreg).trans hmargin⟩
    · obtain ⟨hsame, hrec⟩ := Dev.ringLimit_before _ q hq (by rwa [hstate]) hleft'
      refine ⟨hsame.trans hstate, ?_⟩
      refine hrec ▸ recorded_emit _ _ ?_ (show kLINK < 256 by decide) (show 0x04 < 256 by decide)
      exact (congrArg List.length (d.ringMoved_waiting k q least.toNat _ (srcCase q))).trans_lt hroom

/-- Settles O31: an equation of each event under its conditions, and what the change of a Pane's state leaves. -/
theorem linkBringUp : Obligations.LinkBringUp := by
  unfold Obligations.LinkBringUp
  intro s k p
  refine ⟨?arrive, fun hoff => ⟨exec_lightArrive_off k s hoff, exec_laserLoss_off k s hoff⟩, ?tuned, fun m h => exec_casementLit_same k m s h, ?loss,
    fun i m least hc hh => ringTuneStep_gives s k i m least hc hh, fun h => exec_paneRxLock p s h, ?lockLoss, exec_receiverLockLoss_same p s, ?hello, ?timeout,
    exec_helloTimeout_same p s⟩
  case arrive =>
    intro hst hdown hon
    refine ⟨_, exec_lightArrive k s hon, ?_⟩
    have hlit : (s.dev.withLit (k.val :: s.dev.lit.filter (· != k.val))).lit.contains k.val = true := by simp [Dev.withLit]
    rw [Dev.caseLight_tunes _ k.val hlit hst hdown hon]
    refine ⟨?_, Dev.fld_setFld_same _ _ _ _ (by decide), ?_⟩
    · exact (Dev.fld_setFld_apart _ _ _ _ _ (by decide) (by decide)).trans (Dev.fld_setFld_same _ _ _ _ (by decide))
    · rw [Dev.setCase, Dev.setFld_panes, Dev.setCase, Dev.setFld_panes, Dev.withLit_panes]
  case tuned => exact fun m hst => ⟨_, exec_casementLit k m s hst, s.dev.caseTuned_lights k k.isLt m⟩
  case loss => exact fun hon hl => ⟨_, exec_laserLoss k s hon hl, Dev.darkened_shows _ k k.isLt⟩
  case lockLoss =>
    exact fun hup hsmall => ⟨_, exec_receiverLockLoss p s (by rw [hup]; decide), s.dev.paneLeave_up p 1 2 p.isLt (by decide) (by decide) hup hsmall⟩
  case hello => exact fun h hnone => exec_helloSend p s h hnone
  case timeout => exact fun h hgot ht => ⟨_, exec_helloTimeout p s ⟨h, hgot, ht⟩, s.dev.paneLeave_align p 2 4 p.isLt (by decide) h⟩

end Sys2Proof.Claims
end

section
/-! SUPPORT. The reset of a side while a rollback is stuck on a unit that there is not (O45). -/

namespace Sys2Proof.Machine

/-- The unit number whose EP_UNIT stands where MESH_STATUS of side 0 stands; the units are 0 to 5. -/
def wildUnit : Nat := ((Block.mesh 0).base + Off.MESH_STATUS - (Block.gctl.base + Off.EP_UNIT 0)) / 4

/-- The device at reset with side 0 contained, and the rollback of epoch 1 stuck there with that unit pending. -/
def Dev.stuckWild : Dev :=
  { ((Dev.atReset.setFld ((Block.mesh 0).base + Off.MESH_STATUS) Fl.MESH_STATUS_CONTAINED 1).setFld epo Fl.EP_STATUS_EPOCH 1).setFld epo Fl.EP_STATUS_STATE 4 with
    epoch := some ⟨3, 0, (0, 0), (0, 0), 0, [wildUnit], [], [], 0, false⟩ }

/-- Side 0 is contained. -/
theorem Dev.stuckWild_contained : Dev.stuckWild.contained (0 : Fin 2) = true := by decide +kernel

/-- The device after the reset of side 0. -/
def Dev.afterSideReset (d : Dev) : Dev :=
  match execSideReset 0 { State.reset with dev := d } with
  | .next t => t.dev
  | _ => d

/-- The reset's end of the rollback writes the epoch number 1 over MESH_STATUS, whose bit 0 is CONTAINED. -/
theorem Dev.stuckWild_reset : Dev.stuckWild.afterSideReset.contained (0 : Fin 2) = true := by decide +kernel

/-- The device a reset of side 0 gives. -/
theorem Dev.afterSideReset_eq {d : Dev} {t : State} (h : exec (.sideReset 0) { State.reset with dev := d } = .next t) : d.afterSideReset = t.dev := by
  change execSideReset 0 { State.reset with dev := d } = .next t at h
  rw [Dev.afterSideReset, h]

end Sys2Proof.Machine
end

section
namespace Sys2Proof.Claims
open Sys2Proof Sys2Proof.Machine

/-- Refutes O45: a state whose epoch holds a pending unit past the six, the one whose EP_UNIT register stands where MESH_STATUS of side 0 stands. The reset of
the contained side 0 ends the rollback stuck there and writes that register, and the side is contained again, where the statement has it contained no longer. -/
theorem not_coreAndLatchCommands : ¬ Obligations.CoreAndLatchCommands := by
  unfold Obligations.CoreAndLatchCommands
  intro h
  obtain ⟨-, -, hreset⟩ := h { State.reset with dev := Dev.stuckWild } 0 0
  obtain ⟨t, ht, hfree, -⟩ := (hreset 0).2 Dev.stuckWild_contained
  rw [← Dev.afterSideReset_eq ht, Dev.stuckWild_reset] at hfree
  cases hfree

end Sys2Proof.Claims
end

section
/-! SUPPORT. The bundle of one slot as the statements speak of it: the slot commands, and a bundle that issues, waits, or stops its core (R38, R47, R72). -/

namespace Sys2Proof.Machine

/-! ### Fields and counters of a core -/

/-- A field just written. -/
theorem Core.fld_setFld_same (c : Core) (o : Nat) (f : Fld) (v : Nat) (hf : f.fits = true) : (c.setFld o f v).fld o f = v % 2 ^ f.len := by
  unfold Core.fld
  rw [Core.reg_setFld, if_pos rfl, f.get_put hf]

/-- A field of the same register apart from the one written. -/
theorem Core.fld_setFld_apart (c : Core) (o : Nat) (f g : Fld) (v : Nat) (hf : f.fits = true) (h : f.apart g = true) :
    (c.setFld o f v).fld o g = c.fld o g := by
  unfold Core.fld
  rw [Core.reg_setFld, if_pos rfl, f.get_put_apart g hf h]

/-- A field of another register. -/
theorem Core.fld_setFld_ne (c : Core) (o j : Nat) (f g : Fld) (v : Nat) (h : j ≠ o) : (c.setFld o f v).fld j g = c.fld j g := by
  unfold Core.fld
  rw [Core.reg_setFld, if_neg h]

/-- A field of another register than the one written. -/
theorem Core.fld_setReg_ne (c : Core) (o j : Nat) (f : Fld) (w : Word) (h : j ≠ o) : (c.setReg o w).fld j f = c.fld j f := by
  unfold Core.fld
  rw [Core.reg_setReg, if_neg h]

/-- A counter that does not wrap is one register write. -/
theorem Core.bump_small (c : Core) (o n : Nat) (h : (c.reg o).toNat + n < 2 ^ 32) : c.bump o n = c.setReg o (wd ((c.reg o).toNat + n)) := by
  unfold Core.bump
  exact if_pos h

/-! ### The slot commands -/

/-- A slot command acts on the device alone, as its slot. -/
theorem exec_slot {i : Instr} {c : Code} (hc : slotCode i = some c) (s : State) : exec i s = .next { s with dev := s.dev.slot i } := by
  cases i with
  | snop | add | sub | and | or | xor | sll | srl | sra | slt | sltu | min | max | mul | mulh | addi | andi | ori | xori | slli | srli | srai | slti | lui
  | ldw | stw | rdcr | rdcyc | rdcych | beq | bne | blt | bge | bltu | bgeu | jmp | recv | racq | rrel | qwait | ppt | trap | endBatch | vnop | vadd
  | vsub | vadds | vsubs | vmul | vmulh | vmac | vmacs | vmin | vmax | vand | vor | vxor | vsll | vsrl | vsra | vsrar | vcmpeq | vcmpne | vcmplt | vcmple
  | vcmpgt | vcmpge | vclamp | vsel | vmov | vneg | vabs | vnot | vslli | vsrli | vsrai | vsrari | vaddi | vperm | vpermi | viota | vmtov | mand | mor
  | mxor | mandn | mnot | mset | mlow | vrrow | vrcol | vrall | vlut | vlutst | req | vld | vst | vldx | vstx | accLd | vsumAny | vsumAll | vsumCount
  | vsumFirst | vsumMax | vsumMin | vsumLane0 | xnop | mm | mmz | mmew | dma | ovl | ladd | lsub | lset | lcas | lseqadv | lread | lwatch | send => rfl
  | _ => cases hc

/-- The device in which the bundle of core `k` runs: no slot of it is kept any more. -/
def Dev.bundleDev (d : Dev) (k : Nat) : Dev := (d.setStage k []).setCore k (d.core k)

@[simp] theorem Dev.bundleDev_core (d : Dev) (k j : Nat) : (d.bundleDev k).core j = d.core j := by
  unfold Dev.bundleDev
  rw [Dev.core_setCore]
  split
  · next h => rw [h]
  · rfl

@[simp] theorem Dev.bundleDev_cycles (d : Dev) (k j : Nat) : (d.bundleDev k).cycles j = d.cycles j := by
  unfold Dev.cycles
  rw [Dev.bundleDev_core]
  rfl

/-- A bundle of one slot that issues, on a core that neither steps singly nor takes a preemption point. -/
theorem Dev.runBundle_issues (d : Dev) (k n : Nat) (op : SlotOp) (hr : (op.reads ++ op.dest.toList).any ((d.core k).pendingAt (d.cycles k)) = false)
    {upd : Core → Core} {npc : Option Nat} {y : Core} (hrun : op.run d (d.core k) = .ok upd npc)
    (hy : ({ upd (d.core k).newCycle with ready := (d.core k).noteReady (d.cycles k) [op] } : Core).issued (d.core k).pc npc = y)
    (hout : y.out = []) (hstep : y.fld Off.DBG_CTRL Fl.DBG_CTRL_SSTEP ≠ 1) (hppt : y.pptEntry = none) : d.runBundle k [(n, op)] = d.setCore k y := by
  rw [Dev.runBundle_one d k n op hr, hrun]
  simp only [hy]
  rw [Dev.putCore_quiet _ _ _ hout]
  simp [Dev.singleStep, hstep, hppt]

/-- The core `x` in the cycle that began with `c`: nothing of it has reached the banks (R178, R179). -/
def Core.inCycleOf (x c : Core) : Core := { x with wrote := [], ueWas := c.ue, ceWas := c.ce, arrWrote := [], met := false }

/-! ### A core that waits (R38, R70, R76) -/

section
variable (c : Core) (tick party : Nat) (timed : Bool) {kind : Nat} (hcount : (c.reg (stallCounter kind)).toNat + 1 < 2 ^ 32)

/-- A stall counter is one of four registers. -/
theorem stallCounter_ne_status (w : Nat) : stallCounter w ≠ Off.CORE_STATUS := by
  unfold stallCounter
  split_ifs <;> decide

include hcount

/-- A bundle that waits writes WAIT and its counter. -/
theorem Core.waited_eq : c.waited tick kind party timed =
    { ((c.newCycle.setFld Off.CORE_STATUS Fl.CORE_STATUS_WAIT kind).setReg (stallCounter kind) (wd ((c.reg (stallCounter kind)).toNat + 1))) with
      cyc := c.cyc + 1, waitSince := if timed then c.waitSince.or (some tick) else none, waitParty := if timed then party else 0 } := by
  have hreg : (c.newCycle.setFld Off.CORE_STATUS Fl.CORE_STATUS_WAIT kind).reg (stallCounter kind) = c.reg (stallCounter kind) := by
    rw [Core.reg_setFld, if_neg (stallCounter_ne_status kind)]
    rfl
  unfold Core.waited
  rw [Core.bump_small _ _ _ (by rw [hreg]; exact hcount), hreg]
  rfl

/-- The counter of a wait rises by one. -/
theorem Core.waited_counter : ((c.waited tick kind party timed).reg (stallCounter kind)).toNat = (c.reg (stallCounter kind)).toNat + 1 := by
  rw [Core.waited_eq c tick party timed hcount]
  refine (congrArg BitVec.toNat (Core.reg_setReg _ _ _ _)).trans ?_
  rw [if_pos rfl, wd, BitVec.toNat_ofNat]
  omega

/-- WAIT shows what a bundle waits for. -/
theorem Core.waited_wait (hkind : kind < 8) : (c.waited tick kind party timed).fld Off.CORE_STATUS Fl.CORE_STATUS_WAIT = kind := by
  rw [Core.waited_eq c tick party timed hcount]
  refine (Core.fld_setReg_ne _ _ _ _ _ (stallCounter_ne_status kind).symm).trans ?_
  rw [Core.fld_setFld_same _ _ _ _ (by decide)]
  exact Nat.mod_eq_of_lt hkind

end

/-! ### A core that stops, and its job (R72) -/

/-- The stop keeps what it does not name. -/
theorem Core.stopped_keeps (c : Core) (code slot addr : Nat) :
    { c.stopped code slot addr with
      state := c.state, waitSince := c.waitSince, pptEntry := c.pptEntry, ending := c.ending, stepStop := c.stepStop, regs := c.regs } = c := rfl

/-- CORE_CAUSE of a stopped core. -/
theorem Core.stopped_cause (c : Core) {code slot : Nat} (addr : Nat) (hcode : code < 256) (hslot : slot < 4) :
    (c.stopped code slot addr).fld Off.CORE_CAUSE Fl.CORE_CAUSE_CAUSE = code ∧ (c.stopped code slot addr).fld Off.CORE_CAUSE Fl.CORE_CAUSE_SLOT = slot := by
  have hreg : (c.stopped code slot addr).reg Off.CORE_CAUSE = Fl.CORE_CAUSE_SLOT.put (wd code) slot := by
    simp [Core.stopped, Core.setFld, Off.CORE_CAUSE, Off.CORE_STATUS, Off.FAULT_ADDR_LO, Off.FAULT_ADDR_HI]
  constructor
  · rw [Core.fld, hreg, Fld.get_put_apart _ _ (by decide) (by decide)]
    simp only [Fld.get, Fl.CORE_CAUSE_CAUSE, wd, BitVec.toNat_ofNat]
    omega
  · rw [Core.fld, hreg, Fld.get_put _ (by decide)]
    exact Nat.mod_eq_of_lt hslot

/-- A core stopped with its job leaves the others. -/
theorem Dev.stopWithJob_core_ne (d : Dev) {k j : Nat} (h : j ≠ k) : (d.stopWithJob k).core j = d.core j := by
  simp [Dev.stopWithJob, Dev.coreRecord, Dev.abortStage, h]

/-- A completed watch leaves the cores. -/
theorem Dev.completeWatch_cores (d : Dev) (cl : Nat) (w : Watch) (st : Nat) (slot : Bool) : (d.completeWatch cl w st slot).cores = d.cores := by
  unfold Dev.completeWatch
  cases w.batch with
  | some b => rfl
  | none =>
    simp only
    split
    · rw [Dev.emit_cores]
    · rfl

/-- The Latch units' release of a job leaves the cores. -/
theorem Dev.latchRelease_cores (d : Dev) (j : Nat) (st : Option Nat) : (d.latchRelease j st).cores = d.cores := by
  refine Dev.each_keeps Dev.cores _ _ (fun d cl => ?_) d
  cases st with
  | none => rfl
  | some x => exact (Dev.each_keeps Dev.cores _ _ (fun d w => d.completeWatch_cores cl w x true) _).trans rfl

/-- A preemption's end leaves the cores. -/
theorem Dev.endPreempted_cores (d : Dev) (j : Nat) : (d.endPreempted j).cores = d.cores := by
  unfold Dev.endPreempted
  simp only
  split <;> rfl

/-- Cores alike read alike. -/
theorem Dev.core_of_cores {d e : Dev} (h : e.cores = d.cores) (k : Nat) : e.core k = d.core k := by
  unfold Dev.core
  rw [h]

/-- A failing job leaves a core that has stopped already, and does not stand by single step. -/
theorem Dev.failJob_core_stopped (d : Dev) (j : Nat) {k : Nat} (hs : (d.core k).state = .stopped) (hstep : (d.core k).stepStop = false) :
    (d.failJob j).core k = d.core k := by
  unfold Dev.failJob
  simp only
  split
  · rfl
  · rw [Dev.core_of_cores (Dev.latchRelease_cores _ j _)]
    refine (Dev.each_keeps_of_mem (fun d => d.core k) _ _ (fun d x hx => d.stopWithJob_core_ne ?_) _).trans (Dev.core_of_cores (d.endPreempted_cores j) k)
    rintro rfl
    have hlive := (List.mem_filter.mp hx).2
    simp [Dev.core_of_cores (Dev.endPreempted_cores _ j), hs, hstep] at hlive

/-- The failing job of a core leaves a core that has stopped already. -/
theorem Dev.failCoreJob_core_stopped (d : Dev) (q : Nat) {k : Nat} (hs : (d.core k).state = .stopped) (hstep : (d.core k).stepStop = false) :
    (d.failCoreJob q).core k = d.core k := by
  unfold Dev.failCoreJob
  cases (d.core q).jobOf with
  | none => rfl
  | some j => exact d.failJob_core_stopped j hs hstep

@[simp] theorem Dev.sramRecord_cores (d : Dev) (code src issuer holder gran : Nat) : (d.sramRecord code src issuer holder gran).cores = d.cores := by
  unfold Dev.sramRecord
  simp only [Dev.free, Dev.emit_cores]

/-- The core that an exception stops (R72). -/
theorem Dev.coreStop_core (d : Dev) (k code slot addr wait lr : Nat) : (d.coreStop k code slot addr wait lr).core k = (d.core k).stopped code slot addr := by
  have hrec : ∀ e : Dev, e.core k = (d.core k).stopped code slot addr → (e.failCoreJob k).core k = (d.core k).stopped code slot addr := fun e he => by
    rw [Dev.failCoreJob_core_stopped e k (by rw [he]; rfl) (by rw [he]; rfl), he]
  unfold Dev.coreStop
  refine hrec _ ?_
  split
  · rw [Dev.core_of_cores (Dev.sramRecord_cores _ _ _ _ _ _)]
    simp [Dev.coreRecord, Dev.abortStage]
  · simp [Dev.coreRecord, Dev.abortStage]

/-- The core that the fault of a slot stops. -/
theorem Dev.slotStop_core (d : Dev) (k : Nat) (f : Nat × Nat × Nat) : ∃ addr, (d.slotStop k f).core k = (d.core k).stopped f.1 f.2.1 addr := by
  unfold Dev.slotStop
  split
  · exact ⟨_, d.coreStop_core k _ _ _ _ _⟩
  · exact ⟨_, d.coreStop_core k _ _ _ _ _⟩

end Sys2Proof.Machine

namespace Sys2Proof.Claims
open Sys2Proof Sys2Proof.Machine

/-! ### A bundle of one slot -/

/-- The command is slot `n` of a bundle `b`, with the operation `op`. -/
structure IsSlot (i : Instr) (b : Bun) (n : Nat) (op : SlotOp) : Prop where
  code : ∃ w f, slotCode i = some ⟨b, n, w, f⟩
  op : opOf i = some op

/-- A core that can begin a bundle issues bundles. -/
theorem Open.issues {d : Dev} {k : Nat} (h : Open d k) : (d.core k).issues = true := by
  simp [Core.issues, h.running, h.noPpt, h.open']

/-- Only core `k` changes where its bundle leaves a core in its place. -/
theorem onlyCore_bundle (s : State) (k : Nat) (c : Core) : OnlyCore s { s with dev := (s.dev.bundleDev k).setCore k c } k where
  queue := rfl
  bolt := rfl
  others j h := by
    rw [Dev.core_setCore, if_neg h, Dev.bundleDev_core]
  device := rfl
  bundle := by simp [Dev.bundleDev]
  bundles j h := by simp [Dev.bundleDev, h]

/-- The core `x` that the slot `op` of core `k` leaves, with its results pending and the PC moved on. -/
def issuedCore (s : State) (k : Nat) (op : SlotOp) (x : Core) (npc : Option Nat) : Core :=
  { x with ready := (s.dev.core k).noteReady (s.dev.cycles k) [op] }.issued (s.dev.core k).pc npc

/-- From `c` to `c'` a bundle began to wait, or waited on, for the condition `kind`. -/
structure WaitsOn (c c' : Core) (kind : Nat) : Prop where
  pc : c'.pc = c.pc
  sregs : c'.sregs = c.sregs
  lq : c'.lq = c.lq
  wait : c'.fld Off.CORE_STATUS Fl.CORE_STATUS_WAIT = kind
  counter : (c'.reg (stallCounter kind)).toNat = (c.reg (stallCounter kind)).toNat + 1

/-- A bundle that waits, whoever finds it waiting. -/
theorem gives_waited {i : Instr} {s : State} {k kind party tick : Nat} {timed : Bool}
    (he : exec i s = .next { s with dev := (s.dev.bundleDev k).putCore k ((s.dev.core k).waited tick kind party timed) })
    (hquiet : (s.dev.core k).out = []) (hkind : kind < 8) (hcount : ((s.dev.core k).reg (stallCounter kind)).toNat + 1 < 2 ^ 32) :
    Gives i s (fun t => OnlyCore s t k ∧ WaitsOn (s.dev.core k) (t.dev.core k) kind) := by
  have heq := (s.dev.core k).waited_eq tick party timed hcount
  refine ⟨_, he, ?_⟩
  rw [Dev.putCore_quiet _ _ _ (by rw [heq]; exact hquiet)]
  refine ⟨onlyCore_bundle _ _ _, ?_⟩
  rw [Dev.core_setCore, if_pos rfl]
  exact ⟨by rw [heq]; rfl, by rw [heq]; rfl, by rw [heq]; rfl, Core.waited_wait _ _ _ _ hcount hkind, Core.waited_counter _ _ _ _ hcount⟩

section
variable {i : Instr} {s : State} {b : Bun} {n : Nat} {op : SlotOp} (h : IsSlot i b n op) (hm : b.more = false)
include h hm

/-- A command that is the whole bundle runs its operation alone. -/
theorem exec_whole (hci : CanIssue s.dev b.core i) : exec i s = .next { s with dev := (s.dev.bundleDev b.core).runBundle b.core [(n, op)] } := by
  obtain ⟨w, f, hc⟩ := h.code
  obtain ⟨w', hf, hw⟩ := hci.fetched
  have hpart : [i].filterMap partOf = [(n, op)] := by simp [partOf, hc, h.op]
  rw [exec_slot hc, Dev.slot_whole s.dev i _ w' hc hci.issues hci.fresh hci.noInject hf hw hm, hpart]
  rfl

omit hm in
/-- Its registers are ready in the device in which the bundle runs. -/
theorem ready_bundle (hci : CanIssue s.dev b.core i) :
    (op.reads ++ op.dest.toList).any (((s.dev.bundleDev b.core).core b.core).pendingAt ((s.dev.bundleDev b.core).cycles b.core)) = false := by
  rw [Dev.bundleDev_cycles, Dev.bundleDev_core]
  exact hci.ready op h.op

/-- A slot that stops its core (R72, R74). -/
theorem exec_fault {code addr : Nat} (hci : CanIssue s.dev b.core i) (hrun : op.run (s.dev.bundleDev b.core) (s.dev.core b.core) = .fault code addr) :
    exec i s = .next { s with dev := (s.dev.bundleDev b.core).slotStop b.core (code, n, addr) } := by
  rw [exec_whole h hm hci, Dev.runBundle_one _ _ _ _ (ready_bundle h hci), Dev.bundleDev_core, hrun]

/-- The core after a fault of its slot. -/
theorem stops_of_fault {code addr : Nat} (hcode : code < 256) (hn : n < 4) (hci : CanIssue s.dev b.core i)
    (hrun : op.run (s.dev.bundleDev b.core) (s.dev.core b.core) = .fault code addr) : Stops i s b.core code n := by
  refine ⟨_, exec_fault h hm hci hrun, ?_⟩
  obtain ⟨a, hcore⟩ := (s.dev.bundleDev b.core).slotStop_core b.core (code, n, addr)
  simp only [hcore, Dev.bundleDev_core]
  obtain ⟨hcause, hslot⟩ := (s.dev.core b.core).stopped_cause a hcode hn
  exact ⟨rfl, hcause, hslot, rfl, rfl, rfl, rfl⟩

/-- A slot that waits (R38, R70, R75). -/
theorem exec_wait {kind party : Nat} (hci : CanIssue s.dev b.core i) (hrun : op.run (s.dev.bundleDev b.core) (s.dev.core b.core) = .wait kind party) :
    exec i s = .next { s with dev := (s.dev.bundleDev b.core).putCore b.core ((s.dev.core b.core).waited s.dev.tick kind party true) } := by
  rw [exec_whole h hm hci, Dev.runBundle_one _ _ _ _ (ready_bundle h hci), Dev.bundleDev_core, hrun]
  rfl

/-- A slot that issues, and leaves `x` before the PC moves on. -/
theorem exec_ok {upd : Core → Core} {npc : Option Nat} (hci : CanIssue s.dev b.core i)
    (hrun : op.run (s.dev.bundleDev b.core) (s.dev.core b.core) = .ok upd npc) {x : Core} (hx : upd (s.dev.core b.core).newCycle = x)
    (hout : x.out = []) (hstep : x.fld Off.DBG_CTRL Fl.DBG_CTRL_SSTEP ≠ 1) (hppt : x.pptEntry = none) :
    exec i s = .next { s with dev := (s.dev.bundleDev b.core).setCore b.core (issuedCore s b.core op x npc) } := by
  subst hx
  have hfld : (issuedCore s b.core op (upd (s.dev.core b.core).newCycle) npc).fld Off.DBG_CTRL Fl.DBG_CTRL_SSTEP =
      (upd (s.dev.core b.core).newCycle).fld Off.DBG_CTRL Fl.DBG_CTRL_SSTEP := Core.fld_setFld_ne _ _ _ _ _ _ (by decide)
  have hbundle := Dev.runBundle_issues (s.dev.bundleDev b.core) b.core n op (ready_bundle h hci) (upd := upd) (npc := npc)
    (y := issuedCore s b.core op (upd (s.dev.core b.core).newCycle) npc)
  simp only [Dev.bundleDev_core, Dev.bundleDev_cycles] at hbundle
  rw [exec_whole h hm hci, hbundle hrun rfl hout (by rw [hfld]; exact hstep) hppt]

/-- A slot that issues and leaves `x` in the cycle of its bundle: the core retires. -/
theorem exec_retire {upd : Core → Core} {npc : Option Nat} (hci : CanIssue s.dev b.core i)
    (hrun : op.run (s.dev.bundleDev b.core) (s.dev.core b.core) = .ok upd npc) {x : Core}
    (hx : upd (s.dev.core b.core).newCycle = x.inCycleOf (s.dev.core b.core))
    (hout : x.out = []) (hstep : x.fld Off.DBG_CTRL Fl.DBG_CTRL_SSTEP ≠ 1) (hppt : x.pptEntry = none) :
    exec i s = .next { s with dev := (s.dev.bundleDev b.core).setCore b.core
                                (retire s b.core i x (npc.getD ((s.dev.core b.core).pc + 1)) (if npc.isSome then 3 else 1)) } := by
  rw [exec_ok h hm hci hrun hx hout hstep hppt]
  simp only [issuedCore, retire, h.op]
  rfl

/-- A slot that issues and leaves `x` in the cycle of its bundle. -/
theorem gives_retire {upd : Core → Core} {npc : Option Nat} (hci : CanIssue s.dev b.core i)
    (hrun : op.run (s.dev.bundleDev b.core) (s.dev.core b.core) = .ok upd npc) {x : Core}
    (hx : upd (s.dev.core b.core).newCycle = x.inCycleOf (s.dev.core b.core))
    (hout : x.out = []) (hstep : x.fld Off.DBG_CTRL Fl.DBG_CTRL_SSTEP ≠ 1) (hppt : x.pptEntry = none) :
    Gives i s (fun t => OnlyCore s t b.core ∧
      t.dev.core b.core = retire s b.core i x (npc.getD ((s.dev.core b.core).pc + 1)) (if npc.isSome then 3 else 1)) :=
  ⟨_, exec_retire h hm hci hrun hx hout hstep hppt, onlyCore_bundle _ _ _, by simp⟩

/-- A slot that waits leaves its core waiting. -/
theorem gives_wait {kind party : Nat} (hci : CanIssue s.dev b.core i) (hrun : op.run (s.dev.bundleDev b.core) (s.dev.core b.core) = .wait kind party)
    (hkind : kind < 8) (hcount : ((s.dev.core b.core).reg (stallCounter kind)).toNat + 1 < 2 ^ 32) :
    Gives i s (fun t => OnlyCore s t b.core ∧ WaitsOn (s.dev.core b.core) (t.dev.core b.core) kind) :=
  gives_waited (exec_wait h hm hci hrun) hci.quiet hkind hcount

end

/-- What a scalar write leaves in the cycle of its bundle. -/
theorem setS_newCycle (c : Core) (r : Nat) (x : Word) : c.newCycle.setS r x = (c.setS r x).inCycleOf c := by
  unfold Core.setS
  split <;> rfl

/-- Outside the scalar registers, a retired core does not tell a scalar write. -/
theorem retire_setS (s : State) (k : Nat) (i : Instr) (c : Core) (r : Nat) (x : Word) (next n : Nat) :
    { retire s k i (c.setS r x) next n with sregs := c.sregs } = retire s k i c next n := by
  unfold Core.setS
  split <;> rfl

end Sys2Proof.Claims
end

section
namespace Sys2Proof.Claims
open Sys2Proof Sys2Proof.Machine

/-! ### Scalar operations (O1) -/

/-- The readings of an immediate that the operations and the statements use. -/
theorem sx16_eq (x : BitVec 16) : sx16 x = sext x := rfl

theorem zx16_eq (x : BitVec 16) : zx16 x = zext x := by
  apply BitVec.eq_of_toNat_eq
  simp [zx16, zext]

theorem toInt_sx16 (x : BitVec 16) : (sx16 x).toInt = x.toInt := BitVec.toInt_signExtend_of_le (by decide)

theorem sh5_sx16 (x : BitVec 16) : sh5 (sx16 x) = x.toNat % 32 := by
  have h : (x.signExtend 32).toNat % 32 = x.toNat % 32 := by
    rw [BitVec.toNat_signExtend]
    simp only [BitVec.toNat_setWidth]
    split <;> omega
  exact h

theorem lui_eq (x : BitVec 21) : (x.zeroExtend 32 <<< 11 : Word) = BitVec.ofNat 32 (x.toNat * 2048) := by
  apply BitVec.eq_of_toNat_eq
  simp only [BitVec.toNat_shiftLeft, BitVec.toNat_setWidth, BitVec.toNat_ofNat, Nat.shiftLeft_eq]
  omega

theorem sMinW_eq (x y : Word) : sMinW x y = if x.sle y then x else y := by simp [sMinW, BitVec.sle]

theorem sMaxW_eq (x y : Word) : sMaxW x y = if x.sle y then y else x := by simp [sMaxW, BitVec.sle]

/-- What each scalar operation is to its bundle: the S slot, its destination and latency, and the value of its row (R41, R43, R44). -/
theorem scalarResult_slot {i : Instr} {b : Bun} {rd : Nat} {f : Core → Word} (h : scalarResult i = some (b, rd, f)) :
    ∃ op, IsSlot i b 1 op ∧ op.dest = some rd ∧ (∀ c, op.lat c = latency i) ∧ ∀ d c, op.run d c = .ok (fun cur => cur.setS rd (f c)) none := by
  cases i with
  | add | sub | and | or | xor | sll | srl | sra | slt | sltu | mul | mulh | rdcych =>
    cases h
    exact ⟨_, ⟨⟨_, _, rfl⟩, rfl⟩, rfl, fun _ => rfl, fun _ _ => rfl⟩
  | min b rd ra rb =>
    cases h
    refine ⟨_, ⟨⟨_, _, rfl⟩, rfl⟩, rfl, fun _ => rfl, fun _ c => ?_⟩
    simp only [← sMinW_eq]
    rfl
  | max b rd ra rb =>
    cases h
    refine ⟨_, ⟨⟨_, _, rfl⟩, rfl⟩, rfl, fun _ => rfl, fun _ c => ?_⟩
    simp only [← sMaxW_eq]
    rfl
  | addi | andi | ori | xori =>
    cases h
    refine ⟨_, ⟨⟨_, _, rfl⟩, rfl⟩, rfl, fun _ => rfl, fun _ c => ?_⟩
    simp only [← zx16_eq, ← sx16_eq]
    rfl
  | slli | srli | srai =>
    cases h
    refine ⟨_, ⟨⟨_, _, rfl⟩, rfl⟩, rfl, fun _ => rfl, fun _ c => ?_⟩
    simp only [← sh5_sx16]
    rfl
  | slti b rd ra imm =>
    cases h
    refine ⟨_, ⟨⟨_, _, rfl⟩, rfl⟩, rfl, fun _ => rfl, fun _ c => ?_⟩
    simp only [← toInt_sx16]
    rfl
  | lui b rd imm =>
    cases h
    refine ⟨_, ⟨⟨_, _, rfl⟩, rfl⟩, rfl, fun _ => rfl, fun _ c => ?_⟩
    simp only [← lui_eq]
    rfl
  | _ => cases h

/-- A slot that writes a scalar register and nothing else: the bundle retires with the write alone. -/
theorem gives_setS {i : Instr} {s : State} {b : Bun} {n : Nat} {op : SlotOp} (h : IsSlot i b n op) (hm : b.more = false) (hci : CanIssue s.dev b.core i)
    {rd : Nat} {v : Word} (hrun : op.run (s.dev.bundleDev b.core) (s.dev.core b.core) = .ok (fun cur => cur.setS rd v) none) :
    Gives i s (fun t => OnlyCore s t b.core ∧ t.dev.core b.core = retire s b.core i ((s.dev.core b.core).setS rd v) ((s.dev.core b.core).pc + 1) 1) := by
  refine gives_retire h hm hci hrun (setS_newCycle _ _ _) ?_ ?_ ?_
  · rw [Core.setS_out]
    exact hci.quiet
  · unfold Core.fld Core.reg
    rw [Core.setS_regs]
    exact hci.noStep
  · rw [Core.setS_pptEntry]
    exact hci.noPpt

/-- The same, register by register. -/
theorem gives_setS_each {i : Instr} {s : State} {b : Bun} {n : Nat} {op : SlotOp} (h : IsSlot i b n op) (hm : b.more = false) (hci : CanIssue s.dev b.core i)
    {rd : Nat} {v : Word} (hrun : op.run (s.dev.bundleDev b.core) (s.dev.core b.core) = .ok (fun cur => cur.setS rd v) none) :
    Gives i s (fun t => OnlyCore s t b.core ∧ (∀ r, (t.dev.core b.core).s r = if r = rd ∧ rd ≠ 0 then v else (s.dev.core b.core).s r)
      ∧ { t.dev.core b.core with sregs := (s.dev.core b.core).sregs } = retire s b.core i (s.dev.core b.core) ((s.dev.core b.core).pc + 1) 1) := by
  obtain ⟨t, he, honly, hcore⟩ := gives_setS h hm hci hrun
  refine ⟨t, he, honly, fun r => ?_, ?_⟩
  · rw [hcore]
    exact Core.s_setS _ _ _ _
  · rw [hcore]
    exact retire_setS _ _ _ _ _ _ _ _

/-- Settles O1: each row's operation is a write of its value (`scalarResult_slot`), and a bundle of one such slot retires with that write alone. -/
theorem Settled.scalarResult : Obligations.ScalarResult := by
  unfold Obligations.ScalarResult
  intro i s b rd f h hm hci
  obtain ⟨op, hop, -, -, hrun⟩ := scalarResult_slot h
  exact gives_setS_each hop hm hci (hrun _ _)

end Sys2Proof.Claims
end

section
namespace Sys2Proof.Claims
open Sys2Proof Sys2Proof.Machine

/-! ### Branches (O5) -/

/-- What each branch is to its bundle: the S slot, with its condition and its target (R47, R48). -/
theorem branch_slot {i : Instr} {b : Bun} {p : Core → Bool} {off : BitVec 16} (h : branch i = some (b, p, off)) :
    ∃ op, IsSlot i b 1 op ∧ ∀ d c, op.run d c = if p c then
        (if 0 ≤ (c.pc : Int) + off.toInt ∧ (c.pc : Int) + off.toInt < 4096 then .ok id (some ((c.pc : Int) + off.toInt).toNat) else .fault cPCRANGE 0)
      else .ok id none := by
  have hle (x y : Word) : decide (y.toInt ≤ x.toInt) = !x.slt y := by
    rw [BitVec.slt, ← decide_not]
    exact decide_eq_decide.mpr not_lt.symm
  have hule (x y : Word) : decide (y.toNat ≤ x.toNat) = !x.ult y := by
    rw [BitVec.ult, ← decide_not]
    exact decide_eq_decide.mpr not_lt.symm
  cases i with
  | beq | bne | blt | bltu | jmp =>
    cases h
    exact ⟨_, ⟨⟨_, _, rfl⟩, rfl⟩, fun _ _ => rfl⟩
  | bge | bgeu =>
    cases h
    refine ⟨_, ⟨⟨_, _, rfl⟩, rfl⟩, fun _ c => ?_⟩
    simp only [← hle, ← hule]
    rfl
  | _ => cases h

/-- A slot that changes no register retires the core as it is, at the PC that it gives. -/
theorem gives_id {i : Instr} {s : State} {b : Bun} {n : Nat} {op : SlotOp} (h : IsSlot i b n op) (hm : b.more = false) (hci : CanIssue s.dev b.core i)
    {npc : Option Nat} (hrun : op.run (s.dev.bundleDev b.core) (s.dev.core b.core) = .ok id npc) :
    Gives i s (fun t => OnlyCore s t b.core ∧
      t.dev.core b.core = retire s b.core i (s.dev.core b.core) (npc.getD ((s.dev.core b.core).pc + 1)) (if npc.isSome then 3 else 1)) :=
  gives_retire h hm hci hrun rfl hci.quiet hci.noStep hci.noPpt

/-- Settles O5: the three outcomes of a branch's slot (`branch_slot`), each with what its bundle does. -/
theorem branches : Obligations.Branches := by
  unfold Obligations.Branches
  intro i s b p off h hm hci c x
  obtain ⟨op, hop, hrun⟩ := branch_slot h
  replace hrun := hrun (s.dev.bundleDev b.core) (s.dev.core b.core)
  refine ⟨fun hp hlo hhi => ?_, fun hp => ?_, fun hp hout => ?_⟩
  · rw [if_pos hp, if_pos ⟨hlo, hhi⟩] at hrun
    exact gives_id hop hm hci hrun
  · rw [if_neg (ne_true_of_eq_false hp)] at hrun
    exact gives_id hop hm hci hrun
  · rw [if_pos hp, if_neg (fun ⟨hlo, hhi⟩ => hout.elim (not_lt.mpr hlo) (not_le.mpr hhi))] at hrun
    obtain ⟨t, he, hstate, hcause, hslot, hpc, hs, -⟩ := stops_of_fault hop hm (by decide) (by decide) hci hrun
    exact ⟨t, he, hstate, hcause, hslot, hpc, hs⟩

end Sys2Proof.Claims
end

section
/-! SUPPORT. The lanes that a V slot writes, and the reductions and summaries (R49, R113, R120). -/

namespace Sys2Proof.Machine

/-! ### The lanes written -/

/-- The vector registers after lane `l` of register `vd` was written, where `w` has a value for it. -/
def laneSet (vd : Nat) (w : Nat → Option Word) (t : Tab Word) (l : Nat) : Tab Word :=
  match w l with
  | some x => Tab.set 0 t (16 * vd + l) x
  | none => t

/-- The vector registers after the lanes `ls` of register `vd` were written. -/
def laneTab (vd : Nat) (w : Nat → Option Word) (ls : List Nat) (t : Tab Word) : Tab Word := ls.foldl (laneSet vd w) t

theorem get_laneSet (vd : Nat) (w : Nat → Option Word) (t : Tab Word) (l k : Nat) :
    Tab.get 0 (laneSet vd w t l) k = if k = 16 * vd + l then (w l).getD (Tab.get 0 t k) else Tab.get 0 t k := by
  unfold laneSet
  cases w l with
  | none => simp
  | some x => exact Tab.get_set 0 t _ k x

/-- A lane that is not among those written. -/
theorem get_laneTab_out (vd : Nat) (w : Nat → Option Word) (ls : List Nat) (t : Tab Word) {k : Nat} (h : ∀ l ∈ ls, k ≠ 16 * vd + l) :
    Tab.get 0 (laneTab vd w ls t) k = Tab.get 0 t k := by
  induction ls generalizing t with
  | nil => rfl
  | cons l ls ih =>
    refine (ih _ (fun l' hl' => h l' (List.mem_cons_of_mem l hl'))).trans ?_
    rw [get_laneSet, if_neg (h l List.mem_cons_self)]

/-- A lane written. -/
theorem get_laneTab_in (vd : Nat) (w : Nat → Option Word) (ls : List Nat) (t : Tab Word) {l : Nat} (h : l ∈ ls) :
    Tab.get 0 (laneTab vd w ls t) (16 * vd + l) = (w l).getD (Tab.get 0 t (16 * vd + l)) := by
  induction ls generalizing t with
  | nil => cases h
  | cons m ls ih =>
    by_cases hl : l ∈ ls
    · refine (ih _ hl).trans ?_
      rw [get_laneSet]
      by_cases hm : l = m
      · subst hm
        cases w l <;> simp
      · rw [if_neg (by omega)]
    · obtain rfl : l = m := (List.mem_cons.mp h).resolve_right hl
      refine (get_laneTab_out vd w ls _ (fun l' hl' he => hl ?_)).trans ?_
      · rwa [show l = l' by omega]
      · rw [get_laneSet, if_pos rfl]

/-- A vector register after the lanes of a register were written. -/
theorem get_laneTab (vd : Nat) (w : Nat → Option Word) (t : Tab Word) (r : Nat) {l : Nat} (hl : l < 16) :
    Tab.get 0 (laneTab vd w lanes t) (16 * r + l) = if r = vd then (w l).getD (Tab.get 0 t (16 * r + l)) else Tab.get 0 t (16 * r + l) := by
  split
  · next h => rw [h]; exact get_laneTab_in vd w lanes t (List.mem_range.mpr hl)
  · next h =>
    refine get_laneTab_out vd w lanes t (fun m hm => ?_)
    have := List.mem_range.mp hm
    omega

/-- A vector register of a core whose lanes `vd` were written. -/
theorem Core.v_of_laneTab {x c : Core} {vd : Nat} {w : Nat → Option Word} (h : x.vregs = laneTab vd w lanes c.vregs) (r : Nat) {l : Nat} (hl : l < 16) :
    x.v r l = if r = vd then (w l).getD (c.v r l) else c.v r l := by
  unfold Core.v
  rw [h]
  exact get_laneTab vd w c.vregs r hl

/-- A row of lane writes. -/
theorem foldl_setV (f : Core → Nat → Core) (vd : Nat) (w : Nat → Option Word)
    (hf : ∀ c l, f c l = { c with vregs := laneSet vd w c.vregs l }) (ls : List Nat) (c : Core) :
    ls.foldl f c = { c with vregs := laneTab vd w ls c.vregs } := by
  induction ls generalizing c with
  | nil => rfl
  | cons l ls ih =>
    rw [List.foldl_cons, ih, hf]
    rfl

/-- The enabled lanes of a mask. -/
theorem Core.enabled_contains (c : Core) (m l : Nat) : (c.enabled m).contains l = (c.m m).getLsbD l := by
  rw [Bool.eq_iff_iff, List.contains_iff_mem]
  simp only [Core.enabled, lanes, List.mem_filter, List.mem_range, and_iff_right_iff_imp]
  exact fun h => BitVec.lt_of_getLsbD h

end Sys2Proof.Machine
end

section
namespace Sys2Proof.Claims
open Sys2Proof Sys2Proof.Machine

/-! ### Reductions (O4) -/

/-- The value of a group by R120: what the function makes of the enabled lanes, 0 where the lane has no group. -/
def groupValue (c : Core) (m va fn : Nat) (g : List Nat) : Word :=
  let xs := (g.filter (fun l => (c.m m).getLsbD l)).map (fun l => (c.v va l).toInt)
  if g = [] then 0 else if fn = 0 then BitVec.ofInt 32 (sat xs.sum)
  else if fn = 1 then BitVec.ofInt 32 (xs.foldl max (-2147483648)) else BitVec.ofInt 32 (xs.foldl min 2147483647)

/-- The clamp of the saturating operations. -/
theorem clampI_eq_sat (x : Int) : clampI (-(2 ^ 31 - 1)) (2 ^ 31 - 1) x = sat x := by
  unfold clampI sat
  split_ifs <;> omega

/-- The value of a reduced group. -/
theorem reduceVals_value (c : Core) (m va fn : Nat) {g : List Nat} (hg : g ≠ []) :
    (reduceVals fn ((g.filter (fun l => (c.enabled m).contains l)).map (fun l => (c.v va l).toInt))).1 = groupValue c m va fn g := by
  simp only [Core.enabled_contains]
  match fn with
  | 0 => simp only [reduceVals, groupValue, hg, clampI_eq_sat, wi, List.sum_eq_foldl, if_true, if_false]
  | 1 => simp [reduceVals, groupValue, hg, wi]
  | n + 2 => simp [reduceVals, groupValue, hg, wi]

/-- The lane `d` of a reduction, and whether its sum was clamped. -/
def reducedLane (c : Core) (m va fn : Nat) (grp : Nat → Option (List Nat)) (d : Nat) : Word × Bool :=
  match grp d with
  | some ls => reduceVals fn ((ls.filter (fun l => (c.enabled m).contains l)).map (fun l => (c.v va l).toInt))
  | none => (0, false)

theorem reducedLane_value (c : Core) (m va fn : Nat) {grp : Nat → Option (List Nat)} (hgrp : ∀ d g, grp d = some g → g ≠ []) (d : Nat) :
    (reducedLane c m va fn grp d).1 = groupValue c m va fn ((grp d).getD []) := by
  unfold reducedLane
  cases h : grp d with
  | none => rfl
  | some g => exact reduceVals_value c m va fn (hgrp d g h)

/-- What a reduction of function 0 to 2 does to the core: it writes its lanes, and counts its clamped sums in VE_SAT. -/
theorem vReduce_runs (m vd va fn : Nat) (grp : Nat → Option (List Nat)) (c : Core) (hfn : fn < 3) (hgrp : ∀ d g, grp d = some g → g ≠ []) :
    ∃ n ≤ 16, vReduce m vd va fn grp c = .ok (fun cur =>
      ({ cur with vregs := laneTab vd (fun d => some (groupValue c m va fn ((grp d).getD []))) lanes cur.vregs } : Core).bumpIf Off.VE_SAT n) none := by
  refine ⟨(lanes.filter (fun d => (reducedLane c m va fn grp d).2)).length, List.length_filter_le _ lanes, (if_neg (by omega)).trans ?_⟩
  refine congrArg (SlotRes.ok · none) (funext fun cur => congrArg (Core.bumpIf · Off.VE_SAT _) (foldl_setV _ vd _ (fun c' l =>
    congrArg (c'.setV vd l) (reducedLane_value c m va fn hgrp l)) lanes cur))

/-- Groups given for some lanes, none of them empty. -/
theorem groups_of_ite (p : Nat → Prop) [DecidablePred p] (f : Nat → List Nat) (hf : ∀ d, f d ≠ []) :
    (∀ d, (if p d then some (f d) else none).getD [] = if p d then f d else []) ∧ ∀ d l, (if p d then some (f d) else none) = some l → l ≠ [] := by
  constructor
  · intro d
    split <;> rfl
  · intro d l h
    split at h
    · cases h
      exact hf d
    · cases h

/-- What each reduction is to its bundle: the V slot, with its groups. -/
theorem reduction_slot {i : Instr} {b : Bun} {m vd va fn : Nat} {grp : Nat → List Nat} (h : reduction i = some (b, m, vd, va, fn, grp)) :
    ∃ op g, IsSlot i b 2 op ∧ (∀ d c, op.run d c = vReduce m vd va fn g c) ∧ (∀ d, (g d).getD [] = grp d) ∧ ∀ d l, g d = some l → l ≠ [] := by
  cases i with
  | vrrow =>
    cases h
    exact ⟨_, rowGrp, ⟨⟨_, _, rfl⟩, rfl⟩, fun _ _ => rfl, groups_of_ite _ _ (fun _ => List.cons_ne_nil _ _)⟩
  | vrcol =>
    cases h
    exact ⟨_, colGrp, ⟨⟨_, _, rfl⟩, rfl⟩, fun _ _ => rfl, groups_of_ite _ _ (fun _ => List.cons_ne_nil _ _)⟩
  | vrall =>
    cases h
    exact ⟨_, allGrp, ⟨⟨_, _, rfl⟩, rfl⟩, fun _ _ => rfl, groups_of_ite _ _ (fun _ => by decide)⟩
  | _ => cases h

/-- A counter of at most `n` more in another place of the core: the registers after it, whatever the rest of the core. -/
theorem bumpIf_regs (c : Core) (o n : Nat) (h : (c.reg o).toNat + n < 2 ^ 32) :
    ∃ r : Tab Word, (∀ j, j ≠ o → Tab.get (coreRegReset j) r j = c.reg j) ∧ ∀ x : Core, x.regs = c.regs → x.bumpIf o n = { x with regs := r } := by
  by_cases h0 : n = 0
  · exact ⟨c.regs, fun _ _ => rfl, fun x hx => by rw [Core.bumpIf, if_pos h0, ← hx]⟩
  · refine ⟨(c.setReg o (wd ((c.reg o).toNat + n))).regs, fun j hj => (Core.reg_setReg c _ _ j).trans (if_neg hj), fun x hx => ?_⟩
    have hreg : x.reg o = c.reg o := by rw [Core.reg, Core.reg, hx]
    rw [Core.bumpIf, if_neg h0, Core.bump_small _ _ _ (by rw [hreg]; exact h), hreg]
    simp only [Core.setReg, hx]

/-- A reduction of function 0 to 2 issues. -/
theorem gives_reduction {i : Instr} {s : State} {b : Bun} {m vd va fn : Nat} {grp : Nat → List Nat} (h : reduction i = some (b, m, vd, va, fn, grp)) (hfn : fn < 3)
    (hm : b.more = false) (hci : CanIssue s.dev b.core i) (hsat : ((s.dev.core b.core).reg Off.VE_SAT).toNat + 16 < 2 ^ 32) :
    Gives i s (fun t => OnlyCore s t b.core ∧ ∃ r : Tab Word, (∀ o, o ≠ Off.VE_SAT → Tab.get (coreRegReset o) r o = (s.dev.core b.core).reg o) ∧
      t.dev.core b.core = retire s b.core i { s.dev.core b.core with
        regs := r
        vregs := laneTab vd (fun d => some (groupValue (s.dev.core b.core) m va fn (grp d))) lanes (s.dev.core b.core).vregs } ((s.dev.core b.core).pc + 1) 1) := by
  obtain ⟨op, g, hop, hrun, hg, hne⟩ := reduction_slot h
  obtain ⟨n, hn, hval⟩ := vReduce_runs m vd va fn g (s.dev.core b.core) hfn hne
  obtain ⟨r, hr, hbump⟩ := bumpIf_regs (s.dev.core b.core) Off.VE_SAT n (by omega)
  simp only [hg] at hval
  have hstep : Fl.DBG_CTRL_SSTEP.get (Tab.get (coreRegReset Off.DBG_CTRL) r Off.DBG_CTRL) ≠ 1 := by
    rw [hr Off.DBG_CTRL (by decide)]
    exact hci.noStep
  obtain ⟨t, he, honly, hcore⟩ := gives_retire hop hm hci ((hrun _ _).trans hval) (x := { s.dev.core b.core with
      regs := r
      vregs := laneTab vd (fun d => some (groupValue (s.dev.core b.core) m va fn (grp d))) lanes (s.dev.core b.core).vregs })
    (hbump _ rfl) hci.quiet hstep hci.noPpt
  exact ⟨t, he, honly, r, hr, hcore⟩

/-! ### Summaries (O4) -/

/-- The enabled lanes that a second mask holds too. -/
theorem enabled_filter (c : Core) (m ma : Nat) :
    (c.enabled m).filter (fun l => (c.m ma).getLsbD l) = (List.range 16).filter (fun l => (c.m m).getLsbD l && (c.m ma).getLsbD l) := by
  rw [Core.enabled, List.filter_filter, lanes]
  exact List.filter_congr fun _ _ => Bool.and_comm _ _

/-- A mask is 0 where no lane of it is set. -/
theorem mask_eq_zero (x : BitVec 16) : x = 0 ↔ ∀ l ∈ List.range 16, ¬ x.getLsbD l = true := by
  constructor
  · rintro rfl l -
    simp
  · exact fun h => BitVec.eq_of_getLsbD_eq fun l hl => by simpa using h l (List.mem_range.mpr hl)

/-- VSUM.ANY: an enabled lane of the mask is set. -/
theorem any_value (c : Core) (m ma : Nat) : b2n (!((c.enabled m).filter (fun l => (c.m ma).getLsbD l)).isEmpty) = b2n (c.m m &&& c.m ma != 0) := by
  congr 1
  rw [enabled_filter, Bool.eq_iff_iff]
  simp only [Bool.not_eq_true', List.isEmpty_eq_false_iff, ne_eq, List.filter_eq_nil_iff, bne_iff_ne, mask_eq_zero, BitVec.getLsbD_and]

/-- VSUM.ALL: no enabled lane of the mask is clear. -/
theorem all_value (c : Core) (m ma : Nat) :
    b2n ((c.enabled m).length == ((c.enabled m).filter (fun l => (c.m ma).getLsbD l)).length) = b2n (c.m m &&& ~~~ c.m ma == 0) := by
  congr 1
  rw [Bool.eq_iff_iff, beq_iff_eq, beq_iff_eq, eq_comm, List.length_filter_eq_length_iff, mask_eq_zero]
  refine ⟨fun h l hl hset => ?_, fun h l hl => ?_⟩
  · simp only [BitVec.getLsbD_and, BitVec.getLsbD_not, Bool.and_eq_true, Bool.not_eq_true'] at hset
    obtain ⟨hm, -, hclear⟩ := hset
    exact absurd (h l (List.mem_filter.mpr ⟨hl, hm⟩)) (by simp [hclear])
  · obtain ⟨hl, hm⟩ := List.mem_filter.mp hl
    have hlt := List.mem_range.mp hl
    simpa [hm, hlt] using h l hl

/-- What each summary is to its bundle: the V slot, with the value of its row. -/
theorem summary_slot {i : Instr} {b : Bun} {rd : Nat} {f : Core → Word} (h : summary i = some (b, rd, f)) :
    ∃ op, IsSlot i b 2 op ∧ ∀ d c, op.run d c = .ok (fun cur => cur.setS rd (f c)) none := by
  have hbit (x : Bool) : wd (b2n x) = bit x := by cases x <;> rfl
  cases i with
  | vsumAny b m rd ma =>
    cases h
    refine ⟨_, ⟨⟨_, _, rfl⟩, rfl⟩, fun _ c => ?_⟩
    simp only [← hbit, ← any_value]
    rfl
  | vsumAll b m rd ma =>
    cases h
    refine ⟨_, ⟨⟨_, _, rfl⟩, rfl⟩, fun _ c => ?_⟩
    simp only [← hbit, ← all_value]
    rfl
  | vsumCount b m rd ma =>
    cases h
    refine ⟨_, ⟨⟨_, _, rfl⟩, rfl⟩, fun _ c => ?_⟩
    simp only [← enabled_filter]
    rfl
  | vsumFirst b m rd ma =>
    cases h
    refine ⟨_, ⟨⟨_, _, rfl⟩, rfl⟩, fun _ c => ?_⟩
    simp only [← List.head?_filter, ← List.headD_eq_head?_getD, ← enabled_filter]
    rfl
  | vsumMax | vsumMin | vsumLane0 =>
    cases h
    exact ⟨_, ⟨⟨_, _, rfl⟩, rfl⟩, fun _ _ => rfl⟩
  | _ => cases h

/-- Settles O4: what a reduction's slot writes (`gives_reduction`), its fault at function 3, and a summary's write (`summary_slot`). -/
theorem reductionsAndSummaries : Obligations.ReductionsAndSummaries := by
  unfold Obligations.ReductionsAndSummaries
  refine ⟨fun i s b m vd va fn grp h hfn hm hci hsat => ?_, fun i s b m vd va fn grp h hfn hm hci => ?_, fun i s b rd f h hm hci => ?_⟩
  · obtain ⟨t, he, honly, r, hr, hcore⟩ := gives_reduction h hfn hm hci hsat
    have hv : (t.dev.core b.core).vregs =
        laneTab vd (fun d => some (groupValue (s.dev.core b.core) m va fn (grp d))) lanes (s.dev.core b.core).vregs := by rw [hcore]; rfl
    refine ⟨t, he, honly, by rw [hcore]; rfl, fun d hd => ?_, fun q l hl hq => ?_, fun o hsat hstat => ?_, by rw [hcore]; rfl, by rw [hcore]; rfl, by rw [hcore]; rfl⟩
    · exact (Core.v_of_laneTab hv vd hd).trans (if_pos rfl)
    · exact (Core.v_of_laneTab hv q hl).trans (if_neg hq)
    · rw [hcore, ← hr o hsat]
      exact (Core.reg_setFld _ _ _ _ _).trans (if_neg hstat)
  · obtain ⟨op, g, hop, hrun, -⟩ := reduction_slot h
    have hfault : op.run (s.dev.bundleDev b.core) (s.dev.core b.core) = .fault cILLEGAL 0 := by
      rw [hrun]
      exact if_pos (by omega)
    obtain ⟨t, he, hstate, hcause, -, hpc, -, hv, -⟩ := stops_of_fault hop hm (by decide) (by decide) hci hfault
    exact ⟨t, he, hstate, hcause, hv, hpc⟩
  · obtain ⟨op, hop, hrun⟩ := summary_slot h
    exact gives_setS_each hop hm hci (hrun _ _)

end Sys2Proof.Claims
end

section
namespace Sys2Proof.Claims
open Sys2Proof Sys2Proof.Machine

/-! ### Slots that change no register of the core's block -/

/-- A slot that issues and leaves `x`, which differs from the core in no register, record or preemption point. -/
theorem gives_retire_quiet {i : Instr} {s : State} {b : Bun} {n : Nat} {op : SlotOp} (h : IsSlot i b n op) (hm : b.more = false)
    {upd : Core → Core} (hci : CanIssue s.dev b.core i) (hrun : op.run (s.dev.bundleDev b.core) (s.dev.core b.core) = .ok upd none) {x : Core}
    (hx : upd (s.dev.core b.core).newCycle = x.inCycleOf (s.dev.core b.core)) (hregs : x.regs = (s.dev.core b.core).regs)
    (hout : x.out = (s.dev.core b.core).out) (hppt : x.pptEntry = (s.dev.core b.core).pptEntry) :
    Gives i s (fun t => OnlyCore s t b.core ∧ t.dev.core b.core = retire s b.core i x ((s.dev.core b.core).pc + 1) 1) := by
  refine gives_retire h hm hci hrun hx (hout.trans hci.quiet) ?_ (hppt.trans hci.noPpt)
  unfold Core.fld Core.reg
  rw [hregs]
  exact hci.noStep

/-! ### No-operations and reads of the core's registers (O7) -/

/-- The no-operations of the three slots. -/
theorem issues_nop {i : Instr} {b : Bun} {n : Nat} {op : SlotOp} (h : IsSlot i b n op) (hm : b.more = false) (hrun : ∀ d c, op.run d c = .ok id none) (s : State) :
    Issues i s b.core (s.dev.core b.core) := fun hci => gives_id h hm hci (hrun _ _)

/-- What RDCR reads. -/
def rdcrValue (d : Dev) (k : Nat) (imm : BitVec 16) : Word :=
  let o := imm.toNat * 4
  if o < 0x8000 ∧ (regOf (.core k) o).isSome then
    (match regOf (.core k) o with
     | some r => if r.fields.all (fun f => f.acc == .wo) then 0 else d.coreReg k o
     | none => 0)
  else 0

theorem issues_rdcr (s : State) (b : Bun) (rd : Fin 32) (imm : BitVec 16) (hm : b.more = false) :
    Issues (.rdcr b rd imm) s b.core ((s.dev.core b.core).setS rd (rdcrValue (s.dev.bundleDev b.core) b.core imm)) :=
  fun hci => gives_setS ⟨⟨_, _, rfl⟩, rfl⟩ hm hci rfl

/-- Where no basic register stands RDCR reads 0. -/
theorem rdcrValue_none (d : Dev) (k : Nat) (imm : BitVec 16) (h : 0x8000 ≤ imm.toNat * 4 ∨ regOf (.core k) (imm.toNat * 4) = none) : rdcrValue d k imm = 0 := by
  refine if_neg (fun ⟨hlt, hsome⟩ => ?_)
  rcases h with h | h
  · exact absurd hlt (not_lt.mpr h)
  · rw [h] at hsome
    cases hsome

/-- Where a basic register stands that is not written only, RDCR reads it. -/
theorem rdcrValue_reg (d : Dev) (k : Nat) (imm : BitVec 16) {r : RegSpec} (hlt : imm.toNat * 4 < 0x8000) (hr : regOf (.core k) (imm.toNat * 4) = some r)
    (hread : r.fields.all (fun f => f.acc == .wo) = false) : rdcrValue d k imm = d.coreReg k (imm.toNat * 4) := by
  simp [rdcrValue, hr, hlt, hread]

/-- CORE_PC as a read returns it. -/
theorem coreReg_pc (d : Dev) (k : Nat) : d.coreReg k Off.CORE_PC = BitVec.ofNat 32 ((d.core k).pc % 4096) := rfl

/-- STALL_LIMIT as a read returns it. -/
theorem coreReg_stallLimit (d : Dev) (k : Nat) : d.coreReg k Off.STALL_LIMIT = (d.core k).reg Off.STALL_LIMIT := rfl

/-- Settles O7: the no-operations change nothing; RDCYC and RDCR are writes of what they read. -/
theorem nopsAndCoreReads : Obligations.NopsAndCoreReads := by
  unfold Obligations.NopsAndCoreReads
  intro s b rd imm hm c
  refine ⟨issues_nop (n := 1) ⟨⟨_, _, rfl⟩, rfl⟩ hm (fun _ _ => rfl) s, issues_nop (n := 2) ⟨⟨_, _, rfl⟩, rfl⟩ hm (fun _ _ => rfl) s,
    issues_nop (n := 3) ⟨⟨_, _, rfl⟩, rfl⟩ hm (fun _ _ => rfl) s, fun hci => ?_, fun h => ?_, fun h => ?_, fun h => ?_⟩
  · refine gives_retire_quiet (n := 1) ⟨⟨_, _, rfl⟩, rfl⟩ hm hci rfl (x := { c.setS rd (lo32 (s.dev.cycles b.core)) with cycShadow := hi32 (s.dev.cycles b.core) }) ?_
      (Core.setS_regs _ _ _) (Core.setS_out _ _ _) (Core.setS_pptEntry _ _ _)
    simp only [Dev.bundleDev_cycles, setS_newCycle]
    rfl
  · have hrd := issues_rdcr s b rd imm hm
    rwa [rdcrValue_none _ _ _ h] at hrd
  · have hrd := issues_rdcr s b rd imm hm
    rw [rdcrValue_reg _ _ _ (by rw [h]; decide) (by rw [h]; rfl) (by decide), h, coreReg_pc, Dev.bundleDev_core] at hrd
    exact hrd
  · have hrd := issues_rdcr s b rd imm hm
    rw [rdcrValue_reg _ _ _ (by rw [h]; decide) (by rw [h]; rfl) (by decide), h, coreReg_stallLimit, Dev.bundleDev_core] at hrd
    exact hrd

/-! ### Matrix commands (O13) -/

/-- What each matrix command is to its bundle: the X slot. -/
theorem matrixOp_slot {i : Instr} {b : Bun} {op : MOp} {sa sb sc fmt m1 n41 k41 : Nat} (h : matrixOp i = some (b, op, sa, sb, sc, fmt, m1, n41, k41)) :
    ∃ o, IsSlot i b 3 o ∧ ∀ d c, o.run d c = xMatrix op sa sb sc fmt m1 n41 k41 c := by
  cases i with
  | mm | mmz | mmew =>
    cases h
    exact ⟨_, ⟨⟨_, _, rfl⟩, rfl⟩, fun _ _ => rfl⟩
  | _ => cases h

/-- A range that lies within its bounds and is not empty has no byte outside. -/
theorem firstOutside_none {lo hi a n : Nat} (hlo : lo ≤ a) (hn : 0 < n) (hhi : a + n ≤ hi) : firstOutside lo hi a n = none := by
  rw [firstOutside, if_neg (by omega), if_neg (by omega)]

/-- A command reads at least one line of activations. -/
theorem actLen_pos (m : MCmd) (hk : 0 < m.kb) (hn : 0 < m.nb) : 0 < m.actLen := by
  have hl : 0 < lineBytes m.fmt := by
    unfold lineBytes
    split <;> decide
  have hs : 0 < m.slices := by
    unfold MCmd.slices
    split <;> omega
  unfold MCmd.actLen
  split
  · omega
  · exact Nat.mul_pos hl hs

/-- The checks of issue, passed one by one (R57, R87). -/
theorem check_none {m : MCmd} {k : Nat} (hfmt : m.fmt < 5) (hew : m.op = .mmew → m.fmt = 0 ∧ k = 0) (hsc : m.sc ≤ 255) (hacc : m.sc + m.nb ≤ 256 * banksOf m.rows)
    (hw : firstOutside 0 0x40000 m.sa m.weightLen = none) (ha : firstOutside 0x400000 0x420000 m.sb m.actLen = none)
    (hwa : m.sa % (if m.op = .mmew then 4 else tileBytes m.fmt) = 0) (haa : m.sb % 64 = 0) : m.check k = none := by
  have hlegal : ¬(m.fmt ≥ 5 ∨ m.sc > 255 ∨ m.sc + m.nb > 256 * banksOf m.rows ∨ (m.op = .mmew ∧ (m.fmt ≠ 0 ∨ k ≠ 0))) := by
    rintro (h | h | h | ⟨hop, h⟩)
    · omega
    · omega
    · omega
    · have := hew hop
      omega
  rw [MCmd.check, if_neg hlegal, hw]
  simp only [ha]
  rw [if_neg (not_not.mpr hwa), if_neg (not_not.mpr haa)]

/-- Settles O13: a command that passes the checks joins the queue, one of reserved format fails the first of them. -/
theorem matrixIssue : Obligations.MatrixIssue := by
  unfold Obligations.MatrixIssue
  intro i s b op sa sb sc fmt m1 n41 k41 h hm c m hlen
  obtain ⟨o, ho, hrun⟩ := matrixOp_slot h
  have hroom : ¬ c.mq.length ≥ 8 := not_le.mpr hlen
  refine ⟨fun hfmt hew hsc hacc hw hpos hwa hlo hhi haa hci => ?_, fun hfmt hci => ?_⟩
  · have hbanks : banksOf m.rows = if m1 < 4 then 4 else if m1 < 8 then 2 else 1 := by
      simp only [banksOf, m, Nat.succ_le_iff]
    have hcheck : m.check k41 = none :=
      check_none hfmt hew hsc (by rw [hbanks]; exact hacc) (firstOutside_none (Nat.zero_le _) hpos hw)
        (firstOutside_none hlo (actLen_pos m (Nat.succ_pos _) (Nat.succ_pos _)) hhi) hwa haa
    refine gives_retire_quiet ho hm hci ((hrun _ _).trans ?_) (upd := fun cur => { cur with mq := cur.mq ++ [m] }) rfl rfl rfl rfl
    rw [xMatrix, if_neg hroom]
    simp only [c, m] at hcheck
    simp only [hcheck]
    rfl
  · have hfault : o.run (s.dev.bundleDev b.core) c = .fault cILLEGAL 0 := by
      rw [hrun, xMatrix, if_neg hroom]
      simp only [MCmd.check, if_pos (Or.inl hfmt)]
    obtain ⟨t, he, hstate, hcause, hslot, -⟩ := stops_of_fault ho hm (by decide) (by decide) hci hfault
    exact ⟨t, he, hstate, hcause, hslot⟩

end Sys2Proof.Claims
end

section
/-! SUPPORT. Reads of the scratchpads that find no error and every group ON (R166, R170–R173). -/

namespace Sys2Proof.Machine

/-- Membership in a list without repeats. -/
theorem mem_distinct {l : List Nat} {x : Nat} (h : x ∈ distinct l) : x ∈ l := by
  have hadd : ∀ (l acc : List Nat), x ∈ l.foldl addNum acc → x ∈ acc ∨ x ∈ l := by
    intro l
    induction l with
    | nil => exact fun acc h => .inl h
    | cons y l ih =>
      intro acc h
      rcases ih _ h with h | h
      · unfold addNum at h
        split at h
        · exact .inl h
        · rcases List.mem_cons.mp h with rfl | h
          · exact .inr List.mem_cons_self
          · exact .inl h
      · exact .inr (List.mem_cons_of_mem y h)
  exact (hadd l [] (List.mem_reverse.mp h)).resolve_left List.not_mem_nil

/-- A read of rows in ON groups that meets no corrected granule leaves no count and no flag. -/
theorem Core.noteReads_quiet (c : Core) (ps : List (Nat × Nat)) (hce : c.ce = [])
    (hon : ∀ r ∈ ps.flatMap (fun p => blocks (rowBytes p.1) p.1 p.2), c.isOn r = true) : c.noteReads ps = c := by
  have hoff : ((distinct (ps.flatMap (fun p => blocks (rowBytes p.1) p.1 p.2))).filter (fun r => !c.isOn r)).length = 0 := by
    rw [List.length_eq_zero_iff, List.filter_eq_nil_iff]
    intro r hr
    simp [hon r (mem_distinct hr)]
  have hcor : ((distinct (ps.flatMap (fun p => blocks 16 p.1 p.2))).filter (fun g => c.isOn g && c.ce.contains (g / 16) && !c.ue.contains (g / 16))).length = 0 := by
    rw [List.length_eq_zero_iff, List.filter_eq_nil_iff]
    intro g _
    simp [hce]
  unfold Core.noteReads
  simp only [hoff, hcor, if_true]

/-- The memories by their addresses (R166). -/
theorem memOf_wm {a : Nat} (h : a < 0x40000) : memOf a = 1 := if_pos h

theorem memOf_am {a : Nat} (hlo : 0x400000 ≤ a) (hhi : a < 0x420000) : memOf a = 2 := by
  rw [memOf, if_neg (by omega), if_pos ⟨hlo, hhi⟩]

theorem memOf_pm {a : Nat} (hlo : 0x800000 ≤ a) (hhi : a < 0x810000) : memOf a = 3 := by
  rw [memOf, if_neg (by omega), if_neg (by omega), if_pos ⟨hlo, hhi⟩]

/-- An address in a memory lies in one of the three. -/
theorem memOf_cases {a : Nat} (h : memOf a ≠ 0) :
    a < 0x40000 ∨ (0x400000 ≤ a ∧ a < 0x420000) ∨ (0x800000 ≤ a ∧ a < 0x810000) := by
  unfold memOf at h
  split at h
  · exact .inl ‹_›
  · split at h
    · exact .inr (.inl ‹_›)
    · split at h
      · exact .inr (.inr ‹_›)
      · exact absurd rfl h

/-- The row of an address lies in the same power group. -/
theorem isOn_row (c : Core) {a : Nat} (hmem : memOf a ≠ 0) : c.isOn (a / rowBytes a * rowBytes a) = c.isOn a := by
  have hgate : gateBit (a / rowBytes a * rowBytes a) = gateBit a := by
    rcases memOf_cases hmem with h | ⟨hlo, hhi⟩ | ⟨hlo, hhi⟩
    · have hr : rowBytes a = 16 := if_pos (memOf_wm h)
      rw [hr, gateBit, gateBit, memOf_wm h, memOf_wm (by omega), if_pos rfl, if_pos rfl]
      exact congrArg some (by omega)
    · have hr : rowBytes a = 64 := if_neg (by rw [memOf_am hlo hhi]; decide)
      rw [hr, gateBit, gateBit, memOf_am hlo hhi, memOf_am (by omega) (by omega), if_neg (by decide), if_pos rfl, if_neg (by decide), if_pos rfl]
      exact congrArg some (by omega)
    · have hr : rowBytes a = 64 := if_neg (by rw [memOf_pm hlo hhi]; decide)
      rw [hr, gateBit, gateBit, memOf_pm hlo hhi, memOf_pm (by omega) (by omega), if_neg (by decide), if_neg (by decide), if_neg (by decide), if_neg (by decide)]
  unfold Core.isOn
  rw [hgate]

/-- The blocks that an aligned piece within one of them touches. -/
theorem blocks_one {w a n : Nat} (hn : 0 < n) (h : a % w + n ≤ w) : blocks w a n = [a / w * w] := by
  have hw : 0 < w := by omega
  have hdiv : (a + n - 1) / w = a / w := by
    have hd := Nat.div_add_mod a w
    rw [show a + n - 1 = (a % w + n - 1) + w * (a / w) by omega, Nat.add_mul_div_left _ _ hw, Nat.div_eq_of_lt (by omega), Nat.zero_add]
  cases n with
  | zero => omega
  | succ n =>
    show (List.range ((a + (n + 1) - 1) / w - a / w + 1)).map _ = _
    rw [hdiv, Nat.sub_self]
    rfl

/-- The read of an aligned word leaves no count and no flag where its group is ON and no granule was corrected. -/
theorem Core.noteRead_word (c : Core) {a : Nat} (hmem : memOf a ≠ 0) (ha : a % 4 = 0) (hce : c.ce = []) (hon : c.isOn a = true) : c.noteRead a 4 = c := by
  refine c.noteReads_quiet _ hce (fun r hr => ?_)
  have hrow : a % rowBytes a + 4 ≤ rowBytes a := by
    unfold rowBytes
    split <;> omega
  simp only [List.flatMap_cons, List.flatMap_nil, List.append_nil, blocks_one (by decide) hrow, List.mem_singleton] at hr
  rw [hr, isOn_row c hmem, hon]

/-- Where no granule is in error a read finds none. -/
theorem Core.ueIn_clean (c : Core) (a n : Nat) (h : c.ue = []) : c.ueIn a n = none := by
  simp [Core.ueIn, h]

end Sys2Proof.Machine

namespace Sys2Proof.Claims
open Sys2Proof Sys2Proof.Machine

/-! ### The X-slot queues (O12) -/

/-- What each Latch operation is to its bundle: the X slot (R55, R251, R259). -/
theorem latchOp_slot {i : Instr} {b : Bun} {op : LOp} {sa sb sc : Nat} {x : BitVec 27} (h : latchOp i = some (b, op, sa, sb, sc, x)) :
    ∃ o, IsSlot i b 3 o ∧ ∃ fa fb fc : Fin 32, (fa.val = sa ∧ fb.val = sb ∧ fc.val = sc) ∧ ∀ d c, o.run d c = xLatch op fa fb fc x c := by
  cases i with
  | ladd | lsub | lset | lcas | lseqadv | lread | lwatch =>
    cases h
    exact ⟨_, ⟨⟨_, _, rfl⟩, rfl⟩, _, _, _, ⟨rfl, rfl, rfl⟩, fun _ _ => rfl⟩
  | _ => cases h

/-- A Latch operation whose hold count can follow it issues into a queue with room (R55, R59). -/
theorem xLatch_issues {op : LOp} {sa sb sc : Fin 32} {x : BitVec 27} {c : Core} (hroom : c.lq.length < 8)
    (hacq : ¬((op = .sub ∨ op = .cas) ∧ holdOf x = 1 ∧ c.fld Off.HOLD_STATUS Fl.HOLD_STATUS_SEM_HOLD = 255))
    (hrel : ¬(op = .add ∧ holdOf x = 2 ∧ c.fld Off.HOLD_STATUS Fl.HOLD_STATUS_SEM_HOLD = 0)) :
    xLatch op sa sb sc x c = .ok (fun cur => { cur with lq := cur.lq ++ [⟨op, c.s sa, c.s sb, c.s sc, sc, x⟩] }) none := by
  rw [xLatch, if_neg (not_le.mpr hroom)]
  simp only [if_neg hacq, if_neg hrel]

/-- A source in AM, whole and aligned, with no error in it. -/
theorem amFault_none {c : Core} {a n align : Nat} (hn : 0 < n) (hlo : 0x400000 ≤ a) (hhi : a + n ≤ 0x420000) (halign : a % align = 0) (hue : c.ue = []) :
    amFault c a n align = none := by
  rw [amFault, memOf_am hlo (by omega), memOf_am (a := a + n - 1) (by omega) (by omega), if_neg (by decide), if_neg (by omega), c.ueIn_clean a n hue]
  rfl

/-- The core without an error and with every group ON reads without a count. -/
theorem noteRead_clean (c : Core) (a n : Nat) (hce : c.ce = []) (hon : ∀ j, c.isOn j = true) : c.noteRead a n = c :=
  c.noteReads_quiet _ hce (fun r _ => hon r)

theorem dma_issues {b : Bun} {sa : Fin 32} {d : Dev} {c : Core} (hroom : c.dq.length < 16) (hlo : 0x400000 ≤ (c.s sa).toNat) (hhi : (c.s sa).toNat + 64 ≤ 0x420000)
    (halign : (c.s sa).toNat % 64 = 0) (hue : c.ue = []) : (opDma b sa).run d c =
      .ok (fun cur => { cur.noteRead (c.s sa).toNat 64 with
        dq := (cur.dq ++ [.desc (c.seeN (c.s sa).toNat 64) (coreAddr b.core.val (c.s sa).toNat)]) }) none := by
  simp only [opDma, if_neg (not_le.mpr hroom), amFault_none (by decide) hlo hhi halign hue]

theorem ovl_issues {sa sb : Fin 32} {seg cnt1 : Fin 16} {d : Dev} {c : Core} (hroom : c.dq.length < 16) (hseg : seg.val + cnt1.val < 16) :
    (opOvl sa sb seg cnt1).run d c = .ok (fun cur => { cur with
      dq := cur.dq ++ [.ovl ((c.s sa).toNat + (c.s sb).toNat % 2 ^ 16 * 2 ^ 32) seg (cnt1.val + 1)] }) none := by
  simp only [opOvl, if_neg (not_le.mpr hroom)]
  exact if_neg (by omega)

theorem send_issues {b : Bun} {sa sb : Fin 32} {d : Dev} {c : Core} (hroom : c.sq.length < 4) (hjob : d.sameJob b.core (c.s sa).toNat = true)
    (hlo : 0x400000 ≤ (c.s sb).toNat) (hhi : (c.s sb).toNat + 16 ≤ 0x420000) (halign : (c.s sb).toNat % 16 = 0) (hue : c.ue = []) : (opSend b sa sb).run d c =
      .ok (fun cur => { cur.noteRead (c.s sb).toNat 16 with
        sq := (cur.sq ++ [⟨0, b.core.val, (c.s sa).toNat, c.seeN (c.s sb).toNat 16⟩]) }) none := by
  simp only [opSend, if_neg (not_le.mpr hroom), hjob, amFault_none (by decide) hlo hhi halign hue, Bool.not_true, Bool.false_eq_true, if_false]

/-- The cores of a job do not depend on the bundles under way. -/
theorem sameJob_bundleDev (d : Dev) (k j t : Nat) : (d.bundleDev k).sameJob j t = d.sameJob j t := by
  unfold Dev.sameJob
  rw [Dev.bundleDev_core]
  rfl

/-- Settles O12: each X-slot operation's outcome with room in its queue, the wait of a full Latch queue, and the two stops. -/
theorem queueIssue : Obligations.QueueIssue := by
  unfold Obligations.QueueIssue
  constructor
  · intro i s b op sa sb sc x h hm c
    obtain ⟨o, ho, fa, fb, fc, ⟨rfl, rfl, rfl⟩, hrun⟩ := latchOp_slot h
    refine ⟨fun hroom hacq hrel hci => ?_, fun hfull hcount hci => ?_⟩
    · exact gives_retire_quiet ho hm hci ((hrun _ _).trans (xLatch_issues hroom hacq hrel)) rfl rfl rfl rfl
    · obtain ⟨t, he, honly, hw⟩ := gives_wait ho hm hci ((hrun _ _).trans (if_pos hfull)) (by decide) hcount
      exact ⟨t, he, honly, hw.pc, hw.lq, hw.wait, hw.counter⟩
  · intro s b sa sb seg cnt1 hm c a m clean
    have hclean (n k : Nat) (h : clean) : c.newCycle.noteRead n k = c.newCycle := noteRead_clean _ n k h.2.1 h.2.2
    refine ⟨fun hroom hlo hhi halign hc hci => ?_, fun hroom hseg hci => ?_, fun hroom hseg hci => ?_, fun hroom hjob hlo hhi halign hc hci => ?_, fun hroom hjob hci => ?_⟩
    · refine gives_retire_quiet (n := 3) ⟨⟨_, _, rfl⟩, rfl⟩ hm hci (dma_issues hroom hlo hhi halign hc.1) ?_ rfl rfl rfl
      dsimp only
      rw [hclean _ _ hc]
      rfl
    · refine gives_retire_quiet (n := 3) ⟨⟨_, _, rfl⟩, rfl⟩ hm hci (ovl_issues hroom hseg) rfl rfl rfl rfl
    · have hfault : (opOvl sa sb seg cnt1).run (s.dev.bundleDev b.core) c = .fault cILLEGAL 0 := by
        simp only [opOvl, if_neg (not_le.mpr hroom)]
        exact if_pos (by omega)
      obtain ⟨t, he, hstate, hcause, -⟩ := stops_of_fault (n := 3) ⟨⟨_, _, rfl⟩, rfl⟩ hm (by decide) (by decide) hci hfault
      exact ⟨t, he, hstate, hcause⟩
    · refine gives_retire_quiet (n := 3) ⟨⟨_, _, rfl⟩, rfl⟩ hm hci (send_issues hroom ((sameJob_bundleDev _ _ _ _).trans hjob) hlo hhi halign hc.1) ?_ rfl rfl rfl
      dsimp only
      rw [hclean _ _ hc]
      rfl
    · have hfault : (opSend b sa sb).run (s.dev.bundleDev b.core) c = .fault cSENDTGT 0 := by
        have hother : (s.dev.bundleDev b.core).sameJob b.core (c.s sa).toNat = false := (sameJob_bundleDev _ _ _ _).trans hjob
        simp only [opSend, if_neg (not_le.mpr hroom), hother, Bool.not_false, if_true]
      obtain ⟨t, he, hstate, hcause, -⟩ := stops_of_fault (n := 3) ⟨⟨_, _, rfl⟩, rfl⟩ hm (by decide) (by decide) hci hfault
      exact ⟨t, he, hstate, hcause⟩

end Sys2Proof.Claims
end

section
/-! SUPPORT. Scalar loads and stores, and the gather buffer they see (R45, R174, R176). -/

namespace Sys2Proof.Machine

/-! ### The gather buffer -/

theorem Tab.length_put_le {α : Type} (t : Tab α) (k : Nat) (v : α) : (Tab.put t k v).length ≤ t.length + 1 := by
  induction t with
  | nil => exact le_refl 1
  | cons e t ih =>
    obtain ⟨j, w⟩ := e
    unfold Tab.put
    split
    · exact le_refl _
    · split
      · exact Nat.le_succ _
      · simpa using ih

theorem Tab.length_del_le {α : Type} (t : Tab α) (k : Nat) : (Tab.del t k).length ≤ t.length := by
  induction t with
  | nil => exact le_refl 0
  | cons e t ih =>
    obtain ⟨j, w⟩ := e
    unfold Tab.del
    split
    · exact ih.trans (Nat.le_succ _)
    · simpa using ih

/-- A write adds at most one entry to a table. -/
theorem Tab.length_set_le {α : Type} [DecidableEq α] (d : α) (t : Tab α) (k : Nat) (v : α) : (Tab.set d t k v).length ≤ t.length + 1 := by
  unfold Tab.set
  split
  · exact (Tab.length_del_le t k).trans (Nat.le_succ _)
  · exact Tab.length_put_le t k v

/-- The bytes of a line after the bytes `bs` were put from `a` on. -/
def putBytes (a : Nat) (bs : List Byte) (t : Tab (Option Byte)) : Tab (Option Byte) := (withAddr a bs).foldl (fun t x => Tab.set none t x.1 (some x.2)) t

theorem length_putBytes_le (bs : List Byte) (a : Nat) (t : Tab (Option Byte)) : (putBytes a bs t).length ≤ t.length + bs.length := by
  induction bs generalizing a t with
  | nil => exact le_refl _
  | cons b bs ih =>
    have hset := Tab.length_set_le none t a (some b)
    have := ih (a + 1) (Tab.set none t a (some b))
    simp only [putBytes, withAddr, List.foldl_cons, List.length_cons] at this ⊢
    omega

theorem get_putBytes_out (bs : List Byte) (a x : Nat) (t : Tab (Option Byte)) (h : x < a ∨ a + bs.length ≤ x) :
    Tab.get none (putBytes a bs t) x = Tab.get none t x := by
  induction bs generalizing a t with
  | nil => rfl
  | cons b bs ih =>
    simp only [List.length_cons] at h
    refine (ih (a + 1) (Tab.set none t a (some b)) (by omega)).trans ?_
    exact Tab.get_set_ne _ _ _ _ (by omega)

theorem get_putBytes_in (bs : List Byte) (a j : Nat) (t : Tab (Option Byte)) (h : j < bs.length) :
    Tab.get none (putBytes a bs t) (a + j) = some bs[j] := by
  induction bs generalizing a j t with
  | nil => cases h
  | cons b bs ih =>
    cases j with
    | zero =>
      refine (get_putBytes_out bs (a + 1) (a + 0) (Tab.set none t a (some b)) (by omega)).trans ?_
      exact Tab.get_set_same _ _ _ _
    | succ j =>
      have := ih (a + 1) j (Tab.set none t a (some b)) (by simpa using h)
      rw [show a + 1 + j = a + (j + 1) by omega] at this
      exact this

/-- Bytes that no line covers take a new line, where one is free and they do not fill it (R174). -/
theorem Core.gather_fresh (c : Core) (writer now a : Nat) {bs : List Byte} (hnew : c.gb.all (fun l => l.base != a / 64 * 64) = true) (hroom : c.gb.length < 8)
    (hpart : bs.length < 64) : c.gather writer now a bs = { c with gb := c.gb ++ [⟨a / 64 * 64, putBytes a bs [], writer, now⟩] } := by
  have hnone : c.gb.any (fun l => l.base == a / 64 * 64) = false := by
    rw [List.all_eq_true] at hnew
    rw [List.any_eq_false]
    exact fun l hl => by simpa using hnew l hl
  have hlen : (putBytes a bs []).length ≠ 64 := by
    have := length_putBytes_le bs a []
    simp only [List.length_nil] at this
    omega
  have hfull : (c.gb ++ [(⟨a / 64 * 64, putBytes a bs [], writer, now⟩ : GbLine)]).find? (fun l : GbLine => l.base == a / 64 * 64 && l.bytes.length == 64) = none := by
    rw [List.find?_eq_none]
    intro l hl
    rw [List.all_eq_true] at hnew
    rcases List.mem_append.mp hl with hl | hl
    · have := hnew l hl
      simp_all
    · rw [List.mem_singleton.mp hl]
      simp [hlen]
  unfold Core.gather
  simp only [hnone, Bool.not_false, Bool.true_and, decide_eq_true_eq, if_neg (not_le.mpr hroom), Bool.false_eq_true, if_false]
  simp only [putBytes] at hfull
  rw [hfull]
  rfl

/-- The bytes of a new line are seen. -/
theorem Core.see_gather_fresh {c : Core} {gb : List GbLine} {a j writer now : Nat} {bs : List Byte} (hgb : c.gb = gb ++ [⟨a / 64 * 64, putBytes a bs [], writer, now⟩])
    (hnew : gb.all (fun l => l.base != a / 64 * 64) = true) (hj : j < bs.length) (hline : (a + j) / 64 = a / 64) : c.see (a + j) = bs[j] := by
  have hold : gb.find? (fun l => l.base == a / 64 * 64) = none := by
    rw [List.find?_eq_none]
    rw [List.all_eq_true] at hnew
    exact fun l hl => by simpa using hnew l hl
  have hbyte : gbByte c.gb (a + j) = some bs[j] := by
    unfold gbByte
    rw [hgb, hline, List.find?_append, hold]
    simp only [Option.none_or, List.find?_cons, beq_self_eq_true]
    exact get_putBytes_in bs a j [] hj
  unfold Core.see
  rw [hbyte]
  rfl

/-- The little-endian bytes of a number. -/
theorem length_natLE (n v : Nat) : (natLE n v).length = n := by
  induction n generalizing v with
  | zero => rfl
  | succ n ih => exact congrArg (· + 1) (ih _)

theorem getElem_natLE (n v j : Nat) (h : j < (natLE n v).length) : (natLE n v)[j] = BitVec.ofNat 8 (v / 256 ^ j) := by
  induction n generalizing v j with
  | zero => cases h
  | succ n ih =>
    cases j with
    | zero => simp [natLE]
    | succ j =>
      refine (ih (v / 256) j (by simpa [natLE] using h)).trans ?_
      rw [Nat.div_div_eq_div_mul, pow_succ']

end Sys2Proof.Machine

namespace Sys2Proof.Claims
open Sys2Proof Sys2Proof.Machine

/-! ### LDW and STW (O6) -/

/-- The check of a scalar access, passed. -/
theorem wordFault_none {c : Core} {a : Nat} {load : Bool} (hmem : memOf a ≠ 0) (ha : a % 4 = 0) (hue : load = true → c.ueIn a 4 = none) :
    wordFault c a load = none := by
  rw [wordFault, if_neg hmem, if_neg (not_not.mpr ha)]
  cases load with
  | false => rfl
  | true => simp [hue rfl]

/-- A scalar access whose check fails stops the core. -/
theorem gives_wordFault {s : State} {b : Bun} (hm : b.more = false) {i : Instr} {op : SlotOp} (h : IsSlot i b 1 op) {load : Bool} {a code : Nat} (hcode : code < 256)
    (hrun : wordFault (s.dev.core b.core) a load = some (code, a) → op.run (s.dev.bundleDev b.core) (s.dev.core b.core) = .fault code a)
    (hfault : wordFault (s.dev.core b.core) a load = some (code, a)) :
    Runs i s b.core (fun t => (t.dev.core b.core).state = .stopped ∧ (t.dev.core b.core).fld Off.CORE_CAUSE Fl.CORE_CAUSE_CAUSE = code) := fun hci => by
  obtain ⟨t, he, hstate, hcause, -⟩ := stops_of_fault h hm hcode (by decide) hci (hrun hfault)
  exact ⟨t, he, hstate, hcause⟩

section
variable {d : Dev} {c : Core} {b : Bun} {rd ra : Fin 32} {imm : BitVec 16} {code x : Nat}

theorem ldw_run_fault (h : wordFault c (c.s ra + sext imm).toNat true = some (code, x)) : (opLdw rd ra imm).run d c = .fault code x := by
  simp only [opLdw, sLdw, sx16_eq, h]

theorem stw_run_fault (h : wordFault c (c.s ra + sext imm).toNat false = some (code, x)) : (opStw b rd ra imm).run d c = .fault code x := by
  simp only [opStw, sStw, sx16_eq, h]

theorem ldw_run_ok (h : wordFault c (c.s ra + sext imm).toNat true = none) : (opLdw rd ra imm).run d c =
    .ok (fun cur => (cur.noteRead (c.s ra + sext imm).toNat 4).setS rd (c.seeWord (c.s ra + sext imm).toNat)) none := by
  simp only [opLdw, sLdw, sx16_eq, h]

theorem stw_run_ok (h : wordFault c (c.s ra + sext imm).toNat false = none) : (opStw b rd ra imm).run d c =
    .ok (fun cur => cur.gather 0 (d.cycles b.core) (c.s ra + sext imm).toNat (natLE 4 (c.s rd).toNat)) none := by
  simp only [opStw, sStw, sx16_eq, h]

end

/-- Settles O6: a load's read leaves no count and its register the word seen; a store takes a new line; the checks of both. -/
theorem scalarMemory : Obligations.ScalarMemory := by
  unfold Obligations.ScalarMemory
  intro s b rd ra imm hm c a
  have hldw : IsSlot (.ldw b rd ra imm) b 1 (opLdw rd ra imm) := ⟨⟨_, _, rfl⟩, rfl⟩
  have hstw : IsSlot (.stw b rd ra imm) b 1 (opStw b rd ra imm) := ⟨⟨_, _, rfl⟩, rfl⟩
  refine ⟨fun hmem ha hue hce hon hci => ?_, fun hmem ha hnew hroom hci => ?_, fun hmem => ?_, fun hmem ha => ?_⟩
  · refine gives_retire_quiet hldw hm hci (ldw_run_ok (wordFault_none hmem ha (fun _ => hue))) ?_ (Core.setS_regs _ _ _) (Core.setS_out _ _ _) (Core.setS_pptEntry _ _ _)
    rw [c.newCycle.noteRead_word hmem ha hce hon]
    exact setS_newCycle _ _ _
  · obtain ⟨t, he, honly, hcore⟩ := gives_retire_quiet hstw hm hci (stw_run_ok (wordFault_none hmem ha (fun h => nomatch h)))
      (x := { c with gb := c.gb ++ [⟨a / 64 * 64, putBytes a (natLE 4 (c.s rd).toNat) [], 0, s.dev.cycles b.core⟩] })
      (by rw [Dev.bundleDev_cycles]; exact Core.gather_fresh _ _ _ _ hnew hroom (by rw [length_natLE]; decide)) rfl rfl rfl
    have hgb : (t.dev.core b.core).gb = c.gb ++ [⟨a / 64 * 64, putBytes a (natLE 4 (c.s rd).toNat) [], 0, s.dev.cycles b.core⟩] := by rw [hcore]; rfl
    refine ⟨t, he, honly, by rw [hgb]; exact hcore, fun j hj => ?_⟩
    rw [Core.see_gather_fresh hgb hnew (by rw [length_natLE]; exact hj) (by omega), getElem_natLE]
  · have hfault (load : Bool) : wordFault c a load = some (cADDR, a) := if_pos hmem
    exact ⟨gives_wordFault hm hldw (by decide) ldw_run_fault (hfault true), gives_wordFault hm hstw (by decide) stw_run_fault (hfault false)⟩
  · have hfault (load : Bool) : wordFault c a load = some (cMISAL, a) := by rw [wordFault, if_neg hmem, if_pos ha]
    exact ⟨gives_wordFault hm hldw (by decide) ldw_run_fault (hfault true), gives_wordFault hm hstw (by decide) stw_run_fault (hfault false)⟩

end Sys2Proof.Claims
end

section
/-! What reset leaves (R71, R76, R301, R396, R437, R507): every table is empty and reads its default. -/
namespace Sys2Proof.Claims
open Sys2Proof Sys2Proof.Machine

/-- No register is listed at reset: each one reads its reset value. -/
theorem reset_reg (o : Nat) : State.reset.dev.reg o = regReset o := rfl

/-- No core is listed at reset: each one is as its reset leaves it. -/
theorem reset_core (k : Nat) : State.reset.dev.core k = Core.atReset := rfl

theorem coreReset_status : Core.atReset.fld Off.CORE_STATUS Fl.CORE_STATUS_STATE = 1 := by decide +kernel

theorem coreReset_stallLimit : Core.atReset.reg Off.STALL_LIMIT = 0x61A8 := by decide +kernel

theorem regReset_paneCtrl : ∀ p : Fin 8, regReset (Block.opt.base + Off.PANE_CTRL p) = 1 := by decide +kernel

theorem regReset_camEn : ∀ c : Fin 64, Fl.CAM_CFG_EN.get (regReset (Block.fin.base + Off.CAM_CFG c)) = 0 := by decide +kernel

/-- The Bolt at reset: its counters are 0 and its tables empty. -/
theorem reset_boltInv : State.reset.bolt.Inv where
  legal := Nat.zero_le _
  audit := Nat.zero_le _
  events := Nat.zero_le _
  recs := Nat.zero_le _
  count := Nat.zero_le _
  since := Nat.zero_le _
  scales := fun _ h => nomatch h
  form := rfl
  chan := fun _ h => nomatch h

/-- The single registers whose reset values the specification names. -/
theorem regReset_named : regReset (Block.sch.base + Off.BE_SLICE) = 0x3D090 ∧ Fl.OPT_BOND_BOND_EN.get (regReset (Block.opt.base + Off.OPT_BOND)) = 1
    ∧ regReset (Block.pwr.base + Off.PWR_DOZE_IDLE) = 0x3D090 ∧ Fl.PWR_DOZE_DOZE_EN.get (regReset (Block.pwr.base + Off.PWR_DOZE)) = 1
    ∧ regReset (Block.bolt.base + Off.MB_EVENT) = 0xFF00 := by decide +kernel

/-- Settles O58: the tables are empty, and the named registers' reset values are looked up. -/
theorem resetState : Obligations.ResetState := by
  unfold Obligations.ResetState
  obtain ⟨hslice, hbond, hidle, hdoze, hevent⟩ := regReset_named
  exact ⟨rfl, rfl, reset_boltInv, rfl, rfl, rfl, rfl, fun _ => rfl, fun _ => ⟨rfl, rfl, coreReset_status⟩, fun _ => coreReset_stallLimit,
    fun _ => rfl, fun _ => rfl, rfl, reset_reg, hslice, hbond, hidle, hdoze, regReset_paneCtrl, regReset_camEn, hevent⟩

end Sys2Proof.Claims
end

section
/-! SUPPORT. A core that holds a grant which its queued descriptor will take (R67, R184, R205). -/

namespace Sys2Proof.Machine

/-- The bundle of core 0 with the slot PPT 0. -/
def claimBundle : Bun := ⟨0, false⟩

/-- The first 32 bytes of a descriptor with USE_GRANT set, of type 0 and credit window 0, whose destination is core 0's device window. -/
def claimDescriptor : List Byte := 0x40 :: List.replicate 15 0 ++ [0, 0, 0, 0, 0, 0x40] ++ List.replicate 10 0

/-- A running core with PPT 0 at its PC; its one grant, of core 0's window 0, is the one its queued descriptor takes. -/
def Core.grantClaimed : Core :=
  { Core.atReset with
    state := .running
    regs := [(Off.IMEM_VALID, 0xFFFF)]
    imem := Core.atReset.imem.write 0 (natLE 16 (bundleOf (.ppt claimBundle 0)))
    grants := [⟨0, 0, 1⟩]
    dq := [.desc claimDescriptor 0] }

/-- The device whose core 0 is `Core.grantClaimed`. -/
def Dev.grantClaimed : Dev := { Dev.atReset with cores := [(0, Core.grantClaimed)] }

/-- The descriptor takes the grant: none is left over. -/
theorem Core.grantClaimed_free : Core.grantClaimed.freeGrants = [] := by decide +kernel

theorem Core.grantClaimed_hold : Core.grantClaimed.fld Off.HOLD_STATUS Fl.HOLD_STATUS_SEM_HOLD = 0 := by decide +kernel

theorem Core.grantClaimed_pend : Core.grantClaimed.fld Off.CORE_STATUS Fl.CORE_STATUS_PREEMPT_PEND = 0 := by decide +kernel

theorem Core.grantClaimed_fetch : Core.grantClaimed.fetch = .bundle (bundleOf (.ppt claimBundle 0)) := by decide +kernel

theorem Core.grantClaimed_steps : Core.grantClaimed.fld Off.DBG_CTRL Fl.DBG_CTRL_PAR_INJECT ≠ 1 ∧ Core.grantClaimed.fld Off.DBG_CTRL Fl.DBG_CTRL_SSTEP ≠ 1 := by
  decide +kernel

end Sys2Proof.Machine

namespace Sys2Proof.Claims
open Sys2Proof Sys2Proof.Machine

/-- PPT with no request waiting passes wherever no hold is counted and no grant is left over. -/
theorem ppt_run_passes {d : Dev} {c : Core} {b : Bun} {entry : Fin 1024} (hlive : entry.val < d.liveCount b.core)
    (hhold : c.fld Off.HOLD_STATUS Fl.HOLD_STATUS_SEM_HOLD = 0) (hfree : c.freeGrants = []) (hpend : c.fld Off.CORE_STATUS Fl.CORE_STATUS_PREEMPT_PEND = 0) :
    (opPpt b entry).run d c = .ok id none := by
  simp only [opPpt, if_neg (not_le.mpr hlive), hhold, hfree, hpend, ne_eq, not_true_eq_false, or_self, if_false, zero_ne_one]

theorem canIssue_grantClaimed : CanIssue Dev.grantClaimed 0 (.ppt claimBundle 0) where
  fresh := rfl
  running := rfl
  noPpt := rfl
  open' := rfl
  noInject := Core.grantClaimed_steps.1
  noStep := Core.grantClaimed_steps.2
  quiet := rfl
  fetched := ⟨_, Core.grantClaimed_fetch, by decide +kernel⟩
  ready := fun op hop => by
    have hop' : op = opPpt claimBundle 0 := (Option.some.inj hop).symm
    subst hop'
    rfl

/-- Refutes O11: a core holds a grant and its queued descriptor is the one to take it, so that nothing is left for PPT to stop on (R67 speaks of the grants that
attach to no transfer). The statement has PPT stop it; the model lets it pass, and the core runs on. -/
theorem not_waitsAndStops : ¬ Obligations.WaitsAndStops := by
  unfold Obligations.WaitsAndStops
  intro h
  obtain ⟨-, -, -, -, hstop, -⟩ := h { State.reset with dev := Dev.grantClaimed } claimBundle 0 0 0 rfl
  have hlive : (0 : Fin 1024).val < Dev.grantClaimed.liveCount claimBundle.core := by decide +kernel
  obtain ⟨t, ht, hstopped, -⟩ := hstop hlive (fun hfree => by cases hfree.2) canIssue_grantClaimed
  obtain ⟨t', ht', -, hcore⟩ := gives_id (s := { State.reset with dev := Dev.grantClaimed }) (i := .ppt claimBundle 0) (op := opPpt claimBundle 0) ⟨⟨_, _, rfl⟩, rfl⟩ rfl
    canIssue_grantClaimed (ppt_run_passes hlive Core.grantClaimed_hold Core.grantClaimed_free Core.grantClaimed_pend)
  rw [ht] at ht'
  injection ht' with ht'
  subst ht'
  rw [hcore] at hstopped
  cases hstopped

end Sys2Proof.Claims
end

section
/-! SUPPORT. Whole-granule writes of the banks, the counts of a slot ring, and the slots that receive a message and use a ring (R64, R170, R171, R215–R217). -/

namespace Sys2Proof.Machine

/-- Bytes put one by one at their addresses are a write of the bytes. -/
theorem foldl_setByte_withAddr (bs : List Byte) (m : Mem) (a : Nat) : (withAddr a bs).foldl (fun (m : Mem) (x : Nat × Byte) => m.setByte x.1 x.2) m = m.write a bs := by
  induction bs generalizing m a with
  | nil => rfl
  | cons b bs ih => exact ih (m.setByte a b) (a + 1)

/-- A write to a core whose granules are clean, in a powered group with no injection waiting, puts its bytes into the banks (R170, R171). -/
theorem Core.granWrite_clean {c : Core} (writer a : Nat) {bs : List Byte} (hbs : bs ≠ []) (hon : c.isOn a = true) (hue : c.ue = []) (hce : c.ce = [])
    (hinj : c.fld Off.SP_EXP Fl.SP_EXP_ECC_INJ = 0) :
    ∃ wrote, c.granWrite writer (withAddr a bs) = { c with mem := c.mem.write a bs, wrote := wrote } := by
  obtain ⟨b, bs, rfl⟩ := List.exists_cons_of_ne_nil hbs
  have hinj' (m : Mem) (w : List (Nat × Byte)) : ({ c with mem := m, ue := [], ce := [], wrote := w } : Core).fld Off.SP_EXP Fl.SP_EXP_ECC_INJ = 0 := hinj
  refine ⟨(withAddr a (b :: bs)).map (fun (x : Nat × Byte) => (x.1, c.mem.byte x.1)) ++ c.wrote, ?_⟩
  rw [← foldl_setByte_withAddr]
  simp only [withAddr, Core.granWrite, hon, hue, hce, List.contains_nil, Bool.not_true, Bool.false_and, Bool.false_eq_true, if_false, List.filter_nil, hinj']

/-- A whole granule is written at once. -/
theorem cut_granule {a : Nat} {bs : List Byte} (hlen : bs.length = 16) (ha : a % 16 = 0) : cut 16 bs.length a bs = [(a, bs)] := by
  obtain ⟨b, bs, rfl⟩ := List.exists_cons_of_ne_nil (show bs ≠ [] by rintro rfl; cases hlen)
  have htake : (b :: bs).take 16 = b :: bs := List.take_of_length_le hlen.le
  have hdrop : (b :: bs).drop 16 = [] := List.drop_of_length_le hlen.le
  rw [hlen]
  simp only [cut, ha, Nat.sub_zero, htake, hdrop]

/-- From `c` to `c'` the bytes `bs` were put into the banks at `a`; the registers, the mailbox and the requests are as they were. -/
structure Core.Written (c c' : Core) (a : Nat) (bs : List Byte) : Prop where
  mem : c'.mem = c.mem.write a bs
  regs : c'.regs = c.regs
  mbx : c'.mbx = c.mbx
  out : c'.out = c.out
  pptEntry : c'.pptEntry = c.pptEntry

/-- A direct write of a whole granule. -/
theorem Core.direct_granule {c : Core} (writer : Nat) {a : Nat} {bs : List Byte} (hlen : bs.length = 16) (ha : a % 16 = 0) (hon : c.isOn a = true) (hue : c.ue = [])
    (hce : c.ce = []) (hinj : c.fld Off.SP_EXP Fl.SP_EXP_ECC_INJ = 0) : c.Written (c.direct writer a bs) a bs := by
  have hbs : bs ≠ [] := by rintro rfl; cases hlen
  obtain ⟨wrote, hwrite⟩ := Core.granWrite_clean (c := c.gbInvalidate a bs.length) writer a hbs hon hue hce hinj
  rw [Core.direct, Core.bankWrite, cut_granule hlen ha, List.foldl_cons, List.foldl_nil, hwrite]
  exact ⟨rfl, rfl, rfl, rfl, rfl⟩

/-! ### The counts of a ring -/

/-- Counts that fit their fields. -/
structure RingSt.Fits (x : RingSt) : Prop where
  head : x.head < 64
  tail : x.tail < 64
  filled : x.filled < 128
  pheld : x.pheld < 128
  cheld : x.cheld < 128

/-- The counts a core's registers hold fit. -/
theorem Core.ringSt_fits (c : Core) (r : Nat) : (c.ringSt r).Fits :=
  ⟨Nat.mod_lt _ (by decide), Nat.mod_lt _ (by decide), Nat.mod_lt _ (by decide), Nat.mod_lt _ (by decide), Nat.mod_lt _ (by decide)⟩

theorem ringPtr_ne_ringHeld (r : Nat) : Off.RING_PTR r ≠ Off.RING_HELD r := by unfold Off.RING_PTR Off.RING_HELD; omega

/-- A register that is neither of the ring's two keeps its word. -/
theorem Core.reg_setRingSt_ne (c : Core) (r : Nat) (x : RingSt) {o : Nat} (hptr : o ≠ Off.RING_PTR r) (hheld : o ≠ Off.RING_HELD r) :
    (c.setRingSt r x).reg o = c.reg o := by
  unfold Core.setRingSt
  simp only [Core.reg_setFld, Core.reg_setReg, if_neg hheld, if_neg hptr]

theorem Core.setRingSt_out (c : Core) (r : Nat) (x : RingSt) : (c.setRingSt r x).out = c.out := rfl

theorem Core.setRingSt_pptEntry (c : Core) (r : Nat) (x : RingSt) : (c.setRingSt r x).pptEntry = c.pptEntry := rfl

/-- Counts written are read back. -/
theorem Core.ringSt_setRingSt (c : Core) (r : Nat) {x : RingSt} (h : x.Fits) : (c.setRingSt r x).ringSt r = x := by
  obtain ⟨hhead, htail, hfilled, hpheld, hcheld⟩ := h
  have hptr : ((c.setRingSt r x).reg (Off.RING_PTR r)).toNat = x.head + x.tail * 2 ^ 8 + x.filled * 2 ^ 16 := by
    unfold Core.setRingSt
    simp only [Core.reg_setFld, Core.reg_setReg, if_neg (ringPtr_ne_ringHeld r), if_true, wd, BitVec.toNat_ofNat, Nat.mod_eq_of_lt hhead, Nat.mod_eq_of_lt htail,
      Nat.mod_eq_of_lt hfilled]
    omega
  have hp : (c.setRingSt r x).fld (Off.RING_HELD r) Fl.RING_HELD_PHELD = x.pheld := by
    unfold Core.setRingSt
    rw [Core.fld_setFld_apart _ _ _ _ _ (by decide) (by decide), Core.fld_setFld_same _ _ _ _ (by decide)]
    exact Nat.mod_eq_of_lt hpheld
  have hc : (c.setRingSt r x).fld (Off.RING_HELD r) Fl.RING_HELD_CHELD = x.cheld := by
    unfold Core.setRingSt
    rw [Core.fld_setFld_same _ _ _ _ (by decide)]
    exact Nat.mod_eq_of_lt hcheld
  have hfield (f : Fld) : (c.setRingSt r x).fld (Off.RING_PTR r) f = (x.head + x.tail * 2 ^ 8 + x.filled * 2 ^ 16) / 2 ^ f.lo % 2 ^ f.len := by
    rw [← hptr]; rfl
  unfold Core.ringSt
  rw [hp, hc, hfield, hfield, hfield]
  simp only [Fl.RING_PTR_HEAD, Fl.RING_PTR_TAIL, Fl.RING_PTR_FILLED]
  congr 1 <;> omega

/-- The counts are read from two registers alone. -/
theorem Core.ringSt_congr {c c' : Core} {r : Nat} (hptr : c'.reg (Off.RING_PTR r) = c.reg (Off.RING_PTR r)) (hheld : c'.reg (Off.RING_HELD r) = c.reg (Off.RING_HELD r)) :
    c'.ringSt r = c.ringSt r := by
  unfold Core.ringSt Core.fld
  rw [hptr, hheld]

/-! ### What a ring allows -/

theorem Core.ringAllows_disabled (c : Core) {r : Nat} (hen : c.fld (Off.RING_CFG r) Fl.RING_CFG_EN = 0) (consume : Bool) : c.ringAllows r consume = false := by
  rw [Core.ringAllows, Core.ringEn, hen]
  rfl

theorem Core.ringAllows_consume (c : Core) {r : Nat} (hen : c.fld (Off.RING_CFG r) Fl.RING_CFG_EN = 1) (hmode : c.fld (Off.RING_CFG r) Fl.RING_CFG_MODE ≤ 1) :
    c.ringAllows r true = true := by
  rw [Core.ringAllows, Core.ringEn, hen]
  exact decide_eq_true hmode

theorem Core.ringAllows_produce (c : Core) {r : Nat} (hen : c.fld (Off.RING_CFG r) Fl.RING_CFG_EN = 1) (hmode : c.fld (Off.RING_CFG r) Fl.RING_CFG_MODE = 0) :
    c.ringAllows r false = true := by
  rw [Core.ringAllows, Core.ringEn, hen, Core.ringMode, hmode]
  rfl

end Sys2Proof.Machine

namespace Sys2Proof.Claims
open Sys2Proof Sys2Proof.Machine

/-! ### RECV, RACQ and RREL (O10) -/

/-- A slot that issues and leaves, in the cycle of its bundle, a core with the registers DBG_CTRL and the queue of requests as they were. -/
theorem gives_issued {i : Instr} {s : State} {b : Bun} {n : Nat} {op : SlotOp} (h : IsSlot i b n op) (hm : b.more = false) {upd : Core → Core}
    (hci : CanIssue s.dev b.core i) (hrun : op.run (s.dev.bundleDev b.core) (s.dev.core b.core) = .ok upd none) {x : Core} (hx : upd (s.dev.core b.core).newCycle = x)
    (hreg : x.reg Off.DBG_CTRL = (s.dev.core b.core).reg Off.DBG_CTRL) (hout : x.out = (s.dev.core b.core).out) (hppt : x.pptEntry = (s.dev.core b.core).pptEntry) :
    Gives i s (fun t => OnlyCore s t b.core ∧ t.dev.core b.core = issuedCore s b.core op x none) := by
  have hstep : x.fld Off.DBG_CTRL Fl.DBG_CTRL_SSTEP ≠ 1 := by
    rw [Core.fld, hreg]
    exact hci.noStep
  exact ⟨_, exec_ok h hm hci hrun hx (hout.trans hci.quiet) hstep (hppt.trans hci.noPpt), onlyCore_bundle _ _ _, by simp⟩

/-- The registers of an issued core, CORE_STATUS aside, are those its slot left. -/
theorem issuedCore_reg (s : State) (k : Nat) (op : SlotOp) (x : Core) (npc : Option Nat) {o : Nat} (ho : o ≠ Off.CORE_STATUS) :
    (issuedCore s k op x npc).reg o = x.reg o :=
  (Core.reg_setFld _ _ _ _ _).trans (if_neg ho)

theorem ring_apart (r : Fin 16) : Off.CORE_STATUS ≠ Off.RING_PTR r ∧ Off.CORE_STATUS ≠ Off.RING_HELD r ∧ Off.DBG_CTRL ≠ Off.RING_PTR r ∧ Off.DBG_CTRL ≠ Off.RING_HELD r := by
  revert r
  decide

/-- The counts of a ring that a slot's core was left with. -/
theorem issuedCore_ringSt (s : State) (k : Nat) (op : SlotOp) (x : Core) (npc : Option Nat) (r : Fin 16) : (issuedCore s k op x npc).ringSt r = x.ringSt r := by
  obtain ⟨hptr, hheld, -⟩ := ring_apart r
  exact Core.ringSt_congr (issuedCore_reg s k op x npc hptr.symm) (issuedCore_reg s k op x npc hheld.symm)

section
variable {s : State} {b : Bun} {rd : Fin 32} {ring : Fin 16}

/-- A ring operation that writes the counts `x`, and then perhaps a register: the counts are read back. -/
theorem gives_setRingSt {i : Instr} {op : SlotOp} (h : IsSlot i b 1 op) (hm : b.more = false) {x : RingSt} (hx : x.Fits) {upd : Core → Core}
    (hci : CanIssue s.dev b.core i) (hrun : op.run (s.dev.bundleDev b.core) (s.dev.core b.core) = .ok upd none) {rd : Nat} {v : Word}
    (hupd : ∀ c, upd c = (c.setRingSt ring x).setS rd v) :
    Gives i s (fun t => OnlyCore s t b.core ∧ (t.dev.core b.core).ringSt ring = x ∧ (rd ≠ 0 → (t.dev.core b.core).s rd = v)) := by
  obtain ⟨-, -, hptr, hheld⟩ := ring_apart ring
  have hregs (o : Nat) : ((((s.dev.core b.core).newCycle).setRingSt ring x).setS rd v).reg o = (((s.dev.core b.core).newCycle).setRingSt ring x).reg o := by
    unfold Core.reg
    rw [Core.setS_regs]
  obtain ⟨t, he, honly, hcore⟩ := gives_issued h hm hci hrun (hupd _) ((hregs _).trans (Core.reg_setRingSt_ne _ _ _ hptr hheld))
    ((Core.setS_out _ _ _).trans (Core.setRingSt_out _ _ _)) ((Core.setS_pptEntry _ _ _).trans (Core.setRingSt_pptEntry _ _ _))
  refine ⟨t, he, honly, ?_, fun hrd => ?_⟩
  · rw [hcore, issuedCore_ringSt, Core.ringSt_congr (hregs _) (hregs _), Core.ringSt_setRingSt _ _ hx]
  · rw [hcore]
    exact (Core.s_setS _ _ _ _).trans (if_pos ⟨rfl, hrd⟩)

/-- RACQ of a filled slot. -/
theorem racq_run_consume {d : Dev} {c : Core} {nw : Bool} (hallows : c.ringAllows ring true = true) (hfull : 0 < (c.ringSt ring).filled) :
    (opRacq rd ring true nw).run d c = .ok (fun cur => (cur.setRingSt ring { c.ringSt ring with
      head := ((c.ringSt ring).head + 1) % c.ringSlots ring, filled := (c.ringSt ring).filled - 1, cheld := (c.ringSt ring).cheld + 1 }).setS rd
        (wd ((c.ringSt ring).head * 256 * c.ringUnits ring))) none := by
  simp only [opRacq, hallows, Bool.not_true, Bool.false_eq_true, if_false, if_true, gt_iff_lt, if_pos hfull]

/-- RREL of a slot held by the producer. -/
theorem rrel_run_produce {d : Dev} {c : Core} (hallows : c.ringAllows ring false = true) (hheld : 0 < (c.ringSt ring).pheld) :
    (opRrel ring false).run d c = .ok (fun cur => cur.setRingSt ring { c.ringSt ring with
      pheld := (c.ringSt ring).pheld - 1, filled := (c.ringSt ring).filled + 1 }) none := by
  simp only [opRrel, hallows, Bool.not_true, Bool.false_eq_true, if_false, gt_iff_lt, if_pos hheld]

/-- A message received into an aligned buffer of a powered group. -/
theorem gives_recv (hm : b.more = false) {m : Msg} {rest : List Msg} (hmbx : (s.dev.core b.core).mbx = m :: rest)
    (hmem : memOf ((s.dev.core b.core).s rd).toNat = 2) (ha : ((s.dev.core b.core).s rd).toNat % 16 = 0) (hlen : m.payload.length = 16)
    (hon : (s.dev.core b.core).isOn ((s.dev.core b.core).s rd).toNat = true) (hue : (s.dev.core b.core).ue = []) (hce : (s.dev.core b.core).ce = [])
    (hinj : (s.dev.core b.core).fld Off.SP_EXP Fl.SP_EXP_ECC_INJ = 0) (nw : Bool) :
    Runs (.recv b rd nw) s b.core (fun t => OnlyCore s t b.core ∧ (t.dev.core b.core).mbx = rest ∧ (rd ≠ 0 → (t.dev.core b.core).s rd = m.sourceWord)
      ∧ (t.dev.core b.core).mem = (s.dev.core b.core).mem.write ((s.dev.core b.core).s rd).toNat m.payload) := fun hci => by
  have hwritten := Core.direct_granule (c := { (s.dev.core b.core).newCycle with mbx := rest }) 0 hlen ha hon hue hce hinj
  generalize hy : ({ (s.dev.core b.core).newCycle with mbx := rest } : Core).direct 0 ((s.dev.core b.core).s rd).toNat m.payload = y at hwritten
  obtain ⟨hmemory, hregs, hrest, hout, hppt⟩ := hwritten
  have hrun : (opRecv rd nw).run (s.dev.bundleDev b.core) (s.dev.core b.core) =
      .ok (fun cur => ({ cur with mbx := rest }.direct 0 ((s.dev.core b.core).s rd).toNat m.payload).setS rd m.sourceWord) none := by
    simp only [opRecv, hmbx, hmem, ha, ne_eq, not_true_eq_false, if_false]
  have hregs' : (y.setS rd m.sourceWord).reg Off.DBG_CTRL = (s.dev.core b.core).reg Off.DBG_CTRL := by
    unfold Core.reg
    rw [Core.setS_regs, hregs]
    rfl
  obtain ⟨t, he, honly, hcore⟩ := gives_issued (n := 1) ⟨⟨_, _, rfl⟩, rfl⟩ hm hci hrun (congrArg (Core.setS · rd m.sourceWord) hy) hregs'
    ((Core.setS_out _ _ _).trans hout) ((Core.setS_pptEntry _ _ _).trans hppt)
  refine ⟨t, he, honly, ?_, fun hrd => ?_, ?_⟩
  · rw [hcore]
    exact (Core.setS_mbx _ _ _).trans hrest
  · rw [hcore]
    exact (Core.s_setS _ _ _ _).trans (if_pos ⟨rfl, fun h => hrd (Fin.ext h)⟩)
  · rw [hcore]
    exact (Core.setS_mem _ _ _).trans hmemory

end

/-- Settles O10: a message goes to its buffer as one granule; a ring's counts are written and read back. -/
theorem messagesAndRings : Obligations.MessagesAndRings := by
  unfold Obligations.MessagesAndRings
  intro s b rd ring hm c x a
  obtain ⟨hhead, htail, hfilled, hpheld, hcheld⟩ : x.Fits := c.ringSt_fits ring
  refine ⟨fun m rest hmbx hmem ha hlen hon hue hce hinj nw hci => ?_, fun hmbx hci => ?_, fun dir nw hen hci => ?_, fun nw hen hmode hfull hn hn' _ _ hc hci => ?_,
    fun hen hmode hheld hroom hci => ?_⟩
  · obtain ⟨t, he, honly, hrest, hrd, hmemory⟩ := gives_recv hm hmbx hmem ha hlen hon hue hce hinj nw hci
    refine ⟨t, he, honly, hrest, hrd, fun j => ?_, fun j hj => ?_⟩
    · have hj : j.val < m.payload.length := by omega
      rw [hmemory, Mem.byte_write_in _ _ _ _ hj, Fin.getElem?_fin, List.getElem?_eq_getElem hj]
      rfl
    · rw [hmemory, Mem.byte_write_out _ _ _ _ (by rw [hlen]; exact hj)]
  · refine gives_setS (n := 1) (op := opRecv rd true) ⟨⟨_, _, rfl⟩, rfl⟩ hm hci ?_
    have hmbx' : (s.dev.core b.core).mbx = [] := hmbx
    simp only [opRecv, hmbx', if_true]
  · refine gives_setS (n := 1) (op := opRacq rd ring dir nw) ⟨⟨_, _, rfl⟩, rfl⟩ hm hci ?_
    simp only [opRacq, (s.dev.core b.core).ringAllows_disabled hen, Bool.not_false, if_true]
  · have hhead' : (x.head + 1) % c.ringSlots ring < 64 := (Nat.mod_lt _ hn).trans_le hn'
    have hfilled' : x.filled - 1 < 128 := by omega
    have hcheld' : x.cheld + 1 < 128 := by omega
    obtain ⟨t, he, honly, hring, hrd⟩ := gives_setRingSt (ring := ring) ⟨⟨_, _, rfl⟩, rfl⟩ hm
      (x := { x with head := (x.head + 1) % c.ringSlots ring, filled := x.filled - 1, cheld := x.cheld + 1 }) ⟨hhead', htail, hfilled', hpheld, hcheld'⟩ hci
      (racq_run_consume (c.ringAllows_consume hen hmode) hfull) (fun _ => rfl)
    exact ⟨t, he, honly, hring, fun h => hrd (fun h' => h (Fin.ext h'))⟩
  · have hfilled' : x.filled + 1 < 128 := by omega
    have hpheld' : x.pheld - 1 < 128 := by omega
    obtain ⟨t, he, honly, hring, -⟩ := gives_setRingSt (ring := ring) (rd := 0) (v := 0) ⟨⟨_, _, rfl⟩, rfl⟩ hm
      (x := { x with pheld := x.pheld - 1, filled := x.filled + 1 }) ⟨hhead, htail, hfilled', hpheld', hcheld⟩ hci
      (rrel_run_produce (c.ringAllows_produce hen hmode) hheld) (fun _ => rfl)
    exact ⟨t, he, honly, hring⟩

end Sys2Proof.Claims
end

section
/-! SUPPORT. The lane operations as V slots (R113, R115, R117–R119), and a bundle of a scalar and a lane operation (R37–R42). -/

namespace Sys2Proof.Machine

/-- What a masked lane of a destination takes: nothing, or 0 with Z; an enabled lane takes its value (R113). -/
def laneWrite (c : Core) (g : VM) (f : Nat → Word) (l : Nat) : Option Word := if (c.m g.m).getLsbD l then some (f l) else if g.z then some 0 else none

/-- A vector destination's writes. -/
theorem putVec_eq (c : Core) (g : VM) (vd : Nat) (f : Nat → Word) (cur : Core) :
    putVec c g.m g.z vd f cur = { cur with vregs := laneTab vd (laneWrite c g f) lanes cur.vregs } := by
  refine foldl_setV _ vd (laneWrite c g f) (fun cur l => ?_) lanes cur
  by_cases hl : (c.m g.m).getLsbD l = true
  · simp only [laneSet, laneWrite, if_pos hl]
    rfl
  · by_cases hz : g.z = true
    · simp only [laneSet, laneWrite, if_neg hl, if_pos hz]
      rfl
    · simp only [laneSet, laneWrite, if_neg hl, if_neg hz]

/-- The lanes of a vector destination. -/
theorem laneWrite_getD (c : Core) (g : VM) (f : Nat → Word) (l : Nat) (old : Word) :
    (laneWrite c g f l).getD old = if (c.m g.m).getLsbD l then f l else if g.z then 0 else old := by
  unfold laneWrite
  split
  · rfl
  · split <;> rfl

theorem absBound_eq (x : Word) : absBound x = min (x.toInt.natAbs : Int) 2147483647 := by
  have hlo := x.le_toInt
  have hhi := x.toInt_lt
  simp only [absBound]
  split <;> omega

/-- A signed clamp between two words, on their integers. -/
theorem clampWords_eq (x lo hi : Word) : sMinW (sMaxW x lo) hi = BitVec.ofInt 32 (min (max x.toInt lo.toInt) hi.toInt) := by
  have h : min (max x.toInt lo.toInt) hi.toInt = (sMinW (sMaxW x lo) hi).toInt := by
    unfold sMinW sMaxW
    split_ifs <;> omega
  rw [h, BitVec.ofInt_toInt]

/-- The clamp of VCLAMP's scalar form, on integers. -/
theorem clampScalar_eq (x y : Word) : sMinW (sMaxW x (wi (-absBound y))) (wi (absBound y)) =
    BitVec.ofInt 32 (min (max x.toInt (-(min (y.toInt.natAbs : Int) 2147483647))) (min (y.toInt.natAbs : Int) 2147483647)) := by
  have hbound := absBound_eq y
  have hneg : (wi (-absBound y)).toInt = -absBound y := BitVec.toInt_ofInt_eq_self (by decide) (by omega) (by omega)
  have hpos : (wi (absBound y)).toInt = absBound y := BitVec.toInt_ofInt_eq_self (by decide) (by omega) (by omega)
  rw [clampWords_eq, hneg, hpos, hbound]

/-- The lane that the pattern of neighbours names. -/
theorem neighbour_eq_xor : ∀ l : Fin 16, (if l.val % 2 = 0 then l.val + 1 else l.val - 1) = l.val ^^^ 1 := by decide

/-- What VPERM delivers. -/
theorem permLane_eq (c : Core) (m va vb l : Nat) (hl : l < 16) : permLane c m va vb l =
    if (List.range l).any (fun j => (c.m m).getLsbD j && (c.v vb j).toNat % 16 == (c.v vb l).toNat % 16) then 0 else c.v va ((c.v vb l).toNat % 16) := by
  have hany : (c.enabled m).any (fun j => decide (j < l) && (c.v vb j).toNat % 16 == (c.v vb l).toNat % 16) =
      (List.range l).any (fun j => (c.m m).getLsbD j && (c.v vb j).toNat % 16 == (c.v vb l).toNat % 16) := by
    rw [Bool.eq_iff_iff]
    simp only [List.any_eq_true, Core.enabled, lanes, List.mem_filter, List.mem_range, Bool.and_eq_true, decide_eq_true_eq]
    constructor
    · rintro ⟨j, ⟨-, hm⟩, hj, he⟩
      exact ⟨j, hj, hm, he⟩
    · rintro ⟨j, hj, hm, he⟩
      exact ⟨j, ⟨hj.trans hl, hm⟩, hj, he⟩
  unfold permLane
  simp only [hany]

end Sys2Proof.Machine

namespace Sys2Proof.Claims
open Sys2Proof Sys2Proof.Machine

theorem second_eq : second = srcLane := by
  funext c vb l
  cases vb <;> rfl

/-- The forms of VPERMI that are a lane operation: n is 0 where the pattern does not use it, and the pattern is one of five (R119). -/
theorem laneResult_vpermi {b b' : Bun} {g g' : VM} {vd va : Fin 32} {vd' : Nat} {pat : Fin 8} {n : Fin 16} {f : Core → Nat → Word}
    (h : laneResult (.vpermi b g vd va pat n) = some (b', g', vd', f)) :
    ¬(pat.val ≥ 5 ∨ (n.val ≠ 0 ∧ pat.val ≠ 1 ∧ pat.val ≠ 3)) ∧ b = b' ∧ g = g' ∧ vd.val = vd' ∧ ∀ c l, l < 16 → f c l = c.v va ((permI pat n l).getD l) := by
  match pat, n with
  | 0, 0 => cases h; exact ⟨by decide, rfl, rfl, rfl, fun _ _ _ => rfl⟩
  | 1, n => cases h; exact ⟨by decide +revert, rfl, rfl, rfl, fun _ _ _ => rfl⟩
  | 2, 0 => cases h; exact ⟨by decide, rfl, rfl, rfl, fun _ _ _ => rfl⟩
  | 3, n => cases h; exact ⟨by decide +revert, rfl, rfl, rfl, fun _ _ _ => rfl⟩
  | 4, 0 => cases h; exact ⟨by decide, rfl, rfl, rfl, fun c l hl => congrArg (c.v va) (neighbour_eq_xor ⟨l, hl⟩).symm⟩

/-- What each lane operation is to its bundle: the V slot, with its destination and the value of an enabled lane. -/
theorem laneResult_slot {i : Instr} {b : Bun} {g : VM} {vd : Nat} {f : Core → Nat → Word} (h : laneResult i = some (b, g, vd, f)) :
    ∃ (op : SlotOp) (p : Core → Nat → Word), IsSlot i b 2 op ∧ op.dest = some (rV vd) ∧ (∀ d c, op.run d c = .ok (putVec c g.m g.z vd (p c)) none)
      ∧ ∀ c l, l < 16 → p c l = f c l := by
  cases i with
  | vadd | vsub | vmul | vand | vor | vxor | vsll | vsrl | vsra | vsrar | vmac | vsel =>
    cases h
    rw [second_eq]
    exact ⟨_, _, ⟨⟨_, _, rfl⟩, rfl⟩, rfl, fun _ _ => rfl, fun _ _ _ => rfl⟩
  | vmulh =>
    cases h
    rw [second_eq]
    exact ⟨_, _, ⟨⟨_, _, rfl⟩, rfl⟩, rfl, fun _ _ => rfl, fun _ _ _ => rfl⟩
  | vmin | vmax =>
    cases h
    rw [second_eq]
    refine ⟨_, _, ⟨⟨_, _, rfl⟩, rfl⟩, rfl, fun _ _ => rfl, fun _ _ _ => ?_⟩
    simp only [sMinW_eq, sMaxW_eq]
  | vmov | vnot | vslli | vsrli | vsrai | vsrari | viota =>
    cases h
    exact ⟨_, _, ⟨⟨_, _, rfl⟩, rfl⟩, rfl, fun _ _ => rfl, fun _ _ _ => rfl⟩
  | vaddi b g vd va imm =>
    cases h
    exact ⟨_, _, ⟨⟨_, _, rfl⟩, rfl⟩, rfl, fun _ _ => rfl, fun _ _ _ => rfl⟩
  | vmtov b g vd ma =>
    cases h
    exact ⟨_, _, ⟨⟨_, _, rfl⟩, rfl⟩, rfl, fun _ _ => rfl, fun _ _ _ => rfl⟩
  | vperm b g vd va vb =>
    cases h
    exact ⟨_, _, ⟨⟨_, _, rfl⟩, rfl⟩, rfl, fun _ _ => rfl, fun c l hl => permLane_eq c g.m va vb l hl⟩
  | vclamp b g vd va vb vc =>
    cases vb with
    | vec vb =>
      cases h
      exact ⟨_, _, ⟨⟨_, _, rfl⟩, rfl⟩, rfl, fun _ _ => rfl, fun _ _ _ => clampWords_eq _ _ _⟩
    | scal ss =>
      obtain ⟨vc | vc, hvc⟩ := vc
      · cases h
        exact ⟨_, _, ⟨⟨_, _, rfl⟩, rfl⟩, rfl, fun _ _ => rfl, fun _ _ _ => clampScalar_eq _ _⟩
      · cases h
  | vpermi b g vd va pat n =>
    obtain ⟨hform, hb, hg, hvd, hval⟩ := laneResult_vpermi h
    subst hb hg hvd
    refine ⟨_, fun c l => c.v va ((permI pat n l).getD l), ⟨⟨_, _, rfl⟩, rfl⟩, rfl, fun d c => ?_, fun c l hl => (hval c l hl).symm⟩
    exact if_neg hform
  | _ => cases h

/-! ### What a slot command does before its bundle issues (R37, R38, R48) -/

/-- The command of a core that can begin a bundle reaches the core's fetch. -/
theorem slot_fetch {d : Dev} {i : Instr} {c : Code} (hc : slotCode i = some c) (hi : (d.core c.bun.core).issues = true)
    (hp : (d.core c.bun.core).fld Off.DBG_CTRL Fl.DBG_CTRL_PAR_INJECT ≠ 1) {f : Fetch} (hf : (d.core c.bun.core).fetch = f) (hnone : ∀ w, f ≠ .bundle w) :
    d.slot i = (d.bundleDev c.bun.core).fetchTrouble c.bun.core f := by
  simp only [Dev.slot, hc, Dev.slotAt, hi, Core.takeParityInject_off _ hp, hf, Bool.not_true, Bool.false_eq_true, if_false]
  cases f with
  | bundle w => exact absurd rfl (hnone w)
  | _ => rfl

/-- A slot that later slots follow joins those given. -/
theorem slot_staged {d : Dev} {i : Instr} {c : Code} {op : SlotOp} {w : Nat} (hc : slotCode i = some c) (hop : opOf i = some op) (hslot : c.slot = 1)
    (ho : Open d c.bun.core) (hf : (d.core c.bun.core).fetch = .bundle w) (hw : spells w 1 [i] = true) (hm : c.bun.more = true) (he : emptySlots w 2 4 = false) :
    d.slot i = d.setStage c.bun.core [i] := by
  have hpart : partOf i = some (1, op) := by simp only [partOf, hc, hop, hslot]
  simp only [Dev.slot, hc, Dev.slotAt, ho.issues, Core.takeParityInject_off _ ho.noInject, hf, ho.fresh, List.nil_append, hw, hm, hpart, List.filterMap_cons, List.filterMap_nil,
    List.foldl_cons, List.foldl_nil, he, Bool.not_true, Bool.not_false, Bool.and_true, Bool.false_eq_true, if_false, if_true, ite_self, Nat.max_eq_right (show 1 ≤ 1 + 1 by decide)]

/-- The last slot of a bundle of two. -/
theorem slot_second {d : Dev} {i j : Instr} {c : Code} {w : Nat} (hc : slotCode j = some c) (hi : (d.core c.bun.core).issues = true)
    (hp : (d.core c.bun.core).fld Off.DBG_CTRL Fl.DBG_CTRL_PAR_INJECT ≠ 1) (hstage : d.stage c.bun.core = [i])
    (hf : (d.core c.bun.core).fetch = .bundle w) (hw : spells w 1 [i, j] = true) (hm : c.bun.more = false) :
    d.slot j = (d.bundleDev c.bun.core).runBundle c.bun.core ([i, j].filterMap partOf) := by
  simp only [Dev.slot, hc, Dev.slotAt, hi, Core.takeParityInject_off _ hp, hf, hstage, List.cons_append, List.nil_append, hw, hm, Bool.not_true, Bool.false_eq_true, if_false,
    if_true, Bool.false_and]
  rfl

end Sys2Proof.Claims

namespace Sys2Proof.Machine

/-- A bundle of two slots that both issue and write different registers, on a core that neither steps singly nor takes a preemption point. -/
theorem Dev.runBundle_two (d : Dev) (k : Nat) {n n' : Nat} {op op' : SlotOp} (hr : (op.reads ++ op.dest.toList).any ((d.core k).pendingAt (d.cycles k)) = false)
    (hr' : (op'.reads ++ op'.dest.toList).any ((d.core k).pendingAt (d.cycles k)) = false) {upd upd' : Core → Core}
    (hrun : op.run d (d.core k) = .ok upd none) (hrun' : op'.run d (d.core k) = .ok upd' none) (hdest : op'.dest ≠ op.dest) {y : Core}
    (hy : ({ upd' (upd (d.core k).newCycle) with ready := (d.core k).noteReady (d.cycles k) [op, op'] } : Core).issued (d.core k).pc none = y)
    (hout : y.out = []) (hstep : y.fld Off.DBG_CTRL Fl.DBG_CTRL_SSTEP ≠ 1) (hppt : y.pptEntry = none) :
    d.runBundle k [(n, op), (n', op')] = d.setCore k y := by
  have hfault : bundleFault [(n, op, op.run d (d.core k)), (n', op', op'.run d (d.core k))] = none := by
    rw [hrun, hrun']
    cases h : op.dest with
    | none => cases h' : op'.dest <;> simp [bundleFault, twiceFault, writesTwice, h, h']
    | some r =>
      cases h' : op'.dest with
      | none => simp [bundleFault, twiceFault, writesTwice, h, h']
      | some r' =>
        have hne : ¬ r = r' := fun he => hdest (by rw [h, h', he])
        simp [bundleFault, twiceFault, writesTwice, h, h', hne]
  have hwait : firstWait [(n, op, op.run d (d.core k)), (n', op', op'.run d (d.core k))] = none := by
    rw [hrun, hrun']
    rfl
  have happly : applyParts [(n, op, op.run d (d.core k)), (n', op', op'.run d (d.core k))] (d.core k).newCycle = (upd' (upd (d.core k).newCycle), none) := by
    rw [hrun, hrun']
    rfl
  unfold Dev.runBundle
  simp only [List.any_cons, List.any_nil, hr, hr', Bool.or_false, Bool.false_eq_true, if_false, List.map_cons, List.map_nil, hwait, hfault, happly, hy]
  rw [Dev.putCore_quiet _ _ _ hout]
  simp [Dev.singleStep, hstep, hppt]

end Sys2Proof.Machine
end

section
namespace Sys2Proof.Claims
open Sys2Proof Sys2Proof.Machine

/-! ### Slots that read the core before their bundle (O14) -/

/-- A slot whose registers are not all ready waits for them (R40). -/
theorem gives_notReady {i : Instr} {s : State} {b : Bun} {n w : Nat} {op : SlotOp} (h : IsSlot i b n op) (hm : b.more = false) (ho : Open s.dev b.core)
    (hf : (s.dev.core b.core).fetch = .bundle w) (hw : spells w 1 [i] = true) (hr : ¬ Ready s.dev b.core i) : Waits i s b.core 1 Off.STALL_DEP := by
  intro hcount
  obtain ⟨x, f, hc⟩ := h.code
  have hany : (op.reads ++ op.dest.toList).any ((s.dev.core b.core).pendingAt (s.dev.cycles b.core)) = true := by
    rw [← Bool.not_eq_false]
    refine fun hno => hr fun op' hop' => ?_
    rw [h.op] at hop'
    rwa [← Option.some.inj hop']
  have hbundle : (s.dev.bundleDev b.core).runBundle b.core [(n, op)] = (s.dev.bundleDev b.core).putCore b.core ((s.dev.core b.core).waited s.dev.tick 1 0 false) := by
    unfold Dev.runBundle
    simp only [Dev.bundleDev_core, Dev.bundleDev_cycles, List.any_cons, List.any_nil, Bool.or_false, hany, if_true]
    rfl
  have hpart : [i].filterMap partOf = [(n, op)] := by simp [partOf, hc, h.op]
  have he : exec i s = .next { s with dev := (s.dev.bundleDev b.core).putCore b.core ((s.dev.core b.core).waited s.dev.tick 1 0 false) } := by
    rw [exec_slot hc, Dev.slot_whole s.dev i _ w hc ho.issues ho.fresh ho.noInject hf hw hm, hpart, ← hbundle]
    rfl
  obtain ⟨t, ht, honly, hpc, hsregs, -, hwait, hcounter⟩ := gives_waited (kind := 1) he ho.quiet (by decide) hcount
  exact ⟨t, ht, honly, hpc, hsregs, hwait, hcounter⟩

/-- What a result's register stays pending for (R40, R41). -/
theorem pendingAt_retired {c : Core} {now rd lat : Nat} (hrd : rd < 64) (hbefore : c.pendingAt now rd = false) (h0 : rd ≠ 0) {c' : Core}
    (hregs : c'.pendingRegs = c.pendingRegs) {op : SlotOp} (hdest : op.dest = some rd) (hlat : op.lat c = lat) (hready : c'.ready = c.noteReady now [op])
    {x : Nat} (hx : now < x) (h1 : 1 ≤ lat) : c'.pendingAt x rd = decide (x < now + lat) := by
  have hm0 : rd ≠ rM 0 := by unfold rM; omega
  have hs0 : rd ≠ rS 0 := h0
  have hno : c.pendingRegs.contains rd = false := by
    simp only [Core.pendingAt, bne_iff_ne.mpr hs0, bne_iff_ne.mpr hm0, Bool.true_and, Bool.or_eq_false_iff] at hbefore
    exact hbefore.1
  have hget : Tab.get 0 c'.ready rd = if lat ≤ 1 then 0 else now + lat := by
    simp only [hready, Core.noteReady, List.foldl_cons, List.foldl_nil, hdest, hlat, readyAfter, hs0, hm0, or_false]
    exact Tab.get_set_same _ _ _ _
  rw [Core.pendingAt, hregs, hno, hget, bne_iff_ne.mpr hs0, bne_iff_ne.mpr hm0]
  simp only [Bool.true_and, Bool.false_or, decide_eq_decide]
  split <;> omega

/-- The destination of a scalar operation is an s register. -/
theorem scalarResult_dest_lt {i : Instr} {b : Bun} {rd : Nat} {f : Core → Word} (h : scalarResult i = some (b, rd, f)) : rd < 32 := by
  cases i with
  | add | sub | and | or | xor | sll | srl | sra | slt | sltu | min | max | mul | mulh | addi | andi | ori | xori | slli | srli | srai | slti | lui | rdcych =>
    cases h
    exact Fin.isLt _
  | _ => cases h

/-- A bundle of a scalar and a lane operation: both read the core before it. -/
theorem gives_scalarAndLane {i j : Instr} {s : State} {b b' : Bun} {rd w vd : Nat} {f : Core → Word} {g : VM} {h : Core → Nat → Word} (hi : scalarResult i = some (b, rd, f))
    (hj : laneResult j = some (b', g, vd, h)) (hb : b'.core = b.core) (hm : b'.more = false) (ho : Open { s.dev with stages := [] } b.core)
    (hstage : s.dev.stage b.core = [i]) (hf : (s.dev.core b.core).fetch = .bundle w) (hw : spells w 1 [i, j] = true) (hri : Ready s.dev b.core i) (hrj : Ready s.dev b.core j) :
    ∃ p : Nat → Word, (∀ l, l < 16 → p l = h (s.dev.core b.core) l) ∧
    Gives j s (fun t => OnlyCore s t b.core ∧ (t.dev.core b.core).pc = (s.dev.core b.core).pc + 1
      ∧ (t.dev.core b.core).sregs = ((s.dev.core b.core).setS rd (f (s.dev.core b.core))).sregs
      ∧ (t.dev.core b.core).vregs = laneTab vd (laneWrite (s.dev.core b.core) g p) lanes (s.dev.core b.core).vregs) := by
  obtain ⟨op, hop, hdest, -, hrun⟩ := scalarResult_slot hi
  obtain ⟨op', p, hop', hdest', hrun', hval⟩ := laneResult_slot hj
  obtain ⟨x, q, hc⟩ := hop.code
  obtain ⟨x', q', hc'⟩ := hop'.code
  refine ⟨p (s.dev.core b.core), fun l hl => hval _ l hl, ?_⟩
  have hne : op'.dest ≠ op.dest := by
    rw [hdest, hdest']
    intro he
    have := scalarResult_dest_lt hi
    simp only [Option.some.injEq, rV] at he
    omega
  have hpart : [i, j].filterMap partOf = [(1, op), (2, op')] := by simp [partOf, hc, hc', hop.op, hop'.op]
  have hissues : (s.dev.core b.core).issues = true := ho.issues
  have hslot := slot_second (d := s.dev) hc' (by rw [hb]; exact hissues) (by rw [hb]; exact ho.noInject) (by rw [hb]; exact hstage) (by rw [hb]; exact hf) hw hm
  simp only [hb, hpart] at hslot
  have hready {i : Instr} {op : SlotOp} (hr : Ready s.dev b.core i) (hop : opOf i = some op) :
      (op.reads ++ op.dest.toList).any (((s.dev.bundleDev b.core).core b.core).pendingAt ((s.dev.bundleDev b.core).cycles b.core)) = false := by
    rw [Dev.bundleDev_cycles, Dev.bundleDev_core]
    exact hr op hop
  have hregs : ((s.dev.core b.core).newCycle.setS rd (f (s.dev.core b.core))).regs = (s.dev.core b.core).regs := Core.setS_regs _ _ _
  have hquiet : ((s.dev.core b.core).newCycle.setS rd (f (s.dev.core b.core))).out = [] := (Core.setS_out _ _ _).trans ho.quiet
  have hppt : ((s.dev.core b.core).newCycle.setS rd (f (s.dev.core b.core))).pptEntry = none := (Core.setS_pptEntry _ _ _).trans ho.noPpt
  have hstep : ((s.dev.core b.core).newCycle.setS rd (f (s.dev.core b.core))).fld Off.DBG_CTRL Fl.DBG_CTRL_SSTEP ≠ 1 := by
    unfold Core.fld Core.reg
    rw [Core.setS_regs]
    exact ho.noStep
  have hsregs : ((s.dev.core b.core).newCycle.setS rd (f (s.dev.core b.core))).sregs = ((s.dev.core b.core).setS rd (f (s.dev.core b.core))).sregs := by
    unfold Core.setS
    split <;> rfl
  have hvregs : ((s.dev.core b.core).newCycle.setS rd (f (s.dev.core b.core))).vregs = (s.dev.core b.core).vregs := Core.setS_vregs _ _ _
  have hbundle := Dev.runBundle_two (s.dev.bundleDev b.core) b.core (n := 1) (n' := 2) (hready hri hop.op) (hready hrj hop'.op) (hrun _ _) (hrun' _ _) hne rfl
  simp only [Dev.bundleDev_core, Dev.bundleDev_cycles, putVec_eq] at hbundle
  generalize (s.dev.core b.core).newCycle.setS rd (f (s.dev.core b.core)) = x at *
  have hdev := hslot.trans (hbundle hquiet (fun he => hstep ((Core.fld_setFld_ne _ _ _ _ _ _ (by decide)).symm.trans he)) hppt)
  refine ⟨_, (exec_slot hc' s).trans (congrArg (fun d => Host.Outcome.next { s with dev := d }) hdev), onlyCore_bundle _ _ _, ?_, ?_, ?_⟩
  · rw [Dev.core_setCore, if_pos rfl]
    rfl
  · rw [Dev.core_setCore, if_pos rfl]
    exact hsregs
  · rw [Dev.core_setCore, if_pos rfl, ← hvregs]
    rfl

/-- The command of a core whose fetch finds no encoding, or nothing at all. -/
theorem fetch_troubles {i : Instr} {s : State} {c : Code} (hc : slotCode i = some c) (ho : Open s.dev c.bun.core) :
    (∀ slot, (s.dev.core c.bun.core).fetch = .illegal slot → slot < 4 → Stops i s c.bun.core 0x01 slot)
    ∧ ((s.dev.core c.bun.core).pc = 4096 → Stops i s c.bun.core 0x03 0)
    ∧ ((s.dev.core c.bun.core).fetch = .invalid → Waits i s c.bun.core 6 Off.STALL_FETCH) := by
  have hexec {f : Fetch} (hf : (s.dev.core c.bun.core).fetch = f) (hnone : ∀ w, f ≠ .bundle w) :
      exec i s = .next { s with dev := (s.dev.bundleDev c.bun.core).fetchTrouble c.bun.core f } := by
    rw [exec_slot hc, slot_fetch hc ho.issues ho.noInject hf hnone]
  have hstop {f : Fetch} {code slot : Nat} (hf : (s.dev.core c.bun.core).fetch = f) (hnone : ∀ w, f ≠ .bundle w)
      (htrouble : (s.dev.bundleDev c.bun.core).fetchTrouble c.bun.core f = (s.dev.bundleDev c.bun.core).coreStop c.bun.core code slot 0 0 0)
      (hcode : code < 256) (hslot : slot < 4) : Stops i s c.bun.core code slot := by
    obtain ⟨hcause, hcslot⟩ := (s.dev.core c.bun.core).stopped_cause 0 hcode hslot
    refine ⟨_, hexec hf hnone, ?_⟩
    simp only [htrouble, Dev.coreStop_core, Dev.bundleDev_core]
    exact ⟨rfl, hcause, hcslot, rfl, rfl, rfl, rfl⟩
  refine ⟨fun slot hf hslot => hstop hf (fun _ => nofun) rfl (by decide) hslot, fun hpc => hstop (f := .range) ?_ (fun _ => nofun) rfl (by decide) (by decide), fun hf hcount => ?_⟩
  · exact if_pos hpc.ge
  · have he := hexec hf (fun _ => nofun)
    simp only [Dev.fetchTrouble, Dev.bundleDev_core] at he
    obtain ⟨t, ht, honly, hpc, hsregs, -, hwait, hcounter⟩ := gives_waited (kind := 6) he ho.quiet (by decide) hcount
    exact ⟨t, ht, honly, hpc, hsregs, hwait, hcounter⟩

/-- Settles O14: a slot that others follow is kept; two slots of one bundle read the core before it; pending registers, latencies, and fetches that find no bundle. -/
theorem slotsReadTheCoreBefore : Obligations.SlotsReadTheCoreBefore := by
  unfold Obligations.SlotsReadTheCoreBefore
  refine ⟨fun i s b rd w f h hm ho hf hw he => ?_, fun i j s b b' rd w vd f g h hi hj hb hm ho hstage hf hw hri hrj => ?_, fun i s b rd w f h hm ho hf hw hr => ?_,
    fun i s b rd f h hm h0 hci => ?_, fun i s c hc ho => fetch_troubles hc ho⟩
  · obtain ⟨op, hop, -⟩ := scalarResult_slot h
    obtain ⟨x, q, hc⟩ := hop.code
    refine ⟨{ s with dev := s.dev.setStage b.core [i] }, (exec_slot hc s).trans (congrArg (fun d => Host.Outcome.next { s with dev := d })
      (slot_staged hc hop.op rfl ho hf hw hm he)), rfl, rfl, rfl, ?_, rfl, fun j hj => ?_⟩
    · exact (Dev.stage_setStage _ _ _ _).trans (if_pos rfl)
    · exact (Dev.stage_setStage _ _ _ _).trans (if_neg hj)
  · obtain ⟨p, hp, t, he, honly, hpc, hsregs, hvregs⟩ := gives_scalarAndLane hi hj hb hm ho hstage hf hw hri hrj
    refine ⟨t, he, honly, hpc, fun r => ?_, fun r l hl => ?_⟩
    · have hs : (t.dev.core b.core).s r = ((s.dev.core b.core).setS rd (f (s.dev.core b.core))).s r := by
        unfold Core.s
        rw [hsregs]
      rw [hs, Core.s_setS]
    · rw [Core.v_of_laneTab hvregs r hl, laneWrite_getD, hp l hl]
      by_cases hr : r = vd
      · rw [if_pos hr, if_neg (not_not.mpr hr), hr]
        rfl
      · rw [if_neg hr, if_pos hr]
  · obtain ⟨op, hop, -⟩ := scalarResult_slot h
    exact gives_notReady hop hm ho hf hw hr
  · obtain ⟨op, hop, hdest, hlat, hrun⟩ := scalarResult_slot h
    obtain ⟨t, he, -, hcore⟩ := gives_setS hop hm hci (hrun _ _)
    have hpending : (s.dev.core b.core).pendingAt (s.dev.cycles b.core) rd = false := by
      have := hci.ready op hop.op
      rw [List.any_eq_false] at this
      simpa using this rd (by simp [hdest])
    have hlat1 : 1 ≤ latency i := by
      unfold latency
      split <;> decide
    have hlt := scalarResult_dest_lt h
    refine ⟨t, he, fun x hx => pendingAt_retired (by omega) hpending h0 ?_ hdest (hlat _) ?_ hx hlat1⟩
    · rw [hcore]
      unfold Core.pendingRegs
      exact congrArg₂ _ rfl (by rw [show (retire _ _ _ _ _ _).lq = _ from Core.setS_lq _ _ _, show (retire _ _ _ _ _ _).replies = _ from Core.setS_replies _ _ _])
    · rw [hcore, retire, hop.op]
      rfl

end Sys2Proof.Claims
end

section
/-! SUPPORT. A message to a core number past the 512 cores, whose packet leaves both sides' meshes (R63, R228, R245). -/

namespace Sys2Proof.Machine

/-- A record leaves the queues of other sources, that of the telemetry block aside. -/
theorem Dev.waiting_emit_ne (d : Dev) (e : Ev) {x : Nat} (hsrc : x ≠ e.src) (htel : x ≠ 0x0C) : (d.emit e).waiting x = d.waiting x := by
  unfold Dev.emit
  dsimp only
  split
  · rw [Dev.waiting_setWaiting, if_neg hsrc]
    rfl
  · split
    · rfl
    · split
      · rw [Dev.waiting_setWaiting, if_neg htel]
        rfl
      · rfl

/-- A counter leaves the queues of other sources than its own, that of the telemetry block aside. -/
theorem Dev.waiting_bump_ne (d : Dev) (o n : Nat) (e : Ev) {x : Nat} (hsrc : x ≠ e.src) (htel : x ≠ 0x0C) : (d.bump o n e).waiting x = d.waiting x := by
  unfold Dev.bump
  dsimp only
  split
  · rfl
  · exact Dev.waiting_emit_ne _ e hsrc htel

/-- A counter that rises by `n > 0` and reads as before has wrapped, and left its record. -/
theorem Dev.bump_moves (d : Dev) {o n : Nat} {e : Ev} (hn : 0 < n) (hroom : (d.waiting e.src).length < 8)
    (hsame : (d.bump o n e).reg o = d.reg o) : (d.bump o n e).waiting e.src ≠ d.waiting e.src := by
  by_cases hwrap : (d.reg o).toNat + n < 2 ^ 32
  · rw [Dev.bump_small _ _ _ _ hwrap, Dev.reg_setReg, if_pos rfl] at hsame
    have := congrArg BitVec.toNat hsame
    simp only [wd, BitVec.toNat_ofNat] at this
    omega
  · have hroom' : ((d.setReg o (wd ((d.reg o).toNat + n))).waiting e.src).length < 8 := hroom
    rw [Dev.bump_wrap _ _ _ _ (not_lt.mp hwrap), Dev.waiting_emit _ _ hroom']
    simp

/-- Core 0 has sent a message to core number 512, which no device has and this table lists as IDLE. -/
def Dev.strayMessage : Dev :=
  { Dev.atReset with cores := [(0, { Core.atReset with sq := [⟨0, 0, 512, []⟩] }), (512, { Core.atReset with state := .idle })] }

/-- The device once the message has left core 0. -/
def Dev.straySent : Dev := Dev.strayMessage.setCore 0 { Dev.strayMessage.core 0 with sq := [] }

/-- The register that counts the flits the bridge gives to a side numbered 2. -/
def strayCounter : Nat := (Block.mesh 2).base + Off.MESH_BR_IN

theorem strayPath : meshPath (clusterOut 0) (clusterOut 32) =
    [(0, 0, 1), (0, 4, 1), (0, 8, 1), (0, 12, 5), (2, 12, 0), (2, 8, 0), (2, 4, 0), (2, 0, 4)] := by decide

/-- A packet of 16 bytes from cluster 0 to a cluster 32, every register at its reset value: the bridge counts it out of side 0 and into side 2, and no selected port lies on its way. -/
theorem Dev.strayPacket_eq {d : Dev} (hregs : ∀ o, d.reg o = regReset o) : d.clusterPacket 0 32 16 =
    (d.meshCount 0 Off.MESH_BR_OUT (flitsOf 16)).meshCount 2 Off.MESH_BR_IN (flitsOf 16) := by
  have hreg {o : Nat} (h0 : o ≠ (Block.mesh 0).base + Off.MESH_BR_OUT) (h2 : o ≠ (Block.mesh 2).base + Off.MESH_BR_IN) (ht : o ≠ Block.tel.base + Off.TEL_SRC_DROPS) :
      ((d.meshCount 0 Off.MESH_BR_OUT (flitsOf 16)).meshCount 2 Off.MESH_BR_IN (flitsOf 16)).reg o = regReset o :=
    ((Dev.reg_bump _ _ _ _ h2 ht).trans (Dev.reg_bump _ _ _ _ h0 ht)).trans (hregs o)
  have hsel : (meshPath (clusterOut 0) (clusterOut 32)).filter
      ((d.meshCount 0 Off.MESH_BR_OUT (flitsOf 16)).meshCount 2 Off.MESH_BR_IN (flitsOf 16)).selected = [] := by
    rw [List.filter_eq_nil_iff, strayPath]
    intro o ho
    have hside : o.1 = 0 ∨ o.1 = 2 := by revert o; decide
    have hport : ¬(o.2.1 = 0 ∧ o.2.2 = 0) := by revert o; decide
    have hzero (f : Fld) : ((d.meshCount 0 Off.MESH_BR_OUT (flitsOf 16)).meshCount 2 Off.MESH_BR_IN (flitsOf 16)).fld
        ((Block.mesh o.1).base + Off.MESH_LINK_SEL) f = f.get 0 := by
      unfold Dev.fld
      rcases hside with h | h <;> rw [h, hreg (by decide) (by decide) (by decide)] <;> rfl
    simp only [Dev.selected, hzero, Bool.and_eq_true, beq_iff_eq]
    exact fun h => hport ⟨h.1.symm, h.2.symm⟩
  unfold Dev.clusterPacket Dev.packet
  rw [if_neg (by decide)]
  exact (congrArg (fun l => Dev.each _ (l.map (·.1)) _) hsel)

theorem strayCounter_notTraffic : strayCounter ∉ Claims.trafficRegs := by decide +kernel

theorem Dev.strayMessage_calm : Claims.Calm Dev.strayMessage := by
  unfold Claims.Calm
  decide +kernel

end Sys2Proof.Machine

namespace Sys2Proof.Claims
open Sys2Proof Sys2Proof.Machine

theorem intoMailbox_reg (k : Nat) (m : Msg) (d : Dev) (o : Nat) : (intoMailbox k m d).reg o = d.reg o := rfl

theorem intoMailbox_waiting (k : Nat) (m : Msg) (d : Dev) (src : Nat) : (intoMailbox k m d).waiting src = d.waiting src := rfl

/-- What the packet to a cluster 32 leaves is no device that `Traffic` allows: the bridge counts it in the MESH_BR_IN of a side 2, or records that counter's wrap. -/
theorem strayPacket_notTraffic {d e : Dev} (hregs : ∀ o, d.reg o = regReset o) (hquiet : ∀ x, d.waiting x = []) (htraffic : Traffic d e) {k : Nat} {m : Msg}
    (hsame : intoMailbox k m (d.clusterPacket 0 32 16) = intoMailbox k m e) : False := by
  obtain ⟨-, -, hrecords, hothers⟩ := htraffic
  rw [Dev.strayPacket_eq hregs] at hsame
  have hreg : ((d.meshCount 0 Off.MESH_BR_OUT (flitsOf 16)).meshCount 2 Off.MESH_BR_IN (flitsOf 16)).reg strayCounter = e.reg strayCounter := by
    rw [← intoMailbox_reg, hsame, intoMailbox_reg]
  have hwaiting : ((d.meshCount 0 Off.MESH_BR_OUT (flitsOf 16)).meshCount 2 Off.MESH_BR_IN (flitsOf 16)).waiting (srcMesh 2) = e.waiting (srcMesh 2) := by
    rw [← intoMailbox_waiting, hsame, intoMailbox_waiting]
  have hbefore : (d.meshCount 0 Off.MESH_BR_OUT (flitsOf 16)).waiting (srcMesh 2) = [] :=
    (Dev.waiting_bump_ne _ _ _ _ (by decide) (by decide)).trans (hquiet _)
  have hcounter : (d.meshCount 0 Off.MESH_BR_OUT (flitsOf 16)).reg strayCounter = d.reg strayCounter :=
    Dev.reg_bump _ _ _ _ (by decide) (by decide)
  refine Dev.bump_moves (d.meshCount 0 Off.MESH_BR_OUT (flitsOf 16)) (n := flitsOf 16) (o := strayCounter) (e := { cls := kECC, code := 0x0D, src := srcMesh 2 })
    ?_ ?_ ?_ ?_
  · exact Nat.lt_of_lt_of_le Nat.zero_lt_one (Nat.le_add_right_of_le (le_max_left _ _))
  · rw [hbefore]
    decide
  · exact hreg.trans ((hothers strayCounter strayCounter_notTraffic).trans hcounter.symm)
  · exact hwaiting.trans ((hrecords (srcMesh 2) (by decide)).trans ((hquiet _).trans hbefore.symm))

/-- Refutes O15: a message whose target is core number 512, which the table of cores lists as IDLE. Its packet goes to the cluster 32 of a side 2, where the model
counts it in that side's MESH_BR_IN (or records that counter's wrap), which the statement's `Traffic` leaves alone. -/
theorem not_coreLifeEvents : ¬ Obligations.CoreLifeEvents := by
  unfold Obligations.CoreLifeEvents
  intro h
  obtain ⟨-, -, -, -, hmessage, -⟩ := h { State.reset with dev := Dev.strayMessage } 0
  obtain ⟨hdeliver, -⟩ := hmessage ⟨0, 0, 512, []⟩ [] rfl rfl
  obtain ⟨-, htraffic⟩ := hdeliver (by decide) (by decide) (by decide) (by decide)
  obtain ⟨e, htraffic, hexec⟩ := htraffic Dev.strayMessage_calm
  have hdev : intoMailbox 512 ⟨0, 0, 512, []⟩ (Dev.straySent.clusterPacket 0 32 16) = intoMailbox 512 ⟨0, 0, 512, []⟩ e := by
    injection hexec with hexec
    exact congrArg State.dev hexec
  exact strayPacket_notTraffic (fun _ => rfl) (fun _ => rfl) htraffic hdev

end Sys2Proof.Claims
end

section
/-! SUPPORT. A notification for a core number past the 512 cores, whose packet leaves both sides' meshes (R63, R228, R263). -/

namespace Sys2Proof.Machine

/-- The Latch unit of cluster 0 holds a notification for core number 512. -/
def Latch.strayNotice : Latch := { (Dev.atReset.lu 0) with waiting := [⟨512, 0, [], true⟩] }

/-- The device with that unit, whose table of cores lists a core number 512, which no device has, as RUNNING. -/
def Dev.strayNotification : Dev :=
  { Dev.atReset with cores := [(512, { Core.atReset with state := .running })], lus := [(0, Latch.strayNotice)] }

theorem Dev.strayNotification_calm : Claims.Calm Dev.strayNotification := by
  unfold Claims.Calm
  decide +kernel

end Sys2Proof.Machine

namespace Sys2Proof.Claims
open Sys2Proof Sys2Proof.Machine

/-- Refutes O23: a notification for core number 512, which the table of cores lists as RUNNING. Its packet goes to the cluster 32 of a side 2, where the model
counts it in that side's MESH_BR_IN (or records that counter's wrap), which the statement's `Traffic` leaves alone. -/
theorem not_latchEvents : ¬ Obligations.LatchEvents := by
  unfold Obligations.LatchEvents
  intro h
  obtain ⟨-, -, -, -, hnotification⟩ := h { State.reset with dev := Dev.strayNotification } 0
  obtain ⟨-, hafter⟩ := hnotification 0 ⟨512, 0, [], true⟩ rfl (by decide) (by decide) (by decide) (by decide) (by decide)
  obtain ⟨e, htraffic, hexec⟩ := hafter Dev.strayNotification_calm
  injection hexec with hexec
  exact strayPacket_notTraffic (fun _ => rfl) (fun _ => rfl) htraffic (congrArg State.dev hexec)

end Sys2Proof.Claims
end

section
/-! SUPPORT. Writes of PF0 that reach a block, and the counters they zero (R9, R33, R34). -/

namespace Sys2Proof.Machine

/-! ### A write that reaches its block -/

/-- Whether a register lies at an offset of PF0 BAR0, by its block and its place in it, and is not an expert's. -/
def Block.holds (b : Block) (l : Nat) : Bool := locate (absOff .pf0 (b.base + l)) == some (b, l) && (regOf b l).any (fun r => !r.expert)

/-- A write of PF0 that starts nothing behind a Shutter reaches its block as it stands. -/
theorem pf0Write_takes {b : Block} {l : Nat} {v : Word} {s : State} (htakes : Claims.Takes s.dev b) (hholds : b.holds l = true)
    (hgroup : ¬(b = .apg ∧ l = Off.APG_CTRL)) (hwants : (s.dev.wants b l v).2 = []) (hopens : s.dev.opens b l v = none) :
    ∃ r, pf0Write b l v s = .next { s with dev := s.dev.blockWrite b l r v } := by
  obtain ⟨hanswers, hunlocked, hlit, hheld⟩ := htakes
  unfold Block.holds at hholds
  rw [Bool.and_eq_true, beq_iff_eq, Option.any_eq_true] at hholds
  obtain ⟨hplace, r, hreg, hexpert⟩ := hholds
  have hplain : ¬(r.expert = true ∧ s.dev.expertOn b = false) := by simp_all
  refine ⟨r, ?_⟩
  rw [pf0Write, onDev_next, Dev.regWrite_reaches s.dev v hplace hreg rfl hanswers (.inr hunlocked) hlit, if_neg hplain]
  unfold Dev.enableWrite
  rw [if_neg hgroup]
  dsimp only
  rw [s.dev.forget_held _ hheld, if_pos hwants, hopens]

/-! ### Registers at 0 -/

/-- Zeroing the registers of a block, by their places in it. -/
theorem Dev.zero_cleared (d : Dev) (b : Block) (os : List Nat) : d.zero (os.map (b.base + ·)) = Claims.cleared d b os :=
  List.foldl_map

/-- A register after the zeroing of a list. -/
theorem Dev.reg_zero (os : List Nat) (d : Dev) (o : Nat) : (d.zero os).reg o = if o ∈ os then 0 else d.reg o := by
  induction os generalizing d with
  | nil => rfl
  | cons a os ih =>
    have hstep : (d.zero (a :: os)).reg o = ((d.setReg a 0).zero os).reg o := rfl
    rw [hstep, ih, Dev.reg_setReg]
    by_cases ha : o = a <;> by_cases hos : o ∈ os <;> simp [ha, hos]

/-! ### The writes that zero a block's counters -/

/-- An audio unit's write of AP_CNT_CTRL zeroes its six event counters, port or virtual port. -/
theorem Dev.blockWrite_apCnt (d : Dev) (u : Fin 16) (r : RegSpec) : d.blockWrite (Claims.audioBlock u) Off.AP_CNT_CTRL r 1 =
    d.zero ([Off.AP_SLIP_DROP, Off.AP_SLIP_REP, Off.AP_MIX_SLIPS, Off.AP_UNDERRUNS, Off.AP_OVERRUNS, Off.VP_LATE].map ((Claims.audioBlock u).base + ·)) := by
  fin_cases u <;> rfl

/-- A Pane's write of PANE_CNT_CTRL zeroes its ten counters. -/
theorem Dev.blockWrite_paneCnt (d : Dev) (p : Fin 8) (r : RegSpec) : d.blockWrite .opt (Off.PANE_CNT_CTRL p) r 1 = d.paneClear p := by
  fin_cases p <;> rfl

/-- The clearing of FIN's counters lists the cameras first, then the outputs. -/
theorem Dev.blockWrite_finCnt (d : Dev) (r : RegSpec) : d.blockWrite .fin Off.FIN_CTRL r 1 =
    d.zero (((List.range 64).map Off.CAM_DROPS ++ (List.range 512).map Off.OUT_DROPS).map (Block.fin.base + ·)) := by
  rw [List.map_append, List.map_map, List.map_map]
  rfl

/-- No audio unit's write of AP_CNT_CTRL starts anything. -/
theorem Dev.wants_apCnt (d : Dev) (u : Fin 16) (v : Word) : (d.wants (Claims.audioBlock u) Off.AP_CNT_CTRL v).2 = [] := by
  fin_cases u <;> rfl

/-- A write that names no camera's CAM_CFG opens no camera's engine. -/
theorem Dev.opens_other (d : Dev) {b : Block} (l : Nat) (v : Word) (h : b ≠ .fin) : d.opens b l v = none := by
  unfold Dev.opens
  rw [if_neg (fun hc => h hc.1)]

/-- Zeroing registers leaves a core's records. -/
theorem Core.clearRegs_out (os : List Nat) (c : Core) : (c.clearRegs os).out = c.out := by
  induction os generalizing c with
  | nil => rfl
  | cons o os ih => exact ih (c.setReg o 0)

/-- An entry of a table whose values are all changed in one way, which changes the default to a value that reads alike. -/
theorem Tab.get_map_read {α β : Type} (x : α) (read : α → β) (f : Nat × α → α) (hread : ∀ e, read (f e) = read e.2) (t : Tab α) (k : Nat) :
    read (Tab.get x (t.map (fun e => (e.1, f e))) k) = read (Tab.get x t k) := by
  induction t with
  | nil => rfl
  | cons e t ih =>
    by_cases h : e.1 = k
    · simp [Tab.get, h, hread]
    · simpa [Tab.get, h] using ih

/-- The waits that a clear of DMA counters restarts leave a core's own records. -/
theorem Dev.remarked_out (d : Dev) (k : Nat) : (((d.creditRemark k).tagRemark k).core k).out = (d.core k).out := by
  rw [Dev.tagRemark, Dev.core_setCore, if_pos rfl]
  refine Tab.get_map_read Core.atReset Core.out _ ?_ d.cores k
  exact fun _ => rfl

/-- A core without records of its own whose registers are zeroed. -/
theorem Dev.onCore_clearRegs (d : Dev) (k : Nat) (os : List Nat) (h : (d.core k).out = []) : d.onCore k (fun c => c.clearRegs os) = Claims.coreCleared d k os :=
  Dev.putCore_quiet d k _ ((Core.clearRegs_out os (d.core k)).trans h)

end Sys2Proof.Machine

namespace Sys2Proof.Claims
open Sys2Proof Sys2Proof.Machine

/-- A CNT_CLR whose block zeroes a list of its registers. -/
theorem clears_of {i : Instr} {b : Block} {l : Nat} {os : List Nat} {s : State} (hexec : exec i s = pf0Write b l 1 s) (hholds : b.holds l = true)
    (hgroup : ¬(b = .apg ∧ l = Off.APG_CTRL)) (hwants : (s.dev.wants b l 1).2 = []) (hopens : s.dev.opens b l 1 = none)
    (hwrite : ∀ r, s.dev.blockWrite b l r 1 = s.dev.zero (os.map (b.base + ·))) (htakes : Takes s.dev b) : GivesDev i s (cleared s.dev b os) := by
  obtain ⟨r, hpass⟩ := pf0Write_takes htakes hholds hgroup hwants hopens
  rw [GivesDev, hexec, hpass, hwrite, Dev.zero_cleared]

/-- A CNT_CLR of a core, which writes a register of its block. -/
theorem core_write_of {i : Instr} {k : Fin 512} {l : Nat} {s : State} {d' : Dev} (hexec : exec i s = pf0Write (.core k) l 1 s) (hholds : (Block.core k).holds l = true)
    (hwrite : ∀ r, s.dev.blockWrite (.core k) l r 1 = d') (htakes : Takes s.dev (.core k)) : GivesDev i s d' := by
  obtain ⟨r, hpass⟩ := pf0Write_takes (v := 1) htakes hholds (by simp) rfl (Dev.opens_other _ _ _ (by simp))
  rw [GivesDev, hexec, hpass, hwrite]

/-- The four registers of a core that clear its counters lie in its block. -/
theorem holds_core (k : Fin 512) : (Block.core k).holds Off.MU_CTRL = true ∧ (Block.core k).holds Off.VE_CTRL = true ∧ (Block.core k).holds Off.SP_CTRL = true
    ∧ (Block.core k).holds Off.DMA_CTRL = true := by
  revert k
  decide +kernel

/-- A core's CNT_CLR zeroes a list of the core's registers. -/
theorem coreClears_of {i : Instr} {k : Fin 512} {l : Nat} {os : List Nat} {s : State} (hexec : exec i s = pf0Write (.core k) l 1 s) (hholds : (Block.core k).holds l = true)
    (hwrite : ∀ r, s.dev.blockWrite (.core k) l r 1 = s.dev.onCore k (fun c => c.clearRegs os)) (htakes : Takes s.dev (.core k)) (hquiet : (s.dev.core k).out = []) :
    GivesDev i s (coreCleared s.dev k os) :=
  core_write_of hexec hholds (fun r => (hwrite r).trans (s.dev.onCore_clearRegs k os hquiet)) htakes

/-- DMA_CTRL restarts the waits that are being counted, then zeroes the counters. -/
theorem dmaClears (s : State) (k : Fin 512) (htakes : Takes s.dev (.core k)) (hquiet : (s.dev.core k).out = []) :
    GivesDev (.dmaCntClr k) s (coreCleared ((s.dev.creditRemark k).tagRemark k) k [Off.DMA_UNITS, Off.DMA_TAG_WAIT, Off.DMA_CREDIT_WAIT, Off.DMA_FWD_UNITS]) := by
  obtain ⟨-, -, -, hholds⟩ := holds_core k
  exact core_write_of rfl hholds (fun _ => Dev.onCore_clearRegs _ k _ ((s.dev.remarked_out k).trans hquiet)) htakes

/-- A new link selection is stored, and its counter restarts. -/
theorem linkSelRestarts (s : State) (side : Fin 2) (v : Word) (htakes : Takes s.dev (.mesh side)) :
    Gives (.meshLinkSelWrite side v) s (fun t => t.dev.reg ((Block.mesh side).base + Off.MESH_LINK_FLITS) = 0
      ∧ ∀ o, o ≠ (Block.mesh side).base + Off.MESH_LINK_FLITS → o ≠ (Block.mesh side).base + Off.MESH_LINK_SEL → t.dev.reg o = s.dev.reg o) := by
  obtain ⟨r, hpass⟩ := pf0Write_takes (v := v) (l := Off.MESH_LINK_SEL) htakes (by clear htakes; revert side; decide) (by simp) rfl (Dev.opens_other _ _ _ (by simp))
  refine ⟨_, hpass, ?_, fun o hflits hsel => ?_⟩
  · exact (Dev.reg_setReg _ _ _ _).trans (if_pos rfl)
  · exact (Dev.reg_setReg_other _ _ _ _ hflits).trans (Dev.reg_setReg_other _ _ _ _ hsel)

/-- The accounting registers of client `c` that ACC_CTRL zeroes. -/
def accountOf (c : Nat) : List Nat :=
  [Off.ACC_WAITS c, Off.ACC_WAIT_SUM_LO c, Off.ACC_WAIT_SUM_HI c, Off.ACC_WAIT_MAX c, Off.ACC_PREEMPTS c, Off.ACC_PREEMPT_TIME_LO c, Off.ACC_PREEMPT_TIME_HI c].map (schb + ·)
    ++ (List.range 8).map (fun n => schb + Off.ACC_HIST c n)

theorem named_mem_accountOf {c o : Nat} (h : o ∈ [Off.ACC_WAITS c, Off.ACC_WAIT_SUM_LO c, Off.ACC_WAIT_SUM_HI c, Off.ACC_WAIT_MAX c, Off.ACC_PREEMPTS c,
    Off.ACC_PREEMPT_TIME_LO c, Off.ACC_PREEMPT_TIME_HI c]) : schb + o ∈ accountOf c :=
  List.mem_append_left _ (List.mem_map_of_mem h)

theorem mem_named_or_hist {a b c d e f g o x y : Nat} (h : o ∈ [a, b, c, d, e, f, g, x, y]) : o ∈ [a, b, c, d, e, f, g] ∨ o ∈ [x, y] :=
  (List.mem_append (s := [a, b, c, d, e, f, g]) (t := [x, y])).mp h

theorem hist_mem_accountOf (c : Nat) {n : Nat} (h : n < 8) : schb + Off.ACC_HIST c n ∈ accountOf c :=
  List.mem_append_right _ (List.mem_map.mpr ⟨n, List.mem_range.mpr h, rfl⟩)

/-- The accounts of the clients lie apart, 0x40 bytes each. -/
theorem account_place {c o : Nat} (h : o ∈ accountOf c) : schb + 0x2000 + 0x40 * c ≤ o ∧ o < schb + 0x2040 + 0x40 * c := by
  simp only [accountOf, List.mem_append, List.mem_map, List.mem_cons, List.not_mem_nil, or_false, List.mem_range] at h
  simp only [Off.ACC_WAITS, Off.ACC_WAIT_SUM_LO, Off.ACC_WAIT_SUM_HI, Off.ACC_WAIT_MAX, Off.ACC_PREEMPTS, Off.ACC_PREEMPT_TIME_LO, Off.ACC_PREEMPT_TIME_HI, Off.ACC_HIST] at h
  rcases h with ⟨a, ha, rfl⟩ | ⟨n, hn, rfl⟩
  · omega
  · omega

/-- A register after the accounts of a list of clients are zeroed. -/
theorem reg_each_account (cs : List Nat) (d : Dev) (o : Nat) : (d.each cs (fun d c => d.zero (accountOf c))).reg o = if ∃ c ∈ cs, o ∈ accountOf c then 0 else d.reg o := by
  induction cs generalizing d with
  | nil => simp
  | cons c cs ih =>
    rw [Dev.each_cons, ih, Dev.reg_zero]
    by_cases hc : o ∈ accountOf c <;> by_cases hcs : ∃ c ∈ cs, o ∈ accountOf c <;> simp [hc, hcs]

/-- ACC_CTRL zeroes the accounts of its mask. -/
theorem accClears (s : State) (mask : Word) (htakes : Takes s.dev .sch) : GivesDev (.accClr mask) s
    (s.dev.each ((List.range 32).filter (fun c => mask.toNat.testBit c)) (fun d c => d.zero (accountOf c))) := by
  obtain ⟨r, hpass⟩ := pf0Write_takes (v := mask) (l := Off.ACC_CTRL) htakes (by decide) (by simp) rfl (Dev.opens_other _ _ _ (by simp))
  exact hpass

/-- The account of a client that the mask names is zero. -/
theorem account_named (d : Dev) {mask : Word} {e : Fin 32} (hmask : mask.toNat.testBit e = true) {o : Nat} (ho : o ∈ accountOf e) :
    (d.each ((List.range 32).filter (fun c => mask.toNat.testBit c)) (fun d c => d.zero (accountOf c))).reg o = 0 := by
  rw [reg_each_account, if_pos]
  exact ⟨e, List.mem_filter.mpr ⟨List.mem_range.mpr e.isLt, hmask⟩, ho⟩

/-- The account of a client that the mask leaves out stays. -/
theorem account_unnamed (d : Dev) {mask : Word} {e : Fin 32} (hmask : mask.toNat.testBit e = false) {o : Nat} (ho : o ∈ accountOf e) :
    (d.each ((List.range 32).filter (fun c => mask.toNat.testBit c)) (fun d c => d.zero (accountOf c))).reg o = d.reg o := by
  rw [reg_each_account, if_neg]
  rintro ⟨c, hc, hoc⟩
  have hclient : c = e := by
    have hplace := account_place ho
    have hplace' := account_place hoc
    omega
  obtain ⟨-, hbit⟩ := List.mem_filter.mp hc
  rw [hclient, hmask] at hbit
  exact absurd hbit (by simp)

/-- No Pane's write of PANE_CNT_CTRL starts anything. -/
theorem wants_paneCnt (d : Dev) (p : Fin 8) (v : Word) : (d.wants .opt (Off.PANE_CNT_CTRL p) v).2 = [] := by
  have hother : Off.PANE_CNT_CTRL p ≠ Off.PANE_CTRL ((Off.PANE_CNT_CTRL p - 0x100) / 0x80) := by
    simp only [Off.PANE_CNT_CTRL, Off.PANE_CTRL]
    omega
  simp [Dev.wants, hother]

/-- HBM_CTRL zeroes five counters of its controller, the peak and the valid bit. -/
theorem hbmClears (s : State) (side : Fin 2) (htakes : Takes s.dev (.hbm side)) : GivesDev (.hbmCntClr side) s
    (((cleared s.dev (.hbm side) [Off.HBM_CE, Off.HBM_UE, Off.HBM_ODECC, Off.HBM_RMW, Off.HBM_RFM]).setFld
      ((Block.hbm side).base + Off.HBM_TEMP) Fl.HBM_TEMP_PEAK 0).setFld ((Block.hbm side).base + Off.HBM_LAST_UE_HI) Fl.HBM_LAST_UE_HI_VALID 0) := by
  rw [← Dev.zero_cleared]
  obtain ⟨r, hpass⟩ := pf0Write_takes (v := 1) (l := Off.HBM_CTRL) htakes (by clear htakes; revert side; decide) (by simp) rfl (Dev.opens_other _ _ _ (by simp))
  exact hpass

/-- PWR_CNT_CTRL zeroes the steps and the peak. -/
theorem pwrClears (s : State) (htakes : Takes s.dev .pwr) : GivesDev .pwrCntClr s
    ((cleared s.dev .pwr [Off.PWR_STEPS]).setFld (Block.pwr.base + Off.PWR_VIN) Fl.PWR_VIN_PEAK 0) := by
  obtain ⟨r, hpass⟩ := pf0Write_takes (v := 1) (l := Off.PWR_CNT_CTRL) htakes (by decide) (by simp) rfl (Dev.opens_other _ _ _ (by simp))
  exact hpass

/-- Settles O44: each clear is a write of PF0 that passes the checks and reaches its block, whose rule zeroes the list. -/
theorem counterClears : Obligations.CounterClears := by
  unfold Obligations.CounterClears
  intro s k c side d clears coreClears
  obtain ⟨hmu, hve, hsp, -⟩ := holds_core k
  refine ⟨?cs, ?mu, ?ve, ?sp, dmaClears s k, ?hbm, ?mesh, linkSelRestarts s side, ?lu, ?sc, ?ap, ?apg, ?fin, ?pane, ?mir, ?pwr, ?tel, ?acc⟩
  case cs => exact clears_of (b := .seq c) (l := Off.CS_CTRL) rfl (by revert c; decide) (by simp) rfl (Dev.opens_other _ _ _ (by simp)) (fun _ => rfl)
  case mu => exact coreClears_of rfl hmu (fun _ => rfl)
  case ve => exact coreClears_of rfl hve (fun _ => rfl)
  case sp => exact coreClears_of rfl hsp (fun _ => rfl)
  case hbm => exact hbmClears s side
  case mesh => exact clears_of (b := .mesh side) (l := Off.MESH_CTRL) rfl (by revert side; decide) (by simp) rfl (Dev.opens_other _ _ _ (by simp)) (fun _ => rfl)
  case lu => exact clears_of (b := .latch c) (l := Off.LU_CTRL) rfl (by revert c; decide) (by simp) rfl (Dev.opens_other _ _ _ (by simp)) (fun _ => rfl)
  case sc => exact clears_of (b := .sc side) (l := Off.SC_CTRL) rfl (by revert side; decide) (by simp) rfl (Dev.opens_other _ _ _ (by simp)) (fun _ => rfl)
  case ap =>
    intro u
    exact clears_of (l := Off.AP_CNT_CTRL) rfl (by revert u; decide) (by revert u; decide) (d.wants_apCnt u 1) (Dev.opens_other _ _ _ (by revert u; decide)) (d.blockWrite_apCnt u)
  case apg => exact clears_of (b := .apg) (l := Off.APG_CNT_CTRL) rfl (by decide) (by decide) rfl (Dev.opens_other _ _ _ (by simp)) (fun _ => rfl)
  case fin => exact clears_of (b := .fin) (l := Off.FIN_CTRL) rfl (by decide) (by decide) rfl rfl d.blockWrite_finCnt
  case pane =>
    intro p
    exact clears_of (l := Off.PANE_CNT_CTRL p) rfl (by revert p; decide) (by simp) (wants_paneCnt d p 1) (Dev.opens_other _ _ _ (by simp)) (d.blockWrite_paneCnt p)
  case mir => exact clears_of (b := .mir) (l := Off.MIR_CNT_CTRL) rfl (by decide) (by decide) rfl (Dev.opens_other _ _ _ (by simp)) (fun _ => rfl)
  case pwr => exact pwrClears s
  case tel => exact clears_of (b := .tel) (l := Off.TEL_CNT_CTRL) rfl (by decide) (by decide) rfl (Dev.opens_other _ _ _ (by simp)) (fun _ => rfl)
  case acc =>
    intro mask e htakes
    refine ⟨_, accClears s mask htakes, fun hmask o ho => account_named d hmask ?_, fun hmask o ho => account_unnamed d hmask ?_⟩
    · rcases mem_named_or_hist ho with hnamed | hhist
      · exact named_mem_accountOf hnamed
      · rcases List.mem_pair.mp hhist with rfl | rfl
        · exact hist_mem_accountOf e (by decide)
        · exact hist_mem_accountOf e (by decide)
    · rcases List.mem_cons.mp ho with rfl | hrest
      · exact named_mem_accountOf (by simp)
      · rcases List.mem_pair.mp hrest with rfl | rfl
        · exact named_mem_accountOf (by simp)
        · exact named_mem_accountOf (by simp)

end Sys2Proof.Claims
end

section
/-! SUPPORT. The Sill: a switch that begins, a domain that reaches its state or does not, an idle domain that is queued (R248, R273, R493–R497). -/

namespace Sys2Proof.Machine

/-! ### Domains -/

/-- The registers of two domains lie apart. -/
theorem domOff_inj {m n : Nat} (h : m ≠ n) : domOff m ≠ domOff n := by
  simp only [domOff, Off.PWR_DOM]
  omega

theorem Dev.dom_of_reg {d e : Dev} {n : Nat} (h : e.reg (domOff n) = d.reg (domOff n)) : e.dom n = d.dom n := by
  rw [Dev.dom, Dev.dom, Dev.fld, Dev.fld, h]

theorem Dev.domPolicy_of_reg {d e : Dev} {n : Nat} (h : e.reg (domOff n) = d.reg (domOff n)) : e.domPolicy n = d.domPolicy n := by
  rw [Dev.domPolicy, Dev.domPolicy, Dev.fld, Dev.fld, h]

/-- A domain just put into one of the four states. -/
theorem Dev.dom_setDom_same (d : Dev) (n : Nat) {st : Nat} (h : st < 4) : (d.setDom n st).dom n = st :=
  (Dev.fld_setFld_same _ _ _ _ (by decide)).trans (Nat.mod_eq_of_lt h)

theorem Dev.dom_setDom_ne (d : Dev) {m n : Nat} (st : Nat) (h : m ≠ n) : (d.setDom n st).dom m = d.dom m :=
  Dev.fld_setFld_ne _ _ _ _ _ _ (domOff_inj h)

theorem Dev.domPolicy_setDom (d : Dev) (n st : Nat) : (d.setDom n st).domPolicy n = d.domPolicy n :=
  Dev.fld_setFld_apart _ _ _ _ _ (by decide) (by decide)

/-- A list of updates brings about what one member brings about and every other update keeps. -/
theorem Dev.each_reaches {α : Type} (p : Dev → Prop) (l : List α) (f : Dev → α → Dev) {x : α} (hx : x ∈ l) (hreach : ∀ d, p (f d x)) (hkeep : ∀ d y, p d → p (f d y))
    (d : Dev) : p (d.each l f) := by
  have hstay : ∀ (l : List α) (d : Dev), p d → p (d.each l f) := by
    intro l
    induction l with
    | nil => exact fun _ h => h
    | cons y l ih => exact fun d h => ih (f d y) (hkeep d y h)
  induction l generalizing d with
  | nil => cases hx
  | cons y l ih =>
    rcases List.mem_cons.mp hx with rfl | hmem
    · exact hstay l _ (hreach d)
    · exact ih hmem (f d y)

/-! ### A switch that begins (R494) -/

/-- The Sill's queue replaced. -/
def Dev.requeued (d : Dev) (q : List (Nat × Nat)) : Dev := { d with sill := { d.sill with queue := q } }

/-- The switch of domain `n` begins, and the next may begin STAGGER later. -/
def Dev.beginSwitch (d : Dev) (n t : Nat) : Dev :=
  { d with sill := { d.sill with
      busy := Tab.set none d.sill.busy n (some (t, d.tick)), next := d.tick + 25 * d.fld (pwrb + Off.PWR_EXP) Fl.PWR_EXP_STAGGER } }.setDom n 3

theorem shutterSwitchStart_early (s : State) (h : s.dev.tick < s.dev.sill.next) : exec .shutterSwitchStart s = .next s := by
  change execShutterSwitchStart s = _
  rw [execShutterSwitchStart, onDev_next, if_pos h]

section
variable {s : State} (hdue : s.dev.sill.next ≤ s.dev.tick)
include hdue

/-- No request can be served. -/
theorem shutterSwitchStart_none {q : List (Nat × Nat)} (h : s.dev.nextSwitch s.dev.sill.queue = (none, q)) :
    exec .shutterSwitchStart s = .next { s with dev := s.dev.requeued q } := by
  change execShutterSwitchStart s = _
  rw [execShutterSwitchStart, onDev_next, if_neg (not_lt.mpr hdue), h]
  rfl

/-- A request to open is served. -/
theorem shutterSwitchStart_open {n : Nat} {q : List (Nat × Nat)} (h : s.dev.nextSwitch s.dev.sill.queue = (some (n, 2), q)) :
    exec .shutterSwitchStart s = .next { s with dev := (s.dev.requeued q).beginSwitch n 2 } := by
  change execShutterSwitchStart s = _
  rw [execShutterSwitchStart, onDev_next, if_neg (not_lt.mpr hdue), h]
  rfl

/-- A request to close to RET is served. -/
theorem shutterSwitchStart_retain {n : Nat} {q : List (Nat × Nat)} (h : s.dev.nextSwitch s.dev.sill.queue = (some (n, 1), q)) :
    exec .shutterSwitchStart s = .next { s with dev := ((s.dev.requeued q).leaveOn n 1).beginSwitch n 1 } := by
  change execShutterSwitchStart s = _
  rw [execShutterSwitchStart, onDev_next, if_neg (not_lt.mpr hdue), h]
  rfl

end

/-- The head of the queue that waits for nothing and has something to do is served. -/
theorem Dev.nextSwitch_serves (d : Dev) (e : Nat × Nat) (q : List (Nat × Nat)) (hwait : d.waitsFor e = false) (hpoint : d.pointless e = false) :
    d.nextSwitch (e :: q) = (some e, q) := by
  simp [Dev.nextSwitch, hwait, hpoint]

/-- A lone request with nothing to do is dropped. -/
theorem Dev.nextSwitch_drops (d : Dev) (e : Nat × Nat) (hwait : d.waitsFor e = false) (hpoint : d.pointless e = true) : d.nextSwitch [e] = (none, []) := by
  simp [Dev.nextSwitch, hwait, hpoint]

/-- A lone request that waits stays. -/
theorem Dev.nextSwitch_waits (d : Dev) (e : Nat × Nat) (hwait : d.waitsFor e = true) : d.nextSwitch [e] = (none, [e]) := by
  simp [Dev.nextSwitch, hwait]

/-- A domain with no side fabric waits only for its own switch. -/
theorem Dev.waitsFor_free (d : Dev) {n t : Nat} (h : 36 ≤ n ∨ t = 1) (hfree : d.switching n = none) : d.waitsFor (n, t) = false := by
  unfold Dev.waitsFor
  rcases h with h | rfl
  · simp [hfree, show ¬n < 32 by omega, show ¬n < 36 by omega]
  · simp [hfree]

/-- A cluster waits for its side fabric. -/
theorem Dev.waitsFor_fabric (d : Dev) {n : Nat} (h : n < 32) (hfabric : d.domOn (32 + n / 16) = false) : d.waitsFor (n, 2) = true := by
  unfold Dev.waitsFor
  simp [h, shFabric, hfabric]

/-- A domain that begins to open: it is switching, and nothing but its register and the Sill moves. -/
theorem Dev.beginSwitch_dom (d : Dev) (n t : Nat) : (d.beginSwitch n t).dom n = 3 := Dev.dom_setDom_same _ n (by decide)

/-! ### A cluster that goes into RET (R248, R493) -/

/-- The registers that RET keeps of a core, its own and those of its block. -/
def Core.kept (c : Core) : Tab Word × Tab Word × Tab (BitVec 16) × Tab Word := (c.sregs, c.vregs, c.mregs, c.regs)

/-- A core as RET holds it, its cycles being `cyc`. -/
def Core.retained (c : Core) (cyc : Nat) : Core := { c with imem := [], imemBad := [], mem := [], ue := [], ce := [], gb := [], luts := [], cyc := cyc }

theorem Dev.coreDark_core (d : Dev) (j k : Nat) : (d.coreDark true j).core k =
    if k = j then (d.core j).retained ((d.core j).cyc + (Tab.get 0 d.sideCyc (sideOf j) - (d.core j).cycMark)) else d.core k := Dev.core_setCore _ _ _ _

theorem Dev.coreDark_kept (d : Dev) (j k : Nat) : ((d.coreDark true j).core k).kept = (d.core k).kept := by
  rw [Dev.coreDark_core]
  split
  · next h => rw [h]; rfl
  · rfl

theorem Dev.coreDark_mem_same (d : Dev) (k : Nat) : ((d.coreDark true k).core k).mem = [] := by
  rw [Dev.coreDark_core, if_pos rfl]
  rfl

theorem Dev.coreDark_mem_stays (d : Dev) (j k : Nat) (h : (d.core k).mem = []) : ((d.coreDark true j).core k).mem = [] := by
  rw [Dev.coreDark_core]
  split
  · rfl
  · exact h

/-- A unit without watches or notifications closes without a core's knowledge: the forwards it had not applied are recorded as lost. -/
theorem Dev.latchClose_cores (d : Dev) (cl : Nat) (hwatches : (d.lu cl).watches = []) (hwaiting : (d.lu cl).waiting = []) : (d.latchClose cl).cores = d.cores := by
  unfold Dev.latchClose
  simp only [hwatches, hwaiting, List.filter_nil, List.map_nil, List.append_nil, Dev.each_nil, Dev.setLu_cores]
  exact Dev.each_keeps Dev.cores _ _ (fun d m => d.emit_cores _) _

/-- A cluster that goes into RET: its sequencer is not ready, its cores keep their registers and lose their memories. -/
theorem Dev.leaveOn_retained (d : Dev) {n : Nat} (hn : n < 32) (hwatches : (d.lu n).watches = []) (hwaiting : (d.lu n).waiting = []) :
    (d.leaveOn n 1).fld ((Block.seq n).base + Off.CS_STATUS) Fl.CS_STATUS_READY = 0
    ∧ ∀ k ∈ coresIn n, ((d.leaveOn n 1).core k).kept = (d.core k).kept ∧ ((d.leaveOn n 1).core k).mem = [] := by
  have hleave : d.leaveOn n 1 = ((d.latchClose n).each (coresIn n) (fun d k => d.coreDark true k)).setFld ((Block.seq n).base + Off.CS_STATUS) Fl.CS_STATUS_READY 0 := by
    unfold Dev.leaveOn
    rw [if_pos hn]
    rfl
  have hclose (k : Nat) : (d.latchClose n).core k = d.core k := by
    unfold Dev.core
    rw [d.latchClose_cores n hwatches hwaiting]
  rw [hleave]
  refine ⟨Dev.fld_setFld_same _ _ _ _ (by decide), fun k hk => ⟨?_, ?_⟩⟩
  · have hkept : (((d.latchClose n).each (coresIn n) (fun d k => d.coreDark true k)).core k).kept = ((d.latchClose n).core k).kept :=
      Dev.each_keeps (fun d => (d.core k).kept) _ _ (fun d j => d.coreDark_kept j k) _
    rw [Dev.core_setFld_at, hkept, hclose]
  · have hmem : (((d.latchClose n).each (coresIn n) (fun d k => d.coreDark true k)).core k).mem = [] :=
      Dev.each_reaches (fun d => (d.core k).mem = []) (coresIn n) _ hk (fun d => d.coreDark_mem_same k) (fun d j => d.coreDark_mem_stays j k) _
    rw [Dev.core_setFld_at, hmem]

/-! ### A domain that reaches its state (R71, R248, R273, R497, R521) -/

/-- The domain's switch is over. -/
def Dev.freed (d : Dev) (n : Nat) : Dev := { d with sill := { d.sill with busy := Tab.set none d.sill.busy n none } }

theorem Dev.switching_freed (d : Dev) (n : Nat) : (d.freed n).switching n = none := Tab.get_set_same none d.sill.busy n none

/-- No register of a domain is one of a block of a unit. -/
theorem domOff_ne_of_high {n o : Nat} (hn : n < 50) (h : 0x200000 ≤ o) : domOff n ≠ o := by
  simp only [domOff, Block.base, Off.PWR_DOM]
  omega

/-- Light or its absence changes the Casement's own status. -/
theorem Dev.caseLight_reg (d : Dev) (k : Nat) {o : Nat} (h : o ≠ opt + Off.CASE_STATUS k) : (d.caseLight k).reg o = d.reg o := by
  unfold Dev.caseLight Dev.caseTune
  split
  · rw [Dev.setCase, Dev.reg_setFld, if_neg h, Dev.setCase, Dev.reg_setFld, if_neg h]
  · rw [Dev.setCase, Dev.reg_setFld, if_neg h]

theorem Dev.caseLight_sill (d : Dev) (k : Nat) : (d.caseLight k).sill = d.sill := by
  unfold Dev.caseLight Dev.caseTune
  split
  · rw [Dev.setCase, Dev.setFld_sill, Dev.setCase, Dev.setFld_sill]
  · rw [Dev.setCase, Dev.setFld_sill]

/-- A unit powers on: its tick count begins. -/
def Dev.powerOn (d : Dev) (x : Nat) : Dev := { d with tickBase := Tab.set 0 d.tickBase x d.tick }

/-- The units of a domain power on. -/
def Dev.unitsOn (d : Dev) (n : Nat) : Dev := d.each (domainSources n) Dev.powerOn

theorem Dev.unitsOn_reg (d : Dev) (n o : Nat) : (d.unitsOn n).reg o = d.reg o :=
  Dev.each_keeps (fun d => d.reg o) _ Dev.powerOn (fun _ _ => rfl) d

theorem Dev.unitsOn_sill (d : Dev) (n : Nat) : (d.unitsOn n).sill = d.sill :=
  Dev.each_keeps Dev.sill _ Dev.powerOn (fun _ _ => rfl) d

theorem Dev.unitsOn_sideCyc (d : Dev) (n : Nat) : (d.unitsOn n).sideCyc = d.sideCyc :=
  Dev.each_keeps Dev.sideCyc _ Dev.powerOn (fun _ _ => rfl) d

/-- A core of a cluster that reaches ON enters RESET. -/
def Dev.wakeCore (d : Dev) (k : Nat) : Dev := d.setCore k { Core.atReset with cycMark := Tab.get 0 d.sideCyc (sideOf k) }

/-- The cores of a cluster enter RESET. -/
def Dev.coresWake (d : Dev) (n : Nat) : Dev := d.each (coresIn n) Dev.wakeCore

theorem Dev.coresWake_reg (d : Dev) (n o : Nat) : (d.coresWake n).reg o = d.reg o :=
  Dev.each_keeps (fun d => d.reg o) _ Dev.wakeCore (fun _ _ => rfl) d

theorem Dev.coresWake_sill (d : Dev) (n : Nat) : (d.coresWake n).sill = d.sill :=
  Dev.each_keeps Dev.sill _ Dev.wakeCore (fun _ _ => rfl) d

/-- Each core of the cluster is in RESET, its cycles counted from now. -/
theorem Dev.coresWake_core (d : Dev) (n : Nat) {k : Nat} (hk : k ∈ coresIn n) :
    (d.coresWake n).core k = { Core.atReset with cycMark := Tab.get 0 d.sideCyc (sideOf k) } := by
  suffices h : (d.coresWake n).sideCyc = d.sideCyc ∧ (d.coresWake n).core k = { Core.atReset with cycMark := Tab.get 0 (d.coresWake n).sideCyc (sideOf k) } by
    rw [h.2, h.1]
  refine ⟨Dev.each_keeps Dev.sideCyc _ Dev.wakeCore (fun _ _ => rfl) d, ?_⟩
  refine Dev.each_reaches (fun d => d.core k = { Core.atReset with cycMark := Tab.get 0 d.sideCyc (sideOf k) }) (coresIn n) _ hk (fun d => ?_) (fun d j h => ?_) d
  · rw [Dev.wakeCore, Dev.core_setCore, if_pos rfl]
    rfl
  · rw [Dev.wakeCore, Dev.core_setCore]
    split
    · next hj => rw [hj]; rfl
    · exact h

section
variable (d : Dev) {n : Nat}

/-- A cluster reaches ON. -/
theorem Dev.reachOn_cluster (h : n < 32) :
    d.reachOn n = (((d.unitsOn n).coresWake n).setLu n Latch.fresh).setFld ((Block.seq n).base + Off.CS_STATUS) Fl.CS_STATUS_READY 1 := if_pos h

/-- A side fabric reaches ON. -/
theorem Dev.reachOn_fabric (hlo : 32 ≤ n) (hhi : n < 34) :
    d.reachOn n = (d.unitsOn n).setFld ((Block.sc (n - 32)).base + Off.SC_STATUS) Fl.SC_STATUS_RUNNING 1 :=
  (if_neg (not_lt.mpr hlo)).trans (if_pos hhi)

/-- An HBM controller reaches ON. -/
theorem Dev.reachOn_hbm (hlo : 34 ≤ n) (hhi : n < 36) :
    d.reachOn n = (d.unitsOn n).setFld ((Block.hbm (n - 34)).base + Off.HBM_STATUS) Fl.HBM_STATUS_SELF_REFRESH 0 :=
  (if_neg (by omega)).trans ((if_neg (not_lt.mpr hlo)).trans (if_pos hhi))

/-- Another domain reaches ON. -/
theorem Dev.reachOn_other (h : 36 ≤ n) :
    d.reachOn n = if 43 ≤ n ∧ n < 45 then (d.unitsOn n).caseLight (n - 43)
      else if n = shMirror then (d.unitsOn n).setMir { (d.unitsOn n).mir with hbSeen := (d.unitsOn n).tick } else d.unitsOn n :=
  (if_neg (by omega)).trans ((if_neg (by omega)).trans (if_neg (by omega)))

end

/-- A domain that reaches ON leaves the registers of the domains. -/
theorem Dev.reachOn_reg (d : Dev) (n : Nat) {o : Nat} (h : o < 0x200000) : (d.reachOn n).reg o = d.reg o := by
  have hhigh {b : Block} (l : Nat) (hb : 0x200000 ≤ b.base) : o ≠ b.base + l := by omega
  rcases lt_or_ge n 32 with hcluster | hrest
  · have hseq : 0x200000 ≤ (Block.seq n).base := by simp only [Block.base]; omega
    rw [d.reachOn_cluster hcluster, Dev.reg_setFld, if_neg (hhigh _ hseq), Dev.reg_setLu_at, Dev.coresWake_reg, Dev.unitsOn_reg]
  rcases lt_or_ge n 34 with hfabric | hrest'
  · have hsc : 0x200000 ≤ (Block.sc (n - 32)).base := by simp only [Block.base]; omega
    rw [d.reachOn_fabric hrest hfabric, Dev.reg_setFld, if_neg (hhigh _ hsc), Dev.unitsOn_reg]
  rcases lt_or_ge n 36 with hhbm | hother
  · have hbase : 0x200000 ≤ (Block.hbm (n - 34)).base := by simp only [Block.base]; omega
    rw [d.reachOn_hbm hrest' hhbm, Dev.reg_setFld, if_neg (hhigh _ hbase), Dev.unitsOn_reg]
  rw [d.reachOn_other hother]
  split
  · rw [Dev.caseLight_reg _ _ (hhigh (b := .opt) _ (by decide)), Dev.unitsOn_reg]
  · split
    · rw [Dev.reg_setMir_at, Dev.unitsOn_reg]
    · rw [Dev.unitsOn_reg]

/-- A domain that reaches ON leaves the Sill. -/
theorem Dev.reachOn_sill (d : Dev) (n : Nat) : (d.reachOn n).sill = d.sill := by
  rcases lt_or_ge n 32 with hcluster | hrest
  · rw [d.reachOn_cluster hcluster, Dev.setFld_sill, Dev.setLu_sill, Dev.coresWake_sill, Dev.unitsOn_sill]
  rcases lt_or_ge n 34 with hfabric | hrest'
  · rw [d.reachOn_fabric hrest hfabric, Dev.setFld_sill, Dev.unitsOn_sill]
  rcases lt_or_ge n 36 with hhbm | hother
  · rw [d.reachOn_hbm hrest' hhbm, Dev.setFld_sill, Dev.unitsOn_sill]
  rw [d.reachOn_other hother]
  split
  · rw [Dev.caseLight_sill, Dev.unitsOn_sill]
  · split
    · rw [Dev.setMir_sill, Dev.unitsOn_sill]
    · rw [Dev.unitsOn_sill]

/-! ### Sensors of a domain that goes OFF (R521) -/

theorem ne_tel_of_low {o : Nat} (h : o < 0x200000) (l : Nat) : o ≠ Block.tel.base + l := by
  have hbase : Block.tel.base = 0xD00000 := rfl
  omega

/-- A sensor goes dark. -/
def Dev.sensorDark (d : Dev) (n : Nat) : Dev := { d with hot := Tab.set 0 d.hot n 0 }.setFld (Block.tel.base + Off.TEL_TEMP n) Fl.TEL_TEMP_VALID 0

theorem Dev.sensorsDark_eq (d : Dev) : d.sensorsDark = (d.each ((List.range 24).filter (fun n => !d.sensorOn n)) Dev.sensorDark).tempMax := rfl

theorem Dev.sensorDark_reg (d : Dev) (n : Nat) {o : Nat} (h : o ≠ Block.tel.base + Off.TEL_TEMP n) : (d.sensorDark n).reg o = d.reg o :=
  (Dev.reg_setFld _ _ _ _ _).trans (if_neg h)

theorem Dev.sensorDark_valid (d : Dev) (n : Nat) : (d.sensorDark n).fld (Block.tel.base + Off.TEL_TEMP n) Fl.TEL_TEMP_VALID = 0 :=
  Dev.fld_setFld_same _ _ _ _ (by decide)

/-- The maximum over the sensors stands in a register of its own. -/
theorem Dev.tempMax_reg (d : Dev) {o : Nat} (h : o ≠ Block.tel.base + Off.TEL_TEMP_MAX) : d.tempMax.reg o = d.reg o := by
  unfold Dev.tempMax
  dsimp only
  split
  · rfl
  · rw [Dev.reg_setFld, if_neg h, Dev.reg_setFld, if_neg h]

theorem Dev.tempMax_sill (d : Dev) : d.tempMax.sill = d.sill := by
  unfold Dev.tempMax
  dsimp only
  split
  · rfl
  · rw [Dev.setFld_sill, Dev.setFld_sill]

/-- Sensors that go dark change registers of the telemetry block alone. -/
theorem Dev.sensorsDark_reg (d : Dev) {o : Nat} (h : o < 0x200000) : d.sensorsDark.reg o = d.reg o := by
  rw [Dev.sensorsDark_eq, Dev.tempMax_reg _ (ne_tel_of_low h Off.TEL_TEMP_MAX)]
  exact Dev.each_keeps (fun d => d.reg o) _ _ (fun d n => d.sensorDark_reg n (ne_tel_of_low h (Off.TEL_TEMP n))) d

theorem Dev.sensorsDark_sill (d : Dev) : d.sensorsDark.sill = d.sill := by
  rw [Dev.sensorsDark_eq, Dev.tempMax_sill]
  exact Dev.each_keeps Dev.sill _ Dev.sensorDark (fun _ _ => rfl) d

/-- A sensor whose domains are all OFF reads VALID 0. -/
theorem Dev.sensorsDark_valid (d : Dev) {m : Nat} (hm : m < 24) (hoff : d.sensorOn m = false) :
    d.sensorsDark.fld (Block.tel.base + Off.TEL_TEMP m) Fl.TEL_TEMP_VALID = 0 := by
  have hapart : Block.tel.base + Off.TEL_TEMP m ≠ Block.tel.base + Off.TEL_TEMP_MAX := by
    simp only [Off.TEL_TEMP, Off.TEL_TEMP_MAX]
    omega
  rw [Dev.sensorsDark_eq, Dev.fld, Dev.tempMax_reg _ hapart]
  refine Dev.each_reaches (fun d => d.fld (Block.tel.base + Off.TEL_TEMP m) Fl.TEL_TEMP_VALID = 0) _ _ (x := m) ?_ (fun d => d.sensorDark_valid m) (fun d j h => ?_) d
  · simp [List.mem_filter, hm, hoff]
  · by_cases hj : m = j
    · rw [← hj]
      exact d.sensorDark_valid m
    · refine Eq.trans (congrArg Fl.TEL_TEMP_VALID.get (d.sensorDark_reg j ?_)) h
      simp only [Off.TEL_TEMP]
      omega

/-! ### The commands (R493–R496, R507) -/

theorem exec_shutterReachOn (n : Fin 50) (s : State) : exec (.shutterReachOn n) s = execShutterReachOn n s := rfl

theorem exec_shutterFault (n : Fin 50) (s : State) : exec (.shutterFault n) s = execShutterFault n s := rfl

theorem exec_shutterIdleClose (n : Fin 50) (s : State) : exec (.shutterIdleClose n) s = execShutterIdleClose n s := rfl

section
variable {n : Fin 50} {s : State}

/-- No domain that is not being switched reaches a state. -/
theorem shutterReachOn_none (h : s.dev.switching n = none) : exec (.shutterReachOn n) s = .next s := by
  rw [exec_shutterReachOn, execShutterReachOn, onDev_next, h]

theorem shutterFault_none (h : s.dev.switching n = none) : exec (.shutterFault n) s = .next s := by
  rw [exec_shutterFault, execShutterFault, onDev_next, h]

variable {target since : Nat} (h : s.dev.switching n = some (target, since))
include h

/-- A domain reaches RET or OFF. -/
theorem shutterReachOn_dark (htarget : target ≠ 2) : exec (.shutterReachOn n) s =
    .next { s with dev := if target = 0 then ((s.dev.freed n).setDom n 0).sensorsDark else (s.dev.freed n).setDom n target } := by
  rw [exec_shutterReachOn, execShutterReachOn, onDev_next, h]
  dsimp only
  rw [if_pos htarget]
  by_cases hzero : target = 0
  · subst hzero
    rfl
  · rw [if_neg hzero, if_neg hzero]
    rfl

/-- A switch to RET or OFF has no bound to miss. -/
theorem shutterFault_dark (htarget : target ≠ 2) : exec (.shutterFault n) s = .next s := by
  rw [exec_shutterFault, execShutterFault, onDev_next, h]
  dsimp only
  rw [if_pos (.inl htarget)]

end

/-- The device as domain `n` reaches ON, before its policy is looked at. -/
def Dev.opened (d : Dev) (n : Nat) : Dev := ((d.freed n).setDom n 2).reachOn n

theorem Dev.opened_domPolicy (d : Dev) {n : Nat} (h : n < 50) : (d.opened n).domPolicy n = d.domPolicy n := by
  have hlow : domOff n < 0x200000 := by
    simp only [domOff, Block.base, Off.PWR_DOM]
    omega
  rw [Dev.opened, Dev.domPolicy_of_reg (Dev.reachOn_reg _ n hlow), Dev.domPolicy_setDom]
  rfl

section
variable {n : Fin 50} {s : State} {since : Nat} (h : s.dev.switching n = some (2, since))
include h

/-- A domain reaches ON: its units become ready; one whose policy became KEEP_OFF is queued for closing. -/
theorem shutterReachOn_lit : exec (.shutterReachOn n) s = .next
    { s with dev := if (s.dev.opened n).domPolicy n.val = 3 then (s.dev.opened n).shutRequest n 0 else s.dev.opened n } := by
  rw [exec_shutterReachOn, execShutterReachOn, onDev_next, h]
  rfl

/-- A switch within its bound is not late. -/
theorem shutterFault_early (hearly : s.dev.tick < since + (if n.val = 32 ∨ n.val = 33 then 1500 else 500)) : exec (.shutterFault n) s = .next s := by
  rw [exec_shutterFault, execShutterFault, onDev_next, h]
  dsimp only
  rw [if_pos (.inr hearly)]

/-- A domain that has not reached ON in time returns to OFF and is DOWN. -/
theorem shutterFault_late (hlate : since + (if n.val = 32 ∨ n.val = 33 then 1500 else 500) ≤ s.dev.tick) : exec (.shutterFault n) s = .next
    { s with dev := (((((s.dev.freed n).setDom n 0).setFld (domOff n) Fl.PWR_DOM_DOWN 1).sensorsDark.emit { cls := kPOWER, code := 0x08, src := srcSill, obj := n.val })).dropHeld n } := by
  rw [exec_shutterFault, execShutterFault, onDev_next, h]
  dsimp only
  rw [if_neg (by omega)]
  rfl

end

/-- A request is in the queue once it is made. -/
theorem Dev.shutRequest_mem (d : Dev) (n t : Nat) : (n, t) ∈ (d.shutRequest n t).sill.queue := by
  unfold Dev.shutRequest
  dsimp only
  split
  · next h =>
    obtain ⟨e, he, hn⟩ := List.any_eq_true.mp h
    exact List.mem_map.mpr ⟨e, he, if_pos (beq_iff_eq.mp hn)⟩
  · exact List.mem_append_right _ List.mem_cons_self

/-- The registers of the domains lie below those of the other blocks. -/
theorem domOff_low {n : Nat} (h : n < 50) : domOff n < 0x200000 := by
  simp only [domOff, Block.base, Off.PWR_DOM]
  omega

/-- A record of the Sill, the Hinge or a camera leaves a low register and the Sill. -/
theorem Dev.emit_low (d : Dev) (e : Ev) {o : Nat} (h : o < 0x200000) : (d.emit e).reg o = d.reg o := Dev.reg_emit d e o (ne_tel_of_low h _)

/-- What the Sill drops with a domain that will not open are records, and the enables of cameras. -/
theorem Dev.dropHeld_keeps {α : Type} (view : Dev → α) (hheld : ∀ d l, view { d with held := l } = view d) (hemit : ∀ d e, view (d.emit e) = view d)
    (hcam : ∀ d c x, view (d.setCam c x) = view d) (d : Dev) (n : Nat) : view (d.dropHeld n) = view d := by
  unfold Dev.dropHeld
  refine (Dev.each_keeps view _ _ (fun d c => ?_) _).trans ((Dev.each_keeps view _ _ (fun d h => hemit d _) _).trans (hheld d _))
  exact (hemit _ _).trans ((hemit _ _).trans (hcam d c _))

theorem Dev.dropHeld_reg (d : Dev) (n : Nat) {o : Nat} (h : o < 0x200000) : (d.dropHeld n).reg o = d.reg o :=
  Dev.dropHeld_keeps (fun d => d.reg o) (fun _ _ => rfl) (fun d e => d.emit_low e h) (fun _ _ _ => rfl) d n

theorem Dev.dropHeld_sill (d : Dev) (n : Nat) : (d.dropHeld n).sill = d.sill :=
  Dev.dropHeld_keeps Dev.sill (fun _ _ => rfl) (fun d e => d.emit_sill e) (fun _ _ _ => rfl) d n

end Sys2Proof.Machine

namespace Sys2Proof.Claims
open Sys2Proof Sys2Proof.Machine

/-- A domain other than a cluster, a fabric or a controller begins to open. -/
theorem opening (s : State) (n : Fin 50) {q : List (Nat × Nat)} (hdue : s.dev.sill.next ≤ s.dev.tick) (hn : 36 ≤ n.val) (hqueue : s.dev.sill.queue = (n.val, 2) :: q)
    (hfree : s.dev.switching n = none) (hdom : s.dev.dom n ≠ 2) (hbar : s.dev.domBarred n = false) :
    Gives .shutterSwitchStart s (fun t => t.dev.dom n = 3 ∧ (∀ m : Fin 50, m ≠ n → t.dev.dom m = s.dev.dom m) ∧ t.dev.sill.queue = q ∧ t.dev.switching n = some (2, s.dev.tick)
      ∧ t.dev.sill.next = s.dev.tick + 25 * s.dev.fld (Block.pwr.base + Off.PWR_EXP) Fl.PWR_EXP_STAGGER ∧ t.dev.cores = s.dev.cores) := by
  have hpoint : s.dev.pointless (n.val, 2) = false := by simp [Dev.pointless, hdom, hbar]
  have hnext : s.dev.nextSwitch s.dev.sill.queue = (some (n.val, 2), q) := by
    rw [hqueue]
    exact s.dev.nextSwitch_serves _ q (s.dev.waitsFor_free (.inl hn) hfree) hpoint
  refine ⟨_, shutterSwitchStart_open hdue hnext, Dev.beginSwitch_dom _ _ _, fun m hm => ?_, rfl, ?_, rfl, rfl⟩
  · exact Dev.dom_setDom_ne _ _ (fun he => hm (Fin.ext he))
  · exact Tab.get_set_same none s.dev.sill.busy n (some (2, s.dev.tick))

/-- A cluster goes into RET. -/
theorem retaining (s : State) (n : Fin 50) (hdue : s.dev.sill.next ≤ s.dev.tick) (hn : n.val < 32) (hqueue : s.dev.sill.queue = [(n.val, 1)])
    (hfree : s.dev.switching n = none) (hdom : s.dev.dom n = 2) (hclosable : s.dev.closable n = true) (hawaited : s.dev.awaited n = false)
    (hwatches : (s.dev.lu n).watches = []) (hwaiting : (s.dev.lu n).waiting = []) :
    Gives .shutterSwitchStart s (fun t => t.dev.dom n = 3 ∧ t.dev.fld ((Block.seq n).base + Off.CS_STATUS) Fl.CS_STATUS_READY = 0
      ∧ ∀ k ∈ coresIn n, (t.dev.core k).sregs = (s.dev.core k).sregs ∧ (t.dev.core k).vregs = (s.dev.core k).vregs ∧ (t.dev.core k).mregs = (s.dev.core k).mregs
        ∧ (t.dev.core k).regs = (s.dev.core k).regs ∧ (t.dev.core k).mem = []) := by
  have hpoint : s.dev.pointless (n.val, 1) = false := by simp [Dev.pointless, hdom, hclosable, hawaited]
  have hnext : s.dev.nextSwitch s.dev.sill.queue = (some (n.val, 1), []) := by
    rw [hqueue]
    exact s.dev.nextSwitch_serves _ [] (s.dev.waitsFor_free (.inr rfl) hfree) hpoint
  obtain ⟨hready, hcores⟩ := (s.dev.requeued []).leaveOn_retained hn hwatches hwaiting
  have hseq : (Block.seq n).base + Off.CS_STATUS ≠ domOff n := by
    simp only [domOff, Block.base, Off.PWR_DOM]
    omega
  refine ⟨_, shutterSwitchStart_retain hdue hnext, Dev.beginSwitch_dom _ _ _, ?_, fun k hk => ?_⟩
  · exact (Dev.fld_setFld_ne _ _ _ _ _ _ hseq).trans hready
  · obtain ⟨hkept, hmem⟩ := hcores k hk
    simp only [Core.kept, Prod.mk.injEq] at hkept
    obtain ⟨hs, hv, hm, hr⟩ := hkept
    exact ⟨hs, hv, hm, hr, hmem⟩

section
variable {s : State} {n : Fin 50} {since : Nat} (hswitch : s.dev.switching n = some (2, since))
include hswitch

/-- A domain whose policy lets it stay ON reaches it, with its units. -/
theorem reaching (hpolicy : s.dev.domPolicy n ≠ 3) : Gives (.shutterReachOn n) s (fun t => t.dev.dom n = 2 ∧ t.dev.switching n = none
      ∧ (n.val < 32 → t.dev.fld ((Block.seq n).base + Off.CS_STATUS) Fl.CS_STATUS_READY = 1 ∧ t.dev.lu n = Latch.fresh
          ∧ ∀ k ∈ coresIn n, t.dev.core k = { Core.atReset with cycMark := Tab.get 0 s.dev.sideCyc (k / 256) })
      ∧ (n.val = 32 ∨ n.val = 33 → t.dev.fld ((Block.sc (n - 32)).base + Off.SC_STATUS) Fl.SC_STATUS_RUNNING = 1)
      ∧ (n.val = 34 ∨ n.val = 35 → t.dev.fld ((Block.hbm (n - 34)).base + Off.HBM_STATUS) Fl.HBM_STATUS_SELF_REFRESH = 0)) := by
  have hlow := domOff_low n.isLt
  refine ⟨_, shutterReachOn_lit hswitch, ?_⟩
  dsimp only
  rw [s.dev.opened_domPolicy n.isLt, if_neg hpolicy, Dev.opened]
  refine ⟨?dom, ?switching, fun hcluster => ?cluster, fun hfabric => ?fabric, fun hhbm => ?hbm⟩
  case dom => rw [Dev.dom_of_reg (Dev.reachOn_reg _ n hlow), Dev.dom_setDom_same _ _ (by decide)]
  case switching =>
    rw [Dev.switching, Dev.reachOn_sill, Dev.setDom, Dev.setFld_sill]
    exact s.dev.switching_freed n
  case cluster =>
    rw [Dev.reachOn_cluster _ hcluster]
    refine ⟨Dev.fld_setFld_same _ _ _ _ (by decide), ?_, fun k hk => ?_⟩
    · rw [Dev.lu_setFld_at, Dev.lu_setLu, if_pos rfl]
    · rw [Dev.core_setFld_at, Dev.core_setLu_at, Dev.coresWake_core _ _ hk, Dev.unitsOn_sideCyc]
      rfl
  case fabric =>
    rw [Dev.reachOn_fabric _ (by omega) (by omega)]
    exact Dev.fld_setFld_same _ _ _ _ (by decide)
  case hbm =>
    rw [Dev.reachOn_hbm _ (by omega) (by omega)]
    exact Dev.fld_setFld_same _ _ _ _ (by decide)

/-- A domain whose policy became KEEP_OFF reaches ON and is queued for closing. -/
theorem reaching_keepOff (hpolicy : s.dev.domPolicy n = 3) : Gives (.shutterReachOn n) s (fun t => t.dev.dom n = 2 ∧ (n.val, 0) ∈ t.dev.sill.queue) := by
  have hlow := domOff_low n.isLt
  refine ⟨_, shutterReachOn_lit hswitch, ?_⟩
  dsimp only
  rw [s.dev.opened_domPolicy n.isLt, if_pos hpolicy]
  refine ⟨?_, Dev.shutRequest_mem _ _ _⟩
  exact (Dev.dom_of_reg (Dev.reachOn_reg _ n hlow)).trans (Dev.dom_setDom_same _ _ (by decide))

/-- A domain that has not reached ON in time is OFF and DOWN. -/
theorem failing (hlate : since + (if n.val = 32 ∨ n.val = 33 then 1500 else 500) ≤ s.dev.tick) :
    Gives (.shutterFault n) s (fun t => t.dev.dom n = 0 ∧ t.dev.domDown n = true ∧ t.dev.switching n = none) := by
  have hlow := domOff_low n.isLt
  have hreg : (((((s.dev.freed n).setDom n 0).setFld (domOff n) Fl.PWR_DOM_DOWN 1).sensorsDark.emit { cls := kPOWER, code := 0x08, src := srcSill, obj := n.val }).dropHeld n).reg (domOff n)
      = (((s.dev.freed n).setDom n 0).setFld (domOff n) Fl.PWR_DOM_DOWN 1).reg (domOff n) := by
    rw [Dev.dropHeld_reg _ _ hlow, Dev.emit_low _ _ hlow, Dev.sensorsDark_reg _ hlow]
  refine ⟨_, shutterFault_late hswitch hlate, ?_, ?_, ?_⟩
  · rw [Dev.dom_of_reg hreg, Dev.dom, Dev.fld_setFld_apart _ _ _ _ _ (by decide) (by decide)]
    exact Dev.dom_setDom_same _ _ (by decide)
  · rw [Dev.domDown, Dev.fld, hreg, beq_iff_eq]
    exact Dev.fld_setFld_same _ _ _ _ (by decide)
  · rw [Dev.switching, Dev.dropHeld_sill, Dev.emit_sill, Dev.sensorsDark_sill, Dev.setFld_sill, Dev.setDom, Dev.setFld_sill]
    exact s.dev.switching_freed n

end

/-- An idle AUTO domain that no request names is queued for closing. -/
theorem idling (s : State) (n : Fin 50) (hsince : 0 < Tab.get 0 s.dev.sill.idle n) (hheld : Tab.get 0 s.dev.sill.idle n - 1 + 2500 ≤ s.dev.tick)
    (hon : s.dev.domOn n = true) (hclosable : s.dev.closable n = true) (hpolicy : s.dev.domPolicy n < 2) (hqueue : s.dev.sill.queue.all (fun e => e.1 != n.val) = true) :
    GivesDev (.shutterIdleClose n) s { s.dev with sill := { s.dev.sill with
      queue := s.dev.sill.queue ++ [(n.val, if (32 ≤ n.val ∧ n.val < 36) ∨ (n.val < 32 ∧ s.dev.domPolicy n = 1) then 1 else 0)] } } := by
  have hnone : ¬ s.dev.sill.queue.any (fun e => e.1 == n.val) = true := by
    intro hany
    obtain ⟨e, he, hn⟩ := List.any_eq_true.mp hany
    have hne := List.all_eq_true.mp hqueue e he
    simp_all
  have hgo : ¬(Tab.get 0 s.dev.sill.idle n = 0 ∨ s.dev.tick < Tab.get 0 s.dev.sill.idle n - 1 + 2500 ∨ s.dev.domOn n = false ∨ s.dev.closable n = false ∨ 2 ≤ s.dev.domPolicy n) := by
    simp [hon, hclosable]
    omega
  rw [GivesDev, exec_shutterIdleClose, execShutterIdleClose, onDev_next]
  dsimp only
  rw [if_neg hgo, Dev.shutRequest, if_neg hnone]
  rfl

/-- Settles O40: a clause for each command of the Sill, whose rules are the lemmas above. -/
theorem shutters : Obligations.Shutters := by
  unfold Obligations.Shutters
  intro s n d start
  refine ⟨shutterSwitchStart_early s, fun hdue => ⟨fun hempty => ?empty, fun q hn hqueue hfree hdom hbar => opening s n hdue hn hqueue hfree hdom hbar, fun hn hqueue hfree hdom => ?drop,
    fun hn hqueue hfabric => ?wait, fun hn hqueue hfree hdom hclosable hawaited hwatches hwaiting => retaining s n hdue hn hqueue hfree hdom hclosable hawaited hwatches hwaiting⟩,
    fun hnone => ⟨shutterReachOn_none hnone, shutterFault_none hnone⟩, fun target since hswitch => ?switching, ?idle⟩
  case empty =>
    have hstay : s.dev.requeued [] = s.dev := by
      rw [← hempty]
      rfl
    rw [Stays, shutterSwitchStart_none hdue (q := []) (by rw [hempty]; rfl), hstay]
  case drop =>
    have hpoint : d.pointless (n.val, 2) = true := by simp [Dev.pointless, hdom]
    exact shutterSwitchStart_none hdue (by rw [hqueue]; exact d.nextSwitch_drops _ (d.waitsFor_free (.inl hn) hfree) hpoint)
  case wait =>
    have hstay : s.dev.requeued [(n.val, 2)] = s.dev := by
      rw [← hqueue]
      rfl
    rw [Stays, shutterSwitchStart_none hdue (by rw [hqueue]; exact d.nextSwitch_waits _ (d.waitsFor_fabric hn hfabric)), hstay]
  case switching =>
    refine ⟨fun htarget => ⟨shutterReachOn_dark hswitch htarget, shutterFault_dark hswitch htarget⟩, fun htarget m hoff => ?_, fun htarget hpolicy => ?_,
      fun htarget _ hpolicy => ?_, fun htarget => ⟨fun hearly => ?_, fun hlate _ => ?_⟩⟩
    · subst htarget
      exact ⟨_, shutterReachOn_dark hswitch (by decide), Dev.sensorsDark_valid _ m.isLt hoff⟩
    · subst htarget
      exact reaching hswitch hpolicy
    · subst htarget
      exact reaching_keepOff hswitch hpolicy
    · subst htarget
      exact shutterFault_early hswitch hearly
    · subst htarget
      exact failing hswitch hlate
  case idle =>
    refine ⟨fun hstop => ?_, idling s n⟩
    rw [Stays, exec_shutterIdleClose, execShutterIdleClose, onDev_next]
    dsimp only
    rw [if_pos]
    rcases hstop with h | h
    · exact .inl h
    · exact .inr (.inr (.inr (.inr h)))

end Sys2Proof.Claims
end

section
/-! SUPPORT. A save of a job that counts as saved a core that still runs (R313, R316). -/

namespace Sys2Proof.Machine

/-- A core that runs job 0, no PPT of it taken. -/
def Core.unsavedHolder : Core := { (Core.atReset.assign 0 0 0) with state := .running }

/-- A job under its save, on cores 0 to 3, with core 0 listed as saved. -/
def Job.halfSaved : Job := { Job.free with state := .saving, mask := 1, savedCores := [0] }

/-- The device with that job and a plan for it, core 0 running the job still. -/
def Dev.halfSaved : Dev :=
  { Dev.atReset with cores := [(0, Core.unsavedHolder)], jobs := [(0, Job.halfSaved)], plans := [(0, some ⟨[], [], [], 0, 0, 0, 0⟩)] }

/-- Core 0 holds the job, and its save is not ready to end. -/
theorem Dev.halfSaved_unready : Dev.halfSaved.coresHolding 0 = [0] ∧ (Dev.halfSaved.coresHolding 0).filter (fun k => (Dev.halfSaved.core k).saveReady) = [] := by
  decide +kernel

theorem Dev.halfSaved_calm : Claims.Calm Dev.halfSaved := by
  unfold Claims.Calm
  decide +kernel

/-- No core of the device has left anything to its sequencer. -/
theorem Dev.halfSaved_quiet (q : Nat) : (Dev.halfSaved.core q).out = [] := by
  have hcore : Dev.halfSaved.core q = if 0 = q then Core.unsavedHolder else Core.atReset := rfl
  rw [hcore]
  split <;> rfl

/-- The job counts as saved whole, for every core that holds it is listed: core 0 is SUSPENDED. -/
theorem saveComplete_halfSaved : ∃ t, exec (.saveComplete 0 none) { State.reset with dev := Dev.halfSaved } = .next t ∧ (t.dev.core 0).state = .suspended :=
  ⟨_, rfl, by decide +kernel⟩

end Sys2Proof.Machine

namespace Sys2Proof.Claims
open Sys2Proof Sys2Proof.Machine

/-- Refutes O25: a SAVING job whose list of saved cores names core 0, which runs the job still and whose save cannot end. No save ends, yet every core that holds the
job is listed, so the model ends the save and core 0 becomes SUSPENDED, where the statement has every core outside the ready ones stay as it was. -/
theorem not_jobEvents : ¬ Obligations.JobEvents := by
  unfold Obligations.JobEvents
  intro h
  obtain ⟨-, -, -, -, hsave, -⟩ := h { State.reset with dev := Dev.halfSaved } 0
  obtain ⟨hholds, hready⟩ := Dev.halfSaved_unready
  have hnobad : ∀ k ∈ (Dev.halfSaved.coresHolding 0).filter (fun k => (Dev.halfSaved.core k).saveReady),
      Dev.halfSaved.saveBad (Dev.halfSaved.job 0) ⟨[], [], [], 0, 0, 0, 0⟩ k = false := by
    rw [hready]
    exact fun k hk => absurd hk List.not_mem_nil
  obtain ⟨t, hexec, -, hothers, -⟩ := hsave ⟨[], [], [], 0, 0, 0, 0⟩ rfl rfl Dev.halfSaved_calm Dev.halfSaved_quiet hnobad
  have hmem : 0 ∈ Dev.halfSaved.coresHolding 0 := hholds ▸ List.mem_singleton_self 0
  have hunready : 0 ∉ (Dev.halfSaved.coresHolding 0).filter (fun k => (Dev.halfSaved.core k).saveReady) := hready ▸ List.not_mem_nil
  have hstays : (t.dev.core 0).state = .running := hothers 0 hmem hunready
  obtain ⟨u, hexec', hsuspended⟩ := saveComplete_halfSaved
  rw [hexec'] at hexec
  injection hexec with hsame
  rw [← hsame, hsuspended] at hstays
  cases hstays

end Sys2Proof.Claims
end

section
/-! SUPPORT. A core's own recoveries: what a stop and a failing job keep of a core, a reread of its instruction memory, and a line of its gather buffer that is written (R52, R70, R172, R175). -/

namespace Sys2Proof.Machine

/-! ### What a core keeps while others stop it (R72, R73) -/

/-- A core stopped with its job keeps its PC, and so does every other. -/
theorem Dev.stopWithJob_pc (d : Dev) (q k : Nat) : ((d.stopWithJob q).core k).pc = (d.core k).pc := by
  by_cases h : k = q
  · subst h
    have hcore : (d.stopWithJob k).core k = (d.core k).stopped cJOBFAILED 0 0 := by
      simp [Dev.stopWithJob, Dev.coreRecord, Dev.abortStage]
    rw [hcore]
    rfl
  · rw [d.stopWithJob_core_ne h]

theorem Dev.failJob_pc (d : Dev) (j k : Nat) : ((d.failJob j).core k).pc = (d.core k).pc := by
  unfold Dev.failJob
  simp only
  split
  · rfl
  · rw [Dev.core_of_cores (Dev.latchRelease_cores _ j _)]
    refine (Dev.each_keeps (fun d => (d.core k).pc) _ _ (fun d q => d.stopWithJob_pc q k) _).trans ?_
    exact congrArg Core.pc (Dev.core_of_cores (d.endPreempted_cores j) k)

theorem Dev.failCoreJob_pc (d : Dev) (q k : Nat) : ((d.failCoreJob q).core k).pc = (d.core k).pc := by
  unfold Dev.failCoreJob
  cases (d.core q).jobOf with
  | none => rfl
  | some j => exact d.failJob_pc j k

/-- What a core left for its sequencer moves no PC. -/
theorem Dev.coreEv_pc (d : Dev) (q k : Nat) (e : CoreEv) : ((d.coreEv q e).core k).pc = (d.core k).pc := by
  have hemit (e : Ev) : ((d.emit e).core k).pc = (d.core k).pc := congrArg Core.pc (Dev.core_of_cores (d.emit_cores e) k)
  have hsram (code src issuer holder gran n : Nat) : (((d.sramRecord code src issuer holder gran).failCoreJob n).core k).pc = (d.core k).pc :=
    (Dev.failCoreJob_pc _ n k).trans (congrArg Core.pc (Dev.core_of_cores (d.sramRecord_cores code src issuer holder gran) k))
  match e with
  | .wrap => exact hemit _
  | .ringUnder _ => exact hemit _
  | .rmwUe _ 0 => exact hsram _ _ _ _ _ _
  | .rmwUe _ (_ + 1) => exact hsram _ _ _ _ _ _
  | .drift _ _ _ _ => exact hemit _

/-- A core put back with its PC. -/
theorem Dev.putCore_pc (d : Dev) (q k : Nat) {c : Core} (h : c.pc = (d.core q).pc) : ((d.putCore q c).core k).pc = (d.core k).pc := by
  unfold Dev.putCore
  refine (Dev.each_keeps (fun d => (d.core k).pc) _ _ (fun d e => d.coreEv_pc q k e) _).trans ?_
  rw [Dev.core_setCore]
  split
  · next hk => rw [hk, ← h]
  · rfl

/-- A stop leaves HBM alone. -/
theorem Dev.coreStop_hbm (d : Dev) (k code slot addr wait lr : Nat) : (d.coreStop k code slot addr wait lr).hbm = d.hbm := by
  unfold Dev.coreStop
  refine (Dev.failCoreJob_hbm _ k).trans ?_
  split
  · simp [Dev.sramRecord, Dev.free, Dev.coreRecord, Dev.abortStage]
  · simp [Dev.coreRecord, Dev.abortStage]

/-! ### A reread of instruction memory (R52) -/

theorem Core.noteRead_pc (c : Core) (a n : Nat) : (c.noteRead a n).pc = c.pc := by
  have hbump (c : Core) (o n : Nat) : (c.bump o n).pc = c.pc := by
    unfold Core.bump
    dsimp only
    split <;> rfl
  unfold Core.noteRead Core.noteReads
  dsimp only
  split <;> split <;> simp [hbump, Core.setFld, Core.setReg]

/-- The checks of an HBM read leave the cores. -/
theorem Dev.hbmCheck_cores (d : Dev) (a n : Nat) : (d.hbmCheck a n).cores = d.cores := by
  have huse : (d.hbmUse a).cores = d.cores := by
    obtain ⟨q, h⟩ := d.hbmUse_frame a
    rw [h]
  unfold Dev.hbmCheck
  refine (Dev.each_keeps Dev.cores _ _ (fun d g => ?_) _).trans huse
  split
  · simp [Dev.hbmUeNote, Dev.hbmCount, Dev.setReg]
  · split
    · exact Dev.bump_cores _ _ _ _
    · rfl

/-- Stacks without an error to correct or to report: a read is a use of its controller. -/
theorem Dev.hbmCheck_clean (d : Dev) (a n : Nat) (hue : d.hbmUe = []) (hce : d.hbmCe = []) : d.hbmCheck a n = d.hbmUse a := by
  obtain ⟨q, h⟩ := d.hbmUse_frame a
  unfold Dev.hbmCheck
  rw [h]
  suffices hclean : ∀ (l : List Nat) (d : Dev), d.hbmUe = [] → d.hbmCe = [] → d.each l (fun d g => if d.hbmUe.contains g then d.hbmUeNote g
      else if d.hbmCe.contains g then d.hbmCount (g * 32 / hbmSize) Off.HBM_CE 1 else d) = d from hclean _ _ hue hce
  intro l
  induction l with
  | nil => exact fun _ _ _ => rfl
  | cons g l ih =>
    intro d hue hce
    rw [Dev.each_cons, if_neg (by simp [hue]), if_neg (by simp [hce])]
    exact ih d hue hce

/-- A reread moves no PC. -/
theorem Dev.codeRead_pc (d : Dev) (k a n : Nat) (host : List Byte) (q : Nat) : ((d.codeRead k a n host).2.2.core q).pc = (d.core q).pc := by
  unfold Dev.codeRead
  split
  · split
    · exact congrArg Core.pc (Dev.core_of_cores (d.hbmCheck_cores a n) q)
    · rfl
  · next j l _ => exact d.putCore_pc j q (Core.noteRead_pc _ l n)
  · split <;> rfl
  · rfl

/-- A unit that HBM serves names no entry of the stream table (R279). -/
theorem Dev.inTable_of_dmaReach (d : Dev) {k cw a n side o : Nat} {wr : Bool} (htarget : targetOf a = .hbm side o) (hreach : d.dmaReach k wr cw a n = none) :
    d.inTable a n = false := by
  unfold Dev.dmaReach at hreach
  rw [htarget] at hreach
  dsimp only at hreach
  split at hreach
  · cases hreach
  · next h => simp_all

/-- A reread of HBM without errors finds its bytes. -/
theorem Dev.codeRead_hbm (d : Dev) {k a n side o : Nat} (host : List Byte) (htarget : targetOf a = .hbm side o) (hreach : d.dmaReach k false 0 a n = none)
    (hue : d.hbmUe = []) (hce : d.hbmCe = []) : d.codeRead k a n host = (d.hbm.read a n, false, d.hbmUse a) := by
  have hbad : d.hbmBad a n = none := by
    rw [Dev.hbmBad, hue, List.find?_eq_none.mpr (fun _ _ => by simp)]
    rfl
  unfold Dev.codeRead
  rw [htarget]
  dsimp only
  rw [if_pos hreach, d.hbmCheck_clean a n hue hce, hbad, Dev.hbmBytes, d.inTable_of_dmaReach htarget hreach]
  rfl

theorem exec_stallTimeout (k : Fin 512) (s : State) : exec (.stallTimeout k) s = execStallTimeout k s := rfl

theorem exec_parityRefetch (k : Fin 512) (bad : Bool) (host : List Byte) (s : State) : exec (.parityRefetch k bad host) s = execParityRefetch k bad host s := rfl

theorem exec_gatherLineAgeFlush (k : Fin 512) (s : State) : exec (.gatherLineAgeFlush k) s = execGatherLineAgeFlush k s := rfl

/-- The overlay source of core `c`'s bundle at the PC. -/
def Core.bundleSource (c : Core) : Nat :=
  (c.reg (Off.OVL_SRC_LO (c.pc / 256))).toNat + 2 ^ 32 * (c.reg (Off.OVL_SRC_HI (c.pc / 256))).toNat + 16 * (c.pc - 256 * (c.pc / 256))

/-- A core after a reread of its bundle: its counter, its instruction memory and the parity of the bundle. -/
def Core.reread (c : Core) (read : List Byte × Bool) : Core :=
  { c.bump Off.PARITY_REFETCH 1 with imem := if read.2 then c.imem else c.imem.write (16 * c.pc) read.1, imemBad := c.imemBad.filter (· != c.pc) }

/-- The device after a reread of core `k`'s bundle. -/
def Dev.afterReread (d : Dev) (k : Nat) (host : List Byte) : Dev :=
  let r := (d.setStage k []).codeRead k (d.core k).bundleSource 16 host
  r.2.2.onCore k (fun c => c.reread (r.1, r.2.1))

section
variable {s : State} {k : Fin 512} (hissues : (s.dev.core k).issues = true) (hpc : (s.dev.core k).pc < 4096)
  (hvalid : ((s.dev.core k).reg Off.IMEM_VALID).getLsbD ((s.dev.core k).pc / 256) = true) (host : List Byte)
include hissues hpc hvalid

theorem parityRefetch_retryBad : exec (.parityRefetch k true host) s = .next { s with dev := (s.dev.afterReread k host).coreStop k cPARITY 0 0 0 0 } := by
  have hgo : ¬(!(s.dev.core k).issues || decide ((s.dev.core k).pc ≥ 4096) || !((s.dev.core k).reg Off.IMEM_VALID).getLsbD ((s.dev.core k).pc / 256)) = true := by
    simp [hissues, hvalid, hpc]
  have hbad : ((s.dev.setStage k []).codeRead k (s.dev.core k).bundleSource 16 host).2.1 = true ∨ true = true := .inr rfl
  rw [exec_parityRefetch, execParityRefetch, onDev_next]
  exact congrArg (fun d => Host.Outcome.next { s with dev := d }) ((if_neg hgo).trans (if_pos hbad))

theorem parityRefetch_retryGood (hread : ((s.dev.setStage k []).codeRead k (s.dev.core k).bundleSource 16 host).2.1 = false) :
    exec (.parityRefetch k false host) s = .next { s with dev := s.dev.afterReread k host } := by
  have hgo : ¬(!(s.dev.core k).issues || decide ((s.dev.core k).pc ≥ 4096) || !((s.dev.core k).reg Off.IMEM_VALID).getLsbD ((s.dev.core k).pc / 256)) = true := by
    simp [hissues, hvalid, hpc]
  have hgood : ¬(((s.dev.setStage k []).codeRead k (s.dev.core k).bundleSource 16 host).2.1 = true ∨ false = true) := by simp [hread]
  rw [exec_parityRefetch, execParityRefetch, onDev_next]
  exact congrArg (fun d => Host.Outcome.next { s with dev := d }) ((if_neg hgo).trans (if_neg hgood))

end

theorem Core.stopped_pc (c : Core) (code slot addr : Nat) : (c.stopped code slot addr).pc = c.pc := rfl

theorem Core.bump_pc (c : Core) (o n : Nat) : (c.bump o n).pc = c.pc := by
  unfold Core.bump
  dsimp only
  split <;> rfl

theorem Core.reread_pc (c : Core) (read : List Byte × Bool) : (c.reread read).pc = c.pc := c.bump_pc Off.PARITY_REFETCH 1

/-- A reread and its count move no PC. -/
theorem Dev.afterReread_pc (d : Dev) (k : Nat) (host : List Byte) : ((d.afterReread k host).core k).pc = (d.core k).pc := by
  have hread := Dev.codeRead_pc (d.setStage k []) k (d.core k).bundleSource 16 host k
  unfold Dev.afterReread Dev.onCore
  dsimp only
  rw [Dev.putCore_pc _ k k (Core.reread_pc _ _), hread]
  rfl

/-! ### A line of the gather buffer that is written (R175) -/

/-- A core whose scratchpads take every write: all groups ON, no error to report or to inject, and nothing but wraps left for its sequencer. -/
structure Core.Clean (c : Core) : Prop where
  on : ∀ a, c.isOn a = true
  ue : c.ue = []
  inject : c.fld Off.SP_EXP Fl.SP_EXP_ECC_INJ = 0
  out : ∀ e ∈ c.out, e = .wrap

/-- A counter of the scratchpads of a core that rises leaves all the rest. -/
theorem Core.bump_clean {c : Core} (h : c.Clean) {o : Nat} (n : Nat) (hgate : Off.SP_GATE ≠ o) (hexp : Off.SP_EXP ≠ o) : (c.bump o n).Clean := by
  have hreg {p : Nat} (hp : p ≠ o) : (c.bump o n).reg p = c.reg p := by
    unfold Core.bump
    dsimp only
    split
    · rw [Core.reg_setReg, if_neg hp]
    · exact (Core.reg_setReg _ _ _ _).trans (if_neg hp)
  refine ⟨fun a => ?_, ?_, ?_, ?_⟩
  · have := h.on a
    unfold Core.isOn at this ⊢
    rw [hreg hgate]
    exact this
  · unfold Core.bump
    dsimp only
    split <;> exact h.ue
  · rw [Core.fld, hreg hexp]
    exact h.inject
  · unfold Core.bump
    dsimp only
    split
    · exact h.out
    · intro e he
      rcases List.mem_append.mp he with hold | hnew
      · exact h.out e hold
      · exact List.mem_singleton.mp hnew

theorem Core.bump_mem (c : Core) (o n : Nat) : (c.bump o n).mem = c.mem := by
  unfold Core.bump
  dsimp only
  split <;> rfl

theorem Core.bump_gb (c : Core) (o n : Nat) : (c.bump o n).gb = c.gb := by
  unfold Core.bump
  dsimp only
  split <;> rfl

/-- Bytes put into a memory, each at its address. -/
def Mem.putAll (m : Mem) (p : List (Nat × Byte)) : Mem := p.foldl (fun (m : Mem) (x : Nat × Byte) => m.setByte x.1 x.2) m

/-- A granule's write to a clean core puts its bytes there, and the core is as clean as before. -/
theorem Core.granWrite_takes {c : Core} (h : c.Clean) (writer : Nat) (p : List (Nat × Byte)) :
    (c.granWrite writer p).Clean ∧ (c.granWrite writer p).mem = c.mem.putAll p ∧ (c.granWrite writer p).gb = c.gb := by
  cases p with
  | nil => exact ⟨h, rfl, rfl⟩
  | cons x p =>
    have hcorrect (g : Nat) (whole : Bool) : ∀ e : Core, e = (if c.ce.contains g && !whole then c.bump Off.SP_ECC_CE 1 else c) → e.Clean ∧ e.mem = c.mem ∧ e.gb = c.gb := by
      rintro e rfl
      split
      · exact ⟨Core.bump_clean h 1 (by decide) (by decide), c.bump_mem _ _, c.bump_gb _ _⟩
      · exact ⟨h, rfl, rfl⟩
    obtain ⟨hclean, hmem, hgb⟩ := hcorrect (x.1 / 16) ((x :: p).length == 16) _ rfl
    unfold Core.granWrite
    dsimp only
    rw [if_neg (by simp [h.on]), if_neg (by simp [h.ue])]
    generalize (if c.ce.contains (x.1 / 16) && !((x :: p).length == 16) then c.bump Off.SP_ECC_CE 1 else c) = e at hclean hmem hgb ⊢
    have hinject : e.fld Off.SP_EXP Fl.SP_EXP_ECC_INJ = 0 := hclean.inject
    split
    · next h1 => exact absurd (hinject.symm.trans h1) (by decide)
    · next h2 => exact absurd (hinject.symm.trans h2) (by decide)
    · refine ⟨⟨hclean.on, ?_, hinject, hclean.out⟩, ?_, hgb⟩
      · exact (congrArg (List.filter _) hclean.ue).trans rfl
      · exact congrArg (fun m => Mem.putAll m (x :: p)) hmem

/-- Several granules' writes. -/
theorem Core.granWrites_take (writer : Nat) (part : Nat → List (Nat × Byte)) (os : List Nat) {c : Core} (h : c.Clean) :
    (os.foldl (fun c o => c.granWrite writer (part o)) c).Clean ∧ (os.foldl (fun c o => c.granWrite writer (part o)) c).mem = c.mem.putAll (os.flatMap part)
    ∧ (os.foldl (fun c o => c.granWrite writer (part o)) c).gb = c.gb := by
  induction os generalizing c with
  | nil => exact ⟨h, rfl, rfl⟩
  | cons o os ih =>
    obtain ⟨hclean, hmem, hgb⟩ := c.granWrite_takes h writer (part o)
    obtain ⟨hclean', hmem', hgb'⟩ := ih hclean
    refine ⟨hclean', hmem'.trans ?_, hgb'.trans hgb⟩
    rw [hmem, List.flatMap_cons, Mem.putAll, Mem.putAll, Mem.putAll, List.foldl_append]

/-- Bytes put into a memory by a table: each listed address takes what the table holds for it, any other stays. -/
theorem Mem.byte_putAll (f : Nat → Option Byte) (p : List (Nat × Byte)) (hp : ∀ x ∈ p, f x.1 = some x.2) (m : Mem) (a : Nat) :
    (m.putAll p).byte a = if a ∈ p.map (·.1) then (f a).getD 0 else m.byte a := by
  induction p generalizing m with
  | nil => rfl
  | cons x p ih =>
    change ((m.setByte x.1 x.2).putAll p).byte a = _
    rw [ih (fun y hy => hp y (List.mem_cons_of_mem _ hy)), Mem.byte_setByte]
    by_cases hmem : a ∈ p.map (·.1)
    · rw [if_pos hmem, if_pos (by simpa using .inr (by simpa using hmem))]
    · rw [if_neg hmem]
      by_cases hax : a = x.1
      · rw [if_pos hax, if_pos (by simp [hax]), hax, hp x List.mem_cons_self]
        rfl
      · rw [if_neg hax, if_neg (by simpa [hax] using hmem)]

/-- The valid bytes of 16 of a line. -/
def GbLine.part (l : GbLine) (o : Nat) : List (Nat × Byte) :=
  (List.range 16).filterMap (fun i => (Tab.get none l.bytes (l.base + o + i)).map (fun b => (l.base + o + i, b)))

theorem GbLine.mem_part {l : GbLine} {o : Nat} {x : Nat × Byte} :
    x ∈ l.part o ↔ Tab.get none l.bytes x.1 = some x.2 ∧ l.base + o ≤ x.1 ∧ x.1 < l.base + o + 16 := by
  simp only [GbLine.part, List.mem_filterMap, List.mem_range, Option.map_eq_some_iff]
  constructor
  · rintro ⟨i, hi, b, hget, rfl⟩
    exact ⟨hget, by simp, by simpa using hi⟩
  · rintro ⟨hget, hlo, hhi⟩
    refine ⟨x.1 - (l.base + o), by omega, x.2, ?_, ?_⟩
    · rwa [Nat.add_sub_cancel' hlo]
    · rw [Nat.add_sub_cancel' hlo]

/-- The line's write to a clean core: every valid byte reaches the banks, and the other lines stay. -/
theorem Core.lineWrite_takes {c : Core} (h : c.Clean) (l : GbLine) (hrange : ∀ e ∈ l.bytes, l.base ≤ e.1 ∧ e.1 < l.base + 64) :
    (c.lineWrite l).Clean ∧ (c.lineWrite l).gb = c.gb
    ∧ ∀ a, (c.lineWrite l).mem.byte a = (match Tab.get none l.bytes a with | some x => x | none => c.mem.byte a) := by
  obtain ⟨hclean, hmem, hgb⟩ := Core.granWrites_take l.writer l.part [0, 16, 32, 48] h
  have hline : c.lineWrite l = ([0, 16, 32, 48].foldl (fun c o => c.granWrite l.writer (l.part o)) c).bump Off.SP_GB_FLUSH 1 := rfl
  rw [hline]
  refine ⟨Core.bump_clean hclean 1 (by decide) (by decide), (Core.bump_gb _ _ _).trans hgb, fun a => ?_⟩
  rw [Core.bump_mem, hmem, Mem.byte_putAll (Tab.get none l.bytes) _ (fun x hx => ?_)]
  · by_cases hlisted : Tab.get none l.bytes a = none
    · rw [if_neg, hlisted]
      simp only [List.mem_map, List.mem_flatMap]
      rintro ⟨x, ⟨o, -, hx⟩, rfl⟩
      rw [(GbLine.mem_part.mp hx).1] at hlisted
      cases hlisted
    · obtain ⟨b, hb⟩ := Option.ne_none_iff_exists'.mp hlisted
      obtain ⟨hlo, hhi⟩ := hrange _ (Tab.mem_of_get_ne none l.bytes a hlisted)
      dsimp only at hlo hhi
      have hin : a ∈ ([0, 16, 32, 48].flatMap l.part).map (·.1) := by
        have hpart {o : Nat} (ho : o ∈ [0, 16, 32, 48]) (h1 : l.base + o ≤ a) (h2 : a < l.base + o + 16) : a ∈ ([0, 16, 32, 48].flatMap l.part).map (·.1) :=
          List.mem_map.mpr ⟨(a, b), List.mem_flatMap.mpr ⟨o, ho, GbLine.mem_part.mpr ⟨hb, h1, h2⟩⟩, rfl⟩
        rcases lt_or_ge a (l.base + 16) with h16 | h16
        · exact hpart (o := 0) (by decide) (by omega) (by omega)
        rcases lt_or_ge a (l.base + 32) with h32 | h32
        · exact hpart (o := 16) (by decide) (by omega) (by omega)
        rcases lt_or_ge a (l.base + 48) with h48 | h48
        · exact hpart (o := 32) (by decide) (by omega) (by omega)
        · exact hpart (o := 48) (by decide) (by omega) (by omega)
      rw [if_pos hin, hb]
      rfl
  · obtain ⟨o, -, hx⟩ := List.mem_flatMap.mp hx
    exact (GbLine.mem_part.mp hx).1

/-- A core that has left nothing but wraps is put back as it is. -/
theorem Dev.putCore_wraps (d : Dev) (k : Nat) {c : Core} (h : ∀ e ∈ c.out, e = .wrap) : (d.putCore k c).core k = { c with out := [] } := by
  unfold Dev.putCore
  refine (Dev.each_keeps_of_mem (fun d => d.core k) _ _ (fun d e he => ?_) _).trans ((Dev.core_setCore _ _ _ _).trans (if_pos rfl))
  rw [h e he]
  exact Dev.core_of_cores (d.emit_cores _) k

end Sys2Proof.Machine

namespace Sys2Proof.Claims
open Sys2Proof Sys2Proof.Machine

/-- A bounded wait that is over stops the core. -/
theorem stallTimesOut (s : State) (k : Fin 512) {since : Nat} (hwait : (s.dev.core k).waitSince = some since) (hrun : (s.dev.core k).state = .running)
    (hover : s.dev.tick - since > (s.dev.core k).fld Off.STALL_LIMIT Fl.STALL_LIMIT_TICKS) :
    Gives (.stallTimeout k) s (fun t => (t.dev.core k).state = .stopped ∧ (t.dev.core k).fld Off.CORE_CAUSE Fl.CORE_CAUSE_CAUSE = 0x09
      ∧ (t.dev.core k).fld Off.CORE_CAUSE Fl.CORE_CAUSE_SLOT = waitSlot ((s.dev.core k).fld Off.CORE_STATUS Fl.CORE_STATUS_WAIT)
      ∧ (t.dev.core k).pc = (s.dev.core k).pc ∧ (t.dev.core k).sregs = (s.dev.core k).sregs ∧ t.dev.hbm = s.dev.hbm) := by
  let w := (s.dev.core k).fld Off.CORE_STATUS Fl.CORE_STATUS_WAIT
  have hexec : exec (.stallTimeout k) s = .next { s with dev := s.dev.coreStop k cSTALL (waitSlot w) (s.dev.core k).waitParty w 0 } := by
    rw [exec_stallTimeout, execStallTimeout, onDev_next]
    dsimp only
    rw [hwait]
    dsimp only
    rw [if_pos ⟨hrun, hover⟩]
  have hslot (w : Nat) : waitSlot w < 4 := by
    unfold waitSlot
    split
    · decide
    · split <;> decide
  refine ⟨_, hexec, ?_⟩
  dsimp only
  rw [Dev.coreStop_core, Dev.coreStop_hbm]
  obtain ⟨hcause, hslot'⟩ := (s.dev.core k).stopped_cause (code := cSTALL) (s.dev.core k).waitParty (by decide) (hslot _)
  exact ⟨rfl, hcause, hslot', rfl, rfl, rfl⟩

/-- The oldest line of a clean core is written once its age limit has come. -/
theorem flushes (s : State) (k : Fin 512) {l : GbLine} {rest : List GbLine} (hgb : (s.dev.core k).gb = l :: rest) (hout : (s.dev.core k).out = []) (hue : (s.dev.core k).ue = [])
    (hinject : (s.dev.core k).fld Off.SP_EXP Fl.SP_EXP_ECC_INJ = 0) (hon : ∀ a, (s.dev.core k).isOn a = true) (hrange : ∀ e ∈ l.bytes, l.base ≤ e.1 ∧ e.1 < l.base + 64)
    (hage : l.taken + (s.dev.core k).fld Off.SP_EXP Fl.SP_EXP_GB_AGE ≤ s.dev.cycles k) : Gives (.gatherLineAgeFlush k) s (fun t => (t.dev.core k).gb = rest
      ∧ ∀ a, (t.dev.core k).mem.byte a = (match Tab.get none l.bytes a with | some x => x | none => (s.dev.core k).mem.byte a)) := by
  have hclean : ({ (s.dev.core k).newCycle with gb := rest } : Core).Clean := ⟨hon, hue, hinject, fun e he => absurd (hout ▸ he) List.not_mem_nil⟩
  obtain ⟨hclean', hgb', hmem⟩ := Core.lineWrite_takes hclean l hrange
  have holdest : (s.dev.core k).newCycle.flushOldest = ({ (s.dev.core k).newCycle with gb := rest } : Core).lineWrite l := by
    have hnew : (s.dev.core k).newCycle.gb = l :: rest := hgb
    unfold Core.flushOldest
    rw [hnew]
  have hexec : exec (.gatherLineAgeFlush k) s = .next { s with dev := s.dev.putCore k (({ (s.dev.core k).newCycle with gb := rest } : Core).lineWrite l) } := by
    rw [exec_gatherLineAgeFlush, execGatherLineAgeFlush, onDev_next]
    dsimp only
    rw [hgb]
    dsimp only
    rw [if_pos hage, Dev.onCore, holdest]
  refine ⟨_, hexec, ?_⟩
  dsimp only
  rw [Dev.putCore_wraps _ _ hclean'.out]
  exact ⟨hgb', hmem⟩

section
variable (s : State) (k : Fin 512) (hissues : (s.dev.core k).issues = true) (hpc : (s.dev.core k).pc < 4096)
  (hvalid : ((s.dev.core k).reg Off.IMEM_VALID).getLsbD ((s.dev.core k).pc / 256) = true) (host : List Byte)
include hissues hpc hvalid

/-- A retry that fails stops the core. -/
theorem retryFails : Gives (.parityRefetch k true host) s (fun t => (t.dev.core k).state = .stopped
    ∧ (t.dev.core k).fld Off.CORE_CAUSE Fl.CORE_CAUSE_CAUSE = 0x02 ∧ (t.dev.core k).pc = (s.dev.core k).pc) := by
  refine ⟨_, parityRefetch_retryBad hissues hpc hvalid host, ?_⟩
  dsimp only
  obtain ⟨hcause, -⟩ := ((s.dev.afterReread k host).core k).stopped_cause (code := cPARITY) (slot := 0) 0 (by decide) (by decide)
  rw [Dev.coreStop_core, Core.stopped_pc, s.dev.afterReread_pc k host]
  exact ⟨rfl, hcause, rfl⟩

/-- A reread of a clean HBM source loads the bundle. -/
theorem rereads {side o : Nat} (htarget : targetOf (s.dev.core k).bundleSource = .hbm side o) (hreach : s.dev.dmaReach k false 0 (s.dev.core k).bundleSource 16 = none)
    (hue : s.dev.hbmUe = []) (hce : s.dev.hbmCe = []) (hout : (s.dev.core k).out = []) (hcount : ((s.dev.core k).reg Off.PARITY_REFETCH).toNat + 1 < 2 ^ 32) :
    GivesDev (.parityRefetch k false host) s (((s.dev.setStage k []).hbmUse (s.dev.core k).bundleSource).setCore k
      { upCore (s.dev.core k) Off.PARITY_REFETCH 1 with
        imem := (s.dev.core k).imem.write (16 * (s.dev.core k).pc) (s.dev.hbm.read (s.dev.core k).bundleSource 16), imemBad := (s.dev.core k).imemBad.filter (· != (s.dev.core k).pc) }) := by
  have hread := (s.dev.setStage k []).codeRead_hbm (k := k) (n := 16) host htarget hreach hue hce
  have hgood : ((s.dev.setStage k []).codeRead k (s.dev.core k).bundleSource 16 host).2.1 = false := congrArg (fun r => r.2.1) hread
  have hcore : ((s.dev.setStage k []).hbmUse (s.dev.core k).bundleSource).core k = s.dev.core k := by
    obtain ⟨q, h⟩ := (s.dev.setStage k []).hbmUse_frame (s.dev.core k).bundleSource
    rw [h]
    rfl
  have hbump : (s.dev.core k).bump Off.PARITY_REFETCH 1 = upCore (s.dev.core k) Off.PARITY_REFETCH 1 := Core.bump_small _ _ _ hcount
  rw [GivesDev, parityRefetch_retryGood hissues hpc hvalid host hgood, Dev.afterReread]
  dsimp only
  rw [hread, Dev.onCore, hcore, Dev.putCore_quiet]
  · rw [Core.reread, hbump]
    rfl
  · rw [Core.reread, hbump]
    exact hout

end

/-- Settles O16: each recovery by its own rule; a retry that fails stops the core after the reread, which moves no PC, and a line that is written reaches the banks granule by granule. -/
theorem coreRecoveries : Obligations.CoreRecoveries := by
  unfold Obligations.CoreRecoveries
  intro s k d c
  refine ⟨fun since hwait hrun hover => stallTimesOut s k hwait hrun hover, fun since hwait hstill => ?within, fun hissues hpc hvalid => ⟨fun side o host htarget hreach hue hce hout hcount => ?reread,
    fun host => ?retryBad⟩, fun g => rfl, fun l rest hgb hout hue hinject hon hsome hwf hrange halign hage => ?flush⟩
  case within =>
    rw [Stays, exec_stallTimeout, execStallTimeout, onDev_next]
    dsimp only
    rw [hwait]
    dsimp only
    rw [if_neg (fun h => absurd h.2 (not_lt.mpr hstill))]
  case reread =>
    exact rereads s k hissues hpc hvalid host htarget hreach hue hce hout hcount
  case retryBad => exact retryFails s k hissues hpc hvalid host
  case flush => exact flushes s k hgb hout hue hinject hon hrange hage

end Sys2Proof.Claims
end

section
/-! SUPPORT. What traffic and writes to HBM leave of a device: counters of the mesh and of the stacks, records, the Sill, the bytes written (R228, R234, R235, R245). -/

namespace Sys2Proof.Machine

/-! ### The registers that traffic and writes move -/

/-- The registers that packets and writes to HBM may write: the counters of the mesh and the injection it spends, two counters of the stacks, and that of the records a source could not hold. -/
def busyRegs : List Nat :=
  (Block.tel.base + Off.TEL_SRC_DROPS) :: [0, 1].flatMap (fun side =>
    [Off.MESH_LINK_FLITS, Off.MESH_BR_OUT, Off.MESH_BR_IN, Off.MESH_EXP].map (fun o => (Block.mesh side).base + o)
      ++ [Off.HBM_RMW, Off.HBM_CE].map (fun o => (Block.hbm side).base + o))

/-- From `d` to `e` packets have passed and bytes have been written to HBM, which now holds `m`: nothing but registers, records, the Sill and the stacks has changed, no register but the busy ones, and no injection waits. -/
structure Dev.Moved (d e : Dev) (m : Mem) : Prop where
  rest : { e with regs := d.regs, tel := d.tel, sill := d.sill, hbm := d.hbm, hbmCe := d.hbmCe } = d
  regs : ∀ o, o ∉ busyRegs → e.reg o = d.reg o
  calm : Claims.Calm e
  hbm : e.hbm = m
  clean : d.hbmCe = [] → e.hbmCe = []

theorem Dev.Moved.refl {d : Dev} (h : Claims.Calm d) : d.Moved d d.hbm := ⟨rfl, fun _ _ => rfl, h, rfl, id⟩

theorem Dev.Moved.trans {d e f : Dev} {m n : Mem} (h : d.Moved e m) (h' : e.Moved f n) : d.Moved f n := by
  refine ⟨?_, fun o ho => (h'.regs o ho).trans (h.regs o ho), h'.calm, h'.hbm, fun hce => h'.clean (h.clean hce)⟩
  rw [← h.rest, ← h'.rest]

theorem Dev.Moved.cores {d e : Dev} {m : Mem} (h : d.Moved e m) : e.cores = d.cores := by
  have hrest := congrArg Dev.cores h.rest
  exact hrest

theorem Dev.Moved.core {d e : Dev} {m : Mem} (h : d.Moved e m) (k : Nat) : e.core k = d.core k := Dev.core_of_cores h.cores k

theorem Dev.Moved.hbmUe {d e : Dev} {m : Mem} (h : d.Moved e m) : e.hbmUe = d.hbmUe := by
  have hrest := congrArg Dev.hbmUe h.rest
  exact hrest

/-- Whether a side is contained is told by a register that stays. -/
theorem Dev.Moved.contained {d e : Dev} {m : Mem} (h : d.Moved e m) (side : Fin 2) : e.contained side = d.contained side := by
  have hreg : e.reg ((Block.mesh side).base + Off.MESH_STATUS) = d.reg ((Block.mesh side).base + Off.MESH_STATUS) := h.regs _ (by revert side; decide)
  rw [Dev.contained, Dev.fld, hreg]
  rfl

/-- The injection of a stack is told by a register that stays. -/
theorem Dev.Moved.inject {d e : Dev} {m : Mem} (h : d.Moved e m) (side : Fin 2) :
    e.fld ((Block.hbm side).base + Off.HBM_EXP) Fl.HBM_EXP_ECC_INJ = d.fld ((Block.hbm side).base + Off.HBM_EXP) Fl.HBM_EXP_ECC_INJ := by
  rw [Dev.fld, h.regs _ (by revert side; decide)]
  rfl

/-- Where the stream table lies is told by registers that stay. -/
theorem Dev.Moved.inTable {d e : Dev} {m : Mem} (h : d.Moved e m) (a n : Nat) : e.inTable a n = d.inTable a n := by
  have hbase (side : Fin 2) : e.stBase side = d.stBase side := by
    rw [Dev.stBase, h.regs _ (by revert side; decide), h.regs _ (by revert side; decide)]
    rfl
  have h0 : e.stBase 0 = d.stBase 0 := hbase 0
  have h1 : e.stBase 1 = d.stBase 1 := hbase 1
  simp only [Dev.inTable, List.any_cons, List.any_nil, h0, h1]

/-- A list of updates, each of which moves the device and makes `g` of the stacks' bytes. -/
theorem Dev.each_moved {α : Type} {d e : Dev} {m : Mem} (l : List α) (f : Dev → α → Dev) (g : Mem → α → Mem)
    (h : ∀ e m, d.Moved e m → ∀ x ∈ l, e.Moved (f e x) (g m x)) (he : d.Moved e m) : d.Moved (e.each l f) (l.foldl g m) := by
  induction l generalizing e m with
  | nil => exact he
  | cons x l ih => exact ih (fun e m he y hy => h e m he y (List.mem_cons_of_mem _ hy)) (he.trans (h e m he x List.mem_cons_self))

/-- A list of updates, each of which moves the device and leaves the stacks' bytes. -/
theorem Dev.each_moved_still {α : Type} {d : Dev} (l : List α) (f : Dev → α → Dev) (h : ∀ e, Claims.Calm e → ∀ x ∈ l, e.Moved (f e x) e.hbm) (hcalm : Claims.Calm d) :
    d.Moved (d.each l f) d.hbm := by
  have hfold := Dev.each_moved l f (fun m _ => m) (fun e m he x hx => he.hbm ▸ h e he.calm x hx) (Dev.Moved.refl hcalm)
  rwa [List.foldl_fixed] at hfold

/-! ### Packets (R228, R245) -/

/-- A counter that is busy, and no injection's register, moves the device. -/
theorem Dev.bump_moved {d : Dev} (hcalm : Claims.Calm d) {o : Nat} (n : Nat) (e : Ev) (hbusy : o ∈ busyRegs) (hexp : ∀ side : Fin 2, (Block.mesh side).base + Off.MESH_EXP ≠ o) :
    d.Moved (d.bump o n e) d.hbm := by
  have htel : Block.tel.base + Off.TEL_SRC_DROPS ∈ busyRegs := List.mem_cons_self
  obtain ⟨t, r, hframe⟩ := d.bump_frame o n e
  refine ⟨by rw [hframe], fun p hp => Dev.reg_bump _ _ _ _ (fun h => hp (h ▸ hbusy)) (fun h => hp (h ▸ htel)), fun side => ?_, by rw [hframe], fun hce => by rw [hframe]; exact hce⟩
  rw [Dev.fld, Dev.reg_bump _ _ _ _ (hexp side) (by revert side; decide)]
  exact hcalm side

/-- The counters of the mesh that packets move. -/
theorem Dev.meshCount_moved {d : Dev} (hcalm : Claims.Calm d) {s : Nat} (hs : s < 2) {o : Nat} (ho : o ∈ [Off.MESH_LINK_FLITS, Off.MESH_BR_OUT, Off.MESH_BR_IN]) (n : Nat) :
    d.Moved (d.meshCount s o n) d.hbm := by
  refine Dev.bump_moved hcalm n _ ?_ ?_
  · have : ∀ s : Fin 2, ∀ o ∈ [Off.MESH_LINK_FLITS, Off.MESH_BR_OUT, Off.MESH_BR_IN], (Block.mesh s).base + o ∈ busyRegs := by decide +kernel
    exact this ⟨s, hs⟩ o ho
  · have : ∀ s side : Fin 2, ∀ o ∈ [Off.MESH_LINK_FLITS, Off.MESH_BR_OUT, Off.MESH_BR_IN], (Block.mesh side).base + Off.MESH_EXP ≠ (Block.mesh s).base + o := by decide +kernel
    exact fun side => this ⟨s, hs⟩ side o ho

/-- Where no injection waits, none is spent. -/
theorem Dev.spendInjection_moved {d : Dev} (hcalm : Claims.Calm d) (contain : Dev → Nat → Nat → Dev) {s : Nat} (hs : s < 2) : d.Moved (d.spendInjection contain s) d.hbm := by
  have hnone : d.fld ((Block.mesh s).base + Off.MESH_EXP) Fl.MESH_EXP_ECC_INJ = 0 := hcalm ⟨s, hs⟩
  have hspend : d.spendInjection contain s = d.setFld ((Block.mesh s).base + Off.MESH_EXP) Fl.MESH_EXP_ECC_INJ 0 := by
    unfold Dev.spendInjection
    dsimp only
    rw [hnone, if_neg (by decide), if_neg (by decide)]
  have hbusy : (Block.mesh s).base + Off.MESH_EXP ∈ busyRegs := by
    have : ∀ s : Fin 2, (Block.mesh s).base + Off.MESH_EXP ∈ busyRegs := by decide +kernel
    exact this ⟨s, hs⟩
  rw [hspend]
  refine ⟨by rw [Dev.setFld, Dev.setReg], fun o ho => ?_, fun side => ?_, by rw [Dev.setFld, Dev.setReg], fun hce => by rw [Dev.setFld, Dev.setReg]; exact hce⟩
  · have hne : o ≠ (Block.mesh s).base + Off.MESH_EXP := fun h => ho (h ▸ hbusy)
    rw [Dev.reg_setFld, if_neg hne]
  · by_cases hside : side.val = s
    · rw [hside]
      exact Dev.fld_setFld_same _ _ _ _ (by decide)
    · have hne : (Block.mesh side).base + Off.MESH_EXP ≠ (Block.mesh s).base + Off.MESH_EXP := by
        simp only [Block.base]
        omega
      rw [Dev.fld_setFld_ne _ _ _ _ _ _ hne]
      exact hcalm side

theorem walk_side {s i j : Nat} {o : MeshOut} (h : o ∈ walk s i j) : o.1 = s := by
  simp only [walk, List.mem_append, List.mem_map] at h
  rcases h with ⟨n, -, rfl⟩ | ⟨n, -, rfl⟩
  · split <;> rfl
  · split <;> rfl

/-- A packet's way lies on the sides of its ends. -/
theorem meshPath_side {a b o : MeshOut} (h : o ∈ meshPath a b) : o.1 = a.1 ∨ o.1 = b.1 := by
  unfold meshPath at h
  split at h
  · rcases List.mem_append.mp h with hwalk | hend
    · exact .inl (walk_side hwalk)
    · exact .inr (by rw [List.mem_singleton.mp hend])
  · simp only [List.mem_append, List.mem_singleton] at h
    rcases h with ((hwalk | rfl) | hwalk) | rfl
    · exact .inl (walk_side hwalk)
    · exact .inl rfl
    · exact .inr (walk_side hwalk)
    · exact .inr rfl

/-- A packet between two units of the device, no injection waiting. -/
theorem Dev.packet_moved {d : Dev} (hcalm : Claims.Calm d) {a b : MeshOut} (ha : a.1 < 2) (hb : b.1 < 2) (n : Nat) : d.Moved (d.packet a b n) d.hbm := by
  have hside {l : List MeshOut} (hl : ∀ o ∈ l, o ∈ meshPath a b) : ∀ s ∈ l.map (·.1), s < 2 := by
    intro s hs
    obtain ⟨o, ho, rfl⟩ := List.mem_map.mp hs
    rcases meshPath_side (hl o ho) with h | h <;> omega
  have hout : d.Moved (d.each (((meshPath a b).filter ontoBridge).map (·.1)) (fun d s => d.meshCount s Off.MESH_BR_OUT n)) d.hbm :=
    Dev.each_moved_still _ _ (fun e he s hs => Dev.meshCount_moved he (hside (fun o ho => (List.mem_filter.mp ho).1) s hs) (by decide) n) hcalm
  unfold Dev.packet
  dsimp only
  generalize d.each (((meshPath a b).filter ontoBridge).map (·.1)) (fun d s => d.meshCount s Off.MESH_BR_OUT n) = e at hout
  have hin : e.Moved (if a.1 ≠ b.1 ∨ ontoBridge a = true then e.meshCount b.1 Off.MESH_BR_IN n else e) e.hbm := by
    split
    · exact Dev.meshCount_moved hout.calm hb (by decide) n
    · exact Dev.Moved.refl hout.calm
  generalize (if a.1 ≠ b.1 ∨ ontoBridge a = true then e.meshCount b.1 Off.MESH_BR_IN n else e) = f at hin
  have hlinks := Dev.each_moved_still (((meshPath a b).filter f.selected).map (·.1)) (fun d s => (d.meshCount s Off.MESH_LINK_FLITS n).spendInjection Dev.contain s)
    (fun e he s hs => by
      have hs2 : s < 2 := hside (fun o ho => (List.mem_filter.mp ho).1) s hs
      have hflits := Dev.meshCount_moved he hs2 (o := Off.MESH_LINK_FLITS) (by decide) n
      have hspent := Dev.spendInjection_moved hflits.calm Dev.contain hs2
      rw [hflits.hbm] at hspent
      exact hflits.trans hspent) hin.calm
  rw [hin.hbm, hout.hbm] at hlinks
  exact (hout.trans hin).trans hlinks

theorem Dev.exchange_moved {d : Dev} (hcalm : Claims.Calm d) {a b : MeshOut} (ha : a.1 < 2) (hb : b.1 < 2) (out back : Nat) : d.Moved (d.exchange a b out back) d.hbm := by
  unfold Dev.exchange
  split
  · exact Dev.Moved.refl hcalm
  · have hthere := Dev.packet_moved hcalm ha hb (flitsOf out)
    have hback := Dev.packet_moved hthere.calm hb ha (flitsOf back)
    rw [hthere.hbm] at hback
    exact hthere.trans hback

/-- What stands behind a device address stands on one of the two sides. -/
theorem targetOf_side {a s col : Nat} (hs : s < 2) {b : MeshOut} (h : (targetOf a).out s col = some b) : b.1 < 2 := by
  unfold targetOf at h
  split at h
  · next ha =>
    cases h
    exact Nat.div_lt_of_lt_mul (by omega)
  split at h
  · next ha =>
    have hcore : clusterOf ((a - 0x400000000000) / 0x1000000) / 16 < 2 := by
      unfold clusterOf
      omega
    dsimp only at h
    split at h
    · cases h
      exact hcore
    · split at h
      · cases h
        exact hcore
      · cases h
  split at h
  · next ha =>
    dsimp only at h
    split at h
    · cases h
      change (a - 0x500000000000) / 0x10000 / 16 < 2
      omega
    · cases h
  split at h
  · cases h
    exact hs
  · cases h

/-- The exchange of a core with a device address, no injection waiting. -/
theorem Dev.coreTraffic_moved {d : Dev} (hcalm : Claims.Calm d) {k : Nat} (hk : k < 512) (a out back : Nat) : d.Moved (d.coreTraffic k a out back) d.hbm := by
  have hfrom : (clusterOut (clusterOf k)).1 < 2 := by
    change clusterOf k / 16 < 2
    unfold clusterOf
    omega
  unfold Dev.coreTraffic
  dsimp only
  split
  · next b hb => exact Dev.exchange_moved hcalm hfrom (targetOf_side hfrom hb) out back
  · exact Dev.Moved.refl hcalm

end Sys2Proof.Machine
end

section
/-! SUPPORT. What a DMA unit's bytes make of HBM: the pieces of a write, a granule's write, and the landing of a unit in a stack (R191, R234, R235). -/

namespace Sys2Proof.Machine

/-! ### The pieces of a write (R191) -/

theorem Mem.write_append (bs cs : List Byte) (m : Mem) (a : Nat) : m.write a (bs ++ cs) = (m.write a bs).write (a + bs.length) cs := by
  induction bs generalizing m a with
  | nil => rfl
  | cons b bs ih =>
    have hnext : a + (b :: bs).length = a + 1 + bs.length := by simp only [List.length_cons]; omega
    rw [hnext]
    exact ih (m.setByte a b) (a + 1)

theorem cut_cons (w fuel a : Nat) (b : Byte) (bs : List Byte) :
    cut w (fuel + 1) a (b :: bs) = (a, (b :: bs).take (w - a % w)) :: cut w fuel (a + (w - a % w)) ((b :: bs).drop (w - a % w)) := rfl

/-- The pieces of a write, written in turn, are the write. -/
theorem cut_write {w : Nat} (hw : 0 < w) (fuel a : Nat) (bs : List Byte) (m : Mem) (hfuel : bs.length ≤ fuel) :
    (cut w fuel a bs).foldl (fun m p => m.write p.1 p.2) m = m.write a bs := by
  induction fuel generalizing a bs m with
  | zero => rw [List.length_eq_zero_iff.mp (Nat.le_zero.mp hfuel)]; rfl
  | succ fuel ih =>
    cases bs with
    | nil => rfl
    | cons b bs =>
      have hk : 0 < w - a % w := Nat.sub_pos_of_lt (Nat.mod_lt a hw)
      rw [cut_cons, List.foldl_cons]
      generalize w - a % w = k at hk
      have hrest : ((b :: bs).drop k).length ≤ fuel := by
        simp only [List.length_drop, List.length_cons] at hfuel ⊢
        omega
      rw [ih _ _ _ hrest]
      by_cases hlong : k ≤ (b :: bs).length
      · have htake : ((b :: bs).take k).length = k := by rw [List.length_take]; omega
        conv_rhs => rw [← List.take_append_drop k (b :: bs), Mem.write_append, htake]
      · rw [List.take_of_length_le (by omega), List.drop_eq_nil_of_le (by omega)]
        rfl

/-- The pieces of a write lie in it, and none is empty. -/
theorem cut_bounds {w : Nat} (hw : 0 < w) (fuel a : Nat) (bs : List Byte) {p : Nat × List Byte} (hp : p ∈ cut w fuel a bs) :
    a ≤ p.1 ∧ p.1 + p.2.length ≤ a + bs.length ∧ 0 < p.2.length := by
  induction fuel generalizing a bs with
  | zero => cases hp
  | succ fuel ih =>
    cases bs with
    | nil => cases hp
    | cons b bs =>
      have hk : 0 < w - a % w := Nat.sub_pos_of_lt (Nat.mod_lt a hw)
      rw [cut_cons] at hp
      generalize w - a % w = k at hk hp
      rcases List.mem_cons.mp hp with rfl | hrest
      · simp only [List.length_take, List.length_cons]
        omega
      · obtain ⟨hlo, hhi, hpos⟩ := ih _ _ hrest
        simp only [List.length_drop, List.length_cons] at hhi ⊢
        omega

/-! ### The stacks ready for a write (R234, R235, R242, R279) -/

/-- The stacks hold the `n` bytes from `a`, no entry of the stream table lies in them, no side is contained, and neither an uncorrectable error nor an injection waits. -/
structure Dev.Ready (d : Dev) (a n : Nat) : Prop where
  ends : a + n ≤ 2 * hbmSize
  table : d.inTable a n = false
  sides : ∀ side : Fin 2, d.contained side = false
  calm : Claims.Calm d
  ue : d.hbmUe = []
  inject : ∀ side : Fin 2, d.fld ((Block.hbm side).base + Off.HBM_EXP) Fl.HBM_EXP_ECC_INJ = 0

/-- Packets and writes leave the stacks ready. -/
theorem Dev.Ready.moved {d e : Dev} {m : Mem} {a n : Nat} (h : d.Ready a n) (he : d.Moved e m) : e.Ready a n where
  ends := h.ends
  table := (he.inTable a n).trans h.table
  sides side := (he.contained side).trans (h.sides side)
  calm := he.calm
  ue := he.hbmUe.trans h.ue
  inject side := (he.inject side).trans (h.inject side)

/-- Bytes with no entry of the stream table among them have none in a part. -/
theorem Dev.inTable_part {d : Dev} {a n b l : Nat} (h : d.inTable a n = false) (hlo : a ≤ b) (hhi : b + l ≤ a + n) : d.inTable b l = false := by
  unfold Dev.inTable at h ⊢
  rw [List.any_eq_false] at h ⊢
  intro s hs
  have hs := h s hs
  simp only [Bool.and_eq_true, bne_iff_ne, decide_eq_true_eq] at hs ⊢
  omega

theorem Dev.Ready.part {d : Dev} {a n b l : Nat} (h : d.Ready a n) (hlo : a ≤ b) (hhi : b + l ≤ a + n) : d.Ready b l :=
  { h with ends := by have := h.ends; omega, table := Dev.inTable_part h.table hlo hhi }

/-- The bytes lie in a stack. -/
theorem Dev.Ready.side {d : Dev} {a n : Nat} (h : d.Ready a n) (hn : 0 < n) : a / hbmSize < 2 := by
  have := h.ends
  exact Nat.div_lt_of_lt_mul (by omega)

theorem Dev.Ready.target {d : Dev} {a n : Nat} (h : d.Ready a n) (hn : 0 < n) : targetOf a = .hbm (a / hbmSize) (a % hbmSize) := by
  have := h.ends
  unfold targetOf
  rw [if_pos (by omega)]

theorem targetOf_hbm {a side o : Nat} (h : targetOf a = .hbm side o) : a < 2 * hbmSize ∧ side = a / hbmSize := by
  unfold targetOf at h
  split at h
  · next ha =>
    injection h with hside
    exact ⟨ha, hside.symm⟩
  split at h
  · dsimp only at h
    split at h
    · cases h
    · split at h <;> cases h
  split at h
  · dsimp only at h
    split at h <;> cases h
  split at h <;> cases h

/-- What a DMA unit that HBM serves needs of the stream table and of the stacks' size (R202, R279). -/
theorem Dev.Ready.of_dmaReach {d : Dev} {k cw a n side o : Nat} {wr : Bool} (htarget : targetOf a = .hbm side o) (hreach : d.dmaReach k wr cw a n = none)
    (hsides : ∀ side : Fin 2, d.contained side = false) (hcalm : Claims.Calm d) (hue : d.hbmUe = [])
    (hinject : ∀ side : Fin 2, d.fld ((Block.hbm side).base + Off.HBM_EXP) Fl.HBM_EXP_ECC_INJ = 0) : d.Ready a n := by
  refine ⟨?_, d.inTable_of_dmaReach htarget hreach, hsides, hcalm, hue, hinject⟩
  unfold Dev.dmaReach at hreach
  rw [htarget] at hreach
  dsimp only at hreach
  split at hreach
  · cases hreach
  · next h => omega

/-- What the stacks are ready for is allowed (R202). -/
theorem Dev.Ready.dmaReach {d : Dev} {a n side o : Nat} (h : d.Ready a n) (htarget : targetOf a = .hbm side o) (k : Nat) (wr : Bool) (cw : Nat) :
    d.dmaReach k wr cw a n = none := by
  obtain ⟨ha, rfl⟩ := targetOf_hbm htarget
  have hends := h.ends
  have hfirst : d.contained (a / hbmSize) = false := h.sides ⟨_, Nat.div_lt_of_lt_mul (by omega)⟩
  have hlast : d.contained ((a + n - 1) / hbmSize) = false := h.sides ⟨_, Nat.div_lt_of_lt_mul (by omega)⟩
  unfold Dev.dmaReach
  rw [htarget]
  dsimp only
  rw [if_neg (by rw [h.table]; exact not_or.mpr ⟨by omega, by decide⟩), if_neg (by rw [hfirst, hlast]; decide)]

/-- A core's state says nothing of the stacks. -/
theorem Dev.Ready.setCore {d : Dev} {a n : Nat} (h : d.Ready a n) (k : Nat) (c : Core) : (d.setCore k c).Ready a n :=
  ⟨h.ends, h.table, h.sides, h.calm, h.ue, h.inject⟩

/-! ### Writes to HBM (R234, R235) -/

theorem Dev.hbmCount_moved {d : Dev} (hcalm : Claims.Calm d) {s : Nat} (hs : s < 2) {o : Nat} (ho : o ∈ [Off.HBM_RMW, Off.HBM_CE]) (n : Nat) :
    d.Moved (d.hbmCount s o n) d.hbm := by
  refine Dev.bump_moved hcalm n _ ?_ ?_
  · have : ∀ s : Fin 2, ∀ o ∈ [Off.HBM_RMW, Off.HBM_CE], (Block.hbm s).base + o ∈ busyRegs := by decide +kernel
    exact this ⟨s, hs⟩ o ho
  · have : ∀ s side : Fin 2, ∀ o ∈ [Off.HBM_RMW, Off.HBM_CE], (Block.mesh side).base + Off.MESH_EXP ≠ (Block.hbm s).base + o := by decide +kernel
    exact fun side => this ⟨s, hs⟩ side o ho

theorem Dev.hbmUse_moved {d : Dev} (hcalm : Claims.Calm d) (a : Nat) : d.Moved (d.hbmUse a) d.hbm := by
  obtain ⟨q, hframe⟩ := d.hbmUse_frame a
  rw [hframe]
  exact { rest := rfl, regs := fun _ _ => rfl, calm := hcalm, hbm := rfl, clean := id }

/-- The bytes of a granule land. -/
theorem Dev.hbmGran_moved {d : Dev} (src : Nat) (core : Option Nat) {p : Nat × List Byte} (hp : 0 < p.2.length) (h : d.Ready p.1 p.2.length) :
    d.Moved (Dev.hbmGran src core d p) (d.hbm.write p.1 p.2) := by
  have hside := h.side hp
  have hrmw : d.Moved (if p.2.length == 32 then d else d.hbmCount (p.1 / hbmSize) Off.HBM_RMW 1) d.hbm := by
    split
    · exact Dev.Moved.refl h.calm
    · exact Dev.hbmCount_moved h.calm hside (by decide) 1
  unfold Dev.hbmGran
  dsimp only
  generalize (if p.2.length == 32 then d else d.hbmCount (p.1 / hbmSize) Off.HBM_RMW 1) = e at hrmw
  have he := h.moved hrmw
  rw [if_neg (by rw [he.table]; decide), if_neg (by rw [he.ue]; simp)]
  have hce : e.Moved (if !(p.2.length == 32) && e.hbmCe.contains (p.1 / 32) then e.hbmCount (p.1 / hbmSize) Off.HBM_CE 1 else e) e.hbm := by
    split
    · exact Dev.hbmCount_moved he.calm hside (by decide) 1
    · exact Dev.Moved.refl he.calm
  generalize (if !(p.2.length == 32) && e.hbmCe.contains (p.1 / 32) then e.hbmCount (p.1 / hbmSize) Off.HBM_CE 1 else e) = f at hce
  have hf := he.moved hce
  have hinject : f.fld ((Block.hbm (p.1 / hbmSize)).base + Off.HBM_EXP) Fl.HBM_EXP_ECC_INJ = 0 := hf.inject ⟨_, hside⟩
  have hwrite : f.Moved { f with hbm := f.hbm.write p.1 p.2, hbmUe := f.hbmUe.filter (· != p.1 / 32), hbmCe := f.hbmCe.filter (· != p.1 / 32) } (f.hbm.write p.1 p.2) := by
    have hue : f.hbmUe.filter (· != p.1 / 32) = f.hbmUe := by rw [hf.ue]; rfl
    rw [hue]
    refine { rest := rfl, regs := fun _ _ => rfl, calm := hf.calm, hbm := rfl, clean := fun hce => ?_ }
    change f.hbmCe.filter _ = []
    rw [hce]
    rfl
  rw [hce.hbm, hrmw.hbm] at hwrite
  split
  · next hone => exact absurd (hone.symm.trans hinject) (by decide)
  · next htwo => exact absurd (htwo.symm.trans hinject) (by decide)
  · rw [hce.hbm, hrmw.hbm]
    exact (hrmw.trans hce).trans hwrite

theorem Dev.hbmWrite_moved {d : Dev} (src : Nat) (core : Option Nat) {a : Nat} {bs : List Byte} (h : d.Ready a bs.length) :
    d.Moved (d.hbmWrite src core a bs) (d.hbm.write a bs) := by
  have hlist := Dev.each_moved (cut 32 bs.length a bs) (Dev.hbmGran src core) (fun m p => m.write p.1 p.2) (fun e m he p hp => by
    obtain ⟨hlo, hhi, hpos⟩ := cut_bounds (by decide) _ _ _ hp
    rw [← he.hbm]
    exact Dev.hbmGran_moved src core hpos ((h.moved he).part hlo hhi)) (Dev.hbmUse_moved h.calm a)
  rwa [cut_write (by decide) _ _ _ _ (Nat.le_refl _)] at hlist

/-! ### A unit's bytes land in HBM (R191, R242) -/

/-- A stack is not cut off from a core while no side is contained. -/
theorem Dev.cutOff_hbm {d : Dev} {k a side o : Nat} (hk : k < 512) (htarget : targetOf a = .hbm side o) (hsides : ∀ side : Fin 2, d.contained side = false) :
    d.cutOff k a = false := by
  obtain ⟨ha, rfl⟩ := targetOf_hbm htarget
  have hfrom : d.contained (sideOf k) = false := hsides ⟨sideOf k, Nat.div_lt_of_lt_mul (by omega)⟩
  have hto : d.contained (a / hbmSize) = false := hsides ⟨_, Nat.div_lt_of_lt_mul (by omega)⟩
  rw [Dev.cutOff, htarget, hfrom]
  exact hto

theorem Dev.dmaLand_moved {d : Dev} {k a : Nat} {bs : List Byte} (meet : Nat) (host : Option Nat) (hk : k < 512) (hpos : 0 < bs.length) (h : d.Ready a bs.length) :
    d.Moved (d.dmaLand k meet host a bs) (d.hbm.write a bs) := by
  have htraffic := Dev.coreTraffic_moved h.calm hk a bs.length 0
  unfold Dev.dmaLand
  dsimp only
  generalize d.coreTraffic k a bs.length 0 = e at htraffic
  have he := h.moved htraffic
  rw [if_neg (by rw [Dev.cutOff_hbm hk (he.target hpos) he.sides]; decide), he.target hpos]
  have hwrite := Dev.hbmWrite_moved (srcDma k) (some k) he
  rw [htraffic.hbm] at hwrite
  exact htraffic.trans hwrite

/-- The pieces of a unit's write, landed in turn. -/
theorem Dev.eachPiece_moved {d : Dev} {k a : Nat} {bs : List Byte} (meet : Nat) (host : Nat → Option Nat) (hk : k < 512) (h : d.Ready a bs.length) :
    d.Moved (d.each (cut 256 bs.length a bs) (fun d w => d.dmaLand k meet (host w.1) w.1 w.2)) (d.hbm.write a bs) := by
  have hlist := Dev.each_moved (cut 256 bs.length a bs) (fun d w => d.dmaLand k meet (host w.1) w.1 w.2) (fun m p => m.write p.1 p.2) (fun e m he p hp => by
    obtain ⟨hlo, hhi, hpos⟩ := cut_bounds (by decide) _ _ _ hp
    rw [← he.hbm]
    exact Dev.dmaLand_moved meet _ hk hpos ((h.moved he).part hlo hhi)) (Dev.Moved.refl h.calm)
  rwa [cut_write (by decide) _ _ _ _ (Nat.le_refl _)] at hlist

end Sys2Proof.Machine
end

section
/-! SUPPORT. The transfers of a core, and a data unit that lands in HBM (R191, R192, R204, R230). -/

namespace Sys2Proof.Machine

theorem exec_dmaTransferStart (k : Fin 512) (s : State) : exec (.dmaTransferStart k) s = execDmaTransferStart k s := rfl
theorem exec_overlaySegmentLanded (k : Fin 512) (host : List Byte) (s : State) : exec (.overlaySegmentLanded k host) s = execOverlaySegmentLanded k host s := rfl
theorem exec_dmaUnitIssue (k : Fin 512) (x : Nat) (s : State) : exec (.dmaUnitIssue k x) s = execDmaUnitIssue k x s := rfl
theorem exec_dmaUnitComplete (k : Fin 512) (x i meet : Nat) (s : State) : exec (.dmaUnitComplete k x i meet) s = execDmaUnitComplete k x i meet s := rfl
theorem exec_chainUnitForward (k : Fin 512) (x hop : Nat) (lands : Bool) (meet : Nat) (s : State) :
    exec (.chainUnitForward k x hop lands meet) s = execChainUnitForward k x hop lands meet s := rfl
theorem exec_dmaTransferComplete (k : Fin 512) (x : Nat) (s : State) : exec (.dmaTransferComplete k x) s = execDmaTransferComplete k x s := rfl

/-! ### The transfers of a core (R190) -/

/-- A core with transfer `t` in the place of the one of its number. -/
def Core.withXfer (c : Core) (t : Xfer) : Core := { c with xfers := c.xfers.map (fun u => if u.id == t.id then t else u) }

theorem Dev.setXfer_eq (d : Dev) (k : Nat) (t : Xfer) : d.setXfer k t = d.setCore k ((d.core k).withXfer t) := rfl

theorem Core.xfer_id {c : Core} {x : Nat} {t : Xfer} (h : c.xfer x = some t) : t.id = x := by
  have hid := List.find?_some h
  exact of_decide_eq_true hid

theorem Core.xfer_withXfer {c : Core} {t : Xfer} {u : Xfer} (h : c.xfer t.id = some u) : (c.withXfer t).xfer t.id = some t := by
  have hkeep : (fun v : Xfer => v.id == t.id) ∘ (fun v => if v.id == t.id then t else v) = fun v => v.id == t.id := by
    funext v
    by_cases hv : v.id = t.id
    · simp [hv]
    · simp [hv]
  unfold Core.xfer Core.withXfer at *
  dsimp only
  rw [List.find?_map, hkeep, h]
  have hid := List.find?_some h
  simp only [Option.map_some, hid, if_true]

/-! ### A data unit lands (R191, R192, R230) -/

/-- A unit of a transfer that has come, may write, and has nothing of its core before it on its way, lands. -/
theorem dmaUnitComplete_lands {s : State} {k : Fin 512} {x i : Nat} (meet : Nat) {t : Xfer} {f : Flight} (hx : (s.dev.core k).xfer x = some t) (hi : t.flights[i]? = some f)
    (hhost : f.host = 0) (hlist : f.list = false) (hovl : t.ovl = none) (hfailed : t.failed = false) (hremote : remoteOf k f.dst = none) (hrecv : t.recv = none)
    (hway : s.dev.underWay k (if f.sent then f.seq else (s.dev.core k).sentN) (destNode k f.dst) = false) :
    Claims.GivesDev (.dmaUnitComplete k x i meet) s (s.dev.landUnit k meet { t with flights := t.flights.eraseIdx i } f f.data) := by
  have hready : ¬(f.host = 1 ∨ f.list = true ∧ (t.flights.take i).any (·.list) = true) := by simp [hhost, hlist]
  have hsent : ¬(f.sent = true ∧ s.dev.underWay k f.seq (destNode k f.dst) = true) := by
    rintro ⟨hsent, hunder⟩
    rw [if_pos hsent, hunder] at hway
    cases hway
  have hunsent : ¬(f.sent = false ∧ s.dev.underWay k (s.dev.core k).sentN (destNode k f.dst) = true) := by
    rintro ⟨hsent, hunder⟩
    rw [if_neg (by rw [hsent]; decide), hunder] at hway
    cases hway
  rw [Claims.GivesDev, exec_dmaUnitComplete, execDmaUnitComplete, onDev_next, hx]
  dsimp only
  rw [if_neg (by rw [hovl]; decide), hi]
  dsimp only
  rw [if_neg hready, if_neg (by omega), if_neg (by rw [hlist]; decide), if_neg hsent, hfailed, hremote, hrecv, if_neg (by simp), if_neg (by simp), if_neg (by simp),
    if_neg hunsent]

/-- What a unit of a plain transfer writes (R191). -/
theorem Xfer.writes_plain {t : Xfer} (hsb : t.desc.sb = false) (hty : t.desc.ty ≠ 3) (f : Flight) (data : List Byte) :
    t.writes f data = ([(f.dst, data)], t.waits, [], 0, 0) := by
  unfold Xfer.writes
  dsimp only
  rw [if_neg (by rw [hsb]; decide), if_neg hty]

/-- A write to a stack goes through no gather buffer. -/
theorem bufCore_hbm {a side o : Nat} (htarget : targetOf a = .hbm side o) (bs : List Byte) : bufCore (a, bs) = [] := by
  unfold bufCore
  rw [htarget]

/-- The write of a unit lands in a stack. -/
theorem Dev.landWrites_hbm {d : Dev} {k side o : Nat} (meet : Nat) (t : Xfer) (f : Flight) (hk : k < 512) (htarget : targetOf f.dst = .hbm side o)
    (h : d.Ready f.dst f.data.length) : ∃ e, d.landWrites k meet t f [(f.dst, f.data)] = (e, true) ∧ d.Moved e (d.hbm.write f.dst f.data) := by
  have hpieces := Dev.eachPiece_moved meet (fun a => f.hostDst.map (fun h => h + a - f.dst)) hk h
  refine ⟨_, ?_, hpieces⟩
  have hcut := Dev.cutOff_hbm hk htarget (h.moved hpieces).sides
  unfold Dev.landWrites
  simp only [List.findSome?_cons, List.findSome?_nil, htarget, reduceCtorEq, if_false, h.dmaReach htarget, Option.map_none, List.flatMap_cons, List.flatMap_nil,
    List.append_nil, List.find?_cons, List.find?_nil, hcut]

/-- A unit of a plain transfer lands in a stack: its bytes, and one more unit counted. -/
theorem Dev.landUnit_hbm {d : Dev} {k side o : Nat} (meet : Nat) {t : Xfer} {f : Flight} (hk : k < 512) (htarget : targetOf f.dst = .hbm side o)
    (h : d.Ready f.dst f.data.length) (hfailed : t.failed = false) (hplain : Claims.PlainXfer t.desc) (hty3 : t.desc.ty ≠ 3) (hty4 : t.desc.ty ≠ 4) (hhops : t.hops = []) :
    ∃ e, d.landUnit k meet t f f.data = e.onCore k (fun c => c.bump Off.DMA_UNITS 1) ∧ (d.setXfer k { t with half := [] }).Moved e (d.hbm.write f.dst f.data) := by
  have hready : (d.setXfer k { t with half := [] }).Ready f.dst f.data.length := h.setCore k _
  obtain ⟨e, hland, hmoved⟩ := Dev.landWrites_hbm meet { t with half := [] } f hk htarget hready
  refine ⟨e, ?_, hmoved⟩
  unfold Dev.landUnit
  simp only [Xfer.writes_plain hplain.sb hty3, bufCore_hbm htarget, List.flatMap_cons, List.flatMap_nil, List.append_nil, List.foldl_nil, if_neg hty4, Nat.add_zero]
  rw [hland]
  simp [hfailed, hhops, hplain.perHop]

/-- A data unit of a plain transfer lands in HBM and frees its tag. -/
theorem dmaUnitComplete_hbm {s : State} {k : Fin 512} {x i side o : Nat} (meet : Nat) {t : Xfer} {f : Flight} (hx : (s.dev.core k).xfer x = some t)
    (hi : t.flights[i]? = some f) (hhost : f.host = 0) (hlist : f.list = false) (hfailed : t.failed = false) (hovl : t.ovl = none) (hplain : Claims.PlainXfer t.desc)
    (hty3 : t.desc.ty ≠ 3) (hty4 : t.desc.ty ≠ 4) (hrecv : t.recv = none) (hhops : t.hops = [])
    (hway : s.dev.underWay k (if f.sent then f.seq else (s.dev.core k).sentN) (destNode k f.dst) = false) (hout : (s.dev.core k).out = [])
    (htarget : targetOf f.dst = .hbm side o) (h : s.dev.Ready f.dst f.data.length) (hunits : ((s.dev.core k).reg Off.DMA_UNITS).toNat + 1 < 2 ^ 32) :
    Claims.Gives (.dmaUnitComplete k x i meet) s (fun u => u.dev.hbm = s.dev.hbm.write f.dst f.data
      ∧ (u.dev.core k).xfer x = some { t with flights := t.flights.eraseIdx i, half := [] }
      ∧ ((u.dev.core k).reg Off.DMA_UNITS).toNat = ((s.dev.core k).reg Off.DMA_UNITS).toNat + 1
      ∧ (u.dev.core k).mem = (s.dev.core k).mem ∧ ∀ j, j ≠ k.val → u.dev.core j = s.dev.core j) := by
  have hremote : remoteOf k f.dst = none := by rw [remoteOf, htarget]
  obtain ⟨e, hland, hmoved⟩ := Dev.landUnit_hbm (t := { t with flights := t.flights.eraseIdx i }) meet k.isLt htarget h hfailed hplain hty3 hty4 hhops
  have hid : t.id = x := Core.xfer_id hx
  have hcore : e.core k = (s.dev.core k).withXfer { t with flights := t.flights.eraseIdx i, half := [] } := by
    rw [hmoved.core, Dev.setXfer_eq, Dev.core_setCore, if_pos rfl]
  have hbump : e.onCore k (fun c => c.bump Off.DMA_UNITS 1) = e.setCore k ((e.core k).setReg Off.DMA_UNITS (wd (((s.dev.core k).reg Off.DMA_UNITS).toNat + 1))) := by
    unfold Dev.onCore
    dsimp only
    have hsmall : ((e.core k).reg Off.DMA_UNITS).toNat + 1 < 2 ^ 32 := by rw [hcore]; exact hunits
    rw [Core.bump_small _ _ _ hsmall, Dev.putCore_quiet _ _ _ (by rw [hcore]; exact hout), hcore]
    rfl
  refine ⟨_, dmaUnitComplete_lands meet hx hi hhost hlist hovl hfailed hremote hrecv hway, ?_⟩
  dsimp only
  rw [hland, hbump]
  refine ⟨hmoved.hbm, ?_, ?_, ?_, fun j hj => ?_⟩
  · rw [Dev.core_setCore, if_pos rfl, hcore]
    subst hid
    exact Core.xfer_withXfer (t := { t with flights := t.flights.eraseIdx i, half := [] }) hx
  · rw [Dev.core_setCore, if_pos rfl, Core.reg_setReg, if_pos rfl, wd, BitVec.toNat_ofNat, Nat.mod_eq_of_lt hunits]
  · rw [Dev.core_setCore, if_pos rfl, hcore]
    rfl
  · rw [Dev.core_setCore, if_neg hj, hmoved.core, Dev.setXfer_eq, Dev.core_setCore, if_neg hj]

end Sys2Proof.Machine
end

section
/-! SUPPORT. The last segment of an overlay load lands (R51). -/

namespace Sys2Proof.Machine

/-- A core with the bytes `bs` of its segment `g`, which came from `a`: they are valid, and OVL_SRC says where they came from. -/
def Core.segmentIn (c : Core) (g a : Nat) (bs : List Byte) : Core :=
  let c := { c with imem := c.imem.write (4096 * g) bs, imemBad := c.imemBad.filter (fun b => b / 256 != g) }
  ((c.setReg Off.IMEM_VALID (c.reg Off.IMEM_VALID ||| wd (2 ^ g))).setReg (Off.OVL_SRC_LO g) (lo32 a)).setReg (Off.OVL_SRC_HI g) (hi32 a)

/-- A core while a packet of segment `g` of its overlay load `t` has landed: the segment is not valid. -/
def Core.segmentBegun (c : Core) (g : Nat) (t : Xfer) : Core :=
  (c.setReg Off.IMEM_VALID (c.reg Off.IMEM_VALID &&& ~~~ (wd (2 ^ g)))).withXfer { t with off := 1 }

theorem Core.segmentIn_out (c : Core) (g a : Nat) (bs : List Byte) : (c.segmentIn g a bs).out = c.out := by
  simp only [Core.segmentIn, Core.setReg_out]

theorem Core.segmentBegun_out (c : Core) (g : Nat) (t : Xfer) : (c.segmentBegun g t).out = c.out := rfl

theorem Dev.dropXfer_hbm (d : Dev) (k x : Nat) : (d.dropXfer k x).hbm = d.hbm := rfl

theorem Dev.core_dropXfer (d : Dev) (k x : Nat) : (d.dropXfer k x).core k = { d.core k with xfers := (d.core k).xfers.filter (fun u => u.id != x) } := by
  rw [Dev.dropXfer, Dev.core_setCore, if_pos rfl]

theorem Core.segmentIn_xfers (c : Core) (g a : Nat) (bs : List Byte) : (c.segmentIn g a bs).xfers = c.xfers := by
  simp only [Core.segmentIn, Core.setReg_xfers]

theorem Core.segment_imem (c : Core) (g a : Nat) (t : Xfer) (bs : List Byte) : ((c.segmentBegun g t).segmentIn g a bs).imem = c.imem.write (4096 * g) bs := by
  simp only [Core.segmentIn, Core.setReg_imem]
  rfl

theorem Core.segment_imemBad (c : Core) (g a : Nat) (t : Xfer) (bs : List Byte) : ((c.segmentBegun g t).segmentIn g a bs).imemBad = c.imemBad.filter (fun b => b / 256 != g) := by
  simp only [Core.segmentIn, Core.setReg_imemBad]
  rfl

theorem Dev.overlayPacket_eq {d : Dev} {k src seg cnt : Nat} {t : Xfer} (hovl : t.ovl = some (src, seg, cnt)) (hout : (d.core k).out = []) :
    d.overlayPacket k t = (d.setCore k ((d.core k).setReg Off.IMEM_VALID ((d.core k).reg Off.IMEM_VALID &&& ~~~ (wd (2 ^ (seg + t.piece)))))).setXfer k { t with off := 1 } := by
  unfold Dev.overlayPacket
  rw [hovl]
  dsimp only
  rw [Dev.onCore, Dev.putCore_quiet _ _ _ (by exact hout)]

/-- What segment `g` reads. -/
structure SegmentSource (d : Dev) (a : Nat) (host bs : List Byte) : Prop where
  ue : d.hbmUe = []
  ce : d.hbmCe = []
  bytes : ((∃ side o, targetOf a = .hbm side o) ∧ d.inTable a 4096 = false ∧ bs = d.hbm.read a 4096) ∨ (targetOf a = .host ∧ host.length = 4096 ∧ bs = host)

theorem SegmentSource.setCore {d : Dev} {a : Nat} {host bs : List Byte} (h : SegmentSource d a host bs) (k : Nat) (c : Core) : SegmentSource (d.setCore k c) a host bs :=
  ⟨h.ue, h.ce, h.bytes⟩

/-- The read of a segment gives its bytes, and leaves the cores and the stacks. -/
theorem Dev.segmentGot {d : Dev} {a : Nat} {host bs : List Byte} (k : Nat) (h : SegmentSource d a host bs) :
    ∃ e, (if targetOf a == .host then ((if host.length = 4096 then .bytes host else .ue 0x07 a : Got), d) else d.dmaGet k a 4096) = (.bytes bs, e)
      ∧ e.cores = d.cores ∧ e.hbm = d.hbm := by
  rcases h.bytes with ⟨⟨side, o, htarget⟩, htable, rfl⟩ | ⟨htarget, hlen, rfl⟩
  · have hbad : d.hbmBad a 4096 = none := by
      rw [Dev.hbmBad, h.ue]
      simp
    refine ⟨d.hbmUse a, ?_, ?_, d.hbmUse_hbm a⟩
    · rw [htarget, if_neg (by simp)]
      unfold Dev.dmaGet
      rw [htarget]
      dsimp only
      rw [hbad, d.hbmCheck_clean a 4096 h.ue h.ce, Dev.hbmBytes, htable]
      rfl
    · obtain ⟨q, hframe⟩ := d.hbmUse_frame a
      rw [hframe]
  · refine ⟨d, ?_, rfl, rfl⟩
    rw [htarget, if_pos (by decide), if_pos hlen]

/-- The last segment of the oldest overlay load lands. -/
theorem overlaySegmentLanded_last {s : State} {k : Fin 512} {t : Xfer} {src seg cnt : Nat} {host bs : List Byte} (hoverlay : (s.dev.core k).overlay = some t)
    (hovl : t.ovl = some (src, seg, cnt)) (hlast : t.piece + 1 = cnt)
    (hway : s.dev.underWay k (s.dev.core k).sentN (destNode k (src + 4096 * t.piece)) = false) (hreach : s.dev.dmaReach k false 0 (src + 4096 * t.piece) 4096 = none)
    (hue : s.dev.hbmUe = []) (hce : s.dev.hbmCe = []) (hout : (s.dev.core k).out = []) (hcalm : Claims.Calm s.dev)
    (hbytes : ((∃ side o, targetOf (src + 4096 * t.piece) = .hbm side o) ∧ bs = s.dev.hbm.read (src + 4096 * t.piece) 4096)
      ∨ (targetOf (src + 4096 * t.piece) = .host ∧ host.length = 4096 ∧ bs = host)) :
    Claims.Gives (.overlaySegmentLanded k host) s (fun u => u.dev.hbm = s.dev.hbm
      ∧ u.dev.core k = { ((s.dev.core k).segmentBegun (seg + t.piece) t).segmentIn (seg + t.piece) (src + 4096 * t.piece) bs with
          xfers := ((s.dev.core k).segmentBegun (seg + t.piece) t).xfers.filter (fun u => u.id != t.id) }) := by
  have hpackets := Dev.each_moved_still (ranges256 (src + 4096 * t.piece) 4096) (fun d p => d.coreTraffic k p.1 0 p.2)
    (fun e he p _ => Dev.coreTraffic_moved he k.isLt p.1 0 p.2) hcalm
  generalize hp : s.dev.each (ranges256 (src + 4096 * t.piece) 4096) (fun d p => d.coreTraffic k p.1 0 p.2) = p at hpackets
  have hpcore : p.core k = s.dev.core k := hpackets.core k
  have hbegun := Dev.overlayPacket_eq (d := p) (k := k) hovl (by rw [hpcore]; exact hout)
  have hbegunCore : (p.overlayPacket k t).core k = (s.dev.core k).segmentBegun (seg + t.piece) t := by
    rw [hbegun, Dev.setXfer_eq, Dev.core_setCore, if_pos rfl, Dev.core_setCore, if_pos rfl, hpcore]
    rfl
  have hsource : SegmentSource p (src + 4096 * t.piece) host bs := by
    refine ⟨hpackets.hbmUe.trans hue, hpackets.clean hce, ?_⟩
    rw [hpackets.inTable, hpackets.hbm]
    rcases hbytes with ⟨⟨side, o, htarget⟩, hread⟩ | hhost
    · exact .inl ⟨⟨side, o, htarget⟩, Dev.inTable_of_dmaReach _ htarget hreach, hread⟩
    · exact .inr hhost
  have hbegunSource : SegmentSource (p.overlayPacket k t) (src + 4096 * t.piece) host bs := by
    rw [hbegun, Dev.setXfer_eq]
    exact (hsource.setCore _ _).setCore _ _
  obtain ⟨e, hgot, hcores, hhbm⟩ := Dev.segmentGot k hbegunSource
  have hecore : e.core k = (s.dev.core k).segmentBegun (seg + t.piece) t := (Dev.core_of_cores hcores k).trans hbegunCore
  have hin : e.onCore k (fun c => c.segmentIn (seg + t.piece) (src + 4096 * t.piece) bs) = e.setCore k ((e.core k).segmentIn (seg + t.piece) (src + 4096 * t.piece) bs) :=
    Dev.putCore_quiet e k ((e.core k).segmentIn (seg + t.piece) (src + 4096 * t.piece) bs) (by rw [Core.segmentIn_out, hecore, Core.segmentBegun_out]; exact hout)
  refine ⟨{ s with dev := (e.onCore k (fun c => c.segmentIn (seg + t.piece) (src + 4096 * t.piece) bs)).dropXfer k t.id }, ?_, ?_, ?_⟩
  · rw [exec_overlaySegmentLanded, execOverlaySegmentLanded, onDev_next, hoverlay]
    dsimp only
    rw [hovl]
    dsimp only
    rw [if_neg (by rw [hway]; decide), hreach]
    dsimp only
    rw [hp, hgot]
    dsimp only
    rw [if_neg (by omega)]
    rfl
  · dsimp only
    rw [Dev.dropXfer_hbm, hin, Dev.setCore_hbm, hhbm, hbegun, Dev.setXfer_eq, Dev.setCore_hbm, Dev.setCore_hbm, hpackets.hbm]
  · dsimp only
    rw [Dev.core_dropXfer, hin, Dev.core_setCore, if_pos rfl, hecore, Core.segmentIn_xfers]

/-! ### The segment's registers and bytes -/

section
variable (c : Core) {g : Nat} (hg : g < 16) (t : Xfer) (a : Nat) (bs : List Byte)
include hg

/-- A segment that landed is valid. -/
theorem Core.segment_valid : ((c.segmentBegun g t).segmentIn g a bs).reg Off.IMEM_VALID = c.reg Off.IMEM_VALID ||| wd (2 ^ g) := by
  have hlo : Off.IMEM_VALID ≠ Off.OVL_SRC_LO g := by simp only [Off.IMEM_VALID, Off.OVL_SRC_LO]; omega
  have hhi : Off.IMEM_VALID ≠ Off.OVL_SRC_HI g := by simp only [Off.IMEM_VALID, Off.OVL_SRC_HI]; omega
  have hbegun : (c.segmentBegun g t).reg Off.IMEM_VALID = c.reg Off.IMEM_VALID &&& ~~~ (wd (2 ^ g)) := (Core.reg_setReg _ _ _ _).trans (if_pos rfl)
  have hin : ((c.segmentBegun g t).segmentIn g a bs).reg Off.IMEM_VALID = (c.segmentBegun g t).reg Off.IMEM_VALID ||| wd (2 ^ g) := by
    unfold Core.segmentIn
    dsimp only
    rw [Core.reg_setReg, if_neg hhi, Core.reg_setReg, if_neg hlo, Core.reg_setReg, if_pos rfl]
    rfl
  rw [hin, hbegun]
  ext i hi
  simp only [BitVec.getElem_or, BitVec.getElem_and, BitVec.getElem_not]
  cases (c.reg Off.IMEM_VALID)[i] <;> cases (wd (2 ^ g))[i] <;> rfl

omit hg in
/-- OVL_SRC tells where a segment came from. -/
theorem Core.segment_source : (c.segmentIn g a bs).reg (Off.OVL_SRC_LO g) = lo32 a ∧ (c.segmentIn g a bs).reg (Off.OVL_SRC_HI g) = hi32 a := by
  have hne : Off.OVL_SRC_LO g ≠ Off.OVL_SRC_HI g := by simp only [Off.OVL_SRC_LO, Off.OVL_SRC_HI]; omega
  unfold Core.segmentIn
  dsimp only
  exact ⟨by rw [Core.reg_setReg, if_neg hne, Core.reg_setReg, if_pos rfl], by rw [Core.reg_setReg, if_pos rfl]⟩

end

end Sys2Proof.Machine
end

section
/-! SUPPORT. The start of a transfer and its end (R190, R194, R203, R220). -/

namespace Sys2Proof.Machine

/-! ### Two writes of one core -/

namespace Tab

theorem put_put {α : Type} (t : Tab α) (k : Nat) (v w : α) : put (put t k v) k w = put t k w := by
  induction t with
  | nil => simp [put]
  | cons e t ih =>
    obtain ⟨j, u⟩ := e
    by_cases hlt : k < j
    · simp [put, hlt]
    · by_cases hj : j = k
      · simp [put, hj]
      · simp [put, hlt, hj, ih]

theorem del_put {α : Type} (t : Tab α) (k : Nat) (v : α) : del (put t k v) k = del t k := by
  induction t with
  | nil => simp [put, del]
  | cons e t ih =>
    obtain ⟨j, u⟩ := e
    by_cases hlt : k < j
    · simp [put, del, hlt]
    · by_cases hj : j = k
      · simp [put, del, hj]
      · simp [put, del, hlt, hj, ih]

/-- A write over an entry that is not the default is the only one that counts, in a canonical table or not. -/
theorem set_set {α : Type} [DecidableEq α] {d : α} (t : Tab α) (k : Nat) {v : α} (w : α) (hv : v ≠ d) : set d (set d t k v) k w = set d t k w := by
  unfold set
  rw [if_neg hv]
  split
  · exact del_put t k v
  · exact put_put t k v w

end Tab

/-- A core that has a transfer, written over. -/
theorem Dev.setCore_setCore (d : Dev) (k : Nat) {c : Core} (c' : Core) (hc : c.xfers ≠ []) : (d.setCore k c).setCore k c' = d.setCore k c' := by
  have hne : c ≠ Core.atReset := fun h => hc (by rw [h]; rfl)
  have hcores := Tab.set_set d.cores k c' hne
  exact congrArg (fun t => { d with cores := t }) hcores

/-! ### The start of a transfer (R190, R203) -/

/-- The device whose core `k` has taken the head of its DMA queue, with `rest` behind it, as transfer `t`. -/
def Dev.begun (d : Dev) (k : Nat) (t : Xfer) (rest : List DCmd) : Dev :=
  d.setCore k { d.core k with dq := rest, nextXfer := (d.core k).nextXfer + 1, xfers := (d.core k).xfers ++ [t] }

theorem Dev.core_begun (d : Dev) (k : Nat) (t : Xfer) (rest : List DCmd) :
    (d.begun k t rest).core k = { d.core k with dq := rest, nextXfer := (d.core k).nextXfer + 1, xfers := (d.core k).xfers ++ [t] } := by
  rw [Dev.begun, Dev.core_setCore, if_pos rfl]

/-- A transfer that has just begun, replaced. -/
theorem Dev.begun_setXfer (d : Dev) (k : Nat) {t t' : Xfer} (rest : List DCmd) (hid : t'.id = t.id) (hnew : ∀ u ∈ (d.core k).xfers, u.id ≠ t.id) :
    (d.begun k t rest).setXfer k t' = d.begun k t' rest := by
  have hkeep : (d.core k).xfers.map (fun u => if u.id == t'.id then t' else u) = (d.core k).xfers := by
    refine (List.map_congr_left (g := id) fun u hu => if_neg ?_).trans (List.map_id _)
    rw [hid, beq_iff_eq]
    exact hnew u hu
  have hlast : [t].map (fun u => if u.id == t'.id then t' else u) = [t'] := by simp [hid]
  rw [Dev.setXfer, Dev.core_begun, Dev.begun, Dev.setCore_setCore _ _ _ (by simp)]
  dsimp only
  rw [List.map_append, hkeep, hlast]
  rfl

/-- While four transfers run, or the core's side is contained, no transfer starts. -/
theorem dmaTransferStart_stays {s : State} {k : Fin 512} (h : 4 ≤ (s.dev.core k).xfers.length ∨ s.dev.contained (sideOf k) = true) :
    Claims.Stays (.dmaTransferStart k) s := by
  rw [Claims.Stays, exec_dmaTransferStart, execDmaTransferStart, onDev_next]
  dsimp only
  rw [if_pos (h.imp_right fun hside => .inr (.inr hside))]

section
variable {s : State} {k : Fin 512} (hroom : (s.dev.core k).xfers.length < 4) (hqueues : (s.dev.core k).queuesHeld = false) (hstate : (s.dev.core k).state ≠ .reset)
  (hside : s.dev.contained (sideOf k) = false)
include hroom hqueues hstate hside

theorem dmaTransferStart_mayStart : ¬((s.dev.core k).xfers.length ≥ 4 ∨ (s.dev.core k).queuesHeld = true ∨ (s.dev.core k).state = .reset ∨ s.dev.contained (sideOf k) = true) := by
  simp only [hqueues, hstate, hside, Bool.false_eq_true, or_false, ge_iff_le]
  omega

/-- A descriptor at the head starts, and is checked. -/
theorem dmaTransferStart_desc {b : List Byte} {a : Nat} {rest : List DCmd} (hq : (s.dev.core k).dq = .desc b a :: rest) :
    Claims.GivesDev (.dmaTransferStart k) s
      ((s.dev.begun k (Xfer.new ((s.dev.core k).nextXfer + 1) a b (Desc.parse b) none [] []) rest).startDesc k b
        (Xfer.new ((s.dev.core k).nextXfer + 1) a b (Desc.parse b) none [] [])) := by
  rw [Claims.GivesDev, exec_dmaTransferStart, execDmaTransferStart, onDev_next]
  dsimp only
  rw [if_neg (dmaTransferStart_mayStart hroom hqueues hstate hside), hq]
  rfl

/-- An overlay load at the head starts where its source is aligned and allowed. -/
theorem dmaTransferStart_ovl {src seg cnt : Nat} {rest : List DCmd} (hq : (s.dev.core k).dq = .ovl src seg cnt :: rest) (haligned : src % 4 = 0)
    (hreach : (s.dev.begun k (Xfer.new ((s.dev.core k).nextXfer + 1) 0 [] (Desc.parse []) (some (src, seg, cnt)) [] []) rest).dmaReach k false 0 src (4096 * cnt) = none) :
    Claims.GivesDev (.dmaTransferStart k) s
      (s.dev.begun k (Xfer.new ((s.dev.core k).nextXfer + 1) 0 [] (Desc.parse []) (some (src, seg, cnt)) [] []) rest) := by
  unfold Dev.begun at hreach ⊢
  rw [Claims.GivesDev, exec_dmaTransferStart, execDmaTransferStart, onDev_next]
  dsimp only
  rw [if_neg (dmaTransferStart_mayStart hroom hqueues hstate hside), hq]
  dsimp only
  rw [if_neg (by omega), hreach]

end

/-- A plain transfer, no CHAIN, asks for no grant at its start: its target is known from its destination, a SCATTER's from its list later. -/
theorem Dev.startGrants_plain (d : Dev) (k : Nat) {t : Xfer} (hplain : Claims.PlainXfer t.desc) (hty : t.desc.ty ≠ 4) :
    d.startGrants k t = d.setXfer k { t with recv := if t.desc.ty = 2 then none else remoteOf k t.desc.dst } := by
  have htarget : t.target k = remoteOf k t.desc.dst := by
    unfold Xfer.target
    dsimp only
    rw [hplain.sb, Bool.false_and, if_neg Bool.false_ne_true]
  unfold Dev.startGrants
  dsimp only
  rw [if_neg (fun h => hty h.1), if_neg (by rw [hplain.grantOnly]; exact Bool.false_ne_true), if_neg (fun h => by rw [hplain.useGrant] at h; exact Bool.false_ne_true h.1),
    if_neg hty, htarget]

/-- A plain descriptor that passes its checks goes on to its grants. -/
theorem Dev.startDesc_plain {d : Dev} {k : Nat} {b : List Byte} {t : Xfer} (hraw : t.sbdesc = []) (hinvalid : t.desc.invalid k b = none)
    (hmisaligned : t.desc.misaligned = none) (hplain : Claims.PlainXfer t.desc) (hself : d.setXfer k t = d) (hranges : d.descRanges k t.desc none = none) :
    d.startDesc k b t = d.startGrants k t := by
  have hsame : ({ t with sbdesc := [] } : Xfer) = t := by rw [← hraw]
  unfold Dev.startDesc
  simp only [hplain.sb, Bool.false_eq_true, false_and, and_false, if_false, hinvalid, firstOf, List.isEmpty_nil, if_true, Option.or_none, hmisaligned, hplain.ringEn]
  rw [hsame, hself, hranges]

/-! ### The end of a transfer (R194) -/

theorem Dev.dropChain_core (d : Dev) (k x j : Nat) {α : Type} (read : Core → α) (hread : ∀ (c : Core) q, read { c with fwdQ := q } = read c) :
    read ((d.dropChain k x).core j) = read (d.core j) := by
  refine Tab.get_map_read Core.atReset read _ (fun e => ?_) d.cores j
  split
  · exact hread _ _
  · rfl

/-- A plain transfer leaves the engine, and is counted. -/
theorem Dev.finishXfer_plain {d : Dev} {k : Nat} {t : Xfer} (hplain : Claims.PlainXfer t.desc) (hout : (d.core k).out = [])
    (hdone : ((d.core k).reg Off.DMA_DONE).toNat + 1 < 2 ^ 32) :
    d.finishXfer k t = ((d.dropXfer k t.id).dropChain k t.id).setCore k (Claims.upCore (((d.dropXfer k t.id).dropChain k t.id).core k) Off.DMA_DONE 1) := by
  have hcoreOut : (((d.dropXfer k t.id).dropChain k t.id).core k).out = [] := by
    rw [Dev.dropChain_core _ _ _ _ Core.out (fun _ _ => rfl), Dev.core_dropXfer]
    exact hout
  have hcoreReg : (((d.dropXfer k t.id).dropChain k t.id).core k).reg Off.DMA_DONE = (d.core k).reg Off.DMA_DONE := by
    rw [Dev.dropChain_core _ _ _ _ (fun c => c.reg Off.DMA_DONE) (fun _ _ => rfl), Dev.core_dropXfer]
    rfl
  unfold Dev.finishXfer
  simp only [hplain.sigOp, ne_eq, not_true_eq_false, false_and, if_false, Dev.ringOp, hplain.ringEn, Bool.not_false, if_true, Dev.convEvent, hplain.sb, Bool.false_eq_true]
  rw [Dev.onCore, Core.bump_small _ _ _ (by rw [hcoreReg]; exact hdone), Dev.putCore_quiet _ _ _ (by rw [Core.setReg_out]; exact hcoreOut)]
  rfl

theorem dmaTransferComplete_plain {s : State} {k : Fin 512} {x : Nat} {t : Xfer} (hx : (s.dev.core k).xfer x = some t) (hfailed : t.failed = false) (hovl : t.ovl = none)
    (hplain : Claims.PlainXfer t.desc) (hissued : t.issued = true) (hflights : t.flights = []) (hhops : t.hops = []) (hbuf : t.bufCores = []) :
    Claims.GivesDev (.dmaTransferComplete k x) s (s.dev.finishXfer k t) := by
  rw [Claims.GivesDev, exec_dmaTransferComplete, execDmaTransferComplete, onDev_next, hx]
  dsimp only
  rw [if_neg (by simp [hfailed, hovl, hplain.grantOnly, hissued, hflights, hhops]), hbuf]
  rfl

end Sys2Proof.Machine
end

section
/-! SUPPORT. The issue of a unit, a FILL's among them, and a chain unit that goes on (R191, R208, R211, R212). -/

namespace Sys2Proof.Machine

/-! ### A unit issues or waits (R190, R208) -/

/-- A core that does not wait for a tag takes one as it stands. -/
theorem Dev.tagTaken_ready (d : Dev) (j : Nat) (h : (d.core j).tagSince = none) : d.tagTaken j = d := by
  rw [Dev.tagTaken, h]
  rfl

section
variable {s : State} {k : Fin 512} {x : Nat} {t : Xfer} (hx : (s.dev.core k).xfer x = some t)
include hx

/-- A unit that cannot issue, or whose turn it is not, changes nothing. -/
theorem dmaUnitIssue_stays (h : t.nextTags = none ∨ s.dev.unitTurn k x = false) : Claims.Stays (.dmaUnitIssue k x) s := by
  rw [Claims.Stays, exec_dmaUnitIssue, execDmaUnitIssue, onDev_next, hx]
  dsimp only
  cases htags : t.nextTags with
  | none => rfl
  | some u =>
    dsimp only
    rw [if_pos (h.resolve_left (by rw [htags]; simp))]

/-- A unit that finds no tag waits for one. -/
theorem dmaUnitIssue_waits {u : Nat} (hturn : s.dev.unitTurn k x = true) (htags : t.nextTags = some u) (hu : u ≠ 0) (hnone : s.dev.noTag k = true) :
    Claims.GivesDev (.dmaUnitIssue k x) s (s.dev.tagWaits k) := by
  rw [Claims.GivesDev, exec_dmaUnitIssue, execDmaUnitIssue, onDev_next, hx]
  dsimp only
  rw [htags]
  dsimp only
  rw [if_neg (by rw [hturn]; decide), if_pos ⟨hu, hnone⟩]

/-- A unit of a plain transfer without a list issues when it finds a tag. -/
theorem dmaUnitIssue_issues {u : Nat} (hturn : s.dev.unitTurn k x = true) (htags : t.nextTags = some u) (hu : u ≠ 0) (hfree : s.dev.noTag k = false)
    (hsince : (s.dev.core k).tagSince = none) (hneed : t.listNeed = 0) (hsb : t.desc.sb = false) (hty : t.desc.ty ≠ 3) :
    Claims.GivesDev (.dmaUnitIssue k x) s (s.dev.issueUnit k t) := by
  rw [Claims.GivesDev, exec_dmaUnitIssue, execDmaUnitIssue, onDev_next, hx]
  dsimp only
  rw [htags]
  dsimp only
  rw [if_neg (by rw [hturn]; decide), if_neg (by rw [hfree]; exact fun h => Bool.false_ne_true h.2), if_neg hu, Dev.tagTaken_ready _ _ hsince,
    if_neg (by rw [hneed]; omega), if_neg (by rw [hsb]; exact not_or.mpr ⟨Bool.false_ne_true, hty⟩)]

end

/-! ### The unit of a FILL (R191) -/

section
variable {t : Xfer} (hty : t.desc.ty = 5)
include hty

/-- A FILL has no list. -/
theorem Xfer.listNeed_fill (hsb : t.desc.sb = false) : t.listNeed = 0 := by
  unfold Xfer.listNeed
  rw [hsb, if_neg Bool.false_ne_true, if_neg (by omega)]

/-- The next unit of a FILL takes one tag. -/
theorem Xfer.nextTags_fill (hsb : t.desc.sb = false) (hfailed : t.failed = false) (hovl : t.ovl = none) (hgrant : t.desc.grantOnly = false) (hissued : t.issued = false) :
    t.nextTags = some 1 := by
  unfold Xfer.nextTags
  dsimp only
  rw [if_neg (by simp [hfailed, hovl, hgrant, hissued]), Xfer.listNeed_fill hty hsb, if_neg (by omega), if_neg (by rw [hsb]; exact Bool.false_ne_true), hty]
  rfl

/-- The unit of a FILL reads nothing, and ends at the next 256 B boundary of its destination. -/
theorem Xfer.span_fill : t.span = (none, ((t.desc.dst + t.off : Nat) : Int), min (t.desc.len - t.off) (256 - (t.desc.dst + t.off) % 256)) := by
  have hlen : unitLen (t.desc.len - t.off) none (some (t.desc.dst + t.off)) = min (t.desc.len - t.off) (256 - (t.desc.dst + t.off) % 256) := by
    unfold unitLen
    dsimp only
    omega
  unfold Xfer.span
  dsimp only
  rw [hty]
  change (none, ((t.desc.dst + t.off : Nat) : Int), unitLen (t.desc.len - t.off) none (some (((t.desc.dst + t.off : Nat) : Int)).toNat)) = _
  rw [Int.toNat_natCast, hlen]

end

/-- An address within 48 bits is reached as R202 says. -/
theorem Dev.reachI_none {d : Dev} {k cw a n : Nat} {wr : Bool} (hends : a + n ≤ 2 ^ 48) (hreach : d.dmaReach k wr cw a n = none) : d.reachI k wr cw (a : Int) n = none := by
  unfold Dev.reachI
  rw [if_neg (by omega), Int.toNat_natCast, hreach]
  rfl

/-- A unit without reads goes into flight. -/
theorem Dev.launch_reads_none (d : Dev) (k : Nat) (t : Xfer) (f : Flight) (n : Nat) :
    d.launch k t [] f n = d.takeOff k (t.advance n) { f with
      data := f.data ++ [], hostSrc := [], host := 0, hostDst := if targetOf f.dst = .host then d.hostAddr (d.clientOf k) f.dst f.len true else none
      hostDev := 0, sent := (remoteOf k f.dst).isNone || t.credit == .granted } := rfl

/-- A cursor that moves on keeps the transfer's number and its flights. -/
theorem Xfer.advance_id (t : Xfer) (n : Nat) : (t.advance n).id = t.id := by
  unfold Xfer.advance
  split <;> rfl

theorem Xfer.advance_flights (t : Xfer) (n : Nat) : (t.advance n).flights = t.flights := by
  unfold Xfer.advance
  split <;> rfl

/-- A unit of a transfer whose cursor moves on with it goes into flight. -/
theorem Dev.takeOff_advance (d : Dev) (k : Nat) (t : Xfer) (n : Nat) (f : Flight) :
    d.takeOff k (t.advance n) f = (d.setCore k { d.core k with turn := t.id, sentN := (d.core k).sentN + 1 }).setXfer k
      { t.advance n with flights := t.flights ++ [{ f with seq := (d.core k).sentN, hostAt := d.tick }] } := by
  unfold Dev.takeOff
  dsimp only
  rw [Xfer.advance_id, Xfer.advance_flights]

/-- The bytes of a FILL's unit: its pattern, over and over. -/
def fillBytes (pattern n : Nat) : List Byte := (List.range n).map (fun j => (natLE 4 pattern).getD (j % 4) 0)

/-- The unit of a FILL that may write goes into flight. -/
theorem Dev.issueUnit_fill {d : Dev} {k : Nat} {t : Xfer} (hty : t.desc.ty = 5)
    (hends : t.desc.dst + t.off + min (t.desc.len - t.off) (256 - (t.desc.dst + t.off) % 256) ≤ 2 ^ 48)
    (hreach : d.dmaReach k true t.desc.cw (t.desc.dst + t.off) (min (t.desc.len - t.off) (256 - (t.desc.dst + t.off) % 256)) = none) :
    d.issueUnit k t = d.launch k t [] { Flight.of t.piece 0 (t.desc.dst + t.off) (min (t.desc.len - t.off) (256 - (t.desc.dst + t.off) % 256)) with
        data := fillBytes t.desc.src (min (t.desc.len - t.off) (256 - (t.desc.dst + t.off) % 256)) }
      (min (t.desc.len - t.off) (256 - (t.desc.dst + t.off) % 256)) := by
  unfold Dev.issueUnit
  rw [Xfer.span_fill hty]
  dsimp only
  rw [if_pos hty, if_neg (by omega), Option.bind_none, Option.none_or, Dev.reachI_none hends hreach, Int.toNat_natCast]
  dsimp only
  rw [length_natLE]
  rfl

/-! ### A chain unit goes on (R208, R211, R212) -/

theorem chainUnitForward_first {s : State} {k : Fin 512} {x : Nat} {t : Xfer} {h : Hop} (lands : Bool) (meet : Nat) (hx : (s.dev.core k).xfer x = some t)
    (hhop : t.hops[0]? = some h) :
    Claims.GivesDev (.chainUnitForward k x 1 lands meet) s (if lands then s.dev.chainLand k t 1 meet h else s.dev.chainSend k t 1 h) := by
  rw [Claims.GivesDev, exec_chainUnitForward, execChainUnitForward, onDev_next, hx]
  dsimp only
  rw [if_neg Nat.one_ne_zero, hhop]

/-- A unit that landed goes on to the hop that the core forwards to, with a tag of the core. -/
theorem Dev.chainSend_first {d : Dev} {k hop a : Nat} {t : Xfer} {h : Hop} {bs : List Byte} (hhop : hop ≤ 1) (hcredit : h.credit = .granted)
    (hunit : t.landed[h.forwarded + h.flying.length]? = some (a, bs)) (hfailed : t.failed = false) (hmay : ((d.core k).fwdQ.take 4).contains (k, t.id, hop) = true)
    (hsince : (d.core k).tagSince = none) (hfree : d.noTag k = false) (hreach : d.dmaReach k true t.desc.cw (coreAddr h.core (a % 2 ^ 24)) bs.length = none) :
    d.chainSend k t hop h = (d.setCore k { d.core k with sentN := (d.core k).sentN + 1, fwdTags := (d.core k).fwdTags + 1 }).setXfer k
      (t.setHop hop { h with flying := h.flying ++ [(d.core k).sentN] }) := by
  have hsender : t.hopSender k hop = k := if_pos hhop
  unfold Dev.chainSend
  simp only [hsender, if_pos hhop, List.take_length, hunit, hfailed, Bool.false_eq_true, if_false, hcredit, reduceCtorEq, hmay, Bool.true_eq_false, or_self, hfree, hreach,
    Dev.tagTaken_ready _ _ hsince]

end Sys2Proof.Machine
end

section
/-! SUPPORT. What the writes that land on a core leave of the device's registers, and the landing of a chain unit (R21, R66, R71, R202, R212). -/

namespace Sys2Proof.Machine

/-- The cores that a job leaves write no register of the device. -/
theorem Dev.freeCores_reg (d : Dev) (j o : Nat) : (d.freeCores j).reg o = d.reg o := by
  unfold Dev.freeCores
  exact Dev.each_keeps (fun d => d.reg o) _ (fun d k => (d.abortStage k).setCore k (((d.abortStage k).core k).endJob)) (fun d k => rfl) _

/-! ### Registers that no core's own work writes -/

section
variable {o : Nat} (ho : Steadfast o)
include ho

theorem Dev.emit_steadfast (d : Dev) (e : Ev) : (d.emit e).reg o = d.reg o := d.reg_emit e o ho.drops

theorem Dev.sramRecord_steadfast (d : Dev) (code src issuer holder gran : Nat) : (d.sramRecord code src issuer holder gran).reg o = d.reg o := by
  unfold Dev.sramRecord
  exact Dev.emit_steadfast ho _ _

theorem Dev.failCoreJob_steadfast (d : Dev) (k : Nat) : (d.failCoreJob k).reg o = d.reg o := by
  unfold Dev.failCoreJob
  split
  · exact d.failJob_reg _ ho
  · rfl

/-- An event that a core left for its sequencer. -/
theorem Dev.coreEv_steadfast (d : Dev) (k : Nat) (e : CoreEv) : (d.coreEv k e).reg o = d.reg o := by
  cases e with
  | wrap => exact Dev.emit_steadfast ho _ _
  | ringUnder r => exact Dev.emit_steadfast ho _ _
  | rmwUe g n =>
    cases n with
    | zero => exact (Dev.failCoreJob_steadfast ho _ _).trans (Dev.sramRecord_steadfast ho _ _ _ _ _ _)
    | succ n => exact (Dev.failCoreJob_steadfast ho _ _).trans (Dev.sramRecord_steadfast ho _ _ _ _ _ _)
  | drift slot ten sats elems => exact Dev.emit_steadfast ho _ _

theorem Dev.putCore_steadfast (d : Dev) (k : Nat) (c : Core) : (d.putCore k c).reg o = d.reg o :=
  Dev.each_keeps (fun d => d.reg o) _ _ (fun d e => d.coreEv_steadfast ho k e) _

theorem Dev.onCore_steadfast (d : Dev) (k : Nat) (f : Core → Core) : (d.onCore k f).reg o = d.reg o := d.putCore_steadfast ho k (f (d.core k))

theorem Dev.coreRecord_steadfast (d : Dev) (k code addr slot wait lr : Nat) : (d.coreRecord k code addr slot wait lr).reg o = d.reg o := Dev.emit_steadfast ho _ _

theorem Dev.coreStop_steadfast (d : Dev) (k code slot addr wait lr : Nat) : (d.coreStop k code slot addr wait lr).reg o = d.reg o := by
  unfold Dev.coreStop
  dsimp only
  rw [Dev.failCoreJob_steadfast ho]
  split
  · exact (Dev.sramRecord_steadfast ho _ _ _ _ _ _).trans (Dev.coreRecord_steadfast ho _ _ _ _ _ _ _)
  · exact Dev.coreRecord_steadfast ho _ _ _ _ _ _ _

/-! ### A write of a core's register (R66, R71, R76, R202) -/

theorem Dev.resetJob_steadfast (d : Dev) (j : Nat) : (d.resetJob j).reg o = d.reg o := by
  unfold Dev.resetJob
  split
  · rfl
  · rw [Dev.reg_of_jobsAndRegs (Dev.latchRelease_jobsAndRegs _ _ _) ho.drops]
    change ((((d.endPreempted j).dropImages j).breakRounds j).freeCores j).reg o = _
    exact (Dev.freeCores_reg _ j o).trans (d.endPreempted_reg j ho)

theorem Dev.coreResetReq_steadfast (d : Dev) (k : Nat) : (d.coreResetReq k).reg o = d.reg o := by
  unfold Dev.coreResetReq
  split
  · exact d.resetJob_steadfast ho _
  · rfl

theorem Dev.coreStart_steadfast (d : Dev) (k : Nat) : (d.coreStart k).reg o = d.reg o := by
  unfold Dev.coreStart
  dsimp only
  split
  · rfl
  split
  · rfl
  · exact Dev.coreRecord_steadfast ho _ _ _ _ _ _ _

theorem Dev.coreHalt_steadfast (d : Dev) (k : Nat) : (d.coreHalt k).reg o = d.reg o := by
  unfold Dev.coreHalt
  split
  · exact Dev.coreStop_steadfast ho _ _ _ _ _ _ _
  · rfl

theorem Dev.coreCtrl_steadfast (d : Dev) (k : Nat) (v : Word) : (d.coreCtrl k v).reg o = d.reg o := by
  unfold Dev.coreCtrl
  split
  · exact d.coreResetReq_steadfast ho k
  · have hstart : (if Fl.CORE_CTRL_START.on v then d.coreStart k else d).reg o = d.reg o := by
      split
      · exact d.coreStart_steadfast ho k
      · rfl
    dsimp only
    split
    · exact (Dev.coreHalt_steadfast ho _ k).trans hstart
    · exact hstart

theorem Dev.inject_steadfast (d : Dev) (k : Nat) : (d.inject k).reg o = d.reg o := by
  unfold Dev.inject
  dsimp only
  split
  · exact Dev.coreRecord_steadfast ho _ _ _ _ _ _ _
  · rfl

theorem Dev.coreRegWrite_steadfast (d : Dev) (k l : Nat) (v : Word) : (d.coreRegWrite k l v).reg o = d.reg o := by
  have hup (f : Core → Core) : (d.onCore k f).reg o = d.reg o := d.onCore_steadfast ho k f
  have hif (p : Prop) [Decidable p] {e e' : Dev} (he : e.reg o = d.reg o) (he' : e'.reg o = d.reg o) : (if p then e else e').reg o = d.reg o := by
    split
    · exact he
    · exact he'
  unfold Dev.coreRegWrite
  dsimp only
  refine hif _ (Dev.coreCtrl_steadfast ho _ k v) ?_
  refine hif _ (hif _ (hup _) rfl) ?_
  refine hif _ (hif _ (hup _) rfl) ?_
  refine hif _ (hif _ (hup _) rfl) ?_
  refine hif _ (hup _) ?_
  refine hif _ (hif _ (Dev.onCore_steadfast ho _ k _) rfl) ?_
  refine hif _ (hup _) ?_
  generalize List.find? (fun n => l == Off.MBX_IN n) (List.range 4) = mbx
  generalize List.find? (fun n => l == Off.STAT_CFG n) (List.range 8) = stat
  generalize List.find? _ (List.range 8) = win
  generalize List.find? _ (List.range 16) = ring
  cases mbx with
  | some n => exact hif _ ((Dev.inject_steadfast ho _ k).trans (hup _)) (hup _)
  | none =>
    cases stat with
    | some n => exact hup _
    | none =>
      cases win with
      | some w => exact hif _ (hup _) (hif _ (hup _) (hif _ (hup _) rfl))
      | none =>
        cases ring with
        | some r => exact hif _ (hup _) (hif _ (hup _) rfl)
        | none => exact hup _

/-- A write through a core's own window. -/
theorem Dev.windowWrite_steadfast (d : Dev) (k l : Nat) (v : Word) : (d.windowWrite k l v).reg o = d.reg o := by
  unfold Dev.windowWrite
  split
  · rfl
  split
  · exact d.coreRegWrite_steadfast ho k l _
  split
  · exact Dev.emit_steadfast ho _ _
  · rfl

end

end Sys2Proof.Machine
end

section
/-! SUPPORT. A chain unit lands at the next core of its cluster (R212, R213). -/

namespace Sys2Proof.Machine

/-- An address that names a memory or a register of core `c`, or nothing. -/
def InCore (c x : Nat) : Prop := (∃ l, targetOf x = .sram c l) ∨ (∃ l, targetOf x = .creg c l) ∨ targetOf x = .none

theorem coreAddr_bounds {c a : Nat} (hc : c < 512) (ha : a < 2 ^ 24) : 0x400000000000 ≤ coreAddr c a ∧ coreAddr c a < 0x400200000000 := by
  unfold coreAddr
  omega

theorem coreAddr_core {c a : Nat} (ha : a < 2 ^ 24) : (coreAddr c a - 0x400000000000) / 0x1000000 = c := by
  unfold coreAddr
  omega

/-- The addresses of a core. -/
theorem inCore_coreAddr {c a : Nat} (hc : c < 512) (ha : a < 2 ^ 24) : InCore c (coreAddr c a) := by
  obtain ⟨hlo, hhi⟩ := coreAddr_bounds hc ha
  have hcore := coreAddr_core (c := c) ha
  generalize coreAddr c a = x at hlo hhi hcore
  unfold InCore targetOf
  rw [if_neg (by unfold hbmSize; omega), if_pos ⟨hlo, hhi⟩]
  dsimp only
  rw [hcore]
  split
  · exact .inl ⟨_, rfl⟩
  split
  · exact .inr (.inl ⟨_, rfl⟩)
  · exact .inr (.inr rfl)

section
variable {k c x : Nat} (hin : InCore c x) (hcluster : clusterOf c = clusterOf k)
include hin hcluster

/-- What stays in a cluster's crossbar reaches no router (R18). -/
theorem Dev.coreTraffic_cluster (d : Dev) (out back : Nat) : d.coreTraffic k x out back = d := by
  unfold Dev.coreTraffic
  dsimp only
  rcases hin with ⟨l, h⟩ | ⟨l, h⟩ | h
  · rw [h]
    exact if_pos (by rw [hcluster])
  · rw [h]
    exact if_pos (by rw [hcluster])
  · rw [h]
    rfl

/-- A core of the cluster is cut off where the cluster's side is contained. -/
theorem Dev.cutOff_cluster (d : Dev) (hside : d.contained (sideOf k) = false) : d.cutOff k x = false := by
  have hsame : sideOf c = sideOf k := by
    unfold clusterOf at hcluster
    unfold sideOf
    omega
  unfold Dev.cutOff
  rcases hin with ⟨l, h⟩ | ⟨l, h⟩ | h
  · rw [h, hside]
    exact (congrArg d.contained hsame).trans hside
  · rw [h, hside]
    exact (congrArg d.contained hsame).trans hside
  · rw [h, hside]
    rfl

/-- What lands on a core of the cluster contains no side. -/
theorem Dev.dmaLand_cluster (d : Dev) (meet : Nat) (bs : List Byte) (side : Nat) : (d.dmaLand k meet none x bs).contained side = d.contained side := by
  have ho := steadfast_meshStatus side
  suffices hreg : (d.dmaLand k meet none x bs).reg ((Block.mesh side).base + Off.MESH_STATUS) = d.reg ((Block.mesh side).base + Off.MESH_STATUS) by
    unfold Dev.contained Dev.fld
    rw [hreg]
  unfold Dev.dmaLand
  dsimp only
  rw [Dev.coreTraffic_cluster hin hcluster]
  split
  · rfl
  rcases hin with ⟨l, h⟩ | ⟨l, h⟩ | h
  · rw [h]
    exact Dev.onCore_steadfast ho _ _ _
  · rw [h]
    exact Dev.each_keeps (fun d => d.reg ((Block.mesh side).base + Off.MESH_STATUS)) _ _ (fun d i => d.windowWrite_steadfast ho c _ _) d
  · rw [h]

/-- A core's own events contain no side either. -/
theorem Dev.landed_cluster (d : Dev) (meet : Nat) (bs : List Byte) (f : Core → Core) (hside : d.contained (sideOf k) = false) :
    ((d.dmaLand k meet none x bs).onCore k f).cutOff k x = false := by
  refine Dev.cutOff_cluster hin hcluster _ ?_
  rw [Dev.contained, Dev.fld, Dev.onCore_steadfast (steadfast_meshStatus _)]
  exact (Dev.dmaLand_cluster hin hcluster d meet bs _).trans hside

end

/-- The oldest unit on its way to a hop of the cluster lands there. -/
theorem Dev.chainLand_first {d : Dev} {k hop n a : Nat} {t : Xfer} {h : Hop} {later : List Nat} {bs : List Byte} (meet : Nat) (hhop : hop ≤ 1) (hk : k < 512)
    (hflying : h.flying = n :: later) (hunit : t.landed[h.forwarded]? = some (a, bs)) (hfailed : t.failed = false) (hperHop : t.desc.sigPerHop = false)
    (hcluster : clusterOf h.core = clusterOf k) (hside : d.contained (sideOf k) = false) (hway : d.underWay k n (destNode k (coreAddr h.core (a % 2 ^ 24))) = false) :
    d.chainLand k t hop meet h =
      let dst := coreAddr h.core (a % 2 ^ 24)
      let all := t.issued && t.flights.isEmpty && h.forwarded + 1 == t.landed.length
      let counted := d.setXfer k { t.setHop hop { h with forwarded := h.forwarded + 1, flying := later, signalled := all } with
          bufCores := (bufCore (dst, bs)).foldl addNum t.bufCores }
      let freed := counted.setCore k { counted.core k with fwdTags := (counted.core k).fwdTags - 1 }
      let landed := (freed.dmaLand k meet none dst bs).onCore k (fun c => c.bump Off.DMA_FWD_UNITS 1)
      let done := if all then landed.setCore k { landed.core k with fwdQ := (landed.core k).fwdQ.erase (k, t.id, hop) } else landed
      if h.forwarded = 0 ∧ hop < t.hops.length then
        done.setCore h.core { done.core h.core with fwdQ := (done.core h.core).fwdQ ++ [(k, t.id, hop + 1)] } else done := by
  have hsender : t.hopSender k hop = k := if_pos hhop
  have hcore : h.core < 512 := by
    unfold clusterOf at hcluster
    omega
  have hin := inCore_coreAddr (a := a % 2 ^ 24) hcore (Nat.mod_lt _ (by decide))
  unfold Dev.chainLand
  simp only [hsender, hflying, hunit, hway, Bool.false_eq_true, if_false, hfailed, Bool.not_false, Bool.and_true, hperHop, Bool.and_false]
  refine if_neg ?_
  rw [Dev.landed_cluster hin hcluster]
  · exact Bool.false_ne_true
  · exact hside

end Sys2Proof.Machine
end

section
/-! SUPPORT. The DMA engine: start, units, landing, overlay, chain and end of a transfer. -/

namespace Sys2Proof.Claims
open Sys2Proof Sys2Proof.Machine

/-- The segment of an overlay load that lands, from the core it leaves. -/
theorem overlayLanded {s : State} {k : Fin 512} {t : Xfer} {src seg cnt : Nat} {host bs : List Byte} (hoverlay : (s.dev.core k).overlay = some t)
    (hovl : t.ovl = some (src, seg, cnt)) (hlast : t.piece + 1 = cnt) (hg : seg + t.piece < 16)
    (hway : s.dev.underWay k (s.dev.core k).sentN (destNode k (src + 4096 * t.piece)) = false) (hreach : s.dev.dmaReach k false 0 (src + 4096 * t.piece) 4096 = none)
    (hue : s.dev.hbmUe = []) (hce : s.dev.hbmCe = []) (hout : (s.dev.core k).out = []) (hcalm : Calm s.dev)
    (hbytes : ((∃ side o, targetOf (src + 4096 * t.piece) = .hbm side o) ∧ bs = s.dev.hbm.read (src + 4096 * t.piece) 4096)
      ∨ (targetOf (src + 4096 * t.piece) = .host ∧ host.length = 4096 ∧ bs = host)) :
    Gives (.overlaySegmentLanded k host) s (fun u => (u.dev.core k).imem = (s.dev.core k).imem.write (4096 * (seg + t.piece)) bs
      ∧ (u.dev.core k).reg Off.IMEM_VALID = (s.dev.core k).reg Off.IMEM_VALID ||| wd (2 ^ (seg + t.piece))
      ∧ (u.dev.core k).imemBad = (s.dev.core k).imemBad.filter (fun b => b / 256 != seg + t.piece)
      ∧ (u.dev.core k).reg (Off.OVL_SRC_LO (seg + t.piece)) = lo32 (src + 4096 * t.piece) ∧ (u.dev.core k).reg (Off.OVL_SRC_HI (seg + t.piece)) = hi32 (src + 4096 * t.piece)
      ∧ (u.dev.core k).xfers.any (fun v => v.id == t.id) = false ∧ u.dev.hbm = s.dev.hbm) := by
  obtain ⟨u, hu, hhbm, hcore⟩ := overlaySegmentLanded_last hoverlay hovl hlast hway hreach hue hce hout hcalm hbytes
  have hsource := Core.segment_source ((s.dev.core k).segmentBegun (seg + t.piece) t) (g := seg + t.piece) (src + 4096 * t.piece) bs
  refine ⟨u, hu, ?_, ?_, ?_, ?_, ?_, ?_, hhbm⟩
  · rw [hcore, Core.segment_imem]
  · rw [hcore]
    exact Core.segment_valid _ hg t _ bs
  · rw [hcore, Core.segment_imemBad]
  · rw [hcore]
    exact hsource.1
  · rw [hcore]
    exact hsource.2
  · rw [hcore, List.any_eq_false]
    intro v hv
    have hne := (List.mem_filter.mp hv).2
    simpa using hne

/-- Settles O19: every command of the engine, clause by clause; what traffic and writes leave alone (`Dev.Moved`) gives the landings, and no write that lands on a core
of the cluster contains its side. -/
theorem dmaTransfers : Obligations.DmaTransfers := by
  unfold Obligations.DmaTransfers
  intro s k
  refine ⟨?_, ?_, ?_, ?_, ?_, ?_, ?_, ?_, ?_, ?_⟩
  · intro src seg cnt rest hq hroom hqueues hstate hside haligned t hreach
    exact dmaTransferStart_ovl hroom hqueues hstate hside hq haligned hreach
  · intro b a rest hq hroom hqueues hstate hside hinvalid hmisaligned hplain hty hnew t hranges
    have hself := Dev.begun_setXfer s.dev k (t := t) (t' := t) rest rfl hnew
    have hstart := Dev.startDesc_plain (t := t) (b := b) rfl hinvalid hmisaligned hplain hself hranges
    have hgrants := Dev.startGrants_plain (s.dev.begun k t rest) k (t := t) hplain hty
    have hdesc := dmaTransferStart_desc hroom hqueues hstate hside hq
    rw [hstart, hgrants, Dev.begun_setXfer s.dev k rest (by rfl) hnew] at hdesc
    exact hdesc
  · intro h
    exact dmaTransferStart_stays h
  · intro t src seg cnt host bs hoverlay hovl hlast a g hg hway hreach hue hce hout hcalm hbytes
    exact overlayLanded hoverlay hovl hlast hg hway hreach hue hce hout hcalm hbytes
  · intro x t hx hturn
    refine ⟨fun u htags hu hnone => dmaUnitIssue_waits hx hturn htags hu hnone, ?_⟩
    intro hfailed hovl hgrant hissued hsb hty hsince hfree a m hends hreach
    have hissue := dmaUnitIssue_issues hx hturn (Xfer.nextTags_fill hty hsb hfailed hovl hgrant hissued) Nat.one_ne_zero hfree hsince (Xfer.listNeed_fill hty hsb) hsb (by omega)
    rw [Dev.issueUnit_fill hty hends hreach, Dev.launch_reads_none, Dev.takeOff_advance, Core.xfer_id hx, List.append_nil] at hissue
    exact hissue
  · intro x t hx h
    exact dmaUnitIssue_stays hx h
  · intro x i meet t f side o hx hi hhost hlist hfailed hovl hplain hty3 hty4 hrecv hhops hway hsides hout htarget hreach hcalm hue hinject hunits
    exact dmaUnitComplete_hbm meet hx hi hhost hlist hfailed hovl hplain hty3 hty4 hrecv hhops hway hout htarget
      (Dev.Ready.of_dmaReach htarget hreach hsides hcalm hue hinject) hunits
  · intro x t h a bs meet hx hhop hcredit hunit hfailed hmay hsince hfree hreach
    have hforward := chainUnitForward_first false meet hx hhop
    rw [if_neg Bool.false_ne_true, Dev.chainSend_first (Nat.le_refl 1) hcredit hunit hfailed (by rw [Core.xfer_id hx]; exact hmay) hsince hfree hreach] at hforward
    exact hforward
  · intro x t h n later a bs meet hx hhop hflying hunit hfailed hperHop hcluster hside dst hway
    have hforward := chainUnitForward_first true meet hx hhop
    rw [if_pos rfl, Dev.chainLand_first meet (Nat.le_refl 1) k.isLt hflying hunit hfailed hperHop hcluster hside hway, Core.xfer_id hx] at hforward
    exact hforward
  · intro x t hx hfailed hovl hplain hissued hflights hhops hbuf hout hdone
    have hcomplete := dmaTransferComplete_plain hx hfailed hovl hplain hissued hflights hhops hbuf
    rw [Dev.finishXfer_plain hplain hout hdone, Core.xfer_id hx] at hcomplete
    exact hcomplete

end Sys2Proof.Claims
end

section
/-! SUPPORT. A matrix command that is still in the arrays after its last tile, with a tile of the next one read ahead (R96, R101). -/

namespace Sys2Proof.Machine

/-- An MM of one weight tile, which takes four array cycles (R80). -/
def MCmd.oneTileFourCycles : MCmd := ⟨.mm, 4, 1, 1, 1, 0, 0x400000, 0⟩

/-- A core at full level whose command in progress has no tile left; a tile is read ahead, and the next array cycle is the first of four. -/
def Core.pastLastTile : Core :=
  { Core.atReset with mu := [MCmd.oneTileFourCycles], muTile := MCmd.oneTileFourCycles.tiles, muFed := [⟨[], none⟩], muIdle := 0, muLevel := 4 }

/-- The array cycle that is not the last of its tile finds the command over, and the command leaves the arrays. -/
theorem Core.pastLastTile_cycle : (Core.pastLastTile.muCycle ⟨0, false, false⟩).1.mu = [] ∧ (Core.pastLastTile.muCycle ⟨0, false, false⟩).1.out = []
    ∧ (Core.pastLastTile.muCycle ⟨0, false, false⟩).2 = none := by
  decide +kernel

theorem Core.pastLastTile_ramps : Core.pastLastTile.rampDis = false := by decide +kernel

theorem Core.pastLastTile_fits :
    (Core.pastLastTile.reg Off.MU_ARRAY_CYC).toNat + 1 < 2 ^ 32 ∧ (Core.pastLastTile.reg Off.MU_RAMP_LOST).toNat + 1 < 2 ^ 32 := by
  decide +kernel

/-- A ramp step of one cycle that meets no error and leaves nothing to the sequencer: the core is as the cycle leaves it. -/
theorem exec_rampStepEnd_one {s : State} {k : Fin 512} {y : MuCyc} (hout : ((s.dev.core k).muCycle y).1.out = []) (hgood : ((s.dev.core k).muCycle y).2 = none) :
    exec (.rampStepEnd k [y]) s = .next { s with dev := s.dev.setCore k ((s.dev.core k).muCycle y).1 } := by
  have hexec : exec (.rampStepEnd k [y]) s =
      .next { s with dev := (s.dev.putCore k ((s.dev.core k).muCycle y).1).muStop k ((s.dev.core k).muCycle y).2 } := rfl
  rw [hexec, hgood, Dev.putCore_quiet _ _ _ hout]
  rfl

end Sys2Proof.Machine

namespace Sys2Proof.Claims
open Sys2Proof Sys2Proof.Machine

/-- A cycle of a core in that state takes its command out of the arrays. -/
theorem pastLastTile_leaves {s : State} {k : Fin 512} (hcore : s.dev.core k = Core.pastLastTile) :
    Gives (.rampStepEnd k [⟨0, false, false⟩]) s (fun t => (t.dev.core k).mu = []) := by
  obtain ⟨hleft, hout, hgood⟩ := Core.pastLastTile_cycle
  rw [← hcore] at hleft hout hgood
  refine ⟨_, exec_rampStepEnd_one hout hgood, ?_⟩
  dsimp only
  rw [Dev.core_setCore, if_pos rfl, hleft]

/-- Refutes O17: a core whose command in progress has no tile left (`muTile` is not below its `tiles`, which no premise of the third clause asks), with a tile read ahead
and four array cycles to a tile. The statement has the first of the four leave the command in progress; the model finds the command over and takes it out of the arrays. -/
theorem not_matrixUnit : ¬ Obligations.MatrixUnit := by
  unfold Obligations.MatrixUnit
  intro h
  obtain ⟨s, k, hcore⟩ : ∃ (s : State) (k : Fin 512), s.dev.core k = Core.pastLastTile :=
    ⟨{ State.reset with dev := Dev.atReset.setCore 0 Core.pastLastTile }, 0, (Dev.core_setCore _ _ _ _).trans (if_pos rfl)⟩
  obtain ⟨-, -, hwork, -, -⟩ := h s k
  dsimp only at hwork
  obtain ⟨harray, hlost⟩ := Core.pastLastTile_fits
  obtain ⟨t, ht, -, -, -, -, -, hstays, -⟩ := hwork MCmd.oneTileFourCycles [] false (hcore ▸ rfl) (hcore ▸ List.cons_ne_nil _ _) (hcore ▸ Core.pastLastTile_ramps)
    (hcore ▸ rfl) (hcore ▸ by decide) (hcore ▸ by decide) (hcore ▸ by decide) (hcore ▸ rfl) (hcore ▸ harray) (hcore ▸ hlost)
  obtain ⟨u, hu, hleft⟩ := pastLastTile_leaves hcore
  rw [ht] at hu
  injection hu with hsame
  rw [← hsame, hstays, hcore] at hleft
  cases hleft

end Sys2Proof.Claims
end

section
/-! SUPPORT. The lane operations of the vector engine as their bundles retire (R113, R115–R119): vector destinations with a counter, and masks. -/

namespace Sys2Proof.Machine

/-! ### Counters, and the lanes of a mask -/

/-- A counter raised by `n`, below its wrap. -/
theorem Core.reg_bumpIf (c : Core) (o n : Nat) (h : (c.reg o).toNat + n < 2 ^ 32) : ((c.bumpIf o n).reg o).toNat = (c.reg o).toNat + n := by
  unfold Core.bumpIf
  split
  · next h0 => rw [h0, Nat.add_zero]
  · rw [Core.bump_small _ _ _ h, Core.reg_setReg, if_pos rfl, wd, BitVec.toNat_ofNat]
    exact Nat.mod_eq_of_lt h

/-- The enabled lanes that satisfy `p`. -/
theorem Core.enabled_filter_eq (c : Core) (m : Nat) (p : Nat → Bool) :
    (c.enabled m).filter p = (List.range 16).filter (fun l => (c.m m).getLsbD l && p l) := by
  rw [Core.enabled, List.filter_filter, lanes]
  exact List.filter_congr fun _ _ => Bool.and_comm _ _

/-- No more than 16 lanes satisfy `p`. -/
theorem length_lanes_le (p : Nat → Bool) : ((List.range 16).filter p).length ≤ 16 := List.length_filter_le p (List.range 16)

/-- A clamp, by minimum and maximum. -/
theorem clampI_eq {lo hi : Int} (h : lo ≤ hi) (x : Int) : clampI lo hi x = max lo (min hi x) := by
  unfold clampI
  split_ifs <;> omega

/-- The bits of a number that was put together bit by bit, from the lowest. -/
theorem testBit_foldl_bits (p : Nat → Bool) (n : Nat) :
    (List.range n).foldl (fun x l => if p l then x + 2 ^ l else x) 0 < 2 ^ n
    ∧ ∀ l, l < n → ((List.range n).foldl (fun x l => if p l then x + 2 ^ l else x) 0).testBit l = p l := by
  induction n with
  | zero => exact ⟨Nat.two_pow_pos 0, nofun⟩
  | succ n ih =>
    obtain ⟨hlt, hbits⟩ := ih
    rw [List.range_succ, List.foldl_append, List.foldl_cons, List.foldl_nil]
    generalize (List.range n).foldl (fun x l => if p l then x + 2 ^ l else x) 0 = x at hlt hbits
    refine ⟨by rw [Nat.pow_succ]; split <;> omega, fun l hl => ?_⟩
    rcases Nat.lt_succ_iff_lt_or_eq.mp hl with hlow | rfl
    · split
      · rw [Nat.add_comm, Nat.testBit_two_pow_add_gt hlow, hbits l hlow]
      · exact hbits l hlow
    · cases hp : p l with
      | true => rw [if_pos rfl, Nat.add_comm, Nat.testBit_two_pow_add_eq, Nat.testBit_lt_two_pow hlt, Bool.not_false]
      | false => rw [if_neg (by decide), Nat.testBit_lt_two_pow hlt]

/-- The lanes of a mask made from a predicate. -/
theorem maskOf_getLsbD (p : Nat → Bool) {l : Nat} (hl : l < 16) : (maskOf p).getLsbD l = p l := by
  rw [maskOf, BitVec.getLsbD_ofNat, decide_eq_true hl, Bool.true_and]
  exact (testBit_foldl_bits p 16).2 l hl

/-- The lanes of a mask destination under M and Z, where it is not m0 (R112, R113). -/
theorem putMask_getLsbD (c : Core) (g : VM) {md : Nat} (hmd : md ≠ 0) (p : Nat → Bool) (cur : Core) {l : Nat} (hl : l < 16) :
    ((putMask c g.m g.z md p cur).m md).getLsbD l = if (c.m g.m).getLsbD l then p l else !g.z && (cur.m md).getLsbD l := by
  rw [putMask, Core.m_setM, if_pos ⟨rfl, hmd⟩, maskOf_getLsbD _ hl]
  cases g.z <;> rfl

end Sys2Proof.Machine

namespace Sys2Proof.Claims
open Sys2Proof Sys2Proof.Machine

/-! ### A vector destination -/

/-- The registers of a core whose lanes `vd` were written under M and Z. -/
theorem lanes_written {x c : Core} {g : VM} {vd : Nat} {p : Nat → Word} (h : x.vregs = laneTab vd (laneWrite c g p) lanes c.vregs) :
    (∀ l, l < 16 → x.v vd l = if (c.m g.m).getLsbD l then p l else masked g (c.v vd l)) ∧ ∀ r l, l < 16 → r ≠ vd → x.v r l = c.v r l := by
  refine ⟨fun l hl => ?_, fun r l hl hr => (Core.v_of_laneTab h r hl).trans (if_neg hr)⟩
  rw [Core.v_of_laneTab h vd hl, if_pos rfl, laneWrite_getD]
  rfl

/-- What a V slot that writes the lanes of `vd` and adds `n` to the counter `o` leaves of core `k`: all but them is as of a retired bundle. -/
structure LanesCounted (s t : State) (k : Nat) (i : Instr) (g : VM) (vd : Nat) (p : Nat → Word) (o n : Nat) : Prop where
  only : OnlyCore s t k
  written : ∀ l, l < 16 → (t.dev.core k).v vd l = if ((s.dev.core k).m g.m).getLsbD l then p l else masked g ((s.dev.core k).v vd l)
  others : ∀ r l, l < 16 → r ≠ vd → (t.dev.core k).v r l = (s.dev.core k).v r l
  counter : ((t.dev.core k).reg o).toNat = ((s.dev.core k).reg o).toNat + n
  regs : ∀ j, j ≠ o → j ≠ Off.CORE_STATUS → (t.dev.core k).reg j = (s.dev.core k).reg j
  rest : { t.dev.core k with vregs := (s.dev.core k).vregs, regs := (s.dev.core k).regs } =
    { retire s k i (s.dev.core k) ((s.dev.core k).pc + 1) 1 with regs := (s.dev.core k).regs }

/-- Tables, scalar registers, masks, memories and gather buffer stay, and the PC moves on. -/
theorem LanesCounted.frame {s t : State} {k : Nat} {i : Instr} {g : VM} {vd : Nat} {p : Nat → Word} {o n : Nat} (h : LanesCounted s t k i g vd p o n) :
    (t.dev.core k).luts = (s.dev.core k).luts ∧ (t.dev.core k).sregs = (s.dev.core k).sregs ∧ (t.dev.core k).mregs = (s.dev.core k).mregs
    ∧ (t.dev.core k).mem = (s.dev.core k).mem ∧ (t.dev.core k).gb = (s.dev.core k).gb ∧ (t.dev.core k).pc = (s.dev.core k).pc + 1 := by
  have hluts := congrArg Core.luts h.rest
  have hsregs := congrArg Core.sregs h.rest
  have hmregs := congrArg Core.mregs h.rest
  have hmem := congrArg Core.mem h.rest
  have hgb := congrArg Core.gb h.rest
  have hpc := congrArg Core.pc h.rest
  exact ⟨hluts, hsregs, hmregs, hmem, hgb, hpc⟩

section
variable {i : Instr} {s : State} {b : Bun} {n : Nat} {op : SlotOp} (h : IsSlot i b n op) (hm : b.more = false) (hci : CanIssue s.dev b.core i) {g : VM} {vd : Nat}
  {p : Nat → Word}
include h hm hci

/-- A V slot that writes a vector register and nothing else. -/
theorem gives_putVec (hrun : op.run (s.dev.bundleDev b.core) (s.dev.core b.core) = .ok (putVec (s.dev.core b.core) g.m g.z vd p) none) :
    Gives i s (fun t => OnlyCore s t b.core ∧ t.dev.core b.core = retire s b.core i
      { s.dev.core b.core with vregs := laneTab vd (laneWrite (s.dev.core b.core) g p) lanes (s.dev.core b.core).vregs } ((s.dev.core b.core).pc + 1) 1) :=
  gives_retire_quiet h hm hci hrun (putVec_eq _ _ _ _ _) rfl rfl rfl

/-- A V slot that writes a vector register and raises a counter. -/
theorem gives_lanesCounted {o count : Nat} (hdbg : Off.DBG_CTRL ≠ o) (hstatus : o ≠ Off.CORE_STATUS)
    (hcount : ((s.dev.core b.core).reg o).toNat + count < 2 ^ 32) {upd : Core → Core}
    (hrun : op.run (s.dev.bundleDev b.core) (s.dev.core b.core) = .ok upd none)
    (hupd : upd (s.dev.core b.core).newCycle = (putVec (s.dev.core b.core) g.m g.z vd p (s.dev.core b.core).newCycle).bumpIf o count) :
    Gives i s (fun t => LanesCounted s t b.core i g vd p o count) := by
  obtain ⟨r, hr, hbump⟩ := bumpIf_regs (s.dev.core b.core) o count hcount
  have ho : (Tab.get (coreRegReset o) r o).toNat = ((s.dev.core b.core).reg o).toNat + count := by
    rw [← Core.reg_bumpIf _ _ _ hcount, hbump (s.dev.core b.core) rfl]
    rfl
  have hstep : Fl.DBG_CTRL_SSTEP.get (Tab.get (coreRegReset Off.DBG_CTRL) r Off.DBG_CTRL) ≠ 1 := by
    rw [hr _ hdbg]
    exact hci.noStep
  rw [putVec_eq] at hupd
  obtain ⟨t, he, honly, hcore⟩ := gives_retire h hm hci hrun (x := { s.dev.core b.core with
      regs := r
      vregs := laneTab vd (laneWrite (s.dev.core b.core) g p) lanes (s.dev.core b.core).vregs }) (hupd.trans (hbump _ rfl)) hci.quiet hstep hci.noPpt
  obtain ⟨hwritten, hothers⟩ := lanes_written (x := t.dev.core b.core) (by rw [hcore]; rfl)
  have hregs (j : Nat) (hj : j ≠ Off.CORE_STATUS) : (t.dev.core b.core).reg j = Tab.get (coreRegReset j) r j := by
    rw [hcore]
    exact (Core.reg_setFld _ _ _ _ _).trans (if_neg hj)
  exact ⟨t, he, honly, hwritten, hothers, by rw [hregs o hstatus, ho], fun j hj hjs => by rw [hregs j hjs, hr j hj], by rw [hcore]; rfl⟩

/-- A V slot that writes a mask and nothing else (R113). -/
theorem gives_putMask {md : Nat} {q : Nat → Bool} (hrun : op.run (s.dev.bundleDev b.core) (s.dev.core b.core) = .ok (putMask (s.dev.core b.core) g.m g.z md q) none) :
    Gives i s (fun t => OnlyCore s t b.core
      ∧ (∀ l, l < 16 → md ≠ 0 → ((t.dev.core b.core).m md).getLsbD l =
          if ((s.dev.core b.core).m g.m).getLsbD l then q l else !g.z && ((s.dev.core b.core).m md).getLsbD l)
      ∧ (∀ r, r ≠ md → (t.dev.core b.core).m r = (s.dev.core b.core).m r)
      ∧ { t.dev.core b.core with mregs := (s.dev.core b.core).mregs } = retire s b.core i (s.dev.core b.core) ((s.dev.core b.core).pc + 1) 1) := by
  have hcycle : putMask (s.dev.core b.core) g.m g.z md q (s.dev.core b.core).newCycle =
      (putMask (s.dev.core b.core) g.m g.z md q (s.dev.core b.core)).inCycleOf (s.dev.core b.core) := by
    unfold putMask Core.setM
    split <;> rfl
  obtain ⟨t, he, honly, hcore⟩ := gives_retire_quiet h hm hci hrun hcycle (Core.setM_regs _ _ _) (Core.setM_out _ _ _) (Core.setM_pptEntry _ _ _)
  refine ⟨t, he, honly, fun l hl hmd => ?_, fun r hr => ?_, ?_⟩
  · rw [hcore]
    exact putMask_getLsbD _ _ hmd _ _ hl
  · rw [hcore]
    exact (Core.m_setM _ _ _ _).trans (if_neg fun hrm => hr hrm.1)
  · rw [hcore]
    unfold putMask Core.setM
    split <;> rfl

end

/-! ### Lane-wise operations (O2) -/

/-- A form that sets a field its operation does not use, or names no pattern, is a V slot that faults. -/
theorem unusedField_slot {i : Instr} {b : Bun} (h : unusedField i = some b) : ∃ op, IsSlot i b 2 op ∧ ∀ d c, op.run d c = .fault cILLEGAL 0 := by
  cases i with
  | vclamp b' g vd va vb vc =>
    cases vb with
    | vec r => cases h
    | scal r =>
      have hvc : vc ≠ 0 := by
        rintro rfl
        cases h
      obtain rfl : b' = b := Option.some.inj ((if_neg hvc).symm.trans h)
      exact ⟨_, ⟨⟨_, _, rfl⟩, rfl⟩, fun _ _ => if_pos fun hval => hvc (Fin.ext hval)⟩
  | vpermi b' g vd va pat n =>
    have hform : 5 ≤ pat.val ∨ (n ≠ 0 ∧ pat ≠ 1 ∧ pat ≠ 3) := by
      by_contra hno
      rw [unusedField, if_neg hno] at h
      cases h
    obtain rfl : b' = b := Option.some.inj ((if_pos hform).symm.trans h)
    refine ⟨_, ⟨⟨_, _, rfl⟩, rfl⟩, fun _ _ => if_pos (hform.imp_right fun ⟨hn, h1, h3⟩ => ?_)⟩
    exact ⟨fun hval => hn (Fin.ext hval), fun hval => h1 (Fin.ext hval), fun hval => h3 (Fin.ext hval)⟩
  | _ => cases h

/-- Settles O2: each row's operation is a write of its lanes (`laneResult_slot`), and a bundle of one such slot retires with that write alone; the other forms fault. -/
theorem Settled.laneResult : Obligations.LaneResult := by
  unfold Obligations.LaneResult
  refine ⟨fun i s b g vd f h hm hci => ?_, fun i s b h hm hci => ?_⟩
  · obtain ⟨op, p, hop, -, hrun, hval⟩ := laneResult_slot h
    obtain ⟨t, he, honly, hcore⟩ := gives_putVec hop hm hci (hrun _ _)
    obtain ⟨hwritten, hothers⟩ := lanes_written (x := t.dev.core b.core) (by rw [hcore]; rfl)
    exact ⟨t, he, honly, fun l hl => by rw [hwritten l hl, hval _ l hl], hothers, by rw [hcore]; rfl⟩
  · obtain ⟨op, hop, hrun⟩ := unusedField_slot h
    obtain ⟨t, he, hstate, hcause, hslot, -, -, hv, -⟩ := stops_of_fault hop hm (by decide) (by decide) hci (hrun _ _)
    exact ⟨t, he, hstate, hv, hcause, hslot⟩

/-! ### Saturating operations, compares and mask operations (O3) -/

/-- A value outside ±(2^31 − 1) is one that the clamp changes. -/
theorem outside_eq_ne_sat (x : Int) : (decide (x < -(2 ^ 31 - 1)) || decide (2 ^ 31 - 1 < x)) = (x != sat x) := by
  rw [Bool.eq_iff_iff]
  simp only [Bool.or_eq_true, decide_eq_true_eq, bne_iff_ne, sat]
  omega

/-- What a saturating operation does to the core: it writes its clamped lanes, and counts those that the clamp changed. -/
theorem vSat_eq (g : VM) (vd : Nat) (f : Core → Nat → Int) (c : Core) : vSat g vd f c = .ok (fun cur =>
    (putVec c g.m g.z vd (fun l => wi (sat (f c l))) cur).bumpIf Off.VE_SAT
      ((List.range 16).filter (fun l => (c.m g.m).getLsbD l && f c l != sat (f c l))).length) none := by
  simp only [vSat, clampI_eq_sat, Core.enabled_filter_eq, outside_eq_ne_sat]

/-- What each saturating operation is to its bundle: the V slot, with the exact value of its row. -/
theorem exactResult_slot {i : Instr} {b : Bun} {g : VM} {vd : Nat} {f : Core → Nat → Int} (h : exactResult i = some (b, g, vd, f)) :
    ∃ op, IsSlot i b 2 op ∧ ∀ d c, op.run d c = vSat g vd f c := by
  cases i with
  | vadds | vsubs | vmacs =>
    cases h
    rw [second_eq]
    exact ⟨_, ⟨⟨_, _, rfl⟩, rfl⟩, fun _ _ => rfl⟩
  | vneg =>
    cases h
    exact ⟨_, ⟨⟨_, _, rfl⟩, rfl⟩, fun _ _ => rfl⟩
  | vabs =>
    cases h
    simp only [Int.abs_eq_natAbs]
    exact ⟨_, ⟨⟨_, _, rfl⟩, rfl⟩, fun _ _ => rfl⟩
  | _ => cases h

/-- What each compare and mask operation is to its bundle: the V slot, with the mask bit of its row. -/
theorem maskResult_slot {i : Instr} {b : Bun} {g : VM} {md : Nat} {f : Core → Nat → Bool} (h : maskResult i = some (b, g, md, f)) :
    ∃ op, IsSlot i b 2 op ∧ ∀ d c, op.run d c = vCmp g md f c := by
  have heq (x y : Word) : (x == y) = decide (x.toInt = y.toInt) := by
    rw [Bool.eq_iff_iff, beq_iff_eq, decide_eq_true_eq, BitVec.toInt_inj]
  have hne (x y : Word) : (x != y) = decide (x.toInt ≠ y.toInt) := by
    rw [bne, heq, decide_not]
  cases i with
  | vcmpeq | vcmpne =>
    cases h
    simp only [second_eq, heq, hne]
    exact ⟨_, ⟨⟨_, _, rfl⟩, rfl⟩, fun _ _ => rfl⟩
  | vcmplt | vcmple | vcmpgt | vcmpge =>
    cases h
    rw [second_eq]
    exact ⟨_, ⟨⟨_, _, rfl⟩, rfl⟩, fun _ _ => rfl⟩
  | mand | mor | mxor | mandn | mnot | mset =>
    cases h
    exact ⟨_, ⟨⟨_, _, rfl⟩, rfl⟩, fun _ _ => rfl⟩
  | _ => cases h

/-- Settles O3: the saturating operations write clamped lanes and count in VE_SAT (`vSat_eq`); the compares, the mask operations and MLOW write a mask (`gives_putMask`). -/
theorem saturationAndMasks : Obligations.SaturationAndMasks := by
  unfold Obligations.SaturationAndMasks
  refine ⟨fun i s b g vd f h hm hci hsat => ?_, fun i s b g md f h hm hci => ?_, fun s b g md n hn hm hci => ?_⟩
  · obtain ⟨op, hop, hrun⟩ := exactResult_slot h
    have hcount := Nat.add_le_add_left (length_lanes_le (fun l => ((s.dev.core b.core).m g.m).getLsbD l && f (s.dev.core b.core) l != sat (f (s.dev.core b.core) l)))
      ((s.dev.core b.core).reg Off.VE_SAT).toNat
    obtain ⟨t, he, hl⟩ := gives_lanesCounted hop hm hci (by decide) (by decide) (hcount.trans_lt hsat) ((hrun _ _).trans (vSat_eq g vd f _)) rfl
    obtain ⟨-, hsregs, hmregs, hmem, -, hpc⟩ := hl.frame
    exact ⟨t, he, hl.only, hl.written, hl.others, hl.counter, hl.regs, hsregs, hmregs, hmem, hpc⟩
  · obtain ⟨op, hop, hrun⟩ := maskResult_slot h
    obtain ⟨t, he, honly, hmask, hothers, hrest⟩ := gives_putMask hop hm hci (hrun _ _)
    exact ⟨t, he, honly, hmask, hothers, rfl, hrest⟩
  · have hrun : (opMlow g md n).run (s.dev.bundleDev b.core) (s.dev.core b.core) = .ok (putMask (s.dev.core b.core) g.m g.z md (fun l => decide (l < n.val))) none :=
      if_neg (not_lt.mpr hn)
    obtain ⟨t, he, honly, hmask, -⟩ := gives_putMask (n := 2) ⟨⟨_, _, rfl⟩, rfl⟩ hm hci hrun
    exact ⟨t, he, honly, fun l hl hmd => hmask l hl fun hval => hmd (Fin.ext hval)⟩

end Sys2Proof.Claims
end

section
/-! SUPPORT. Lookup tables and requantisation (R132–R135). -/

namespace Sys2Proof.Machine

/-! ### Writes of several entries of a table -/

/-- A table after the entry `key x` was written with `val x` for every `x` of a list, in order. -/
def Tab.setEach {α β : Type} [DecidableEq α] (d : α) (key : β → Nat) (val : β → α) (xs : List β) (t : Tab α) : Tab α :=
  xs.foldl (fun t x => Tab.set d t (key x) (val x)) t

/-- An entry that is none of those written. -/
theorem Tab.get_setEach_out {α β : Type} [DecidableEq α] (d : α) (key : β → Nat) (val : β → α) (xs : List β) (t : Tab α) {k : Nat} (h : ∀ x ∈ xs, k ≠ key x) :
    Tab.get d (Tab.setEach d key val xs t) k = Tab.get d t k := by
  induction xs generalizing t with
  | nil => rfl
  | cons x xs ih =>
    exact (ih _ fun y hy => h y (List.mem_cons_of_mem x hy)).trans (Tab.get_set_ne _ _ _ _ (h x List.mem_cons_self))

/-- An entry written, where no two of those written share a key. -/
theorem Tab.get_setEach_in {α β : Type} [DecidableEq α] (d : α) {key : β → Nat} (hkey : Function.Injective key) (val : β → α) (xs : List β) (t : Tab α) {x : β}
    (h : x ∈ xs) : Tab.get d (Tab.setEach d key val xs t) (key x) = val x := by
  induction xs generalizing t with
  | nil => cases h
  | cons y xs ih =>
    by_cases hx : x ∈ xs
    · exact ih _ hx
    · obtain rfl : x = y := (List.mem_cons.mp h).resolve_right hx
      refine (Tab.get_setEach_out d key val xs _ fun z hz he => hx ?_).trans (Tab.get_set_same _ _ _ _)
      rwa [hkey he]

/-- A row of table writes. -/
theorem foldl_setLut (t b : Nat) (f : Nat → BitVec 16) (ls : List Nat) (cur : Core) :
    ls.foldl (fun cur l => cur.setLut t (b + l) (f l)) cur = { cur with luts := Tab.setEach 0 (fun l => 256 * t + (b + l)) f ls cur.luts } := by
  induction ls generalizing cur with
  | nil => rfl
  | cons l ls ih => exact ih _

/-! ### One lane of VLUT (R132) -/

/-- The clamp to 16 bits. -/
def clamp16 (y : Int) : Int := max (-32768) (min 32767 y)

/-- The entry of a table that VLUT reads, the last one standing for the one after it. -/
def lutEntry (c : Core) (t n : Nat) : Int := (c.lut t (min n 255)).toInt

/-- A clamped input reads one of the 256 entries. -/
theorem clamp16_index_le (y : Int) : (clamp16 y + 32768).toNat / 256 ≤ 255 := by
  unfold clamp16
  omega

/-- What VLUT makes of a shifted input `y`: the interpolation at the clamped input, and whether it was clamped. -/
theorem lutLane_eq (c : Core) (t h : Nat) (x : Word) {y : Int} (hy : y = x.toInt / (2 ^ h : Nat)) {u : Nat} (hu : u = (clamp16 y + 32768).toNat) :
    lutLane c t h x = (BitVec.ofInt 32 (lutEntry c t (u / 256) + rneDiv ((lutEntry c t (u / 256 + 1) - lutEntry c t (u / 256)) * (u % 256 : Nat)) 256),
      y != clamp16 y) := by
  have hlast : min (u / 256) 255 = u / 256 := Nat.min_eq_left (hu ▸ clamp16_index_le y)
  have hclamp : clampI (-32768) 32767 y = clamp16 y := clampI_eq (by decide) y
  simp only [lutLane, ← hy, hclamp, ← hu, lutEntry, hlast, bne_comm (a := y)]
  rfl

/-! ### One lane of REQ (R135) -/

/-- The least value of an output format bounds the greatest. -/
theorem reqHi_eq (out : Nat) : reqHi out = -reqLo out - 1 ∧ reqLo out ≤ reqHi out := by
  unfold reqHi reqLo
  split_ifs <;> decide

/-- What REQ makes of a lane. -/
theorem reqLane_eq (out n : Nat) (x : Word) : reqLane out n x =
    (max (reqLo out) (min (-reqLo out - 1) (rneShift x.toInt n)), rneShift x.toInt n != max (reqLo out) (min (-reqLo out - 1) (rneShift x.toInt n))) := by
  obtain ⟨hhi, hle⟩ := reqHi_eq out
  rw [reqLane, clampI_eq hle, hhi, bne_comm]

/-- The shift of a lane, by the source that SRC names (R134). -/
def reqShift (c : Core) (f : ReqF) (vb ss l : Nat) : Nat :=
  if f.src.val = 0 then f.shift.val else if f.src.val = 1 then (c.s ss).toNat % 32 else (c.v vb l).toNat % 32

/-- A reserved source or format, or a statistics slot that STAT does not allow (R134). -/
def reqReserved (f : ReqF) (vc : Nat) : Prop := f.src.val = 3 ∨ f.out.val = 3 ∨ (f.stat = true ∧ 8 ≤ vc) ∨ (f.stat = false ∧ vc ≠ 0)

/-- A field that SRC does not use is not 0 (R115). -/
def reqUnused (f : ReqF) (vb ss : Nat) : Prop := (f.src.val ≠ 0 ∧ f.shift.val ≠ 0) ∨ (f.src.val ≠ 1 ∧ ss ≠ 0) ∨ (f.src.val ≠ 2 ∧ vb ≠ 0)

theorem vReq_illegal (g : VM) (vd va : Nat) {vb vc ss : Nat} {f : ReqF} (c : Core) (h : reqReserved f vc ∨ reqUnused f vb ss) :
    vReq g vd va vb vc ss f c = .fault cILLEGAL 0 := by
  unfold reqReserved reqUnused at h
  unfold vReq
  by_cases hres : f.src.val = 3 ∨ f.out.val = 3 ∨ (f.stat ∧ vc ≥ 8) ∨ (¬ f.stat ∧ vc ≠ 0)
  · exact if_pos hres
  · rw [Bool.not_eq_true] at hres
    exact (if_neg (by rwa [Bool.not_eq_true])).trans (if_pos (h.resolve_left hres))

/-- What REQ without statistics does to the core: it writes its clamped lanes, and counts those that the clamp changed. -/
theorem vReq_eq (g : VM) (vd va : Nat) {vb ss : Nat} {f : ReqF} (c : Core) (hstat : f.stat = false) (hres : ¬reqReserved f 0) (hused : ¬reqUnused f vb ss) :
    vReq g vd va vb 0 ss f c = .ok (fun cur => (putVec c g.m g.z vd (fun l => wi (reqLane f.out (reqShift c f vb ss l) (c.v va l)).1) cur).bumpIf Off.VE_SAT
      ((List.range 16).filter (fun l => (c.m g.m).getLsbD l && (reqLane f.out (reqShift c f vb ss l) (c.v va l)).2)).length) none := by
  unfold reqReserved at hres
  rw [← Bool.not_eq_true] at hres
  rw [← Core.enabled_filter_eq]
  refine (if_neg hres).trans ((if_neg hused).trans ?_)
  simp only [hstat, Bool.false_eq_true, if_false]
  rfl

end Sys2Proof.Machine

namespace Sys2Proof.Claims
open Sys2Proof Sys2Proof.Machine

/-! ### VLUT, VLUTST and REQ (O8) -/

section
variable {s : State} {b : Bun} (hm : b.more = false)
include hm

/-- VLUT writes the interpolated lanes and counts the clamped inputs. -/
theorem gives_vlut (g : VM) (vd va h : Fin 32) (tb : Fin 4) (hci : CanIssue s.dev b.core (.vlut b g vd va tb h))
    (hcount : ((s.dev.core b.core).reg Off.VE_LUT_CLAMP).toNat + 16 < 2 ^ 32) :
    Gives (.vlut b g vd va tb h) s (fun t => LanesCounted s t b.core (.vlut b g vd va tb h) g vd
      (fun l => (lutLane (s.dev.core b.core) tb h ((s.dev.core b.core).v va l)).1) Off.VE_LUT_CLAMP
      ((List.range 16).filter (fun l => ((s.dev.core b.core).m g.m).getLsbD l && (lutLane (s.dev.core b.core) tb h ((s.dev.core b.core).v va l)).2)).length) := by
  refine gives_lanesCounted (n := 2) ⟨⟨_, _, rfl⟩, rfl⟩ hm hci (by decide) (by decide) ((Nat.add_le_add_left (length_lanes_le _) _).trans_lt hcount) rfl ?_
  rw [← Core.enabled_filter_eq]

/-- VLUTST writes the entries of its enabled lanes and nothing else. -/
theorem gives_vlutst (m : Fin 8) (va : Fin 32) (tb : Fin 4) (j : Fin 16) (hci : CanIssue s.dev b.core (.vlutst b m va tb j)) :
    Gives (.vlutst b m va tb j) s (fun t => OnlyCore s t b.core ∧ t.dev.core b.core = retire s b.core (.vlutst b m va tb j)
      { s.dev.core b.core with luts := (Tab.setEach 0 (fun l => 256 * tb.val + (16 * j.val + l)) (fun l => ((s.dev.core b.core).v va l).truncate 16)
          ((s.dev.core b.core).enabled m) (s.dev.core b.core).luts) } ((s.dev.core b.core).pc + 1) 1) :=
  gives_retire_quiet (n := 2) ⟨⟨_, _, rfl⟩, rfl⟩ hm hci rfl (foldl_setLut _ _ _ _ _) rfl rfl rfl

/-- REQ without statistics writes its clamped lanes and counts those that the clamp changed. -/
theorem gives_req (g : VM) (vd va vb ss : Fin 32) (f : ReqF) (hstat : f.stat = false) (hres : ¬reqReserved f 0) (hused : ¬reqUnused f vb ss)
    (hci : CanIssue s.dev b.core (.req b g vd va vb 0 ss f)) (hcount : ((s.dev.core b.core).reg Off.VE_SAT).toNat + 16 < 2 ^ 32) :
    Gives (.req b g vd va vb 0 ss f) s (fun t => LanesCounted s t b.core (.req b g vd va vb 0 ss f) g vd
      (fun l => wi (reqLane f.out (reqShift (s.dev.core b.core) f vb ss l) ((s.dev.core b.core).v va l)).1) Off.VE_SAT
      ((List.range 16).filter (fun l => ((s.dev.core b.core).m g.m).getLsbD l
        && (reqLane f.out (reqShift (s.dev.core b.core) f vb ss l) ((s.dev.core b.core).v va l)).2)).length) :=
  gives_lanesCounted (n := 2) ⟨⟨_, _, rfl⟩, rfl⟩ hm hci (by decide) (by decide) ((Nat.add_le_add_left (length_lanes_le _) _).trans_lt hcount)
    (vReq_eq g vd va _ hstat hres hused) rfl

end

/-- Settles O8: VLUT by `lutLane_eq`, VLUTST by the entries it writes, REQ by `reqLane_eq`, and its forms that are illegal by the checks of `vReq_illegal`. -/
theorem tablesAndRequantise : Obligations.TablesAndRequantise := by
  unfold Obligations.TablesAndRequantise
  refine ⟨fun s b g vd va h tb j hm => ⟨fun hcount hci => ?vlut, fun hci => ?vlutst⟩,
    fun s b g vd va vb ss f hm => ⟨fun hsrc hout hstat hshift hss hvb hcount hci => ?req, fun vc hbad hci => ?illegal⟩⟩
  case vlut =>
    obtain ⟨t, he, hl⟩ := gives_vlut hm g vd va h tb hci hcount
    obtain ⟨hluts, hsregs, -, -, -, hpc⟩ := hl.frame
    have hlane (l : Nat) := lutLane_eq (s.dev.core b.core) tb h ((s.dev.core b.core).v va l) rfl rfl
    refine ⟨t, he, hl.only, fun l hlt => ?_, ?_, hluts, hsregs, hpc⟩
    · rw [hl.written l hlt, hlane l]
      rfl
    · rw [hl.counter]
      simp only [hlane]
      rfl
  case vlutst =>
    obtain ⟨t, he, honly, hcore⟩ := gives_vlutst hm g.m va tb j hci
    refine ⟨t, he, honly, fun l hl hen => ?_, fun n q hn hq hout => ?_, by rw [hcore]; rfl⟩
    · rw [hcore, BitVec.ofNat_toNat]
      refine Tab.get_setEach_in 0 (key := fun l => 256 * tb.val + (16 * j.val + l)) (fun x y hxy => ?_) _ _ _ (List.mem_filter.mpr ⟨List.mem_range.mpr hl, hen⟩)
      dsimp only at hxy
      omega
    · rw [hcore]
      refine Tab.get_setEach_out 0 _ _ _ _ fun l hl => ?_
      have := List.mem_range.mp (List.mem_filter.mp hl).1
      omega
  case req =>
    have hres : ¬reqReserved f 0 := by
      rintro (h | h | ⟨h, -⟩ | ⟨-, h⟩)
      · exact hsrc (Fin.ext h)
      · exact hout (Fin.ext h)
      · rw [hstat] at h
        cases h
      · exact h rfl
    have hused : ¬reqUnused f vb ss := by
      unfold reqUnused
      simp only [Fin.ext_iff] at hshift hss hvb
      omega
    obtain ⟨t, he, hl⟩ := gives_req hm g vd va vb ss f hstat hres hused hci hcount
    obtain ⟨-, hsregs, -, hmem, -, hpc⟩ := hl.frame
    simp only [reqLane_eq] at hl
    exact ⟨t, he, hl.only, hl.written, hl.counter, hsregs, hmem, hpc⟩
  case illegal =>
    have hill : reqReserved f vc ∨ reqUnused f vb ss := by
      unfold reqReserved reqUnused
      simp only [ne_eq, Fin.ext_iff] at hbad
      simp only [or_assoc]
      exact hbad
    obtain ⟨t, he, hstate, hcause, hslot, -⟩ := stops_of_fault (n := 2) ⟨⟨_, _, rfl⟩, rfl⟩ hm (by decide) (by decide) hci (vReq_illegal g vd va _ hill)
    exact ⟨t, he, hstate, hcause, hslot⟩

end Sys2Proof.Claims
end

section
/-! SUPPORT. Vector loads: the elements read, and what their reads leave (R121, R123–R126, R128). -/

namespace Sys2Proof.Machine

/-! ### Little-endian bytes -/

theorem Core.length_seeN (c : Core) (a n : Nat) : (c.seeN a n).length = n := by
  induction n generalizing a with
  | zero => rfl
  | succ n ih => exact congrArg (· + 1) (ih (a + 1))

theorem leNat_lt (bs : List Byte) : leNat bs < 256 ^ bs.length := by
  induction bs with
  | nil => exact Nat.one_pos
  | cons b bs ih =>
    have hb : b.toNat < 256 := b.isLt
    rw [leNat, List.length_cons, Nat.pow_succ]
    omega

/-! ### Rows and banks of a read (R126, R166) -/

theorem length_distinct_le (l : List Nat) : (distinct l).length ≤ l.length := by
  have hadd : ∀ (l acc : List Nat), (l.foldl addNum acc).length ≤ acc.length + l.length := by
    intro l
    induction l with
    | nil => exact fun acc => Nat.le_refl _
    | cons x l ih =>
      intro acc
      have hone : (addNum acc x).length ≤ acc.length + 1 := by
        unfold addNum
        split
        · exact Nat.le_succ _
        · exact Nat.le_refl _
      have := ih (addNum acc x)
      rw [List.foldl_cons, List.length_cons]
      omega
  rw [distinct, List.length_reverse]
  simpa using hadd l []

/-- Pieces that each lie in one row touch as many rows as there are pieces, at most. -/
theorem length_rows_le {ps : List (Nat × Nat)} (h : ∀ p ∈ ps, 0 < p.2 ∧ p.1 % rowBytes p.1 + p.2 ≤ rowBytes p.1) :
    (distinct (ps.flatMap (fun p => blocks (rowBytes p.1) p.1 p.2))).length ≤ ps.length := by
  refine (length_distinct_le _).trans (le_of_eq ?_)
  induction ps with
  | nil => rfl
  | cons p ps ih =>
    obtain ⟨hpos, hrow⟩ := h p List.mem_cons_self
    rw [List.flatMap_cons, blocks_one hpos hrow, List.length_append, ih fun q hq => h q (List.mem_cons_of_mem p hq), List.length_singleton,
      List.length_cons, Nat.add_comm]

/-- The largest of some numbers that are all at most `n`. -/
theorem foldl_max_le {n : Nat} (xs : List Nat) (h : ∀ x ∈ xs, x ≤ n) {a : Nat} (ha : a ≤ n) : xs.foldl max a ≤ n := by
  induction xs generalizing a with
  | nil => exact ha
  | cons x xs ih => exact ih (fun y hy => h y (List.mem_cons_of_mem x hy)) (Nat.max_le.mpr ⟨ha, h x List.mem_cons_self⟩)

/-- Further rows of one bank are no more than the pieces read. -/
theorem bankExtra_le {ps : List (Nat × Nat)} (h : ∀ p ∈ ps, 0 < p.2 ∧ p.1 % rowBytes p.1 + p.2 ≤ rowBytes p.1) : bankExtra ps ≤ ps.length := by
  have hrows := length_rows_le h
  unfold bankExtra
  dsimp only
  generalize distinct (ps.flatMap (fun p => blocks (rowBytes p.1) p.1 p.2)) = rows at hrows
  have hmax : (rows.map (fun r => (rows.filter (fun q => bankOf q == bankOf r)).length)).foldl max 1 ≤ ps.length + 1 := by
    refine foldl_max_le _ (fun x hx => ?_) (by omega)
    obtain ⟨r, -, rfl⟩ := List.mem_map.mp hx
    have := List.length_filter_le (fun q => bankOf q == bankOf r) rows
    omega
  omega

/-- An aligned element of 1, 2 or 4 bytes lies in one row. -/
theorem element_in_row (a : Nat) {n : Nat} (hn : n = 1 ∨ n = 2 ∨ n = 4) (ha : a % n = 0) : 0 < n ∧ a % rowBytes a + n ≤ rowBytes a := by
  unfold rowBytes
  rcases hn with rfl | rfl | rfl <;> split <;> omega

/-- The reads of pieces that find no corrected granule, and rows of ON groups alone, leave no count and no flag. -/
theorem Core.noteReads_lanes (c : Core) (ps : List (Nat × Nat)) (h : ∀ p ∈ ps, c.ce = [] ∧ ∀ r ∈ blocks (rowBytes p.1) p.1 p.2, c.isOn r = true) :
    c.noteReads ps = c := by
  cases ps with
  | nil => rfl
  | cons p ps =>
    refine c.noteReads_quiet _ (h p List.mem_cons_self).1 fun r hr => ?_
    obtain ⟨q, hq, hr⟩ := List.mem_flatMap.mp hr
    exact (h q hq).2 r hr

/-- Pieces of a core without errors have none. -/
theorem Core.findSome_ueIn (c : Core) (ps : List (Nat × Nat)) (h : ∀ p ∈ ps, c.ue = []) : ps.findSome? (fun p => c.ueIn p.1 p.2) = none :=
  List.findSome?_eq_none_iff.mpr fun p hp => c.ueIn_clean _ _ (h p hp)

/-! ### Loads -/

/-- The elements that a load reads: address and length of each enabled lane's. -/
def elements (c : Core) (m n : Nat) (addr : Nat → Int) : List (Nat × Nat) := (c.enabled m).map (fun l => ((addr l).toNat, n))

theorem length_elements_le (c : Core) (m n : Nat) (addr : Nat → Int) : (elements c m n addr).length ≤ 16 := by
  rw [elements, List.length_map]
  exact length_lanes_le _

/-- A load whose elements pass their checks. -/
theorem vLoad_eq {g : VM} {vd w : Nat} {zero : Bool} {addr : Nat → Int} {c : Core} (hw : w ≠ 3) (hfault : firstFault w (c.enabled g.m) addr = none)
    (hue : (elements c g.m (elemBytes w) addr).findSome? (fun p => c.ueIn p.1 p.2) = none) :
    vLoad g vd w zero addr true c = .ok (fun cur =>
      (putVec c g.m g.z vd (fun l => extend w zero (leNat (c.seeN (addr l).toNat (elemBytes w)))) (cur.noteReads (elements c g.m (elemBytes w) addr))).bumpIf
        Off.VE_BANK_EXTRA (bankExtra (elements c g.m (elemBytes w) addr))) none := by
  unfold elements at hue ⊢
  simp only [vLoad, hfault, hue, if_neg hw, if_true]

/-- ACC.LD of a tile in PM, aligned, without an error (R128). -/
theorem vAccLd_eq {g : VM} {vd ss imm : Nat} {c : Core} {tile : Nat} (htile : tile = (c.s ss).toNat + 64 * imm) (hlo : 0x800000 ≤ tile) (hhi : tile + 64 ≤ 0x810000)
    (halign : tile % 64 = 0) (hue : c.ue = []) :
    vAccLd g vd ss imm c = .ok (fun cur => (putVec c g.m g.z vd (fun l => c.seeWord (tile + 16 * (l / 4) + 4 * (l % 4)))
      (cur.noteReads ((c.enabled g.m).map (fun l => (tile + 16 * (l / 4) + 4 * (l % 4), 4))))).bump Off.VE_ACC_LD 1) none := by
  have hcheck : (c.enabled g.m).findSome? (fun l =>
      if memOf (tile + 16 * (l / 4) + 4 * (l % 4)) ≠ 3 ∨ memOf (tile + 16 * (l / 4) + 4 * (l % 4) + 3) ≠ 3 then some (cADDR, tile + 16 * (l / 4) + 4 * (l % 4))
      else if tile % 64 ≠ 0 then some (cMISAL, tile + 16 * (l / 4) + 4 * (l % 4)) else none) = none := by
    refine List.findSome?_eq_none_iff.mpr fun l hl => ?_
    have hlt := List.mem_range.mp (List.mem_filter.mp hl).1
    rw [memOf_pm (by omega) (by omega), memOf_pm (by omega) (by omega), if_neg (by simp), if_neg (by simpa using halign)]
  simp only [vAccLd, ← htile, hcheck, c.findSome_ueIn _ (fun _ _ => hue)]

end Sys2Proof.Machine

namespace Sys2Proof.Claims
open Sys2Proof Sys2Proof.Machine

/-! ### The elements of a load or a store (R121, R125) -/

/-- The bytes of an element, as the operations count them. -/
theorem elemBytes_eq (w : Fin 4) (hw : w ≠ 3) : elemBytes w = width w := by
  revert w
  decide

theorem width_cases (w : Fin 4) : width w = 1 ∨ width w = 2 ∨ width w = 4 := by
  unfold width
  split_ifs <;> simp

/-- An element that the core can read passes its checks. -/
theorem laneFault_readable {c : Core} {a : Int} {w : Fin 4} (hw : w ≠ 3) (h : Readable c a (width w)) : laneFault w a = none := by
  simp only [laneFault, elemBytes_eq w hw]
  rw [if_neg (not_lt.mpr h.nonneg), if_neg (not_not.mpr h.mem), if_neg (not_not.mpr h.aligned)]

/-- The elements of all enabled lanes pass their checks. -/
theorem firstFault_readable {c : Core} {m : Nat} {addr : Nat → Int} {w : Fin 4} (hw : w ≠ 3)
    (h : ∀ l, l < 16 → (c.m m).getLsbD l = true → Readable c (addr l) (width w)) : firstFault w (c.enabled m) addr = none := by
  refine List.findSome?_eq_none_iff.mpr fun l hl => laneFault_readable (c := c) hw ?_
  obtain ⟨hlt, hen⟩ := List.mem_filter.mp hl
  exact h l (List.mem_range.mp hlt) hen

/-- The core can read each of the elements. -/
theorem elements_readable {c : Core} {m n : Nat} {addr : Nat → Int} (h : ∀ l, l < 16 → (c.m m).getLsbD l = true → Readable c (addr l) n)
    {p : Nat × Nat} (hp : p ∈ elements c m n addr) : Readable c p.1 p.2 := by
  obtain ⟨l, hl, rfl⟩ := List.mem_map.mp hp
  obtain ⟨hlt, hen⟩ := List.mem_filter.mp hl
  have hr := h l (List.mem_range.mp hlt) hen
  rw [← Int.toNat_of_nonneg hr.nonneg] at hr
  exact hr

/-- Elements that the core can read lie in no more than 16 rows. -/
theorem bankExtra_elements_le {c : Core} {m : Nat} {w : Fin 4} {addr : Nat → Int} (h : ∀ l, l < 16 → (c.m m).getLsbD l = true → Readable c (addr l) (width w)) :
    bankExtra (elements c m (width w) addr) ≤ 16 := by
  refine (bankExtra_le fun p hp => ?_).trans (length_elements_le c m (width w) addr)
  have hr := elements_readable h hp
  obtain ⟨l, -, rfl⟩ := List.mem_map.mp hp
  exact element_in_row _ (width_cases w) hr.aligned

/-- An element extended to 32 bits. -/
theorem extend_eq (w : Fin 4) (hw : w ≠ 3) (zx : Bool) {v : Nat} (hv : v < 256 ^ width w) : extend w zx v = widen w zx v := by
  have hbits : extend w zx v = if zx then wd (v % 2 ^ (8 * width w)) else wi (sgn (8 * width w) v) :=
    match w, hw with
    | 0, _ => rfl
    | 1, _ => rfl
    | 2, _ => rfl
    | 3, hw => absurd rfl hw
  have hmod : v % 2 ^ (8 * width w) = v := Nat.mod_eq_of_lt (by rw [Nat.pow_mul]; exact hv)
  rw [hbits, sgn, hmod, Nat.cast_pow]
  rfl

/-! ### Loads (O9) -/

/-- A load of elements that the core can read gives the enabled lanes their elements, and touches nothing else but the count of further rows. -/
theorem gives_load {i : Instr} {s : State} {b : Bun} {op : SlotOp} (h : IsSlot i b 2 op) (hm : b.more = false) (hci : CanIssue s.dev b.core i) {g : VM} {vd : Nat}
    {w : Fin 4} {zx : Bool} {addr : Nat → Int} (hw : w ≠ 3) (hcount : ((s.dev.core b.core).reg Off.VE_BANK_EXTRA).toNat + 64 < 2 ^ 32)
    (hread : ∀ l, l < 16 → ((s.dev.core b.core).m g.m).getLsbD l = true → Readable (s.dev.core b.core) (addr l) (width w))
    (hrun : op.run (s.dev.bundleDev b.core) (s.dev.core b.core) = vLoad g vd w zx addr true (s.dev.core b.core)) :
    Gives i s (fun t => (OnlyCore s t b.core ∧ (t.dev.core b.core).sregs = (s.dev.core b.core).sregs ∧ (t.dev.core b.core).mregs = (s.dev.core b.core).mregs
      ∧ (t.dev.core b.core).mem = (s.dev.core b.core).mem ∧ (t.dev.core b.core).gb = (s.dev.core b.core).gb ∧ (t.dev.core b.core).pc = (s.dev.core b.core).pc + 1)
      ∧ ∀ l, l < 16 → (t.dev.core b.core).v vd l = if ((s.dev.core b.core).m g.m).getLsbD l
          then widen w zx (leNat ((s.dev.core b.core).seeN (addr l).toNat (width w))) else masked g ((s.dev.core b.core).v vd l)) := by
  have hpieces {p : Nat × Nat} (hp : p ∈ elements (s.dev.core b.core) g.m (width w) addr) := elements_readable hread hp
  have hextra := bankExtra_elements_le hread
  have hue := (s.dev.core b.core).findSome_ueIn _ fun p hp => (hpieces hp).clean
  have hload := vLoad_eq (g := g) (vd := vd) (w := w) (zero := zx) (addr := addr) (c := s.dev.core b.core) (fun h3 => hw (Fin.ext h3))
    (firstFault_readable hw hread) (by rw [elemBytes_eq w hw]; exact hue)
  rw [elemBytes_eq w hw] at hload
  have hquiet := (s.dev.core b.core).newCycle.noteReads_lanes _ fun p hp => ⟨(hpieces hp).sound, fun r _ => (hpieces hp).on r⟩
  obtain ⟨t, he, hl⟩ := gives_lanesCounted h hm hci (o := Off.VE_BANK_EXTRA) (count := bankExtra (elements (s.dev.core b.core) g.m (width w) addr))
    (p := fun l => extend w zx (leNat ((s.dev.core b.core).seeN (addr l).toNat (width w)))) (by decide) (by decide) (by omega) (hrun.trans hload) (by rw [hquiet])
  obtain ⟨-, hsregs, hmregs, hmem, hgb, hpc⟩ := hl.frame
  refine ⟨t, he, ⟨hl.only, hsregs, hmregs, hmem, hgb, hpc⟩, fun l hlt => ?_⟩
  rw [hl.written l hlt, extend_eq w hw zx]
  have hlt := leNat_lt ((s.dev.core b.core).seeN (addr l).toNat (width w))
  rwa [Core.length_seeN] at hlt

/-- ACC.LD of a tile in PM gives the enabled lanes their words, and counts the load. -/
theorem gives_accLd {s : State} {b : Bun} {g : VM} {vd ss : Fin 32} {imm : Fin 1024} (hm : b.more = false) (hci : CanIssue s.dev b.core (.accLd b g vd ss imm))
    {tile : Nat} (htile : tile = ((s.dev.core b.core).s ss).toNat + 64 * imm.val) (hlo : 0x800000 ≤ tile) (hhi : tile + 64 ≤ 0x810000) (halign : tile % 64 = 0)
    (hue : (s.dev.core b.core).ue = []) (hce : (s.dev.core b.core).ce = []) (hcount : ((s.dev.core b.core).reg Off.VE_ACC_LD).toNat + 1 < 2 ^ 32) :
    Gives (.accLd b g vd ss imm) s (fun t => LanesCounted s t b.core (.accLd b g vd ss imm) g vd
      (fun l => (s.dev.core b.core).seeWord (tile + 16 * (l / 4) + 4 * (l % 4))) Off.VE_ACC_LD 1) := by
  have hquiet : (s.dev.core b.core).newCycle.noteReads (((s.dev.core b.core).enabled g.m).map (fun l => (tile + 16 * (l / 4) + 4 * (l % 4), 4))) =
      (s.dev.core b.core).newCycle := by
    refine Core.noteReads_lanes _ _ fun p hp => ⟨hce, fun r hr => ?_⟩
    obtain ⟨l, hl, rfl⟩ := List.mem_map.mp hp
    have hlt := List.mem_range.mp (List.mem_filter.mp hl).1
    have hpm : memOf (tile + 16 * (l / 4) + 4 * (l % 4)) = 3 := memOf_pm (by omega) (by omega)
    obtain ⟨-, hrow⟩ := element_in_row (tile + 16 * (l / 4) + 4 * (l % 4)) (n := 4) (by decide) (by omega)
    rw [blocks_one (by decide) hrow, List.mem_singleton] at hr
    rw [hr, isOn_row _ (by rw [hpm]; decide), Core.isOn, gateBit, hpm]
    rfl
  refine gives_lanesCounted (n := 2) ⟨⟨_, _, rfl⟩, rfl⟩ hm hci (by decide) (by decide) hcount (vAccLd_eq htile hlo hhi halign hue) ?_
  rw [hquiet]
  rfl

end Sys2Proof.Claims
end

section
/-! SUPPORT. Vector stores: what a write of scattered bytes makes of the banks (R123, R124, R170, R171, R177). -/

namespace Sys2Proof.Machine

/-! ### Tables in canonical form -/

/-- What a table in canonical form lists is what it reads, and not its default. -/
theorem Tab.get_of_mem {α : Type} [DecidableEq α] (d : α) (t : Tab α) (n : Nat) (h : Tab.wfFrom d n t = true) {k : Nat} {v : α} (hmem : (k, v) ∈ t) :
    n ≤ k ∧ Tab.get d t k = v ∧ v ≠ d := by
  induction t generalizing n with
  | nil => cases hmem
  | cons e t ih =>
    obtain ⟨j, w⟩ := e
    simp only [Tab.wfFrom, Bool.and_eq_true, decide_eq_true_eq] at h
    obtain ⟨⟨hn, hw⟩, ht⟩ := h
    rcases List.mem_cons.mp hmem with heq | hrest
    · cases heq
      exact ⟨hn, by simp [Tab.get], hw⟩
    · obtain ⟨hlow, hget, hv⟩ := ih (j + 1) ht hrest
      refine ⟨by omega, ?_, hv⟩
      rw [Tab.get, if_neg (by omega), hget]

/-- Writing several entries keeps the canonical form. -/
theorem Tab.wf_setEach {α β : Type} [DecidableEq α] (d : α) (key : β → Nat) (val : β → α) (xs : List β) (t : Tab α) (h : Tab.wf d t = true) :
    Tab.wf d (Tab.setEach d key val xs t) = true := by
  induction xs generalizing t with
  | nil => exact h
  | cons x xs ih => exact ih _ (Tab.wf_set d t _ _ h)

/-! ### Writes of granules (R170, R171) -/

/-- The scratchpads take every write as it is: all groups ON, no granule in error, no injection waiting. -/
structure Core.Sound (c : Core) : Prop where
  on : ∀ a, c.isOn a = true
  ue : c.ue = []
  ce : c.ce = []
  inject : c.fld Off.SP_EXP Fl.SP_EXP_ECC_INJ = 0

/-- A granule's write to sound scratchpads puts its bytes there and changes nothing else but the note of it. -/
theorem Core.granWrite_sound {c : Core} (h : c.Sound) (writer : Nat) (p : List (Nat × Byte)) :
    ∃ wrote, c.granWrite writer p = { c with mem := c.mem.putAll p, wrote := wrote } := by
  cases p with
  | nil => exact ⟨c.wrote, rfl⟩
  | cons x p =>
    have hinject (m : Mem) (w : List (Nat × Byte)) : ({ c with mem := m, ue := [], ce := [], wrote := w } : Core).fld Off.SP_EXP Fl.SP_EXP_ECC_INJ = 0 := h.inject
    refine ⟨(x :: p).map (fun (y : Nat × Byte) => (y.1, c.mem.byte y.1)) ++ c.wrote, ?_⟩
    simp only [Core.granWrite, h.on, h.ue, h.ce, List.contains_nil, Bool.not_true, Bool.false_and, Bool.false_eq_true, if_false, List.filter_nil, hinject]
    rfl

/-- The writes of several granules. -/
theorem Core.granWrites_sound (writer : Nat) (ps : List (List (Nat × Byte))) {c : Core} (h : c.Sound) :
    ∃ wrote, ps.foldl (Core.granWrite writer) c = { c with mem := c.mem.putAll ps.flatten, wrote := wrote } := by
  induction ps generalizing c with
  | nil => exact ⟨c.wrote, rfl⟩
  | cons p ps ih =>
    obtain ⟨wrote, hwrite⟩ := Core.granWrite_sound h writer p
    obtain ⟨wrote', hrest⟩ := ih (c := { c with mem := c.mem.putAll p, wrote := wrote }) ⟨h.on, h.ue, h.ce, h.inject⟩
    refine ⟨wrote', ?_⟩
    rw [List.foldl_cons, hwrite, hrest, List.flatten_cons]
    simp only [Mem.putAll, List.foldl_append]

/-- Grouping by granule keeps the cells and their order. -/
theorem byGranule_flatten (xs : List (Nat × Byte)) : (byGranule xs).flatten = xs := by
  induction xs with
  | nil => rfl
  | cons x xs ih =>
    unfold byGranule
    split
    · next y ys gs hgs =>
      rw [hgs] at ih
      split <;> rw [← ih] <;> rfl
    · rw [List.flatten_cons, ih]
      rfl

/-! ### A store of scattered bytes (R123, R124, R177) -/

/-- The bytes that a store of cells leaves at each address: those of the last cell of the address. -/
def cellTab (cells : List (Nat × Byte)) : Tab (Option Byte) := Tab.setEach none (·.1) (fun x => some x.2) cells []

/-- The gather buffer without the bytes that the table lists: an emptied line is freed (R177). -/
def uncovered (t : Tab (Option Byte)) (gb : List GbLine) : List GbLine :=
  (gb.map (fun l => { l with bytes := l.bytes.filter (fun x => (Tab.get none t x.1).isNone) })).filter (fun l => l.bytes.length != 0)

/-- A store of cells, none or on sound scratchpads, changes the banks, the gather buffer and the note of the write alone. -/
theorem Core.directCells_sound {c : Core} (writer : Nat) {cells : List (Nat × Byte)} (h : cells ≠ [] → c.Sound) :
    ∃ gb wrote, c.directCells writer cells = { c with mem := c.mem.putAll ((cellTab cells).map (fun x => (x.1, x.2.getD 0))), gb := gb, wrote := wrote } := by
  by_cases hnone : cells = []
  · subst hnone
    exact ⟨_, c.wrote, rfl⟩
  · obtain ⟨hon, hue, hce, hinject⟩ := h hnone
    obtain ⟨wrote, hwrite⟩ := Core.granWrites_sound writer (byGranule ((cellTab cells).map (fun x => (x.1, x.2.getD 0))))
      (c := { c with gb := uncovered (cellTab cells) c.gb }) ⟨hon, hue, hce, hinject⟩
    rw [byGranule_flatten] at hwrite
    exact ⟨_, wrote, hwrite⟩

/-- A byte of the banks after a store of cells. -/
theorem Mem.byte_putCells (m : Mem) (cells : List (Nat × Byte)) (a : Nat) :
    (m.putAll ((cellTab cells).map (fun x => (x.1, x.2.getD 0)))).byte a = (Tab.get none (cellTab cells) a).getD (m.byte a) := by
  have hwf : Tab.wfFrom none 0 (cellTab cells) = true := Tab.wf_setEach none _ _ cells [] rfl
  rw [Mem.byte_putAll (Tab.get none (cellTab cells)) _ (fun x hx => ?_)]
  · by_cases hget : Tab.get none (cellTab cells) a = none
    · rw [hget, if_neg]
      · rfl
      · simp only [List.map_map, List.mem_map, Function.comp_apply]
        rintro ⟨⟨k, v⟩, hmem, rfl⟩
        obtain ⟨-, hval, hv⟩ := Tab.get_of_mem none _ 0 hwf hmem
        exact hv (hval.symm.trans hget)
    · have hmem := Tab.mem_of_get_ne none (cellTab cells) a hget
      rw [if_pos]
      · obtain ⟨v, hv⟩ := Option.ne_none_iff_exists'.mp hget
        rw [hv]
        rfl
      · rw [List.map_map]
        exact List.mem_map_of_mem (f := fun x : Nat × Option Byte => x.1) hmem
  · obtain ⟨⟨k, v⟩, hmem, rfl⟩ := List.mem_map.mp hx
    obtain ⟨-, hval, hv⟩ := Tab.get_of_mem none _ 0 hwf hmem
    obtain ⟨y, rfl⟩ := Option.ne_none_iff_exists'.mp hv
    exact hval

/-- The addresses of the bytes of an element. -/
theorem mem_withAddr {a : Nat} {bs : List Byte} {x : Nat × Byte} (h : x ∈ withAddr a bs) : a ≤ x.1 ∧ x.1 < a + bs.length := by
  induction bs generalizing a with
  | nil => cases h
  | cons b bs ih =>
    rw [List.length_cons]
    rcases List.mem_cons.mp h with rfl | h
    · omega
    · have := ih h
      omega

/-- The bytes that a store writes: the low `n` bytes of each enabled lane at its address. -/
def storeCells (c : Core) (m va n : Nat) (addr : Nat → Int) : List (Nat × Byte) :=
  (c.enabled m).flatMap (fun l => withAddr (addr l).toNat (natLE n (c.v va l).toNat))

/-- A store of whole elements that pass their checks. -/
theorem vStore_eq {m va w : Nat} {addr : Nat → Int} {c : Core} (hw : w ≠ 3) (hfault : firstFault w (c.enabled m) addr = none) :
    vStore m va w addr c = .ok (fun cur => cur.directCells 0 (storeCells c m va (elemBytes w) addr)) none := by
  simp only [vStore, hfault, if_neg hw, storeCells, List.flatMap_eq_foldl]

/-- An address that no enabled lane stores to. -/
theorem get_storeCells_out {c : Core} {m va n a : Nat} {addr : Nat → Int}
    (h : ∀ l, l < 16 → (c.m m).getLsbD l = true → a < (addr l).toNat ∨ (addr l).toNat + n ≤ a) : Tab.get none (cellTab (storeCells c m va n addr)) a = none := by
  refine Tab.get_setEach_out none _ _ _ _ fun x hx he => ?_
  obtain ⟨l, hl, hx⟩ := List.mem_flatMap.mp hx
  obtain ⟨hlt, hen⟩ := List.mem_filter.mp hl
  obtain ⟨hlo, hhi⟩ := mem_withAddr hx
  rw [length_natLE] at hhi
  have := h l (List.mem_range.mp hlt) hen
  omega

/-- The only enabled lane. -/
theorem Core.enabled_single {c : Core} {m l : Nat} (hl : l < 16) (h : ∀ n, n < 16 → ((c.m m).getLsbD n = true ↔ n = l)) : c.enabled m = [l] := by
  have hfilter : c.enabled m = (List.range 16).filter (· == l) := List.filter_congr fun n hn => by
    rw [Bool.eq_iff_iff, beq_iff_eq]
    exact h n (List.mem_range.mp hn)
  rw [hfilter, List.filter_beq, List.count_eq_one_of_mem List.nodup_range (List.mem_range.mpr hl)]
  rfl

/-- The bytes of the only enabled lane. -/
theorem get_storeCells_single {c : Core} {m va n l j : Nat} {addr : Nat → Int} (hen : c.enabled m = [l]) (hj : j < n) :
    Tab.get none (cellTab (storeCells c m va n addr)) ((addr l).toNat + j) = some (BitVec.ofNat 8 ((c.v va l).toNat / 256 ^ j)) := by
  have hlen : j < (natLE n (c.v va l).toNat).length := by rwa [length_natLE]
  rw [storeCells, hen, List.flatMap_singleton, ← getElem_natLE n _ j hlen]
  exact get_putBytes_in _ _ _ _ hlen

end Sys2Proof.Machine

namespace Sys2Proof.Claims
open Sys2Proof Sys2Proof.Machine

/-! ### Stores (O9) -/

/-- A store to elements that the core can read writes them and no other byte. -/
theorem gives_store {i : Instr} {s : State} {b : Bun} {op : SlotOp} (h : IsSlot i b 2 op) (hm : b.more = false) (hci : CanIssue s.dev b.core i) {m va : Nat} {w : Fin 4}
    {addr : Nat → Int} (hw : w ≠ 3) (hread : ∀ l, l < 16 → ((s.dev.core b.core).m m).getLsbD l = true → Readable (s.dev.core b.core) (addr l) (width w))
    (hinject : (s.dev.core b.core).fld Off.SP_EXP Fl.SP_EXP_ECC_INJ = 0)
    (hrun : op.run (s.dev.bundleDev b.core) (s.dev.core b.core) = vStore m va w addr (s.dev.core b.core)) :
    Gives i s (fun t => OnlyCore s t b.core ∧ (t.dev.core b.core).pc = (s.dev.core b.core).pc + 1 ∧ (t.dev.core b.core).vregs = (s.dev.core b.core).vregs
      ∧ (t.dev.core b.core).sregs = (s.dev.core b.core).sregs
      ∧ (∀ a : Nat, (∀ l, l < 16 → ((s.dev.core b.core).m m).getLsbD l = true → (a : Int) < addr l ∨ addr l + width w ≤ a) →
          (t.dev.core b.core).mem.byte a = (s.dev.core b.core).mem.byte a)
      ∧ (∀ l j, l < 16 → j < width w → (∀ n, n < 16 → (((s.dev.core b.core).m m).getLsbD n = true ↔ n = l)) →
          (t.dev.core b.core).mem.byte ((addr l).toNat + j) = BitVec.ofNat 8 (((s.dev.core b.core).v va l).toNat / 256 ^ j))) := by
  have hstore := vStore_eq (va := va) (fun h3 => hw (Fin.ext h3)) (firstFault_readable hw hread)
  rw [elemBytes_eq w hw] at hstore
  have hsound (hne : storeCells (s.dev.core b.core) m va (width w) addr ≠ []) : (s.dev.core b.core).newCycle.Sound := by
    obtain ⟨x, hx⟩ := List.exists_mem_of_ne_nil _ hne
    obtain ⟨l, hl, -⟩ := List.mem_flatMap.mp hx
    obtain ⟨hlt, hen⟩ := List.mem_filter.mp hl
    obtain ⟨-, -, -, hon, hue, hce⟩ := hread l (List.mem_range.mp hlt) hen
    exact ⟨hon, hue, hce, hinject⟩
  obtain ⟨gb, wrote, hcells⟩ := Core.directCells_sound 0 hsound
  obtain ⟨t, he, honly, hcore⟩ := gives_issued h hm hci (hrun.trans hstore) hcells rfl rfl rfl
  have hbyte (a : Nat) : (t.dev.core b.core).mem.byte a =
      (Tab.get none (cellTab (storeCells (s.dev.core b.core) m va (width w) addr)) a).getD ((s.dev.core b.core).mem.byte a) := by
    rw [hcore]
    exact Mem.byte_putCells _ _ _
  refine ⟨t, he, honly, by rw [hcore]; rfl, by rw [hcore]; rfl, by rw [hcore]; rfl, fun a ha => ?_, fun l j hl hj hone => ?_⟩
  · rw [hbyte, get_storeCells_out fun l hl hen => ?_]
    · rfl
    · have hnonneg := (hread l hl hen).nonneg
      have := ha l hl hen
      omega
  · rw [hbyte, get_storeCells_single (Core.enabled_single hl hone) hj]
    rfl

/-- The strided addresses of elements of 1, 2 or 4 bytes (R121). -/
theorem strided_eq (c : Core) (ss vb vc : Nat) {w : Fin 4} (hw : w ≠ 3) : strided c ss vb vc w =
    fun l => ((c.s ss).toNat : Int) + (l / 4 : Nat) * (c.s vb).toInt + (l % 4 : Nat) * (c.s vc).toInt :=
  funext fun _ => if_neg fun h => hw (Fin.ext h)

/-- The indexed addresses of elements of 1, 2 or 4 bytes (R124). -/
theorem indexed_eq (c : Core) (ss vb : Nat) {w : Fin 4} (hw : w ≠ 3) : indexed c ss vb w =
    fun l => ((c.s ss).toNat : Int) + (c.v vb l).toNat * width w := by
  funext l
  rw [indexed, elemBytes_eq w hw, Nat.cast_mul]

/-- Settles O9: the loads by `gives_load` and `gives_accLd`, the stores by `gives_store`, each at the addresses of its form. -/
theorem vectorMemory : Obligations.VectorMemory := by
  unfold Obligations.VectorMemory
  refine ⟨fun s b g vd ss vb vc w zx imm hm => ⟨fun hw hcount hread hci => ?vld, fun hw hcount hread hci => ?vldx, fun hlo hhi halign hue hce hcount hci => ?accLd⟩,
    fun s b m va ss vb vc w hm hw => ⟨fun hread hinject hci => ?vst, fun hread hinject hci => ?vstx⟩⟩
  case vld =>
    refine gives_load ⟨⟨_, _, rfl⟩, rfl⟩ hm hci hw hcount hread ((if_neg fun h => hw (Fin.ext h.1)).trans ?_)
    rw [strided_eq _ _ _ _ hw]
  case vldx =>
    refine gives_load ⟨⟨_, _, rfl⟩, rfl⟩ hm hci hw hcount hread ((if_neg fun h => hw (Fin.ext h)).trans ?_)
    rw [indexed_eq _ _ _ hw]
  case accLd =>
    obtain ⟨t, he, hl⟩ := gives_accLd hm hci rfl hlo hhi halign hue hce hcount
    obtain ⟨-, hsregs, hmregs, hmem, hgb, hpc⟩ := hl.frame
    exact ⟨t, he, ⟨hl.only, hsregs, hmregs, hmem, hgb, hpc⟩, hl.written, hl.counter⟩
  case vst =>
    refine gives_store ⟨⟨_, _, rfl⟩, rfl⟩ hm hci hw hread hinject ((if_neg fun h => hw (Fin.ext h.1)).trans ?_)
    rw [strided_eq _ _ _ _ hw]
  case vstx =>
    refine gives_store ⟨⟨_, _, rfl⟩, rfl⟩ hm hci hw hread hinject ((if_neg fun h => hw (Fin.ext h)).trans ?_)
    rw [indexed_eq _ _ _ hw]

end Sys2Proof.Claims
end

section
/-! SUPPORT. The last piece of a plan image whose destination runs past both stacks, so that the piece's packets count on a side 2 (R228, R245, R309, R452). -/

namespace Sys2Proof.Machine

/-! ### Counters that leave no record -/

/-- A record that joins a queue leaves records waiting there. -/
theorem Dev.waiting_of_join_nil {d : Dev} {at_ src : Nat} {q : List Record} {r : Record} (h : (d.setWaiting at_ (q ++ [r])).waiting src = []) : d.waiting src = [] := by
  rw [Dev.waiting_setWaiting] at h
  split at h
  · exact absurd h (List.append_ne_nil_of_right_ne_nil _ (List.cons_ne_nil _ _))
  · exact h

/-- A record never shortens a queue of waiting records. -/
theorem Dev.waiting_of_emit_nil {d : Dev} {e : Ev} {src : Nat} (h : (d.emit e).waiting src = []) : d.waiting src = [] := by
  unfold Dev.emit at h
  dsimp only at h
  split at h
  · exact Dev.waiting_of_join_nil h
  · split at h
    · exact h
    · split at h
      · exact Dev.waiting_of_join_nil h
      · exact h

theorem Dev.waiting_of_bump_nil {d : Dev} {o n : Nat} {e : Ev} {src : Nat} (h : (d.bump o n e).waiting src = []) : d.waiting src = [] := by
  unfold Dev.bump at h
  dsimp only at h
  split at h
  · exact h
  · exact Dev.waiting_of_emit_nil (d := d.setReg o (wd ((d.reg o).toNat + n))) h

/-- A counter that rises and leaves no record at its source reads another value. -/
theorem Dev.reg_bump_ne_of_quiet {d : Dev} {o n : Nat} {e : Ev} (hn : 0 < n) (hquiet : (d.bump o n e).waiting e.src = []) : (d.bump o n e).reg o ≠ d.reg o := by
  have hbefore := Dev.waiting_of_bump_nil hquiet
  exact fun hsame => Dev.bump_moves d hn (by rw [hbefore]; decide) hsame (hquiet.trans hbefore.symm)

/-! ### The packets of a side 2 (R228, R245) -/

/-- The selected port of a side 2 is the north one of router 0, as MESH_LINK_SEL has it after reset. -/
def Dev.StrayLink (d : Dev) : Prop := d.reg ((Block.mesh 2).base + Off.MESH_LINK_SEL) = 0

/-- No output on the way is the selected one. -/
theorem Dev.each_unselected {d : Dev} (h : d.StrayLink) {l : List MeshOut} (hl : ∀ o ∈ l, o.1 = 2 ∧ o.2 ≠ (0, 0)) (f : Dev → Nat → Dev) :
    d.each ((l.filter d.selected).map (·.1)) f = d := by
  have hnone : l.filter d.selected = [] := by
    rw [List.filter_eq_nil_iff]
    rintro ⟨side, router, port⟩ ho
    obtain ⟨hside, hport⟩ := hl _ ho
    cases hside
    rw [Dev.selected, Dev.fld, Dev.fld, h, Bool.and_eq_true, beq_iff_eq, beq_iff_eq]
    rintro ⟨rfl, rfl⟩
    exact hport rfl
  rw [hnone]
  rfl

/-- What the base die writes to a side 2 and the answer to it: the bridge counts both, and no selected port counts either. -/
theorem Dev.strayTraffic_eq {d : Dev} (h : d.StrayLink) (out back : Nat) :
    d.baseTraffic 2 out back = (d.meshCount 2 Off.MESH_BR_IN (flitsOf out)).meshCount 2 Off.MESH_BR_OUT (flitsOf back) := by
  have hlink (e : Dev) (he : e.StrayLink) {o : Nat} (ho : o ∈ [Off.MESH_BR_IN, Off.MESH_BR_OUT]) (n : Nat) : (e.meshCount 2 o n).StrayLink :=
    (Dev.reg_bump _ _ _ _ (by revert o; decide) (by decide)).trans he
  have hthere : d.packet (2, 12, 5) (2, 0, 5) (flitsOf out) = d.meshCount 2 Off.MESH_BR_IN (flitsOf out) :=
    Dev.each_unselected (hlink d h (by decide) _) (by decide) _
  have hback (e : Dev) (he : e.StrayLink) : e.packet (2, 0, 5) (2, 12, 5) (flitsOf back) = e.meshCount 2 Off.MESH_BR_OUT (flitsOf back) :=
    Dev.each_unselected (hlink e he (by decide) _) (by decide) _
  rw [Dev.baseTraffic, Dev.exchange, if_neg (by decide), hthere, hback _ (hlink d h (by decide) _)]

/-- A register that neither packets to a side 2 nor lost records count is as it was. -/
theorem Dev.reg_strayTraffic {d : Dev} (h : d.StrayLink) (out back : Nat) {o : Nat}
    (ho : o ∉ [(Block.mesh 2).base + Off.MESH_BR_IN, (Block.mesh 2).base + Off.MESH_BR_OUT, Block.tel.base + Off.TEL_SRC_DROPS]) :
    (d.baseTraffic 2 out back).reg o = d.reg o := by
  simp only [List.mem_cons, List.not_mem_nil, or_false, not_or] at ho
  obtain ⟨hin, hout, hdrops⟩ := ho
  rw [Dev.strayTraffic_eq h]
  exact (Dev.reg_bump _ _ _ _ hout hdrops).trans (Dev.reg_bump _ _ _ _ hin hdrops)

/-- Packets to a side 2 show: by the bridge's count of that side, or by a record of a counter's wrap. -/
theorem Dev.strayTraffic_shows {d : Dev} (h : d.StrayLink) (out back : Nat) (hquiet : (d.baseTraffic 2 out back).waiting (srcMesh 2) = []) :
    (d.baseTraffic 2 out back).reg strayCounter ≠ d.reg strayCounter := by
  rw [Dev.strayTraffic_eq h] at hquiet ⊢
  have hkeep : ((d.meshCount 2 Off.MESH_BR_IN (flitsOf out)).meshCount 2 Off.MESH_BR_OUT (flitsOf back)).reg strayCounter
      = (d.meshCount 2 Off.MESH_BR_IN (flitsOf out)).reg strayCounter := Dev.reg_bump _ _ _ _ (by decide) (by decide)
  rw [hkeep]
  exact Dev.reg_bump_ne_of_quiet (Nat.lt_of_lt_of_le Nat.zero_lt_one (Nat.le_add_right_of_le (le_max_left _ _))) (Dev.waiting_of_bump_nil hquiet)

/-! ### What a whole granule and a completion leave (R234, R451) -/

/-- The registers and the records of a device. -/
def Dev.regsAndTel (d : Dev) : Tab Word × Tel := (d.regs, d.tel)

theorem Dev.reg_of_regsAndTel {d e : Dev} (h : e.regsAndTel = d.regsAndTel) (o : Nat) : e.reg o = d.reg o := by
  have hregs : e.regs = d.regs := congrArg Prod.fst h
  rw [Dev.reg, hregs, Dev.reg]

theorem Dev.waiting_of_regsAndTel {d e : Dev} (h : e.regsAndTel = d.regsAndTel) (src : Nat) : e.waiting src = d.waiting src := by
  have htel : e.tel = d.tel := congrArg Prod.snd h
  rw [Dev.waiting, htel, Dev.waiting]

/-- The device once a plan is registered. -/
def Dev.withPlan (d : Dev) (k : Nat) (p : Plan) : Dev := { d with plans := Tab.set none d.plans k (some p) }

theorem Dev.withPlan_regsAndTel (d : Dev) (k : Nat) (p : Plan) : (d.withPlan k p).regsAndTel = d.regsAndTel := rfl

/-- A write of one aligned unit is one piece. -/
theorem cut_aligned {w a : Nat} {bs : List Byte} (hw : 0 < w) (hlen : bs.length = w) (ha : a % w = 0) : cut w bs.length a bs = [(a, bs)] := by
  obtain ⟨b, bs, rfl⟩ := List.exists_cons_of_length_pos (hlen.symm ▸ hw)
  have htake : (b :: bs).take w = b :: bs := List.take_of_length_le hlen.le
  have hdrop : (b :: bs).drop w = [] := List.drop_of_length_le hlen.le
  rw [List.length_cons, cut_cons, ha, Nat.sub_zero, htake, hdrop]
  cases bs <;> rfl

/-- A whole granule counts nothing and leaves no record, no injection waiting. -/
theorem Dev.hbmGran_whole (src : Nat) (core : Option Nat) {d : Dev} {p : Nat × List Byte} (hlen : p.2.length = 32)
    (hinject : d.fld ((Block.hbm (p.1 / hbmSize)).base + Off.HBM_EXP) Fl.HBM_EXP_ECC_INJ = 0) : (Dev.hbmGran src core d p).regsAndTel = d.regsAndTel := by
  have hwhole : (p.2.length == 32) = true := by rw [hlen]; rfl
  unfold Dev.hbmGran
  simp only [hwhole, Bool.not_true, Bool.false_and, Bool.false_eq_true, if_true, if_false]
  split
  · rfl
  · split
    · next hone => exact absurd (hone.symm.trans hinject) (by decide)
    · next htwo => exact absurd (htwo.symm.trans hinject) (by decide)
    · rfl

theorem Dev.hbmWrite_whole (src : Nat) (core : Option Nat) {d : Dev} {a : Nat} {bs : List Byte} (hlen : bs.length = 32) (ha : a % 32 = 0)
    (hinject : d.fld ((Block.hbm (a / hbmSize)).base + Off.HBM_EXP) Fl.HBM_EXP_ECC_INJ = 0) : (d.hbmWrite src core a bs).regsAndTel = d.regsAndTel := by
  obtain ⟨q, hframe⟩ := d.hbmUse_frame a
  have hcut : cut 32 bs.length a bs = [(a, bs)] := cut_aligned (by decide) hlen ha
  rw [Dev.hbmWrite, hcut, hframe]
  exact Dev.hbmGran_whole src core (d := { d with sill := q }) (p := (a, bs)) hlen hinject

/-- A completion whose queue is not enabled waits. -/
theorem Dev.complete_regsAndTel {d : Dev} {f : Nat} (h : d.ringOn f .cq = false) (e : List Byte) : (d.complete f e).regsAndTel = d.regsAndTel := by
  unfold Dev.complete
  rw [if_neg (by rw [Dev.ringOpen, h]; exact fun hopen => Bool.false_ne_true hopen.2)]
  rfl

end Sys2Proof.Machine

namespace Sys2Proof.Claims
open Sys2Proof Sys2Proof.Machine

/-! ### The steps of long commands (R309, R452) -/

theorem exec_longCommandStep (i : Fin 16) (data : List Byte) (good : Bool) (n : Nat) (s : State) :
    exec (.longCommandStep i data good n) s = execLongCommandStep i data good n s := rfl

/-- The turns owed are no part of what holds a ring back. -/
theorem takes_owes (d : Dev) (x : Long) (f : Nat) : (owes d x).takes f = d.takes f := by
  have hfn : (owes d x).longs.any (fun y => y.fn == f) = d.longs.any (fun y => y.fn == f) := by
    rw [owes, List.any_map]
    congr 1
    funext y
    dsimp only [Function.comp_apply]
    split <;> rfl
  rw [Dev.takes, Dev.fenceHeld, hfn]
  rfl

theorem owedBy_owes (d : Dev) (x : Long) (f : Nat) : (owes d x).owedBy f = d.owedBy f := by
  simp only [Dev.owedBy, takes_owes]

/-- A step of PLAN_LOAD, where no ring is owed the turn before it. -/
theorem exec_longCommandStep_plan {s : State} {i : Fin 16} {x : Long} (hx : s.dev.longs[i.val]? = some x) (hop : x.op = 0x10)
    (howed : x.owed.any s.dev.takes = false) (data : List Byte) (n : Nat) :
    exec (.longCommandStep i data true n) s = .next { s with dev := (owes s.dev x).planStep { x with owed := s.dev.owedBy x.fn } data } := by
  rw [exec_longCommandStep, execLongCommandStep, onDev_next, hx]
  dsimp only
  rw [howed, ← owedBy_owes s.dev x x.fn, hop]
  rfl

theorem longEnd_eq_ended (d : Dev) {x : Long} (h : x.aborts = []) (status detail st : Nat) : d.longEnd x status detail st = ended d x status detail := by
  rw [Dev.longEnd, h, ended, Dev.stepped]
  rfl

/-- The last piece of a plan image, whose tables are in order: the plan is registered, and the command ends. -/
theorem planStep_last {d : Dev} {x : Long} {data : List Byte} {p : Plan} (hbegun : x.begun = true) (haborts : x.aborts = [])
    (hlast : x.total - x.done ≤ 1048576) (hdone : x.done ≤ x.total) {h : Dev}
    (hh : h = d.hbmUnitWrite 0 (leAt x.entry 20 8 + x.done) ((data ++ List.replicate (x.total - x.done) 0).take (x.total - x.done)))
    (hlive : h.liveOk (x.entry.drop 64) (leAt x.entry 20 8) x.total = true)
    (hplan : h.planOf (x.entry.drop 64) (leAt x.entry 20 8) (if x.fn = 0 then 32 else x.fn - 1) = some p) :
    d.planStep x data = ended (h.withPlan x.arg p) { x with done := x.total } 0 0 := by
  unfold Dev.planStep
  rw [if_neg (by rw [hbegun]; decide)]
  dsimp only
  rw [Nat.min_eq_right hlast, Nat.add_sub_cancel' hdone, ← hh, hlive, if_neg (by decide), if_neg (Nat.lt_irrefl _), hplan]
  exact longEnd_eq_ended (h.withPlan x.arg p) (x := { x with done := x.total }) haborts 0 0 9

/-- The end of a begun long command whose completion queue is not enabled writes no register and no record. -/
theorem ended_regsAndTel {d : Dev} {x : Long} (hbegun : x.begun = true) (h : d.ringOn x.fn .cq = false) (status detail : Nat) :
    (ended d x status detail).regsAndTel = d.regsAndTel := by
  rw [ended, hbegun]
  exact Dev.complete_regsAndTel (d := { d with longs := d.longs.filter (fun y => y.token != x.token) }) h _

/-! ### The stray plan -/

/-- The last piece, one granule, of a plan image that PF0 loads to the last MiB of side 1's stack: the piece comes to lie behind that stack. -/
def strayLoad : Long :=
  { fn := 0, token := 1, op := 0x10, arg := 0, cid := 0
    entry := sqEntry 0x10 false 0 0 (natLE 8 0 ++ natLE 4 1048608 ++ natLE 8 (2 * hbmSize - 1048576))
    done := 1048576, total := 1048608, pct := 90, begun := true, broken := false, aborts := [], owed := [] }

/-- The device after reset with that command in progress. -/
def strayLoading : Dev := { Dev.atReset with longs := [strayLoad] }

/-- The state with that device. -/
def strayState : State := { State.reset with dev := strayLoading }

/-- The granule that the host read returns. -/
def strayData : List Byte := List.replicate 32 0

theorem strayLoad_dest : leAt strayLoad.entry 20 8 = 2 * hbmSize - 1048576 := by decide +kernel

theorem strayLoad_header : strayLoad.entry.drop 64 = [] := by decide +kernel

theorem strayLoad_address : leAt strayLoad.entry 20 8 + strayLoad.done = 2 * hbmSize := by
  rw [strayLoad_dest]
  decide

/-- An image without a header's bytes has no live-range table that could be out of order. -/
theorem strayLoad_live (d : Dev) (n : Nat) : d.liveOk (strayLoad.entry.drop 64) (leAt strayLoad.entry 20 8) n = true := by
  rw [strayLoad_header]
  rfl

/-- It has no adaptation section either, so it is a plan. -/
theorem strayLoad_plan (d : Dev) : ∃ p, d.planOf (strayLoad.entry.drop 64) (leAt strayLoad.entry 20 8) 32 = some p := by
  rw [strayLoad_header]
  exact ⟨_, rfl⟩

theorem strayLoading_calm : Calm (owes strayLoading strayLoad) := by
  have h : Calm Dev.atReset := by unfold Calm; decide +kernel
  exact h

/-- The piece's granule behind both stacks, the plan's registration and the command's end write no register and no record. -/
theorem strayEnd_regsAndTel {e : Dev} (hinject : e.fld ((Block.hbm 2).base + Off.HBM_EXP) Fl.HBM_EXP_ECC_INJ = 0) (hring : e.ringOn 0 .cq = false) (p : Plan) {x : Long}
    (hfn : x.fn = 0) (hbegun : x.begun = true) :
    (ended ((e.hbmWrite 0 none (2 * hbmSize) strayData).withPlan 0 p) x 0 0).regsAndTel = e.regsAndTel := by
  have hwrite : (e.hbmWrite 0 none (2 * hbmSize) strayData).regsAndTel = e.regsAndTel := Dev.hbmWrite_whole 0 none rfl (by decide) hinject
  have hplan := (Dev.withPlan_regsAndTel (e.hbmWrite 0 none (2 * hbmSize) strayData) 0 p).trans hwrite
  generalize (e.hbmWrite 0 none (2 * hbmSize) strayData).withPlan 0 p = f at hplan
  have hoff : f.ringOn x.fn .cq = false := by
    rw [Dev.ringOn, Dev.fld, Dev.reg_of_regsAndTel hplan, hfn]
    exact hring
  exact (ended_regsAndTel hbegun hoff 0 0).trans hplan

/-- Before its last piece the command owes no ring a turn. -/
def strayOwes : Dev := owes strayLoading strayLoad

theorem strayOwes_reg (o : Nat) : strayOwes.reg o = regReset o := rfl

theorem strayOwes_link : strayOwes.StrayLink := by
  rw [Dev.StrayLink, strayOwes_reg]
  decide +kernel

/-- What the model makes of the piece: its packets, then its bytes. -/
theorem strayOwes_write : strayOwes.hbmUnitWrite 0 (2 * hbmSize) strayData = (strayOwes.baseTraffic 2 32 0).hbmWrite 0 none (2 * hbmSize) strayData := by
  have hbefore : strayOwes.contained 2 = false := by
    rw [Dev.contained, Dev.fld, strayOwes_reg]
    decide +kernel
  have hafter : (strayOwes.baseTraffic 2 32 0).contained 2 = false := by
    rw [Dev.contained, Dev.fld, Dev.reg_strayTraffic strayOwes_link _ _ (by decide), ← Dev.fld]
    exact hbefore
  have hside : 2 * hbmSize / hbmSize = 2 := by decide
  have hlen : strayData.length = 32 := rfl
  rw [Dev.hbmUnitWrite, hside, if_neg (by rw [hbefore]; decide), hlen]
  exact if_neg (by rw [hafter]; decide)

/-- The command with its last piece done. -/
def strayEnded : Long := { strayLoad with done := strayLoad.total, owed := strayLoading.owedBy 0 }

/-- The model's step: the piece's packets and its bytes, the plan's registration, and the command's end. -/
theorem strayStep : ∃ p, GivesDev (.longCommandStep 0 strayData true 0) strayState
    (ended (((strayOwes.baseTraffic 2 32 0).hbmWrite 0 none (2 * hbmSize) strayData).withPlan 0 p) strayEnded 0 0) := by
  obtain ⟨p, hplan⟩ := strayLoad_plan ((strayOwes.baseTraffic 2 32 0).hbmWrite 0 none (2 * hbmSize) strayData)
  have hpiece : (strayOwes.baseTraffic 2 32 0).hbmWrite 0 none (2 * hbmSize) strayData
      = strayOwes.hbmUnitWrite 0 (leAt strayLoad.entry 20 8 + strayLoad.done) ((strayData ++ List.replicate 32 0).take 32) := by
    rw [strayLoad_address]
    exact strayOwes_write.symm
  have hstep := exec_longCommandStep_plan (s := strayState) (i := 0) (x := strayLoad) rfl rfl rfl strayData 0
  have hlast := planStep_last (x := { strayLoad with owed := strayLoading.owedBy 0 }) rfl rfl (by decide) (by decide) hpiece (strayLoad_live _ _) hplan
  exact ⟨p, hstep.trans (congrArg (fun d => Host.Outcome.next { strayState with dev := d }) hlast)⟩

/-- The registers and records that the piece's packets leave are those of no device that `Traffic` allows. -/
theorem strayOwes_notTraffic {e : Dev} (htraffic : Traffic strayOwes e) (hview : (strayOwes.baseTraffic 2 32 0).regsAndTel = e.regsAndTel) : False := by
  obtain ⟨-, -, hrecords, hothers⟩ := htraffic
  have hquiet : (strayOwes.baseTraffic 2 32 0).waiting (srcMesh 2) = [] := by
    rw [Dev.waiting_of_regsAndTel hview, hrecords _ (by decide)]
    rfl
  exact Dev.strayTraffic_shows strayOwes_link 32 0 hquiet ((Dev.reg_of_regsAndTel hview _).trans (hothers _ strayCounter_notTraffic))

/-- The model's end of the step shows what the piece's packets left. -/
theorem strayEnd_model (p : Plan) :
    (ended (((strayOwes.baseTraffic 2 32 0).hbmWrite 0 none (2 * hbmSize) strayData).withPlan 0 p) strayEnded 0 0).regsAndTel = (strayOwes.baseTraffic 2 32 0).regsAndTel := by
  refine strayEnd_regsAndTel ?_ ?_ p rfl rfl
  · rw [Dev.fld, Dev.reg_strayTraffic strayOwes_link _ _ (by decide), strayOwes_reg]
    decide +kernel
  · rw [Dev.ringOn, Dev.fld, Dev.reg_strayTraffic strayOwes_link _ _ (by decide), strayOwes_reg]
    decide +kernel

/-- The statement's end of the step shows what the packets that it allows left. -/
theorem strayEnd_statement {e : Dev} (htraffic : Traffic strayOwes e) (p : Plan) :
    (ended ((e.hbmWrite 0 none (2 * hbmSize) strayData).withPlan 0 p) strayEnded 0 0).regsAndTel = e.regsAndTel := by
  refine strayEnd_regsAndTel ?_ ?_ p rfl rfl
  · rw [Dev.fld, htraffic.others _ (by decide +kernel), strayOwes_reg]
    decide +kernel
  · rw [Dev.ringOn, Dev.fld, htraffic.others _ (by decide +kernel), strayOwes_reg]
    decide +kernel

/-- Refutes O38: the last piece of a plan whose destination runs past both stacks, which PLAN_LOAD would refuse but the statement allows. The model counts the
piece's packets in the MESH_BR_IN of a side 2 (or records that counter's wrap), which the statement's `Traffic` leaves alone. -/
theorem not_longCommandSteps : ¬ Obligations.LongCommandSteps := by
  unfold Obligations.LongCommandSteps
  intro h
  obtain ⟨-, -, hstep, -⟩ := h strayState 0 0 strayData true
  obtain ⟨-, -, -, hpiece, -⟩ := hstep strayLoad rfl rfl rfl
  obtain ⟨h2, hwritten, -, -, hlast⟩ := hpiece rfl rfl (by decide) strayLoading_calm
  have hopen : strayOwes.contained ((leAt strayLoad.entry 20 8 + strayLoad.done) / hbmSize) ≠ true := by
    rw [strayLoad_address, Dev.contained, Dev.fld, strayOwes_reg]
    decide +kernel
  obtain ⟨e, htraffic, hbytes⟩ := (if_neg hopen).mp hwritten
  obtain ⟨q, hq⟩ := strayLoad_plan h2
  have hclaim : GivesDev (.longCommandStep 0 strayData true 0) strayState (ended (h2.withPlan 0 q) strayEnded 0 0) :=
    hlast q (strayLoad_live _ _) (by decide) hq
  have haddress : h2 = e.hbmWrite 0 none (2 * hbmSize) strayData := hbytes.trans (congrArg (fun a => e.hbmWrite 0 none a strayData) strayLoad_address)
  obtain ⟨p, hmodel⟩ := strayStep
  have hdev : ended (((strayOwes.baseTraffic 2 32 0).hbmWrite 0 none (2 * hbmSize) strayData).withPlan 0 p) strayEnded 0 0 = ended (h2.withPlan 0 q) strayEnded 0 0 := by
    injection hmodel.symm.trans hclaim with hstate
    exact congrArg State.dev hstate
  rw [haddress] at hdev
  exact strayOwes_notTraffic htraffic ((strayEnd_model p).symm.trans ((congrArg Dev.regsAndTel hdev).trans (strayEnd_statement htraffic q)))

end Sys2Proof.Claims
end

section
/-! SUPPORT. Credit windows: the grant at the head of a queue, and what a timeout keeps of the queues, of the cores' jobs and of the jobs' lives while others stop
(R183, R186, R204, R211, R222). -/

namespace Sys2Proof.Machine

theorem exec_creditGrant (k : Fin 512) (w : Fin 8) (s : State) : exec (.creditGrant k w) s = execCreditGrant k w s := rfl
theorem exec_creditTimeout (k : Fin 512) (w : Fin 8) (i : Nat) (s : State) : exec (.creditTimeout k w i) s = execCreditTimeout k w i s := rfl

/-! ### A counter of a core (R73, R76) -/

/-- A counter that rises writes its register, and leaves at most a wrap for the sequencer. -/
theorem Core.bump_eq (c : Core) (o n : Nat) :
    c.bump o n = { c.setReg o (wd ((c.reg o).toNat + n)) with out := if (c.reg o).toNat + n < 2 ^ 32 then c.out else c.out ++ [.wrap] } := by
  unfold Core.bump
  dsimp only
  split <;> rfl

/-- A write of another register leaves a core with its job. -/
theorem Core.jobOf_setReg (c : Core) {o : Nat} (w : Word) (ho : Off.CORE_JOB ≠ o) : (c.setReg o w).jobOf = c.jobOf := by
  simp only [Core.jobOf, Core.fld_setReg_ne c o _ _ w ho]

/-- A core that stops keeps its job. -/
theorem Core.jobOf_stopped (c : Core) (code slot addr : Nat) : (c.stopped code slot addr).jobOf = c.jobOf := by
  simp only [Core.stopped, Core.setFld]
  iterate 5 rw [Core.jobOf_setReg _ _ (by decide)]
  rfl

/-! ### The grant (R183, R204, R222) -/

/-- A core whose window `w` has granted its head request of `n` credits, with the requests `rest` still waiting. -/
def Core.granting (c : Core) (w n : Nat) (rest : List CwReq) : Core :=
  { c with cwAvail := Tab.set 0 c.cwAvail w (Tab.get 0 c.cwAvail w - n), cwq := Tab.set [] c.cwq w rest }

/-- The end of a wait for credits writes the sender's DMA_CREDIT_WAIT, and no other core. -/
theorem Dev.core_creditWaited (d : Dev) (r : CwReq) (hout : (d.core r.sender).out = []) :
    ∃ v, ∀ j, (d.creditWaited r).core j = if j = r.sender then (d.core j).setReg Off.DMA_CREDIT_WAIT v else d.core j := by
  obtain ⟨n, hn⟩ : ∃ n, d.creditWaited r = d.putCore r.sender ((d.core r.sender).bump Off.DMA_CREDIT_WAIT n) := ⟨_, rfl⟩
  have hwraps : ∀ e ∈ ((d.core r.sender).bump Off.DMA_CREDIT_WAIT n).out, e = .wrap := by
    rw [Core.bump_eq, hout]
    dsimp only
    split <;> simp
  refine ⟨wd (((d.core r.sender).reg Off.DMA_CREDIT_WAIT).toNat + n), fun j => ?_⟩
  rw [hn]
  split
  · next hj =>
    subst hj
    rw [Dev.putCore_wraps d _ hwraps, Core.bump_eq, ← hout]
    rfl
  · next hj =>
    refine (Dev.each_keeps_of_mem (fun d => d.core j) _ _ (fun d e he => ?_) _).trans ((Dev.core_setCore _ _ _ _).trans (if_neg hj))
    rw [hwraps e he]
    exact Dev.core_of_cores (d.emit_cores _) j

/-- The device after window `w` of core `k` has granted request `r`, made for transfer `x`. -/
def Dev.granted (d : Dev) (k w : Nat) (r : CwReq) (rest : List CwReq) (x : Xfer) : Dev :=
  ((d.setCore k ((d.core k).granting w r.credits rest)).creditWaited r).setXfer r.sender { x with credit := .granted }

section
variable {d : Dev} {k : Nat} {r : CwReq} (hother : r.sender ≠ k) (hout : (d.core r.sender).out = []) (w : Nat) (rest : List CwReq)
include hother hout

/-- The receiver and the sender of a grant, before the sender's transfer learns of it. -/
theorem Dev.cores_grantWaited : ∃ v,
    let e := (d.setCore k ((d.core k).granting w r.credits rest)).creditWaited r
    e.core k = (d.core k).granting w r.credits rest ∧ e.core r.sender = (d.core r.sender).setReg Off.DMA_CREDIT_WAIT v := by
  have hsender : (d.setCore k ((d.core k).granting w r.credits rest)).core r.sender = d.core r.sender := by rw [Dev.core_setCore, if_neg hother]
  obtain ⟨v, hcores⟩ := Dev.core_creditWaited _ r (hsender ▸ hout)
  refine ⟨v, ?_, ?_⟩
  · rw [hcores, if_neg hother.symm, Dev.core_setCore, if_pos rfl]
  · rw [hcores, if_pos rfl, hsender]

theorem Dev.granted_receiver (x : Xfer) : (d.granted k w r rest x).core k = (d.core k).granting w r.credits rest := by
  obtain ⟨v, hreceiver, -⟩ := Dev.cores_grantWaited hother hout w rest
  rw [Dev.granted, Dev.setXfer_eq, Dev.core_setCore, if_neg hother.symm, hreceiver]

/-- The sender's transfer may write. -/
theorem Dev.granted_xfer {x : Xfer} (hx : (d.core r.sender).xfer r.xfer = some x) :
    ((d.granted k w r rest x).core r.sender).xfer r.xfer = some { x with credit := .granted } := by
  obtain ⟨v, -, hsender⟩ := Dev.cores_grantWaited hother hout w rest
  have hid : x.id = r.xfer := Core.xfer_id hx
  rw [Dev.granted, Dev.setXfer_eq, Dev.core_setCore, if_pos rfl, hsender, ← hid]
  exact Core.xfer_withXfer (t := { x with credit := .granted }) (u := x) (hid ▸ hx)

end

/-- The head request of an enabled window, made for a transfer's own data, is granted in full when it fits. -/
theorem creditGrant_fits {s : State} {k : Fin 512} {w : Fin 8} {r : CwReq} {rest : List CwReq} {x : Xfer} (hq : Tab.get [] (s.dev.core k).cwq w.val = r :: rest)
    (hstate : (s.dev.core k).state ≠ .suspended) (hen : (s.dev.core k).fld (Off.CW_CFG w) Fl.CW_CFG_EN = 1) (hfits : r.credits ≤ Tab.get 0 (s.dev.core k).cwAvail w.val)
    (hhop : r.hop = 0) (hxfer : r.xfer ≠ 0) (hx : (s.dev.core r.sender).xfer r.xfer = some x) (honly : x.desc.grantOnly = false) :
    Claims.GivesDev (.creditGrant k w) s (s.dev.granted k w r rest x) := by
  have howner : s.dev.ownerOf r = r.sender := if_pos hhop
  have hgo : ¬((s.dev.core k).state = .suspended ∨ (s.dev.core k).fld (Off.CW_CFG w) Fl.CW_CFG_EN = 0 ∨ r.credits > Tab.get 0 (s.dev.core k).cwAvail w.val) := by
    simp [hstate, hen, hfits]
  rw [Claims.GivesDev, exec_creditGrant, execCreditGrant, onDev_next]
  simp only [hq, howner, hx, Option.any_some, honly, if_neg hgo, Bool.false_eq_true, false_and, if_false, hxfer, hhop, if_true]
  rfl

/-- A head request that does not fit waits. -/
theorem creditGrant_waits {s : State} {k : Fin 512} {w : Fin 8} {r : CwReq} {rest : List CwReq} (hq : Tab.get [] (s.dev.core k).cwq w.val = r :: rest)
    (hshort : Tab.get 0 (s.dev.core k).cwAvail w.val < r.credits) : Claims.Stays (.creditGrant k w) s := by
  rw [Claims.Stays, exec_creditGrant, execCreditGrant, onDev_next]
  simp only [hq, if_pos (Or.inr (Or.inr hshort))]

/-! ### What a timeout keeps while others stop (R72, R186) -/

/-- The requests at a core's windows, and the core's job. -/
def Core.queuesAndJob (c : Core) : Tab (List CwReq) × Option Nat := (c.cwq, c.jobOf)

/-- Every core keeps its windows' queues and its job, and no job becomes FREE. -/
structure Dev.KeepsQueues (d e : Dev) : Prop where
  cores : ∀ q, (e.core q).queuesAndJob = (d.core q).queuesAndJob
  lives : ∀ j, (d.job j).state ≠ .free → (e.job j).state ≠ .free

namespace Dev.KeepsQueues

theorem trans {d e f : Dev} (h : d.KeepsQueues e) (h' : e.KeepsQueues f) : d.KeepsQueues f where
  cores q := (h'.cores q).trans (h.cores q)
  lives j hj := h'.lives j (h.lives j hj)

/-- Cores that keep their queues and their jobs, and jobs that are as they were. -/
theorem of_jobs {d e : Dev} (hcores : ∀ q, (e.core q).queuesAndJob = (d.core q).queuesAndJob) (hjobs : e.jobs = d.jobs) : d.KeepsQueues e where
  cores := hcores
  lives j hj := by
    rw [Dev.job, hjobs]
    exact hj

/-- Cores and jobs that are as they were. -/
theorem of_cores {d e : Dev} (hcores : e.cores = d.cores) (hjobs : e.jobs = d.jobs) : d.KeepsQueues e :=
  of_jobs (fun q => by rw [Dev.core_of_cores hcores]) hjobs

theorem refl (d : Dev) : d.KeepsQueues d := of_cores rfl rfl

/-- Updates that keep the queues one by one keep them together. -/
theorem each {α : Type} {f : Dev → α → Dev} (h : ∀ (d : Dev) x, d.KeepsQueues (f d x)) (l : List α) (d : Dev) : d.KeepsQueues (d.each l f) := by
  induction l generalizing d with
  | nil => exact refl d
  | cons x l ih => exact (h d x).trans (ih (f d x))

theorem emit (d : Dev) (e : Ev) : d.KeepsQueues (d.emit e) := of_cores (d.emit_cores e) (d.emit_jobs e)

theorem sramRecord (d : Dev) (code src issuer holder gran : Nat) : d.KeepsQueues (d.sramRecord code src issuer holder gran) :=
  of_cores (d.sramRecord_cores code src issuer holder gran) (by simp only [Dev.sramRecord, Dev.free, Dev.emit_jobs])

/-- One core replaced by one with the same queues and job. -/
theorem setCore (d : Dev) (k : Nat) {c : Core} (h : c.queuesAndJob = (d.core k).queuesAndJob) : d.KeepsQueues (d.setCore k c) := by
  refine of_jobs (fun q => ?_) rfl
  rw [Dev.core_setCore]
  split
  · next hq => rw [hq, h]
  · rfl

theorem stopWithJob (d : Dev) (k : Nat) : d.KeepsQueues (d.stopWithJob k) := by
  have hview : ((d.core k).stopped cJOBFAILED 0 0).queuesAndJob = (d.core k).queuesAndJob := congrArg (Prod.mk (d.core k).cwq) (Core.jobOf_stopped _ _ _ _)
  unfold Dev.stopWithJob
  exact ((of_cores rfl rfl : d.KeepsQueues (d.abortStage k)).trans (setCore _ k hview)).trans (emit _ _)

theorem failJob (d : Dev) (j : Nat) : d.KeepsQueues (d.failJob j) where
  cores q := by
    unfold Dev.failJob
    dsimp only
    split
    · rfl
    · rw [Dev.core_of_cores (Dev.latchRelease_cores _ j _)]
      refine (Dev.each_keeps (fun d => (d.core q).queuesAndJob) _ _ (fun d k => (stopWithJob d k).cores q) _).trans ?_
      exact congrArg Core.queuesAndJob (Dev.core_of_cores (d.endPreempted_cores j) q)
  lives i hi := by
    by_cases hij : i = j
    · subst hij
      rw [d.failJob_self i hi]
      decide
    · rwa [d.failJob_ne hij]

theorem failCoreJob (d : Dev) (k : Nat) : d.KeepsQueues (d.failCoreJob k) := by
  unfold Dev.failCoreJob
  cases (d.core k).jobOf with
  | none => exact refl d
  | some j => exact failJob d j

/-- What a core left for its sequencer: records, and jobs that fail. -/
theorem coreEv (d : Dev) (k : Nat) (e : CoreEv) : d.KeepsQueues (d.coreEv k e) :=
  match e with
  | .wrap => emit d _
  | .ringUnder _ => emit d _
  | .rmwUe _ 0 => (sramRecord d _ _ _ _ _).trans (failCoreJob _ k)
  | .rmwUe _ (n + 1) => (sramRecord d _ _ _ _ _).trans (failCoreJob _ n)
  | .drift _ _ _ _ => emit d _

theorem putCore (d : Dev) (k : Nat) {c : Core} (h : c.queuesAndJob = (d.core k).queuesAndJob) : d.KeepsQueues (d.putCore k c) :=
  (setCore d k (c := { c with out := [] }) h).trans (each (fun d e => coreEv d k e) _ _)

/-- A counter of a core that rises. -/
theorem bump (d : Dev) (k : Nat) {o : Nat} (n : Nat) (ho : Off.CORE_JOB ≠ o) : d.KeepsQueues (d.onCore k (fun c => c.bump o n)) := by
  refine putCore d k ?_
  change ((d.core k).bump o n).queuesAndJob = _
  rw [Core.bump_eq]
  exact congrArg (Prod.mk (d.core k).cwq) (Core.jobOf_setReg (d.core k) _ ho)

theorem creditWaited (d : Dev) (r : CwReq) : d.KeepsQueues (d.creditWaited r) := bump d r.sender _ (by decide)

theorem tagDone (d : Dev) (k : Nat) : d.KeepsQueues (d.tagDone k) := by
  unfold Dev.tagDone
  split
  · exact refl d
  · exact (setCore d k (c := { d.core k with tagSince := none }) rfl).trans (bump _ k (d.tagWaited k) (by decide))

theorem dropChain (d : Dev) (k x : Nat) : d.KeepsQueues (d.dropChain k x) :=
  of_jobs (fun q => Dev.dropChain_core d k x q Core.queuesAndJob (fun _ _ => rfl)) rfl

theorem dmaRecord (d : Dev) (e : Nat) (t : Xfer) (code obj hop det : Nat) : d.KeepsQueues (d.dmaRecord e t code obj hop det) := emit d _

/-- A transfer that stops. -/
theorem xferFail (d : Dev) (k x : Nat) : d.KeepsQueues (d.xferFail k x) := by
  unfold Dev.xferFail
  split
  · next t _ =>
    have hfreed := (each tagDone ((d.cores.filter (fun e => e.1 == k || e.2.fwdQ.any (fun q => q.1 == k && q.2.1 == x))).map (·.1)) d).trans (dropChain _ k x)
    dsimp only
    split
    · exact hfreed.trans (setCore _ k rfl)
    · exact hfreed.trans (setCore _ k rfl)
  · exact refl d

end Dev.KeepsQueues

/-! ### The timeout (R186, R211) -/

/-- The job of a core fails, if it is not FREE. -/
theorem Dev.failCoreJob_self (d : Dev) {k j : Nat} (hjob : (d.core k).jobOf = some j) (hlives : (d.job j).state ≠ .free) :
    ((d.failCoreJob k).job j).state = .failed := by
  unfold Dev.failCoreJob
  rw [hjob]
  exact d.failJob_self j hlives

/-- The device without request `i` of window `w` of core `k`. -/
def Dev.unqueue (d : Dev) (k w i : Nat) : Dev := d.setCore k { d.core k with cwq := Tab.set [] (d.core k).cwq w ((Tab.get [] (d.core k).cwq w).eraseIdx i) }

theorem Dev.queue_unqueue (d : Dev) (k w i : Nat) : Tab.get [] ((d.unqueue k w i).core k).cwq w = (Tab.get [] (d.core k).cwq w).eraseIdx i := by
  rw [Dev.unqueue, Dev.core_setCore, if_pos rfl]
  exact Tab.get_set_same _ _ _ _

theorem Dev.jobOf_unqueue (d : Dev) (k w i q : Nat) : ((d.unqueue k w i).core q).jobOf = (d.core q).jobOf := by
  rw [Dev.unqueue, Dev.core_setCore]
  split
  · next hq =>
    rw [hq]
    rfl
  · rfl

/-- The device as request `r`, the `i`-th of window `w` of core `k`, has timed out, before its job fails: transfer `t` of core `o` has stopped. -/
def Dev.timedOut (d : Dev) (k w i : Nat) (r : CwReq) (o : Nat) (t : Xfer) : Dev :=
  (((d.unqueue k w i).creditWaited r).dmaRecord r.sender t 0x05 (k + w * 2 ^ 16) r.hop r.credits).xferFail o r.xfer

theorem Dev.keepsQueues_timedOut (d : Dev) (k w i : Nat) (r : CwReq) (o : Nat) (t : Xfer) : (d.unqueue k w i).KeepsQueues (d.timedOut k w i r o t) :=
  ((Dev.KeepsQueues.creditWaited _ r).trans (Dev.KeepsQueues.dmaRecord _ _ t _ _ _ _)).trans (Dev.KeepsQueues.xferFail _ o r.xfer)

/-- A request that has waited longer than its sender's STALL_LIMIT leaves the queue, is recorded with both parties, and its transfer stops and its job
fails. -/
theorem creditTimeout_expires {s : State} {k : Fin 512} {w : Fin 8} {i : Nat} {r : CwReq} (hi : (Tab.get [] (s.dev.core k).cwq w.val)[i]? = some r)
    (hlate : s.dev.tick - r.since > (s.dev.core r.sender).fld Off.STALL_LIMIT Fl.STALL_LIMIT_TICKS) :
    ∃ o t, Claims.GivesDev (.creditTimeout k w i) s ((s.dev.timedOut k w i r o t).failCoreJob r.sender) := by
  simp only [Claims.GivesDev, exec_creditTimeout, execCreditTimeout, onDev_next, hi, if_neg (Nat.not_le_of_gt hlate)]
  exact ⟨_, _, rfl⟩

end Sys2Proof.Machine

namespace Sys2Proof.Claims
open Sys2Proof Sys2Proof.Machine

/-- Settles O20: the grant by the cores it writes, the timeout by what its stops keep: the queues, the cores' jobs, and that no job becomes FREE. -/
theorem credits : Obligations.Credits := by
  unfold Obligations.Credits
  intro s k w
  dsimp only
  refine ⟨fun r rest x hq hstate hen hfits hhop hxfer hother hout hx honly => ?grant, fun r rest => creditGrant_waits, fun i r j hi hlate _ hjob hlives => ?timeout⟩
  case grant =>
    have hreceiver := Dev.granted_receiver hother hout w rest x
    refine ⟨_, creditGrant_fits hq hstate hen hfits hhop hxfer hx honly, ?_, ?_, Dev.granted_xfer hother hout w rest hx, (congrArg Core.mem hreceiver).trans rfl⟩
    · exact (congrArg (fun c => Tab.get 0 c.cwAvail w.val) hreceiver).trans (Tab.get_set_same _ _ _ _)
    · exact (congrArg (fun c => Tab.get [] c.cwq w.val) hreceiver).trans (Tab.get_set_same _ _ _ _)
  case timeout =>
    obtain ⟨o, t, hgives⟩ := creditTimeout_expires hi hlate
    have hkeeps := s.dev.keepsQueues_timedOut k w i r o t
    refine ⟨_, hgives, ?_, ?_⟩
    · have hqueues := congrArg Prod.fst ((hkeeps.trans (Dev.KeepsQueues.failCoreJob _ r.sender)).cores k)
      exact (congrArg (fun q => Tab.get [] q w.val) hqueues).trans (s.dev.queue_unqueue k w i)
    · have hsender := (congrArg Prod.snd (hkeeps.cores r.sender)).trans (s.dev.jobOf_unqueue k w i r.sender)
      exact Dev.failCoreJob_self _ (hsender.trans hjob) (hkeeps.lives j hlives)

end Sys2Proof.Claims
end

section
/-! SUPPORT. What a write to HBM stores, whatever injection waits in the mesh (O22). -/

namespace Sys2Proof.Machine

/-- From `d` to `e` bytes have been written to HBM, which now holds `m`: the cores stay, no granule has come into error, and no register but the busy ones has changed. -/
structure Dev.Stores (d e : Dev) (m : Mem) : Prop where
  regs : ∀ o, o ∉ busyRegs → e.reg o = d.reg o
  cores : e.cores = d.cores
  hbm : e.hbm = m
  ue : d.hbmUe = [] → e.hbmUe = []
  ce : ∀ g ∈ e.hbmCe, g ∈ d.hbmCe

theorem Dev.Stores.refl (d : Dev) : d.Stores d d.hbm := ⟨fun _ _ => rfl, rfl, rfl, id, fun _ => id⟩

theorem Dev.Stores.trans {d e f : Dev} {m n : Mem} (h : d.Stores e m) (h' : e.Stores f n) : d.Stores f n :=
  ⟨fun o ho => (h'.regs o ho).trans (h.regs o ho), h'.cores.trans h.cores, h'.hbm, fun hue => h'.ue (h.ue hue), fun g hg => h.ce g (h'.ce g hg)⟩

/-- What a write to HBM needs to store its bytes: they lie in the stacks and outside the stream table, and neither an uncorrectable error nor an injection waits. -/
structure Dev.Storable (d : Dev) (a n : Nat) : Prop where
  ends : a + n ≤ 2 * hbmSize
  table : d.inTable a n = false
  ue : d.hbmUe = []
  inject : ∀ side : Fin 2, d.fld ((Block.hbm side).base + Off.HBM_EXP) Fl.HBM_EXP_ECC_INJ = 0

theorem Dev.Storable.part {d : Dev} {a n b l : Nat} (h : d.Storable a n) (hlo : a ≤ b) (hhi : b + l ≤ a + n) : d.Storable b l :=
  { h with ends := hhi.trans h.ends, table := Dev.inTable_part h.table hlo hhi }

/-- The bases of the stream table and the injections stand in registers that a write leaves. -/
theorem Dev.Storable.stores {d e : Dev} {m : Mem} {a n : Nat} (h : d.Storable a n) (he : d.Stores e m) : e.Storable a n where
  ends := h.ends
  table := by
    have hbase (side : Fin 2) : e.stBase side = d.stBase side := by
      rw [Dev.stBase, he.regs _ (by revert side; decide), he.regs _ (by revert side; decide)]
      rfl
    have h0 : e.stBase 0 = d.stBase 0 := hbase 0
    have h1 : e.stBase 1 = d.stBase 1 := hbase 1
    have htable := h.table
    simp only [Dev.inTable, List.any_cons, List.any_nil, h0, h1] at htable ⊢
    exact htable
  ue := he.ue h.ue
  inject side := by
    rw [Dev.fld, he.regs _ (by revert side; decide)]
    exact h.inject side

/-- A counter of a stack stores nothing. -/
theorem Dev.hbmCount_stores (d : Dev) {s : Nat} (hs : s < 2) {o : Nat} (ho : o ∈ [Off.HBM_RMW, Off.HBM_CE]) (n : Nat) : d.Stores (d.hbmCount s o n) d.hbm := by
  have hbusy : (Block.hbm s).base + o ∈ busyRegs := by
    have hall : ∀ s : Fin 2, ∀ o ∈ [Off.HBM_RMW, Off.HBM_CE], (Block.hbm s).base + o ∈ busyRegs := by decide +kernel
    exact hall ⟨s, hs⟩ o ho
  have hdrops : Block.tel.base + Off.TEL_SRC_DROPS ∈ busyRegs := List.mem_cons_self
  obtain ⟨t, r, hframe⟩ := d.bump_frame ((Block.hbm s).base + o) n { cls := kECC, code := 0x0D, src := srcHbm s }
  have hregs : ∀ p, p ∉ busyRegs → (d.hbmCount s o n).reg p = d.reg p :=
    fun p hp => Dev.reg_bump _ _ _ _ (fun h => hp (h ▸ hbusy)) (fun h => hp (h ▸ hdrops))
  rw [Dev.hbmCount, hframe] at hregs ⊢
  exact ⟨hregs, rfl, rfl, id, fun _ => id⟩

/-- The bytes of a granule land in it, and errors that it had are gone. -/
theorem Dev.landed_stores (d : Dev) (g a : Nat) (bs : List Byte) :
    d.Stores { d with hbm := d.hbm.write a bs, hbmUe := d.hbmUe.filter (· != g), hbmCe := d.hbmCe.filter (· != g) } (d.hbm.write a bs) where
  regs _ _ := rfl
  cores := rfl
  hbm := rfl
  ue hue := by
    change d.hbmUe.filter _ = []
    rw [hue, List.filter_nil]
  ce _ hg := (List.mem_filter.mp hg).1

theorem Dev.hbmGran_stores {d : Dev} (src : Nat) (core : Option Nat) {p : Nat × List Byte} (hpos : 0 < p.2.length) (h : d.Storable p.1 p.2.length) :
    d.Stores (Dev.hbmGran src core d p) (d.hbm.write p.1 p.2) := by
  have hside : p.1 / hbmSize < 2 := by
    have := h.ends
    exact Nat.div_lt_of_lt_mul (by omega)
  have hrmw : d.Stores (if p.2.length == 32 then d else d.hbmCount (p.1 / hbmSize) Off.HBM_RMW 1) d.hbm := by
    split
    · exact Dev.Stores.refl d
    · exact d.hbmCount_stores hside (by decide) 1
  unfold Dev.hbmGran
  dsimp only
  generalize (if p.2.length == 32 then d else d.hbmCount (p.1 / hbmSize) Off.HBM_RMW 1) = e at hrmw
  have he := h.stores hrmw
  rw [if_neg (by rw [he.table]; decide), if_neg (by rw [he.ue]; simp)]
  have hce : e.Stores (if !(p.2.length == 32) && e.hbmCe.contains (p.1 / 32) then e.hbmCount (p.1 / hbmSize) Off.HBM_CE 1 else e) e.hbm := by
    split
    · exact e.hbmCount_stores hside (by decide) 1
    · exact Dev.Stores.refl e
  generalize (if !(p.2.length == 32) && e.hbmCe.contains (p.1 / 32) then e.hbmCount (p.1 / hbmSize) Off.HBM_CE 1 else e) = f at hce
  have hf := he.stores hce
  have hinject : f.fld ((Block.hbm (p.1 / hbmSize)).base + Off.HBM_EXP) Fl.HBM_EXP_ECC_INJ = 0 := hf.inject ⟨_, hside⟩
  have hwrite := (hrmw.trans hce).trans (f.landed_stores (p.1 / 32) p.1 p.2)
  rw [hce.hbm, hrmw.hbm] at hwrite ⊢
  split
  · next hone => exact absurd (hone.symm.trans hinject) (by decide)
  · next htwo => exact absurd (htwo.symm.trans hinject) (by decide)
  · exact hwrite

/-- The pieces of a write, landed in turn. -/
theorem Dev.each_hbmGran_stores (src : Nat) (core : Option Nat) {d : Dev} {a n : Nat} (h : d.Storable a n) (l : List (Nat × List Byte))
    (hl : ∀ p ∈ l, a ≤ p.1 ∧ p.1 + p.2.length ≤ a + n ∧ 0 < p.2.length) :
    d.Stores (l.foldl (Dev.hbmGran src core) d) (l.foldl (fun m p => m.write p.1 p.2) d.hbm) := by
  induction l generalizing d with
  | nil => exact Dev.Stores.refl d
  | cons p l ih =>
    obtain ⟨hlo, hhi, hpos⟩ := hl p List.mem_cons_self
    have hp := Dev.hbmGran_stores src core hpos (h.part hlo hhi)
    have hrest := ih (h.stores hp) (fun q hq => hl q (List.mem_cons_of_mem _ hq))
    rw [hp.hbm] at hrest
    exact hp.trans hrest

theorem Dev.hbmWrite_stores (src : Nat) (core : Option Nat) {d : Dev} {a : Nat} {bs : List Byte} (h : d.Storable a bs.length) :
    d.Stores (d.hbmWrite src core a bs) (d.hbm.write a bs) := by
  have huse : d.Stores (d.hbmUse a) d.hbm := by
    obtain ⟨q, hframe⟩ := d.hbmUse_frame a
    rw [hframe]
    exact ⟨fun _ _ => rfl, rfl, rfl, id, fun _ => id⟩
  have hpieces := Dev.each_hbmGran_stores src core (h.stores huse) (cut 32 bs.length a bs) (fun _ hp => cut_bounds (by decide) _ _ _ hp)
  rw [cut_write (by decide) _ _ _ _ (Nat.le_refl _), huse.hbm] at hpieces
  exact huse.trans hpieces

end Sys2Proof.Machine

namespace Sys2Proof.Claims
open Sys2Proof Sys2Proof.Machine

/-- Settles O22: each piece of the write stores its bytes, and the pieces written in turn are the write. -/
theorem hbmWriteStoresItsBytes : Obligations.HbmWriteStoresItsBytes := by
  unfold Obligations.HbmWriteStoresItsBytes
  intro d src a core bs hends htable hue hinject
  have hstores := Dev.hbmWrite_stores src core (Dev.Storable.mk hends htable hue hinject)
  exact ⟨hstores.hbm, hstores.ue hue, hstores.cores, hstores.ce⟩

end Sys2Proof.Claims
end

section
/-! SUPPORT. Counters that wrap, records that their source has no room for, and a read of a damaged log slot (R512–R514). -/

namespace Sys2Proof.Machine

/-! ### Counters at their maximum (R73) -/

/-- A counter at its maximum wraps to 0 and writes its event. -/
theorem Dev.bump_max (d : Dev) (o : Nat) (e : Ev) (h : d.reg o = 0xFFFFFFFF) : d.bump o 1 e = (d.setReg o 0).emit e := by
  rw [Dev.bump_wrap d o 1 e (by rw [h]; decide), h]
  rfl

/-- A counter short of its maximum rises by 1. -/
theorem Dev.bump_below_max (d : Dev) (o : Nat) (e : Ev) (h : d.reg o ≠ 0xFFFFFFFF) : d.bump o 1 e = d.setReg o (wd ((d.reg o).toNat + 1)) ∧ (d.reg o).toNat + 1 < 2 ^ 32 := by
  have hlt : (d.reg o).toNat + 1 < 2 ^ 32 := by
    have hne : (d.reg o).toNat ≠ 0xFFFFFFFF := fun hmax => h (BitVec.eq_of_toNat_eq hmax)
    have := (d.reg o).isLt
    omega
  exact ⟨d.bump_small o 1 e hlt, hlt⟩

/-- A number that a word holds. -/
theorem toNat_wd {n : Nat} (h : n < 2 ^ 32) : (wd n).toNat = n := Nat.mod_eq_of_lt h

/-! ### Records and the room at their source (R512) -/

/-- A record with room at its source leaves those that wait at the other sources. -/
theorem Dev.waiting_emit_other (d : Dev) (e : Ev) (hroom : (d.waiting e.src).length < 8) {x : Nat} (hx : x ≠ e.src) : (d.emit e).waiting x = d.waiting x := by
  unfold Dev.emit
  dsimp only
  rw [if_pos hroom, Dev.waiting_setWaiting, if_neg hx]
  rfl

/-- A record without room at its source is counted in TEL_SRC_DROPS, and of the telemetry block it leaves its class alone. -/
theorem Dev.emit_full (d : Dev) (e : Ev) (hfull : 8 ≤ (d.waiting e.src).length) (hdrops : (d.reg (Block.tel.base + Off.TEL_SRC_DROPS)).toNat + 1 < 2 ^ 32) :
    d.emit e = { d with tel := { d.tel with last := e.cls } }.setReg (Block.tel.base + Off.TEL_SRC_DROPS) (wd ((d.reg (Block.tel.base + Off.TEL_SRC_DROPS)).toNat + 1)) := by
  have hshort : (d.reg (Block.tel.base + Off.TEL_SRC_DROPS)).toNat + 1 ≠ 2 ^ 32 := by omega
  unfold Dev.emit
  dsimp only
  exact (if_neg (by omega)).trans (if_pos hshort)

/-! ### The read of a log slot (R513, R514) -/

/-- A reader takes a slot's record into its shadow, and word 0 is the answer. -/
def Dev.showSlot (d : Dev) (who slot : Nat) (r : Record) : Dev :=
  { d with tel := { d.tel with shadow := Tab.set none d.tel.shadow who (some (slot, r)) }, answer := [r.word 0] }

/-- The device after free values were taken. -/
def Dev.spend (d : Dev) (n : Nat) : Dev := { d with fresh := d.fresh + n }

/-- Free values taken one by one. -/
theorem spend_foldl {α : Type} (l : List α) (bs : List Byte) (d : Dev) :
    (l.foldl (fun (a : List Byte × Dev) _ => (a.1 ++ natLE 4 a.2.free.1.toNat, a.2.free.2)) (bs, d)).2 = d.spend l.length := by
  induction l generalizing bs d with
  | nil => rfl
  | cons _ l ih =>
    rw [List.foldl_cons, ih, List.length_cons, Nat.add_comm l.length 1]
    exact congrArg (fun n => { d with fresh := n }) (Nat.add_assoc d.fresh 1 l.length)

/-- A damaged slot reads as eight free values. -/
theorem Dev.damaged_snd (d : Dev) : d.damaged.2 = d.spend 8 := spend_foldl (List.range 8) [] d

/-- A read of word 0 of a damaged slot is counted, and answers a record of class 0. -/
theorem exec_logSlotRead_damaged (who : Who) (i : Fin 8192) (s : State) (h : i.val % 8 = 0) : exec (.logSlotRead who i true) s =
    .next { s with dev := ((s.dev.spend 8).telCount Off.TEL_LOG_LOST).showSlot (whoKey who) (i / 8) s.dev.damaged.1 } := by
  change execLogSlotRead who i true s = _
  unfold execLogSlotRead Dev.logRead Dev.slotNow
  simp only [onDev_next, h, if_true, s.dev.damaged_snd, Dev.showSlot]

end Sys2Proof.Machine
end

section
/-! SUPPORT. The counters that wrap (O59). -/

namespace Sys2Proof.Claims
open Sys2Proof Sys2Proof.Machine

theorem replay_ne_drops (side : Nat) : (Block.mesh side).base + Off.MESH_BR_REPLAY ≠ Block.tel.base + Off.TEL_SRC_DROPS := by
  simp only [Block.base, Off.MESH_BR_REPLAY, Off.TEL_SRC_DROPS]
  omega

/-- The event of a counter that wraps, where its source has room for it. -/
theorem wraps_recorded (d : Dev) (o src : Nat) (hmax : d.reg o = 0xFFFFFFFF) (hroom : (d.waiting src).length < 8) (ho : o ≠ Block.tel.base + Off.TEL_SRC_DROPS) :
    let e := d.bump o 1 { cls := kECC, code := 0x0D, src := src }
    e.reg o = 0 ∧ Recorded e src kECC 0x0D ∧ (e.waiting src).length = (d.waiting src).length + 1 ∧ ∀ x, x ≠ src → e.waiting x = d.waiting x := by
  dsimp only
  rw [d.bump_max o _ hmax]
  refine ⟨?_, recorded_emit _ { cls := kECC, code := 0x0D, src := src } hroom (show kECC < 256 by decide) (show 0x0D < 256 by decide), ?_, ?_⟩
  · rw [Dev.reg_emit _ _ _ ho, Dev.reg_setReg, if_pos rfl]
  · have hwaiting := Dev.waiting_emit (d.setReg o 0) { cls := kECC, code := 0x0D, src := src } hroom
    exact (congrArg List.length hwaiting).trans List.length_append
  · exact fun x hx => Dev.waiting_emit_other _ _ hroom hx

/-- The event of a counter that wraps, where its source has no room for it. -/
theorem wraps_dropped (d : Dev) (o src : Nat) (hmax : d.reg o = 0xFFFFFFFF) (hfull : 8 ≤ (d.waiting src).length) (ho : o ≠ Block.tel.base + Off.TEL_SRC_DROPS)
    (hdrops : (d.reg (Block.tel.base + Off.TEL_SRC_DROPS)).toNat + 1 < 2 ^ 32) :
    let e := d.bump o 1 { cls := kECC, code := 0x0D, src := src }
    e.reg o = 0 ∧ { e.tel with last := d.tel.last } = d.tel
      ∧ (e.reg (Block.tel.base + Off.TEL_SRC_DROPS)).toNat = (d.reg (Block.tel.base + Off.TEL_SRC_DROPS)).toNat + 1 := by
  have hother : (d.setReg o 0).reg (Block.tel.base + Off.TEL_SRC_DROPS) = d.reg (Block.tel.base + Off.TEL_SRC_DROPS) := Dev.reg_setReg_other _ _ _ _ ho.symm
  dsimp only
  rw [d.bump_max o _ hmax, Dev.emit_full (d.setReg o 0) { cls := kECC, code := 0x0D, src := src } hfull (by rw [hother]; exact hdrops), hother]
  refine ⟨?_, rfl, ?_⟩
  · rw [Dev.reg_setReg_other _ _ _ _ ho]
    exact (Dev.reg_setReg _ _ _ _).trans (if_pos rfl)
  · rw [Dev.reg_setReg, if_pos rfl]
    exact toNat_wd hdrops

/-- A counter that does not wrap rises, and nothing else changes. -/
theorem bump_rises (d : Dev) (o : Nat) (e : Ev) (hshort : d.reg o ≠ 0xFFFFFFFF) :
    ((d.bump o 1 e).reg o).toNat = (d.reg o).toNat + 1 ∧ (d.bump o 1 e).tel = d.tel ∧ ∀ p, p ≠ o → (d.bump o 1 e).reg p = d.reg p := by
  obtain ⟨hbump, hlt⟩ := d.bump_below_max o e hshort
  rw [hbump]
  refine ⟨?_, rfl, fun p hp => Dev.reg_setReg_other _ _ _ _ hp⟩
  rw [Dev.reg_setReg, if_pos rfl]
  exact toNat_wd hlt

/-- Settles O59: a read of a damaged log slot and a replayed flit each raise one counter, whose event is recorded, dropped for want of room, or not due. -/
theorem countersWrap : Obligations.CountersWrap := by
  unfold Obligations.CountersWrap
  intro s side router who n
  dsimp only
  have hne := replay_ne_drops side
  have hflit (hrow : 12 ≤ router.val) := exec_bridgeFlitError side router s (not_lt.mpr hrow)
  refine ⟨?lost, fun hrow again => exec_bridgeFlitError_row side router again s hrow, ?recorded, ?dropped, ?short⟩
  case lost =>
    intro hn hmax hroom
    obtain ⟨hreg, hrec, hlen, -⟩ := wraps_recorded (s.dev.spend 8) (Block.tel.base + Off.TEL_LOG_LOST) 0x0C hmax hroom (by decide)
    exact ⟨_, exec_logSlotRead_damaged who n s hn, hreg, hrec, hlen⟩
  case recorded =>
    intro hrow hmax hroom
    obtain ⟨hreg, hrec, -, hothers⟩ := wraps_recorded s.dev _ (srcMesh side) hmax hroom hne
    exact ⟨_, hflit hrow, hreg, hrec, hothers⟩
  case dropped => exact fun hrow hmax hfull hdrops => ⟨_, hflit hrow, wraps_dropped s.dev _ (srcMesh side) hmax hfull hne hdrops⟩
  case short => exact fun hrow hshort => ⟨_, hflit hrow, bump_rises s.dev _ _ hshort⟩

end Sys2Proof.Claims
end

section
/-! SUPPORT. A job of a client past the 32, whose preempted time stands where a sensor's reading does (R320, R521, R522). -/

namespace Sys2Proof.Machine

/-- The device at reset, but for the fabric of side 0, which is ON, a sample of sensor 5 at 105 °C, and a preempted job on core 0 whose client is number 16260:
the low half of that client's preempted time has the offset of TEL_TEMP(5). -/
def Dev.strayClient : Dev :=
  { Dev.atReset.setDom (shFabric 0) 2 with
    tick := 1, hot := [(5, 1)], jobs := [(0, { Job.free with state := .resident, client := 16260, mask := 1, preemptAt := some 0 })] }

/-- The device once sensor 5 has read 105 °C, 1680 sixteenths of a degree, before its heat is looked at. -/
def Dev.strayRead : Dev :=
  ((Dev.strayClient.setFld (Block.tel.base + Off.TEL_TEMP 5) Fl.TEL_TEMP_TEMP 1680).setFld (Block.tel.base + Off.TEL_TEMP 5) Fl.TEL_TEMP_VALID 1).tempMax

theorem strayClient_sensorOn : Dev.strayClient.sensorOn 5 = true := by decide +kernel

theorem exec_sensorSample_stray : exec (.sensorSample 5 1680) { State.reset with dev := Dev.strayClient } =
    .next { State.reset with dev := Dev.strayRead.thermal 5 1680 } := by
  change execSensorSample 5 1680 _ = _
  unfold execSensorSample
  rw [onDev_next]
  exact congrArg (fun e : Dev => Host.Outcome.next { State.reset with dev := e }) (if_neg (show ¬ Dev.strayClient.sensorOn 5 = false by rw [strayClient_sensorOn]; decide))

/-- The second sample at 105 °C in a row contains side 0, which fails the job: the 1 tick of its preempted time is added to the reading. -/
theorem strayRead_thermal : (Dev.strayRead.thermal 5 1680).fld (Block.tel.base + Off.TEL_TEMP (5 : Fin 24)) Fl.TEL_TEMP_TEMP = 1681 := by decide +kernel

end Sys2Proof.Machine

namespace Sys2Proof.Claims
open Sys2Proof Sys2Proof.Machine

/-- Refutes O42: sensor 5 is sampled at 105 °C a second time while a preempted job's client is number 16260. The containment ends that client's preempted time, which
the model adds in the register that holds the reading, so TEL_TEMP(5) shows 1681 where the statement has the 1680 of the sample. -/
theorem not_railsSensorsLog : ¬ Obligations.RailsSensorsLog := by
  unfold Obligations.RailsSensorsLog
  intro h
  obtain ⟨-, -, -, -, hsensor, -⟩ := h { State.reset with dev := Dev.strayClient } 0
  obtain ⟨-, hon⟩ := hsensor 5 1680
  obtain ⟨⟨t, hexec, htemp, -⟩, -⟩ := hon strayClient_sensorOn
  rw [exec_sensorSample_stray] at hexec
  cases hexec
  dsimp only at htemp
  rw [strayRead_thermal] at htemp
  exact absurd htemp (by decide)

end Sys2Proof.Claims
end

section
/-! SUPPORT. Packets between the units of the device while no injection waits: they move the counters of traffic and leave the records of those that wrap, and nothing else (R228, R245). -/

namespace Sys2Proof.Machine

/-- From `d` to `e` packets have passed, and no injection waits. -/
structure Dev.Passes (d e : Dev) : Prop where
  traffic : Claims.Traffic d e
  calm : Claims.Calm e

theorem Dev.Passes.refl {d : Dev} (h : Claims.Calm d) : d.Passes d := ⟨⟨rfl, rfl, fun _ _ => rfl, fun _ _ => rfl⟩, h⟩

theorem Dev.Passes.trans {d e f : Dev} (h : d.Passes e) (h' : e.Passes f) : d.Passes f := by
  obtain ⟨⟨hrest, hlog, hrecords, hothers⟩, -⟩ := h
  obtain ⟨⟨hrest', hlog', hrecords', hothers'⟩, hcalm⟩ := h'
  refine ⟨⟨?_, ?_, fun src hsrc => (hrecords' src hsrc).trans (hrecords src hsrc), fun o ho => (hothers' o ho).trans (hothers o ho)⟩, hcalm⟩
  · rw [← hrest, ← hrest']
  · rw [← hlog, ← hlog']

/-- A list of updates, each of which packets pass. -/
theorem Dev.each_passes {α : Type} {d : Dev} (l : List α) (f : Dev → α → Dev) (h : ∀ e, Claims.Calm e → ∀ x ∈ l, e.Passes (f e x)) (hcalm : Claims.Calm d) :
    d.Passes (d.each l f) := by
  induction l generalizing d with
  | nil => exact Dev.Passes.refl hcalm
  | cons x l ih =>
    have hx := h d hcalm x List.mem_cons_self
    exact hx.trans (ih (fun e he y hy => h e he y (List.mem_cons_of_mem _ hy)) hx.calm)

/-- A record changes neither the log nor the readers' shadows. -/
theorem Dev.emit_log (d : Dev) (e : Ev) : { (d.emit e).tel with waiting := d.tel.waiting, last := d.tel.last } = d.tel := by
  unfold Dev.emit
  dsimp only
  split
  · rfl
  · split
    · rfl
    · split <;> rfl

theorem Dev.bump_log (d : Dev) (o n : Nat) (e : Ev) : { (d.bump o n e).tel with waiting := d.tel.waiting, last := d.tel.last } = d.tel := by
  unfold Dev.bump
  dsimp only
  split
  · rfl
  · exact Dev.emit_log (d.setReg o _) e

/-- The counters of the mesh that packets move. -/
theorem Dev.meshCount_passes {d : Dev} (hcalm : Claims.Calm d) {s : Nat} (hs : s < 2) {o : Nat} (ho : o ∈ [Off.MESH_LINK_FLITS, Off.MESH_BR_OUT, Off.MESH_BR_IN]) (n : Nat) :
    d.Passes (d.meshCount s o n) := by
  have hcounted : (Block.mesh s).base + o ∈ Claims.trafficRegs := by
    have hall : ∀ s : Fin 2, ∀ o ∈ [Off.MESH_LINK_FLITS, Off.MESH_BR_OUT, Off.MESH_BR_IN], (Block.mesh s).base + o ∈ Claims.trafficRegs := by decide +kernel
    exact hall ⟨s, hs⟩ o ho
  have hsource : srcMesh s ∈ [srcMesh 0, srcMesh 1, 0x0C] := by
    have hall : ∀ s : Fin 2, srcMesh s ∈ [srcMesh 0, srcMesh 1, 0x0C] := by decide
    exact hall ⟨s, hs⟩
  have hdrops : Block.tel.base + Off.TEL_SRC_DROPS ∈ Claims.trafficRegs := List.mem_cons_self
  have htel : 0x0C ∈ [srcMesh 0, srcMesh 1, 0x0C] := by decide
  obtain ⟨t, r, hframe⟩ := d.bump_frame ((Block.mesh s).base + o) n { cls := kECC, code := 0x0D, src := srcMesh s }
  refine ⟨⟨by rw [Dev.meshCount, hframe], d.bump_log _ _ _, fun src hsrc => ?_, fun p hp => ?_⟩, (Dev.meshCount_moved hcalm hs ho n).calm⟩
  · exact Dev.waiting_bump_ne _ _ _ _ (fun h => hsrc (h ▸ hsource)) (fun h => hsrc (h ▸ htel))
  · exact Dev.reg_bump _ _ _ _ (fun h => hp (h ▸ hcounted)) (fun h => hp (h ▸ hdrops))

/-- A field written with the value it has leaves its register. -/
theorem Fld.put_get (f : Fld) (w : Word) : f.put w (f.get w) = w := by
  have hparts (x a l : Nat) : x % a + x / a % l * a + x / a / l * (a * l) = x := by
    calc x % a + x / a % l * a + x / a / l * (a * l) = a * (l * (x / a / l) + x / a % l) + x % a := by ring
      _ = x := by rw [Nat.div_add_mod, Nat.div_add_mod]
  unfold Fld.put Fld.get
  rw [Nat.mod_mod, Nat.pow_add, ← Nat.div_div_eq_div_mul, hparts, BitVec.ofNat_toNat, BitVec.setWidth_eq]

/-- Where no injection waits, none is spent. -/
theorem Dev.spendInjection_passes {d : Dev} (hcalm : Claims.Calm d) {s : Nat} (hs : s < 2) : d.Passes (d.spendInjection Dev.contain s) := by
  have hnone : d.fld ((Block.mesh s).base + Off.MESH_EXP) Fl.MESH_EXP_ECC_INJ = 0 := hcalm ⟨s, hs⟩
  have hspend : d.spendInjection Dev.contain s = d.setFld ((Block.mesh s).base + Off.MESH_EXP) Fl.MESH_EXP_ECC_INJ 0 := by
    unfold Dev.spendInjection
    dsimp only
    rw [hnone, if_neg (by decide), if_neg (by decide)]
  refine ⟨⟨by rw [hspend, Dev.setFld, Dev.setReg], ?_, fun src _ => ?_, fun o _ => ?_⟩, (Dev.spendInjection_moved hcalm Dev.contain hs).calm⟩
  · rw [hspend, Dev.setFld_tel]
  · rw [hspend]
    exact Dev.waiting_setReg_at _ _ _ _
  · rw [hspend, Dev.reg_setFld]
    split
    · next h => rw [← hnone, h, Dev.fld, Fld.put_get]
    · rfl

/-- A packet between two units of the device, no injection waiting. -/
theorem Dev.packet_passes {d : Dev} (hcalm : Claims.Calm d) {a b : MeshOut} (ha : a.1 < 2) (hb : b.1 < 2) (n : Nat) : d.Passes (d.packet a b n) := by
  have hside (p : MeshOut → Bool) : ∀ s ∈ ((meshPath a b).filter p).map (·.1), s < 2 := by
    intro s hs
    obtain ⟨o, ho, rfl⟩ := List.mem_map.mp hs
    rcases meshPath_side (List.mem_filter.mp ho).1 with h | h <;> omega
  have hout : d.Passes (d.each (((meshPath a b).filter ontoBridge).map (·.1)) (fun d s => d.meshCount s Off.MESH_BR_OUT n)) :=
    Dev.each_passes _ _ (fun e he s hs => Dev.meshCount_passes he (hside _ s hs) (by decide) n) hcalm
  unfold Dev.packet
  dsimp only
  generalize d.each (((meshPath a b).filter ontoBridge).map (·.1)) (fun d s => d.meshCount s Off.MESH_BR_OUT n) = e at hout
  have hin : e.Passes (if a.1 ≠ b.1 ∨ ontoBridge a = true then e.meshCount b.1 Off.MESH_BR_IN n else e) := by
    split
    · exact Dev.meshCount_passes hout.calm hb (by decide) n
    · exact Dev.Passes.refl hout.calm
  generalize (if a.1 ≠ b.1 ∨ ontoBridge a = true then e.meshCount b.1 Off.MESH_BR_IN n else e) = f at hin
  refine (hout.trans hin).trans (Dev.each_passes _ _ (fun e he s hs => ?_) hin.calm)
  have hflits := Dev.meshCount_passes he (hside _ s hs) (o := Off.MESH_LINK_FLITS) (by decide) n
  exact hflits.trans (Dev.spendInjection_passes hflits.calm (hside _ s hs))

/-- The exchange of a device unit with a side's HBM (R228). -/
theorem Dev.baseTraffic_passes {d : Dev} (hcalm : Claims.Calm d) {s : Nat} (hs : s < 2) (out back : Nat) : d.Passes (d.baseTraffic s out back) := by
  unfold Dev.baseTraffic Dev.exchange
  have hapart : ((s, 12, 5) : MeshOut) ≠ (s, 0, 5) := fun h => Nat.noConfusion (congrArg (fun o : MeshOut => o.2.1) h)
  rw [if_neg hapart]
  have hthere := Dev.packet_passes hcalm (a := (s, 12, 5)) (b := (s, 0, 5)) hs hs (flitsOf out)
  exact hthere.trans (Dev.packet_passes hthere.calm hs hs (flitsOf back))

end Sys2Proof.Machine
end

section
/-! SUPPORT. BAR2: the parts of an access that lie in a client's allotment, and what its reads and writes leave (R242, R440, R441). -/

namespace Sys2Proof.Machine

theorem exec_bar2Read (c : Fin 32) (o n : Nat) (s : State) : exec (.bar2Read c o n) s = execBar2Read c o n s := rfl
theorem exec_bar2Write (c : Fin 32) (o : Nat) (bytes : List Byte) (s : State) : exec (.bar2Write c o bytes) s = execBar2Write c o bytes s := rfl

section
variable {d : Dev} {c o : Nat}

/-- The bytes of a client's allotment on side 0, and on both sides. -/
def Dev.allot0 (d : Dev) (c : Nat) : Nat := d.fld (hifb + Off.ALLOT c) Fl.ALLOT_SIZE0 * 0x10000000
/-- The bytes of a client's allotment on side 1. -/
def Dev.allot1 (d : Dev) (c : Nat) : Nat := d.fld (hifb + Off.ALLOT c) Fl.ALLOT_SIZE1 * 0x10000000
/-- The device address of offset `o` of the part of BAR2 that lies on side 0. -/
def Dev.bar2At0 (d : Dev) (c o : Nat) : Nat := d.fld (hifb + Off.ALLOT c) Fl.ALLOT_BASE0 * 0x10000000 + o

theorem Dev.bar2_eq (d : Dev) (c o : Nat) : d.bar2 c o =
    if d.bar2Size c ≤ o then none
    else if o < d.allot0 c then some (d.bar2At0 c o)
    else if o < d.allot0 c + d.allot1 c then some (hbmSize + d.fld (hifb + Off.ALLOT c) Fl.ALLOT_BASE1 * 0x10000000 + (o - d.allot0 c))
    else none := rfl

/-- An offset past the BAR or the allotment has no address. -/
theorem Dev.bar2_none (h : d.bar2Size c ≤ o ∨ d.allot0 c + d.allot1 c ≤ o) : d.bar2 c o = none := by
  rw [Dev.bar2_eq]
  split
  · rfl
  · rw [if_neg (by omega), if_neg (by omega)]

/-- An offset of the allotment on side 0. -/
theorem Dev.bar2_side0 (h0 : o < d.allot0 c) (hsize : o < d.bar2Size c) : d.bar2 c o = some (d.bar2At0 c o) := by
  rw [Dev.bar2_eq, if_neg (by omega), if_pos h0]

/-- Where an access that begins in the BAR and the allotment ends. -/
def Dev.bar2Top (d : Dev) (c o n : Nat) : Nat := min (min (o + n) (d.bar2Size c)) (d.allot0 c + d.allot1 c)

theorem Dev.bar2Parts_eq (d : Dev) (c o n : Nat) : d.bar2Parts c o n =
    [(o, min (d.bar2Top c o n) (d.allot0 c)), (max o (d.allot0 c), d.bar2Top c o n)].filterMap (fun e =>
      if e.2 ≤ e.1 then none else (d.bar2 c e.1).map (fun x => (e.1, x, e.2 - e.1))) := rfl

/-- An access that ends where it begins has no part. -/
theorem Dev.bar2Parts_none {n : Nat} (h : d.bar2Top c o n ≤ o) : d.bar2Parts c o n = [] := by
  have hfirst : min (d.bar2Top c o n) (d.allot0 c) ≤ o := by omega
  have hsecond : d.bar2Top c o n ≤ max o (d.allot0 c) := by omega
  rw [Dev.bar2Parts_eq]
  simp only [List.filterMap_cons, hfirst, hsecond, if_true, List.filterMap_nil]

/-- An access within the allotment on side 0 is one part. -/
theorem Dev.bar2Parts_side0 {n : Nat} (hn : 0 < n) (h0 : o + n ≤ d.allot0 c) (hsize : o + n ≤ d.bar2Size c) : d.bar2Parts c o n = [(o, d.bar2At0 c o, n)] := by
  have htop : d.bar2Top c o n = o + n := by
    unfold Dev.bar2Top
    omega
  have hfirst : min (o + n) (d.allot0 c) = o + n := by omega
  have hsome : ¬ o + n ≤ o := by omega
  have hsecond : o + n ≤ max o (d.allot0 c) := by omega
  rw [Dev.bar2Parts_eq, htop, hfirst]
  simp only [List.filterMap_cons, hsome, hsecond, if_true, if_false, List.filterMap_nil, Dev.bar2_side0 (by omega : o < d.allot0 c) (by omega), Option.map_some,
    Nat.add_sub_cancel_left]

end

end Sys2Proof.Machine
end

section
/-! SUPPORT. BAR2 reads of one word and writes, by where they lie (R242, R440, R441). -/

namespace Sys2Proof.Machine

/-- A word of HBM as a little-endian number. -/
def Dev.hbmWord (d : Dev) (a : Nat) : Word := wd (leNat ((List.range 4).map (fun b => d.hbm.byte (a + b))))

/-- What a part of a BAR2 read does on its side. -/
def Dev.bar2Ask (d : Dev) (e : Nat × Nat × Nat) : Dev := (d.baseTraffic (e.2.1 / hbmSize) 0 e.2.2).hbmCheck e.2.1 e.2.2

variable {s : State} {c : Fin 32} {o : Nat}

/-- A read past the BAR has no word. -/
theorem bar2Read_past (h : s.dev.bar2Size c ≤ o) : exec (.bar2Read c o 1) s = .next { s with dev := { s.dev with answer := [] } } := by
  have hnone : min 1 ((s.dev.bar2Size c - o + 3) / 4) = 0 := by omega
  have htop : s.dev.bar2Top c o 0 ≤ o := by
    unfold Dev.bar2Top
    omega
  rw [exec_bar2Read, execBar2Read, onDev_next]
  simp only [hnone, List.range_zero, List.takeWhile_nil, List.map_nil, List.length_nil, Nat.mul_zero, Dev.bar2Parts_none htop, Dev.each_nil, Nat.lt_irrefl, false_and, if_false]

/-- A read that begins in the BAR at no contained side's part answers its word, and asks the sides it lies on. -/
theorem bar2Read_alive (h : o < s.dev.bar2Size c) (hdead : s.dev.bar2Dead c o = false) : exec (.bar2Read c o 1) s = .next { s with dev :=
    { s.dev.each (s.dev.bar2Parts c o 4) Dev.bar2Ask with answer := [wd (leNat ((List.range 4).map (fun b => s.dev.bar2Byte c (o + b))))], aer := s.dev.aer } } := by
  have hone : min 1 ((s.dev.bar2Size c - o + 3) / 4) = 1 := by omega
  rw [exec_bar2Read, execBar2Read, onDev_next]
  simp only [hone, List.range_one, List.takeWhile_cons, Nat.mul_zero, Nat.add_zero, hdead, Bool.not_false, if_true, List.takeWhile_nil, List.map_cons, List.map_nil,
    List.length_cons, List.length_nil, Nat.zero_add, Nat.mul_one, Nat.lt_irrefl, false_and, if_false]
  rfl

/-- A read that begins at a contained side's part has no word, and the function logs it. -/
theorem bar2Read_dead (h : o < s.dev.bar2Size c) (hdead : s.dev.bar2Dead c o = true) : exec (.bar2Read c o 1) s = .next { s with dev :=
    { s.dev with answer := [], aer := if s.dev.aer.contains (c.val + 1) then s.dev.aer else s.dev.aer ++ [c.val + 1] } } := by
  have hone : min 1 ((s.dev.bar2Size c - o + 3) / 4) = 1 := by omega
  have htop : s.dev.bar2Top c o 0 ≤ o := by
    unfold Dev.bar2Top
    omega
  rw [exec_bar2Read, execBar2Read, onDev_next]
  simp only [hone, List.range_one, List.takeWhile_cons, Nat.mul_zero, Nat.add_zero, hdead, Bool.not_true, Bool.false_eq_true, if_false, List.map_nil, List.length_nil,
    Dev.bar2Parts_none htop, Dev.each_nil, Nat.zero_lt_one, true_and]
  cases s.dev.aer.contains (c.val + 1) <;> rfl

/-- A write past the BAR or the allotment has no part. -/
theorem bar2Write_stays {bytes : List Byte} (h : s.dev.bar2Size c ≤ o ∨ s.dev.allot0 c + s.dev.allot1 c ≤ o) : exec (.bar2Write c o bytes) s = .next s := by
  have htop : s.dev.bar2Top c o bytes.length ≤ o := by
    unfold Dev.bar2Top
    omega
  rw [exec_bar2Write, execBar2Write, onDev_next, Dev.bar2Parts_none htop]
  rfl

/-- A read past the allotment answers 0. -/
theorem bar2Read_unallotted (h : s.dev.allot0 c + s.dev.allot1 c ≤ o) (hsize : o < s.dev.bar2Size c) :
    exec (.bar2Read c o 1) s = .next { s with dev := { s.dev with answer := [0] } } := by
  have hnone (b : Nat) : s.dev.bar2 c (o + b) = none := Dev.bar2_none (.inr (by omega))
  have hbyte (b : Nat) : s.dev.bar2Byte c (o + b) = 0 := by rw [Dev.bar2Byte, hnone]
  have hdead : s.dev.bar2Dead c o = false := by rw [Dev.bar2Dead, show o = o + 0 from rfl, hnone]
  have htop : s.dev.bar2Top c o 4 ≤ o := by
    unfold Dev.bar2Top
    omega
  rw [bar2Read_alive hsize hdead, Dev.bar2Parts_none htop]
  simp only [hbyte]
  rfl

section
variable (h0 : o < s.dev.allot0 c) (hsize : o < s.dev.bar2Size c) (ha : s.dev.bar2At0 c o < hbmSize)
include h0 hsize ha

theorem Dev.bar2Dead_side0 : s.dev.bar2Dead c o = s.dev.contained 0 := by
  rw [Dev.bar2Dead, Dev.bar2_side0 h0 hsize]
  dsimp only
  rw [Nat.div_eq_of_lt ha]

end

/-- A read of the allotment on side 0 answers the word of HBM, after its packets and the checks of the stack (R228, R234). -/
theorem bar2Read_clean (h0 : o + 4 ≤ s.dev.allot0 c) (hsize : o + 4 ≤ s.dev.bar2Size c) (ha : s.dev.bar2At0 c o < hbmSize) (hlive : s.dev.contained 0 = false)
    (hue : s.dev.hbmUe = []) (hce : s.dev.hbmCe = []) (hcalm : Claims.Calm s.dev) : Claims.GivesAfterTraffic (.bar2Read c o 1) s s.dev
      (fun e => { e.hbmUse (s.dev.bar2At0 c o) with answer := [s.dev.hbmWord (s.dev.bar2At0 c o)] }) := by
  have htraffic := (Dev.baseTraffic_passes hcalm (s := 0) (by decide) 0 4).traffic
  refine ⟨s.dev.baseTraffic 0 0 4, htraffic, ?_⟩
  have hdead : s.dev.bar2Dead c o = false := (Dev.bar2Dead_side0 (by omega) (by omega) ha).trans hlive
  have hbytes : (List.range 4).map (fun b => s.dev.bar2Byte c (o + b)) = (List.range 4).map (fun b => s.dev.hbm.byte (s.dev.bar2At0 c o + b)) := by
    refine List.map_congr_left (fun b hb => ?_)
    have hb := List.mem_range.mp hb
    rw [Dev.bar2Byte, Dev.bar2_side0 (by omega) (by omega)]
    dsimp only
    rw [Dev.bar2At0, Dev.bar2At0, Nat.add_assoc]
  rw [Claims.GivesDev, bar2Read_alive (by omega) hdead, Dev.bar2Parts_side0 (by decide) h0 hsize, hbytes, Dev.each_cons, Dev.each_nil, Dev.bar2Ask]
  dsimp only
  rw [Nat.div_eq_of_lt ha]
  have hrest := htraffic.rest
  generalize s.dev.baseTraffic 0 0 4 = e at hrest
  have hue' : e.hbmUe = [] := (congrArg Dev.hbmUe hrest).trans hue
  have hce' : e.hbmCe = [] := (congrArg Dev.hbmCe hrest).trans hce
  have haer : e.aer = s.dev.aer := (congrArg Dev.aer hrest :)
  obtain ⟨q, huse⟩ := e.hbmUse_frame (s.dev.bar2At0 c o)
  rw [Dev.hbmCheck_clean e _ _ hue' hce', huse, ← haer]
  rfl

/-- The registers that say whether a side is contained are none that packets move. -/
theorem Dev.Passes.contained {d e : Dev} (h : d.Passes e) : e.contained 0 = d.contained 0 := by
  have hstatus : (Block.mesh 0).base + Off.MESH_STATUS ∉ Claims.trafficRegs := by decide +kernel
  rw [Dev.contained, Dev.contained, Dev.fld, Dev.fld, h.traffic.others _ hstatus]

section
variable {bytes : List Byte} (hbytes : bytes ≠ []) (h0 : o + bytes.length ≤ s.dev.allot0 c) (hsize : o + bytes.length ≤ s.dev.bar2Size c)
include hbytes h0 hsize

/-- A write into the allotment on side 0 is one write of a unit of the device. -/
theorem bar2Write_side0 : exec (.bar2Write c o bytes) s = .next { s with dev := s.dev.hbmUnitWrite 0x09 (s.dev.bar2At0 c o) bytes } := by
  rw [exec_bar2Write, execBar2Write, onDev_next, Dev.bar2Parts_side0 (List.length_pos_iff.mpr hbytes) h0 hsize, Dev.each_cons, Dev.each_nil]
  dsimp only
  rw [Nat.sub_self, List.drop_zero, List.take_length]

variable (ha : s.dev.bar2At0 c o < hbmSize)
include ha

theorem bar2Write_dead (hdead : s.dev.contained 0 = true) : exec (.bar2Write c o bytes) s = .next s := by
  rw [bar2Write_side0 hbytes h0 hsize, Dev.hbmUnitWrite, Nat.div_eq_of_lt ha, hdead]
  rfl

theorem bar2Write_live (hlive : s.dev.contained 0 = false) (hcalm : Claims.Calm s.dev) : Claims.GivesAfterTraffic (.bar2Write c o bytes) s s.dev
    (fun e => e.hbmWrite 0x09 none (s.dev.bar2At0 c o) bytes) := by
  have hpasses := Dev.baseTraffic_passes hcalm (s := 0) (by decide) bytes.length 0
  refine ⟨s.dev.baseTraffic 0 bytes.length 0, hpasses.traffic, ?_⟩
  have hlive' := hpasses.contained.trans hlive
  rw [Claims.GivesDev, bar2Write_side0 hbytes h0 hsize, Dev.hbmUnitWrite, Nat.div_eq_of_lt ha, hlive, if_neg (by decide)]
  dsimp only
  rw [hlive', if_neg (by decide)]

end

end Sys2Proof.Machine
end

section
/-! SUPPORT. The ends of host reads: of a unit of a core, and of a stream ring (R444, R457). -/

namespace Sys2Proof.Machine

theorem exec_hostReadComplete (r : HostRd) (data : List Byte) (good : Bool) (s : State) :
    exec (.hostReadComplete r data good) s = .next { s with dev := s.dev.hostRead r data good } := rfl

theorem exec_hostCompletionTimeout (r : HostRd) (s : State) :
    exec (.hostCompletionTimeout r) s = .next { s with dev := if s.dev.mayTimeOut r then s.dev.hostRead r [] false else s.dev } := rfl

section
variable {d : Dev} {k : Fin 512} {x i : Nat} {t : Xfer} {f : Flight} (hxfer : (d.core k).xfer x = some t) (hflight : t.flights[i]? = some f)
include hxfer hflight

/-- The end of a read that is outstanding (R444). -/
theorem Dev.hostRead_unit (hhost : f.host = 1) (data : List Byte) (good : Bool) : d.hostRead (.unit k x i) data good =
    let n := (f.hostSrc.map (·.2)).foldl (· + ·) 0
    let f' := if good then { f with data := f.data ++ (data ++ List.replicate n 0).take n, hostSrc := [], host := 0 } else { f with host := 2 }
    d.setXfer k { t with flights := t.flights.set i f' } := by
  rw [Dev.hostRead, Dev.unitRead]
  simp only [hxfer, hflight, hhost, not_true_eq_false, ne_eq, if_false]

theorem Dev.mayTimeOut_unit : d.mayTimeOut (.unit k x i) = decide (f.hostAt + 1250 ≤ d.tick) := by
  simp only [Dev.mayTimeOut, hxfer, Option.bind_some, hflight]

end

/-- The registers of a client's stream ring lie past those of the HIF block. -/
theorem hostErr_ne_ring (c r o : Nat) : hifb + Off.HIF_HOST_ERR ≠ rbase (c + 1) (.sr r) + o := by
  have hbase : rbase (c + 1) (.sr r) = 0x10000000 + c * 0x4000 + (0x1000 + 0x20 * r) := rfl
  rw [show hifb + Off.HIF_HOST_ERR = 0x400008 from rfl, hbase]
  omega

/-- The count of failed host reads, below its limit. -/
theorem Dev.hostErr_below {d : Dev} (h : Claims.below d (hifb + Off.HIF_HOST_ERR) 1) : d.hostErr = Claims.up d (hifb + Off.HIF_HOST_ERR) 1 := by
  have hone : d.reg (hifb + Off.HIF_HOST_ERR) + 1 = wd ((d.reg (hifb + Off.HIF_HOST_ERR)).toNat + 1) := by
    refine BitVec.eq_of_toNat_eq ?_
    rw [BitVec.toNat_add, wd, BitVec.toNat_ofNat]
    rfl
  have hroom : (d.reg (hifb + Off.HIF_HOST_ERR)).toNat < 2 ^ 32 - 1 := by
    have hbelow : (d.reg (hifb + Off.HIF_HOST_ERR)).toNat + 1 < 2 ^ 32 := h
    omega
  rw [Claims.up, ← hone]
  exact if_pos hroom

section
variable {d : Dev} {c : Fin 32} {r : Fin 64} (hon : d.ringOn (c.val + 1) (.sr r) = true) (hoffered : 0 < d.offered (c.val + 1) (.sr r))
include hon hoffered

/-- The bytes of a stream ring reach the stream bound to it (R457). -/
theorem Dev.hostRead_ring {i : Nat} {data : List Byte} (hlen : data.length ≤ d.offered (c.val + 1) (.sr r)) (hword : data.length % 4 = 0)
    (hbound : d.consumerOf c r = some (.stream i)) :
    d.hostRead (.ring c r) data true = (((d.inputPut i data).2.ringAdvance (c.val + 1) (.sr r) data.length).writeBack (c.val + 1) (.sr r)) := by
  have hall : min (d.offered (c.val + 1) (.sr r)) (data.length / 4 * 4) = data.length := by omega
  have hserved : ¬(d.ringOn (c.val + 1) (.sr r) = false ∨ d.offered (c.val + 1) (.sr r) = 0) := by
    simp [hon, hoffered.ne']
  rw [Dev.hostRead, Dev.srCopy]
  rw [hall, List.take_length, if_neg hserved, if_neg (by decide), hbound]
  rfl

/-- A failed read stops the ring (R444). -/
theorem Dev.hostRead_ring_failed (hbelow : Claims.below d (hifb + Off.HIF_HOST_ERR) 1) (data : List Byte) :
    d.hostRead (.ring c r) data false = Claims.up ((d.setFld (rbase (c.val + 1) (.sr r) + Off.X_CFG) Fl.X_CFG_EN 0).setFld
      (rbase (c.val + 1) (.sr r) + Off.X_STATUS) Fl.X_STATUS_FETCH_ERR 1) (hifb + Off.HIF_HOST_ERR) 1 := by
  have hserved : ¬(d.ringOn (c.val + 1) (.sr r) = false ∨ d.offered (c.val + 1) (.sr r) = 0) := by
    simp [hon, hoffered.ne']
  rw [Dev.hostRead, Dev.srCopy]
  rw [if_neg hserved, if_pos rfl, Dev.ringFlag, Dev.hostErr_below]
  rw [Claims.below, Dev.reg_setFld, if_neg (hostErr_ne_ring c r _), Dev.reg_setFld, if_neg (hostErr_ne_ring c r _)]
  exact hbelow

end

end Sys2Proof.Machine
end

section
/-! SUPPORT. The unmasking of an MSI-X vector: where its write goes, and the message that leaves (R33, R461). -/

namespace Sys2Proof.Machine

/-- The block of a function's ring registers. -/
def ringBlock (f : Nat) : Block := if f = 0 then .pf0ring else .ring (f - 1)

/-- The control register of a vector. -/
def vectorSpec : RegSpec := ⟨0x300C, 64, 0x10, 1, 0x1, [⟨Fl.MSIX_CTRL_MASK, .rw, .any⟩]⟩

theorem regOf_vector (f : Nat) (v : Fin 64) : regOf (ringBlock f) (Off.MSIX_CTRL v) = some vectorSpec := by
  have hring : ∀ v : Fin 64, ringReg (Off.MSIX_CTRL v) = some vectorSpec ∧ 0x3000 ≤ Off.MSIX_CTRL v := by decide +kernel
  obtain ⟨hspec, hlow⟩ := hring v
  rw [ringBlock]
  split
  · exact (if_pos (.inr hlow)).trans hspec
  · exact hspec

theorem base_ringBlock (f : Nat) : (ringBlock f).base = fnBase f := by
  rw [ringBlock, fnBase]
  split <;> rfl

/-- The writer of a vector's control register, and the offset it names. -/
def unmaskWho (f : Fin 33) : Who := if h : 0 < f.val ∧ f.val - 1 < 32 then .client ⟨f.val - 1, h.2⟩ else .pf0
/-- The offset that the writer of a vector's control register names. -/
def unmaskOff (f : Fin 33) (v : Fin 64) : Nat := if f.val = 0 then fnBase 0 + Off.MSIX_CTRL v else Off.MSIX_CTRL v

theorem unmaskWho_zero {f : Fin 33} (h : f.val = 0) : unmaskWho f = .pf0 := dif_neg (by omega)
theorem unmaskWho_client {f : Fin 33} (h : f.val ≠ 0) : unmaskWho f = .client ⟨f.val - 1, by omega⟩ := dif_pos ⟨by omega, by omega⟩

theorem exec_msixUnmask (f : Fin 33) (v : Fin 64) (s : State) : exec (.msixUnmask f v) s = .next { s with dev :=
    (s.dev.regWrite (unmaskWho f) (unmaskOff f v) (Fl.MSIX_CTRL_MASK.put (s.dev.reg (fnBase f + Off.MSIX_CTRL v)) 0)) } := by
  rw [show exec (.msixUnmask f v) s = execMsixUnmask f v s from rfl, execMsixUnmask, onDev_next]
  dsimp only
  by_cases h : f.val = 0
  · rw [dif_neg (by omega), unmaskWho_zero h, unmaskOff, if_pos h, h]
  · rw [dif_pos ⟨by omega, by omega⟩, unmaskWho_client h, unmaskOff, if_neg h]

/-- The write reaches the vector's control register in the block of its function. -/
theorem locate_unmask (f : Fin 33) (v : Fin 64) : locate (absOff (unmaskWho f) (unmaskOff f v)) = some (ringBlock f, Off.MSIX_CTRL v) := by
  have hall : ∀ f : Fin 33, ∀ v : Fin 64, locate (absOff (unmaskWho f) (unmaskOff f v)) = some (ringBlock f, Off.MSIX_CTRL v) := by decide +kernel
  exact hall f v

theorem isHost_unmask (f : Fin 33) : isHost (unmaskWho f) = true := by
  rw [unmaskWho]
  split <;> rfl

theorem mayName_unmask (f : Fin 33) : mayName (unmaskWho f) (ringBlock f) = true := by
  rw [unmaskWho, ringBlock]
  split <;> split <;> rfl

/-- The control register of a vector has no address, no ring and no translation window. -/
theorem Dev.ringBlockWrite_vector (d : Dev) (f : Nat) (v : Fin 64) (w : Word) (plain : Dev → Dev) :
    d.ringBlockWrite f (Off.MSIX_CTRL v) w plain = (plain d).msixFlush f v := by
  have hall : ∀ v : Fin 64, setOf (Off.MSIX_CTRL v) = none ∧ ¬(Off.MSIX_CTRL v = Off.WB_LO ∨ Off.MSIX_CTRL v = Off.WB_HI) ∧ ¬(0x100 ≤ Off.MSIX_CTRL v ∧ Off.MSIX_CTRL v < 0x300)
      ∧ (0x3000 ≤ Off.MSIX_CTRL v ∧ Off.MSIX_CTRL v < 0x3400 ∧ Off.MSIX_CTRL v % 0x10 = 0xC) ∧ (Off.MSIX_CTRL v - 0x3000) / 0x10 = v.val := by decide +kernel
  obtain ⟨hset, harea, hwindow, hvector, hv⟩ := hall v
  rw [Dev.ringBlockWrite, hset]
  dsimp only
  rw [if_neg harea, if_neg hwindow, if_pos hvector, hv]

/-- The vector's mask is cleared, and its message leaves where one is pending. -/
theorem Dev.enableWrite_vector {d : Dev} (hheld : d.held = []) (f : Nat) (v : Fin 64) :
    d.enableWrite (ringBlock f) (Off.MSIX_CTRL v) vectorSpec (Fl.MSIX_CTRL_MASK.put (d.reg (fnBase f + Off.MSIX_CTRL v)) 0)
      = (d.setFld (fnBase f + Off.MSIX_CTRL v) Fl.MSIX_CTRL_MASK 0).msixFlush f v := by
  have hwrite (en : Bool) (w : Word) : vectorSpec.write en (Fl.MSIX_CTRL_MASK.put w 0) w = Fl.MSIX_CTRL_MASK.put w 0 := by
    change Fl.MSIX_CTRL_MASK.put w (Fl.MSIX_CTRL_MASK.get (Fl.MSIX_CTRL_MASK.put w 0)) = _
    rw [Fl.MSIX_CTRL_MASK.get_put (by decide)]
    rfl
  have hblock : d.blockWrite (ringBlock f) (Off.MSIX_CTRL v) vectorSpec (Fl.MSIX_CTRL_MASK.put (d.reg (fnBase f + Off.MSIX_CTRL v)) 0)
      = d.ringBlockWrite f (Off.MSIX_CTRL v) (Fl.MSIX_CTRL_MASK.put (d.reg (fnBase f + Off.MSIX_CTRL v)) 0)
        (fun e => e.plainWrite (fnBase f + Off.MSIX_CTRL v) vectorSpec (d.expertOn (ringBlock f)) (Fl.MSIX_CTRL_MASK.put (d.reg (fnBase f + Off.MSIX_CTRL v)) 0)) := by
    rw [← base_ringBlock, ringBlock]
    split
    · next h => rw [h]; rfl
    · next h =>
      obtain ⟨n, rfl⟩ := Nat.exists_eq_succ_of_ne_zero h
      rfl
  have hwants (w : Word) : d.wants (ringBlock f) (Off.MSIX_CTRL v) w = (0, []) := by
    rw [ringBlock]
    split <;> rfl
  have hopens (w : Word) : d.opens (ringBlock f) (Off.MSIX_CTRL v) w = none := by
    refine if_neg ?_
    rw [ringBlock]
    split <;> simp
  have hapg : ¬(ringBlock f = .apg ∧ Off.MSIX_CTRL v = Off.APG_CTRL) := by
    rw [ringBlock]
    split <;> simp
  rw [Dev.enableWrite, if_neg hapg]
  dsimp only
  rw [d.forget_held _ hheld, hwants, if_pos rfl, hopens]
  dsimp only
  rw [hblock, Dev.ringBlockWrite_vector, Dev.plainWrite, hwrite, Dev.setFld]

variable {s : State} {f : Fin 33} {v : Fin 64}

/-- A host's write that a lock stops is recorded. -/
theorem msixUnmask_locked (hlock : s.dev.locked (ringBlock f) = true) (hroom : (s.dev.waiting 0).length < 8) (hans : s.dev.answers (ringBlock f) = true) :
    Claims.Gives (.msixUnmask f v) s (fun t => t.dev.regs = s.dev.regs ∧ Claims.Recorded t.dev 0 kSEC 0x02) := by
  refine ⟨_, exec_msixUnmask f v s, ?_⟩
  dsimp only
  rw [s.dev.regWrite_locked _ (locate_unmask f v) (regOf_vector f v) (mayName_unmask f) hans (isHost_unmask f) hlock]
  exact ⟨Dev.emit_regs _ _ hroom, Claims.recorded_bootRecord _ _ hroom (by decide)⟩

/-- A write that reaches the vector clears its mask. -/
theorem msixUnmask_taken (ht : Claims.Takes s.dev (ringBlock f)) : exec (.msixUnmask f v) s =
    .next { s with dev := (s.dev.setFld (fnBase f + Off.MSIX_CTRL v) Fl.MSIX_CTRL_MASK 0).msixFlush f v } := by
  rw [exec_msixUnmask, s.dev.regWrite_reaches _ (locate_unmask f v) (regOf_vector f v) (mayName_unmask f) ht.answers (.inr ht.unlocked) ht.lit,
    if_neg (fun h => absurd h.1 (by decide)), Dev.enableWrite_vector ht.held]

/-- The pending bits lie past the vectors. -/
theorem pba_ne_ctrl (f v w : Nat) (hv : v < 64) : fnBase f + Off.MSIX_PBA w ≠ fnBase f + Off.MSIX_CTRL v := by
  rw [Off.MSIX_PBA, Off.MSIX_CTRL]
  omega

/-- The registers of a vector's message are neither its control register nor pending bits. -/
theorem message_apart (f v w : Nat) (hv : v < 64) : ∀ o ∈ [Off.MSIX_ADDR_LO v, Off.MSIX_ADDR_HI v, Off.MSIX_DATA v],
    fnBase f + o ≠ fnBase f + Off.MSIX_CTRL v ∧ fnBase f + o ≠ fnBase f + Off.MSIX_PBA w := by
  simp only [List.forall_mem_cons, Off.MSIX_ADDR_LO, Off.MSIX_ADDR_HI, Off.MSIX_DATA, Off.MSIX_CTRL, Off.MSIX_PBA]
  refine ⟨?_, ?_, ?_, fun _ h => absurd h List.not_mem_nil⟩ <;> omega

/-- Where the message of a vector goes. -/
def Dev.vectorAddr (d : Dev) (f v : Nat) : Nat := d.reg64 (fnBase f + Off.MSIX_ADDR_LO v) (fnBase f + Off.MSIX_ADDR_HI v)
/-- The message of a vector. -/
def Dev.vectorData (d : Dev) (f v : Nat) : List Byte := natLE 4 (d.reg (fnBase f + Off.MSIX_DATA v)).toNat

/-- A device whose message registers are the same has the same message. -/
theorem Dev.vector_eq {d e : Dev} {f v : Nat} (h : ∀ o ∈ [Off.MSIX_ADDR_LO v, Off.MSIX_ADDR_HI v, Off.MSIX_DATA v], e.reg (fnBase f + o) = d.reg (fnBase f + o)) :
    e.vectorAddr f v = d.vectorAddr f v ∧ e.vectorData f v = d.vectorData f v := by
  simp only [List.forall_mem_cons] at h
  obtain ⟨hlo, hhi, hdata, -⟩ := h
  rw [Dev.vectorAddr, Dev.vectorAddr, Dev.vectorData, Dev.vectorData, Dev.reg64, Dev.reg64, hlo, hhi, hdata]
  exact ⟨rfl, rfl⟩

/-- A vector without a pending message sends none. -/
theorem Dev.msixFlush_idle (d : Dev) (f v : Nat) (h : (d.reg (fnBase f + Off.MSIX_PBA (v / 32))).toNat.testBit (v % 32) = false) : d.msixFlush f v = d :=
  if_pos (.inr (.inr h))

/-- A vector that is not masked sends its message (R461). -/
theorem Dev.sendVector_open {d : Dev} {f v : Nat} (hmask : d.fld (fnBase f + Off.MSIX_CTRL v) Fl.MSIX_CTRL_MASK = 0) (hmsix : d.msixOff = []) :
    d.sendVector f v = d.hostWrite f (d.vectorAddr f v) (d.vectorData f v) := by
  refine if_neg ?_
  simp [hmsix, hmask]

/-- A pending message leaves where its vector is not masked and the function may write (R461). -/
theorem Dev.msixFlush_sends {d : Dev} {f v : Nat} (hv : v < 64) (hmask : d.fld (fnBase f + Off.MSIX_CTRL v) Fl.MSIX_CTRL_MASK = 0)
    (hpend : (d.reg (fnBase f + Off.MSIX_PBA (v / 32))).toNat.testBit (v % 32) = true) (hmsix : d.msixOff = []) :
    d.msixFlush f v = (d.setReg (fnBase f + Off.MSIX_PBA (v / 32)) (d.reg (fnBase f + Off.MSIX_PBA (v / 32)) &&& ~~~ wd (2 ^ (v % 32)))).hostWrite f
      (d.vectorAddr f v) (d.vectorData f v) := by
  have hopen : ¬(d.msixOff.contains f = true ∨ d.fld (fnBase f + Off.MSIX_CTRL v) Fl.MSIX_CTRL_MASK = 1
      ∨ (d.reg (fnBase f + Off.MSIX_PBA (v / 32))).toNat.testBit (v % 32) = false) := by
    simp [hmsix, hmask, hpend]
  refine (if_neg hopen).trans ?_
  generalize d.reg (fnBase f + Off.MSIX_PBA (v / 32)) &&& ~~~ wd (2 ^ (v % 32)) = w
  have hmask' : (d.setReg (fnBase f + Off.MSIX_PBA (v / 32)) w).fld (fnBase f + Off.MSIX_CTRL v) Fl.MSIX_CTRL_MASK = 0 := by
    rw [Dev.fld, Dev.reg_setReg_other _ _ _ _ (pba_ne_ctrl f v _ hv).symm]
    exact hmask
  obtain ⟨haddr, hdata⟩ := Dev.vector_eq (d := d) (e := d.setReg (fnBase f + Off.MSIX_PBA (v / 32)) w) (f := f) (v := v)
    (fun o ho => Dev.reg_setReg_other _ _ _ _ (message_apart f v _ hv o ho).2)
  rw [Dev.sendVector_open hmask' hmsix, haddr, hdata]

/-- A bit cleared in a word. -/
theorem testBit_cleared (w : Word) {n : Nat} (hn : n < 32) : (w &&& ~~~ wd (2 ^ n)).toNat.testBit n = false := by
  have hbit : (wd (2 ^ n)).getLsbD n = true := by
    rw [wd, BitVec.getLsbD_ofNat]
    simp [hn]
  rw [BitVec.testBit_toNat, BitVec.getLsbD_and, BitVec.getLsbD_not, hbit]
  simp

theorem msixUnmask_idle (ht : Claims.Takes s.dev (ringBlock f)) (hidle : (s.dev.reg (fnBase f + Off.MSIX_PBA (v / 32))).toNat.testBit (v % 32) = false) :
    Claims.GivesDev (.msixUnmask f v) s (s.dev.setFld (fnBase f + Off.MSIX_CTRL v) Fl.MSIX_CTRL_MASK 0) := by
  rw [Claims.GivesDev, msixUnmask_taken ht, Dev.msixFlush_idle]
  rw [Dev.reg_setFld, if_neg (pba_ne_ctrl f v _ v.2)]
  exact hidle

theorem msixUnmask_pending (ht : Claims.Takes s.dev (ringBlock f)) (hpend : (s.dev.reg (fnBase f + Off.MSIX_PBA (v / 32))).toNat.testBit (v % 32) = true)
    (hmsix : s.dev.msixOff = []) (hbme : s.dev.bmeOff = []) :
    Claims.Gives (.msixUnmask f v) s (fun t => t.dev.fld (fnBase f + Off.MSIX_CTRL v) Fl.MSIX_CTRL_MASK = 0
      ∧ (t.dev.reg (fnBase f + Off.MSIX_PBA (v / 32))).toNat.testBit (v % 32) = false
      ∧ t.dev.host = s.dev.host.write (s.dev.vectorAddr f v) (s.dev.vectorData f v)) := by
  have hpba := pba_ne_ctrl f v (v / 32) v.2
  obtain ⟨e, he⟩ : ∃ e, e = s.dev.setFld (fnBase f + Off.MSIX_CTRL v) Fl.MSIX_CTRL_MASK 0 := ⟨_, rfl⟩
  have hmask : e.fld (fnBase f + Off.MSIX_CTRL v) Fl.MSIX_CTRL_MASK = 0 := by
    rw [he, Dev.fld_setFld_same _ _ _ _ (by decide)]
    rfl
  have hpend' : (e.reg (fnBase f + Off.MSIX_PBA (v / 32))).toNat.testBit (v % 32) = true := by
    rw [he, Dev.reg_setFld, if_neg hpba]
    exact hpend
  have hoff : e.msixOff = [] ∧ e.bmeOff = [] ∧ e.host = s.dev.host := by
    rw [he]
    exact ⟨hmsix, hbme, rfl⟩
  obtain ⟨hmsix', hbme', hhost⟩ := hoff
  have hbus (w : Word) : (e.setReg (fnBase f + Off.MSIX_PBA (v / 32)) w).bmeOff.contains f.val = false := by
    rw [show (e.setReg (fnBase f + Off.MSIX_PBA (v / 32)) w).bmeOff = [] from hbme']
    rfl
  obtain ⟨haddr, hdata⟩ := Dev.vector_eq (d := s.dev) (e := e) (f := f) (v := v)
    (fun o ho => by rw [he, Dev.reg_setFld, if_neg (message_apart f v 0 v.2 o ho).1])
  have hsent := msixUnmask_taken (s := s) (v := v) ht
  rw [← he, Dev.msixFlush_sends v.2 hmask hpend' hmsix', Dev.hostWrite_on _ _ _ _ (hbus _), haddr, hdata] at hsent
  refine ⟨_, hsent, ?_, ?_, ?_⟩
  · exact (congrArg Fl.MSIX_CTRL_MASK.get (Dev.reg_setReg_other e _ _ _ hpba.symm)).trans hmask
  · exact (congrArg (fun w : Word => w.toNat.testBit (v % 32)) ((Dev.reg_setReg e _ _ _).trans (if_pos rfl))).trans (testBit_cleared _ (Nat.mod_lt _ (by decide)))
  · exact congrArg (fun m : Mem => m.write _ _) hhost

end Sys2Proof.Machine
end

section
/-! SUPPORT. A function level reset: the ring block at its reset values, and a job of the client LOADED (R266, R462). -/

namespace Sys2Proof.Machine

/-! ### What a job's reset leaves of the long commands -/

theorem Dev.completeWatch_longs (d : Dev) (cl : Nat) (w : Watch) (st : Nat) (slot : Bool) : (d.completeWatch cl w st slot).longs = d.longs := by
  unfold Dev.completeWatch
  cases w.batch with
  | some b => rfl
  | none =>
    dsimp only
    split
    · exact Dev.emit_longs _ _
    · rfl

theorem Dev.latchRelease_longs (d : Dev) (j : Nat) (st : Option Nat) : (d.latchRelease j st).longs = d.longs := by
  refine Dev.each_keeps Dev.longs _ _ (fun d cl => ?_) d
  cases st with
  | none => rfl
  | some x => exact (Dev.each_keeps Dev.longs _ _ (fun d w => d.completeWatch_longs cl w x true) _).trans rfl

theorem Dev.endPreempted_longs (d : Dev) (j : Nat) : (d.endPreempted j).longs = d.longs := by
  unfold Dev.endPreempted
  dsimp only
  split <;> rfl

theorem Dev.freeCores_longs (d : Dev) (j : Nat) : (d.freeCores j).longs = d.longs := by
  unfold Dev.freeCores
  exact (Dev.each_keeps Dev.longs _ (fun d k => (d.abortStage k).setCore k (((d.abortStage k).core k).endJob)) (fun d k => rfl) _).trans rfl

/-- A job's reset may break rounds, and ends none. -/
theorem Dev.breakRounds_fns (d : Dev) (j : Nat) : (d.breakRounds j).longs.map Long.fn = d.longs.map Long.fn := by
  rw [Dev.breakRounds, List.map_map]
  refine List.map_congr_left (fun x _ => ?_)
  rw [Function.comp_apply]
  split <;> rfl

/-- The functions of the long commands are those they were. -/
theorem Dev.resetJob_fns (d : Dev) (j : Nat) : (d.resetJob j).longs.map Long.fn = d.longs.map Long.fn := by
  unfold Dev.resetJob
  split
  · rfl
  · rw [Dev.latchRelease_longs, Dev.setJob_longs, Dev.freeCores_longs, Dev.breakRounds_fns]
    exact congrArg (List.map Long.fn) (d.endPreempted_longs j)

/-- A job that is reset is LOADED and not started (R266). -/
theorem Dev.resetJob_loaded (d : Dev) (j : Nat) (h : (d.job j).state ≠ .free) : ((d.resetJob j).job j).state = .loaded ∧ ((d.resetJob j).job j).started = false := by
  rw [Dev.resetJob, if_neg h]
  dsimp only
  generalize ((((d.endPreempted j).dropImages j).breakRounds j).freeCores j) = e
  have hjobs := Dev.jobs_of_jobsAndRegs (Dev.latchRelease_jobsAndRegs (e.setJob j { e.job j with
      state := .loaded, runs := 2, started := false, wants := none, request := none, savedCores := []
      parkedOut := false, forcedNoted := false }) j (some 2))
  rw [Dev.job, hjobs, ← Dev.job, Dev.job_setJob, if_pos rfl]
  exact ⟨rfl, rfl⟩

/-! ### The ring block -/

/-- The registers of the block at their reset values, the others as they were (R462). -/
theorem Dev.blockReset_reg (d : Dev) (f o : Nat) : (d.blockReset f).reg o = if fnBase f ≤ o ∧ o < fnBase f + 0x4000 then regReset o else d.reg o := by
  unfold Dev.reg Dev.blockReset
  dsimp only
  refine (Tab.get_filter_keys _ (fun j => !(decide (fnBase f ≤ j) && decide (j < fnBase f + 0x4000))) d.regs o).trans ?_
  by_cases h : fnBase f ≤ o ∧ o < fnBase f + 0x4000
  · rw [if_pos h, if_neg (by simp [h])]
  · rw [if_neg h, if_pos (by simpa only [Bool.not_eq_true', Bool.and_eq_false_iff, decide_eq_false_iff_not, Decidable.not_and_iff_or_not] using h)]

theorem Dev.blockReset_shadows (d : Dev) (f : Nat) (e) : e ∈ (d.blockReset f).shadows ↔ e ∈ d.shadows ∧ e.1 / 2 ^ 32 ≠ f := by
  rw [Dev.blockReset]
  simp

theorem Dev.blockReset_waitingCq (d : Dev) (f : Nat) : (d.blockReset f).waitingCq f = [] := Tab.get_set_same [] d.cqWait f []

/-- The function's long commands leave. -/
theorem Dev.blockReset_longs {d : Dev} {f : Nat} (h : ∀ x ∈ d.longs, x.fn ≠ f) : (d.blockReset f).longs = d.longs := by
  rw [Dev.blockReset]
  exact List.filter_eq_self.mpr (fun x hx => by simpa using h x hx)

/-! ### The reset of a client -/

variable {s : State} {c : Fin 32} {f : Fin 33}

/-- The jobs of a client that are not FREE. -/
def Dev.clientJobs (d : Dev) (c : Nat) : Tab Job := d.jobs.filter (fun e => e.2.state != .free && e.2.client == c)

/-- The jobs of a client that are not FREE are reset. -/
def Dev.resetClient (d : Dev) (c : Nat) : Dev := d.each (d.clientJobs c) (fun d e => d.resetJob e.1)

theorem Dev.resetClient_fns (d : Dev) (c : Nat) : (d.resetClient c).longs.map Long.fn = d.longs.map Long.fn :=
  Dev.each_keeps (fun d => d.longs.map Long.fn) (d.clientJobs c) (fun d e => d.resetJob e.1) (fun d e => d.resetJob_fns e.1) d

/-- Long commands of other functions stay those of other functions. -/
theorem Dev.resetClient_apart {d : Dev} {f : Nat} (h : ∀ x ∈ d.longs, x.fn ≠ f) (c : Nat) : ∀ x ∈ (d.resetClient c).longs, x.fn ≠ f := by
  intro x hx
  have hfn := List.mem_map_of_mem (f := Long.fn) hx
  rw [d.resetClient_fns c] at hfn
  obtain ⟨y, hy, hxy⟩ := List.mem_map.mp hfn
  rw [← hxy]
  exact h y hy

/-- The reset of a client's function: its jobs, its long commands, its block. -/
theorem exec_functionLevelReset_client (hf : f.val = c.val + 1) : exec (.functionLevelReset f) s = .next { s with dev :=
    (((s.dev.resetClient c).each ((s.dev.resetClient c).longs.filter (fun x => x.fn == c.val + 1)) (fun d x => d.longUndo x)).blockReset (c.val + 1)) } := by
  rw [show exec (.functionLevelReset f) s = execFunctionLevelReset f s from rfl, execFunctionLevelReset, onDev_next]
  dsimp only
  rw [hf, if_neg (Nat.succ_ne_zero _), Nat.add_sub_cancel]
  rfl

/-- A client without long commands: its jobs are reset, then its block. -/
theorem functionLevelReset_client (hf : f.val = c.val + 1) (hlongs : ∀ x ∈ s.dev.longs, x.fn ≠ c.val + 1) :
    exec (.functionLevelReset f) s = .next { s with dev := (s.dev.resetClient c).blockReset (c.val + 1) } := by
  have hnone : (s.dev.resetClient c).longs.filter (fun x => x.fn == c.val + 1) = [] :=
    List.filter_eq_nil_iff.mpr (fun x hx => by simpa using Dev.resetClient_apart hlongs c x hx)
  rw [exec_functionLevelReset_client hf, hnone, Dev.each_nil]

/-- A client without jobs has none to reset. -/
theorem Dev.resetClient_idle {d : Dev} (h : ∀ e ∈ d.jobs, e.2.client ≠ c) : d.resetClient c = d := by
  have hnone : d.clientJobs c = [] := List.filter_eq_nil_iff.mpr (fun e he => by simp [h e he])
  rw [Dev.resetClient, hnone, Dev.each_nil]

/-- A client's one job is LOADED and not started after its reset. -/
theorem Dev.resetClient_job {d : Dev} {j : Nat} {x : Job} (hjobs : d.clientJobs c = [(j, x)]) (hx : d.job j = x) :
    ((d.resetClient c).job j).state = .loaded ∧ ((d.resetClient c).job j).started = false := by
  have hmem : (j, x) ∈ d.clientJobs c := by
    rw [hjobs]
    exact List.mem_singleton_self _
  have hbusy : x.state ≠ .free := by
    have hkept := (List.mem_filter.mp hmem).2
    simp only [Bool.and_eq_true, bne_iff_ne] at hkept
    exact hkept.1
  rw [Dev.resetClient, hjobs, Dev.each_cons, Dev.each_nil]
  exact d.resetJob_loaded j (by rwa [hx])

end Sys2Proof.Machine
end

section
/-! SUPPORT. The SMBus sideband: the alerts that a write clears, and which writes are taken (R463, R464). -/

namespace Sys2Proof.Machine

theorem exec_powerLimit (w : Option (BitVec 16)) (pec : Bool) (s : State) : exec (.powerLimit w pec) s = execPowerLimit w pec s := rfl
theorem exec_alertStatus (w : Option Byte) (pec : Bool) (s : State) : exec (.alertStatus w pec) s = execAlertStatus w pec s := rfl

variable {s : State}

/-- A write is taken with its check byte, or where none is asked for (R463). -/
theorem Dev.pecOk_iff (d : Dev) (pec : Bool) : d.pecOk pec = true ↔ pec = true ∨ (d.fld (hifb + Off.SMB_CFG) Fl.SMB_CFG_PEC_REQ == 0) = true := by
  rw [Dev.pecOk, Bool.or_eq_true]

theorem Dev.pecOk_refused {d : Dev} (h : (d.fld (hifb + Off.SMB_CFG) Fl.SMB_CFG_PEC_REQ == 0) = false) : d.pecOk false = false := h

/-- A limit in range that is taken. -/
theorem powerLimit_set {v : BitVec 16} {p : Bool} (hpec : s.dev.pecOk p = true) (hlow : 150 ≤ v.toNat) (hhigh : v.toNat ≤ 750) :
    exec (.powerLimit (some v) p) s = .next { s with dev := s.dev.setFld (pwrb + Off.PWR_GOV_CFG) Fl.PWR_GOV_CFG_LIMIT v.toNat } := by
  rw [exec_powerLimit, execPowerLimit, onDev_next]
  dsimp only
  rw [if_pos ⟨hpec, hlow, hhigh⟩]

/-- A limit out of range, or a write that is not taken. -/
theorem powerLimit_refused {v : BitVec 16} {p : Bool} (h : s.dev.pecOk p = false ∨ v.toNat < 150 ∨ 750 < v.toNat) : exec (.powerLimit (some v) p) s = .next s := by
  have hrefused : ¬(s.dev.pecOk p = true ∧ 150 ≤ v.toNat ∧ v.toNat ≤ 750) := by
    rintro ⟨hpec, hlow, hhigh⟩
    rcases h with h | h | h
    · rw [h] at hpec
      exact absurd hpec (by decide)
    · omega
    · omega
  rw [exec_powerLimit, execPowerLimit, onDev_next]
  dsimp only
  rw [if_neg hrefused]

/-- The alerts after a write of 1 to the bits of `v`. -/
def clearedAlerts (a : Nat) (v : Byte) : Nat := (wd a &&& ~~~ v.setWidth 32).toNat

/-- The bits written are cleared, the others stay (R464). -/
theorem testBit_clearedAlerts {a : Nat} (ha : a < 2 ^ 32) (v : Byte) (n : Nat) : (clearedAlerts a v).testBit n = (a.testBit n && !v.toNat.testBit n) := by
  rw [clearedAlerts, BitVec.testBit_toNat, BitVec.testBit_toNat, BitVec.getLsbD_and, BitVec.getLsbD_not, BitVec.getLsbD_setWidth, wd, BitVec.getLsbD_ofNat]
  by_cases hn : n < 32
  · simp [hn]
  · rw [Nat.testBit_lt_two_pow (ha.trans_le (Nat.pow_le_pow_right (by decide) (Nat.le_of_not_lt hn)))]
    simp

theorem alertStatus_set {v : Byte} {p : Bool} (hpec : s.dev.pecOk p = true) :
    exec (.alertStatus (some v) p) s = .next { s with dev := { s.dev with alerts := clearedAlerts s.dev.alerts v } } := by
  rw [exec_alertStatus, execAlertStatus, onDev_next]
  dsimp only
  rw [if_pos hpec]
  rfl

theorem alertStatus_refused {v : Byte} {p : Bool} (hpec : s.dev.pecOk p = false) : exec (.alertStatus (some v) p) s = .next s := by
  rw [exec_alertStatus, execAlertStatus, onDev_next]
  dsimp only
  rw [hpec, if_neg (by decide)]

/-- DEVICE_STATE of a running device whose side 1 alone is contained. -/
theorem deviceState_contained (h0 : s.dev.contained 0 = false) (h1 : s.dev.contained 1 = true) (hready : s.dev.fld (hifb + Off.HIF_STATUS) Fl.HIF_STATUS_READY = 1)
    (hboot : s.dev.fld (bootb + Off.BOOT_STATUS) Fl.BOOT_STATUS_STATE = 1) : exec .deviceState s = .next { s with dev :=
      { s.dev with answer := [wd (s.dev.fld (pwrb + Off.PWR_DEVSTATE) Fl.PWR_DEVSTATE_DSTATE + 24)] } } := by
  rw [show exec .deviceState s = execDeviceState s from rfl, execDeviceState, onDev_next]
  dsimp only
  rw [h0, h1, hready, hboot]
  rfl

theorem exec_alertResponse (s : State) : exec .alertResponse s = execAlertResponse s := rfl

end Sys2Proof.Machine
end

section
namespace Sys2Proof.Claims

open Sys2Proof Sys2Proof.Machine

/-- Settles O39: the packets of a BAR2 access move counters alone, a host read's end and the unmasking of a vector are followed to the state they write, and a
reset keeps the jobs and long commands of other functions. -/
theorem hostInterface : Obligations.HostInterface := by
  unfold Obligations.HostInterface
  intro s
  dsimp only
  refine ⟨?bar2, ?unit, ?ring, ?vector, ?reset, rfl, ?state, rfl, rfl, fun _ => rfl, ?limit, fun _ => rfl, ?alerts, ?quiet, ?low⟩
  case bar2 =>
    intro c o bytes _
    refine ⟨fun h => ⟨bar2Read_past h, bar2Write_stays (.inl h)⟩, fun h hsize => ⟨bar2Read_unallotted h hsize, bar2Write_stays (.inr h)⟩, fun h0 hsize ha => ?_,
      fun h0 hsize hbytes ha => ?_⟩
    · have hword : o < s.dev.allot0 c := Nat.lt_of_lt_of_le (by omega) h0
      exact ⟨fun hdead => bar2Read_dead (by omega) ((Dev.bar2Dead_side0 hword (by omega) ha).trans hdead),
        fun hlive hue hce hcalm => bar2Read_clean h0 hsize ha hlive hue hce hcalm⟩
    · exact ⟨fun hdead => bar2Write_dead hbytes h0 hsize ha hdead, fun hlive hcalm => bar2Write_live hbytes h0 hsize ha hlive hcalm⟩
  case unit =>
    intro k x i t f data hxfer hflight hhost hlen
    refine ⟨?_, fun hold => ?_, fun hyoung => ?_⟩
    · rw [GivesDev, exec_hostReadComplete, Dev.hostRead_unit hxfer hflight hhost]
      dsimp only
      rw [if_pos rfl, ← hlen, List.take_left' rfl]
    · rw [GivesDev, exec_hostCompletionTimeout, Dev.mayTimeOut_unit hxfer hflight, decide_eq_true hold, if_pos rfl, Dev.hostRead_unit hxfer hflight hhost]
      rfl
    · rw [Stays, exec_hostCompletionTimeout, Dev.mayTimeOut_unit hxfer hflight, decide_eq_false (by omega), if_neg (by decide)]
  case ring =>
    intro c r data hon hoffered
    refine ⟨fun i hlen hword hbound => ?_, fun hbelow => ?_⟩
    · rw [GivesDev, exec_hostReadComplete, Dev.hostRead_ring hon hoffered hlen hword hbound]
    · rw [GivesDev, exec_hostCompletionTimeout, if_pos (show s.dev.mayTimeOut (.ring c r) = true from rfl), Dev.hostRead_ring_failed hon hoffered hbelow]
      rfl
  case vector =>
    intro f v
    exact ⟨msixUnmask_locked, msixUnmask_idle, msixUnmask_pending⟩
  case reset =>
    intro c hlongs
    refine ⟨fun hidle f hf => ⟨_, functionLevelReset_client hf hlongs, ?_⟩, fun j x hjobs hx f hf => ⟨_, functionLevelReset_client hf hlongs, ?_⟩⟩
    · dsimp only
      rw [Dev.resetClient_idle hidle, hf]
      exact ⟨fun o => s.dev.blockReset_reg _ o, fun e => s.dev.blockReset_shadows _ e, s.dev.blockReset_waitingCq _, rfl, Dev.blockReset_longs hlongs, rfl, rfl, rfl, rfl⟩
    · exact Dev.resetClient_job hjobs hx
  case state => exact deviceState_contained
  case limit =>
    exact fun v p => ⟨fun hpec hlow hhigh => powerLimit_set ((s.dev.pecOk_iff p).mpr hpec) hlow hhigh, fun h => powerLimit_refused (.inr h),
      fun hpec => powerLimit_refused (.inl (Dev.pecOk_refused hpec))⟩
  case alerts =>
    exact fun v p => ⟨fun hpec hsmall => ⟨_, alertStatus_set ((s.dev.pecOk_iff p).mpr hpec), rfl, testBit_clearedAlerts hsmall v⟩,
      fun hpec => alertStatus_refused (Dev.pecOk_refused hpec)⟩
  case quiet =>
    intro hquiet
    rw [GivesDev, exec_alertResponse, execAlertResponse, onDev_next, if_pos hquiet]
  case low =>
    intro hlow
    rw [GivesDev, exec_alertResponse, execAlertResponse, onDev_next, if_neg hlow]
    rfl

end Sys2Proof.Claims
end
